-- ==== Sys2Proof/Word.lean ====
section
/-!
DEFINITION. The word type of the register window (R9: every register is 32 bits wide) and the octet type.
-/
namespace Sys2Proof

/-- A register word as a requester reads or writes it (R9). -/
abbrev Word := BitVec 32

/-- One octet. -/
abbrev Octet := BitVec 8

end Sys2Proof
end

