-- ==== Sys2Proof/Syntax.lean ====
section
/-!
DEFINITION. The commands of the block, whole, with their operands: what arrives from outside with a command or an event is
its operand (a value written, a frame heard, a level measured), and everything the block holds itself is State.
-/
namespace Sys2Proof

/-- The requesters that have a latch set of their own (R27). -/
inductive Requester where
  | pcie | spi | cpu
  deriving DecidableEq, Repr

/-- The key part a requester contributes to the latch sets. -/
def Requester.code (r : Requester) : Nat :=
  match r with
  | .pcie => 0
  | .spi => 1
  | .cpu => 2

/-- Where key material comes from: octets that were loaded, octets or a P-256 scalar the device generated, or a link key drawn from a
master for an EUI-64 and an epoch (R352, R363; log entry 10). -/
inductive KeyT where
  | raw (octets : List Nat)
  | made (n len : Nat)
  | scalar (n : Nat)
  | link (master : KeyT) (eui epoch : Nat)
  deriving DecidableEq, Repr

/-- What a detector finds (R200, R204, R207): levels in 0.25 dBm, the instant at which the SFD ends in network ns, and, where
another lane covers the channel and found the same preamble, that lane, its channel and its power. -/
structure Preamble where
  lane : Nat
  chan : Nat
  modeBit : Nat
  fec : Bool := false
  power : Int
  sfdNs : Nat
  other : Option (Nat × Nat × Int) := none
  /-- the preamble began before the last symbol of the reception on the channel was decided (R217) -/
  overlaps : Bool := true
  /-- the carrier's offset from the device's present frequency, in ppb (R226) -/
  offset : Int := 0
  /-- of SUN FSK: the SFD set that the sender uses, and of a coded frame RSC and the interleaver (R203, R225) -/
  sfdSet : Nat := 0
  rsc : Bool := false
  interleave : Bool := false
  /-- shorter than the preamble that R203 needs -/
  short : Bool := false
  deriving DecidableEq, Repr

/-- A decoded PHR (R223, R226). -/
structure Phr where
  ctx : Nat
  len : Nat
  mcs : Nat := 0
  fcs2 : Bool := false
  whitened : Bool := false
  /-- the MR-OFDM header check sequence passes -/
  hcsOk : Bool := true
  /-- the SUN FSK mode-switch bit -/
  modeSwitch : Bool := false
  /-- the measured offset of the carrier from the device's present frequency, in ppb -/
  cfo : Int := 0
  /-- the mean level over the SFD, in 0.25 dBm -/
  rssi : Int := 0
  deriving DecidableEq, Repr

/-- The end of a reception (R229): the PSDU as it was received, without its FCS. -/
structure RxEnd where
  ctx : Nat
  fcsOk : Bool
  psdu : List Nat
  /-- PSDU octets streamed, the FCS counted -/
  octets : Nat
  sinr : Int := 0
  fecMetric : Nat := 0
  endNs : Nat
  deriving DecidableEq, Repr

/-- What a calibration run measures (R193). -/
structure CalMeas where
  tj : Int
  vco : Nat
  gain : Nat
  /-- the fractional-N compensation, and the DC offset of each lane of the group (R172) -/
  frac : Nat := 0
  dc : List Int := []
  deriving DecidableEq, Repr

/-- What start-up step 7 calibrates of a group beside its synthesiser (R172): the IQ balance of each lane and of the chain, and the chain's LO leakage
and power detector. -/
structure StepCal where
  laneIq : List Int := []
  chainIq : Int := 0
  leak : Int := 0
  detector : Int := 0
  deriving DecidableEq, Repr

/-- An event of the clock chain inside a start or a DOZE exit (R106): 1 XO, 2 TCXO, 3 LF; `lock` is a PLL of the idle bank, 0
PLL_A and 1 PLL_T. -/
inductive ClkEv where
  | good (src : Nat)
  | fail (src : Nat)
  | coarse (src count : Nat)
  | fine (src count : Nat)
  | lock (pll : Nat)
  deriving DecidableEq, Repr

/-- A capture window that ends: its trigger channel and the raw samples taken, one 32-bit word each (R232). -/
structure RawEnd where
  n : Nat
  samples : List Nat := []
  deriving DecidableEq, Repr

/-- What a start finds outside the block's own state (R75 to R87). -/
structure StartIn where
  /-- VIN and VBAK had been lost together (R122) -/
  aonLost : Bool := false
  /-- the DBG_EN strap as sampled at a cold start -/
  strap : Bool := false
  /-- the helper-data copies that MRAM does not read as they were written, and the bits that BCH decoding corrects, none where the PUF
  readout is uncorrectable (R78) -/
  helperBad : List Nat := []
  bch : Option Nat := some 0
  /-- the lowest failing granule and their number -/
  sramBad : Nat × Nat := (0xFFFF, 0)
  /-- corrected and uncorrectable MRAM words -/
  mram : Nat × Nat := (0, 0)
  /-- the known-answer tests that fail -/
  crypto : Nat := 0
  clocks : List ClkEv := []
  /-- the time in LIMP, in ms, when a crystal ends it (R126) -/
  limpMs : Nat := 0
  /-- the RC in Hz as last measured against a crystal within the start, and the AON cycles counted where DOZE ends with it (R102, R143) -/
  rcEst : Option Nat := none
  aonCount : Nat := 0
  /-- both bank headers are readable, and the inline-ECC pattern test passes (R81) -/
  bankHdr : Bool := true
  dramEcc : Bool := true
  /-- trained DRAM less its inline-ECC reservation, and flash, in MiB; 0 where there is none -/
  dramMib : Nat := 0
  flashMib : Nat := 0
  loopPass : Nat := 0x7FF
  bistUs : Nat := 0
  /-- the part that did not report alive: PART_TYPE and PART_INDEX -/
  silent : Option (Nat × Nat) := none
  /-- the calibrations of step 7 by group, and whether one failed -/
  cals : List (Nat × CalMeas) := []
  iq : List (Nat × StepCal) := []
  calFailed : Bool := false
  /-- contexts with uncorrectable errors -/
  ctxEcc : List Nat := []
  /-- the pocket copies whose CRC no longer passes: twice the pocket's number, plus 1 for the second copy (R350); and whether the last
  commit of the owner table was cut off (R367) -/
  pockBad : List Nat := []
  ownerCut : Bool := false
  /-- network time in ns at the ends of steps 3 to 7, and the ms from t0 to the end -/
  times : List Nat := []
  ms : Nat := 0
  deriving DecidableEq, Repr

/-- What a stitch boundary measures, and how far its periodic work comes (R22, R102, R174, R199, R398, R524): temperatures in °C,
supplies in mV and mW, noise floors by lane and channel in 0.25 dBm, the RC measurement in Hz, the AON period against the main source in 2^-32 ns (R143), storage errors of the tables as table,
index and kind (0 corrected, 1 uncorrectable, 2 shadow), the exact-match indices that a lookup hits in the very cycle in which the sweep tests them
(R395), and the items of each work that the budget leaves undone. -/
structure StitchIn where
  tj : List Int := []
  vinMv : Nat := 0
  vbakMv : Nat := 0
  pvinMw : Nat := 0
  floors : List (Nat × Nat × Int) := []
  rcEst : Option Nat := none
  aonPer : Option Nat := none
  fwdEcc : List (Nat × Nat × Nat) := []
  hits : List Nat := []
  left : List (Nat × Nat) := []
  pockBad : List Nat := []
  deriving DecidableEq, Repr

/-- A frame on the Seam as its receiver finds it (R470, R471): whether its FCS is right, and the octets that the TAG covers (octet 14 up to the octet
before TAG). -/
structure SeamOct where
  fcsOk : Bool
  octets : List Nat
  deriving DecidableEq, Repr
/-- Its TAG, and which of the frame's records the command delivers. -/
structure SeamEnd where
  tag : List Nat
  index : Nat := 0
  deriving DecidableEq, Repr
/-- A frame with its TAG. -/
structure SeamHdr extends SeamOct, SeamEnd where
  deriving DecidableEq, Repr

/-- What the fetch of a context finds (R295, R296): an uncorrectable error, and the record that DRAM holds where it is given. -/
structure FetchIn where
  ecc : Bool
  ctx : Option Nat := none
  deriving DecidableEq, Repr
/-- The random number that a backoff draws, and the energy of the channel at its end, in 0.25 dBm (R310). -/
structure CcaIn where
  draw : Nat
  level : Int
  deriving DecidableEq, Repr
/-- What a producer opens an item with (R409, R413, R418): the node it is for, and the octets it writes before it closes it. -/
structure OpenedBy where
  node : Nat
  data : List Nat := []
  deriving DecidableEq, Repr

/-- What an exit from a power state finds (R512, R518): how far a DOZE entry had come (0 before the shutdown of the domains, 1 after it,
2 complete), the AON cycles counted, the clock events, and the temperatures of the groups. -/
structure WakeIn where
  stage : Nat := 2
  aonCount : Nat := 0
  clocks : List ClkEv := []
  tj : List Int := []
  deriving DecidableEq, Repr

/-- An event that a crossing's source sends: the crossing, the value that a hold-and-flag crossing carries with it (R123, R125), and, where it wakes
the device, what the exit from DOZE finds. -/
structure XingEv where
  xing : Nat
  value : Nat := 0
  wake : WakeIn := {}
  deriving DecidableEq, Repr

/-- A transmit descriptor and the octets of its buffer (R547). -/
structure TxDesc where
  len : Nat
  queue : Nat
  prio : Nat
  last : Bool
  data : List Nat
  deriving DecidableEq, Repr


/-- The commands and events of the block: one constructor per row of the spec's table of operations and events. -/
inductive Instr where
  /-- REGISTER_WRITE (R10): A host or firmware write to a register that has no row of its own stores, ignores or discards the value according to its access code and the write rules. -/
  | registerWrite (rq : Requester) (off octets : Nat) (value : Word)
  /-- LATCH_READ (R27): A read of the lowest word of a multi-word register latches the whole value into the reader's latch set. -/
  | latchRead (rq : Requester) (off octets : Nat)
  /-- RC_COUNTER_READ (R29): A read of an RC counter published in the shadow bank returns the published value and subtracts it from the live count. -/
  | rcCounterRead (rq : Requester) (off octets : Nat)
  /-- STITCH_BOUNDARY (R139): Network time reaches the next stitch instant, so the stitch begins, counters are frozen and the periodic work of the stitch starts. -/
  | stitchBoundary (x : StitchIn)
  /-- BUDGET_CLOSE (R23): The periodic budget closes 240 µs into the stitch, and unfinished periodic work is stopped and carried into the next stitch. -/
  | budgetClose
  /-- VIN_GOOD (R75): VIN rises through its power-good threshold and the device runs the cold start sequence. -/
  | vinGood (x : StartIn)
  /-- RST_N_LOW (R98): RST_N held low for at least 10 µs causes a cold reset and start. -/
  | rstNLow (x : StartIn)
  /-- WARM_START (R98): A warm reset runs start steps 2 to 7 with DRAM held in self-refresh. -/
  | warmStart (x : StartIn)
  /-- WATCHDOG_EXPIRY (R98): The control-processor watchdog expires and causes a warm start, or SAFE on a second expiry within 60 s. -/
  | watchdogExpiry (again : Bool)
  /-- THERMAL_TRIP (R94): The 158 °C hardware comparator forces SAFE with item THERMAL in any state. -/
  | thermalTrip
  /-- SAFE_BEACON_PERIOD (R92): Once per second in SAFE the device sends a SAFE beacon on every live management path. -/
  | safeBeaconPeriod
  /-- DIAG_STATUS (R95): The diagnostic command returns GLB_STATE, SAFE_CAUSE, RESET_CAUSE and BOOT_COUNT. -/
  | diagStatus (irq : Bool)
  /-- READ_REPORT (R95): The diagnostic command returns the 64-octet self-test report. -/
  | readReport (irq : Bool)
  /-- READ_ATTEST (R370): The device signs and returns an attestation statement over the host nonce. -/
  | readAttest (irq : Bool)
  /-- LOAD_MANIFEST (R96): In SAFE a manifest chunk is checked and written into the bank not in use, and verified after the last chunk. -/
  | loadManifest (irq stored : Bool)
  /-- REBOOT (R97): The command performs a warm start 1 ms after DONE, optionally swapping to the loaded set first. -/
  | reboot (irq : Bool)
  /-- CONSOLE_STATUS (R541): The UART line status acts as DIAG_STATUS and answers with one line. -/
  | consoleStatus
  /-- CONSOLE_REPORT (R541): The UART line report acts as READ_REPORT and answers with the report in hexadecimal. -/
  | consoleReport
  /-- CONSOLE_REBOOT (R541): The UART line reboot acts as REBOOT with ARG0 0. -/
  | consoleReboot
  /-- CONSOLE_RD (R541): The UART line rd reads 1 to 16 words through the control processors' latch set. -/
  | consoleRd (off n : Nat)
  /-- CONSOLE_WR (R541): The UART line wr writes one word while UART_WR_EN is set, else answers DENIED. -/
  | consoleWr (off : Nat) (value : Word)
  /-- AMPLITUDE_GOOD (R106): A clock source's amplitude detector reports a good swing and its COARSE phase starts. -/
  | amplitudeGood (src : Nat)
  /-- QUAL_COARSE_DONE (R106): A COARSE measurement count completes and the source passes, fails or qualifies without FINE. -/
  | qualCoarseDone (src count ms : Nat)
  /-- QUAL_FINE_DONE (R106): A FINE measurement against the other crystal completes and the source passes or fails. -/
  | qualFineDone (src count ms : Nat)
  /-- QUAL_RETRY (R106): A FAILED source whose enable stays set is tried again from AMPLITUDE 10 ms later. -/
  | qualRetry (src : Nat)
  /-- CLOCK_STOPPED (R109): No edge of the main source within 4 RC cycles trips the clock monitor. -/
  | clockStopped
  /-- FREQ_CHECK (R109): The periodic COARSE measurement of the main source every 1,024 RC cycles may trip the monitor. -/
  | freqCheck (count ms : Nat)
  /-- PLL_UNLOCK (R109): A PLL of the active bank loses lock and trips the clock monitor. -/
  | pllUnlock (pll : Nat)
  /-- PLL_LOCK (R103): A PLL of the idle bank locks to its reference, allowing a held switch to proceed. -/
  | pllLock (pll ms : Nat)
  /-- TCXO_RETURN (R112): The TCXO has stayed qualified for RETURN_HOLD_MS and the domains return to it. -/
  | tcxoReturn
  /-- SRC_CTRL_WRITE (R129): A write of CKR_SRC_CTRL that clears the main source's enable starts an orderly switch. -/
  | srcCtrlWrite (value : Word)
  /-- GROUP_RESET (R122): A write to the group reset register puts both ends of the named reset group into reset. -/
  | groupReset (value : Word)
  /-- GROUP_RESET_RELEASE (R122): A reset group is released after at least 16 cycles and GRP_BUSY clears. -/
  | groupResetRelease (grp : Nat)
  /-- DOMAIN_WAKE_REQUEST (R124): An event for a gated domain raises a wake request and is delivered when the domain runs. -/
  | domainWakeRequest (xing : XingEv)
  /-- INCR_COMMIT (R131): A write of INCR_LO commits the staged INCR value if it is within range. -/
  | incrCommit (rq : Requester) (value : Word)
  /-- INCR_APPLY (R131): An accepted INCR takes effect at the first tick after its commit. -/
  | incrApply
  /-- STEP_COMMIT (R133): A write of STEP_FRAC commits a signed step to network time, or discards it. -/
  | stepCommit (rq : Requester) (value : Word)
  /-- STEP_APPLY (R133): The pending steps are added to network time once at the first tick after the commit. -/
  | stepApply
  /-- SET_COMMIT (R134): A write of SET_FRAC commits a new network time or discards it. -/
  | setCommit (rq : Requester) (value : Word)
  /-- SET_APPLY (R134): Network time is loaded at the first tick after a SET commit, discarding pending steps. -/
  | setApply
  /-- HOLDOVER_REQ (R138): A write of HOLDOVER_REQ puts the time core into holdover. -/
  | holdoverReq
  /-- HOLDOVER_TIMEOUT (R138): SERVO_WDOG stitches pass without a servo commit and the time core enters holdover. -/
  | holdoverTimeout
  /-- TS_FIFO_POP (R149): A read of TS_W0 pops the head timestamp record into the reader's latch set. -/
  | tsFifoPop (rq : Requester) (port : Nat)
  /-- TRIGGER_ARM (R150): Setting ARM arms a trigger channel, refusing or adjusting a passed or invalid target. -/
  | triggerArm (n : Nat) (value : Word)
  /-- TRIGGER_FIRE (R150): Network time reaches a trigger target and the channel drives its pin or starts a capture window. -/
  | triggerFire (n : Nat)
  /-- RAW_CAPTURE_END (R232): A raw-sample capture window has written its LEN × 1,024 samples. -/
  | rawCaptureEnd (n : RawEnd)
  /-- TIMER_ARM (R156): A write of ARM starts or restarts a timer channel and clears DISC. -/
  | timerArm (n : Nat)
  /-- TIMER_STOP (R156): A write of STOP stops a timer channel counting. -/
  | timerStop (n : Nat)
  /-- COUNT_WRITE (R161): A write of COUNT loads the channel's count. -/
  | countWrite (n : Nat) (value : Word)
  /-- COMPARE_WRITE (R155): A write of COMPARE arms compare on the channel. -/
  | compareWrite (n : Nat) (value : Word)
  /-- COMPARE_MATCH (R155): The count reaches COMPARE, MATCH sets and compare re-arms or disarms. -/
  | compareMatch (n : Nat)
  /-- ONESHOT_END (R156): A ONESHOT channel reaches END, stops and sets ENDED. -/
  | oneshotEnd (n : Nat)
  /-- CAPTURE_EDGE (R157): A filtered and prescaled capture edge stores the count or network time. -/
  | captureEdge (n : Nat) (level : Bool) (samples : Nat)
  /-- CAPTURE_READ (R158): A read of CAPTURE returns and consumes the held value. -/
  | captureRead (rq : Requester) (n : Nat)
  /-- LOCK_DETECTED (R169): A group's synthesiser locks and the group moves from LOCK to SYNTH. -/
  | lockDetected (g : Nat)
  /-- LOCK_TIMEOUT (R169): No lock within 60 µs moves the group to CAL. -/
  | lockTimeout (g : Nat)
  /-- CAL_COMPLETE (R169): A full calibration completes, results are stored and the group moves to SYNTH. -/
  | calComplete (g : Nat) (m : CalMeas)
  /-- CAL_FAIL (R179): A calibration run fails and is run once more, or the group goes to STANDBY with CAL_FAILED. -/
  | calFail (g : Nat) (tj : Int)
  /-- CAL (R193): The RFC command makes a calibration pending on the named groups, optionally forced. -/
  | cal (irq : Bool)
  /-- CAL_CANCEL (R193): The RFC command cancels calibrations made pending only by command. -/
  | calCancel (irq : Bool)
  /-- READ_CAL (R193): The RFC command returns a group's last calibration results. -/
  | readCal (irq : Bool)
  /-- COEX_REQ_ASSERT (R185): A coexistence set asserts COEX_REQ LEAD_US before the setup point of a burst's first frame. -/
  | coexReqAssert (id : Nat)
  /-- COEX_GRANT_LOST (R187): The grant is withdrawn while a carrier is sent, so it completes or all carriers abort. -/
  | coexGrantLost (set : Nat)
  /-- WAKE_PATTERN_MATCH (R190): The wake receiver matches pattern A or B and sets its flag, counter and wake request. -/
  | wakePatternMatch (rx : Nat) (x : WakeIn)
  /-- PREAMBLE_DETECTION (R204): A channel detector finds a preamble and asks the pool for a demodulator context. -/
  | preambleDetection (p : Preamble)
  /-- GAIN_STEP_DOWN (R209): Every 1 µs the lane steps its gain down when the peak exceeds the headroom. -/
  | gainStepDown (lane : Nat) (peak : Int)
  /-- GAIN_STEP_UP (R209): Every 16 µs a lane with no active reception steps its gain up when quiet. -/
  | gainStepUp (lane : Nat) (peak : Int)
  /-- GAIN_STEP_EFFECT (R210): A gain step reaches the converter and the mark is delivered to every active context. -/
  | gainStepEffect (lane : Nat)
  /-- PHR_DECODED (R223): RXP checks the decoded PHR and commits queue space or drops the frame. -/
  | phrDecoded (p : Phr)
  /-- SYNC_LOST (R231): The demodulator's lock indicator is lost for 32 symbols and the reception ends. -/
  | syncLost (ctx : Nat)
  /-- CAPTURE_SINR_LOSS (R220): Four SINR estimates in a row below threshold end the weaker reception with CAPTURE_LOST. -/
  | captureSinrLoss (ctx : Nat) (sinr : Int)
  /-- RECEPTION_END (R229): A reception's last symbol is decided, its trailer written, and SEC and MAC judge and act on the frame. -/
  | receptionEnd (r : RxEnd) (mramOk : Bool)
  /-- STEER_WINDOW_END (R227): At the end of a REF_WINDOW RXP computes a new steering target from reference-grade offsets. -/
  | steerWindowEnd
  /-- LANE_EN_WRITE (R198): A write of LANE_EN starts or stops a lane receiving, ending its receptions. -/
  | laneEnWrite (lane : Nat) (en : Bool)
  /-- READ_CHAN (R233): The RXP command returns per-channel figures of the last snapshot. -/
  | readChan (irq : Bool)
  /-- RXP_READ_CTX (R233): The RXP command returns the state of one demodulator context. -/
  | rxpReadCtx (irq : Bool)
  /-- KEY_POINT (R334): At T minus 200 µs SEC resolves the key, takes a frame counter and starts the seal. -/
  | keyPoint (id : Nat) (mramOk : Bool)
  /-- TAKE_POINT (R244): At T minus 160 µs TXP checks the transmit header, grants a carrier and the PSDU streams through SEC. -/
  | takePoint (id : Nat) (mramOk : Bool)
  /-- RX_TO_TX (R169): At T minus 48 µs the group begins RX to TX and blanks its lanes. -/
  | rxToTx (g : Nat)
  /-- TRANSMIT_SETUP_POINT (R171): At T minus 32 µs the synthesiser-ready check and coexistence grant decide whether the frame is sent. -/
  | transmitSetupPoint (id : Nat) (granted : Bool)
  /-- FEM_EARLY (R167): Pins in EARLY_MASK take their TX value LEAD_US before the driver ramp. -/
  | femEarly (g : Nat)
  /-- CARRIER_START (R245): The first preamble symbol of a frame, beacon or acknowledgement leaves RF_OUT at T. -/
  | carrierStart (id : Nat)
  /-- TRANSMISSION_END (R256): A frame's last symbol is sent, it ends OK and its acknowledgement wait or follow-up begins. -/
  | transmissionEnd (id : Nat)
  /-- FEM_TAIL_RELEASE (R167): Pins in HOLD_MASK release TAIL_US after the ramp-down ends. -/
  | femTailRelease (g : Nat)
  /-- CARRIERS_APPLY (R241): A new CARRIERS value takes effect at the first instant with no carrier on air. -/
  | carriersApply (chain : Nat)
  /-- DUTY_BUCKET_ROLL (R248): Every 40,000 stitches the duty tally moves to its next bucket. -/
  | dutyBucketRoll
  /-- TONE (R257): The TXP command sends a test tone on a chain in TEST. -/
  | tone (irq : Bool)
  /-- TONE_STOP (R257): The TXP command stops a running tone. -/
  | toneStop (irq : Bool)
  /-- TONE_END (R257): A tone reaches its set duration and ends. -/
  | toneEnd (chain : Nat)
  /-- WAKE_CALL (R257): The TXP command sends a host wake call and stays BUSY until it ends. -/
  | wakeCall (irq : Bool)
  /-- WAKE_CALL_END (R255): A wake call's keyed sequence ends and the command or payload follows. -/
  | wakeCallEnd
  /-- ALLOC (R273): The SCH command places COUNT cells in one column or none. -/
  | alloc (irq : Bool)
  /-- RECLAIM (R272): The SCH command frees an owner's cells of the named types. -/
  | reclaim (irq : Bool)
  /-- READ_CELL (R272): The SCH command returns one Weave cell. -/
  | readCell (irq : Bool)
  /-- WRITE_CELL (R272): The SCH command writes or frees one Weave cell. -/
  | writeCell (irq : Bool)
  /-- NODE_CELLS (R272): The SCH command counts a node's cells by kind. -/
  | nodeCells (irq : Bool)
  /-- PAIR_SET (R277): The SCH command enables or disables pair beacons on a column. -/
  | pairSet (irq : Bool)
  /-- CONTEXT_FETCH (R295): MAC fetches a node context from DRAM into the cache, evicting the least recently used. -/
  | contextFetch (node : Nat) (x : FetchIn)
  /-- ACK_WAIT_TIMEOUT (R311): A downlink frame's acknowledgement window closes unacknowledged and the frame is retried or dropped. -/
  | ackWaitTimeout (node : Nat)
  /-- CSMA_BACKOFF_EXPIRY (R310): A CSMA/CA backoff ends, the channel is assessed and the frame is sent or backs off again. -/
  | csmaBackoffExpiry (node : Nat) (x : CcaIn)
  /-- ADMIT (R300): The MAC command admits a node, writing its context and address entries. -/
  | nodeAdmit (irq : Bool)
  /-- READ_CTX (R318): The MAC command returns a quarter of a node context, latching it on quarter 0. -/
  | readCtx (irq : Bool)
  /-- WRITE_CTX (R319): The MAC command checks and writes host-writable context fields. -/
  | writeCtx (irq : Bool)
  /-- SUSPEND (R297): The MAC command suspends a node, freeing cells and discarding its downlink list. -/
  | suspend (irq : Bool)
  /-- RESUME (R297): The MAC command returns a suspended node to LOST or ADMITTED. -/
  | resume (irq : Bool)
  /-- RETIRE (R297): The MAC command retires a node and frees its cells, frames and key. -/
  | retire (irq : Bool)
  /-- CLEAR (R297): The MAC command empties a RETIRED context. -/
  | nodeClear (irq : Bool)
  /-- FIND (R316): The MAC command finds a node by EUI-64 or short address. -/
  | nodeFind (irq : Bool)
  /-- RESET_LINK (R320): The MAC command clears a node's link measurements and resets its rung. -/
  | resetLink (irq : Bool)
  /-- READ_COUNTER (R345): The SEC command returns a counter's NEXT, CEILING, epoch and parity. -/
  | readCounter (irq : Bool)
  /-- MAP_WRITE (R345): The SEC command writes a KEY_MAP entry. -/
  | mapWrite (irq : Bool)
  /-- MAP_READ (R345): The SEC command returns a KEY_MAP entry. -/
  | mapRead (irq : Bool)
  /-- SKIP_BLOCK (R345): The SEC command abandons a counter's block and reserves the next. -/
  | skipBlock (irq mramOk : Bool)
  /-- LOAD (R372): The KEY command loads a key into an EMPTY pocket as BASTED. -/
  | keyLoad (irq mramOk : Bool)
  /-- VERIFY (R358): The KEY command compares a host KCV and marks the pocket VERIFIED. -/
  | keyVerify (irq : Bool)
  /-- PROMOTE (R355): The KEY command schedules a verified pocket's promotion at the next boundary. -/
  | keyPromote (irq : Bool)
  /-- INVALIDATE (R361): The KEY command marks a pocket and all its descendants ORPHANED. -/
  | keyInvalidate (irq : Bool)
  /-- ORPHAN_ZEROISE (R361): At the next stitch boundary after INVALIDATE every marked key is zeroised. -/
  | orphanZeroise
  /-- RETIRE_AT_REACHED (R585): A RETIRED pocket's grace ends and, with no child naming its epoch, it is zeroised. -/
  | retireAtReached (pocket : Nat)
  /-- ERASE (R372): The KEY command zeroises a BASTED or zeroised ORPHANED pocket. -/
  | keyErase (irq : Bool)
  /-- READ_POCKET (R372): The KEY command returns a pocket record's first 32 octets and GEN. -/
  | readPocket (irq : Bool)
  /-- SET_NODE_EPOCH (R365): The KEY command raises the node-key epoch. -/
  | setNodeEpoch (irq : Bool)
  /-- REKEY_NODE (R366): The KEY command queues a key-update frame and records a pending rekey entry. -/
  | rekeyNode (irq : Bool)
  /-- DERIVE_CHECK (R364): The KEY command derives a link key afresh and returns its KCV. -/
  | deriveCheck (irq : Bool)
  /-- READ (R402): The FWD command returns one table entry. -/
  | fwdRead (irq : Bool)
  /-- WRITE (R403): The FWD command writes or frees one table entry at an index. -/
  | fwdWrite (irq : Bool)
  /-- INSERT (R386): The FWD command inserts an entry by cuckoo relocation or the stash. -/
  | fwdInsert (irq : Bool)
  /-- DELETE (R402): The FWD command frees the entry with the given key. -/
  | fwdDelete (irq : Bool)
  /-- SEARCH (R402): The FWD command finds an entry or runs the whole lookup decision. -/
  | fwdSearch (irq : Bool)
  /-- AGE_NOW (R396): The FWD command applies the aging test to one entry at once. -/
  | ageNow (irq : Bool)
  /-- REHASH_START (R389): The REHASH_STEP operation loads new seeds into the other set and starts a rehash. -/
  | rehashStart (irq : Bool)
  /-- REHASH_MOVE (R389): The REHASH_STEP operation re-inserts entries of COUNT buckets under the target set. -/
  | rehashMove (irq : Bool)
  /-- REHASH_FINISH (R389): The REHASH_STEP operation ends a rehash with the target set in force. -/
  | rehashFinish (irq : Bool)
  /-- REHASH_REVERT (R389): The REHASH_STEP operation makes the former seed set the target again. -/
  | rehashRevert (irq : Bool)
  /-- REFILTER (R390): The REHASH_STEP operation rebuilds the prefix filters one length per stitch. -/
  | refilter (irq : Bool)
  /-- LEARN_APPLY (R393): The learn engine takes one queued learn request and installs, updates, moves or refuses the entry. -/
  | learnApply
  /-- ITEM_OPEN (R413): A producer opens an item in a queue, which is judged and reserved or refused. -/
  | itemOpen (queue size prio : Nat) (x : OpenedBy)
  /-- ITEM_CLOSE (R413): A producer closes an item, setting LENGTH and freeing unused reservation. -/
  | itemClose (queue id : Nat) (data : List Nat) (aborted : Bool)
  /-- ITEM_TAKE (R416): A consumer takes the item its order presents. -/
  | itemTake (queue node ecc : Nat) (dram : Bool)
  /-- ITEM_RELEASE (R416): A consumer releases a taken item, freeing its words. -/
  | itemRelease (queue id : Nat)
  /-- ITEM_RETURN (R416): A consumer returns a taken item to the head of its order. -/
  | itemReturn (queue id : Nat)
  /-- FRONT_PUSH (R416): MAC pushes an item to the front of a node's list in a NODE queue. -/
  | frontPush (queue node : Nat) (data : List Nat)
  /-- ITEM_DROP_REST (R419): A consumer discards the rest of a taken item and releases it at once. -/
  | itemDropRest (queue id : Nat)
  /-- SPILL_READBACK (R411): A spilled cell is read back into the head ring when a head cell frees. -/
  | spillReadback (queue : Nat)
  /-- CONFIG_Q (R425): The QMG command sets a queue's consumer, thresholds, limits and marks. -/
  | configQ (irq : Bool)
  /-- READ_Q (R425): The QMG command returns a queue's settings and depths from one instant. -/
  | readQ (irq : Bool)
  /-- DROP_REST (R419): The QMG command discards the rest of an item taken by host software. -/
  | dropRest (irq : Bool)
  /-- FLUSH (R425): The QMG command discards every item of a queue that is neither taken nor open. -/
  | qFlush (irq : Bool)
  /-- SET_GROUP (R424): The QMG command sets a group to arrival or KY5020 priority order. -/
  | setGroup (irq : Bool)
  /-- EGRESS_DEQUEUE (R434): A port that can accept an item sends its root's staged item and the path restages. -/
  | egressDequeue (port : Nat)
  /-- GATE_ENTRY_CHANGE (R436): A gate list entry's interval ends or a cycle starts and the open gates change. -/
  | gateEntryChange (port : Nat)
  /-- GATE_TAKEOVER (R439): At the takeover instant the admin gate list is put in force at entry 0. -/
  | gateTakeover (port : Nat)
  /-- LATENCY_WINDOW_END (R442): A WIN_STITCHES window ends and its statistics become the last complete window. -/
  | latencyWindowEnd
  /-- SET_CHILD (R443): The TMG command sets a queue's or scheduler node's quantum and gate class. -/
  | setChild (irq : Bool)
  /-- READ_CHILD (R443): The TMG command returns a child's quantum, deficit and state. -/
  | readChild (irq : Bool)
  /-- GATE_WRITE (R443): The TMG command fills entries of a port's admin gate list. -/
  | gateWrite (irq : Bool)
  /-- GATE_COMMIT (R439): The TMG command stages the admin list and sets the takeover instant. -/
  | gateCommit (irq : Bool)
  /-- GATE_CANCEL (R443): The TMG command discards a staged list and clears SWITCH_PEND. -/
  | gateCancel (irq : Bool)
  /-- GATE_READ (R443): The TMG command returns an operational or admin gate entry. -/
  | gateRead (irq : Bool)
  /-- READ_LAT (R442): The TMG command returns a queue's last complete latency window. -/
  | readLat (irq : Bool)
  /-- SVC_CTRL (R447): The mailbox operation starts or stops services. -/
  | svcCtrl (irq late : Bool)
  /-- CTX_SET (R465): The mailbox operation sets a 6LoWPAN compression context. -/
  | svcCtxSet (irq late : Bool)
  /-- CTX_READ (R465): The mailbox operation returns a compression context. -/
  | svcCtxRead (irq late : Bool)
  /-- RPL_CFG (R453): The mailbox operation configures the RPL instance while the root is stopped. -/
  | rplCfg (irq late : Bool)
  /-- RPL_ROUTE (R465): The mailbox operation returns the route to a node. -/
  | rplRoute (irq late : Bool)
  /-- RPL_REPAIR (R453): The mailbox operation increments DODAGVersionNumber and resets Trickle. -/
  | rplRepair (irq late : Bool)
  /-- REG_READ (R465): The mailbox operation returns a registration. -/
  | regRead (irq late : Bool)
  /-- REG_REMOVE (R465): The mailbox operation removes a registration. -/
  | regRemove (irq late : Bool)
  /-- IMG_WRITE (R458): The mailbox operation writes a chunk into an image slot. -/
  | imgWrite (irq late : Bool)
  /-- IMG_CLOSE (R458): The mailbox operation checks an image's SHA-256 and stamps the slot. -/
  | imgClose (irq late : Bool)
  /-- IMG_ERASE (R465): The mailbox operation erases an image slot. -/
  | imgErase (irq late : Bool)
  /-- CAMP_START (R461): The mailbox operation starts an image campaign on a band. -/
  | campStart (irq late : Bool)
  /-- CAMP_STATUS (R465): The mailbox operation returns a campaign's phase and counts. -/
  | campStatus (irq late : Bool)
  /-- CAMP_STOP (R461): The mailbox operation ends a campaign with ABORTED. -/
  | campStop (irq late : Bool)
  /-- CAMP_RESULT (R465): The mailbox operation returns per-target results of a campaign. -/
  | campResult (irq late : Bool)
  /-- POLL (R464): The mailbox operation returns the outcome of a ticket. -/
  | svcPoll (irq fin : Bool)
  /-- MAILBOX_TIMEOUT (R464): A SUBMIT not finished within 1 s gets a BUSY response with a ticket written by hardware. -/
  | mailboxTimeout
  /-- TICKET_EXPIRY (R464): A ticket not polled is freed 60 s after completion. -/
  | ticketExpiry (ticket : Nat)
  /-- DAO (R454): The RPL root judges a DAO and sets, clears or refuses the node's parent. -/
  | dao
  /-- DIS (R453): A DIS resets Trickle when multicast or queues a unicast DIO. -/
  | dis
  /-- TRICKLE_TIMER (R453): The Trickle timer fires and the root sends a DIO in BROADCAST cells. -/
  | trickleTimer
  /-- ROUTE_LIFETIME_EXPIRY (R454): A route lifetime ends without a refreshing DAO and PARENT becomes none. -/
  | routeLifetimeExpiry
  /-- NEIGHBOR_SOLICITATION (R456): An NS with EARO from a node registers an address and is answered by NA. -/
  | neighborSolicitation
  /-- EDAR (R456): A relayed EDAR registers an address and is answered by EDAC. -/
  | edar
  /-- REGISTRATION_EXPIRY (R457): A registration's lifetime passes and it is removed with its entry. -/
  | registrationExpiry
  /-- FRAGMENT (R450): A 6LoWPAN fragment is judged into a reassembly context and completes or discards it. -/
  | fragment
  /-- REASSEMBLY_TIMEOUT (R450): An incomplete reassembly context is discarded after REASM_TIMEOUT_S. -/
  | reassemblyTimeout
  /-- ADAPTATION_DOWNLINK (R451): A packet on port 2 is compressed, source-routed, fragmented and placed in a downlink list. -/
  | adaptationDownlink
  /-- IMG_STATUS (R460): A node's image status report is merged into its campaign. -/
  | imgStatus
  /-- CAMPAIGN_COLLECT_END (R461): The COLLECTING phase ends and a new round starts or the campaign ends. -/
  | campaignCollectEnd (camp : Nat)
  /-- PAIR (R489): The SEA command runs the HELLO exchange with the partner. -/
  | pair (irq : Bool)
  /-- CLAIM (R489): The SEA command claims the ACTIVE role. -/
  | claim (irq : Bool)
  /-- HANDOVER (R488): The SEA command hands the district to the STANDBY through a gap slot. -/
  | handover (irq : Bool)
  /-- RESYNC (R480): The SEA command requests a bulk pass. -/
  | resync (irq : Bool)
  /-- HELLO (R477): A received HELLO with valid TAG is checked against R59 and pairs the devices. -/
  | hello (f : SeamOct) (e : SeamEnd)
  /-- HEARTBEAT (R482): A received heartbeat updates the partner's role, epoch, mirror lag and miss run. -/
  | heartbeat (f : SeamOct) (e : SeamEnd)
  /-- CONTEXT_RECORD (R478): A mirrored node context is applied on the STANDBY. -/
  | contextRecord (f : SeamOct) (tag : List Nat) (index : Nat)
  /-- CELLS_RECORD (R478): Mirrored Weave cells are applied on the STANDBY. -/
  | cellsRecord (f : SeamOct) (tag : List Nat) (index : Nat)
  /-- POCKET_RECORD (R481): A mirrored pocket is unwrapped, re-wrapped locally and committed. -/
  | pocketRecord (fcsOk : Bool) (octets tag : List Nat) (index : Nat)
  /-- CEILING_RECORD (R342): A mirrored counter ceiling is committed keeping the higher value. -/
  | ceilingRecord (f : SeamOct) (tag : List Nat) (index : Nat)
  /-- ROUTE_RECORD (R478): A mirrored route is applied on the STANDBY. -/
  | routeRecord (f : SeamOct) (tag : List Nat) (index : Nat)
  /-- REG_RECORD (R457): A mirrored registration is applied or removed with its entry. -/
  | regRecord (f : SeamOct) (tag : List Nat) (index : Nat)
  /-- KEYSTATE_RECORD (R478): The mirrored node epoch and owner table are applied. -/
  | keystateRecord (f : SeamOct) (e : SeamEnd)
  /-- CONFIG_RECORD (R470): Mirrored pair-beacon, compression and RPL settings are applied. -/
  | configRecord (f : SeamOct) (e : SeamEnd)
  /-- BULK_MARK_RECORD (R480): A bulk pass start or end mark moves the STANDBY's mirror state. -/
  | bulkMarkRecord (f : SeamOct) (e : SeamEnd)
  /-- HANDOVER_RECORD (R488): The STANDBY receives the handover slot and epoch and shows HO_READY. -/
  | handoverRecord (f : SeamOct) (e : SeamEnd)
  /-- SEAM_RETRANSMIT (R471): A sequenced frame unacknowledged for 2 stitches is sent again with all later frames. -/
  | seamRetransmit
  /-- SEAM_BLOCK_LOCK (R469): The Seam lane gains or loses block lock. -/
  | seamBlockLock (up : Bool)
  /-- CLAIM_IN_SAMPLE (R484): 12 µs into a claim CLAIM_IN is sampled and the claim completes or is abandoned. -/
  | claimInSample
  /-- CLAIM_RETRY (R484): An abandoned claim is tried again after 1 or 4 stitches. -/
  | claimRetry
  /-- CLAIM_IN_CHANGE (R485): A filtered new level on CLAIM_IN is accepted. -/
  | claimInChange (level : Bool)
  /-- LISTEN_TIMEOUT (R476): The listen timer expires and the device claims or keeps listening. -/
  | listenTimeout
  /-- SSYNC_EDGE (R473): A rising edge on SSYNC_IN is stamped and SKEW_NS updated. -/
  | ssyncEdge (skew : Int)
  /-- HANDOVER_SWITCH (R488): At the prefetch of slot S the ACTIVE becomes STANDBY and the partner claims. -/
  | handoverSwitch
  /-- INSTALL (R498): The UPD command writes a bundle chunk into the other bank and verifies it after the last chunk. -/
  | updInstall (irq stored : Bool)
  /-- ACTIVATE (R501): The UPD command stages a new set for activation. -/
  | updActivate (irq : Bool)
  /-- STAGING_COMPLETE (R502): Staging ends and the device chooses the pause start. -/
  | stagingComplete (code : Nat)
  /-- PAUSE_START (R503): At t0 the radios go silent and the control processors stop. -/
  | pauseStart
  /-- ACTIVATION_BOUNDARY (R503): At the next stitch the set is committed with TRIAL and the new Pattern applied. -/
  | activationBoundary
  /-- MICROCODE_LOADED (R503): The DSP microcode is loaded from its staged copy. -/
  | microcodeLoaded
  /-- IMAGE_ALIVE (R503): A control-processor image reports alive. -/
  | imageAlive (cpu : Nat)
  /-- PAUSE_END (R503): Radio service resumes once every image is alive and every calibration done. -/
  | pauseEnd (us : Nat)
  /-- ACTIVATION_TIMEOUT (R504): At t0 plus 40 ms with an image or calibration missing the set reverts. -/
  | activationTimeout (ptype pindex us : Nat)
  /-- CANCEL (R507): The UPD command cancels an activation in STAGING or WAITING. -/
  | updCancel (irq : Bool)
  /-- READ_BANK (R507): The UPD command returns a bank's state and manifest figures. -/
  | readBank (irq : Bool)
  /-- READ_PART (R507): The UPD command returns one manifest part entry. -/
  | readPart (irq : Bool)
  /-- REVERT (R505): The UPD command swaps back to the previous set and warm starts. -/
  | updRevert (irq : Bool)
  /-- PLANNED_EXIT (R515): The planned exit time arrives and the device leaves its power state. -/
  | plannedExit (x : WakeIn)
  /-- DOZE_RESTORE_COMPLETE (R513): The remaining DOZE image is restored and waiting queue and table operations proceed. -/
  | dozeRestoreComplete (bad : List (Nat × Nat))
  /-- SPI_CS_N_WAKE (R517): SPI_CS_N driven low ends DOZE. -/
  | spiCsNWake (x : WakeIn)
  /-- VIN_LOST_CONDITION (R521): VIN falls or rises out of range for 10 µs, causing battery-backed operation or a brown-out reset. -/
  | vinLostCondition (vin vbak : Nat)
  /-- VIN_GOOD_HOLD (R522): VIN good for 10 ms ends battery-backed operation. -/
  | vinGoodHold (ms : Nat)
  /-- VBAK_GOOD (R521): VBAK rises through 2.65 V and becomes usable. -/
  | vbakGood (mv : Nat)
  /-- VBAK_FALL (R523): VBAK falls through 2.55 V and in battery-backed operation the device powers down. -/
  | vbakFall (mv : Nat)
  /-- PCIE_HOT_RESET (R535): A PCIe hot reset, function-level reset or PERST_N resets the PCIE group and disables rings and MSI-X. -/
  | pcieHotReset (kind : Nat)
  /-- TRST_N (R122): JTAG TRST_N resets the JTAG group. -/
  | trstN
  /-- SPI_READ (R540): An SPI READ frame returns words from ascending offsets after a ready octet. -/
  | spiRead (addr octets : Nat)
  /-- SPI_WRITE (R539): An SPI WRITE frame writes each word when its fourth octet arrives. -/
  | spiWrite (addr : Nat) (data : List Nat)
  /-- SPI_STATUS (R539): An SPI STATUS frame returns readiness, frame error and interrupt state. -/
  | spiStatus
  /-- GLB_STATE_READ (R538): A read of GLB_STATE releases HOST_IRQ_N asserted by a SAFE beacon. -/
  | glbStateRead (rq : Requester)
  /-- INTERRUPT_HOLDOFF (R537): A moderated source fires when HOLDOFF_US passes since its first event. -/
  | interruptHoldoff (vector : Nat)
  /-- NOTICE_RING_ENABLE (R89): Setting NTC EN writes the early buffer to the ring in order. -/
  | noticeRingEnable (rq : Requester) (value : Word)
  /-- RING_ENABLE (R551): Setting a host ring's EN enables it and sets HEAD and TAIL to 0. -/
  | ringEnable (rq : Requester) (tx : Bool) (ring : Nat) (value : Word)
  /-- RX_RING_POST (R546): Host software advances a receive ring's TAIL to post buffers. -/
  | rxRingPost (rq : Requester) (ring tail : Nat) (descs : List (Nat × Nat))
  /-- HOST_RX_DELIVERY (R546): An item of a HOST queue is written into posted buffers and released. -/
  | hostRxDelivery (ring : Nat)
  /-- TX_RING_POST (R547): Host software advances a transmit ring's TAIL and each chain is judged and pushed. -/
  | txRingPost (rq : Requester) (ring tail : Nat) (descs : List TxDesc)
  /-- MGMT_READ (R548): An authenticated in-band READ request returns register words. -/
  | mgmtRead
  /-- MGMT_WRITE (R548): An authenticated in-band WRITE request writes register words. -/
  | mgmtWrite
  /-- MGMT_SUBMIT (R548): An authenticated in-band SUBMIT request carries an SVC mailbox request. -/
  | mgmtSubmit (late : Bool)
  /-- MGMT_NOTICES (R548): An authenticated in-band NOTICES request returns records from a DRAM ring. -/
  | mgmtNotices
  /-- ETH_RX_FRAME (R549): A frame arrives on an Ethernet port and is sorted to management, PTP, FWD or the other queue. -/
  | ethRxFrame (port : Nat) (frame : List Nat) (fcsOk : Bool) (sfd : Nat)
  /-- ETH_LINK_CHANGE (R549): An Ethernet port's link goes up or down. -/
  | ethLinkChange (port : Nat) (up : Bool) (speed : Nat) (an : Bool)
  /-- DEBUG_ENABLE (R553): The DBG command sets DEBUG_REQ and warm starts with the test root. -/
  | debugEnable (irq : Bool)
  /-- DEBUG_DISABLE (R553): The DBG command clears DEBUG_REQ and warm starts. -/
  | debugDisable (irq : Bool)
  /-- AMPLITUDE_FAIL (R106): A clock source whose amplitude detector has not reported a good swing within its start-up time is marked FAILED. -/
  | amplitudeFail (src : Nat)
  /-- EVENT_INPUT_EDGE (R153): A rising edge of the event source selected by EVT_SRC adds 1 to a timer channel clocked from its event input. -/
  | eventInputEdge (src : Nat)
  /-- PCIE_LINK_CHANGE (R534): The PCIe link trains up or goes down, which changes LINK_UP, WIDTH and SPEED and the availability of host memory rings. -/
  | pcieLinkChange (up : Bool) (width speed : Nat)
  /-- PCIE_CONFIG_WRITE (R534): A configuration write changes bus mastering, MSI-X enable or the D0/D3hot power state, and D3hot stops bus mastering and MSI-X messages. -/
  | pcieConfigWrite (busMaster d3hot msixEn : Bool) (mask : Nat)
  /-- UNKNOWN_COMMAND_OCTET (R540): An SPI frame whose command octet is unknown is a frame error that sets FRAME_ERR and increments SPI_FRAME_ERR. -/
  | unknownCommandOctet
  /-- CONSOLE_LINE_TOO_LONG (R541): A UART line longer than 80 characters is discarded and answered ERR len. -/
  | consoleLineTooLong
  deriving DecidableEq, Repr

end Sys2Proof
end

