-- ==== Sys2Proof/Decode.lean ====
section
/-!
DEFINITION. The block decodes no words: the spec's table of operations and events gives no row any bits.
-/
namespace Sys2Proof

/-- The command a word spells by the table's bits: none, for the table gives no row bits. -/
def decodeTableWord (nbits w : Nat) : Option Instr :=
  match nbits, w with
  | _, _ => none

end Sys2Proof
end

