-- ==== Sys2Proof/Machine/Bits.lean ====
section
/-!
DEFINITION. Bit fields, octet order (R7: little-endian), signed values and the two CRCs the spec names, over natural numbers.
-/
namespace Sys2Proof

/-- Bits `lo + w - 1 : lo` of a number. -/
def bits (n lo w : Nat) : Nat := n / 2 ^ lo % 2 ^ w

/-- Bit `i` of a number. -/
def bit (n i : Nat) : Bool := n / 2 ^ i % 2 == 1

/-- A Bool as a bit. -/
def b2n (x : Bool) : Nat := if x then 1 else 0

/-- A number with bit `i` set. -/
def setBit (n i : Nat) : Nat := if bit n i then n else n + 2 ^ i

/-- A number with bit `i` clear. -/
def clrBit (n i : Nat) : Nat := if bit n i then n - 2 ^ i else n

/-- A number with bits `lo + w - 1 : lo` replaced. -/
def putBits (n lo w v : Nat) : Nat := n - bits n lo w * 2 ^ lo + v % 2 ^ w * 2 ^ lo

/-- Bit-wise union and intersection, and the bits of the first that the second lacks. -/
def orN (a b : Nat) : Nat := a ||| b
def andN (a b : Nat) : Nat := a &&& b
def xorN (a b : Nat) : Nat := a ^^^ b
def andNot (a b : Nat) : Nat := a - (a &&& b)

/-- The number of set bits among the lowest `w`. -/
def popCount (n w : Nat) : Nat :=
  match w with
  | 0 => 0
  | k + 1 => n % 2 + popCount (n / 2) k

/-- The lowest set bit among the lowest `w`, counted from `i`. -/
def lowBit? (n w i : Nat) : Option Nat :=
  match w with
  | 0 => none
  | k + 1 => if n % 2 = 1 then some i else lowBit? (n / 2) k (i + 1)

/-- A `w`-bit two's complement number. -/
def toS (n w : Nat) : Int := if n % 2 ^ w < 2 ^ (w - 1) then (n % 2 ^ w : Nat) else ((n % 2 ^ w : Nat) : Int) - (2 ^ w : Nat)

/-- An integer as `w`-bit two's complement. -/
def ofS (i : Int) (w : Nat) : Nat := (i % ((2 ^ w : Nat) : Int)).toNat

/-- An integer held between two bounds. -/
def clampI (lo hi i : Int) : Int := if i < lo then lo else if hi < i then hi else i

/-- A number rounded up in division. -/
def cdiv (a b : Nat) : Nat := (a + b - 1) / b

/-- Saturating addition below `2 ^ w` (the counters of every block). -/
def satAdd (w a b : Nat) : Nat := if a + b < 2 ^ w then a + b else 2 ^ w - 1

/-- The `n` octets of a number, least significant first (R7). -/
def leBytes (v n : Nat) : List Nat :=
  match n with
  | 0 => []
  | k + 1 => v % 256 :: leBytes (v / 256) k

/-- The number a list of octets spells, least significant first (R7). -/
def leNat (l : List Nat) : Nat :=
  match l with
  | [] => 0
  | b :: t => b % 256 + 256 * leNat t

/-- The number a list of octets spells, most significant first. -/
def beNat (l : List Nat) : Nat := l.foldl (fun a b => a * 256 + b % 256) 0

/-- The `n` octets of a number, most significant first. -/
def beBytes (v n : Nat) : List Nat := (leBytes v n).reverse

/-- `n` octets of a record from an offset. -/
def slice (l : List Nat) (off n : Nat) : List Nat := (l.drop off).take n

/-- The little-endian number in `n` octets of a record from an offset. -/
def fldLE (l : List Nat) (off n : Nat) : Nat := leNat (slice l off n)

/-- A record with the octets from an offset replaced. -/
def splice (l : List Nat) (off : Nat) (x : List Nat) : List Nat := l.take off ++ x ++ l.drop (off + x.length)

/-- The `n` 32-bit words of a record. -/
def toWords (l : List Nat) (n : Nat) : List Nat :=
  match n with
  | 0 => []
  | k + 1 => leNat (l.take 4) :: toWords (l.drop 4) k

/-- The octets of a list of 32-bit words. -/
def ofWords (l : List Nat) : List Nat :=
  match l with
  | [] => []
  | w :: t => leBytes w 4 ++ ofWords t

/-- `true` at every place of a list. -/
def allZero (l : List Nat) : Bool := l.all (· == 0)

/-- One bit step of a reflected CRC with the reflected polynomial `poly`. -/
def crcBit (poly c : Nat) : Nat := if c % 2 = 1 then (c / 2) ^^^ poly else c / 2

/-- One octet of a reflected CRC. -/
def crcOctet (poly c b : Nat) : Nat :=
  crcBit poly (crcBit poly (crcBit poly (crcBit poly (crcBit poly (crcBit poly (crcBit poly (crcBit poly ((c ^^^ b)))))))))

/-- A reflected CRC over octets from a start value, not inverted at the end. -/
def crcRun (poly init : Nat) (l : List Nat) : Nat := l.foldl (crcOctet poly) init

/-- CRC-32 of IEEE 802.3, as records and commit words carry it. -/
def crc32 (l : List Nat) : Nat := (crcRun 0xEDB88320 0xFFFFFFFF l) ^^^ 0xFFFFFFFF

end Sys2Proof
end

