-- ==== Sys2Proof/Machine/Notices.lean ====
section
/-!
DEFINITION. The source IDs (R17), the notice codes of every chapter's notice table, and the severity a code fixes (R543).
-/
namespace Sys2Proof

/-! Source IDs (R17) -/
namespace Src
abbrev GLB : Nat := 0x3F
abbrev CKR : Nat := 0x01
abbrev PWR : Nat := 0x02
abbrev TMR : Nat := 0x03
abbrev TIM : Nat := 0x04
abbrev RFC : Nat := 0x08
abbrev WUR : Nat := 0x09
abbrev RXP : Nat := 0x0A
abbrev TXP : Nat := 0x0B
abbrev MAC : Nat := 0x10
abbrev SCH : Nat := 0x11
abbrev SEC : Nat := 0x14
abbrev KEY : Nat := 0x15
abbrev FWD : Nat := 0x18
abbrev QMG : Nat := 0x1C
abbrev TMG : Nat := 0x1D
abbrev ETH : Nat := 0x20
abbrev SEA : Nat := 0x22
abbrev UPD : Nat := 0x24
abbrev SVC : Nat := 0x26
abbrev HIF : Nat := 0x28
abbrev DBG : Nat := 0x30
end Src

/-! Notice codes -/
namespace N
abbrev BUDGET_SLIP : Nat := 0x0F00
abbrev POLICY_OVERRIDDEN : Nat := 0x0F01
abbrev STRUCT_REJECT : Nat := 0x3F10
abbrev SETTING_RESET : Nat := 0x3F11
abbrev SAFE_BEACON : Nat := 0x3F20
abbrev READY : Nat := 0x3F21
abbrev SAFE_ENTERED : Nat := 0x3F22
abbrev NOTICE_LOST : Nat := 0x3F30
abbrev EARLY_LOST : Nat := 0x3F31
abbrev SRC_QUALIFIED : Nat := 0x0101
abbrev SRC_FAILED : Nat := 0x0102
abbrev CLK_SWITCH : Nat := 0x0103
abbrev LIMP_ENTER : Nat := 0x0104
abbrev LIMP_EXIT : Nat := 0x0105
abbrev XING_OVERRUN : Nat := 0x0106
abbrev CLK_DISAGREE : Nat := 0x0107
abbrev VIN_LOST : Nat := 0x0201
abbrev VIN_RESTORED : Nat := 0x0202
abbrev VBAK_LOW : Nat := 0x0203
abbrev GOV_STEP : Nat := 0x0204
abbrev TJ_HIGH : Nat := 0x0205
abbrev TMR_EVENT : Nat := 0x0301
abbrev TIME_STEP : Nat := 0x0401
abbrev TIME_DISCONTINUITY : Nat := 0x0402
abbrev HOLDOVER : Nat := 0x0403
abbrev HOLDOVER_END : Nat := 0x0404
abbrev TS_OVERRUN : Nat := 0x0405
abbrev CAL_DONE : Nat := 0x0801
abbrev LOCK_FAIL : Nat := 0x0802
abbrev TX_LATE : Nat := 0x0803
abbrev COEX_DENY : Nat := 0x0804
abbrev TRIM_LIMIT : Nat := 0x0805
abbrev WUR_MATCH : Nat := 0x0901
abbrev POOL_EXHAUSTED : Nat := 0x0A01
abbrev STEER_STARVED : Nat := 0x0A02
abbrev TARGET_CLAMPED : Nat := 0x0A03
abbrev DUTY_LIMIT : Nat := 0x0B01
abbrev MUTE_ABORT : Nat := 0x0B02
abbrev NODE_JOINED : Nat := 0x1001
abbrev JOIN_TIMEOUT : Nat := 0x1002
abbrev RETRY_EXHAUSTED : Nat := 0x1003
abbrev CTX_ECC : Nat := 0x1004
abbrev CAL_FORCED : Nat := 0x1101
abbrev NODE_LOST : Nat := 0x1102
abbrev NODE_RESYNC : Nat := 0x1103
abbrev NO_BEACON : Nat := 0x1104
abbrev PAIR_EPOCH : Nat := 0x1105
abbrev WAKE_RUN_FAIL : Nat := 0x1106
abbrev SLOT_SKIPPED : Nat := 0x1107
abbrev FC_LOW : Nat := 0x1401
abbrev FC_EXHAUSTED : Nat := 0x1402
abbrev SEAL_KEY_FAIL : Nat := 0x1403
abbrev CEIL_FAULT : Nat := 0x1404
abbrev KEY_PROMOTED : Nat := 0x1501
abbrev KEY_ORPHANED_SET : Nat := 0x1502
abbrev REKEY_FAIL : Nat := 0x1503
abbrev KEY_RECOVERED : Nat := 0x1504
abbrev POCKET_LOST : Nat := 0x1505
abbrev REHASH_REQUEST : Nat := 0x1801
abbrev MOVED : Nat := 0x1802
abbrev FLAP_HELD : Nat := 0x1803
abbrev LEARN_OVERFLOW : Nat := 0x1804
abbrev REHASH_DONE : Nat := 0x1805
abbrev ENTRY_LOST : Nat := 0x1806
abbrev WATERMARK : Nat := 0x1C01
abbrev QUEUE_ECC : Nat := 0x1C02
abbrev GATE_SWITCH : Nat := 0x1D01
abbrev GATE_LATE : Nat := 0x1D02
abbrev GATE_TOO_LONG : Nat := 0x1D03
abbrev PAIRED : Nat := 0x2201
abbrev PAIR_MISMATCH : Nat := 0x2202
abbrev ROLE_CHANGE : Nat := 0x2203
abbrev MIRROR_STATE : Nat := 0x2204
abbrev SEAM_DOWN : Nat := 0x2205
abbrev NO_MIRROR : Nat := 0x2206
abbrev PARTNER_ABSENT : Nat := 0x2207
abbrev PAIR_KEY_MISSING : Nat := 0x2208
abbrev SKEW_ALARM : Nat := 0x2209
abbrev DUAL_ACTIVE : Nat := 0x220A
abbrev PATTERN_REJECT : Nat := 0x2401
abbrev PATTERN_FALLBACK : Nat := 0x2402
abbrev BANK_FALLBACK : Nat := 0x2403
abbrev INSTALLED : Nat := 0x2404
abbrev ACT_PLANNED : Nat := 0x2405
abbrev ACTIVATED : Nat := 0x2406
abbrev REVERTED : Nat := 0x2407
abbrev REASM_FULL : Nat := 0x2601
abbrev NO_ROUTE : Nat := 0x2602
abbrev DAO_LOOP : Nat := 0x2603
abbrev CELL_REALLOC_FAIL : Nat := 0x2604
abbrev REG_DUPLICATE : Nat := 0x2605
abbrev CAMP_END : Nat := 0x2606
abbrev MGMT_AUTH_FAIL : Nat := 0x2607
abbrev RING_ERR : Nat := 0x2801
abbrev PCIE_RESET : Nat := 0x2802
end N

/-- The CRITICAL notices (R543). -/
def critCodes : List Nat :=
  [N.SAFE_ENTERED, N.SAFE_BEACON, N.LIMP_ENTER, N.VIN_LOST, N.VBAK_LOW, N.TJ_HIGH, N.DUAL_ACTIVE, N.FC_EXHAUSTED]
/-- The ERROR notices (R543). -/
def errCodes : List Nat :=
  [N.NOTICE_LOST, N.SRC_FAILED, N.TIME_DISCONTINUITY, N.LOCK_FAIL, N.PATTERN_REJECT, N.REVERTED, N.CEIL_FAULT, N.POCKET_LOST] ++
  [N.CTX_ECC, N.QUEUE_ECC, N.ENTRY_LOST, N.SEAM_DOWN, N.NO_MIRROR, N.PAIR_MISMATCH, N.PAIR_KEY_MISSING, N.RING_ERR]
/-- The WARNING notices (R543). -/
def warnCodes : List Nat :=
  [N.BUDGET_SLIP, N.POLICY_OVERRIDDEN, N.STRUCT_REJECT, N.SETTING_RESET, N.PATTERN_FALLBACK, N.BANK_FALLBACK, N.XING_OVERRUN, N.CLK_DISAGREE] ++
  [N.HOLDOVER, N.TS_OVERRUN, N.TX_LATE, N.COEX_DENY, N.TRIM_LIMIT, N.CAL_FORCED, N.POOL_EXHAUSTED, N.STEER_STARVED] ++
  [N.TARGET_CLAMPED, N.DUTY_LIMIT, N.MUTE_ABORT, N.NODE_LOST, N.NO_BEACON, N.WAKE_RUN_FAIL, N.SLOT_SKIPPED, N.JOIN_TIMEOUT] ++
  [N.RETRY_EXHAUSTED, N.FC_LOW, N.SEAL_KEY_FAIL, N.REKEY_FAIL, N.REHASH_REQUEST, N.FLAP_HELD, N.LEARN_OVERFLOW, N.WATERMARK] ++
  [N.GATE_LATE, N.GATE_TOO_LONG, N.REASM_FULL, N.NO_ROUTE, N.DAO_LOOP, N.CELL_REALLOC_FAIL, N.REG_DUPLICATE, N.SKEW_ALARM] ++
  [N.PARTNER_ABSENT, N.MIRROR_STATE, N.GOV_STEP, N.PCIE_RESET, N.MGMT_AUTH_FAIL]

/-- The severity a notice's code fixes (R543): 3 CRITICAL, 2 ERROR, 1 WARNING; every code not listed is 0, INFO. -/
def sevOf (code : Nat) : Nat :=
  if critCodes.contains code then 3 else if errCodes.contains code then 2 else if warnCodes.contains code then 1 else 0

end Sys2Proof
end

