-- ==== Sys2Proof/Machine/Map.lean ====
section
/-!
DEFINITION. Sparse tables as lists of key and value pairs, keys strictly rising, so that equal tables are equal lists; and the
octet memory of the window's buffers (Host.Cell) in its canonical form.
-/
namespace Sys2Proof

/-- A sparse table keyed by a number. -/
abbrev KV (α : Type) := List (Nat × α)

/-- The entry under a key. -/
def kget {α : Type} (m : KV α) (k : Nat) : Option α :=
  match m with
  | [] => none
  | (j, v) :: t => if j = k then some v else kget t k

/-- The entry under a key, or a default. -/
def kgetD {α : Type} (m : KV α) (k : Nat) (d : α) : α := (kget m k).getD d

/-- The table with `v` under `k`. -/
def kput {α : Type} (m : KV α) (k : Nat) (v : α) : KV α :=
  match m with
  | [] => [(k, v)]
  | (j, u) :: t => if k < j then (k, v) :: (j, u) :: t else if j = k then (k, v) :: t else (j, u) :: kput t k v

/-- The table without `k`. -/
def kdel {α : Type} (m : KV α) (k : Nat) : KV α :=
  match m with
  | [] => []
  | (j, u) :: t => if j = k then kdel t k else (j, u) :: kdel t k

/-- Change the entry under a key, where there is one. -/
def kmod {α : Type} (m : KV α) (k : Nat) (f : α → α) : KV α :=
  match m with
  | [] => []
  | (j, u) :: t => if j = k then (j, f u) :: t else (j, u) :: kmod t k f

/-- The table with `v` under `k`, or without `k` when `v` is the value an absent key stands for. -/
def kset {α : Type} [DecidableEq α] (d : α) (m : KV α) (k : Nat) (v : α) : KV α :=
  if v = d then kdel m k else kput m k v

/-- Keys strictly rising from `lo`. -/
def kwfFrom {α : Type} (lo : Nat) (m : KV α) : Bool :=
  match m with
  | [] => true
  | (j, _) :: t => decide (lo ≤ j) && kwfFrom (j + 1) t

/-- The canonical form: keys strictly rising. -/
def kwf {α : Type} (m : KV α) : Bool := kwfFrom 0 m

/-- The lowest natural number from `n` up, within `fuel` tries, that is no key. -/
def kfree {α : Type} (m : KV α) (n fuel : Nat) : Nat :=
  match fuel with
  | 0 => n
  | f + 1 => if (kget m n).isSome then kfree m (n + 1) f else n

end Sys2Proof
end

