-- ==== Sys2Proof/Config.lean ====
section
/-!
DEFINITION. What one device fixes at manufacture, and the free values: values the spec leaves open. Each is an opaque
constant, so no proof can see a number in it.
-/
namespace Sys2Proof.Config

/-- DEVICE_ID[63:0], fixed at manufacture (R552). -/
opaque deviceId : Nat
/-- The device EUI-64 as one number, octet 0 in the top octet (R552). -/
opaque deviceEui : Nat
/-- The factory station address of an Ethernet port as one 48-bit number, octet 0 in the top octet (R550). -/
opaque stationAddr (port : Nat) : Nat
/-- The factory latencies of a port in a mode, ingress then egress, in ns as 16-bit two's complement (R145). -/
opaque modeLatency (port mode : Nat) : Nat × Nat
/-- WHITEN of the frames of a band and mode (R243): the spec does not say which frames are whitened. -/
opaque txWhiten (band mode : Nat) : Bool
/-- The half filter of the standard's pulse shaping, by coefficient (R258). -/
opaque shapeStandard (k : Nat) : Nat
/-- The factory trim loaded into RC_EST at reset (R102). -/
opaque rcTrim : Nat
/-- The number of domain crossings (R127). -/
opaque crossingCount : Nat
/-- A crossing's source domain, destination domain, owner's source ID and kind, 0 event or 1 hold-and-flag (R127, R128). -/
opaque crossingInfo (id : Nat) : Nat × Nat × Nat × Nat
/-- Airtime in µs of a PSDU under MR-OFDM or coded SUN FSK, which IEEE 802.15.4-2020 fixes and the spec does not state: band, mode
bit, MCS, preamble octets and PSDU length. -/
opaque codedAirUs (band mode mcs pre len : Nat) : Nat
/-- Time from the first training symbol to the point MR-OFDM receptions are stamped at, in ns. -/
opaque ofdmLeadNs (mode : Nat) : Nat
/-- An octet of key material that the device generated (R372, LOAD with SOURCE 2). -/
opaque madeOctet (n i : Nat) : Nat
/-- The root secret of the device, or the test root (R349, R368), as one 256-bit number, octet 0 on top. -/
opaque root (test : Bool) : Nat
/-- Which of the forms that RFC 6282 allows for a field of a packet its compression takes (R451): the spec names none. -/
opaque compressPick (field : Nat) (l : List Nat) : Nat
/-- The vendor certificate stored at manufacture (R369); its first 1,024 octets count. -/
opaque vendorCert : List Nat
/-- A part's migration routine (R500): the body of a settings record of a layout version in the new version, none where the routine
rejects it. The arguments: PART_TYPE, PART_INDEX, REC_ID, the version before and after, the body. -/
opaque migrate (ptype pindex id before after : Nat) (body : List Nat) : Option (List Nat)
/-- The n-th value the machine produces and the spec does not state. -/
opaque freeValue : Nat → Nat

end Sys2Proof.Config
end

