-- ==== Sys2Proof/Machine/Regs.lean ====
section
/-!
DEFINITION. The registers of the 4 MiB window (R9, R10, R530), one definition per field of the spec's register tables, with
its offset, lowest bit, width, access code, reset value and stated range. Where a table gives no number as a reset value
(loaded from the Pattern, MRAM, AON or flash) the field resets to 0 and the start or the activation writes it.
-/
namespace Sys2Proof

/-- The access codes of R10. -/
inductive Acc where
  | ro | rw | wo | w1c | w1s | rc | rs | rwl
  deriving DecidableEq, Repr

/-- One field of one register word: where it is, how it is accessed (R10), what reset leaves in it, and the range its own
table states for a write (R583), as a signed number when `sgn` is set. -/
structure Fld where
  off : Nat
  lo : Nat := 0
  w : Nat := 32
  acc : Acc := .ro
  rst : Nat := 0
  lim : Option (Int × Int) := none
  sgn : Bool := false
  deriving DecidableEq, Repr

/-- The key under which the register store holds the field. -/
def Fld.key (f : Fld) : Nat := f.off * 32 + f.lo

/-- The field as part of its 32-bit word. -/
def Fld.mask (f : Fld) : Nat := 2 ^ f.w

namespace Reg

/-! 02_pattern.md, R73 -/
def GLB_PATTERN_ID_LO : Fld := { off := 0x200 }
def GLB_PATTERN_ID_HI : Fld := { off := 0x204 }
def GLB_PATTERN_VER : Fld := { off := 0x208 }
def GLB_PATTERN_COPY : Fld := { off := 0x20C, w := 2 }
def GLB_PATTERN_HASH (i : Nat) : Fld := { off := 0x210 + 0x4 * i }
def GLB_STRUCT_REJECT_CNT : Fld := { off := 0x230, acc := .rc }
def GLB_STRUCT_REJECT_LAST : Fld := { off := 0x234, w := 22 }
/-! 03_startup_and_safe.md, R100 -/
def GLB_STATE : Fld := { off := 0x300, w := 2 }
def GLB_STEP : Fld := { off := 0x300, lo := 4, w := 4, rst := 1 }
def GLB_TEST_ROOT : Fld := { off := 0x300, lo := 8, w := 1 }
def GLB_ROOT_OK : Fld := { off := 0x300, lo := 9, w := 1 }
def GLB_SAFE_ITEM : Fld := { off := 0x304, w := 8 }
def GLB_SAFE_CODE : Fld := { off := 0x304, lo := 8, w := 8 }
def GLB_POR : Fld := { off := 0x308, w := 1, acc := .w1c }
def GLB_BROWNOUT : Fld := { off := 0x308, lo := 1, w := 1, acc := .w1c }
def GLB_PIN : Fld := { off := 0x308, lo := 2, w := 1, acc := .w1c }
def GLB_REBOOT_CMD : Fld := { off := 0x308, lo := 3, w := 1, acc := .w1c }
def GLB_WATCHDOG : Fld := { off := 0x308, lo := 4, w := 1, acc := .w1c }
def GLB_DEBUG : Fld := { off := 0x308, lo := 5, w := 1, acc := .w1c }
def GLB_REVERT : Fld := { off := 0x308, lo := 6, w := 1, acc := .w1c }
def GLB_BOOT_COUNT : Fld := { off := 0x30C }
def GLB_START_MS : Fld := { off := 0x310 }
def GLB_SAFE_BEACON_SEQ : Fld := { off := 0x314 }
def GLB_LOADED_BANK : Fld := { off := 0x318, w := 1 }
/-! 04_clocks_resets_crossings.md, R127 -/
def CKR_TCXO_EN : Fld := { off := 0x10000, w := 1, acc := .rw, rst := 1 }
def CKR_XO_EN : Fld := { off := 0x10000, lo := 1, w := 1, acc := .rw, rst := 1 }
def CKR_LF_EN : Fld := { off := 0x10000, lo := 2, w := 1, acc := .rw, rst := 1 }
def CKR_PIN_SRC : Fld := { off := 0x10000, lo := 4, w := 2, acc := .rw, lim := some (0, 2) }
def CKR_RETURN_AUTO : Fld := { off := 0x10000, lo := 8, w := 1, acc := .rw, rst := 1 }
def CKR_MAIN_SRC : Fld := { off := 0x10004, w := 2 }
def CKR_LIMP : Fld := { off := 0x10004, lo := 2, w := 1, rst := 1 }
def CKR_AON_SRC : Fld := { off := 0x10004, lo := 3, w := 1, rst := 1 }
def CKR_TCXO_QST : Fld := { off := 0x10004, lo := 4, w := 3 }
def CKR_XO_QST : Fld := { off := 0x10004, lo := 8, w := 3 }
def CKR_LF_QST : Fld := { off := 0x10004, lo := 12, w := 3 }
def CKR_TCXO_FAIL : Fld := { off := 0x10008, w := 1, acc := .w1c }
def CKR_XO_FAIL : Fld := { off := 0x10008, lo := 1, w := 1, acc := .w1c }
def CKR_LF_FAIL : Fld := { off := 0x10008, lo := 2, w := 1, acc := .w1c }
def CKR_LIMP_SEEN : Fld := { off := 0x10008, lo := 3, w := 1, acc := .w1c }
def CKR_FORCED : Fld := { off := 0x10008, lo := 4, w := 1, acc := .w1c }
def CKR_DISAGREE : Fld := { off := 0x10008, lo := 5, w := 1, acc := .w1c }
def CKR_XING_OVR : Fld := { off := 0x10008, lo := 6, w := 1, acc := .w1c }
def CKR_QUAL_SEL : Fld := { off := 0x1000C, w := 2, acc := .rw, lim := some (0, 2) }
def CKR_QUAL_COARSE : Fld := { off := 0x10010, w := 21 }
def CKR_QUAL_FINE : Fld := { off := 0x10014, w := 21 }
def CKR_RC_EST : Fld := { off := 0x10018, rst := Config.rcTrim }
def CKR_RETURN_HOLD_MS : Fld := { off := 0x1001C, w := 16, acc := .rw, rst := 1000, lim := some (1, 65535) }
def CKR_A0_LOCK : Fld := { off := 0x10020, w := 1 }
def CKR_T0_LOCK : Fld := { off := 0x10020, lo := 1, w := 1 }
def CKR_A1_LOCK : Fld := { off := 0x10020, lo := 2, w := 1 }
def CKR_T1_LOCK : Fld := { off := 0x10020, lo := 3, w := 1 }
def CKR_ACTIVE_BANK : Fld := { off := 0x10020, lo := 4, w := 1 }
def CKR_IDLE_SRC : Fld := { off := 0x10020, lo := 8, w := 2 }
def CKR_DOMAIN_STATE : Fld := { off := 0x10024, w := 10 }
def CKR_SWITCH_CNT : Fld := { off := 0x10028, acc := .rc }
def CKR_FORCED_CNT : Fld := { off := 0x1002C, acc := .rc }
def CKR_LIMP_CNT : Fld := { off := 0x10030, acc := .rc }
def CKR_CLAMP_CNT : Fld := { off := 0x10034, acc := .rc }
def CKR_XING_COUNT : Fld := { off := 0x10040, w := 8, rst := Config.crossingCount }
def CKR_XING_SEL : Fld := { off := 0x10044, w := 8, acc := .rw }
def CKR_XI_SRC : Fld := { off := 0x10048, w := 4 }
def CKR_XI_DST : Fld := { off := 0x10048, lo := 4, w := 4 }
def CKR_XI_OWNER : Fld := { off := 0x10048, lo := 8, w := 8 }
def CKR_XI_KIND : Fld := { off := 0x10048, lo := 16, w := 1 }
def CKR_OVR : Fld := { off := 0x1004C, w := 1, acc := .w1c }
def CKR_PENDING : Fld := { off := 0x1004C, lo := 1, w := 1 }
def CKR_INFLIGHT : Fld := { off := 0x1004C, lo := 2, w := 1 }
def CKR_LOST : Fld := { off := 0x1004C, lo := 16, w := 16, acc := .rc }
def CKR_RST_ETH0 : Fld := { off := 0x10060, w := 1, acc := .wo }
def CKR_RST_ETH1 : Fld := { off := 0x10060, lo := 1, w := 1, acc := .wo }
def CKR_RST_SEAM : Fld := { off := 0x10060, lo := 2, w := 1, acc := .wo }
def CKR_RST_UART : Fld := { off := 0x10060, lo := 3, w := 1, acc := .wo }
def CKR_GRP_BUSY : Fld := { off := 0x10064, w := 4 }
/-! 05_time_and_timers.md, R160 -/
def TIM_HOLDOVER_REQ : Fld := { off := 0x40000, w := 1, acc := .w1s }
def TIM_HOLDOVER : Fld := { off := 0x40004, w := 1 }
def TIM_DISC : Fld := { off := 0x40004, lo := 1, w := 1, acc := .w1c }
def TIM_STEPPED : Fld := { off := 0x40004, lo := 2, w := 1, acc := .w1c }
def TIM_SERVO_WDOG : Fld := { off := 0x40008, w := 16, acc := .rw, rst := 4000 }
def TIM_STEP_LIMIT : Fld := { off := 0x4000C, w := 17, acc := .rw, rst := 1000, lim := some (0, 100000) }
def TIM_NOW_FRAC : Fld := { off := 0x40010, w := 16 }
def TIM_NOW_NS : Fld := { off := 0x40014 }
def TIM_NOW_SEC_LO : Fld := { off := 0x40018 }
def TIM_NOW_SEC_HI : Fld := { off := 0x4001C, w := 16 }
def TIM_INCR_LO : Fld := { off := 0x40020, acc := .rw, rst := 0x0 }
def TIM_INCR_HI : Fld := { off := 0x40024, w := 8, acc := .rw, rst := 0x4 }
def TIM_STEP_FRAC : Fld := { off := 0x40028, w := 16, acc := .wo }
def TIM_STEP_NS : Fld := { off := 0x4002C, acc := .wo }
def TIM_SET_FRAC : Fld := { off := 0x40030, w := 16, acc := .wo }
def TIM_SET_NS : Fld := { off := 0x40034, acc := .wo }
def TIM_SET_SEC_LO : Fld := { off := 0x40038, acc := .wo }
def TIM_SET_SEC_HI : Fld := { off := 0x4003C, w := 16, acc := .wo }
def TIM_STITCH_LO : Fld := { off := 0x40040 }
def TIM_STITCH_HI : Fld := { off := 0x40044 }
def TIM_INCR_REJ_CNT : Fld := { off := 0x40048, acc := .rc }
def TIM_DISC_CNT : Fld := { off := 0x4004C, acc := .rc }
def TIM_HOLDOVER_STITCHES : Fld := { off := 0x40050 }
def TIM_ONE_STEP (p : Nat) : Fld := { off := 0x40100 + 0x40 * p, w := 1, acc := .rw }
def TIM_ING_FIFO (p : Nat) : Fld := { off := 0x40100 + 0x40 * p, lo := 1, w := 1, acc := .rw }
def TIM_EGR_FIFO (p : Nat) : Fld := { off := 0x40100 + 0x40 * p, lo := 2, w := 1, acc := .rw, rst := 1 }
def TIM_ING_LAT (p : Nat) : Fld := { off := 0x40104 + 0x40 * p, w := 16, acc := .rw, rst := (Config.modeLatency p 2).1 % 2 ^ 16 }
def TIM_EGR_LAT (p : Nat) : Fld := { off := 0x40104 + 0x40 * p, lo := 16, w := 16, acc := .rw, rst := (Config.modeLatency p 2).2 % 2 ^ 16 }
def TIM_TS_DEPTH (p : Nat) : Fld := { off := 0x40108 + 0x40 * p, w := 7 }
def TIM_TS_OVR (p : Nat) : Fld := { off := 0x40108 + 0x40 * p, lo := 7, w := 1, acc := .w1c }
def TIM_TS_LOST (p : Nat) : Fld := { off := 0x40108 + 0x40 * p, lo := 16, w := 16, acc := .rc }
def TIM_TS_W0 (p : Nat) : Fld := { off := 0x40110 + 0x40 * p }
def TIM_TS_W1 (p : Nat) : Fld := { off := 0x40114 + 0x40 * p }
def TIM_TS_W2 (p : Nat) : Fld := { off := 0x40118 + 0x40 * p }
def TIM_TS_W3 (p : Nat) : Fld := { off := 0x4011C + 0x40 * p }
def TIM_TRG_TGT_NS (n : Nat) : Fld := { off := 0x40200 + 0x20 * n, acc := .rw }
def TIM_TRG_TGT_SEC_LO (n : Nat) : Fld := { off := 0x40204 + 0x20 * n, acc := .rw }
def TIM_TRG_TGT_SEC_HI (n : Nat) : Fld := { off := 0x40208 + 0x20 * n, w := 16, acc := .rw }
def TIM_TRG_PERIOD (n : Nat) : Fld := { off := 0x4020C + 0x20 * n, acc := .rw }
def TIM_TRG_ARM (n : Nat) : Fld := { off := 0x40210 + 0x20 * n, w := 1, acc := .w1s }
def TIM_TRG_POL (n : Nat) : Fld := { off := 0x40210 + 0x20 * n, lo := 1, w := 1, acc := .rw }
def TIM_TRG_LANE (n : Nat) : Fld := { off := 0x40210 + 0x20 * n, lo := 4, w := 4, acc := .rw, lim := some (0, 6) }
def TIM_TRG_WIDTH_LEN (n : Nat) : Fld := { off := 0x40210 + 0x20 * n, lo := 16, w := 16, acc := .rw, rst := 1 }
def TIM_TRG_FIRED (n : Nat) : Fld := { off := 0x40214 + 0x20 * n, w := 1, acc := .w1c }
def TIM_TRG_CODE (n : Nat) : Fld := { off := 0x40214 + 0x20 * n, lo := 8, w := 8 }
def TIM_TRG_FIRE_CNT (n : Nat) : Fld := { off := 0x40214 + 0x20 * n, lo := 16, w := 16 }
/-! 05_time_and_timers.md, R161 -/
def TMR_MODE (n : Nat) : Fld := { off := 0x30000 + 0x40 * n, w := 2, acc := .rw, lim := some (0, 2) }
def TMR_CAP_EN (n : Nat) : Fld := { off := 0x30000 + 0x40 * n, lo := 2, w := 1, acc := .rw }
def TMR_CAP_WHAT (n : Nat) : Fld := { off := 0x30000 + 0x40 * n, lo := 3, w := 1, acc := .rw }
def TMR_CLK (n : Nat) : Fld := { off := 0x30000 + 0x40 * n, lo := 4, w := 2, acc := .rw, lim := some (0, 2) }
def TMR_EVT_SRC (n : Nat) : Fld := { off := 0x30000 + 0x40 * n, lo := 6, w := 5, acc := .rw }
def TMR_CAP_SRC (n : Nat) : Fld := { off := 0x30000 + 0x40 * n, lo := 11, w := 5, acc := .rw }
def TMR_CAP_EDGE (n : Nat) : Fld := { off := 0x30000 + 0x40 * n, lo := 16, w := 2, acc := .rw, lim := some (0, 2) }
def TMR_FILT_N (n : Nat) : Fld := { off := 0x30000 + 0x40 * n, lo := 18, w := 4, acc := .rw, rst := 1, lim := some (1, 15) }
def TMR_PRESC (n : Nat) : Fld := { off := 0x30000 + 0x40 * n, lo := 22, w := 8, acc := .rw }
def TMR_ARM (n : Nat) : Fld := { off := 0x30004 + 0x40 * n, w := 1, acc := .wo }
def TMR_STOP (n : Nat) : Fld := { off := 0x30004 + 0x40 * n, lo := 1, w := 1, acc := .wo }
def TMR_COUNT (n : Nat) : Fld := { off := 0x30008 + 0x40 * n, acc := .rw }
def TMR_COMPARE (n : Nat) : Fld := { off := 0x3000C + 0x40 * n, acc := .rw }
def TMR_INTERVAL (n : Nat) : Fld := { off := 0x30010 + 0x40 * n, acc := .rw }
def TMR_END (n : Nat) : Fld := { off := 0x30014 + 0x40 * n, acc := .rw }
def TMR_START (n : Nat) : Fld := { off := 0x30018 + 0x40 * n, acc := .rw }
def TMR_CAPTURE (n : Nat) : Fld := { off := 0x3001C + 0x40 * n, acc := .rc }
def TMR_RUNNING (n : Nat) : Fld := { off := 0x30020 + 0x40 * n, w := 1 }
def TMR_MATCH (n : Nat) : Fld := { off := 0x30020 + 0x40 * n, lo := 1, w := 1, acc := .w1c }
def TMR_ENDED (n : Nat) : Fld := { off := 0x30020 + 0x40 * n, lo := 2, w := 1, acc := .w1c }
def TMR_CAPTURED (n : Nat) : Fld := { off := 0x30020 + 0x40 * n, lo := 3, w := 1 }
def TMR_OVR (n : Nat) : Fld := { off := 0x30020 + 0x40 * n, lo := 4, w := 1, acc := .w1c }
def TMR_DISC (n : Nat) : Fld := { off := 0x30020 + 0x40 * n, lo := 5, w := 1 }
def TMR_HOST_OWNED (n : Nat) : Fld := { off := 0x30020 + 0x40 * n, lo := 6, w := 1 }
def TMR_CMP_ARMED (n : Nat) : Fld := { off := 0x30020 + 0x40 * n, lo := 7, w := 1 }
def TMR_INT_EN (n : Nat) : Fld := { off := 0x30024 + 0x40 * n, w := 4, acc := .rw }
def TMR_TMR_REJ_CNT : Fld := { off := 0x31000, acc := .rc }
/-! 06_rf_front_end.md, R194 -/
def RFC_FREQ_TRIM : Fld := { off := 0x80098, w := 24 }
def RFC_STATE (g : Nat) : Fld := { off := 0x80100 + 0x40 * g, w := 3 }
def RFC_PRESENT (g : Nat) : Fld := { off := 0x80100 + 0x40 * g, lo := 3, w := 1 }
def RFC_MUTED (g : Nat) : Fld := { off := 0x80100 + 0x40 * g, lo := 4, w := 1 }
def RFC_CAL_PENDING (g : Nat) : Fld := { off := 0x80100 + 0x40 * g, lo := 5, w := 1 }
def RFC_CAL_FORCED (g : Nat) : Fld := { off := 0x80100 + 0x40 * g, lo := 6, w := 1 }
def RFC_CAL_FAILED (g : Nat) : Fld := { off := 0x80100 + 0x40 * g, lo := 7, w := 1 }
def RFC_TJ (g : Nat) : Fld := { off := 0x80100 + 0x40 * g, lo := 8, w := 8 }
def RFC_CAL_STEP (g : Nat) : Fld := { off := 0x80104 + 0x40 * g, w := 6, acc := .rw, rst := 15, lim := some (5, 40) }
def RFC_CAL_WAIT (g : Nat) : Fld := { off := 0x80108 + 0x40 * g, w := 16 }
def RFC_CAL_CNT (g : Nat) : Fld := { off := 0x8010C + 0x40 * g, acc := .rc }
def RFC_LOCK_FAIL_CNT (g : Nat) : Fld := { off := 0x80110 + 0x40 * g, acc := .rc }
def RFC_SETTLE_LATE_CNT (g : Nat) : Fld := { off := 0x80114 + 0x40 * g, acc := .rc }
def RFC_CAL_LATE_CNT (g : Nat) : Fld := { off := 0x80118 + 0x40 * g, acc := .rc }
def RFC_HELD_CNT (g : Nat) : Fld := { off := 0x8011C + 0x40 * g, acc := .rc }
def RFC_CAL_MISSED_CNT (g : Nat) : Fld := { off := 0x80120 + 0x40 * g, acc := .rc }
def RFC_CX_EN (b : Nat) : Fld := { off := 0x80400 + 0x10 * b, w := 1, acc := .rw }
def RFC_CX_REQ_POL (b : Nat) : Fld := { off := 0x80400 + 0x10 * b, lo := 1, w := 1, acc := .rw }
def RFC_CX_GRANT_POL (b : Nat) : Fld := { off := 0x80400 + 0x10 * b, lo := 2, w := 1, acc := .rw }
def RFC_CX_PRI_POL (b : Nat) : Fld := { off := 0x80400 + 0x10 * b, lo := 3, w := 1, acc := .rw }
def RFC_CX_ABORT_ON_LOSS (b : Nat) : Fld := { off := 0x80400 + 0x10 * b, lo := 4, w := 1, acc := .rw }
def RFC_CX_PRI_CLASS (b : Nat) : Fld := { off := 0x80400 + 0x10 * b, lo := 8, w := 7, acc := .rw, rst := 0x23 }
def RFC_CX_LEAD_US (b : Nat) : Fld := { off := 0x80400 + 0x10 * b, lo := 16, w := 10, acc := .rw, rst := 100, lim := some (20, 1000) }
def RFC_CX_REQ (b : Nat) : Fld := { off := 0x80404 + 0x10 * b, w := 1 }
def RFC_CX_GRANT (b : Nat) : Fld := { off := 0x80404 + 0x10 * b, lo := 1, w := 1 }
def RFC_CX_PRI (b : Nat) : Fld := { off := 0x80404 + 0x10 * b, lo := 2, w := 1 }
def RFC_CX_DENIED_CNT (b : Nat) : Fld := { off := 0x80408 + 0x10 * b, acc := .rc }
def RFC_CX_GRANT_LOST_CNT (b : Nat) : Fld := { off := 0x8040C + 0x10 * b, acc := .rc }
def RFC_FEM_FEM_MAP (g : Nat) : Fld := { off := 0x80500 + 0x20 * g, acc := .rw, rst := 0x0 }
def RFC_FEM_EARLY_MASK (g : Nat) : Fld := { off := 0x80504 + 0x20 * g, w := 4, acc := .rw }
def RFC_FEM_LEAD_US (g : Nat) : Fld := { off := 0x80504 + 0x20 * g, lo := 4, w := 5, acc := .rw, lim := some (0, 24) }
def RFC_FEM_HOLD_MASK (g : Nat) : Fld := { off := 0x80504 + 0x20 * g, lo := 12, w := 4, acc := .rw }
def RFC_FEM_TAIL_US (g : Nat) : Fld := { off := 0x80504 + 0x20 * g, lo := 16, w := 5, acc := .rw, lim := some (0, 16) }
/-! 06_rf_front_end.md, R195 -/
def WUR_EN : Fld := { off := 0x90000, w := 1, acc := .rw }
def WUR_RATE : Fld := { off := 0x90000, lo := 1, w := 1, acc := .rw }
def WUR_ACTIVE_LISTEN : Fld := { off := 0x90000, lo := 2, w := 1, acc := .rw }
def WUR_A_LEN : Fld := { off := 0x90000, lo := 8, w := 1, acc := .rwl }
def WUR_B_LEN : Fld := { off := 0x90000, lo := 9, w := 1, acc := .rwl }
def WUR_A_ACT : Fld := { off := 0x90000, lo := 10, w := 2, acc := .rwl, lim := some (0, 2) }
def WUR_B_ACT : Fld := { off := 0x90000, lo := 12, w := 2, acc := .rwl, lim := some (0, 2) }
def WUR_MAX_ERR : Fld := { off := 0x90000, lo := 14, w := 2, acc := .rwl }
def WUR_PAT_A : Fld := { off := 0x90004, acc := .rwl }
def WUR_PAT_B : Fld := { off := 0x90008, acc := .rwl }
def WUR_LISTENING : Fld := { off := 0x9000C, w := 1 }
def WUR_MATCH_A : Fld := { off := 0x9000C, lo := 1, w := 1, acc := .w1c }
def WUR_MATCH_B : Fld := { off := 0x9000C, lo := 2, w := 1, acc := .w1c }
def WUR_THRESH : Fld := { off := 0x9000C, lo := 8, w := 8 }
def WUR_MATCH_CNT_A : Fld := { off := 0x90010, acc := .rc }
def WUR_MATCH_CNT_B : Fld := { off := 0x90014, acc := .rc }
/-! 07_receive_path.md, R234 -/
def RXP_CAPTURE_EN : Fld := { off := 0xA0100, w := 1, acc := .rw, rst := 1 }
def RXP_CANCEL_EN : Fld := { off := 0xA0100, lo := 1, w := 1, acc := .rw, rst := 1 }
def RXP_CAPTURE_MARGIN : Fld := { off := 0xA0100, lo := 8, w := 5, acc := .rw, rst := 6, lim := some (3, 20) }
def RXP_PSDU_LIMIT : Fld := { off := 0xA0104, w := 11, acc := .rw }
def RXP_FEC_SCHEME_L : Fld := { off := 0xA0108, w := 1, acc := .rw }
def RXP_INTERLEAVE_L : Fld := { off := 0xA0108, lo := 1, w := 1, acc := .rw }
def RXP_FSK_SFD_SET_L : Fld := { off := 0xA0108, lo := 2, w := 1, acc := .rw }
def RXP_FEC_SCHEME_M : Fld := { off := 0xA0108, lo := 8, w := 1, acc := .rw }
def RXP_INTERLEAVE_M : Fld := { off := 0xA0108, lo := 9, w := 1, acc := .rw }
def RXP_FSK_SFD_SET_M : Fld := { off := 0xA0108, lo := 10, w := 1, acc := .rw }
def RXP_MIN_FREE_SCHED_L : Fld := { off := 0xA0110, w := 8, acc := .rw }
def RXP_MIN_FREE_SCHED_M : Fld := { off := 0xA0110, lo := 8, w := 8, acc := .rw }
def RXP_MIN_FREE_SCHED_H : Fld := { off := 0xA0110, lo := 16, w := 8, acc := .rw }
def RXP_ACTIVE_L : Fld := { off := 0xA0114, w := 9 }
def RXP_ACTIVE_M : Fld := { off := 0xA0114, lo := 16, w := 9 }
def RXP_ACTIVE_H : Fld := { off := 0xA0118, w := 9 }
def RXP_RXP_ACTIVE : Fld := { off := 0xA0118, lo := 16, w := 9 }
def RXP_ACTIVE_PEAK : Fld := { off := 0xA011C, w := 9, acc := .rc }
def RXP_STEER_EN : Fld := { off := 0xA0140, w := 1, acc := .rw }
def RXP_REF_WINDOW : Fld := { off := 0xA0144, w := 16, acc := .rw, rst := 4000, lim := some (40, 65535) }
def RXP_REF_MIN_FRAMES : Fld := { off := 0xA0148, w := 8, acc := .rw, rst := 8, lim := some (1, 255) }
def RXP_REF_MIN_NODES : Fld := { off := 0xA0148, lo := 8, w := 8, acc := .rw, rst := 2, lim := some (1, 255) }
def RXP_REF_REJECT : Fld := { off := 0xA014C, w := 16, acc := .rw, rst := 2000, lim := some (1, 65535) }
def RXP_TARGET_LIMIT : Fld := { off := 0xA0150, w := 15, acc := .rw, rst := 20000, lim := some (0, 20000) }
def RXP_TARGET : Fld := { off := 0xA0154, w := 24 }
def RXP_REF_FRAMES : Fld := { off := 0xA0158, w := 16 }
def RXP_REF_NODES : Fld := { off := 0xA0158, lo := 16, w := 16 }
def RXP_STATS_TAG : Fld := { off := 0xA0180 }
def RXP_WIN_GAIN (i : Nat) : Fld := { off := 0xA0190 + 0x4 * i, w := 4 }
def RXP_WIN_STEPS (i : Nat) : Fld := { off := 0xA0190 + 0x4 * i, lo := 4, w := 4 }
def RXP_LANE_EN (l : Nat) : Fld := { off := 0xA0200 + 0x20 * l, w := 1, acc := .rw }
def RXP_HOLD (l : Nat) : Fld := { off := 0xA0200 + 0x20 * l, lo := 1, w := 1 }
def RXP_GAIN (l : Nat) : Fld := { off := 0xA0200 + 0x20 * l, lo := 4, w := 4, rst := 11 }
def RXP_ACTIVE (l : Nat) : Fld := { off := 0xA0200 + 0x20 * l, lo := 16, w := 9 }
def RXP_GAIN_MIN (l : Nat) : Fld := { off := 0xA0204 + 0x20 * l, w := 4, acc := .rw, lim := some (0, 11) }
def RXP_GAIN_MAX (l : Nat) : Fld := { off := 0xA0204 + 0x20 * l, lo := 8, w := 4, acc := .rw, rst := 11, lim := some (0, 11) }
def RXP_HEADROOM (l : Nat) : Fld := { off := 0xA0204 + 0x20 * l, lo := 16, w := 5, acc := .rw, rst := 10, lim := some (3, 20) }
def RXP_DET_MARGIN (l : Nat) : Fld := { off := 0xA0204 + 0x20 * l, lo := 24, w := 4, acc := .rw, rst := 4 }
def RXP_NOISE (l : Nat) : Fld := { off := 0xA0208 + 0x20 * l, w := 16 }
def RXP_RX_QUEUE (l : Nat) : Fld := { off := 0xA020C + 0x20 * l, w := 13, acc := .rw }
def RXP_DET_EN0 (l : Nat) : Fld := { off := 0xA0400 + 0x10 * l, acc := .rw }
def RXP_DET_EN1 (l : Nat) : Fld := { off := 0xA0404 + 0x10 * l, acc := .rw }
def RXP_DET_EN2 (l : Nat) : Fld := { off := 0xA0408 + 0x10 * l, acc := .rw }
def RXP_DET_EN3 (l : Nat) : Fld := { off := 0xA040C + 0x10 * l, acc := .rw }
/-! 07_receive_path.md, R235 -/
def RXP_DET_CNT (l : Nat) : Fld := { off := 0xA1000 + 0x80 * l, acc := .rc }
def RXP_FRAME_OK (l : Nat) : Fld := { off := 0xA1004 + 0x80 * l, acc := .rc }
def RXP_FCS_ERR (l : Nat) : Fld := { off := 0xA1008 + 0x80 * l, acc := .rc }
def RXP_LEN_ERR (l : Nat) : Fld := { off := 0xA100C + 0x80 * l, acc := .rc }
def RXP_PHR_ERR (l : Nat) : Fld := { off := 0xA1010 + 0x80 * l, acc := .rc }
def RXP_NO_BUF (l : Nat) : Fld := { off := 0xA1014 + 0x80 * l, acc := .rc }
def RXP_NO_DEMOD (l : Nat) : Fld := { off := 0xA1018 + 0x80 * l, acc := .rc }
def RXP_PREEMPT (l : Nat) : Fld := { off := 0xA101C + 0x80 * l, acc := .rc }
def RXP_CAPTURE_OK (l : Nat) : Fld := { off := 0xA1020 + 0x80 * l, acc := .rc }
def RXP_CAPTURE_LOST (l : Nat) : Fld := { off := 0xA1024 + 0x80 * l, acc := .rc }
def RXP_CAPTURE_ABORT (l : Nat) : Fld := { off := 0xA1028 + 0x80 * l, acc := .rc }
def RXP_GAIN_STEP (l : Nat) : Fld := { off := 0xA102C + 0x80 * l, acc := .rc }
def RXP_CAL_DROP (l : Nat) : Fld := { off := 0xA1030 + 0x80 * l, acc := .rc }
def RXP_TX_BLANK (l : Nat) : Fld := { off := 0xA1034 + 0x80 * l, acc := .rc }
def RXP_REF_SWITCH (l : Nat) : Fld := { off := 0xA1038 + 0x80 * l, acc := .rc }
def RXP_LANE_OFF (l : Nat) : Fld := { off := 0xA103C + 0x80 * l, acc := .rc }
def RXP_SYNC_LOST (l : Nat) : Fld := { off := 0xA1040 + 0x80 * l, acc := .rc }
def RXP_GAIN_CLAMP (l : Nat) : Fld := { off := 0xA1044 + 0x80 * l, acc := .rc }
def RXP_COLLIDED (l : Nat) : Fld := { off := 0xA1048 + 0x80 * l, acc := .rc }
/-! 08_transmit_path.md, R258 -/
def TXP_TX_EN (c : Nat) : Fld := { off := 0xC0100 + 0x40 * c, w := 1, acc := .rw }
def TXP_TEST (c : Nat) : Fld := { off := 0xC0100 + 0x40 * c, lo := 1, w := 1, acc := .rw }
def TXP_CARRIERS (c : Nat) : Fld := { off := 0xC0100 + 0x40 * c, lo := 2, w := 3, acc := .rw, rst := 1, lim := some (1, 4) }
def TXP_SHAPE_SEL (c : Nat) : Fld := { off := 0xC0100 + 0x40 * c, lo := 5, w := 2, acc := .rw, lim := some (0, 2) }
def TXP_MASK_SEL (c : Nat) : Fld := { off := 0xC0100 + 0x40 * c, lo := 8, w := 1, acc := .rw }
def TXP_PRECOMP_EN (c : Nat) : Fld := { off := 0xC0100 + 0x40 * c, lo := 12, w := 1, acc := .rw, rst := 1 }
def TXP_MAX_POWER (c : Nat) : Fld := { off := 0xC0104 + 0x40 * c, w := 16, acc := .rw, rst := 140, lim := some (-100, 140), sgn := true }
def TXP_CARRIER_CAP (c : Nat) : Fld := { off := 0xC0104 + 0x40 * c, lo := 16, w := 16, rst := 140 }
def TXP_PRECOMP_LIMIT (c : Nat) : Fld := { off := 0xC0108 + 0x40 * c, w := 17, acc := .rw, rst := 40000, lim := some (0, 60000) }
def TXP_TRAIN_GAP (c : Nat) : Fld := { off := 0xC010C + 0x40 * c, w := 12, acc := .rw, rst := 200, lim := some (50, 2000) }
def TXP_WAKE_RATE (c : Nat) : Fld := { off := 0xC0110 + 0x40 * c, w := 2, acc := .rw }
def TXP_WAKE_PRE (c : Nat) : Fld := { off := 0xC0110 + 0x40 * c, lo := 8, w := 6, acc := .rw, rst := 16, lim := some (8, 32) }
def TXP_WAKE_FOLLOW_US (c : Nat) : Fld := { off := 0xC0114 + 0x40 * c, w := 17, acc := .rw, rst := 5000, lim := some (500, 100000) }
def TXP_DUTY_PPM (c : Nat) : Fld := { off := 0xC0118 + 0x40 * c, w := 20, acc := .rw, lim := some (0, 1000000) }
def TXP_DUTY_USED (c : Nat) : Fld := { off := 0xC011C + 0x40 * c }
def TXP_ON_AIR (c : Nat) : Fld := { off := 0xC0120 + 0x40 * c, w := 3 }
def TXP_TONE_ON (c : Nat) : Fld := { off := 0xC0120 + 0x40 * c, lo := 3, w := 1 }
def TXP_COEF_0 (c : Nat) : Fld := { off := 0xC0200 + 0x20 * c, w := 12, acc := .rwl, rst := Config.shapeStandard 0 % 4096 }
def TXP_COEF_2 (c : Nat) : Fld := { off := 0xC0204 + 0x20 * c, w := 12, acc := .rwl, rst := Config.shapeStandard 2 % 4096 }
def TXP_COEF_4 (c : Nat) : Fld := { off := 0xC0208 + 0x20 * c, w := 12, acc := .rwl, rst := Config.shapeStandard 4 % 4096 }
def TXP_COEF_6 (c : Nat) : Fld := { off := 0xC020C + 0x20 * c, w := 12, acc := .rwl, rst := Config.shapeStandard 6 % 4096 }
def TXP_COEF_8 (c : Nat) : Fld := { off := 0xC0210 + 0x20 * c, w := 12, acc := .rwl, rst := Config.shapeStandard 8 % 4096 }
def TXP_COEF_10 (c : Nat) : Fld := { off := 0xC0214 + 0x20 * c, w := 12, acc := .rwl, rst := Config.shapeStandard 10 % 4096 }
def TXP_COEF_12 (c : Nat) : Fld := { off := 0xC0218 + 0x20 * c, w := 12, acc := .rwl, rst := Config.shapeStandard 12 % 4096 }
def TXP_COEF_14 (c : Nat) : Fld := { off := 0xC021C + 0x20 * c, w := 12, acc := .rwl, rst := Config.shapeStandard 14 % 4096 }
def TXP_COEF_1 (c : Nat) : Fld := { off := 0xC0200 + 0x20 * c, lo := 16, w := 12, acc := .rwl, rst := Config.shapeStandard 1 % 4096 }
def TXP_COEF_3 (c : Nat) : Fld := { off := 0xC0204 + 0x20 * c, lo := 16, w := 12, acc := .rwl, rst := Config.shapeStandard 3 % 4096 }
def TXP_COEF_5 (c : Nat) : Fld := { off := 0xC0208 + 0x20 * c, lo := 16, w := 12, acc := .rwl, rst := Config.shapeStandard 5 % 4096 }
def TXP_COEF_7 (c : Nat) : Fld := { off := 0xC020C + 0x20 * c, lo := 16, w := 12, acc := .rwl, rst := Config.shapeStandard 7 % 4096 }
def TXP_COEF_9 (c : Nat) : Fld := { off := 0xC0210 + 0x20 * c, lo := 16, w := 12, acc := .rwl, rst := Config.shapeStandard 9 % 4096 }
def TXP_COEF_11 (c : Nat) : Fld := { off := 0xC0214 + 0x20 * c, lo := 16, w := 12, acc := .rwl, rst := Config.shapeStandard 11 % 4096 }
def TXP_COEF_13 (c : Nat) : Fld := { off := 0xC0218 + 0x20 * c, lo := 16, w := 12, acc := .rwl, rst := Config.shapeStandard 13 % 4096 }
def TXP_COEF_15 (c : Nat) : Fld := { off := 0xC021C + 0x20 * c, lo := 16, w := 12, acc := .rwl, rst := Config.shapeStandard 15 % 4096 }
def TXP_FRAMES_OK (c : Nat) : Fld := { off := 0xC1000 + 0x40 * c, acc := .rc }
def TXP_ACKS_OK (c : Nat) : Fld := { off := 0xC1004 + 0x40 * c, acc := .rc }
def TXP_ACK_DROPPED (c : Nat) : Fld := { off := 0xC1008 + 0x40 * c, acc := .rc }
def TXP_BUSY_REJ (c : Nat) : Fld := { off := 0xC100C + 0x40 * c, acc := .rc }
def TXP_DUTY_REJ (c : Nat) : Fld := { off := 0xC1010 + 0x40 * c, acc := .rc }
def TXP_LEN_REJ (c : Nat) : Fld := { off := 0xC1014 + 0x40 * c, acc := .rc }
def TXP_MODE_REJ (c : Nat) : Fld := { off := 0xC1018 + 0x40 * c, acc := .rc }
def TXP_MUTE_ABORT (c : Nat) : Fld := { off := 0xC101C + 0x40 * c, acc := .rc }
def TXP_PRECOMP_CLAMP (c : Nat) : Fld := { off := 0xC1020 + 0x40 * c, acc := .rc }
def TXP_TRAINS (c : Nat) : Fld := { off := 0xC1024 + 0x40 * c, acc := .rc }
def TXP_TRAIN_COPIES (c : Nat) : Fld := { off := 0xC1028 + 0x40 * c, acc := .rc }
def TXP_WAKE_CALLS (c : Nat) : Fld := { off := 0xC102C + 0x40 * c, acc := .rc }
def TXP_AIRTIME_US (c : Nat) : Fld := { off := 0xC1030 + 0x40 * c, acc := .rc }
def TXP_STATS_TAG : Fld := { off := 0xC1100 }
/-! 09_mesh_schedule.md, R291 -/
def SCH_TX_OFFSET_US : Fld := { off := 0x120100, w := 17, acc := .rw }
def SCH_ACK_OFFSET_US : Fld := { off := 0x120104, w := 17, acc := .rw }
def SCH_G0_US : Fld := { off := 0x120108, w := 11, acc := .rw, rst := 128, lim := some (16, 2000) }
def SCH_GUARD_BOUND_US : Fld := { off := 0x12010C, w := 17, acc := .rw }
def SCH_DEV_DRIFT_PPB : Fld := { off := 0x120110, w := 16, acc := .rw, rst := 1000, lim := some (100, 20000) }
def SCH_XO_DRIFT_PPB : Fld := { off := 0x120110, lo := 16, w := 16, acc := .rw, rst := 20000, lim := some (1000, 50000) }
def SCH_DRIFT_CUSTOM_PPB : Fld := { off := 0x120114, w := 17, acc := .rw, rst := 100000, lim := some (1, 100000) }
def SCH_DRIFT_MARK_PCT : Fld := { off := 0x120118, w := 7, acc := .rw, rst := 50, lim := some (10, 100) }
def SCH_DISC_GUARD_US : Fld := { off := 0x12011C, w := 16, acc := .rw, rst := 200 }
def SCH_LOST_KEEP_SF : Fld := { off := 0x120120, w := 8, acc := .rw, rst := 4 }
def SCH_KEEP_LISTEN : Fld := { off := 0x120124, w := 1, acc := .rw }
def SCH_AUTO_WAKE_RUN : Fld := { off := 0x120124, lo := 1, w := 1, acc := .rw, rst := 1 }
def SCH_PLACE_EN : Fld := { off := 0x120124, lo := 2, w := 1, acc := .rw }
def SCH_PLACE_RATE : Fld := { off := 0x120128, w := 8, acc := .rw, rst := 8, lim := some (1, 64) }
def SCH_PLACE_MARGIN : Fld := { off := 0x120128, lo := 8, w := 8, acc := .rw, rst := 6, lim := some (1, 20) }
def SCH_BEACON_MODE_L : Fld := { off := 0x12012C, w := 4, acc := .rw }
def SCH_BEACON_MODE_M : Fld := { off := 0x12012C, lo := 8, w := 4, acc := .rw, rst := 1 }
def SCH_BEACON_MCS_M : Fld := { off := 0x12012C, lo := 12, w := 3, acc := .rw }
def SCH_BEACON_MODE_H : Fld := { off := 0x12012C, lo := 16, w := 4, acc := .rw }
def SCH_PAIR_EN : Fld := { off := 0x120130, w := 1 }
def SCH_PAIR_COL : Fld := { off := 0x120130, lo := 16, w := 10 }
def SCH_PAIR_OFF0_US : Fld := { off := 0x120134, w := 17, acc := .rw, rst := 200 }
def SCH_PAIR_OFF1_US : Fld := { off := 0x120138, w := 17, acc := .rw }
def SCH_SLOT_LO : Fld := { off := 0x120140 }
def SCH_SLOT_HI : Fld := { off := 0x120144 }
def SCH_SF_SLOT : Fld := { off := 0x120148, w := 14 }
def SCH_NEXT_EVENT_US : Fld := { off := 0x12014C }
def SCH_COLUMNS : Fld := { off := 0x120150, w := 17 }
def SCH_CELLS_USED : Fld := { off := 0x120154, w := 21 }
def SCH_SYNCED_CNT : Fld := { off := 0x120158, w := 18 }
def SCH_DRIFTING_CNT : Fld := { off := 0x12015C, w := 18 }
def SCH_LOST_CNT : Fld := { off := 0x120160, w := 18 }
def SCH_STATS_TAG : Fld := { off := 0x120180 }
/-! 09_mesh_schedule.md, R292 -/
def SCH_CELL_UNUSED : Fld := { off := 0x120200, acc := .rc }
def SCH_CELL_TOO_SHORT : Fld := { off := 0x120204, acc := .rc }
def SCH_CELL_STALE : Fld := { off := 0x120208, acc := .rc }
def SCH_LATE_END : Fld := { off := 0x12020C, acc := .rc }
def SCH_OUT_OF_WINDOW : Fld := { off := 0x120210, acc := .rc }
def SCH_ACK_NO_ROOM : Fld := { off := 0x120214, acc := .rc }
def SCH_LOST_ENTER : Fld := { off := 0x120218, acc := .rc }
def SCH_RESYNC : Fld := { off := 0x12021C, acc := .rc }
def SCH_GUARD_CLAMP : Fld := { off := 0x120220, acc := .rc }
def SCH_PLACE_MOVES : Fld := { off := 0x120224, acc := .rc }
def SCH_PLACE_CLAMP : Fld := { off := 0x120228, acc := .rc }
def SCH_ALLOC_OK : Fld := { off := 0x12022C, acc := .rc }
def SCH_ALLOC_FAIL : Fld := { off := 0x120230, acc := .rc }
def SCH_WAKE_RUN_FAIL : Fld := { off := 0x120234, acc := .rc }
def SCH_BEACONS_SENT : Fld := { off := 0x120238, acc := .rc }
def SCH_PAIR_HEARD : Fld := { off := 0x12023C, acc := .rc }
def SCH_SLOTS_SKIPPED : Fld := { off := 0x120240, acc := .rc }
def SCH_LOST_RECLAIM : Fld := { off := 0x120244, acc := .rc }
/-! 10_nodes_and_mac.md, R321 -/
def MAC_PAN_ID : Fld := { off := 0x100100, w := 16, acc := .rw, rst := 0xFFFF }
def MAC_SHORT_ADDR : Fld := { off := 0x100100, lo := 16, w := 16, acc := .rw, rst := 0x0 }
def MAC_ACK_TURN_L_US : Fld := { off := 0x100104, w := 11, acc := .rw, rst := 1000, lim := some (192, 2000) }
def MAC_ACK_TURN_M_US : Fld := { off := 0x100104, lo := 16, w := 11, acc := .rw, rst := 1000, lim := some (192, 2000) }
def MAC_ACK_TURN_H_US : Fld := { off := 0x100108, w := 11, acc := .rw, rst := 192, lim := some (192, 2000) }
def MAC_MIN_BE : Fld := { off := 0x10010C, w := 4, acc := .rw, rst := 3 }
def MAC_MAX_BE : Fld := { off := 0x10010C, lo := 4, w := 4, acc := .rw, rst := 5, lim := some (3, 8) }
def MAC_MAX_BACKOFFS : Fld := { off := 0x10010C, lo := 8, w := 3, acc := .rw, rst := 4, lim := some (0, 5) }
def MAC_CCA_ED : Fld := { off := 0x10010C, lo := 16, w := 4, acc := .rw, rst := 10, lim := some (1, 15) }
def MAC_FOLLOW_EN : Fld := { off := 0x100110, w := 1, acc := .rw, rst := 1 }
def MAC_JOIN_TIMEOUT_SF : Fld := { off := 0x100114, w := 8, acc := .rw, rst := 4, lim := some (1, 255) }
def MAC_KEY_INDEX_JOIN : Fld := { off := 0x100114, lo := 8, w := 8, acc := .rw, rst := 0xF0, lim := some (1, 255) }
def MAC_DUP_WINDOW : Fld := { off := 0x100118, w := 16, acc := .rw, rst := 400, lim := some (1, 65535) }
def MAC_UP_MARGIN : Fld := { off := 0x10011C, w := 5, acc := .rw, rst := 3, lim := some (0, 20) }
def MAC_DOWN_MARGIN : Fld := { off := 0x10011C, lo := 8, w := 5, acc := .rw, rst := 1 }
def MAC_UP_COUNT : Fld := { off := 0x10011C, lo := 16, w := 8, acc := .rw, rst := 8, lim := some (1, 255) }
def MAC_DOWN_MISSES : Fld := { off := 0x10011C, lo := 24, w := 4, acc := .rw, rst := 2, lim := some (1, 15) }
def MAC_ACK_MAX_OCTETS : Fld := { off := 0x100120, w := 7, acc := .rw, rst := 40, lim := some (5, 127) }
def MAC_CACHE_USED : Fld := { off := 0x100124, w := 15 }
def MAC_CACHE_PINNED : Fld := { off := 0x100124, lo := 16, w := 15 }
def MAC_STATS_TAG : Fld := { off := 0x100180 }
/-! 10_nodes_and_mac.md, R322 -/
def MAC_RX_ACCEPTED : Fld := { off := 0x100200, acc := .rc }
def MAC_FTYPE_ERR : Fld := { off := 0x100204, acc := .rc }
def MAC_ADDR_MISS : Fld := { off := 0x100208, acc := .rc }
def MAC_UNKNOWN_SRC : Fld := { off := 0x10020C, acc := .rc }
def MAC_STATE_DROP : Fld := { off := 0x100210, acc := .rc }
def MAC_DUPLICATE : Fld := { off := 0x100214, acc := .rc }
def MAC_REPLAY : Fld := { off := 0x100218, acc := .rc }
def MAC_ACK_SENT : Fld := { off := 0x10021C, acc := .rc }
def MAC_ACK_SKIPPED : Fld := { off := 0x100220, acc := .rc }
def MAC_TC_CLAMP : Fld := { off := 0x100224, acc := .rc }
def MAC_FOLLOW_SENT : Fld := { off := 0x100228, acc := .rc }
def MAC_CSMA_FAIL : Fld := { off := 0x10022C, acc := .rc }
def MAC_DROP_RETRY : Fld := { off := 0x100230, acc := .rc }
def MAC_DL_DISCARD : Fld := { off := 0x100234, acc := .rc }
def MAC_JOIN_OK : Fld := { off := 0x100238, acc := .rc }
def MAC_JOIN_TIMEOUT : Fld := { off := 0x10023C, acc := .rc }
def MAC_ADAPT_UP : Fld := { off := 0x100240, acc := .rc }
def MAC_ADAPT_DOWN : Fld := { off := 0x100244, acc := .rc }
def MAC_ADAPT_CLAMP : Fld := { off := 0x100248, acc := .rc }
def MAC_CACHE_HIT : Fld := { off := 0x10024C, acc := .rc }
def MAC_CACHE_MISS : Fld := { off := 0x100250, acc := .rc }
def MAC_CTX_ECC : Fld := { off := 0x100254, acc := .rc }
/-! 11_security_engine.md, R346 -/
def SEC_BEACON_LEVEL : Fld := { off := 0x140100, w := 3, acc := .rw, rst := 2 }
def SEC_BEACON_INDEX : Fld := { off := 0x140100, lo := 8, w := 8, acc := .rw, rst := 0xF1, lim := some (1, 255) }
def SEC_BCAST_LEVEL : Fld := { off := 0x140100, lo := 16, w := 3, acc := .rw, rst := 5 }
def SEC_BCAST_INDEX : Fld := { off := 0x140100, lo := 24, w := 8, acc := .rw, rst := 0xF2, lim := some (1, 255) }
def SEC_BEACON_POCKET : Fld := { off := 0x140104, w := 12, acc := .rw }
def SEC_BEACON_PK_EN : Fld := { off := 0x140104, lo := 15, w := 1, acc := .rw }
def SEC_BCAST_POCKET : Fld := { off := 0x140104, lo := 16, w := 12, acc := .rw }
def SEC_BCAST_PK_EN : Fld := { off := 0x140104, lo := 31, w := 1, acc := .rw }
def SEC_ALLOW_L4 : Fld := { off := 0x140108, w := 1, acc := .rw }
def SEC_DL_LEVEL : Fld := { off := 0x140108, lo := 4, w := 3, acc := .rw, rst := 5, lim := some (1, 7) }
def SEC_FC_LOW_MARK : Fld := { off := 0x14010C, acc := .rw, rst := 0xF0000000 }
def SEC_RESERVE_AHEAD : Fld := { off := 0x140110, w := 12, acc := .rw, rst := 1024, lim := some (64, 2048) }
def SEC_PARITY : Fld := { off := 0x140114, w := 2 }
def SEC_PEER_BEACON_FC : Fld := { off := 0x140118 }
def SEC_MAP_USED : Fld := { off := 0x14011C, w := 6 }
def SEC_STATS_TAG : Fld := { off := 0x140180 }
/-! 11_security_engine.md, R347 -/
def SEC_OPEN_OK : Fld := { off := 0x140200, acc := .rc }
def SEC_AUTH_FAIL : Fld := { off := 0x140204, acc := .rc }
def SEC_NO_KEY : Fld := { off := 0x140208, acc := .rc }
def SEC_LEVEL_ERR : Fld := { off := 0x14020C, acc := .rc }
def SEC_HDR_ERR : Fld := { off := 0x140210, acc := .rc }
def SEC_SEC_LEN_ERR : Fld := { off := 0x140214, acc := .rc }
def SEC_RX_ORPHANED : Fld := { off := 0x140218, acc := .rc }
def SEC_PAIR_REPLAY : Fld := { off := 0x14021C, acc := .rc }
def SEC_SEAL_OK : Fld := { off := 0x140220, acc := .rc }
def SEC_SEAL_KEY_FAIL : Fld := { off := 0x140224, acc := .rc }
def SEC_SEAL_LEN_ERR : Fld := { off := 0x140228, acc := .rc }
def SEC_SEAL_FC_FAIL : Fld := { off := 0x14022C, acc := .rc }
def SEC_ACK_KEY_FAIL : Fld := { off := 0x140230, acc := .rc }
def SEC_BLOCKS_RESERVED : Fld := { off := 0x140234, acc := .rc }
def SEC_CEIL_WRITE_FAIL : Fld := { off := 0x140238, acc := .rc }
/-! 12_key_store.md, R373 -/
def KEY_NODE_EPOCH : Fld := { off := 0x150100 }
def KEY_GRACE_SF : Fld := { off := 0x150104, w := 8, acc := .rw, rst := 2 }
def KEY_AUTO_PROMOTE : Fld := { off := 0x150104, lo := 8, w := 1, acc := .rw, rst := 1 }
def KEY_ROOT_OK : Fld := { off := 0x150108, w := 1 }
def KEY_TEST_ROOT : Fld := { off := 0x150108, lo := 1, w := 1 }
def KEY_HELPER_COPY : Fld := { off := 0x150108, lo := 2, w := 1 }
def KEY_OWNERS : Fld := { off := 0x150108, lo := 4, w := 3 }
def KEY_BASTED_CNT : Fld := { off := 0x15010C, w := 13 }
def KEY_ACTIVE_CNT : Fld := { off := 0x15010C, lo := 16, w := 13 }
def KEY_ORPHANED_CNT : Fld := { off := 0x150110, w := 13 }
def KEY_RETIRED_CNT : Fld := { off := 0x150110, lo := 16, w := 13 }
def KEY_MASTERS : Fld := { off := 0x150114, w := 3 }
def KEY_REKEY_PENDING : Fld := { off := 0x150114, lo := 16, w := 11 }
def KEY_CACHE_USED : Fld := { off := 0x150118, w := 17 }
def KEY_REWRAP_BUSY : Fld := { off := 0x15011C, w := 1 }
def KEY_STATS_TAG : Fld := { off := 0x150180 }
/-! 12_key_store.md, R374 -/
def KEY_DERIVE_CNT : Fld := { off := 0x150200, acc := .rc }
def KEY_CACHE_HIT : Fld := { off := 0x150204, acc := .rc }
def KEY_CACHE_MISS : Fld := { off := 0x150208, acc := .rc }
def KEY_PROMOTE_CNT : Fld := { off := 0x15020C, acc := .rc }
def KEY_VERIFY_FAIL : Fld := { off := 0x150210, acc := .rc }
def KEY_TRIAL_VERIFY : Fld := { off := 0x150214, acc := .rc }
def KEY_ORPHAN_CNT : Fld := { off := 0x150218, acc := .rc }
def KEY_ZEROISE_CNT : Fld := { off := 0x15021C, acc := .rc }
def KEY_REKEY_OK : Fld := { off := 0x150220, acc := .rc }
def KEY_REKEY_FAIL : Fld := { off := 0x150224, acc := .rc }
def KEY_POCKET_LOST : Fld := { off := 0x150228, acc := .rc }
def KEY_COMMIT_FAIL : Fld := { off := 0x15022C, acc := .rc }
/-! 13_forwarding_tables.md, R405 -/
def FWD_LEARN_EN0 : Fld := { off := 0x180100, w := 1, acc := .rw }
def FWD_LEARN_EN1 : Fld := { off := 0x180100, lo := 1, w := 1, acc := .rw }
def FWD_AGE_EN : Fld := { off := 0x180100, lo := 2, w := 1, acc := .rw, rst := 1 }
def FWD_DARNER_EN : Fld := { off := 0x180100, lo := 3, w := 1, acc := .rw, rst := 1 }
def FWD_MISS_ACTION : Fld := { off := 0x180100, lo := 4, w := 2, acc := .rw, lim := some (0, 1) }
def FWD_MISS_QUEUE : Fld := { off := 0x180104, w := 13, acc := .rw }
def FWD_LEARN_QUEUE0 : Fld := { off := 0x180108, w := 13, acc := .rw }
def FWD_LEARN_QUEUE1 : Fld := { off := 0x180108, lo := 16, w := 13, acc := .rw }
def FWD_MOVE_HOLD : Fld := { off := 0x18010C, w := 16, acc := .rw, rst := 8, lim := some (1, 65535) }
def FWD_AGE_PASS : Fld := { off := 0x180110, w := 24, acc := .rw, rst := 1200000, lim := some (64, 16777215) }
def FWD_LEARN_LIMIT : Fld := { off := 0x180114, w := 20, acc := .rw }
def FWD_DARNER_GROUP : Fld := { off := 0x180118, w := 9, acc := .rw, rst := 64, lim := some (16, 256) }
def FWD_STASH_MARK : Fld := { off := 0x180118, lo := 16, w := 5, acc := .rw, rst := 12, lim := some (1, 16) }
def FWD_EXM_USED : Fld := { off := 0x180120, w := 20 }
def FWD_EXM_STASH : Fld := { off := 0x180120, lo := 24, w := 5 }
def FWD_LEARNED_USED : Fld := { off := 0x180124, w := 20 }
def FWD_LPM_USED : Fld := { off := 0x180128, w := 17 }
def FWD_LPM_STASH : Fld := { off := 0x180128, lo := 24, w := 5 }
def FWD_LEN_ACTIVE : Fld := { off := 0x18012C, w := 5 }
def FWD_LEN_VEC (i : Nat) : Fld := { off := 0x180130 + 0x4 * i }
def FWD_EXM_RH : Fld := { off := 0x180150, w := 1 }
def FWD_EXM_TGT : Fld := { off := 0x180150, lo := 1, w := 1 }
def FWD_LPM_RH : Fld := { off := 0x180150, lo := 2, w := 1 }
def FWD_LPM_TGT : Fld := { off := 0x180150, lo := 3, w := 1 }
def FWD_REFILTERING : Fld := { off := 0x180150, lo := 4, w := 1 }
def FWD_EXM_RH_LEFT : Fld := { off := 0x180154, w := 20 }
def FWD_EXM_RH_CURSOR : Fld := { off := 0x180158, w := 17 }
def FWD_LPM_RH_LEFT : Fld := { off := 0x18015C, w := 17 }
def FWD_LPM_RH_CURSOR : Fld := { off := 0x180160, w := 14 }
def FWD_EXM_STASH_HI : Fld := { off := 0x180164, w := 1, acc := .w1c }
def FWD_EXM_STASH_LVL : Fld := { off := 0x180164, lo := 1, w := 1 }
def FWD_LPM_STASH_HI : Fld := { off := 0x180164, lo := 2, w := 1, acc := .w1c }
def FWD_LPM_STASH_LVL : Fld := { off := 0x180164, lo := 3, w := 1 }
def FWD_LEARN_DEPTH : Fld := { off := 0x180168, w := 9 }
def FWD_LEARN_PEAK : Fld := { off := 0x180168, lo := 16, w := 9, acc := .rc }
def FWD_DARNER_POS : Fld := { off := 0x18016C, w := 17 }
def FWD_DARNER_TBL : Fld := { off := 0x18016C, lo := 24, w := 1 }
def FWD_FILT_STALE : Fld := { off := 0x180170, w := 16 }
def FWD_REPAIR_PEND : Fld := { off := 0x180174, w := 5 }
def FWD_STATS_TAG : Fld := { off := 0x180180 }
def FWD_EXM_SEED0_A : Fld := { off := 0x180190, rst := 0xFFFFFFFF }
def FWD_EXM_SEED1_A : Fld := { off := 0x180194, rst := 0xFFFFFFFF }
def FWD_EXM_SEED0_B : Fld := { off := 0x180198 }
def FWD_EXM_SEED1_B : Fld := { off := 0x18019C }
def FWD_LPM_SEED0_A : Fld := { off := 0x1801A0, rst := 0xFFFFFFFF }
def FWD_LPM_SEED1_A : Fld := { off := 0x1801A4, rst := 0xFFFFFFFF }
def FWD_LPM_SEED0_B : Fld := { off := 0x1801A8 }
def FWD_LPM_SEED1_B : Fld := { off := 0x1801AC }
/-! 13_forwarding_tables.md, R406 -/
def FWD_LOOKUPS : Fld := { off := 0x180200, acc := .rc }
def FWD_EXM_HIT : Fld := { off := 0x180204, acc := .rc }
def FWD_LPM_HIT : Fld := { off := 0x180208, acc := .rc }
def FWD_MISS : Fld := { off := 0x18020C, acc := .rc }
def FWD_PROBES : Fld := { off := 0x180210, acc := .rc }
def FWD_FILTER_SKIP : Fld := { off := 0x180214, acc := .rc }
def FWD_LOOKUP_STALL : Fld := { off := 0x180218, acc := .rc }
def FWD_LEARN_INSTALL : Fld := { off := 0x18021C, acc := .rc }
def FWD_MAC_CHANGE : Fld := { off := 0x180220, acc := .rc }
def FWD_MOVED : Fld := { off := 0x180224, acc := .rc }
def FWD_FLAP : Fld := { off := 0x180228, acc := .rc }
def FWD_LEARN_CONFLICT : Fld := { off := 0x18022C, acc := .rc }
def FWD_LEARN_LIMIT_HIT : Fld := { off := 0x180230, acc := .rc }
def FWD_LEARN_DROP : Fld := { off := 0x180234, acc := .rc }
def FWD_LEARN_FULL : Fld := { off := 0x180238, acc := .rc }
def FWD_AGED : Fld := { off := 0x18023C, acc := .rc }
def FWD_AGE_HIT_WIN : Fld := { off := 0x180240, acc := .rc }
def FWD_RELOC_MOVES : Fld := { off := 0x180244, acc := .rc }
def FWD_INSERT_FULL : Fld := { off := 0x180248, acc := .rc }
def FWD_STASH_DRAIN : Fld := { off := 0x18024C, acc := .rc }
def FWD_DARNER_REPAIR : Fld := { off := 0x180250, acc := .rc }
def FWD_ECC_CORR : Fld := { off := 0x180254, acc := .rc }
def FWD_ECC_MASKED : Fld := { off := 0x180258, acc := .rc }
def FWD_SHADOW_FIX : Fld := { off := 0x18025C, acc := .rc }
def FWD_ENTRY_LOST : Fld := { off := 0x180260, acc := .rc }
/-! 14_queues.md, R426 -/
def QMG_SPILL_RESERVED : Fld := { off := 0x1C0100, w := 17 }
def QMG_SPILL_USED : Fld := { off := 0x1C0104, w := 17 }
def QMG_SPILL_PEAK : Fld := { off := 0x1C0108, w := 17, acc := .rc }
def QMG_NONEMPTY : Fld := { off := 0x1C010C, w := 14 }
def QMG_STATS_TAG : Fld := { off := 0x1C0180 }
def QMG_G_MODE (g : Nat) : Fld := { off := 0x1C1000 + 0x20 * g, w := 1 }
def QMG_G_HI_ANY (g : Nat) : Fld := { off := 0x1C1000 + 0x20 * g, lo := 1, w := 1 }
def QMG_G_LO_ANY (g : Nat) : Fld := { off := 0x1C1000 + 0x20 * g, lo := 2, w := 1 }
def QMG_G_FIRST_Q (g : Nat) : Fld := { off := 0x1C1000 + 0x20 * g, lo := 16, w := 13 }
def QMG_G_ECC_CORR_SRAM (g : Nat) : Fld := { off := 0x1C1004 + 0x20 * g, acc := .rc }
def QMG_G_ECC_CORR_DRAM (g : Nat) : Fld := { off := 0x1C1008 + 0x20 * g, acc := .rc }
def QMG_G_ECC_UNCORR (g : Nat) : Fld := { off := 0x1C100C + 0x20 * g, acc := .rc }
def QMG_G_PUSH_FULL (g : Nat) : Fld := { off := 0x1C1010 + 0x20 * g, acc := .rc }
def QMG_G_ITEMS (g : Nat) : Fld := { off := 0x1C1014 + 0x20 * g }
def QMG_HI_STICKY (i : Nat) : Fld := { off := 0x1C4000 + 0x4 * i, acc := .w1c }
def QMG_HI_LVL (i : Nat) : Fld := { off := 0x1C4400 + 0x4 * i }
def QMG_LO_STICKY (i : Nat) : Fld := { off := 0x1C4800 + 0x4 * i, acc := .w1c }
def QMG_LO_LVL (i : Nat) : Fld := { off := 0x1C4C00 + 0x4 * i }
/-! 14_queues.md, R427 -/
def QMG_PUSH_OK : Fld := { off := 0x1C0200, acc := .rc }
def QMG_PUSH_FULL : Fld := { off := 0x1C0204, acc := .rc }
def QMG_PUSH_TOO_LONG : Fld := { off := 0x1C0208, acc := .rc }
def QMG_PUSH_OVERRUN : Fld := { off := 0x1C020C, acc := .rc }
def QMG_RELEASED : Fld := { off := 0x1C0210, acc := .rc }
def QMG_RETURNED : Fld := { off := 0x1C0214, acc := .rc }
def QMG_DROP_REST_CNT : Fld := { off := 0x1C0218, acc := .rc }
def QMG_ECC_DROP : Fld := { off := 0x1C021C, acc := .rc }
def QMG_FLUSHED : Fld := { off := 0x1C0220, acc := .rc }
def QMG_ACT_DISCARD : Fld := { off := 0x1C0224, acc := .rc }
/-! 15_traffic_manager.md, R444 -/
def TMG_WIN_STITCHES : Fld := { off := 0x1E0100, w := 16, acc := .rw, rst := 4000, lim := some (1, 65535) }
def TMG_MESH_RATE_KBPS : Fld := { off := 0x1E0104, w := 17, acc := .rw, rst := 2000, lim := some (100, 100000) }
def TMG_STATS_TAG : Fld := { off := 0x1E0180 }
def TMG_OVERHEAD (p : Nat) : Fld := { off := 0x1E0200 + 0x40 * p, w := 9, acc := .rw, rst := if p < 2 then 20 else 0, lim := some (-64, 255), sgn := true }
def TMG_GATE_EN (p : Nat) : Fld := { off := 0x1E0200 + 0x40 * p, lo := 16, w := 1, acc := .rw }
def TMG_GATE_STATE (p : Nat) : Fld := { off := 0x1E0204 + 0x40 * p, w := 8, rst := 0xFF }
def TMG_SWITCH_PEND (p : Nat) : Fld := { off := 0x1E0204 + 0x40 * p, lo := 8, w := 1 }
def TMG_ENTRY (p : Nat) : Fld := { off := 0x1E0204 + 0x40 * p, lo := 16, w := 8 }
def TMG_OPER_LEN (p : Nat) : Fld := { off := 0x1E0208 + 0x40 * p, w := 9, rst := 1 }
def TMG_OPER_CYCLE_NS (p : Nat) : Fld := { off := 0x1E020C + 0x40 * p, rst := 1000000 }
def TMG_TAKEOVER_NS (p : Nat) : Fld := { off := 0x1E0210 + 0x40 * p }
def TMG_TAKEOVER_SEC_LO (p : Nat) : Fld := { off := 0x1E0214 + 0x40 * p }
def TMG_TAKEOVER_SEC_HI (p : Nat) : Fld := { off := 0x1E0218 + 0x40 * p, w := 16 }
def TMG_ITEMS_SENT (p : Nat) : Fld := { off := 0x1E0220 + 0x40 * p, acc := .rc }
def TMG_OCTETS_CHARGED (p : Nat) : Fld := { off := 0x1E0224 + 0x40 * p, acc := .rc }
def TMG_GATE_HOLD (p : Nat) : Fld := { off := 0x1E0228 + 0x40 * p, acc := .rc }
def TMG_GATE_TOO_LONG (p : Nat) : Fld := { off := 0x1E022C + 0x40 * p, acc := .rc }
def TMG_GATE_LATE (p : Nat) : Fld := { off := 0x1E0230 + 0x40 * p, acc := .rc }
def TMG_GATE_SWITCHES (p : Nat) : Fld := { off := 0x1E0234 + 0x40 * p, acc := .rc }
/-! 16_mesh_services.md, R466 -/
def SVC_RUNNING : Fld := { off := 0x260100, w := 5 }
def SVC_FRAG_PSDU_L : Fld := { off := 0x260104, w := 11, acc := .rw, rst := 127, lim := some (64, 2047) }
def SVC_FRAG_PSDU_M : Fld := { off := 0x260104, lo := 16, w := 11, acc := .rw, rst := 127, lim := some (64, 2047) }
def SVC_FRAG_PSDU_H : Fld := { off := 0x260108, w := 7, acc := .rw, rst := 127, lim := some (64, 127) }
def SVC_REASM_TIMEOUT_S : Fld := { off := 0x26010C, w := 6, acc := .rw, rst := 60, lim := some (1, 60) }
def SVC_CSUM_ELIDE_OK : Fld := { off := 0x26010C, lo := 8, w := 1, acc := .rw }
def SVC_MAX_DEPTH : Fld := { off := 0x260110, w := 5, acc := .rw, rst := 16, lim := some (1, 16) }
def SVC_REG_MAX_PER_NODE : Fld := { off := 0x260110, lo := 8, w := 4, acc := .rw, rst := 4, lim := some (1, 8) }
def SVC_REASM_USED : Fld := { off := 0x260114, w := 13 }
def SVC_REG_USED : Fld := { off := 0x260118, w := 20 }
def SVC_CAMP_ACTIVE : Fld := { off := 0x26011C, w := 4 }
def SVC_STATS_TAG : Fld := { off := 0x260180 }
/-! 16_mesh_services.md, R467 -/
def SVC_DECOMP_ERR : Fld := { off := 0x260200, acc := .rc }
def SVC_ADAPT_STOPPED : Fld := { off := 0x260204, acc := .rc }
def SVC_REASM_OK : Fld := { off := 0x260208, acc := .rc }
def SVC_REASM_ERR : Fld := { off := 0x26020C, acc := .rc }
def SVC_REASM_FULL : Fld := { off := 0x260210, acc := .rc }
def SVC_REASM_TIMEOUT : Fld := { off := 0x260214, acc := .rc }
def SVC_TOO_BIG : Fld := { off := 0x260218, acc := .rc }
def SVC_NO_ROUTE : Fld := { off := 0x26021C, acc := .rc }
def SVC_DAO_OK : Fld := { off := 0x260220, acc := .rc }
def SVC_DAO_STALE : Fld := { off := 0x260224, acc := .rc }
def SVC_DAO_UNKNOWN : Fld := { off := 0x260228, acc := .rc }
def SVC_DAO_LOOP : Fld := { off := 0x26022C, acc := .rc }
def SVC_ROUTE_EXPIRED : Fld := { off := 0x260230, acc := .rc }
def SVC_PARENT_CHANGES : Fld := { off := 0x260234, acc := .rc }
def SVC_REG_OK : Fld := { off := 0x260238, acc := .rc }
def SVC_REG_DUP : Fld := { off := 0x26023C, acc := .rc }
def SVC_REG_STALE : Fld := { off := 0x260240, acc := .rc }
def SVC_REG_FULL : Fld := { off := 0x260244, acc := .rc }
def SVC_REG_INVALID : Fld := { off := 0x260248, acc := .rc }
def SVC_REG_EXPIRED : Fld := { off := 0x26024C, acc := .rc }
def SVC_IMG_BLOCKS_SENT : Fld := { off := 0x260250, acc := .rc }
def SVC_IMG_IGNORED : Fld := { off := 0x260254, acc := .rc }
def SVC_SVC_DROP : Fld := { off := 0x260258, acc := .rc }
/-! 17_twin_operation.md, R490 -/
def SEA_ROLE : Fld := { off := 0x220100, w := 3, rst := 4 }
def SEA_MIRROR : Fld := { off := 0x220100, lo := 4, w := 2 }
def SEA_BASED : Fld := { off := 0x220100, lo := 6, w := 1 }
def SEA_STBY_REC : Fld := { off := 0x220100, lo := 7, w := 1 }
def SEA_CLAIM_OUT : Fld := { off := 0x220100, lo := 8, w := 1 }
def SEA_CLAIM_IN : Fld := { off := 0x220100, lo := 9, w := 1 }
def SEA_BLOCK_LOCK : Fld := { off := 0x220100, lo := 10, w := 1 }
def SEA_PAIRED : Fld := { off := 0x220100, lo := 11, w := 1 }
def SEA_PAIR_EPOCH : Fld := { off := 0x220104 }
def SEA_PEER_EPOCH : Fld := { off := 0x220108 }
def SEA_PEER_EUI_LO : Fld := { off := 0x22010C }
def SEA_PEER_EUI_HI : Fld := { off := 0x220110 }
def SEA_PAIR_POCKET : Fld := { off := 0x220114, w := 12, acc := .rwl }
def SEA_PAIR_PK_EN : Fld := { off := 0x220114, lo := 15, w := 1, acc := .rwl }
def SEA_LISTEN_STITCHES : Fld := { off := 0x220118, w := 16, acc := .rw, rst := 8000, lim := some (400, 65535) }
def SEA_AUTO_PAIR : Fld := { off := 0x220118, lo := 16, w := 1, acc := .rw, rst := 1 }
def SEA_AUTO_CLAIM : Fld := { off := 0x220118, lo := 17, w := 1, acc := .rw, rst := 1 }
def SEA_MISS_RUN : Fld := { off := 0x22011C, w := 4 }
def SEA_LAG : Fld := { off := 0x22011C, lo := 8, w := 8 }
def SEA_SKEW_NS : Fld := { off := 0x220120, rst := 0x80000000 }
def SEA_SKEW_LIMIT_NS : Fld := { off := 0x220124, w := 17, acc := .rw, rst := 1000, lim := some (100, 100000) }
def SEA_BULK_ITEMS : Fld := { off := 0x220128 }
def SEA_MIRROR_SEQ : Fld := { off := 0x22012C }
def SEA_STATS_TAG : Fld := { off := 0x220180 }
/-! 17_twin_operation.md, R491 -/
def SEA_HB_SENT : Fld := { off := 0x220200, acc := .rc }
def SEA_HB_MISSED : Fld := { off := 0x220204, acc := .rc }
def SEA_TAG_FAIL : Fld := { off := 0x220208, acc := .rc }
def SEA_RETRANSMIT : Fld := { off := 0x22020C, acc := .rc }
def SEA_REC_SENT : Fld := { off := 0x220210, acc := .rc }
def SEA_REC_APPLIED : Fld := { off := 0x220214, acc := .rc }
def SEA_BULK_PASSES : Fld := { off := 0x220218, acc := .rc }
def SEA_CLAIMS : Fld := { off := 0x22021C, acc := .rc }
def SEA_CLAIMS_LOST : Fld := { off := 0x220220, acc := .rc }
def SEA_RETREATS : Fld := { off := 0x220224, acc := .rc }
def SEA_HANDOVERS : Fld := { off := 0x220228, acc := .rc }
def SEA_STBY_RX_DROP : Fld := { off := 0x22022C, acc := .rc }
def SEA_STBY_DL_DROP : Fld := { off := 0x220230, acc := .rc }
def SEA_STALE_CNT : Fld := { off := 0x220234, acc := .rc }
def SEA_SKEW_ALARMS : Fld := { off := 0x220238, acc := .rc }
/-! 18_device_update.md, R508 -/
def UPD_PHASE : Fld := { off := 0x240100, w := 3 }
def UPD_CUR_BANK : Fld := { off := 0x240100, lo := 4, w := 1 }
def UPD_TRIAL : Fld := { off := 0x240100, lo := 5, w := 1 }
def UPD_BANK0_STATE : Fld := { off := 0x240100, lo := 8, w := 3 }
def UPD_BANK1_STATE : Fld := { off := 0x240100, lo := 12, w := 3 }
def UPD_CUR_MANIFEST_VER : Fld := { off := 0x240104 }
def UPD_OTHER_MANIFEST_VER : Fld := { off := 0x240108 }
def UPD_BANK_MIB : Fld := { off := 0x24010C, w := 16 }
def UPD_INSTALL_OCTETS : Fld := { off := 0x240110 }
def UPD_PAUSE_STITCH : Fld := { off := 0x240114 }
def UPD_LAST_PAUSE_US : Fld := { off := 0x240118, w := 16 }
def UPD_LAST_RESULT : Fld := { off := 0x24011C, w := 8 }
def UPD_STATS_TAG : Fld := { off := 0x240180 }
/-! 18_device_update.md, R509 -/
def UPD_INSTALLS : Fld := { off := 0x240200, acc := .rc }
def UPD_INSTALL_FAIL : Fld := { off := 0x240204, acc := .rc }
def UPD_ACTIVATIONS : Fld := { off := 0x240208, acc := .rc }
def UPD_ACT_FAIL : Fld := { off := 0x24020C, acc := .rc }
def UPD_REVERTS : Fld := { off := 0x240210, acc := .rc }
def UPD_RECORDS_MIGRATED : Fld := { off := 0x240214, acc := .rc }
/-! 19_power_and_thermal.md, R528 -/
def PWR_PSTATE : Fld := { off := 0x20100, w := 3 }
def PWR_BATTERY : Fld := { off := 0x20100, lo := 3, w := 1 }
def PWR_VIN_GOOD : Fld := { off := 0x20100, lo := 4, w := 1 }
def PWR_VBAK_GOOD : Fld := { off := 0x20100, lo := 5, w := 1 }
def PWR_WAKE_CAUSE : Fld := { off := 0x20100, lo := 8, w := 3 }
def PWR_MARGIN_US : Fld := { off := 0x20104, w := 10, acc := .rw, rst := 50, lim := some (10, 1000) }
def PWR_MAX_STATE : Fld := { off := 0x20104, lo := 16, w := 3, acc := .rw, rst := 4, lim := some (0, 4) }
def PWR_BATT_EN : Fld := { off := 0x20108, w := 1, acc := .rw }
def PWR_DOZE_EN : Fld := { off := 0x20108, lo := 1, w := 1, acc := .rw, rst := 1 }
def PWR_LAST_GASP_EN : Fld := { off := 0x20108, lo := 2, w := 1, acc := .rw, rst := 1 }
def PWR_DOZE_ERR_PPM : Fld := { off := 0x2010C, w := 14, acc := .rw, rst := 20, lim := some (1, 10000) }
def PWR_RC_ERR_PPM : Fld := { off := 0x2010C, lo := 16, w := 14, acc := .rw, rst := 5000, lim := some (100, 10000) }
def PWR_NEXT_US : Fld := { off := 0x20110 }
def PWR_WAKE_AT_US : Fld := { off := 0x20114 }
def PWR_VIN_MV : Fld := { off := 0x20118, w := 16 }
def PWR_VBAK_MV : Fld := { off := 0x20118, lo := 16, w := 16 }
def PWR_PVIN_MW : Fld := { off := 0x2011C, w := 16 }
def PWR_TJ_MAX : Fld := { off := 0x2011C, lo := 16, w := 8 }
def PWR_TJ_SENSOR : Fld := { off := 0x2011C, lo := 24, w := 3 }
def PWR_SHED_LANES : Fld := { off := 0x20120, w := 3 }
def PWR_CARRIER_CLAMP : Fld := { off := 0x20120, lo := 4, w := 2 }
def PWR_SHED_MASK : Fld := { off := 0x20120, lo := 8, w := 7 }
def PWR_GOV_THERMAL : Fld := { off := 0x20120, lo := 16, w := 1 }
def PWR_GOV_POWER : Fld := { off := 0x20120, lo := 17, w := 1 }
def PWR_SHED_ORDER : Fld := { off := 0x20124, w := 28, acc := .rw, rst := 0x561234 }
def PWR_TJ_S (i : Nat) : Fld := { off := 0x20140 + 0x4 * i, w := 8 }
def PWR_STATS_TAG : Fld := { off := 0x20180 }
def PWR_IDLE_ENTRIES : Fld := { off := 0x20200, acc := .rc }
def PWR_NAP_ENTRIES : Fld := { off := 0x20204, acc := .rc }
def PWR_DROWSE_ENTRIES : Fld := { off := 0x20208, acc := .rc }
def PWR_DOZE_ENTRIES : Fld := { off := 0x2020C, acc := .rc }
def PWR_DOZE_ABORT : Fld := { off := 0x20210, acc := .rc }
def PWR_DOZE_MS : Fld := { off := 0x20214, acc := .rc }
def PWR_LATE_WAKE : Fld := { off := 0x20218, acc := .rc }
def PWR_BATT_ENTRIES : Fld := { off := 0x2021C, acc := .rc }
def PWR_GOV_STEPS : Fld := { off := 0x20220, acc := .rc }
def PWR_CLAMP_CNT : Fld := { off := 0x20224, acc := .rc }
/-! 20_host_interfaces.md, R550 -/
def ETH_MGMT_PORT : Fld := { off := 0x200080, w := 16, acc := .rw, rst := 47160, lim := some (1, 65535) }
def ETH_MGMT_POCKET : Fld := { off := 0x200084, w := 12, acc := .rw }
def ETH_ETH_OTHER_Q : Fld := { off := 0x200088, w := 13, acc := .rw }
def ETH_PTP_Q : Fld := { off := 0x200088, lo := 16, w := 13, acc := .rw }
def ETH_MGMT_ADDR (i : Nat) : Fld := { off := 0x200090 + 0x4 * i, acc := .rw }
def ETH_MGMT_AUTH_FAIL : Fld := { off := 0x2000A0, acc := .rc }
def ETH_EN (p : Nat) : Fld := { off := 0x200100 + 0x40 * p, w := 1, acc := .rw, rst := if p = 0 then 1 else 0 }
def ETH_MODE (p : Nat) : Fld := { off := 0x200100 + 0x40 * p, lo := 1, w := 3, acc := .rwl, rst := 2, lim := some (0, 3) }
def ETH_AN_EN (p : Nat) : Fld := { off := 0x200100 + 0x40 * p, lo := 4, w := 1, acc := .rwl, rst := 1 }
def ETH_MAX_FRAME (p : Nat) : Fld := { off := 0x200104 + 0x40 * p, w := 14, acc := .rw, rst := 1522, lim := some (1518, 9018) }
def ETH_PVID (p : Nat) : Fld := { off := 0x200104 + 0x40 * p, lo := 16, w := 12, acc := .rw, rst := 1 }
def ETH_MAC_LO (p : Nat) : Fld := { off := 0x200108 + 0x40 * p, acc := .rw, rst := Config.stationAddr p % 2 ^ 32 }
def ETH_MAC_HI (p : Nat) : Fld := { off := 0x20010C + 0x40 * p, w := 16, acc := .rw, rst := Config.stationAddr p / 2 ^ 32 }
def ETH_LINK (p : Nat) : Fld := { off := 0x200110 + 0x40 * p, w := 1 }
def ETH_SGMII_SPEED (p : Nat) : Fld := { off := 0x200110 + 0x40 * p, lo := 1, w := 2 }
def ETH_AN_DONE (p : Nat) : Fld := { off := 0x200110 + 0x40 * p, lo := 3, w := 1 }
def ETH_HELD (p : Nat) : Fld := { off := 0x200110 + 0x40 * p, lo := 4, w := 1 }
def ETH_RX_FRAMES (p : Nat) : Fld := { off := 0x200120 + 0x40 * p, acc := .rc }
def ETH_RX_OCTETS (p : Nat) : Fld := { off := 0x200124 + 0x40 * p, acc := .rc }
def ETH_RX_FCS_ERR (p : Nat) : Fld := { off := 0x200128 + 0x40 * p, acc := .rc }
def ETH_RX_TOO_LONG (p : Nat) : Fld := { off := 0x20012C + 0x40 * p, acc := .rc }
def ETH_RX_CTRL (p : Nat) : Fld := { off := 0x200130 + 0x40 * p, acc := .rc }
def ETH_RX_NO_BUF (p : Nat) : Fld := { off := 0x200134 + 0x40 * p, acc := .rc }
def ETH_TX_FRAMES (p : Nat) : Fld := { off := 0x200138 + 0x40 * p, acc := .rc }
def ETH_TX_OCTETS (p : Nat) : Fld := { off := 0x20013C + 0x40 * p, acc := .rc }
/-- R550 gives port 0's counter the offset of port 1's first word; that word is port 1's, and port 0's count has none (log entry 25). -/
def ETH_SAFE_DISCARD (p : Nat) : Fld := { off := if p = 0 then 0x400140 else 0x200180, acc := .rc }
/-! 20_host_interfaces.md, R551 -/
def HIF_LINK_UP : Fld := { off := 0x280100, w := 1 }
def HIF_WIDTH : Fld := { off := 0x280100, lo := 1, w := 2 }
def HIF_SPEED : Fld := { off := 0x280100, lo := 3, w := 3 }
def HIF_BUS_MASTER : Fld := { off := 0x280100, lo := 6, w := 1 }
def HIF_SPI_FRAME_ERR : Fld := { off := 0x280104, acc := .rc }
def HIF_UART_DROP : Fld := { off := 0x280108, acc := .rc }
def HIF_RX_BASE_LO (k : Nat) : Fld := { off := 0x280200 + 0x20 * k, acc := .rwl }
def HIF_TX_BASE_LO (k : Nat) : Fld := { off := 0x280400 + 0x20 * k, acc := .rwl }
def HIF_RX_BASE_HI (k : Nat) : Fld := { off := 0x280204 + 0x20 * k, acc := .rwl }
def HIF_TX_BASE_HI (k : Nat) : Fld := { off := 0x280404 + 0x20 * k, acc := .rwl }
def HIF_RX_SIZE_LOG2 (k : Nat) : Fld := { off := 0x280208 + 0x20 * k, w := 4, acc := .rwl, rst := 6, lim := some (6, 12) }
def HIF_TX_SIZE_LOG2 (k : Nat) : Fld := { off := 0x280408 + 0x20 * k, w := 4, acc := .rwl, rst := 6, lim := some (6, 12) }
def HIF_RX_EN (k : Nat) : Fld := { off := 0x280208 + 0x20 * k, lo := 8, w := 1, acc := .rw }
def HIF_TX_EN (k : Nat) : Fld := { off := 0x280408 + 0x20 * k, lo := 8, w := 1, acc := .rw }
def HIF_RX_TAIL (k : Nat) : Fld := { off := 0x28020C + 0x20 * k, w := 12, acc := .rw }
def HIF_TX_TAIL (k : Nat) : Fld := { off := 0x28040C + 0x20 * k, w := 12, acc := .rw }
def HIF_RX_HEAD (k : Nat) : Fld := { off := 0x280210 + 0x20 * k, w := 12 }
def HIF_TX_HEAD (k : Nat) : Fld := { off := 0x280410 + 0x20 * k, w := 12 }
def HIF_RX_DONE_CNT (k : Nat) : Fld := { off := 0x280214 + 0x20 * k, acc := .rc }
def HIF_TX_DONE_CNT (k : Nat) : Fld := { off := 0x280414 + 0x20 * k, acc := .rc }
def HIF_RX_FAIL_CNT (k : Nat) : Fld := { off := 0x280218 + 0x20 * k, acc := .rc }
def HIF_TX_FAIL_CNT (k : Nat) : Fld := { off := 0x280418 + 0x20 * k, acc := .rc }
def HIF_HOST_RING_MAP (i : Nat) : Fld := { off := 0x284000 + 0x4 * i, acc := .rw }
def NTC_RING_BASE_LO : Fld := { off := 0x50000, acc := .rwl }
def NTC_RING_BASE_HI : Fld := { off := 0x50004, acc := .rwl }
def NTC_EN : Fld := { off := 0x50008, w := 1, acc := .rw }
def NTC_LOC : Fld := { off := 0x50008, lo := 1, w := 1, acc := .rwl }
def NTC_MIN_SEV : Fld := { off := 0x50008, lo := 4, w := 2, acc := .rw }
def NTC_WR_IDX : Fld := { off := 0x5000C, w := 12 }
def NTC_RD_IDX : Fld := { off := 0x50010, w := 12, acc := .rw }
def NTC_LOST_CNT : Fld := { off := 0x50014, acc := .rc }
def NTC_FILTERED : Fld := { off := 0x50018, acc := .rc }
def NTC_SRC_EN_LO : Fld := { off := 0x50020, acc := .rw, rst := 0xFFFFFFFF }
def NTC_SRC_EN_HI : Fld := { off := 0x50024, acc := .rw, rst := 0xFFFFFFFF }
def NTC_INT_PEND : Fld := { off := 0x50030, acc := .w1c }
def NTC_INT_MASK : Fld := { off := 0x50034, acc := .rw }
def NTC_HOLDOFF_US : Fld := { off := 0x50038, w := 16, acc := .rw, rst := 100 }
def NTC_BATCH : Fld := { off := 0x50038, lo := 16, w := 12, acc := .rw, rst := 64, lim := some (1, 4095) }
/-! 20_host_interfaces.md, R552 -/
def GLB_PART_NUM : Fld := { off := 0x0, w := 16, rst := 0x7160 }
def GLB_STEPPING : Fld := { off := 0x0, lo := 16, w := 8, rst := 0xC0 }
def GLB_DEVICE_ID_LO : Fld := { off := 0x4, rst := Config.deviceId % 2 ^ 32 }
def GLB_DEVICE_ID_HI : Fld := { off := 0x8, rst := Config.deviceId / 2 ^ 32 }
def GLB_EUI64_LO : Fld := { off := 0xC, rst := Config.deviceEui % 2 ^ 32 }
def GLB_EUI64_HI : Fld := { off := 0x10, rst := Config.deviceEui / 2 ^ 32 }
def GLB_UART_WR_EN : Fld := { off := 0x20, w := 1, acc := .rw }
def GLB_UART_LOG : Fld := { off := 0x20, lo := 1, w := 1, acc := .rw }
def GLB_UART_RATE : Fld := { off := 0x20, lo := 2, w := 2, acc := .rw }
def GLB_LOCKED_WR_CNT : Fld := { off := 0x24, acc := .rc }
def GLB_SLIP_CNT : Fld := { off := 0x28, acc := .rc }
def GLB_SCRATCH : Fld := { off := 0x2C, acc := .rw }
/-! 21_pins_and_electrical.md, R562 -/
def GLB_DRIVE (i : Nat) : Fld := { off := 0x400 + 0x4 * i, w := 2, acc := .rw, rst := 1 }
def GLB_PULL (i : Nat) : Fld := { off := 0x400 + 0x4 * i, lo := 2, w := 2, acc := .rw, rst := 1, lim := some (0, 2) }
def GLB_SLOW (i : Nat) : Fld := { off := 0x400 + 0x4 * i, lo := 4, w := 1, acc := .rw }
def GLB_FUNC (i : Nat) : Fld := { off := 0x400 + 0x4 * i, lo := 8, w := 2 }
/-! 20_host_interfaces.md, R553 -/
def DBG_STRAP : Fld := { off := 0x3F0100, w := 1 }
def DBG_REQ : Fld := { off := 0x3F0100, lo := 1, w := 1 }
def DBG_TEST_ROOT : Fld := { off := 0x3F0100, lo := 2, w := 1 }

/-- One row of the field table: the field, or the `n` fields of an array, `stride` octets apart. -/
structure Row where
  fld : Nat → Fld
  n : Nat := 1
  stride : Nat := 0

/-- The field of a row at a window offset, where the row has one. -/
def Row.at? (r : Row) (off : Nat) : Option Fld :=
  let base := (r.fld 0).off
  if off < base then none
  else if r.n = 1 then (if off = base then some (r.fld 0) else none)
  else if (off - base) % r.stride = 0 ∧ (off - base) / r.stride < r.n then some (r.fld ((off - base) / r.stride))
  else none

def rows_00_0 : List Row := [⟨fun _ => GLB_PATTERN_ID_LO, 1, 0x0⟩,
  ⟨fun _ => GLB_PATTERN_ID_HI, 1, 0x0⟩,
  ⟨fun _ => GLB_PATTERN_VER, 1, 0x0⟩,
  ⟨fun _ => GLB_PATTERN_COPY, 1, 0x0⟩,
  ⟨GLB_PATTERN_HASH, 8, 0x4⟩,
  ⟨fun _ => GLB_STRUCT_REJECT_CNT, 1, 0x0⟩,
  ⟨fun _ => GLB_STRUCT_REJECT_LAST, 1, 0x0⟩,
  ⟨fun _ => GLB_STATE, 1, 0x0⟩,
  ⟨fun _ => GLB_STEP, 1, 0x0⟩,
  ⟨fun _ => GLB_TEST_ROOT, 1, 0x0⟩,
  ⟨fun _ => GLB_ROOT_OK, 1, 0x0⟩,
  ⟨fun _ => GLB_SAFE_ITEM, 1, 0x0⟩,
  ⟨fun _ => GLB_SAFE_CODE, 1, 0x0⟩,
  ⟨fun _ => GLB_POR, 1, 0x0⟩,
  ⟨fun _ => GLB_BROWNOUT, 1, 0x0⟩,
  ⟨fun _ => GLB_PIN, 1, 0x0⟩]
def rows_00_1 : List Row := [⟨fun _ => GLB_REBOOT_CMD, 1, 0x0⟩,
  ⟨fun _ => GLB_WATCHDOG, 1, 0x0⟩,
  ⟨fun _ => GLB_DEBUG, 1, 0x0⟩,
  ⟨fun _ => GLB_REVERT, 1, 0x0⟩,
  ⟨fun _ => GLB_BOOT_COUNT, 1, 0x0⟩,
  ⟨fun _ => GLB_START_MS, 1, 0x0⟩,
  ⟨fun _ => GLB_SAFE_BEACON_SEQ, 1, 0x0⟩,
  ⟨fun _ => GLB_LOADED_BANK, 1, 0x0⟩,
  ⟨fun _ => GLB_PART_NUM, 1, 0x0⟩,
  ⟨fun _ => GLB_STEPPING, 1, 0x0⟩,
  ⟨fun _ => GLB_DEVICE_ID_LO, 1, 0x0⟩,
  ⟨fun _ => GLB_DEVICE_ID_HI, 1, 0x0⟩,
  ⟨fun _ => GLB_EUI64_LO, 1, 0x0⟩,
  ⟨fun _ => GLB_EUI64_HI, 1, 0x0⟩,
  ⟨fun _ => GLB_UART_WR_EN, 1, 0x0⟩,
  ⟨fun _ => GLB_UART_LOG, 1, 0x0⟩]
def rows_00_2 : List Row := [⟨fun _ => GLB_UART_RATE, 1, 0x0⟩,
  ⟨fun _ => GLB_LOCKED_WR_CNT, 1, 0x0⟩,
  ⟨fun _ => GLB_SLIP_CNT, 1, 0x0⟩,
  ⟨fun _ => GLB_SCRATCH, 1, 0x0⟩,
  ⟨GLB_DRIVE, 64, 0x4⟩,
  ⟨GLB_PULL, 64, 0x4⟩,
  ⟨GLB_SLOW, 64, 0x4⟩,
  ⟨GLB_FUNC, 64, 0x4⟩]
def rows_00 : List Row := rows_00_0 ++ rows_00_1 ++ rows_00_2
def rows_01_0 : List Row := [⟨fun _ => CKR_TCXO_EN, 1, 0x0⟩,
  ⟨fun _ => CKR_XO_EN, 1, 0x0⟩,
  ⟨fun _ => CKR_LF_EN, 1, 0x0⟩,
  ⟨fun _ => CKR_PIN_SRC, 1, 0x0⟩,
  ⟨fun _ => CKR_RETURN_AUTO, 1, 0x0⟩,
  ⟨fun _ => CKR_MAIN_SRC, 1, 0x0⟩,
  ⟨fun _ => CKR_LIMP, 1, 0x0⟩,
  ⟨fun _ => CKR_AON_SRC, 1, 0x0⟩,
  ⟨fun _ => CKR_TCXO_QST, 1, 0x0⟩,
  ⟨fun _ => CKR_XO_QST, 1, 0x0⟩,
  ⟨fun _ => CKR_LF_QST, 1, 0x0⟩,
  ⟨fun _ => CKR_TCXO_FAIL, 1, 0x0⟩,
  ⟨fun _ => CKR_XO_FAIL, 1, 0x0⟩,
  ⟨fun _ => CKR_LF_FAIL, 1, 0x0⟩,
  ⟨fun _ => CKR_LIMP_SEEN, 1, 0x0⟩,
  ⟨fun _ => CKR_FORCED, 1, 0x0⟩]
def rows_01_1 : List Row := [⟨fun _ => CKR_DISAGREE, 1, 0x0⟩,
  ⟨fun _ => CKR_XING_OVR, 1, 0x0⟩,
  ⟨fun _ => CKR_QUAL_SEL, 1, 0x0⟩,
  ⟨fun _ => CKR_QUAL_COARSE, 1, 0x0⟩,
  ⟨fun _ => CKR_QUAL_FINE, 1, 0x0⟩,
  ⟨fun _ => CKR_RC_EST, 1, 0x0⟩,
  ⟨fun _ => CKR_RETURN_HOLD_MS, 1, 0x0⟩,
  ⟨fun _ => CKR_A0_LOCK, 1, 0x0⟩,
  ⟨fun _ => CKR_T0_LOCK, 1, 0x0⟩,
  ⟨fun _ => CKR_A1_LOCK, 1, 0x0⟩,
  ⟨fun _ => CKR_T1_LOCK, 1, 0x0⟩,
  ⟨fun _ => CKR_ACTIVE_BANK, 1, 0x0⟩,
  ⟨fun _ => CKR_IDLE_SRC, 1, 0x0⟩,
  ⟨fun _ => CKR_DOMAIN_STATE, 1, 0x0⟩,
  ⟨fun _ => CKR_SWITCH_CNT, 1, 0x0⟩,
  ⟨fun _ => CKR_FORCED_CNT, 1, 0x0⟩]
def rows_01_2 : List Row := [⟨fun _ => CKR_LIMP_CNT, 1, 0x0⟩,
  ⟨fun _ => CKR_CLAMP_CNT, 1, 0x0⟩,
  ⟨fun _ => CKR_XING_COUNT, 1, 0x0⟩,
  ⟨fun _ => CKR_XING_SEL, 1, 0x0⟩,
  ⟨fun _ => CKR_XI_SRC, 1, 0x0⟩,
  ⟨fun _ => CKR_XI_DST, 1, 0x0⟩,
  ⟨fun _ => CKR_XI_OWNER, 1, 0x0⟩,
  ⟨fun _ => CKR_XI_KIND, 1, 0x0⟩,
  ⟨fun _ => CKR_OVR, 1, 0x0⟩,
  ⟨fun _ => CKR_PENDING, 1, 0x0⟩,
  ⟨fun _ => CKR_INFLIGHT, 1, 0x0⟩,
  ⟨fun _ => CKR_LOST, 1, 0x0⟩,
  ⟨fun _ => CKR_RST_ETH0, 1, 0x0⟩,
  ⟨fun _ => CKR_RST_ETH1, 1, 0x0⟩,
  ⟨fun _ => CKR_RST_SEAM, 1, 0x0⟩,
  ⟨fun _ => CKR_RST_UART, 1, 0x0⟩]
def rows_01_3 : List Row := [⟨fun _ => CKR_GRP_BUSY, 1, 0x0⟩]
def rows_01 : List Row := rows_01_0 ++ rows_01_1 ++ rows_01_2 ++ rows_01_3
def rows_02_0 : List Row := [⟨fun _ => PWR_PSTATE, 1, 0x0⟩,
  ⟨fun _ => PWR_BATTERY, 1, 0x0⟩,
  ⟨fun _ => PWR_VIN_GOOD, 1, 0x0⟩,
  ⟨fun _ => PWR_VBAK_GOOD, 1, 0x0⟩,
  ⟨fun _ => PWR_WAKE_CAUSE, 1, 0x0⟩,
  ⟨fun _ => PWR_MARGIN_US, 1, 0x0⟩,
  ⟨fun _ => PWR_MAX_STATE, 1, 0x0⟩,
  ⟨fun _ => PWR_BATT_EN, 1, 0x0⟩,
  ⟨fun _ => PWR_DOZE_EN, 1, 0x0⟩,
  ⟨fun _ => PWR_LAST_GASP_EN, 1, 0x0⟩,
  ⟨fun _ => PWR_DOZE_ERR_PPM, 1, 0x0⟩,
  ⟨fun _ => PWR_RC_ERR_PPM, 1, 0x0⟩,
  ⟨fun _ => PWR_NEXT_US, 1, 0x0⟩,
  ⟨fun _ => PWR_WAKE_AT_US, 1, 0x0⟩,
  ⟨fun _ => PWR_VIN_MV, 1, 0x0⟩,
  ⟨fun _ => PWR_VBAK_MV, 1, 0x0⟩]
def rows_02_1 : List Row := [⟨fun _ => PWR_PVIN_MW, 1, 0x0⟩,
  ⟨fun _ => PWR_TJ_MAX, 1, 0x0⟩,
  ⟨fun _ => PWR_TJ_SENSOR, 1, 0x0⟩,
  ⟨fun _ => PWR_SHED_LANES, 1, 0x0⟩,
  ⟨fun _ => PWR_CARRIER_CLAMP, 1, 0x0⟩,
  ⟨fun _ => PWR_SHED_MASK, 1, 0x0⟩,
  ⟨fun _ => PWR_GOV_THERMAL, 1, 0x0⟩,
  ⟨fun _ => PWR_GOV_POWER, 1, 0x0⟩,
  ⟨fun _ => PWR_SHED_ORDER, 1, 0x0⟩,
  ⟨PWR_TJ_S, 8, 0x4⟩,
  ⟨fun _ => PWR_STATS_TAG, 1, 0x0⟩,
  ⟨fun _ => PWR_IDLE_ENTRIES, 1, 0x0⟩,
  ⟨fun _ => PWR_NAP_ENTRIES, 1, 0x0⟩,
  ⟨fun _ => PWR_DROWSE_ENTRIES, 1, 0x0⟩,
  ⟨fun _ => PWR_DOZE_ENTRIES, 1, 0x0⟩,
  ⟨fun _ => PWR_DOZE_ABORT, 1, 0x0⟩]
def rows_02_2 : List Row := [⟨fun _ => PWR_DOZE_MS, 1, 0x0⟩,
  ⟨fun _ => PWR_LATE_WAKE, 1, 0x0⟩,
  ⟨fun _ => PWR_BATT_ENTRIES, 1, 0x0⟩,
  ⟨fun _ => PWR_GOV_STEPS, 1, 0x0⟩,
  ⟨fun _ => PWR_CLAMP_CNT, 1, 0x0⟩]
def rows_02 : List Row := rows_02_0 ++ rows_02_1 ++ rows_02_2
def rows_03_0 : List Row := [⟨TMR_MODE, 64, 0x40⟩,
  ⟨TMR_CAP_EN, 64, 0x40⟩,
  ⟨TMR_CAP_WHAT, 64, 0x40⟩,
  ⟨TMR_CLK, 64, 0x40⟩,
  ⟨TMR_EVT_SRC, 64, 0x40⟩,
  ⟨TMR_CAP_SRC, 64, 0x40⟩,
  ⟨TMR_CAP_EDGE, 64, 0x40⟩,
  ⟨TMR_FILT_N, 64, 0x40⟩,
  ⟨TMR_PRESC, 64, 0x40⟩,
  ⟨TMR_ARM, 64, 0x40⟩,
  ⟨TMR_STOP, 64, 0x40⟩,
  ⟨TMR_COUNT, 64, 0x40⟩,
  ⟨TMR_COMPARE, 64, 0x40⟩,
  ⟨TMR_INTERVAL, 64, 0x40⟩,
  ⟨TMR_END, 64, 0x40⟩,
  ⟨TMR_START, 64, 0x40⟩]
def rows_03_1 : List Row := [⟨TMR_CAPTURE, 64, 0x40⟩,
  ⟨TMR_RUNNING, 64, 0x40⟩,
  ⟨TMR_MATCH, 64, 0x40⟩,
  ⟨TMR_ENDED, 64, 0x40⟩,
  ⟨TMR_CAPTURED, 64, 0x40⟩,
  ⟨TMR_OVR, 64, 0x40⟩,
  ⟨TMR_DISC, 64, 0x40⟩,
  ⟨TMR_HOST_OWNED, 64, 0x40⟩,
  ⟨TMR_CMP_ARMED, 64, 0x40⟩,
  ⟨TMR_INT_EN, 64, 0x40⟩,
  ⟨fun _ => TMR_TMR_REJ_CNT, 1, 0x0⟩]
def rows_03 : List Row := rows_03_0 ++ rows_03_1
def rows_04_0 : List Row := [⟨fun _ => TIM_HOLDOVER_REQ, 1, 0x0⟩,
  ⟨fun _ => TIM_HOLDOVER, 1, 0x0⟩,
  ⟨fun _ => TIM_DISC, 1, 0x0⟩,
  ⟨fun _ => TIM_STEPPED, 1, 0x0⟩,
  ⟨fun _ => TIM_SERVO_WDOG, 1, 0x0⟩,
  ⟨fun _ => TIM_STEP_LIMIT, 1, 0x0⟩,
  ⟨fun _ => TIM_NOW_FRAC, 1, 0x0⟩,
  ⟨fun _ => TIM_NOW_NS, 1, 0x0⟩,
  ⟨fun _ => TIM_NOW_SEC_LO, 1, 0x0⟩,
  ⟨fun _ => TIM_NOW_SEC_HI, 1, 0x0⟩,
  ⟨fun _ => TIM_INCR_LO, 1, 0x0⟩,
  ⟨fun _ => TIM_INCR_HI, 1, 0x0⟩,
  ⟨fun _ => TIM_STEP_FRAC, 1, 0x0⟩,
  ⟨fun _ => TIM_STEP_NS, 1, 0x0⟩,
  ⟨fun _ => TIM_SET_FRAC, 1, 0x0⟩,
  ⟨fun _ => TIM_SET_NS, 1, 0x0⟩]
def rows_04_1 : List Row := [⟨fun _ => TIM_SET_SEC_LO, 1, 0x0⟩,
  ⟨fun _ => TIM_SET_SEC_HI, 1, 0x0⟩,
  ⟨fun _ => TIM_STITCH_LO, 1, 0x0⟩,
  ⟨fun _ => TIM_STITCH_HI, 1, 0x0⟩,
  ⟨fun _ => TIM_INCR_REJ_CNT, 1, 0x0⟩,
  ⟨fun _ => TIM_DISC_CNT, 1, 0x0⟩,
  ⟨fun _ => TIM_HOLDOVER_STITCHES, 1, 0x0⟩,
  ⟨TIM_ONE_STEP, 2, 0x40⟩,
  ⟨TIM_ING_FIFO, 2, 0x40⟩,
  ⟨TIM_EGR_FIFO, 2, 0x40⟩,
  ⟨TIM_ING_LAT, 2, 0x40⟩,
  ⟨TIM_EGR_LAT, 2, 0x40⟩,
  ⟨TIM_TS_DEPTH, 2, 0x40⟩,
  ⟨TIM_TS_OVR, 2, 0x40⟩,
  ⟨TIM_TS_LOST, 2, 0x40⟩,
  ⟨TIM_TS_W0, 2, 0x40⟩]
def rows_04_2 : List Row := [⟨TIM_TS_W1, 2, 0x40⟩,
  ⟨TIM_TS_W2, 2, 0x40⟩,
  ⟨TIM_TS_W3, 2, 0x40⟩,
  ⟨TIM_TRG_TGT_NS, 12, 0x20⟩,
  ⟨TIM_TRG_TGT_SEC_LO, 12, 0x20⟩,
  ⟨TIM_TRG_TGT_SEC_HI, 12, 0x20⟩,
  ⟨TIM_TRG_PERIOD, 12, 0x20⟩,
  ⟨TIM_TRG_ARM, 12, 0x20⟩,
  ⟨TIM_TRG_POL, 12, 0x20⟩,
  ⟨TIM_TRG_LANE, 12, 0x20⟩,
  ⟨TIM_TRG_WIDTH_LEN, 12, 0x20⟩,
  ⟨TIM_TRG_FIRED, 12, 0x20⟩,
  ⟨TIM_TRG_CODE, 12, 0x20⟩,
  ⟨TIM_TRG_FIRE_CNT, 12, 0x20⟩]
def rows_04 : List Row := rows_04_0 ++ rows_04_1 ++ rows_04_2
def rows_05_0 : List Row := [⟨fun _ => NTC_RING_BASE_LO, 1, 0x0⟩,
  ⟨fun _ => NTC_RING_BASE_HI, 1, 0x0⟩,
  ⟨fun _ => NTC_EN, 1, 0x0⟩,
  ⟨fun _ => NTC_LOC, 1, 0x0⟩,
  ⟨fun _ => NTC_MIN_SEV, 1, 0x0⟩,
  ⟨fun _ => NTC_WR_IDX, 1, 0x0⟩,
  ⟨fun _ => NTC_RD_IDX, 1, 0x0⟩,
  ⟨fun _ => NTC_LOST_CNT, 1, 0x0⟩,
  ⟨fun _ => NTC_FILTERED, 1, 0x0⟩,
  ⟨fun _ => NTC_SRC_EN_LO, 1, 0x0⟩,
  ⟨fun _ => NTC_SRC_EN_HI, 1, 0x0⟩,
  ⟨fun _ => NTC_INT_PEND, 1, 0x0⟩,
  ⟨fun _ => NTC_INT_MASK, 1, 0x0⟩,
  ⟨fun _ => NTC_HOLDOFF_US, 1, 0x0⟩,
  ⟨fun _ => NTC_BATCH, 1, 0x0⟩]
def rows_05 : List Row := rows_05_0
def rows_08_0 : List Row := [⟨fun _ => RFC_FREQ_TRIM, 1, 0x0⟩,
  ⟨RFC_STATE, 4, 0x40⟩,
  ⟨RFC_PRESENT, 4, 0x40⟩,
  ⟨RFC_MUTED, 4, 0x40⟩,
  ⟨RFC_CAL_PENDING, 4, 0x40⟩,
  ⟨RFC_CAL_FORCED, 4, 0x40⟩,
  ⟨RFC_CAL_FAILED, 4, 0x40⟩,
  ⟨RFC_TJ, 4, 0x40⟩,
  ⟨RFC_CAL_STEP, 4, 0x40⟩,
  ⟨RFC_CAL_WAIT, 4, 0x40⟩,
  ⟨RFC_CAL_CNT, 4, 0x40⟩,
  ⟨RFC_LOCK_FAIL_CNT, 4, 0x40⟩,
  ⟨RFC_SETTLE_LATE_CNT, 4, 0x40⟩,
  ⟨RFC_CAL_LATE_CNT, 4, 0x40⟩,
  ⟨RFC_HELD_CNT, 4, 0x40⟩,
  ⟨RFC_CAL_MISSED_CNT, 4, 0x40⟩]
def rows_08_1 : List Row := [⟨RFC_CX_EN, 3, 0x10⟩,
  ⟨RFC_CX_REQ_POL, 3, 0x10⟩,
  ⟨RFC_CX_GRANT_POL, 3, 0x10⟩,
  ⟨RFC_CX_PRI_POL, 3, 0x10⟩,
  ⟨RFC_CX_ABORT_ON_LOSS, 3, 0x10⟩,
  ⟨RFC_CX_PRI_CLASS, 3, 0x10⟩,
  ⟨RFC_CX_LEAD_US, 3, 0x10⟩,
  ⟨RFC_CX_REQ, 3, 0x10⟩,
  ⟨RFC_CX_GRANT, 3, 0x10⟩,
  ⟨RFC_CX_PRI, 3, 0x10⟩,
  ⟨RFC_CX_DENIED_CNT, 3, 0x10⟩,
  ⟨RFC_CX_GRANT_LOST_CNT, 3, 0x10⟩,
  ⟨RFC_FEM_FEM_MAP, 4, 0x20⟩,
  ⟨RFC_FEM_EARLY_MASK, 4, 0x20⟩,
  ⟨RFC_FEM_LEAD_US, 4, 0x20⟩,
  ⟨RFC_FEM_HOLD_MASK, 4, 0x20⟩]
def rows_08_2 : List Row := [⟨RFC_FEM_TAIL_US, 4, 0x20⟩]
def rows_08 : List Row := rows_08_0 ++ rows_08_1 ++ rows_08_2
def rows_09_0 : List Row := [⟨fun _ => WUR_EN, 1, 0x0⟩,
  ⟨fun _ => WUR_RATE, 1, 0x0⟩,
  ⟨fun _ => WUR_ACTIVE_LISTEN, 1, 0x0⟩,
  ⟨fun _ => WUR_A_LEN, 1, 0x0⟩,
  ⟨fun _ => WUR_B_LEN, 1, 0x0⟩,
  ⟨fun _ => WUR_A_ACT, 1, 0x0⟩,
  ⟨fun _ => WUR_B_ACT, 1, 0x0⟩,
  ⟨fun _ => WUR_MAX_ERR, 1, 0x0⟩,
  ⟨fun _ => WUR_PAT_A, 1, 0x0⟩,
  ⟨fun _ => WUR_PAT_B, 1, 0x0⟩,
  ⟨fun _ => WUR_LISTENING, 1, 0x0⟩,
  ⟨fun _ => WUR_MATCH_A, 1, 0x0⟩,
  ⟨fun _ => WUR_MATCH_B, 1, 0x0⟩,
  ⟨fun _ => WUR_THRESH, 1, 0x0⟩,
  ⟨fun _ => WUR_MATCH_CNT_A, 1, 0x0⟩,
  ⟨fun _ => WUR_MATCH_CNT_B, 1, 0x0⟩]
def rows_09 : List Row := rows_09_0
def rows_0A_0 : List Row := [⟨fun _ => RXP_CAPTURE_EN, 1, 0x0⟩,
  ⟨fun _ => RXP_CANCEL_EN, 1, 0x0⟩,
  ⟨fun _ => RXP_CAPTURE_MARGIN, 1, 0x0⟩,
  ⟨fun _ => RXP_PSDU_LIMIT, 1, 0x0⟩,
  ⟨fun _ => RXP_FEC_SCHEME_L, 1, 0x0⟩,
  ⟨fun _ => RXP_INTERLEAVE_L, 1, 0x0⟩,
  ⟨fun _ => RXP_FSK_SFD_SET_L, 1, 0x0⟩,
  ⟨fun _ => RXP_FEC_SCHEME_M, 1, 0x0⟩,
  ⟨fun _ => RXP_INTERLEAVE_M, 1, 0x0⟩,
  ⟨fun _ => RXP_FSK_SFD_SET_M, 1, 0x0⟩,
  ⟨fun _ => RXP_MIN_FREE_SCHED_L, 1, 0x0⟩,
  ⟨fun _ => RXP_MIN_FREE_SCHED_M, 1, 0x0⟩,
  ⟨fun _ => RXP_MIN_FREE_SCHED_H, 1, 0x0⟩,
  ⟨fun _ => RXP_ACTIVE_L, 1, 0x0⟩,
  ⟨fun _ => RXP_ACTIVE_M, 1, 0x0⟩,
  ⟨fun _ => RXP_ACTIVE_H, 1, 0x0⟩]
def rows_0A_1 : List Row := [⟨fun _ => RXP_RXP_ACTIVE, 1, 0x0⟩,
  ⟨fun _ => RXP_ACTIVE_PEAK, 1, 0x0⟩,
  ⟨fun _ => RXP_STEER_EN, 1, 0x0⟩,
  ⟨fun _ => RXP_REF_WINDOW, 1, 0x0⟩,
  ⟨fun _ => RXP_REF_MIN_FRAMES, 1, 0x0⟩,
  ⟨fun _ => RXP_REF_MIN_NODES, 1, 0x0⟩,
  ⟨fun _ => RXP_REF_REJECT, 1, 0x0⟩,
  ⟨fun _ => RXP_TARGET_LIMIT, 1, 0x0⟩,
  ⟨fun _ => RXP_TARGET, 1, 0x0⟩,
  ⟨fun _ => RXP_REF_FRAMES, 1, 0x0⟩,
  ⟨fun _ => RXP_REF_NODES, 1, 0x0⟩,
  ⟨fun _ => RXP_STATS_TAG, 1, 0x0⟩,
  ⟨RXP_WIN_GAIN, 4, 0x4⟩,
  ⟨RXP_WIN_STEPS, 4, 0x4⟩,
  ⟨RXP_LANE_EN, 7, 0x20⟩,
  ⟨RXP_HOLD, 7, 0x20⟩]
def rows_0A_2 : List Row := [⟨RXP_GAIN, 7, 0x20⟩,
  ⟨RXP_ACTIVE, 7, 0x20⟩,
  ⟨RXP_GAIN_MIN, 7, 0x20⟩,
  ⟨RXP_GAIN_MAX, 7, 0x20⟩,
  ⟨RXP_HEADROOM, 7, 0x20⟩,
  ⟨RXP_DET_MARGIN, 7, 0x20⟩,
  ⟨RXP_NOISE, 7, 0x20⟩,
  ⟨RXP_RX_QUEUE, 7, 0x20⟩,
  ⟨RXP_DET_EN0, 7, 0x10⟩,
  ⟨RXP_DET_EN1, 7, 0x10⟩,
  ⟨RXP_DET_EN2, 7, 0x10⟩,
  ⟨RXP_DET_EN3, 7, 0x10⟩,
  ⟨RXP_DET_CNT, 7, 0x80⟩,
  ⟨RXP_FRAME_OK, 7, 0x80⟩,
  ⟨RXP_FCS_ERR, 7, 0x80⟩,
  ⟨RXP_LEN_ERR, 7, 0x80⟩]
def rows_0A_3 : List Row := [⟨RXP_PHR_ERR, 7, 0x80⟩,
  ⟨RXP_NO_BUF, 7, 0x80⟩,
  ⟨RXP_NO_DEMOD, 7, 0x80⟩,
  ⟨RXP_PREEMPT, 7, 0x80⟩,
  ⟨RXP_CAPTURE_OK, 7, 0x80⟩,
  ⟨RXP_CAPTURE_LOST, 7, 0x80⟩,
  ⟨RXP_CAPTURE_ABORT, 7, 0x80⟩,
  ⟨RXP_GAIN_STEP, 7, 0x80⟩,
  ⟨RXP_CAL_DROP, 7, 0x80⟩,
  ⟨RXP_TX_BLANK, 7, 0x80⟩,
  ⟨RXP_REF_SWITCH, 7, 0x80⟩,
  ⟨RXP_LANE_OFF, 7, 0x80⟩,
  ⟨RXP_SYNC_LOST, 7, 0x80⟩,
  ⟨RXP_GAIN_CLAMP, 7, 0x80⟩,
  ⟨RXP_COLLIDED, 7, 0x80⟩]
def rows_0A : List Row := rows_0A_0 ++ rows_0A_1 ++ rows_0A_2 ++ rows_0A_3
def rows_0C_0 : List Row := [⟨TXP_TX_EN, 4, 0x40⟩,
  ⟨TXP_TEST, 4, 0x40⟩,
  ⟨TXP_CARRIERS, 4, 0x40⟩,
  ⟨TXP_SHAPE_SEL, 4, 0x40⟩,
  ⟨TXP_MASK_SEL, 4, 0x40⟩,
  ⟨TXP_PRECOMP_EN, 4, 0x40⟩,
  ⟨TXP_MAX_POWER, 4, 0x40⟩,
  ⟨TXP_CARRIER_CAP, 4, 0x40⟩,
  ⟨TXP_PRECOMP_LIMIT, 4, 0x40⟩,
  ⟨TXP_TRAIN_GAP, 4, 0x40⟩,
  ⟨TXP_WAKE_RATE, 4, 0x40⟩,
  ⟨TXP_WAKE_PRE, 4, 0x40⟩,
  ⟨TXP_WAKE_FOLLOW_US, 4, 0x40⟩,
  ⟨TXP_DUTY_PPM, 4, 0x40⟩,
  ⟨TXP_DUTY_USED, 4, 0x40⟩,
  ⟨TXP_ON_AIR, 4, 0x40⟩]
def rows_0C_1 : List Row := [⟨TXP_TONE_ON, 4, 0x40⟩,
  ⟨TXP_COEF_0, 4, 0x20⟩,
  ⟨TXP_COEF_2, 4, 0x20⟩,
  ⟨TXP_COEF_4, 4, 0x20⟩,
  ⟨TXP_COEF_6, 4, 0x20⟩,
  ⟨TXP_COEF_8, 4, 0x20⟩,
  ⟨TXP_COEF_10, 4, 0x20⟩,
  ⟨TXP_COEF_12, 4, 0x20⟩,
  ⟨TXP_COEF_14, 4, 0x20⟩,
  ⟨TXP_COEF_1, 4, 0x20⟩,
  ⟨TXP_COEF_3, 4, 0x20⟩,
  ⟨TXP_COEF_5, 4, 0x20⟩,
  ⟨TXP_COEF_7, 4, 0x20⟩,
  ⟨TXP_COEF_9, 4, 0x20⟩,
  ⟨TXP_COEF_11, 4, 0x20⟩,
  ⟨TXP_COEF_13, 4, 0x20⟩]
def rows_0C_2 : List Row := [⟨TXP_COEF_15, 4, 0x20⟩,
  ⟨TXP_FRAMES_OK, 4, 0x40⟩,
  ⟨TXP_ACKS_OK, 4, 0x40⟩,
  ⟨TXP_ACK_DROPPED, 4, 0x40⟩,
  ⟨TXP_BUSY_REJ, 4, 0x40⟩,
  ⟨TXP_DUTY_REJ, 4, 0x40⟩,
  ⟨TXP_LEN_REJ, 4, 0x40⟩,
  ⟨TXP_MODE_REJ, 4, 0x40⟩,
  ⟨TXP_MUTE_ABORT, 4, 0x40⟩,
  ⟨TXP_PRECOMP_CLAMP, 4, 0x40⟩,
  ⟨TXP_TRAINS, 4, 0x40⟩,
  ⟨TXP_TRAIN_COPIES, 4, 0x40⟩,
  ⟨TXP_WAKE_CALLS, 4, 0x40⟩,
  ⟨TXP_AIRTIME_US, 4, 0x40⟩,
  ⟨fun _ => TXP_STATS_TAG, 1, 0x0⟩]
def rows_0C : List Row := rows_0C_0 ++ rows_0C_1 ++ rows_0C_2
def rows_10_0 : List Row := [⟨fun _ => MAC_PAN_ID, 1, 0x0⟩,
  ⟨fun _ => MAC_SHORT_ADDR, 1, 0x0⟩,
  ⟨fun _ => MAC_ACK_TURN_L_US, 1, 0x0⟩,
  ⟨fun _ => MAC_ACK_TURN_M_US, 1, 0x0⟩,
  ⟨fun _ => MAC_ACK_TURN_H_US, 1, 0x0⟩,
  ⟨fun _ => MAC_MIN_BE, 1, 0x0⟩,
  ⟨fun _ => MAC_MAX_BE, 1, 0x0⟩,
  ⟨fun _ => MAC_MAX_BACKOFFS, 1, 0x0⟩,
  ⟨fun _ => MAC_CCA_ED, 1, 0x0⟩,
  ⟨fun _ => MAC_FOLLOW_EN, 1, 0x0⟩,
  ⟨fun _ => MAC_JOIN_TIMEOUT_SF, 1, 0x0⟩,
  ⟨fun _ => MAC_KEY_INDEX_JOIN, 1, 0x0⟩,
  ⟨fun _ => MAC_DUP_WINDOW, 1, 0x0⟩,
  ⟨fun _ => MAC_UP_MARGIN, 1, 0x0⟩,
  ⟨fun _ => MAC_DOWN_MARGIN, 1, 0x0⟩,
  ⟨fun _ => MAC_UP_COUNT, 1, 0x0⟩]
def rows_10_1 : List Row := [⟨fun _ => MAC_DOWN_MISSES, 1, 0x0⟩,
  ⟨fun _ => MAC_ACK_MAX_OCTETS, 1, 0x0⟩,
  ⟨fun _ => MAC_CACHE_USED, 1, 0x0⟩,
  ⟨fun _ => MAC_CACHE_PINNED, 1, 0x0⟩,
  ⟨fun _ => MAC_STATS_TAG, 1, 0x0⟩,
  ⟨fun _ => MAC_RX_ACCEPTED, 1, 0x0⟩,
  ⟨fun _ => MAC_FTYPE_ERR, 1, 0x0⟩,
  ⟨fun _ => MAC_ADDR_MISS, 1, 0x0⟩,
  ⟨fun _ => MAC_UNKNOWN_SRC, 1, 0x0⟩,
  ⟨fun _ => MAC_STATE_DROP, 1, 0x0⟩,
  ⟨fun _ => MAC_DUPLICATE, 1, 0x0⟩,
  ⟨fun _ => MAC_REPLAY, 1, 0x0⟩,
  ⟨fun _ => MAC_ACK_SENT, 1, 0x0⟩,
  ⟨fun _ => MAC_ACK_SKIPPED, 1, 0x0⟩,
  ⟨fun _ => MAC_TC_CLAMP, 1, 0x0⟩,
  ⟨fun _ => MAC_FOLLOW_SENT, 1, 0x0⟩]
def rows_10_2 : List Row := [⟨fun _ => MAC_CSMA_FAIL, 1, 0x0⟩,
  ⟨fun _ => MAC_DROP_RETRY, 1, 0x0⟩,
  ⟨fun _ => MAC_DL_DISCARD, 1, 0x0⟩,
  ⟨fun _ => MAC_JOIN_OK, 1, 0x0⟩,
  ⟨fun _ => MAC_JOIN_TIMEOUT, 1, 0x0⟩,
  ⟨fun _ => MAC_ADAPT_UP, 1, 0x0⟩,
  ⟨fun _ => MAC_ADAPT_DOWN, 1, 0x0⟩,
  ⟨fun _ => MAC_ADAPT_CLAMP, 1, 0x0⟩,
  ⟨fun _ => MAC_CACHE_HIT, 1, 0x0⟩,
  ⟨fun _ => MAC_CACHE_MISS, 1, 0x0⟩,
  ⟨fun _ => MAC_CTX_ECC, 1, 0x0⟩]
def rows_10 : List Row := rows_10_0 ++ rows_10_1 ++ rows_10_2
def rows_12_0 : List Row := [⟨fun _ => SCH_TX_OFFSET_US, 1, 0x0⟩,
  ⟨fun _ => SCH_ACK_OFFSET_US, 1, 0x0⟩,
  ⟨fun _ => SCH_G0_US, 1, 0x0⟩,
  ⟨fun _ => SCH_GUARD_BOUND_US, 1, 0x0⟩,
  ⟨fun _ => SCH_DEV_DRIFT_PPB, 1, 0x0⟩,
  ⟨fun _ => SCH_XO_DRIFT_PPB, 1, 0x0⟩,
  ⟨fun _ => SCH_DRIFT_CUSTOM_PPB, 1, 0x0⟩,
  ⟨fun _ => SCH_DRIFT_MARK_PCT, 1, 0x0⟩,
  ⟨fun _ => SCH_DISC_GUARD_US, 1, 0x0⟩,
  ⟨fun _ => SCH_LOST_KEEP_SF, 1, 0x0⟩,
  ⟨fun _ => SCH_KEEP_LISTEN, 1, 0x0⟩,
  ⟨fun _ => SCH_AUTO_WAKE_RUN, 1, 0x0⟩,
  ⟨fun _ => SCH_PLACE_EN, 1, 0x0⟩,
  ⟨fun _ => SCH_PLACE_RATE, 1, 0x0⟩,
  ⟨fun _ => SCH_PLACE_MARGIN, 1, 0x0⟩,
  ⟨fun _ => SCH_BEACON_MODE_L, 1, 0x0⟩]
def rows_12_1 : List Row := [⟨fun _ => SCH_BEACON_MODE_M, 1, 0x0⟩,
  ⟨fun _ => SCH_BEACON_MCS_M, 1, 0x0⟩,
  ⟨fun _ => SCH_BEACON_MODE_H, 1, 0x0⟩,
  ⟨fun _ => SCH_PAIR_EN, 1, 0x0⟩,
  ⟨fun _ => SCH_PAIR_COL, 1, 0x0⟩,
  ⟨fun _ => SCH_PAIR_OFF0_US, 1, 0x0⟩,
  ⟨fun _ => SCH_PAIR_OFF1_US, 1, 0x0⟩,
  ⟨fun _ => SCH_SLOT_LO, 1, 0x0⟩,
  ⟨fun _ => SCH_SLOT_HI, 1, 0x0⟩,
  ⟨fun _ => SCH_SF_SLOT, 1, 0x0⟩,
  ⟨fun _ => SCH_NEXT_EVENT_US, 1, 0x0⟩,
  ⟨fun _ => SCH_COLUMNS, 1, 0x0⟩,
  ⟨fun _ => SCH_CELLS_USED, 1, 0x0⟩,
  ⟨fun _ => SCH_SYNCED_CNT, 1, 0x0⟩,
  ⟨fun _ => SCH_DRIFTING_CNT, 1, 0x0⟩,
  ⟨fun _ => SCH_LOST_CNT, 1, 0x0⟩]
def rows_12_2 : List Row := [⟨fun _ => SCH_STATS_TAG, 1, 0x0⟩,
  ⟨fun _ => SCH_CELL_UNUSED, 1, 0x0⟩,
  ⟨fun _ => SCH_CELL_TOO_SHORT, 1, 0x0⟩,
  ⟨fun _ => SCH_CELL_STALE, 1, 0x0⟩,
  ⟨fun _ => SCH_LATE_END, 1, 0x0⟩,
  ⟨fun _ => SCH_OUT_OF_WINDOW, 1, 0x0⟩,
  ⟨fun _ => SCH_ACK_NO_ROOM, 1, 0x0⟩,
  ⟨fun _ => SCH_LOST_ENTER, 1, 0x0⟩,
  ⟨fun _ => SCH_RESYNC, 1, 0x0⟩,
  ⟨fun _ => SCH_GUARD_CLAMP, 1, 0x0⟩,
  ⟨fun _ => SCH_PLACE_MOVES, 1, 0x0⟩,
  ⟨fun _ => SCH_PLACE_CLAMP, 1, 0x0⟩,
  ⟨fun _ => SCH_ALLOC_OK, 1, 0x0⟩,
  ⟨fun _ => SCH_ALLOC_FAIL, 1, 0x0⟩,
  ⟨fun _ => SCH_WAKE_RUN_FAIL, 1, 0x0⟩,
  ⟨fun _ => SCH_BEACONS_SENT, 1, 0x0⟩]
def rows_12_3 : List Row := [⟨fun _ => SCH_PAIR_HEARD, 1, 0x0⟩,
  ⟨fun _ => SCH_SLOTS_SKIPPED, 1, 0x0⟩,
  ⟨fun _ => SCH_LOST_RECLAIM, 1, 0x0⟩]
def rows_12 : List Row := rows_12_0 ++ rows_12_1 ++ rows_12_2 ++ rows_12_3
def rows_14_0 : List Row := [⟨fun _ => SEC_BEACON_LEVEL, 1, 0x0⟩,
  ⟨fun _ => SEC_BEACON_INDEX, 1, 0x0⟩,
  ⟨fun _ => SEC_BCAST_LEVEL, 1, 0x0⟩,
  ⟨fun _ => SEC_BCAST_INDEX, 1, 0x0⟩,
  ⟨fun _ => SEC_BEACON_POCKET, 1, 0x0⟩,
  ⟨fun _ => SEC_BEACON_PK_EN, 1, 0x0⟩,
  ⟨fun _ => SEC_BCAST_POCKET, 1, 0x0⟩,
  ⟨fun _ => SEC_BCAST_PK_EN, 1, 0x0⟩,
  ⟨fun _ => SEC_ALLOW_L4, 1, 0x0⟩,
  ⟨fun _ => SEC_DL_LEVEL, 1, 0x0⟩,
  ⟨fun _ => SEC_FC_LOW_MARK, 1, 0x0⟩,
  ⟨fun _ => SEC_RESERVE_AHEAD, 1, 0x0⟩,
  ⟨fun _ => SEC_PARITY, 1, 0x0⟩,
  ⟨fun _ => SEC_PEER_BEACON_FC, 1, 0x0⟩,
  ⟨fun _ => SEC_MAP_USED, 1, 0x0⟩,
  ⟨fun _ => SEC_STATS_TAG, 1, 0x0⟩]
def rows_14_1 : List Row := [⟨fun _ => SEC_OPEN_OK, 1, 0x0⟩,
  ⟨fun _ => SEC_AUTH_FAIL, 1, 0x0⟩,
  ⟨fun _ => SEC_NO_KEY, 1, 0x0⟩,
  ⟨fun _ => SEC_LEVEL_ERR, 1, 0x0⟩,
  ⟨fun _ => SEC_HDR_ERR, 1, 0x0⟩,
  ⟨fun _ => SEC_SEC_LEN_ERR, 1, 0x0⟩,
  ⟨fun _ => SEC_RX_ORPHANED, 1, 0x0⟩,
  ⟨fun _ => SEC_PAIR_REPLAY, 1, 0x0⟩,
  ⟨fun _ => SEC_SEAL_OK, 1, 0x0⟩,
  ⟨fun _ => SEC_SEAL_KEY_FAIL, 1, 0x0⟩,
  ⟨fun _ => SEC_SEAL_LEN_ERR, 1, 0x0⟩,
  ⟨fun _ => SEC_SEAL_FC_FAIL, 1, 0x0⟩,
  ⟨fun _ => SEC_ACK_KEY_FAIL, 1, 0x0⟩,
  ⟨fun _ => SEC_BLOCKS_RESERVED, 1, 0x0⟩,
  ⟨fun _ => SEC_CEIL_WRITE_FAIL, 1, 0x0⟩]
def rows_14 : List Row := rows_14_0 ++ rows_14_1
def rows_15_0 : List Row := [⟨fun _ => KEY_NODE_EPOCH, 1, 0x0⟩,
  ⟨fun _ => KEY_GRACE_SF, 1, 0x0⟩,
  ⟨fun _ => KEY_AUTO_PROMOTE, 1, 0x0⟩,
  ⟨fun _ => KEY_ROOT_OK, 1, 0x0⟩,
  ⟨fun _ => KEY_TEST_ROOT, 1, 0x0⟩,
  ⟨fun _ => KEY_HELPER_COPY, 1, 0x0⟩,
  ⟨fun _ => KEY_OWNERS, 1, 0x0⟩,
  ⟨fun _ => KEY_BASTED_CNT, 1, 0x0⟩,
  ⟨fun _ => KEY_ACTIVE_CNT, 1, 0x0⟩,
  ⟨fun _ => KEY_ORPHANED_CNT, 1, 0x0⟩,
  ⟨fun _ => KEY_RETIRED_CNT, 1, 0x0⟩,
  ⟨fun _ => KEY_MASTERS, 1, 0x0⟩,
  ⟨fun _ => KEY_REKEY_PENDING, 1, 0x0⟩,
  ⟨fun _ => KEY_CACHE_USED, 1, 0x0⟩,
  ⟨fun _ => KEY_REWRAP_BUSY, 1, 0x0⟩,
  ⟨fun _ => KEY_STATS_TAG, 1, 0x0⟩]
def rows_15_1 : List Row := [⟨fun _ => KEY_DERIVE_CNT, 1, 0x0⟩,
  ⟨fun _ => KEY_CACHE_HIT, 1, 0x0⟩,
  ⟨fun _ => KEY_CACHE_MISS, 1, 0x0⟩,
  ⟨fun _ => KEY_PROMOTE_CNT, 1, 0x0⟩,
  ⟨fun _ => KEY_VERIFY_FAIL, 1, 0x0⟩,
  ⟨fun _ => KEY_TRIAL_VERIFY, 1, 0x0⟩,
  ⟨fun _ => KEY_ORPHAN_CNT, 1, 0x0⟩,
  ⟨fun _ => KEY_ZEROISE_CNT, 1, 0x0⟩,
  ⟨fun _ => KEY_REKEY_OK, 1, 0x0⟩,
  ⟨fun _ => KEY_REKEY_FAIL, 1, 0x0⟩,
  ⟨fun _ => KEY_POCKET_LOST, 1, 0x0⟩,
  ⟨fun _ => KEY_COMMIT_FAIL, 1, 0x0⟩]
def rows_15 : List Row := rows_15_0 ++ rows_15_1
def rows_18_0 : List Row := [⟨fun _ => FWD_LEARN_EN0, 1, 0x0⟩,
  ⟨fun _ => FWD_LEARN_EN1, 1, 0x0⟩,
  ⟨fun _ => FWD_AGE_EN, 1, 0x0⟩,
  ⟨fun _ => FWD_DARNER_EN, 1, 0x0⟩,
  ⟨fun _ => FWD_MISS_ACTION, 1, 0x0⟩,
  ⟨fun _ => FWD_MISS_QUEUE, 1, 0x0⟩,
  ⟨fun _ => FWD_LEARN_QUEUE0, 1, 0x0⟩,
  ⟨fun _ => FWD_LEARN_QUEUE1, 1, 0x0⟩,
  ⟨fun _ => FWD_MOVE_HOLD, 1, 0x0⟩,
  ⟨fun _ => FWD_AGE_PASS, 1, 0x0⟩,
  ⟨fun _ => FWD_LEARN_LIMIT, 1, 0x0⟩,
  ⟨fun _ => FWD_DARNER_GROUP, 1, 0x0⟩,
  ⟨fun _ => FWD_STASH_MARK, 1, 0x0⟩,
  ⟨fun _ => FWD_EXM_USED, 1, 0x0⟩,
  ⟨fun _ => FWD_EXM_STASH, 1, 0x0⟩,
  ⟨fun _ => FWD_LEARNED_USED, 1, 0x0⟩]
def rows_18_1 : List Row := [⟨fun _ => FWD_LPM_USED, 1, 0x0⟩,
  ⟨fun _ => FWD_LPM_STASH, 1, 0x0⟩,
  ⟨fun _ => FWD_LEN_ACTIVE, 1, 0x0⟩,
  ⟨FWD_LEN_VEC, 5, 0x4⟩,
  ⟨fun _ => FWD_EXM_RH, 1, 0x0⟩,
  ⟨fun _ => FWD_EXM_TGT, 1, 0x0⟩,
  ⟨fun _ => FWD_LPM_RH, 1, 0x0⟩,
  ⟨fun _ => FWD_LPM_TGT, 1, 0x0⟩,
  ⟨fun _ => FWD_REFILTERING, 1, 0x0⟩,
  ⟨fun _ => FWD_EXM_RH_LEFT, 1, 0x0⟩,
  ⟨fun _ => FWD_EXM_RH_CURSOR, 1, 0x0⟩,
  ⟨fun _ => FWD_LPM_RH_LEFT, 1, 0x0⟩,
  ⟨fun _ => FWD_LPM_RH_CURSOR, 1, 0x0⟩,
  ⟨fun _ => FWD_EXM_STASH_HI, 1, 0x0⟩,
  ⟨fun _ => FWD_EXM_STASH_LVL, 1, 0x0⟩,
  ⟨fun _ => FWD_LPM_STASH_HI, 1, 0x0⟩]
def rows_18_2 : List Row := [⟨fun _ => FWD_LPM_STASH_LVL, 1, 0x0⟩,
  ⟨fun _ => FWD_LEARN_DEPTH, 1, 0x0⟩,
  ⟨fun _ => FWD_LEARN_PEAK, 1, 0x0⟩,
  ⟨fun _ => FWD_DARNER_POS, 1, 0x0⟩,
  ⟨fun _ => FWD_DARNER_TBL, 1, 0x0⟩,
  ⟨fun _ => FWD_FILT_STALE, 1, 0x0⟩,
  ⟨fun _ => FWD_REPAIR_PEND, 1, 0x0⟩,
  ⟨fun _ => FWD_STATS_TAG, 1, 0x0⟩,
  ⟨fun _ => FWD_EXM_SEED0_A, 1, 0x0⟩,
  ⟨fun _ => FWD_EXM_SEED1_A, 1, 0x0⟩,
  ⟨fun _ => FWD_EXM_SEED0_B, 1, 0x0⟩,
  ⟨fun _ => FWD_EXM_SEED1_B, 1, 0x0⟩,
  ⟨fun _ => FWD_LPM_SEED0_A, 1, 0x0⟩,
  ⟨fun _ => FWD_LPM_SEED1_A, 1, 0x0⟩,
  ⟨fun _ => FWD_LPM_SEED0_B, 1, 0x0⟩,
  ⟨fun _ => FWD_LPM_SEED1_B, 1, 0x0⟩]
def rows_18_3 : List Row := [⟨fun _ => FWD_LOOKUPS, 1, 0x0⟩,
  ⟨fun _ => FWD_EXM_HIT, 1, 0x0⟩,
  ⟨fun _ => FWD_LPM_HIT, 1, 0x0⟩,
  ⟨fun _ => FWD_MISS, 1, 0x0⟩,
  ⟨fun _ => FWD_PROBES, 1, 0x0⟩,
  ⟨fun _ => FWD_FILTER_SKIP, 1, 0x0⟩,
  ⟨fun _ => FWD_LOOKUP_STALL, 1, 0x0⟩,
  ⟨fun _ => FWD_LEARN_INSTALL, 1, 0x0⟩,
  ⟨fun _ => FWD_MAC_CHANGE, 1, 0x0⟩,
  ⟨fun _ => FWD_MOVED, 1, 0x0⟩,
  ⟨fun _ => FWD_FLAP, 1, 0x0⟩,
  ⟨fun _ => FWD_LEARN_CONFLICT, 1, 0x0⟩,
  ⟨fun _ => FWD_LEARN_LIMIT_HIT, 1, 0x0⟩,
  ⟨fun _ => FWD_LEARN_DROP, 1, 0x0⟩,
  ⟨fun _ => FWD_LEARN_FULL, 1, 0x0⟩,
  ⟨fun _ => FWD_AGED, 1, 0x0⟩]
def rows_18_4 : List Row := [⟨fun _ => FWD_AGE_HIT_WIN, 1, 0x0⟩,
  ⟨fun _ => FWD_RELOC_MOVES, 1, 0x0⟩,
  ⟨fun _ => FWD_INSERT_FULL, 1, 0x0⟩,
  ⟨fun _ => FWD_STASH_DRAIN, 1, 0x0⟩,
  ⟨fun _ => FWD_DARNER_REPAIR, 1, 0x0⟩,
  ⟨fun _ => FWD_ECC_CORR, 1, 0x0⟩,
  ⟨fun _ => FWD_ECC_MASKED, 1, 0x0⟩,
  ⟨fun _ => FWD_SHADOW_FIX, 1, 0x0⟩,
  ⟨fun _ => FWD_ENTRY_LOST, 1, 0x0⟩]
def rows_18 : List Row := rows_18_0 ++ rows_18_1 ++ rows_18_2 ++ rows_18_3 ++ rows_18_4
def rows_1C_0 : List Row := [⟨fun _ => QMG_SPILL_RESERVED, 1, 0x0⟩,
  ⟨fun _ => QMG_SPILL_USED, 1, 0x0⟩,
  ⟨fun _ => QMG_SPILL_PEAK, 1, 0x0⟩,
  ⟨fun _ => QMG_NONEMPTY, 1, 0x0⟩,
  ⟨fun _ => QMG_STATS_TAG, 1, 0x0⟩,
  ⟨QMG_G_MODE, 256, 0x20⟩,
  ⟨QMG_G_HI_ANY, 256, 0x20⟩,
  ⟨QMG_G_LO_ANY, 256, 0x20⟩,
  ⟨QMG_G_FIRST_Q, 256, 0x20⟩,
  ⟨QMG_G_ECC_CORR_SRAM, 256, 0x20⟩,
  ⟨QMG_G_ECC_CORR_DRAM, 256, 0x20⟩,
  ⟨QMG_G_ECC_UNCORR, 256, 0x20⟩,
  ⟨QMG_G_PUSH_FULL, 256, 0x20⟩,
  ⟨QMG_G_ITEMS, 256, 0x20⟩,
  ⟨QMG_HI_STICKY, 256, 0x4⟩,
  ⟨QMG_HI_LVL, 256, 0x4⟩]
def rows_1C_1 : List Row := [⟨QMG_LO_STICKY, 256, 0x4⟩,
  ⟨QMG_LO_LVL, 256, 0x4⟩,
  ⟨fun _ => QMG_PUSH_OK, 1, 0x0⟩,
  ⟨fun _ => QMG_PUSH_FULL, 1, 0x0⟩,
  ⟨fun _ => QMG_PUSH_TOO_LONG, 1, 0x0⟩,
  ⟨fun _ => QMG_PUSH_OVERRUN, 1, 0x0⟩,
  ⟨fun _ => QMG_RELEASED, 1, 0x0⟩,
  ⟨fun _ => QMG_RETURNED, 1, 0x0⟩,
  ⟨fun _ => QMG_DROP_REST_CNT, 1, 0x0⟩,
  ⟨fun _ => QMG_ECC_DROP, 1, 0x0⟩,
  ⟨fun _ => QMG_FLUSHED, 1, 0x0⟩,
  ⟨fun _ => QMG_ACT_DISCARD, 1, 0x0⟩]
def rows_1C : List Row := rows_1C_0 ++ rows_1C_1
def rows_1E_0 : List Row := [⟨fun _ => TMG_WIN_STITCHES, 1, 0x0⟩,
  ⟨fun _ => TMG_MESH_RATE_KBPS, 1, 0x0⟩,
  ⟨fun _ => TMG_STATS_TAG, 1, 0x0⟩,
  ⟨TMG_OVERHEAD, 3, 0x40⟩,
  ⟨TMG_GATE_EN, 2, 0x40⟩,
  ⟨TMG_GATE_STATE, 2, 0x40⟩,
  ⟨TMG_SWITCH_PEND, 2, 0x40⟩,
  ⟨TMG_ENTRY, 2, 0x40⟩,
  ⟨TMG_OPER_LEN, 2, 0x40⟩,
  ⟨TMG_OPER_CYCLE_NS, 2, 0x40⟩,
  ⟨TMG_TAKEOVER_NS, 2, 0x40⟩,
  ⟨TMG_TAKEOVER_SEC_LO, 2, 0x40⟩,
  ⟨TMG_TAKEOVER_SEC_HI, 2, 0x40⟩,
  ⟨TMG_ITEMS_SENT, 3, 0x40⟩,
  ⟨TMG_OCTETS_CHARGED, 3, 0x40⟩,
  ⟨TMG_GATE_HOLD, 2, 0x40⟩]
def rows_1E_1 : List Row := [⟨TMG_GATE_TOO_LONG, 2, 0x40⟩,
  ⟨TMG_GATE_LATE, 2, 0x40⟩,
  ⟨TMG_GATE_SWITCHES, 2, 0x40⟩]
def rows_1E : List Row := rows_1E_0 ++ rows_1E_1
def rows_20_0 : List Row := [⟨fun _ => ETH_MGMT_PORT, 1, 0x0⟩,
  ⟨fun _ => ETH_MGMT_POCKET, 1, 0x0⟩,
  ⟨fun _ => ETH_ETH_OTHER_Q, 1, 0x0⟩,
  ⟨fun _ => ETH_PTP_Q, 1, 0x0⟩,
  ⟨ETH_MGMT_ADDR, 4, 0x4⟩,
  ⟨fun _ => ETH_MGMT_AUTH_FAIL, 1, 0x0⟩,
  ⟨ETH_EN, 2, 0x40⟩,
  ⟨ETH_MODE, 2, 0x40⟩,
  ⟨ETH_AN_EN, 2, 0x40⟩,
  ⟨ETH_MAX_FRAME, 2, 0x40⟩,
  ⟨ETH_PVID, 2, 0x40⟩,
  ⟨ETH_MAC_LO, 2, 0x40⟩,
  ⟨ETH_MAC_HI, 2, 0x40⟩,
  ⟨ETH_LINK, 2, 0x40⟩,
  ⟨ETH_SGMII_SPEED, 2, 0x40⟩,
  ⟨ETH_AN_DONE, 2, 0x40⟩]
def rows_20_1 : List Row := [⟨ETH_HELD, 2, 0x40⟩,
  ⟨ETH_RX_FRAMES, 2, 0x40⟩,
  ⟨ETH_RX_OCTETS, 2, 0x40⟩,
  ⟨ETH_RX_FCS_ERR, 2, 0x40⟩,
  ⟨ETH_RX_TOO_LONG, 2, 0x40⟩,
  ⟨ETH_RX_CTRL, 2, 0x40⟩,
  ⟨ETH_RX_NO_BUF, 2, 0x40⟩,
  ⟨ETH_TX_FRAMES, 2, 0x40⟩,
  ⟨ETH_TX_OCTETS, 2, 0x40⟩,
  ⟨fun _ => ETH_SAFE_DISCARD 1, 1, 0x0⟩]
def rows_20 : List Row := rows_20_0 ++ rows_20_1
def rows_22_0 : List Row := [⟨fun _ => SEA_ROLE, 1, 0x0⟩,
  ⟨fun _ => SEA_MIRROR, 1, 0x0⟩,
  ⟨fun _ => SEA_BASED, 1, 0x0⟩,
  ⟨fun _ => SEA_STBY_REC, 1, 0x0⟩,
  ⟨fun _ => SEA_CLAIM_OUT, 1, 0x0⟩,
  ⟨fun _ => SEA_CLAIM_IN, 1, 0x0⟩,
  ⟨fun _ => SEA_BLOCK_LOCK, 1, 0x0⟩,
  ⟨fun _ => SEA_PAIRED, 1, 0x0⟩,
  ⟨fun _ => SEA_PAIR_EPOCH, 1, 0x0⟩,
  ⟨fun _ => SEA_PEER_EPOCH, 1, 0x0⟩,
  ⟨fun _ => SEA_PEER_EUI_LO, 1, 0x0⟩,
  ⟨fun _ => SEA_PEER_EUI_HI, 1, 0x0⟩,
  ⟨fun _ => SEA_PAIR_POCKET, 1, 0x0⟩,
  ⟨fun _ => SEA_PAIR_PK_EN, 1, 0x0⟩,
  ⟨fun _ => SEA_LISTEN_STITCHES, 1, 0x0⟩,
  ⟨fun _ => SEA_AUTO_PAIR, 1, 0x0⟩]
def rows_22_1 : List Row := [⟨fun _ => SEA_AUTO_CLAIM, 1, 0x0⟩,
  ⟨fun _ => SEA_MISS_RUN, 1, 0x0⟩,
  ⟨fun _ => SEA_LAG, 1, 0x0⟩,
  ⟨fun _ => SEA_SKEW_NS, 1, 0x0⟩,
  ⟨fun _ => SEA_SKEW_LIMIT_NS, 1, 0x0⟩,
  ⟨fun _ => SEA_BULK_ITEMS, 1, 0x0⟩,
  ⟨fun _ => SEA_MIRROR_SEQ, 1, 0x0⟩,
  ⟨fun _ => SEA_STATS_TAG, 1, 0x0⟩,
  ⟨fun _ => SEA_HB_SENT, 1, 0x0⟩,
  ⟨fun _ => SEA_HB_MISSED, 1, 0x0⟩,
  ⟨fun _ => SEA_TAG_FAIL, 1, 0x0⟩,
  ⟨fun _ => SEA_RETRANSMIT, 1, 0x0⟩,
  ⟨fun _ => SEA_REC_SENT, 1, 0x0⟩,
  ⟨fun _ => SEA_REC_APPLIED, 1, 0x0⟩,
  ⟨fun _ => SEA_BULK_PASSES, 1, 0x0⟩,
  ⟨fun _ => SEA_CLAIMS, 1, 0x0⟩]
def rows_22_2 : List Row := [⟨fun _ => SEA_CLAIMS_LOST, 1, 0x0⟩,
  ⟨fun _ => SEA_RETREATS, 1, 0x0⟩,
  ⟨fun _ => SEA_HANDOVERS, 1, 0x0⟩,
  ⟨fun _ => SEA_STBY_RX_DROP, 1, 0x0⟩,
  ⟨fun _ => SEA_STBY_DL_DROP, 1, 0x0⟩,
  ⟨fun _ => SEA_STALE_CNT, 1, 0x0⟩,
  ⟨fun _ => SEA_SKEW_ALARMS, 1, 0x0⟩]
def rows_22 : List Row := rows_22_0 ++ rows_22_1 ++ rows_22_2
def rows_24_0 : List Row := [⟨fun _ => UPD_PHASE, 1, 0x0⟩,
  ⟨fun _ => UPD_CUR_BANK, 1, 0x0⟩,
  ⟨fun _ => UPD_TRIAL, 1, 0x0⟩,
  ⟨fun _ => UPD_BANK0_STATE, 1, 0x0⟩,
  ⟨fun _ => UPD_BANK1_STATE, 1, 0x0⟩,
  ⟨fun _ => UPD_CUR_MANIFEST_VER, 1, 0x0⟩,
  ⟨fun _ => UPD_OTHER_MANIFEST_VER, 1, 0x0⟩,
  ⟨fun _ => UPD_BANK_MIB, 1, 0x0⟩,
  ⟨fun _ => UPD_INSTALL_OCTETS, 1, 0x0⟩,
  ⟨fun _ => UPD_PAUSE_STITCH, 1, 0x0⟩,
  ⟨fun _ => UPD_LAST_PAUSE_US, 1, 0x0⟩,
  ⟨fun _ => UPD_LAST_RESULT, 1, 0x0⟩,
  ⟨fun _ => UPD_STATS_TAG, 1, 0x0⟩,
  ⟨fun _ => UPD_INSTALLS, 1, 0x0⟩,
  ⟨fun _ => UPD_INSTALL_FAIL, 1, 0x0⟩,
  ⟨fun _ => UPD_ACTIVATIONS, 1, 0x0⟩]
def rows_24_1 : List Row := [⟨fun _ => UPD_ACT_FAIL, 1, 0x0⟩,
  ⟨fun _ => UPD_REVERTS, 1, 0x0⟩,
  ⟨fun _ => UPD_RECORDS_MIGRATED, 1, 0x0⟩]
def rows_24 : List Row := rows_24_0 ++ rows_24_1
def rows_26_0 : List Row := [⟨fun _ => SVC_RUNNING, 1, 0x0⟩,
  ⟨fun _ => SVC_FRAG_PSDU_L, 1, 0x0⟩,
  ⟨fun _ => SVC_FRAG_PSDU_M, 1, 0x0⟩,
  ⟨fun _ => SVC_FRAG_PSDU_H, 1, 0x0⟩,
  ⟨fun _ => SVC_REASM_TIMEOUT_S, 1, 0x0⟩,
  ⟨fun _ => SVC_CSUM_ELIDE_OK, 1, 0x0⟩,
  ⟨fun _ => SVC_MAX_DEPTH, 1, 0x0⟩,
  ⟨fun _ => SVC_REG_MAX_PER_NODE, 1, 0x0⟩,
  ⟨fun _ => SVC_REASM_USED, 1, 0x0⟩,
  ⟨fun _ => SVC_REG_USED, 1, 0x0⟩,
  ⟨fun _ => SVC_CAMP_ACTIVE, 1, 0x0⟩,
  ⟨fun _ => SVC_STATS_TAG, 1, 0x0⟩,
  ⟨fun _ => SVC_DECOMP_ERR, 1, 0x0⟩,
  ⟨fun _ => SVC_ADAPT_STOPPED, 1, 0x0⟩,
  ⟨fun _ => SVC_REASM_OK, 1, 0x0⟩,
  ⟨fun _ => SVC_REASM_ERR, 1, 0x0⟩]
def rows_26_1 : List Row := [⟨fun _ => SVC_REASM_FULL, 1, 0x0⟩,
  ⟨fun _ => SVC_REASM_TIMEOUT, 1, 0x0⟩,
  ⟨fun _ => SVC_TOO_BIG, 1, 0x0⟩,
  ⟨fun _ => SVC_NO_ROUTE, 1, 0x0⟩,
  ⟨fun _ => SVC_DAO_OK, 1, 0x0⟩,
  ⟨fun _ => SVC_DAO_STALE, 1, 0x0⟩,
  ⟨fun _ => SVC_DAO_UNKNOWN, 1, 0x0⟩,
  ⟨fun _ => SVC_DAO_LOOP, 1, 0x0⟩,
  ⟨fun _ => SVC_ROUTE_EXPIRED, 1, 0x0⟩,
  ⟨fun _ => SVC_PARENT_CHANGES, 1, 0x0⟩,
  ⟨fun _ => SVC_REG_OK, 1, 0x0⟩,
  ⟨fun _ => SVC_REG_DUP, 1, 0x0⟩,
  ⟨fun _ => SVC_REG_STALE, 1, 0x0⟩,
  ⟨fun _ => SVC_REG_FULL, 1, 0x0⟩,
  ⟨fun _ => SVC_REG_INVALID, 1, 0x0⟩,
  ⟨fun _ => SVC_REG_EXPIRED, 1, 0x0⟩]
def rows_26_2 : List Row := [⟨fun _ => SVC_IMG_BLOCKS_SENT, 1, 0x0⟩,
  ⟨fun _ => SVC_IMG_IGNORED, 1, 0x0⟩,
  ⟨fun _ => SVC_SVC_DROP, 1, 0x0⟩]
def rows_26 : List Row := rows_26_0 ++ rows_26_1 ++ rows_26_2
def rows_28_0 : List Row := [⟨fun _ => HIF_LINK_UP, 1, 0x0⟩,
  ⟨fun _ => HIF_WIDTH, 1, 0x0⟩,
  ⟨fun _ => HIF_SPEED, 1, 0x0⟩,
  ⟨fun _ => HIF_BUS_MASTER, 1, 0x0⟩,
  ⟨fun _ => HIF_SPI_FRAME_ERR, 1, 0x0⟩,
  ⟨fun _ => HIF_UART_DROP, 1, 0x0⟩,
  ⟨HIF_RX_BASE_LO, 8, 0x20⟩,
  ⟨HIF_TX_BASE_LO, 8, 0x20⟩,
  ⟨HIF_RX_BASE_HI, 8, 0x20⟩,
  ⟨HIF_TX_BASE_HI, 8, 0x20⟩,
  ⟨HIF_RX_SIZE_LOG2, 8, 0x20⟩,
  ⟨HIF_TX_SIZE_LOG2, 8, 0x20⟩,
  ⟨HIF_RX_EN, 8, 0x20⟩,
  ⟨HIF_TX_EN, 8, 0x20⟩,
  ⟨HIF_RX_TAIL, 8, 0x20⟩,
  ⟨HIF_TX_TAIL, 8, 0x20⟩]
def rows_28_1 : List Row := [⟨HIF_RX_HEAD, 8, 0x20⟩,
  ⟨HIF_TX_HEAD, 8, 0x20⟩,
  ⟨HIF_RX_DONE_CNT, 8, 0x20⟩,
  ⟨HIF_TX_DONE_CNT, 8, 0x20⟩,
  ⟨HIF_RX_FAIL_CNT, 8, 0x20⟩,
  ⟨HIF_TX_FAIL_CNT, 8, 0x20⟩,
  ⟨HIF_HOST_RING_MAP, 1024, 0x4⟩]
def rows_28 : List Row := rows_28_0 ++ rows_28_1
def rows_3F_0 : List Row := [⟨fun _ => DBG_STRAP, 1, 0x0⟩,
  ⟨fun _ => DBG_REQ, 1, 0x0⟩,
  ⟨fun _ => DBG_TEST_ROOT, 1, 0x0⟩]
def rows_3F : List Row := rows_3F_0

/-- The rows of the 64 KiB part of the window that holds an offset (R530). -/
def rowsOf (part : Nat) : List Row :=
  match part with
  | 0x0 => rows_00
  | 0x1 => rows_01
  | 0x2 => rows_02
  | 0x3 => rows_03
  | 0x4 => rows_04
  | 0x5 => rows_05
  | 0x8 => rows_08
  | 0x9 => rows_09
  | 0xA => rows_0A
  | 0xC => rows_0C
  | 0x10 => rows_10
  | 0x12 => rows_12
  | 0x14 => rows_14
  | 0x15 => rows_15
  | 0x18 => rows_18
  | 0x1C => rows_1C
  | 0x1E => rows_1E
  | 0x20 => rows_20
  | 0x22 => rows_22
  | 0x24 => rows_24
  | 0x26 => rows_26
  | 0x28 => rows_28
  | 0x3F => rows_3F
  | _ => []

/-- Every field of the word at a window offset; empty at an unassigned offset (R9). -/
def fieldsAt (off : Nat) : List Fld := (rowsOf (off / 0x10000)).filterMap (fun r => r.at? off)

end Reg
end Sys2Proof
end

