-- ==== Sys2Proof/Machine/State.lean ====
section
/-!
DEFINITION. The state of the block, plain data, and the state after reset.
-/
namespace Sys2Proof.Machine

/-- A notice record (R542); `arg` is octets 8 to 15 as one little-endian number. -/
structure Note where
  stitch : Nat
  src : Nat
  sev : Nat
  code : Nat
  arg : Nat
  deriving DecidableEq, Repr

/-- NTC: the notice ring, the early buffer and interrupt moderation (R89, R536, R537, R544). -/
structure Ntc where
  ring : KV Note := []
  early : List Note := []
  earlyLost : Nat := 0
  /-- notices discarded since the last NOTICE_LOST -/
  lostSince : Nat := 0
  /-- events of a moderated vector since the first after its last firing -/
  mod : KV Nat := []
  msixEn : Bool := false
  /-- mask bits of the MSI-X table entries -/
  msixMask : Nat := 2 ^ 32 - 1
  /-- the pending-bit array: vectors that rose while their entry was masked (R534) -/
  pba : Nat := 0
  d3hot : Bool := false
  /-- HOST_IRQ_N held asserted by a SAFE beacon until GLB_STATE is read (R538) -/
  safeIrq : Bool := false
  /-- notice lines handed to the UART of which UART_DROP does not say yet whether they were dropped (R541) -/
  uartLines : Nat := 0
  deriving DecidableEq, Repr

/-- The mutable state of a crossing (R123, R125): an event, or the flag of a value, in flight and one that waits; of a hold-and-flag crossing
the value that its source holds, the latest one written during the hold, and the last one that arrived. -/
structure Xing where
  ovr : Bool := false
  lost : Nat := 0
  pend : Bool := false
  fly : Bool := false
  held : Nat := 0
  next : Nat := 0
  got : Option Nat := none
  deriving DecidableEq, Repr

/-- CKR beyond its registers. -/
structure Clk where
  /-- last COARSE and FINE counts by source code (1 XO, 2 TCXO, 3 LF) -/
  coarse : KV Nat := []
  fine : KV Nat := []
  /-- the last count of either kind by source code (R126) -/
  last : KV Nat := []
  /-- a switch waiting for the idle bank to lock: the target source and whether it is forced -/
  sw : Option (Nat × Bool) := none
  xing : KV Xing := []
  deriving DecidableEq, Repr

/-- TIM beyond its registers. Times are in units of 2^-32 ns (R130). -/
structure Tim where
  now : Nat := 0
  /-- the TIME domain has run on a qualified crystal since the start (R130) -/
  started : Bool := false
  incr : Nat := 0x0400000000
  pendIncr : Option Nat := none
  /-- steps committed and not yet applied, in 2^-16 ns (R133) -/
  pendStep : Option Int := none
  pendSet : Option Nat := none
  /-- number of the current stitch (R139) -/
  stitch : Nat := 0
  /-- number of the next boundary to be generated (R139, R141) -/
  nextB : Nat := 1
  /-- number of the last boundary generated, which stitch-clocked channels count from (R153) -/
  lastB : Nat := 0
  /-- a discontinuity whose effects on the other blocks are due: the stitch number before it, the cause and a step's whole µs -/
  jump : Option (Nat × Nat × Nat) := none
  /-- stitches since the last servo commit; none until READY (R138) -/
  wdog : Option Nat := none
  /-- timestamp FIFOs by port, head first, each record as four words (R148) -/
  fifo : KV (List (List Nat)) := []
  /-- ports whose FIFO has not been read since the last discontinuity (R137) -/
  fifoDisc : List Nat := []
  /-- target of an armed trigger channel, in ns since the epoch -/
  trig : KV Nat := []
  deriving DecidableEq, Repr

/-- TMR capture conditioning of one channel (R157): the accepted level and the edges counted by the prescaler. -/
structure CapSt where
  lvl : Bool := false
  edges : Nat := 0
  deriving DecidableEq, Repr

/-- A raw-sample window that captures: its trigger channel, its lane, and its LEN (R151, R232). -/
structure RawWin where
  chan : Nat
  lane : Nat
  len : Nat
  deriving DecidableEq, Repr

/-- A scheduler-node record of the TRAFFIC section (R53). -/
structure SchedNode where
  id : Nat
  parent : Nat
  port : Nat
  level : Nat
  deriving DecidableEq, Repr

/-- The structure a Pattern fixes (R39 to R58). -/
structure Pat where
  patternId : Nat := 0
  patternVer : Nat := 0
  hash : List Nat := []
  region : Nat := 0
  lanes : Nat := 0
  chains : Nat := 0
  mSpacing : Nat := 0
  mCentre : List Nat := []
  modesL : Nat := 0
  modesM : Nat := 0
  modesH : Nat := 0
  maxPsdu : Nat := 0
  demodL : Nat := 0
  demodM : Nat := 0
  demodH : Nat := 0
  demodFloat : Nat := 0
  slotStitches : Nat := 0
  sfExp : Nat := 0
  weaveCells : Nat := 0
  nodeCount : Nat := 0
  ctxCache : Nat := 0
  keyCache : Nat := 0
  sram : List Nat := []
  exmEntries : Nat := 0
  lpmPrefixes : Nat := 0
  lenMap : Nat := 0
  queueCount : Nat := 0
  queueGroups : Nat := 0
  spillMib : Nat := 0
  sched : List SchedNode := []
  qParent : List Nat := []
  hostOwned : Nat := 0
  pins : List (Nat × Nat) := []
  svcMask : Nat := 0
  imageMib : Nat := 0
  roleCfg : Nat := 0
  pairId : Nat := 0
  deriving DecidableEq, Repr

/-- An item of a queue (R409): its tag and its octets; `size` is the declared size, `openNs` the side record of R442. -/
structure Item where
  id : Nat
  size : Nat
  data : List Nat := []
  prio : Nat := 0
  closed : Bool := false
  aborted : Bool := false
  ecc : Bool := false
  front : Bool := false
  taken : Bool := false
  node : Nat := 0x1FFFF
  openNs : Nat := 0
  /-- the SOURCE of R546, and the ingress timestamp with its DISC flag: seconds, ns -/
  src : Nat := 3
  ts : Option (Nat × Nat × Bool) := none
  deriving DecidableEq, Repr

/-- A queue: its settings (R425), its items in the order in which they are presented (R416), and where its words lie (R411). -/
structure Queue where
  consumer : Nat
  ct : Nat := 0
  itemLimit : Nat := 65535
  spillLimit : Nat := 0
  high : Nat := 0
  low : Nat := 0
  items : List Item := []
  /-- runs of words, oldest first, each with the item they belong to: in the head ring, the spill region and the tail ring (R411) -/
  head : List (Nat × Nat) := []
  spill : List (Nat × Nat) := []
  tail : List (Nat × Nat) := []
  /-- the sticky bit's crossing has raised its notice (R422) -/
  hiNoted : Bool := false
  loNoted : Bool := false
  deriving DecidableEq, Repr

/-- Minimum, maximum and sum of one sampled value (R442). -/
structure Stat where
  mn : Nat
  mx : Nat
  sum : Nat
  deriving DecidableEq, Repr

/-- The latency window of a queue (R442): samples taken and the three values' statistics. -/
structure LatWin where
  n : Nat
  depth : Stat
  items : Stat
  soj : Stat
  deriving DecidableEq, Repr

/-- A child of a scheduler node (R433, R435): key q for a queue, 2^16 + n for a scheduler node. -/
structure Child where
  quantum : Nat := 1600
  cls : Nat := 0
  deficit : Nat := 0
  deriving DecidableEq, Repr

/-- A gate list (R436): entry words, the cycle and the base in ns. -/
structure GateList where
  entries : List Nat := [0xFF + 250000 * 256]
  cycle : Nat := 1000000
  base : Nat := 0
  deriving DecidableEq, Repr

/-- A staged admin list (R439, R440). -/
structure GateSwap where
  list : GateList
  takeover : Nat
  loaded : Bool
  /-- the takeover instant came before the load finished (R440) -/
  late : Bool := false
  deriving DecidableEq, Repr

/-- What TMG samples of a queue at a boundary (R442). -/
structure LatSample where
  queue : Nat
  depth : Nat
  items : Nat
  soj : Nat
  deriving DecidableEq, Repr

/-- TMG beyond its registers. -/
structure Tmg where
  child : KV Child := []
  /-- active children of a scheduler node, head first -/
  active : KV (List Nat) := []
  /-- scheduler nodes whose head has begun its turn -/
  turn : List Nat := []
  /-- the child whose item a scheduler node has staged, the queue and the item -/
  staged : KV (Nat × Nat × Nat) := []
  oper : KV GateList := []
  admin : KV Nat := []
  swap : KV GateSwap := []
  lat : KV LatWin := []
  /-- last complete window of a queue, and the stitch that ended it -/
  last : KV (Nat × LatWin) := []
  /-- the window length in force -/
  win : Nat := 4000
  /-- a window has ended and its statistics are to be kept (R442) -/
  winDue : Bool := false
  /-- samples frozen at a boundary whose accumulation was carried over (R23, R442) -/
  frozen : List LatSample := []
  /-- queues whose gate wait has been counted (R437) -/
  held : List Nat := []
  /-- items sent while still open: queue, item and the length charged (R432) -/
  cut : List (Nat × Nat × Nat) := []
  /-- gate class of the first GATE_TOO_LONG discard of the stitch, by port -/
  tooLong : KV Nat := []
  deriving DecidableEq, Repr

/-- The last calibration of a group (R193): the sensor's Tj, the stitch, the results and the status of the run. -/
structure CalRes where
  tj : Int
  stitch : Nat
  vco : Nat
  gain : Nat
  frac : Nat := 0
  dc : List Int := []
  status : Nat
  deriving DecidableEq, Repr

/-- A radio group beyond its registers (R168 to R182). Times in ns. -/
structure Rf where
  /-- entry into LOCK, or into the running calibration -/
  entry : Nat := 0
  /-- the state before LOCK, for LOCK_FAIL -/
  prev : Nat := 0
  /-- a calibration run has failed since the entry into CAL -/
  failed1 : Bool := false
  /-- the trigger of the running calibration (R196), whether it was forced, and the boundaries it waited -/
  trigger : Nat := 0
  forced : Bool := false
  waited : Nat := 0
  /-- what made the pending calibration pending: temperature, command -/
  pendTemp : Bool := false
  pendCmd : Bool := false
  cal : Option CalRes := none
  /-- what step 7 of the last start calibrated besides (R172) -/
  iq : Option StepCal := none
  /-- the steps of the frequency trim that wait until the group leaves TX, in ppb (R183) -/
  lag : Int := 0
  /-- Tj of the last full calibration, while the stored calibration stands -/
  valid : Bool := false
  /-- leaving RX for a transmission (R169) -/
  leaving : Bool := false
  /-- the state from which TX was entered -/
  txFrom : Nat := 3
  /-- pins of EARLY_MASK hold their TX value; pins of HOLD_MASK still do -/
  femEarly : Bool := false
  femHold : Bool := false
  deriving DecidableEq, Repr

/-- A pocket (R351). `wrapped` is WRAPPED; `key` is the material it holds, none once zeroised. -/
structure Pocket where
  state : Nat
  verified : Bool := false
  promoting : Bool := false
  rewrap : Bool := false
  typ : Nat
  usage : Nat
  parent : Nat
  partner : Nat := 0xFFFF
  epoch : Nat
  parentEpoch : Nat := 0
  stateStitch : Nat := 0
  retireAt : Nat := 0
  key : Option KeyT
  wrapped : List Nat := []
  /-- wrapped, through its PARENT chain, under the test root -/
  test : Bool := false
  /-- it was ACTIVE when it was marked ORPHANED (R336) -/
  wasActive : Bool := false
  deriving DecidableEq, Repr

/-- A copy of a pocket's record in MRAM (R350): the record, none for EMPTY, its GEN, and whether its CRC passes. -/
structure PockCopy where
  body : Option Pocket := none
  gen : Nat := 0
  ok : Bool := true
  deriving DecidableEq, Repr

/-- A cached derived key (R364). -/
structure KeyEnt where
  node : Nat
  epoch : Nat
  key : KeyT
  master : Nat
  orphan : Bool := false
  deriving DecidableEq, Repr

/-- A pending rekey entry (R366). -/
structure Rekey where
  epoch : Nat
  index : Nat
  item : Nat
  deriving DecidableEq, Repr

/-- KEY beyond its registers. -/
structure Key where
  /-- the current records of the pockets that are not EMPTY, and both copies of every pocket that has been written: the key is twice the
  pocket's number, plus 1 for the second copy -/
  pockets : KV Pocket := []
  copies : KV PockCopy := []
  /-- the boundary after an INVALIDATE has come, and the marked keys are to be zeroised (R361) -/
  orphanDue : Bool := false
  cache : List KeyEnt := []
  rekeys : KV Rekey := []
  /-- hashes of the owner keys (R367) -/
  owners : List (List Nat) := []
  /-- the owner table before its last commit -/
  ownersOld : List (List Nat) := []
  nodeEpoch : Nat := 0
  /-- pockets whose promotion waits for the boundary -/
  waiting : List Nat := []
  /-- the pocket that a PROMOTE command stays BUSY for -/
  cmd : Option Nat := none
  /-- children still to be re-wrapped -/
  rewrap : List Nat := []
  deriving DecidableEq, Repr

/-- The stage of a demodulator context in use (R233). -/
inductive CtxStage where
  | sync | stream | cancelling
  deriving DecidableEq, Repr

/-- A demodulator context in use (R212 to R231). -/
structure Ctx where
  stage : CtxStage := .sync
  lane : Nat
  chan : Nat
  band : Nat
  modeBit : Nat
  fec : Bool := false
  cls : Nat
  /-- drawn from the FLOAT pool -/
  float : Bool := false
  /-- correlated power, in 0.25 dBm -/
  power : Int
  start : Nat
  stitch : Nat
  sfdNs : Nat
  gain : Nat
  partner : Option Nat := none
  captured : Bool := false
  cancelled : Bool := false
  collided : Bool := false
  clipped : Bool := false
  erased : Bool := false
  steps : Nat := 0
  /-- estimates in a row below the threshold, and the lowest estimate so far (R220, R229) -/
  low : Nat := 0
  worst : Option Int := none
  /-- the frequency trim at the SFD (R226); the coded frame uses the code that the band has selected (R225) -/
  trim : Int := 0
  codeOk : Bool := true
  /-- the settings of `rxSettings` as they stood when the frame started (R25) -/
  set : List Nat := []
  mcs : Nat := 0
  len : Nat := 0
  cfo : Int := 0
  rssi : Int := 0
  /-- its FCS is of 2 octets (R223) -/
  fcs2 : Bool := false
  /-- the node that its source address, once streamed, names (R295) -/
  node : Option Nat := none
  /-- the queue and item the frame streams into -/
  item : Option (Nat × Nat) := none
  /-- the key store as it stood at each change of its keys while the frame streams, with the time: an open that has started keeps its
  key (R336, R356) -/
  held : List (Nat × Key) := []
  deriving DecidableEq, Repr

/-- The figures of one channel (R233). -/
structure ChanStat where
  floor : Int := 0
  det : Nat := 0
  ok : Nat := 0
  fcs : Nat := 0
  len : Nat := 0
  rssi : Int := 0
  /-- the floor measured in the last 64 stitches, newest first (R204) -/
  hist : List Int := []
  deriving DecidableEq, Repr

/-- RXP beyond its registers. -/
structure Rx where
  ctxs : KV Ctx := []
  /-- live figures by 128 × lane + channel, and those of the last snapshot -/
  chans : KV ChanStat := []
  chansPub : KV ChanStat := []
  /-- gain steps decided and not yet in effect, by lane -/
  marks : KV Nat := []
  /-- reference-grade values of the running steering window: node and CFO -/
  refs : List (Nat × Int) := []
  starved : Bool := false
  clamped : Bool := false
  deriving DecidableEq, Repr

/-- How a frame is sealed (R333): the key, its counter ID and epoch, the level and the key identifier. -/
structure Seal where
  key : KeyT
  cid : Nat
  epoch : Nat
  level : Nat
  mode : Nat
  source : Nat
  index : Nat
  /-- the pocket through which the key was found -/
  pocket : Option Nat := none
  deriving DecidableEq, Repr

/-- Where a frame to send comes from. -/
inductive TxSrc where
  /-- the owner's list, in a Weave cell -/
  | cell (col word : Nat)
  /-- a follow frame or a join response by CSMA/CA (R305) -/
  | follow
  /-- an acknowledgement -/
  | ack
  /-- a device beacon in a cell, and a pair beacon -/
  | beacon (col : Nat)
  | pairBeacon
  /-- a broadcast of SVC in a cell: the campaign, or none for a DIO -/
  | bcast (col : Nat) (camp : Option Nat)
  /-- the wake-up copies or the wake call ahead of a payload, and the payload -/
  | wake (col : Nat)
  | payload (col : Nat)
  /-- the WAKE_CALL command -/
  | call
  deriving DecidableEq, Repr

/-- How far a frame has come (R245). -/
inductive TxPhase where
  | planned | keyed | taken | setup | air
  deriving DecidableEq, Repr

/-- A frame to send: the transmit header (R243), its start in ns, and what has been settled. -/
structure TxF where
  src : TxSrc
  lane : Nat
  chan : Nat
  modeBit : Nat := 0
  fec : Bool := false
  mcs : Nat := 0
  len : Nat := 0
  fcs2 : Bool := false
  whiten : Bool := false
  kind : Nat
  reach : Nat := 0
  node : Nat := 0x1FFFF
  power : Int := 140
  preamble : Nat := 8
  t : Nat
  phase : TxPhase := .planned
  item : Option (Nat × Nat) := none
  psdu : List Nat := []
  sealed : Option Seal := none
  fc : Nat := 0
  airUs : Nat := 0
  bucket : Nat := 0
  shift : Int := 0
  held : Bool := false
  /-- its request to the coexistence set has been asserted (R185) -/
  req : Bool := false
  /-- the transmit header of its item (R243); empty of a frame that comes from no queue -/
  hdr : List Nat := []
  /-- frames in the wake-up train, and the µs between their starts -/
  copies : Nat := 0
  step : Nat := 0
  /-- of an acknowledgement: the pending bit it carries, and its time correction where it is an Enh-Ack -/
  pendBit : Bool := false
  tc : Option Int := none
  /-- of a frame in a cell: its owner's guard allowance at the prefetch (R282); and the acknowledgement wait as settled at its start, in µs (R25,
  R307) -/
  g : Nat := 0
  ackUs : Nat := 0
  /-- the frame asks for an acknowledgement, and its sequence number -/
  ar : Bool := false
  seq : Nat := 0
  /-- of a train or a call: the airtime of its payload, and the end of its run of WAKE cells in ns -/
  payUs : Nat := 0
  limit : Nat := 0
  /-- of a train: the rendezvous time of each copy (R253) -/
  rz : List Nat := []
  /-- of a wake call: the pattern and its length, the preamble bits, the rate code and the repeats; and the µs from its last bit to the payload
  (R255) -/
  pattern : Nat := 0
  patLen : Nat := 0
  pre : Nat := 0
  rate : Nat := 0
  reps : Nat := 0
  gapUs : Nat := 0
  deriving DecidableEq, Repr

/-- A record of a Seam frame (R470). -/
structure SeamRec where
  kind : Nat
  bulk : Bool := false
  item : Nat := 0
  body : List Nat := []
  deriving DecidableEq, Repr

/-- What the block sends out: newest first in the state's log. -/
inductive Out where
  /-- octets returned to a register read -/
  | data (rq : Requester) (octets : List Nat)
  /-- octets an SPI frame returned -/
  | spi (octets : List Nat)
  /-- an MSI-X message of a vector -/
  | msix (vector : Nat)
  /-- UART: `status` answer, state, step, item, code, boot -/
  | uartStatus (state step item code boot : Nat)
  /-- UART: `report` answer -/
  | uartReport (octets : List Nat)
  /-- UART: `OK` -/
  | uartOk
  /-- UART: `rd` answer -/
  | uartWords (words : List Nat)
  /-- UART: `ERR` with a status code -/
  | uartErr (code : Nat)
  /-- UART: `ERR len` -/
  | uartErrLen
  /-- UART: a notice line (UART_LOG), handed to the output buffer -/
  | uartNote (n : Note)
  /-- UART: the SAFE beacon line -/
  | uartBeacon (item code boot seq : Nat)
  /-- a pulse on a trigger pin, of a width in ticks and a polarity -/
  | trigPulse (pin width pol : Nat)
  /-- a frame leaving an Ethernet port -/
  | eth (port : Nat) (octets : List Nat)
  /-- a frame, beacon, acknowledgement, train or call whose first symbol leaves RF_OUT -/
  | air (f : TxF)
  /-- a frame on the Seam, from its addresses to its FCS -/
  | seam (octets : List Nat)
  /-- an item written into the buffers of a receive ring, with the descriptors written back -/
  | hostRx (ring : Nat) (octets : List Nat) (descs : List (List Nat))
  /-- the STATUS written into the first descriptor of a transmit chain -/
  | hostTx (ring index status : Nat)
  deriving DecidableEq, Repr

/-- A running tone: its start in ns, its length in µs. -/
structure Tone where
  start : Nat
  dur : Nat
  offset : Int
  power : Int
  deriving DecidableEq, Repr

/-- TXP beyond its registers. -/
structure Tx where
  frames : KV TxF := []
  nextId : Nat := 0
  /-- airtime by 512 × chain + bucket number mod 360 -/
  duty : KV Nat := []
  /-- the present bucket's number -/
  bucket : Nat := 0
  tones : KV Tone := []
  /-- CARRIERS in force by chain, where it differs from the register -/
  carriers : KV Nat := []
  /-- the frame of the WAKE_CALL command -/
  call : Option Nat := none
  callNs : Nat := 0
  deriving DecidableEq, Repr

/-- A cell read at the prefetch of a slot: its column, its word and the owner's guard allowance. -/
structure SlotCell where
  col : Nat
  word : Nat
  g : Nat := 0
  /-- not served: held, stale, off battery service, or the role or a discontinuity forbids it -/
  off : Bool := false
  deriving DecidableEq, Repr

/-- A run of WAKE cells reserved for a node (R286): the column, the first slot and the number of slots. -/
structure WakeRun where
  col : Nat
  slot : Nat
  count : Nat
  deriving DecidableEq, Repr

/-- SCH beyond its registers. -/
structure Sch where
  /-- Weave cells that are not FREE, by index (R266, R267) -/
  cells : KV Nat := []
  allocStart : Nat := 0
  /-- cells of the slot in progress, and of the slot whose prefetch has been made -/
  cur : List SlotCell := []
  nxt : List SlotCell := []
  /-- the slots those belong to -/
  curSlot : Option Nat := none
  nxtSlot : Option Nat := none
  /-- the first slot to be served after a discontinuity, and the last slot read -/
  first : Nat := 0
  lastRead : Nat := 0
  /-- nodes that went LOST since the last superframe start -/
  lostFresh : List Nat := []
  /-- TX_OFFSET and ACK_OFFSET in force for them -/
  curOff : Nat × Nat := (0, 0)
  nxtOff : Nat × Nat := (0, 0)
  /-- the next context of the guard-allowance update -/
  evalIdx : Nat := 0
  runs : KV WakeRun := []
  /-- nodes whose wake run is to be tried again at the next superframe start -/
  runWait : List Nat := []
  /-- a beacon of the own pair heard in the step, for SEA: its pair epoch and ACTIVE bit (R278) -/
  pairHeard : Option (Nat × Bool) := none
  /-- last level of a node on a column: 1024 × node + column -/
  heard : KV Int := []
  deriving DecidableEq, Repr

/-- An acknowledgement that the device waits for (R307). Times in ns. -/
structure AckWait where
  q : Nat
  item : Nat
  seq : Nat
  src : TxSrc
  lo : Nat
  hi : Nat
  deriving DecidableEq, Repr

/-- A CSMA/CA procedure (R310). -/
structure Csma where
  lane : Nat
  chan : Nat
  q : Nat
  nb : Nat := 0
  be : Nat
  /-- when the present wait began, in ns -/
  from_ : Nat := 0
  deriving DecidableEq, Repr

/-- MAC beyond its registers. -/
structure Mac where
  nodes : KV Nat := []
  /-- cached contexts, the most recently used first -/
  cache : List Nat := []
  waits : KV AckWait := []
  csma : KV Csma := []
  /-- the context that READ_CTX has latched (R318) -/
  latch : Nat := 0
  /-- sequence number of the next frame the device sends -/
  seq : Nat := 0
  /-- superframe starts a node has been JOINING -/
  joinSf : KV Nat := []
  /-- first nodes of the stitch for the notices raised once per stitch, by notice -/
  first : KV Nat := []
  deriving DecidableEq, Repr

/-- A ceiling record (R339). -/
structure Ceil where
  epoch : Nat
  ceiling : Nat
  deriving DecidableEq, Repr

/-- The blocks a counter holds: the next value, the end of its block, and the blocks reserved beyond it. -/
structure Live where
  next : Nat
  stop : Nat
  more : List Nat := []
  deriving DecidableEq, Repr

/-- A KEY_MAP entry (R329). -/
structure MapEnt where
  valid : Bool
  mode : Nat
  index : Nat
  pocket : Nat
  source : Nat
  deriving DecidableEq, Repr

/-- SEC beyond its registers. -/
structure Sec where
  ceil : KV Ceil := []
  live : KV Live := []
  /-- counters whose CEILING has passed FC_LOW_MARK -/
  lowSeen : List Nat := []
  map : KV MapEnt := []
  deriving DecidableEq, Repr

/-- A forwarding table (R376 to R379, R397): valid entries by index as 256-bit numbers, octet 0 lowest; the shadow words; and where
storage is at fault. -/
structure FwdTab where
  ents : KV Nat := []
  shadow : KV Nat := []
  /-- indices with a single-bit error, with an uncorrectable error, and with an unreadable shadow word -/
  soft : List Nat := []
  bad : List Nat := []
  shBad : List Nat := []
  /-- slots that lookups treat as empty (R384) -/
  masked : List Nat := []
  insSeq : Nat := 0
  deriving DecidableEq, Repr

/-- A learn request (R391); `src` is the IPv6 address as a number. -/
structure LearnReq where
  src : Nat
  port : Nat
  mac : Nat
  vid : Nat
  tagged : Bool
  deriving DecidableEq, Repr

/-- FWD beyond its registers. -/
structure Fwd where
  exm : FwdTab := {}
  lpm : FwdTab := {}
  /-- filters by prefix length, each a 16,384-bit number (R383) -/
  filt : KV Nat := []
  /-- lengths whose filter is still to be rebuilt, the one in progress first (R390) -/
  refil : List Nat := []
  learn : List LearnReq := []
  /-- the repair list: table and index (R399) -/
  repair : List (Nat × Nat) := []
  /-- tables whose REHASH_REQUEST of cause 0 has been raised in the stitch -/
  asked : List Nat := []
  /-- next bucket of the Darner's walk, the stash counted as four buckets (R398) -/
  pos : Nat := 0
  /-- a lookup has been made since LOOKUP_STALL last took up the cycles waited (R385) -/
  looked : Bool := false
  deriving DecidableEq, Repr

/-- A packet on its way to the adaptation stage (R451): the node where the lookup has named it, and the Ethernet port it came in on
with the source station address. -/
structure AdaptIn where
  node : Option Nat := none
  data : List Nat
  port : Option (Nat × Nat) := none
  deriving DecidableEq, Repr

/-- A compression context (R448, R465). -/
structure CompCtx where
  len : Nat
  valid : Bool
  prefix_ : List Nat
  deriving DecidableEq, Repr

/-- A reassembly context (R450): its key, the pieces held by offset, and its deadline in ns. -/
structure Reasm where
  eui : Nat
  size : Nat
  tag : Nat
  parts : List (Nat × List Nat)
  deadline : Nat
  /-- fields of the headers that the whole datagram settles: kind, the header's place and that of the IPv6 header over it (R448) -/
  fixes : List (Nat × Nat × Nat) := []
  deriving DecidableEq, Repr

/-- A registration (R456): its node is the one whose EUI-64 is the ROVR; the deadline in ns. -/
structure Regn where
  addr : Nat
  node : Nat
  rovr : Nat
  tid : Nat
  deadline : Nat
  deriving DecidableEq, Repr

/-- Route state of a node (R454): the last DAOSequence and the deadline in ns. -/
structure RouteSt where
  seq : Option Nat := none
  deadline : Option Nat := none
  deriving DecidableEq, Repr

/-- The RPL instance (R453). -/
structure Rpl where
  inst : Nat := 0
  imin : Nat := 6
  doublings : Nat := 1
  redundancy : Nat := 0
  minRank : Nat := 0
  maxRank : Nat := 0
  life : Nat := 0
  unit : Nat := 0
  dodag : List Nat := []
  version : Nat := 0
  set : Bool := false
  /-- doublings of the Trickle interval so far -/
  grown : Nat := 0
  /-- bands in which a DIO waits for a BROADCAST cell -/
  due : List Nat := []
  deriving DecidableEq, Repr

/-- An image slot (R458). -/
structure ImgSlot where
  size : Nat
  data : List Nat
  closed : Bool := false
  imageId : Nat := 0
  version : Nat := 0
  deriving DecidableEq, Repr

/-- A campaign (R461). `phase` is 0 IDLE, 1 SENDING, 2 COLLECTING, 3 ENDED; a target's state is 0 PENDING, 1 DONE, 2 FAILED, 3
SILENT. -/
structure Camp where
  phase : Nat
  slot : Nat
  band : Nat
  mode : Nat
  mcs : Nat
  block : Nat
  maxRounds : Nat
  statusSf : Nat
  round : Nat := 1
  status : Nat := 0
  targets : List (Nat × Nat)
  /-- blocks of the round still to be sent, and how many the round's set has -/
  left : List Nat
  setSize : Nat
  /-- blocks merged for the next round -/
  next : List Nat := []
  /-- superframes of COLLECTING still to come -/
  collect : Nat := 0
  deriving DecidableEq, Repr

/-- A message that waits for a service (R446): 1 RPL, 2 registration, 3 images; the node it came from, and its octets. -/
structure Intake where
  svc : Nat
  node : Nat
  data : List Nat
  deriving DecidableEq, Repr

/-- A mailbox ticket (R464): the final response, the time of its completion in ns. -/
structure Ticket where
  resp : List Nat
  doneNs : Nat
  deriving DecidableEq, Repr

/-- The payload of a data frame: its node, and the interface identifiers of the frame's addresses. -/
structure MeshIn where
  node : Nat
  src : Nat
  dst : Nat
  data : List Nat
  deriving DecidableEq, Repr

/-- SVC beyond its registers. -/
structure Svc where
  ctxs : KV CompCtx := []
  reasm : List Reasm := []
  /-- fragments received and not yet judged -/
  frags : List MeshIn := []
  intake : List Intake := []
  regs : List Regn := []
  routes : KV RouteSt := []
  rpl : Rpl := {}
  slots : KV ImgSlot := []
  camps : KV Camp := []
  /-- the campaign that last had a cell of a band -/
  turn : KV Nat := []
  tickets : KV Ticket := []
  nextTicket : Nat := 1
  /-- the operation a SUBMIT stays BUSY for: its final response -/
  running : Option (List Nat) := none
  fragTag : Nat := 0
  deriving DecidableEq, Repr

/-! ### What outlives a reset (R66, R98, R493, R494) -/

/-- A Pattern copy area (R66): STATE 0 EMPTY, 1 VALID, 2 CURRENT, 3 INVALID; the write generation and the CRC-32 of the commit word; the octets. -/
structure CopyArea where
  st : Nat := 0
  ver : Nat := 0
  hash : List Nat := []
  gen : Nat := 0
  crc : Nat := 0
  data : List Nat := []
  deriving DecidableEq, Repr

/-- An image bank (R493, R494): 0 EMPTY, 1 WRITING, 2 VALID, 3 CURRENT, 4 INVALID; MRAM's copy of its manifest; the bundle in flash. -/
structure BankArea where
  st : Nat := 0
  manifest : List Nat := []
  data : List Nat := []
  deriving DecidableEq, Repr

/-- A settings record (R499). -/
structure SetRec where
  id : Nat
  ownerType : Nat
  ownerIndex : Nat
  ver : Nat
  writer : Nat
  body : List Nat
  deriving DecidableEq, Repr

/-- What the services keep in settings records (R501): the compression contexts and the RPL configuration. -/
structure SvcKeep where
  ctxs : KV CompCtx := []
  rpl : Rpl := {}
  deriving DecidableEq, Repr

/-- MRAM and flash beyond the pockets, ceilings and owner table. -/
structure Mram where
  copyA : CopyArea := {}
  copyB : CopyArea := {}
  bank0 : BankArea := {}
  bank1 : BankArea := {}
  /-- the set record (R494) -/
  curBank : Nat := 0
  curCopy : Nat := 0
  trial : Bool := false
  /-- the two copies of the root's helper data, each closed by its CRC-32 (R78) -/
  helper0 : List Nat := [0, 0, 0, 0]
  helper1 : List Nat := [0, 0, 0, 0]
  boot : Nat := 0
  pairEpoch : Nat := 0
  stbyRec : Bool := false
  /-- the last accepted SEQ of in-band management (R548) -/
  mgmtSeq : Nat := 0
  settings : List SetRec := []
  /-- the services' settings, by the MANIFEST_VER of their set -/
  keep : KV SvcKeep := []
  deriving DecidableEq, Repr

/-- Starting, and what stands around it. -/
structure Boot where
  /-- 0 powered; 1 VIN lost; 2 neither supply -/
  off : Nat := 2
  /-- a warm start that is due, by the RESET_CAUSE bit it sets (R98) -/
  warm : Option Nat := none
  /-- a watchdog reset has come before (R98) -/
  wdog : Bool := false
  /-- the self-test report (R82) -/
  report : List Nat := []
  dramMib : Nat := 0
  flashMib : Nat := 0
  /-- LOAD_MANIFEST: the octets of the running load, and whether a complete, verified one is present (R96, R97) -/
  load : Option Nat := none
  loaded : Bool := false
  /-- the ROOT item failed (R79) -/
  rootBad : Bool := false
  deriving DecidableEq, Repr

/-- An activation in progress (R501 to R504). -/
structure Upd where
  /-- octets of the running INSTALL -/
  load : Option Nat := none
  earliest : Nat := 0
  allowSkip : Bool := false
  t0 : Nat := 0
  boundary : Option Nat := none
  skipped : Nat := 0
  /-- the settings copies and the service settings made in staging -/
  staged : List SetRec := []
  /-- the pause has begun; the microcode is loaded; the images that have reported alive; the groups that must calibrate -/
  paused : Bool := false
  micro : Bool := false
  alive : List Nat := []
  cal : List Nat := []
  deriving DecidableEq, Repr

/-- PWR beyond its registers. -/
structure Pwr where
  /-- input power of the last 16 stitches, newest first -/
  pvin : List Nat := []
  /-- stitches since the last governor step of the power trigger, of the thermal trigger and of any kind -/
  sinceP : Nat := 4000
  sinceT : Nat := 4000
  since : Nat := 4000
  tjHigh : Bool := false
  /-- network time in ns of the planned exit -/
  exitAt : Option Nat := none
  /-- the DOZE image is being restored (R513) -/
  restoring : Bool := false
  /-- network time in ns at which a running exit has made the device ready (R511) -/
  busyTo : Nat := 0
  /-- the AON period last measured against the main source, in 2^-32 ns (R143); before the first measurement that of 32.768 kHz (log entry 74) -/
  aonPer : Nat := 1953125 * 2 ^ 26
  /-- matches of the wake receiver in DOZE whose notices wait for CORE: pattern and action (R190) -/
  heard : List (Nat × Nat) := []
  deriving DecidableEq, Repr

/-- A request that waits for in-band management (R548): port, source address, port and station, and the UDP payload. -/
structure MgmtReq where
  port : Nat
  src : Nat
  sport : Nat
  mac : Nat
  data : List Nat
  deriving DecidableEq, Repr

/-- HIF and ETH beyond their registers. -/
structure Hif where
  /-- posted receive descriptors by ring, head first: address and length -/
  rx : KV (List (Nat × Nat)) := []
  /-- descriptors read of a transmit chain whose last one is not posted yet, by ring (R547) -/
  tx : KV (List TxDesc) := []
  /-- FRAME_ERR since the last STATUS (R539) -/
  spiErr : Bool := false
  mgmt : List MgmtReq := []
  deriving DecidableEq, Repr

/-! ### The twin (R469 to R488) -/

/-- A heartbeat (R482). -/
structure Beat where
  stitch : Nat
  epoch : Nat
  role : Nat
  mirror : Nat
  claimOut : Bool
  based : Bool
  hoReady : Bool
  eui : List Nat
  seq : Nat
  deriving DecidableEq, Repr

/-- A sequenced frame that waits for its acknowledgement (R471). -/
structure SeamF where
  seq : Nat
  recs : List SeamRec
  age : Nat := 0
  deriving DecidableEq, Repr

/-- The mirrored items (R478). -/
structure Mirror where
  nodes : KV Nat := []
  cells : KV Nat := []
  pockets : KV Pocket := []
  ceil : KV Ceil := []
  epoch : Nat := 0
  owners : List (List Nat) := []
  routes : List (Nat × Nat × Nat) := []
  regs : List Regn := []
  conf : List Nat := []
  deriving DecidableEq, Repr

/-- SEA beyond its registers. Ages are in stitches. -/
structure Sea where
  listen : Option Nat := none
  /-- a heartbeat with a valid TAG has come in the present stitch -/
  hb : Bool := false
  peer : Option Beat := none
  /-- since a heartbeat showed the partner ACTIVE; since a heartbeat or pair beacon showed it at a lower epoch; since a pair
  beacon with ACTIVE set and an epoch at or above the own one -/
  actAge : Option Nat := none
  lowAge : Option Nat := none
  beaconAge : Option Nat := none
  /-- a claim in progress: its cause, and whether CLAIM runs it -/
  claim : Option (Nat × Bool) := none
  /-- a claim to be tried again: stitches, cause -/
  retry : Option (Nat × Nat) := none
  /-- a retreat due at the next boundary: its cause -/
  retreat : Option Nat := none
  /-- the device goes from LISTEN to STANDBY at the next boundary -/
  toStandby : Bool := false
  seamDown : Bool := false
  noMirror : Bool := false
  keyMissing : Bool := false
  /-- SKEW_NS of the stitch, and stitches in a row above and within the limit -/
  edge : Option Int := none
  above : Nat := 0
  within : Nat := 16
  /-- a HELLO goes out at each boundary; stitches that a PAIR command still has -/
  hello : Bool := false
  pairLeft : Option Nat := none
  seqOut : Nat := 0
  waiting : List SeamF := []
  seqIn : Nat := 0
  ackOut : Nat := 0xFFFFFFFF
  /-- what the STANDBY has been sent -/
  snap : Mirror := {}
  /-- a bulk pass is to be sent -/
  bulk : Bool := false
  /-- a pass is being received: the routes and registrations it has carried -/
  pass : Option (List Nat × List Nat) := none
  /-- MIRROR waits for LAG after BULK_MARK 1 -/
  ended : Bool := false
  /-- MIRROR_SEQ values of heartbeats not yet applied, with their ages -/
  marks : List (Nat × Nat) := []
  /-- a HANDOVER: slot S and the new pair epoch, held by the STANDBY or sent by the ACTIVE; HO_READY seen -/
  hand : Option (Nat × Nat) := none
  hoSeen : Bool := false
  /-- stitches in a row with a heartbeat, up to 8 -/
  okRun : Nat := 0
  /-- `snap` stands for what the STANDBY holds or has been sent -/
  snapOk : Bool := false
  deriving DecidableEq, Repr

/-- The block: everything but the queue of commands and the window's buffers. -/
structure Chip where
  /-- register fields that differ from their reset value, by key -/
  regs : KV Nat := []
  /-- published counters that are not 0, by key (R29) -/
  bank : KV Nat := []
  /-- latched words, by requester and offset (R27) -/
  latch : KV Nat := []
  /-- staged words, by requester and offset (R28) -/
  staged : KV Nat := []
  /-- bases of the command blocks whose running command has IRQ set (R531) -/
  cmdIrq : List Nat := []
  /-- counts that wait for a notice raised at most once per stitch, by notice -/
  acc : KV Nat := []
  /-- safety overrides that persist, by loop and bound (R37) -/
  overrides : List Nat := []
  pat : Pat := {}
  ntc : Ntc := {}
  clk : Clk := {}
  tim : Tim := {}
  cap : KV CapSt := []
  /-- raw-sample windows now capturing, oldest first, and the capture area by window channel, as 32-bit samples (R63, R151, R232) -/
  rawCap : List RawWin := []
  rawMem : KV (List Nat) := []
  /-- status bits of timer channels that became set in the stitch (R159) -/
  tmrAcc : KV Nat := []
  queues : KV Queue := []
  nextItem : Nat := 1
  /-- first queue of the stitch with an uncorrectable error, and whether it lay in the spill region (R428) -/
  eccFirst : Option (Nat × Bool) := none
  tmg : Tmg := {}
  /-- items that port 2 has sent to the adaptation stage (R429, R451) -/
  adapt : List AdaptIn := []
  rf : KV Rf := []
  rx : Rx := {}
  tx : Tx := {}
  sch : Sch := {}
  mac : Mac := {}
  sec : Sec := {}
  key : Key := {}
  fwd : Fwd := {}
  svc : Svc := {}
  nv : Mram := {}
  boot : Boot := {}
  upd : Upd := {}
  pwr : Pwr := {}
  hif : Hif := {}
  sea : Sea := {}
  /-- periodic work carried into the next stitch, in items, by work (R23) -/
  owed : KV (List Nat) := []
  /-- the gap slot of a handover is running (R488) -/
  gap : Bool := false
  /-- the model's own counter of free values (log entry 3) -/
  freeCtr : Nat := 0
  out : List Out := []
  deriving DecidableEq, Repr

/-- The octets of the window's buffers that are not 0, by window offset, offsets rising. -/
abbrev Memory := List Host.Cell

/-- The state: the commands that wait, the window's buffers and the block. -/
structure State where
  pending : List Instr := []
  mem : Memory := []
  b : Chip := {}
  deriving DecidableEq, Repr

/-- Why a step ends in a fault. -/
inductive Fault where
  /-- An access at an offset outside the 4 MiB register window (R9, R530), raised by the register access commands. Safe: the
  spec gives the window no such offset. -/
  | outsideWindow
  deriving DecidableEq, Repr

/-- Why a step is refused. -/
inductive Refusal where
  /-- No meaning yet: raised by the arms of exec that are rejected by name. Safe: nothing is claimed of such a command. -/
  | notModelled (mnemonic : String)
  deriving DecidableEq, Repr

/-- The block right after reset, before VIN has risen: every register at its reset value, nothing stored. -/
def State.reset : State := {}

end Sys2Proof.Machine
end

