-- ==== Sys2Proof/Machine/Ops.lean ====
section
/-!
DEFINITION. The operations every family shares: register fields, status codes, notices and interrupts, the common command
block, free values and the window's buffers.
-/
namespace Sys2Proof.Machine

/-! ### Register fields -/

/-- The live value of a register field. -/
def Chip.r (b : Chip) (f : Fld) : Nat := kgetD b.regs f.key f.rst

/-- The block with a register field written, the value cut to the field's width. -/
def Chip.w (b : Chip) (f : Fld) (v : Nat) : Chip := { b with regs := kset f.rst b.regs f.key (v % 2 ^ f.w) }

/-- A one-bit field as a Bool. -/
def Chip.t (b : Chip) (f : Fld) : Bool := b.r f == 1

/-- Write a one-bit field. -/
def Chip.wb (b : Chip) (f : Fld) (v : Bool) : Chip := b.w f (b2n v)

/-- Add to a saturating counter. -/
def Chip.add (b : Chip) (f : Fld) (n : Nat) : Chip := b.w f (satAdd f.w (b.r f) n)

/-- Count one event. -/
def Chip.inc (b : Chip) (f : Fld) : Chip := b.add f 1

/-- Take from a counter that never goes below 0. -/
def Chip.sub (b : Chip) (f : Fld) (n : Nat) : Chip := b.w f (b.r f - n)

/-- A field as a two's complement number. -/
def Chip.rs (b : Chip) (f : Fld) : Int := toS (b.r f) f.w

/-- Write a field as a two's complement number. -/
def Chip.ws (b : Chip) (f : Fld) (i : Int) : Chip := b.w f (ofS i f.w)

/-! ### Status codes (R13) -/

abbrev OK : Nat := 0x00
abbrev BUSY : Nat := 0x01
abbrev WRONG_STATE : Nat := 0x02
abbrev BAD_ARG : Nat := 0x03
abbrev BAD_LENGTH : Nat := 0x04
abbrev NOT_FOUND : Nat := 0x05
abbrev EXISTS : Nat := 0x06
abbrev TABLE_FULL : Nat := 0x07
abbrev LATE : Nat := 0x08
abbrev COEX_DENIED : Nat := 0x09
abbrev KEY_ORPHANED : Nat := 0x0A
abbrev KEY_INVALID : Nat := 0x0B
abbrev AUTH_FAIL : Nat := 0x0C
abbrev NO_RESOURCE : Nat := 0x0D
abbrev ECC_FAULT : Nat := 0x0E
abbrev DENIED : Nat := 0x0F
abbrev ABORTED : Nat := 0x10
abbrev TIME_DISC : Nat := 0x11
abbrev VERSION_MISMATCH : Nat := 0x12
abbrev FLAP_HELD : Nat := 0x13
abbrev DUPLICATE : Nat := 0x14
abbrev REPLAY : Nat := 0x15

/-! ### The device's states (R100, R127) -/

def Chip.starting (b : Chip) : Bool := b.r Reg.GLB_STATE == 0
def Chip.ready (b : Chip) : Bool := b.r Reg.GLB_STATE == 1
def Chip.safe (b : Chip) : Bool := b.r Reg.GLB_STATE == 2
def Chip.limp (b : Chip) : Bool := b.t Reg.CKR_LIMP
/-- READY and not in LIMP: the engines of the DSP, MAC and TIME domains work. -/
def Chip.working (b : Chip) : Bool := b.ready && !b.limp

/-! ### Free values -/

/-- Take a free value below `2 ^ w` (log entry 3). -/
def Chip.free (b : Chip) (w : Nat) : Nat × Chip :=
  (Config.freeValue b.freeCtr % 2 ^ w, { b with freeCtr := b.freeCtr + 1 })

/-! ### Output -/

def Chip.emit (b : Chip) (o : Out) : Chip := { b with out := o :: b.out }

/-! ### Interrupts (R536, R537) -/

/-- A source fires: its INT_PEND bit sets, and a rising bit that nothing masks sends its message once. -/
def Chip.fire (b : Chip) (v : Nat) : Chip :=
  if bit (b.r Reg.NTC_INT_PEND) v then b
  else
    let b1 := b.w Reg.NTC_INT_PEND (setBit (b.r Reg.NTC_INT_PEND) v)
    if bit (b.r Reg.NTC_INT_MASK) v || !b.ntc.msixEn || b.ntc.d3hot then b1
    else if bit b.ntc.msixMask v then { b1 with ntc := { b1.ntc with pba := setBit b1.ntc.pba v } }
    else b1.emit (.msix v)

/-- An event of a moderated source (R537). -/
def Chip.modEvent (b : Chip) (v : Nat) : Chip :=
  let c := kgetD b.ntc.mod v 0 + 1
  if b.r Reg.NTC_HOLDOFF_US = 0 ∨ b.r Reg.NTC_BATCH ≤ c then
    Chip.fire { b with ntc := { b.ntc with mod := kset 0 b.ntc.mod v 0 } } v
  else { b with ntc := { b.ntc with mod := kset 0 b.ntc.mod v c } }

/-- HOST_IRQ_N is asserted (R538). -/
def Chip.hostIrq (b : Chip) : Bool :=
  b.ntc.safeIrq || andNot (b.r Reg.NTC_INT_PEND) (b.r Reg.NTC_INT_MASK) != 0

/-! ### Notices (R542 to R545) -/

/-- The low 32 bits of the current stitch, as every record holds it (R5). -/
def Chip.stitch32 (b : Chip) : Nat := b.tim.stitch % 2 ^ 32

/-- A notice argument: octets 8, 9, 10 and 11, and the word of octets 12 to 15. -/
def argB (o8 o9 o10 o11 w12 : Nat) : Nat :=
  o8 % 256 + o9 % 256 * 2 ^ 8 + o10 % 256 * 2 ^ 16 + o11 % 256 * 2 ^ 24 + w12 % 2 ^ 32 * 2 ^ 32

/-- A notice argument of two words: octets 8 to 11 and 12 to 15. -/
def argW (w8 w12 : Nat) : Nat := w8 % 2 ^ 32 + w12 % 2 ^ 32 * 2 ^ 32

/-- A notice that the filter passes (R544). -/
def Chip.passes (b : Chip) (n : Note) : Bool :=
  n.sev == 3 || n.code == N.SAFE_BEACON || n.code == N.NOTICE_LOST || n.code == N.EARLY_LOST ||
  (bit (if n.src < 32 then b.r Reg.NTC_SRC_EN_LO else b.r Reg.NTC_SRC_EN_HI) (n.src % 32) &&
    decide (b.r Reg.NTC_MIN_SEV ≤ n.sev))

def Chip.ringFull (b : Chip) : Bool := (b.r Reg.NTC_WR_IDX + 1) % 4096 == b.r Reg.NTC_RD_IDX

/-- A notice line is handed to the UART; whether its output buffer has room is timing (R541). -/
def Chip.uartSend (b : Chip) (n : Note) : Chip :=
  Chip.emit { b with ntc := { b.ntc with uartLines := b.ntc.uartLines + 1 } } (.uartNote n)
/-- UART_DROP takes up the lines dropped, a free number of those handed over (log entry 63). -/
def Chip.uartSettle (b : Chip) : Chip :=
  if b.ntc.uartLines = 0 then b
  else
    let x := b.free 32
    Chip.add { x.2 with ntc := { x.2.ntc with uartLines := 0 } } Reg.HIF_UART_DROP (x.1 % (b.ntc.uartLines + 1))

/-- Write one record to the ring and advance WR_IDX; the NOTICE and CRITICAL sources follow (R536). -/
def Chip.ringPut (b : Chip) (n : Note) : Chip :=
  let i := b.r Reg.NTC_WR_IDX
  let b1 := { b with ntc := { b.ntc with ring := kput b.ntc.ring i n } }
  let b2 := b1.w Reg.NTC_WR_IDX ((i + 1) % 4096)
  let b3 := b2.modEvent 0
  let b4 := if n.sev = 3 then b3.fire 1 else b3
  if b4.t Reg.GLB_UART_LOG && b4.r (Reg.GLB_FUNC 8) != 1 then b4.uartSend n else b4

/-- A notice finds the ring full (R544). -/
def Chip.ringLose (b : Chip) : Chip :=
  let b1 := b.inc Reg.NTC_LOST_CNT
  { b1 with ntc := { b1.ntc with lostSince := satAdd 32 b1.ntc.lostSince 1 } }

/-- A notice reaches the enabled ring: the filter, then the room, NOTICE_LOST first after a loss (R544). -/
def Chip.toRing (b : Chip) (n : Note) : Chip :=
  if !b.passes n then b.inc Reg.NTC_FILTERED
  else if b.ringFull then b.ringLose
  else if b.ntc.lostSince = 0 then b.ringPut n
  else
    let b1 := b.ringPut ⟨b.stitch32, Src.GLB, sevOf N.NOTICE_LOST, N.NOTICE_LOST, argW 0 b.ntc.lostSince⟩
    let b2 := { b1 with ntc := { b1.ntc with lostSince := 0 } }
    if b2.ringFull then b2.ringLose else b2.ringPut n

/-- A notice while the ring is not enabled (R89). -/
def Chip.toEarly (b : Chip) (n : Note) : Chip :=
  if n.code = N.SAFE_BEACON then b
  else if b.ntc.early.length < 64 then { b with ntc := { b.ntc with early := b.ntc.early ++ [n] } }
  else { b with ntc := { b.ntc with earlyLost := satAdd 32 b.ntc.earlyLost 1 } }

/-- Raise a notice under a source ID. -/
def Chip.raise (b : Chip) (src code arg : Nat) : Chip :=
  let n : Note := ⟨b.stitch32, src, sevOf code, code, arg⟩
  if b.t Reg.NTC_EN then b.toRing n else b.toEarly n

/-- Count towards a notice raised at most once per stitch; the boundary raises it. -/
def Chip.note (b : Chip) (k n : Nat) : Chip := { b with acc := kset 0 b.acc k (satAdd 32 (kgetD b.acc k 0) n) }

/-- A stitch's notice data: the first named item is kept by code. -/
def Chip.noteFirst (b : Chip) (code first n : Nat) : Chip :=
  let b1 := b.note (code * 2 ^ 16) n
  if (kget b1.mac.first code).isSome then b1 else { b1 with mac := { b1.mac with first := kput b1.mac.first code first } }

/-- POLICY_OVERRIDDEN (R37): once while the override of a bound by a loop persists. -/
def Chip.override (b : Chip) (src loop bound applied : Nat) (clamp : Option Fld) : Chip :=
  let k := loop * 2 ^ 24 + bound
  if b.overrides.contains k then b
  else
    let b1 := { b with overrides := k :: b.overrides }
    let b2 := match clamp with
      | some f => b1.inc f
      | none => b1
    b2.raise src N.POLICY_OVERRIDDEN (argW (loop % 256 + bound % 2 ^ 24 * 256) applied)

/-- An override ends, so that a later one raises its notice again (R37). -/
def Chip.overrideEnd (b : Chip) (loop bound : Nat) : Chip :=
  { b with overrides := b.overrides.filter (· != loop * 2 ^ 24 + bound) }

/-- STRUCT_REJECT (R71): a write beyond the Pattern's structure, by the register offset. -/
def Chip.structReject (b : Chip) (off : Nat) : Chip :=
  let b1 := (b.inc Reg.GLB_STRUCT_REJECT_CNT).w Reg.GLB_STRUCT_REJECT_LAST off
  b1.raise Src.GLB N.STRUCT_REJECT (argW off 0x03)

/-! ### The common command block (R531, R532) -/

/-- The registers of the command block at a base. -/
def cbCODE (base : Nat) : Fld := { off := base + 4, w := 8 }
def cbSEQ (base : Nat) : Fld := { off := base + 4, lo := 16, w := 8 }
def cbDONE (base : Nat) : Fld := { off := base + 4, lo := 30, w := 1, acc := .w1c }
def cbBUSY (base : Nat) : Fld := { off := base + 4, lo := 31, w := 1 }
def cbARG (base i : Nat) : Fld := { off := base + 0x10 + 4 * i, acc := .rw }
def cbRESULT (base i : Nat) : Fld := { off := base + 0x50 + 4 * i }
def cbREJECT (base : Nat) : Fld := { off := base + 0x90, acc := .rc }
def cbCOLLIDE (base : Nat) : Fld := { off := base + 0x94, acc := .rc }

/-- The bases of the command blocks. -/
def cbGLB : Nat := 0x100
def cbRFC : Nat := 0x80000
def cbRXP : Nat := 0xA0000
def cbTXP : Nat := 0xC0000
def cbMAC : Nat := 0x100000
def cbSCH : Nat := 0x120000
def cbSEC : Nat := 0x140000
def cbKEY : Nat := 0x150000
def cbFWD : Nat := 0x180000
def cbQMG : Nat := 0x1C0000
def cbTMG : Nat := 0x1E0000
def cbSEA : Nat := 0x220000
def cbUPD : Nat := 0x240000
def cbSVC : Nat := 0x260000
def cbDBG : Nat := 0x3F0000
def cbBases : List Nat :=
  [cbGLB, cbRFC, cbRXP, cbTXP, cbMAC, cbSCH, cbSEC, cbKEY, cbFWD, cbQMG, cbTMG, cbSEA, cbUPD, cbSVC, cbDBG]

/-- The arguments a command takes at its acceptance. -/
def Chip.args (b : Chip) (base : Nat) : List Nat := (List.range 16).map (fun i => b.r (cbARG base i))

/-- One argument. -/
def Chip.arg (b : Chip) (base i : Nat) : Nat := b.r (cbARG base i)

/-- Write RESULT words from the i-th on. -/
def Chip.putResults (b : Chip) (base i : Nat) (l : List Nat) : Chip :=
  match l with
  | [] => b
  | v :: t => (b.w (cbRESULT base i) v).putResults base (i + 1) t

/-- Acceptance of a command (R532). -/
def Chip.cmdAccept (b : Chip) (base : Nat) (irq : Bool) : Chip :=
  let b1 := (((b.w (cbSEQ base) (b.r (cbSEQ base) + 1)).wb (cbBUSY base) true).wb (cbDONE base) false).w (cbCODE base) BUSY
  { b1 with cmdIrq := if irq then base :: b1.cmdIrq.filter (· != base) else b1.cmdIrq.filter (· != base) }

/-- Completion of a command: all RESULT words, CODE and DONE together, BUSY clear (R532). -/
def Chip.cmdFinish (b : Chip) (base code : Nat) (results : List Nat) : Chip :=
  let b1 := b.putResults base 0 ((results ++ List.replicate 16 0).take 16)
  let b2 := ((b1.w (cbCODE base) code).wb (cbDONE base) true).wb (cbBUSY base) false
  let b3 := if code = WRONG_STATE ∨ code = DENIED then b2.inc (cbREJECT base) else b2
  let b4 := { b3 with cmdIrq := b3.cmdIrq.filter (· != base) }
  if b.cmdIrq.contains base then b4.fire 2 else b4

/-- What a command's own chapter does: the block after it, the code, and the named results. -/
structure CmdOut where
  b : Chip
  code : Nat
  results : List Nat := []

/-- A completion with no effect. -/
def Chip.fail (b : Chip) (code : Nat) : CmdOut := ⟨b, code, []⟩
/-- A completion with OK. -/
def Chip.done (b : Chip) (results : List Nat) : CmdOut := ⟨b, OK, results⟩

/-- A completion of a command that would exceed the Pattern's structure (R71): STRUCT_REJECT names the CMD register (log entry 20). -/
def Chip.structFail (b : Chip) (base : Nat) : CmdOut := (b.structReject base).fail BAD_ARG

/-- Blocks that answer in STARTING (R88): GLB alone among those with a command block. -/
def answersStarting (base : Nat) : Bool := base == cbGLB
/-- Blocks whose domain LIMP holds (R119): DSP and MAC. -/
def heldInLimp (base : Nat) : Bool :=
  [cbRFC, cbRXP, cbTXP, cbMAC, cbSCH, cbSEC].contains base

/-- A nonzero CMD write (R532): ignored and counted while BUSY; discarded in STARTING (R88); completed DENIED in SAFE (R91) and
WRONG_STATE while LIMP holds the block's domain (R119); otherwise the command runs. `f` is given the block after acceptance
and answers none for a command that stays BUSY. -/
def Chip.command (b : Chip) (base : Nat) (irq : Bool) (f : Chip → Sum Chip CmdOut) : Chip :=
  if b.starting && !answersStarting base then b.inc Reg.GLB_LOCKED_WR_CNT
  else if b.t (cbBUSY base) then b.inc (cbCOLLIDE base)
  else
    let b1 := b.cmdAccept base irq
    if b.safe && base != cbGLB then b1.cmdFinish base DENIED []
    else if b.limp && heldInLimp base then b1.cmdFinish base WRONG_STATE []
    else
      match f b1 with
      | .inl b2 => b2
      | .inr o => o.b.cmdFinish base o.code o.results

/-- A command that completes in its own step. -/
def Chip.cmd (b : Chip) (base : Nat) (irq : Bool) (f : Chip → CmdOut) : Chip := b.command base irq (fun c => .inr (f c))

/-! ### The window's buffers -/

/-- What a buffer octet that nothing has written reads as (log entry 2). -/
def memDefault : BitVec 8 := 0

/-- One octet of the buffers. -/
def Memory.get (m : Memory) (a : Nat) : BitVec 8 := kgetD m a memDefault

/-- Write one octet. -/
def Memory.put (m : Memory) (a : Nat) (v : BitVec 8) : Memory := kset memDefault m a v

/-- Write octets at ascending offsets. -/
def Memory.write (m : Memory) (a : Nat) (l : List Nat) : Memory :=
  match l with
  | [] => m
  | v :: t => Memory.write (m.put a (BitVec.ofNat 8 v)) (a + 1) t

/-- Read `n` octets from an offset. -/
def Memory.read (m : Memory) (a n : Nat) : List Nat := (List.range n).map (fun i => (m.get (a + i)).toNat)

/-- The canonical form: offsets strictly rising, no entry equal to what an unlisted offset reads as. -/
def Memory.wf (m : Memory) : Bool := kwf m && m.all (fun c => c.2 != memDefault)

/-! ### Running a meaning on the block alone -/

/-- The next state in which only the block has changed. -/
def State.on (s : State) (f : Chip → Chip) : Host.Outcome State Fault Refusal := .next { s with b := f s.b }
/-- Running a meaning that resets the block where `due` holds: the buffers are volatile state and are cleared with the rest (R98). -/
def State.onReset (s : State) (due : Bool) (f : Chip → Chip) : Host.Outcome State Fault Refusal :=
  .next { s with b := f s.b, mem := if due then [] else s.mem }

end Sys2Proof.Machine
end

