-- ==== Sys2Proof/Machine/Access.lean ====
section
/-!
DEFINITION. What every register access shares: which blocks answer (R88, R91), the latch sets (R27, R28), and the reserved
and absent pin groups (R559, R560).
-/
namespace Sys2Proof.Machine

/-- The 64 KiB part of the window of each block's first offset. -/
def partOf (off : Nat) : Nat := off / 0x10000

/-- A plain register write to this part is taken (R88, R91): in STARTING only GLB and HIF, in SAFE only GLB, HIF and NTC. -/
def Chip.writable (b : Chip) (part : Nat) : Bool :=
  if b.starting then part == 0 || part == 0x28
  else if b.safe then part == 0 || part == 0x28 || part == 5
  else true

/-- A register read of this part answers with values (R88, R91, R534); otherwise it returns 0. -/
def Chip.readable (b : Chip) (part : Nat) : Bool :=
  if b.starting then part == 0 || part == 0x28
  else if b.safe then part == 0 || part == 0x28 || part == 5
  else if b.limp then !([3, 4, 8, 0xA, 0xB, 0xC, 0xD, 0x10, 0x11, 0x12, 0x13, 0x14].contains part)
  else true

/-- A discarded write (R9, R10, R88, R91). -/
def Chip.locked (b : Chip) : Chip := b.inc Reg.GLB_LOCKED_WR_CNT

/-- Run a register write of a part, or discard and count it. -/
def Chip.gated (b : Chip) (part : Nat) (f : Chip → Chip) : Chip := if b.writable part then f b else b.locked

/-- The key of a word in a requester's latch set. -/
def lkey (rq : Requester) (off : Nat) : Nat := rq.code * 2 ^ 22 + off

/-- Stage an upper word (R28). -/
def Chip.stage (b : Chip) (rq : Requester) (off v : Nat) : Chip :=
  { b with staged := kput b.staged (lkey rq off) (v % 2 ^ 32) }

/-- The staged word, where there is one. -/
def Chip.stagedAt (b : Chip) (rq : Requester) (off : Nat) : Option Nat := kget b.staged (lkey rq off)

/-- Drop the staged words of a register (R28). -/
def Chip.unstage (b : Chip) (rq : Requester) (offs : List Nat) : Chip :=
  { b with staged := offs.foldl (fun m o => kdel m (lkey rq o)) b.staged }

/-- Drop the staged words of a register for every requester. -/
def Chip.unstageAll (b : Chip) (offs : List Nat) : Chip :=
  ((b.unstage .pcie offs).unstage .spi offs).unstage .cpu offs

/-- Latch a word (R27). -/
def Chip.latchPut (b : Chip) (rq : Requester) (off v : Nat) : Chip :=
  { b with latch := kput b.latch (lkey rq off) (v % 2 ^ 32) }

/-- Latch the words of a register from an offset on. -/
def Chip.latchWords (b : Chip) (rq : Requester) (off : Nat) (l : List Nat) : Chip :=
  match l with
  | [] => b
  | v :: t => (b.latchPut rq off v).latchWords rq (off + 4) t

/-- The pin-group functions of R559. -/
def padFunc (b : Chip) (id : Nat) : Nat := b.r (Reg.GLB_FUNC id)
def Chip.parked (b : Chip) (id : Nat) : Bool := padFunc b id == 1

/-- The pin group IDs of R559. -/
def padIds : List Nat :=
  [1, 2, 3, 4, 5, 6, 7, 8, 9] ++ [0x10, 0x11, 0x12, 0x13, 0x14, 0x15, 0x16, 0x18, 0x19] ++ [0x1A, 0x1B, 0x1C, 0x1D]

/-- Groups of SerDes or analog pins, whose PADCFG has only FUNC (R562). -/
def padAnalog : List Nat := [1, 2, 3, 5, 0x1B, 0x1C, 0x1D]

/-- A lane that the Pattern enables: 0 Band L, 1 to 4 Band M, 5 and 6 Band H (R45, R160). -/
def Chip.laneExists (b : Chip) (l : Nat) : Bool := decide (l < 7) && bit b.pat.lanes l

/-- A transmit chain that the Pattern enables: 0 L, 1 and 2 M, 3 H (R45). -/
def Chip.chainExists (b : Chip) (c : Nat) : Bool := decide (c < 4) && bit b.pat.chains c

/-- The slot in microseconds (R49). -/
def Chip.slotUs (b : Chip) : Nat := b.pat.slotStitches * 250

/-- The slots of a superframe (R49). -/
def Chip.sfSlots (b : Chip) : Nat := 2 ^ b.pat.sfExp

end Sys2Proof.Machine
end

