-- ==== Sys2Proof/Machine/Time.lean ====
section
/-!
DEFINITION. The time core, its triggers and the timer channels: what one TIME tick, or several, does (R130 to R161).
-/
namespace Sys2Proof.Machine

/-- One nanosecond in the time core's units. -/
def nsU : Nat := 2 ^ 32
/-- One stitch in the time core's units (R5). -/
def stitchU : Nat := 250000 * nsU
/-- One past the greatest network time (R130). -/
def timeEnd : Nat := 2 ^ 48 * 1000000000 * nsU

/-- Network time in ns. -/
def Chip.nowNs (b : Chip) : Nat := b.tim.now / nsU
/-- The whole seconds, nanoseconds and upper 16 fraction bits of a time (R130). -/
def secOf (t : Nat) : Nat := t / nsU / 1000000000
def nsOf (t : Nat) : Nat := t / nsU % 1000000000
def fracOf (t : Nat) : Nat := t % nsU / 2 ^ 16

/-- The TIME domain runs and network time has started (R130, R119). -/
def Chip.timeRuns (b : Chip) : Bool := b.tim.started && !b.limp && bits (b.r Reg.CKR_DOMAIN_STATE) 8 2 == 0

/-! ### Timer channels (R153 to R159) -/

/-- A status bit of a channel becomes set: 0 MATCH, 1 ENDED, 2 CAPTURED, 3 OVR (the order of INT_EN). -/
def Chip.tmrStat (b : Chip) (n i : Nat) : Chip :=
  let f : Fld := match i with
    | 0 => Reg.TMR_MATCH n
    | 1 => Reg.TMR_ENDED n
    | 2 => Reg.TMR_CAPTURED n
    | _ => Reg.TMR_OVR n
  if b.t f then b
  else
    let b1 := b.wb f true
    { b1 with tmrAcc := kput b1.tmrAcc n (setBit (kgetD b1.tmrAcc n 0) i) }

/-- Counts until the first count at which (count − x) mod 2^32 < 2^31 (R155, R156). -/
def reachIn (count x : Nat) : Nat :=
  let d := (count + 1 + (2 ^ 32 - x % 2 ^ 32)) % 2 ^ 32
  if d < 2 ^ 31 then 1 else 1 + (2 ^ 32 - d)

/-- Matches of an armed compare within `k` counts, one count at a time: how many, and the compare value after them. -/
def matchLoop (k count cmp int n : Nat) : Nat × Nat :=
  match k with
  | 0 => (n, cmp)
  | j + 1 =>
    if (count + 1 + (2 ^ 32 - cmp)) % 2 ^ 32 < 2 ^ 31 then
      if int = 0 then (n + 1, cmp) else matchLoop j ((count + 1) % 2 ^ 32) ((cmp + int) % 2 ^ 32) int (n + 1)
    else matchLoop j ((count + 1) % 2 ^ 32) cmp int n

/-- Matches of an armed compare within `k` counts (R155), and the compare value after them. -/
def matches? (k count cmp int : Nat) : Nat × Nat :=
  let t0 := reachIn count cmp
  if k < t0 then (0, cmp)
  else if int = 0 then (1, cmp)
  else if 2 ^ 31 ≤ int then matchLoop k count cmp int 0
  else
    let lag := (count + t0 + (2 ^ 32 - cmp % 2 ^ 32)) % 2 ^ 32
    let m := min (k - t0) ((k - t0 + lag) / int) + 1
    (m, (cmp + m * int) % 2 ^ 32)

/-- Add `k` counts to a running channel: its compare, and the end of a one-shot (R155, R156). -/
def Chip.chAdd (b : Chip) (n k : Nat) : Chip :=
  if !b.t (Reg.TMR_RUNNING n) || k == 0 then b
  else
    let count := b.r (Reg.TMR_COUNT n)
    let toEnd := reachIn count (b.r (Reg.TMR_END n))
    let one := b.r (Reg.TMR_MODE n) == 2
    let k1 := if one then min k toEnd else k
    let b1 :=
      if b.t (Reg.TMR_CMP_ARMED n) then
        let int := b.r (Reg.TMR_INTERVAL n)
        let r := matches? k1 count (b.r (Reg.TMR_COMPARE n)) int
        if r.1 = 0 then b
        else (((b.tmrStat n 0).w (Reg.TMR_COMPARE n) r.2).wb (Reg.TMR_CMP_ARMED n) (int != 0))
      else b
    let b2 := b1.w (Reg.TMR_COUNT n) (count + k1)
    if one && decide (toEnd ≤ k) then (b2.wb (Reg.TMR_RUNNING n) false).tmrStat n 1 else b2

/-- Add `k` counts to every running channel whose CLK field has the given value (R153). -/
def Chip.clkAdd (b : Chip) (clk k : Nat) : Chip :=
  (List.range 64).foldl (fun c n => if c.r (Reg.TMR_CLK n) = clk then c.chAdd n k else c) b

/-- A conditioned capture edge stores the count or network time, or is lost (R157, R158). -/
def Chip.capStore (b : Chip) (n : Nat) : Chip :=
  if b.t (Reg.TMR_CAPTURED n) then b.tmrStat n 3
  else
    let v := if b.t (Reg.TMR_CAP_WHAT n) then nsOf b.tim.now else b.r (Reg.TMR_COUNT n)
    (b.w (Reg.TMR_CAPTURE n) v).tmrStat n 2

/-- An accepted edge of a channel's capture source: the kind CAP_EDGE selects, then the prescaler (R157). -/
def Chip.capEdge (b : Chip) (n : Nat) (rising : Bool) : Chip :=
  let kind := b.r (Reg.TMR_CAP_EDGE n)
  if !b.t (Reg.TMR_CAP_EN n) then b
  else if (kind == 0 && !rising) || (kind == 1 && rising) then b
  else
    let c := kgetD b.cap n {}
    if b.r (Reg.TMR_PRESC n) ≤ c.edges then
      Chip.capStore { b with cap := kput b.cap n { c with edges := 0 } } n
    else { b with cap := kput b.cap n { c with edges := c.edges + 1 } }

/-- An event of a source inside the device (R154): it counts on channels whose event input it is, and captures. It is a level of one TIME tick
(log entry 75), so a filter of more than one sample does not accept it (R157). -/
def Chip.srcEvent (b : Chip) (src : Nat) : Chip :=
  (List.range 64).foldl
    (fun c n =>
      let c1 := if c.r (Reg.TMR_CLK n) = 2 ∧ c.r (Reg.TMR_EVT_SRC n) = src then c.chAdd n 1 else c
      if c1.r (Reg.TMR_CAP_SRC n) = src ∧ c1.r (Reg.TMR_FILT_N n) ≤ 1 then (c1.capEdge n true).capEdge n false else c1) b

/-- A rising edge on the event source alone (R153). -/
def Chip.evtCount (b : Chip) (src : Nat) : Chip :=
  (List.range 64).foldl (fun c n => if c.r (Reg.TMR_CLK n) = 2 ∧ c.r (Reg.TMR_EVT_SRC n) = src then c.chAdd n 1 else c) b

/-! ### Triggers (R150 to R152) -/

/-- The target registers of a trigger channel, in ns; a TGT_NS of a second or more counts as it stands (DESIGN CHOICE, log entry 113). -/
def Chip.trigTarget (b : Chip) (n : Nat) : Nat :=
  (b.r (Reg.TIM_TRG_TGT_SEC_HI n) * 2 ^ 32 + b.r (Reg.TIM_TRG_TGT_SEC_LO n)) * 1000000000 + b.r (Reg.TIM_TRG_TGT_NS n)

/-- Start a raw-sample window on the channel's lane (R151, R232), or record that the lane is busy. -/
def Chip.windowStart (b : Chip) (n : Nat) : Chip :=
  let l := b.r (Reg.TIM_TRG_LANE n)
  if b.rawCap.any (fun e => e.lane == l) then b.w (Reg.TIM_TRG_CODE n) NO_RESOURCE
  else
    let b1 := { b with rawCap := b.rawCap ++ [RawWin.mk n l (b.r (Reg.TIM_TRG_WIDTH_LEN n))] }
    (b1.w (Reg.RXP_WIN_GAIN (n - 8)) (b1.r (Reg.RXP_GAIN l))).w (Reg.RXP_WIN_STEPS (n - 8)) 0

/-- A channel fires: the count, the flag, the pin or the window (R150 to R152). -/
def Chip.trigFire (b : Chip) (n : Nat) : Chip :=
  let b1 := ((b.w (Reg.TIM_TRG_FIRE_CNT n) (b.r (Reg.TIM_TRG_FIRE_CNT n) + 1)).wb (Reg.TIM_TRG_FIRED n) true).w (Reg.TIM_TRG_CODE n) OK
  if n < 8 then (b1.emit (.trigPulse n (b1.r (Reg.TIM_TRG_WIDTH_LEN n)) (b1.r (Reg.TIM_TRG_POL n)))).srcEvent (8 + n)
  else b1.windowStart n

/-- Disarm a trigger channel, recording a code. -/
def Chip.trigDisarm (b : Chip) (n code : Nat) : Chip :=
  let b1 := (b.wb (Reg.TIM_TRG_ARM n) false).w (Reg.TIM_TRG_CODE n) code
  { b1 with tim := { b1.tim with trig := kdel b1.tim.trig n } }

/-- Fire a channel whose target network time has reached (R150): once at a tick. The targets to come of a periodic channel are held apart from
TGT_*, which read as they were written, and a write of TGT_* does not move a channel that is armed (DESIGN CHOICE, log entry 109). -/
def Chip.trigDue (b : Chip) (n : Nat) : Chip :=
  match kget b.tim.trig n with
  | none => b
  | some t =>
    if b.tim.now < t * nsU then b
    else
      let p := b.r (Reg.TIM_TRG_PERIOD n)
      if p = 0 then
        let b1 := b.wb (Reg.TIM_TRG_ARM n) false
        Chip.trigFire { b1 with tim := { b1.tim with trig := kdel b1.tim.trig n } } n
      else Chip.trigFire { b with tim := { b.tim with trig := kput b.tim.trig n (t + p) } } n

def Chip.trigAll (b : Chip) : Chip := (List.range 12).foldl Chip.trigDue b

/-- A channel whose target came by a time at which the TIME domain was held (R152): LATE, and a periodic one goes on with its next target. -/
def Chip.trigMiss (till : Nat) (b : Chip) (n : Nat) : Chip :=
  match kget b.tim.trig n with
  | none => b
  | some t =>
    if till < t * nsU then b
    else
      let p := b.r (Reg.TIM_TRG_PERIOD n)
      if p = 0 then b.trigDisarm n LATE
      else Chip.w { b with tim := { b.tim with trig := kput b.tim.trig n (t + ((till / nsU - t) / p + 1) * p) } } (Reg.TIM_TRG_CODE n) LATE

/-! ### Discontinuities (R136, R137, R141) -/

/-- Recompute the stitch number from network time (R141). -/
def Chip.restitch (b : Chip) : Chip :=
  { b with tim := { b.tim with stitch := b.tim.now / stitchU, nextB := cdiv b.tim.now stitchU } }

/-- The effects of a discontinuity inside TIM and TMR. -/
def Chip.discont (b : Chip) (cause w12 us : Nat) : Chip :=
  let b1 := (b.raise Src.TIM N.TIME_DISCONTINUITY (argB cause 0 0 0 w12)).wb Reg.TIM_DISC true
  let b2 := b1.inc Reg.TIM_DISC_CNT
  let b3 := (List.range 64).foldl
    (fun c n => if c.r (Reg.TMR_CLK n) ≠ 2 ∨ c.t (Reg.TMR_CAP_WHAT n) then c.wb (Reg.TMR_DISC n) true else c) b2
  let b4 := (List.range 12).foldl (fun c n => if c.t (Reg.TIM_TRG_ARM n) then c.trigDisarm n TIME_DISC else c) b3
  Chip.restitch { b4 with tim := { b4.tim with fifoDisc := [0, 1], jump := some (b.tim.stitch, cause, us) } }

/-! ### The servo (R131 to R138) -/

/-- Enter holdover (R138): cause 0 timeout, 1 request. -/
def Chip.holdover (b : Chip) (cause : Nat) : Chip :=
  ((b.wb Reg.TIM_HOLDOVER true).w Reg.TIM_HOLDOVER_STITCHES 0).raise Src.TIM N.HOLDOVER (argB cause 0 0 0 0)

/-- An accepted INCR or SET commit, or a STEP commit not discarded (R138). -/
def Chip.servoCommit (b : Chip) : Chip :=
  let b1 := { b with tim := { b.tim with wdog := b.tim.wdog.map (fun _ => 0) } }
  if b1.t Reg.TIM_HOLDOVER then
    ((b1.wb Reg.TIM_HOLDOVER false).wb Reg.TIM_HOLDOVER_REQ false).raise Src.TIM N.HOLDOVER_END
      (argW 0 (b1.r Reg.TIM_HOLDOVER_STITCHES))
  else b1

/-- A step, in 2^-16 ns, in the time core's units. -/
def stepU (s : Int) : Int := s * 65536

/-- Add to the pending steps (R133): what is added before the tick is applied as one step. -/
def Chip.stepAdd (b : Chip) (s : Int) : Chip :=
  { b with tim := { b.tim with pendStep := some (b.tim.pendStep.getD 0 + s) } }

/-- The TIME domain restarts after a time it was held for (R114, R152): the time is added at its first tick, and the firings it missed are LATE. -/
def Chip.heldTime (b : Chip) (s : Int) : Chip :=
  ((List.range 12).foldl (Chip.trigMiss ((b.tim.now : Int) + stepU s).toNat) b).stepAdd s

/-- The whole ns of a step, any fraction rounded away from zero, saturated at ±(2^31 − 1) (R136). -/
def stepWhole (s : Int) : Int :=
  let m := cdiv s.natAbs 65536
  let c := min m (2 ^ 31 - 1)
  if s < 0 then -(c : Int) else (c : Int)

/-- What an applied step causes (R133): nothing, TIME_STEP, or a discontinuity. -/
def Chip.stepReport (b : Chip) (s : Int) : Chip :=
  if s = 0 then b
  else if s.natAbs ≤ b.r Reg.TIM_STEP_LIMIT * 65536 then
    (b.wb Reg.TIM_STEPPED true).raise Src.TIM N.TIME_STEP (argW (ofS (s / 65536) 32) (ofS s 16))
  else b.discont 2 (ofS (stepWhole s) 32) (cdiv s.natAbs (65536 * 1000))

/-- The first tick after a SET commit (R134). -/
def Chip.setTick (b : Chip) (t : Nat) : Chip :=
  let b1 := { b with tim := { b.tim with now := t, pendSet := none, pendStep := none, incr := b.tim.pendIncr.getD b.tim.incr, pendIncr := none } }
  (b1.unstageAll [0x4002C]).discont 3 0 0

/-- A tick that adds INCR and the pending steps (R131, R133). -/
def Chip.addTick (b : Chip) : Chip :=
  let s := b.tim.pendStep.getD 0
  let inc := b.tim.pendIncr.getD b.tim.incr
  let b1 := { b with tim := { b.tim with
    now := ((b.tim.now + inc : Nat) + stepU s : Int).toNat % timeEnd, pendStep := none, incr := inc, pendIncr := none } }
  b1.stepReport s

/-- One TIME tick of the time core and of what counts its ticks. -/
def Chip.tick (b : Chip) : Chip :=
  let b1 := match b.tim.pendSet with
    | some t => b.setTick t
    | none => b.addTick
  (b1.clkAdd 0 1).trigAll

/-- Nothing waits for the next tick. -/
def Chip.tickClean (b : Chip) : Bool := b.tim.pendSet.isNone && b.tim.pendStep.isNone && b.tim.pendIncr.isNone

/-- Ticks until network time is at or after a time, at least one. -/
def Chip.ticksTo (b : Chip) (t : Nat) : Nat := max 1 (cdiv (t - b.tim.now) b.tim.incr)

/-- Ticks until the first armed trigger is due, at most `k`. -/
def Chip.trigIn (b : Chip) (k : Nat) : Nat := b.tim.trig.foldl (fun m e => min m (b.ticksTo (e.2 * nsU))) k

/-- `k` ticks with nothing pending and no trigger due before the last. -/
def Chip.tickRun (b : Chip) (k : Nat) : Chip :=
  (Chip.clkAdd { b with tim := { b.tim with now := (b.tim.now + k * b.tim.incr) % timeEnd } } 0 k).trigAll

/-- `k` ticks with nothing pending, run from trigger to trigger (R150), in at most `fuel` runs. -/
def Chip.ticksFor (b : Chip) (k fuel : Nat) : Chip :=
  match fuel with
  | 0 => b
  | f + 1 => if k = 0 then b else (b.tickRun (b.trigIn k)).ticksFor (k - b.trigIn k) f

/-- `k` ticks with nothing pending. -/
def Chip.ticks (b : Chip) (k : Nat) : Chip := b.ticksFor k k

/-- The next boundary lies more than `k` ticks ahead, so that `k` ticks generate no stitch (R139). -/
def Chip.beforeBoundary (b : Chip) (k : Nat) : Bool := decide (b.tim.now + k * b.tim.incr < b.tim.nextB * stitchU)

/-- Network time has reached the next boundary: it is generated at this very tick (R114, R139). -/
def Chip.boundaryDue (b : Chip) : Bool := decide (b.tim.nextB * stitchU ≤ b.tim.now)

/-- No boundary is due, and the next tick comes before the next boundary, adds a step, or loads a new time (R133, R134, R139). -/
def Chip.tickFree (b : Chip) : Bool :=
  !b.boundaryDue && (b.tim.pendSet.isSome || b.tim.pendStep.isSome || decide (b.tim.now + b.tim.pendIncr.getD b.tim.incr < b.tim.nextB * stitchU))

/-- One TIME tick, where time runs and no boundary comes first. -/
def Chip.oneTick (b : Chip) : Chip := if b.timeRuns && b.tickFree then b.tick else b

/-- Let ticks pass until network time is at or after a time, when no boundary comes first. -/
def Chip.passTo (b : Chip) (t : Nat) : Chip :=
  let b1 := if b.tickClean then b else b.oneTick
  if !b1.timeRuns || !b1.tickClean then b1
  else
    let k := b1.ticksTo t
    if b1.beforeBoundary k then b1.ticks k else b1

/-- Let `k` ticks pass, when no boundary comes first. -/
def Chip.passTicks (b : Chip) (k : Nat) : Chip :=
  if !b.tickClean then b.oneTick
  else if b.timeRuns && b.beforeBoundary k then b.ticks k
  else b

/-- What time does while no command waits (log entry 1): one TIME tick, which stops short of the next boundary. -/
def Chip.idle (b : Chip) : Chip := b.oneTick

/-- Network time reaches the next boundary (R139, R140): at the present tick where a step has carried it there, else at the first tick that does. -/
def Chip.toBoundary (b : Chip) : Chip :=
  if b.boundaryDue then b
  else
    let b1 := if b.tickClean then b else b.tick
    if b1.boundaryDue then b1 else b1.ticks (b1.ticksTo (b1.tim.nextB * stitchU))

end Sys2Proof.Machine
end

