-- ==== Sys2Proof/Machine/Qmg.lean ====
section
/-!
DEFINITION. QMG: queues, items, the openings it judges, the order it presents, watermarks and storage errors (R408 to R424).
-/
namespace Sys2Proof.Machine

def CONS_SCHED : Nat := 0
def CONS_AIR : Nat := 1
def CONS_NODE : Nat := 2
def CONS_HOST : Nat := 3

/-- No node (R409). -/
def noNode : Nat := 0x1FFFF

/-- The parent entry of a queue in the TRAFFIC section (R53). -/
def Chip.qParent (b : Chip) (q : Nat) : Nat := b.pat.qParent.getD q 0xFFFF

/-- A queue as reset and activation leave it (R408, R412, R425). -/
def Chip.qDefault (b : Chip) (q : Nat) : Queue :=
  { consumer := if b.qParent q = 0xFFFF then CONS_HOST else CONS_SCHED,
    spillLimit := if b.pat.queueCount = 0 then 0 else b.pat.spillMib * 256 / b.pat.queueCount }

/-- A queue. -/
def Chip.q (b : Chip) (q : Nat) : Queue := kgetD b.queues q (b.qDefault q)

/-- The group of a queue (R408). -/
def Chip.qGroup (b : Chip) (q : Nat) : Nat :=
  if b.pat.queueGroups = 0 ∨ b.pat.queueCount < b.pat.queueGroups then 0 else q / (b.pat.queueCount / b.pat.queueGroups)

/-- The queue's group presents in KY5020 priority order (R424). -/
def Chip.qPrio (b : Chip) (q : Nat) : Bool := b.t (Reg.QMG_G_MODE (b.qGroup q))

/-- The octets of an item written so far; LENGTH once it is closed (R409). -/
def Item.len (i : Item) : Nat := i.data.length

/-- The PSDU of an item that holds a frame to send: what follows its 16-octet transmit header (R243). -/
def Item.psdu (i : Item) : List Nat := i.data.drop 16

/-- The words an item reserves or holds: its tag and its data words (R409, R413). -/
def wordsOf (octets : Nat) : Nat := 1 + cdiv octets 32
def Item.words (i : Item) : Nat := if i.closed then wordsOf i.len else wordsOf i.size

/-- The words an item has in the rings and the spill region: its tag, and the data words that are full or closed (R409, R415). -/
def Item.held (i : Item) : Nat := if i.closed then wordsOf i.len else 1 + i.len / 32

/-- Valid octets in the last data word (R409, R415). -/
def Item.lastValid (i : Item) : Nat := if i.len = 0 then 0 else (i.len - 1) % 32 + 1

/-- Data word k of an item: octet 32 k + j in byte lane j, the last word padded with zero octets (R415). -/
def Item.dataWord (i : Item) (k : Nat) : Nat := leNat (slice i.data (32 * k) 32)

/-- The tag word: the tag in octets 0 to 7, zeros above (R409). -/
def Item.tagWord (i : Item) : Nat :=
  (if i.closed then i.len % 2 ^ 14 else 0) +
  (i.prio % 8 + 8 * b2n i.closed + 16 * b2n i.aborted + 32 * b2n i.ecc + 64 * b2n i.front) * 2 ^ 16 +
  (if i.closed then i.lastValid else 0) * 2 ^ 24 + i.node % 2 ^ 17 * 2 ^ 32

/-- The words that QMG stores of an item: its tag word and its data words (R409, R415). -/
def Item.stored (i : Item) : List Nat := i.tagWord :: (List.range (i.held - 1)).map i.dataWord

/-- Depth in octets, and words in use (R421, R413). -/
def Queue.octets (q : Queue) : Nat := (q.items.map Item.len).sum
def Queue.words (q : Queue) : Nat := (q.items.map Item.words).sum

/-- The words of a list of runs (R411). -/
def runWords (l : List (Nat × Nat)) : Nat := (l.map (·.2)).sum
def Queue.headW (q : Queue) : Nat := runWords q.head
def Queue.spillW (q : Queue) : Nat := runWords q.spill
def Queue.tailW (q : Queue) : Nat := runWords q.tail

/-- The first words of a list of runs, and the others. -/
def runSplit (n : Nat) (l : List (Nat × Nat)) : List (Nat × Nat) × List (Nat × Nat) :=
  match l with
  | [] => ([], [])
  | (i, k) :: t =>
    if n = 0 then ([], l)
    else if k ≤ n then let r := runSplit (n - k) t; ((i, k) :: r.1, r.2)
    else ([(i, n)], (i, k - n) :: t)

/-- Words of an item behind a list of runs. -/
def runAdd (l : List (Nat × Nat)) (e : Nat × Nat) : List (Nat × Nat) :=
  match l with
  | [] => if e.2 = 0 then [] else [e]
  | [x] => if e.2 = 0 then [x] else if x.1 = e.1 then [(x.1, x.2 + e.2)] else [x, e]
  | x :: t => x :: runAdd t e
def runJoin (l m : List (Nat × Nat)) : List (Nat × Nat) := m.foldl runAdd l

/-- The capacity in words of 32 octets (R412). -/
def Queue.capacity (q : Queue) : Nat := (2048 + q.spillLimit * 4096) / 32

/-- Spill units of 4 KiB in use (R412). -/
def Queue.spillUnits (q : Queue) : Nat := cdiv (q.spillW * 32) 4096

/-- The live bits of the two marks (R421); a mark of 0 is off. -/
def Queue.hiLvl (q : Queue) : Bool := q.high != 0 && decide (q.high * 256 ≤ q.octets)
def Queue.loLvl (q : Queue) : Bool := q.low != 0 && decide (q.octets ≤ q.low * 256)

/-- Set or clear one bit of a bitmap register. -/
def Chip.bitmap (b : Chip) (f : Fld) (i : Nat) (v : Bool) : Chip :=
  b.w f (if v then setBit (b.r f) i else clrBit (b.r f) i)

/-- The four mark bits of a queue, and the summary of its group is left to the evaluation (R421). -/
def Chip.marks (b : Chip) (n : Nat) (old new : Queue) : Chip :=
  let w := n / 32
  let i := n % 32
  let b1 := if new.hiLvl && !old.hiLvl then b.bitmap (Reg.QMG_HI_STICKY w) i true else b
  let b2 := if new.loLvl && !old.loLvl then b1.bitmap (Reg.QMG_LO_STICKY w) i true else b1
  let b3 := if new.hiLvl != old.hiLvl then b2.bitmap (Reg.QMG_HI_LVL w) i new.hiLvl else b2
  if new.loLvl != old.loLvl then b3.bitmap (Reg.QMG_LO_LVL w) i new.loLvl else b3

/-- Put a queue in place of another, with every register that follows from it (R421, R426). -/
def Chip.putQ (b : Chip) (n : Nat) (new0 : Queue) : Chip :=
  let old := b.q n
  let bitSet := fun (f : Fld) => bit (b.r f) (n % 32)
  let new := { new0 with
    hiNoted := if new0.hiLvl && !old.hiLvl && !bitSet (Reg.QMG_HI_STICKY (n / 32)) then false else new0.hiNoted,
    loNoted := if new0.loLvl && !old.loLvl && !bitSet (Reg.QMG_LO_STICKY (n / 32)) then false else new0.loNoted }
  let g := b.qGroup n
  let b1 := { b with queues := kput b.queues n new }
  let b2 := b1.w (Reg.QMG_G_ITEMS g) (b1.r (Reg.QMG_G_ITEMS g) + new.items.length - old.items.length)
  let b3 := b2.w Reg.QMG_NONEMPTY (b2.r Reg.QMG_NONEMPTY + b2n (!new.items.isEmpty) - b2n (!old.items.isEmpty))
  let b4 := b3.w Reg.QMG_SPILL_USED (b3.r Reg.QMG_SPILL_USED + new.spillUnits - old.spillUnits)
  let b5 := if b4.r Reg.QMG_SPILL_PEAK < b4.r Reg.QMG_SPILL_USED then b4.w Reg.QMG_SPILL_PEAK (b4.r Reg.QMG_SPILL_USED) else b4
  b5.marks n old new

/-- Words pass from the tail ring to the head ring or the spill region, a cell of 8 words at a time; a spill region that is full
leaves them in the tail ring (R411, R412). -/
def tailPass (fuel : Nat) (q : Queue) : Queue :=
  match fuel with
  | 0 => q
  | k + 1 =>
    let c := runSplit 8 q.tail
    if q.tailW < 8 then q
    else if q.spillW = 0 ∧ q.headW + 8 ≤ 32 then tailPass k { q with head := runJoin q.head c.1, tail := c.2 }
    else if q.spillLimit * 4096 < (q.spillW + 8) * 32 then q
    else tailPass k { q with spill := runJoin q.spill c.1, tail := c.2 }
def Queue.pass (q : Queue) : Queue := tailPass q.tailW q

/-- Words of an item written to the tail ring (R411). -/
def Queue.addWords (q : Queue) (id n : Nat) : Queue := Queue.pass { q with tail := runAdd q.tail (id, n) }

/-- The words of an item are freed, wherever they lie (R411, R416). -/
def Queue.freeWords (q : Queue) (id : Nat) : Queue :=
  let keep := fun (l : List (Nat × Nat)) => l.filter (fun e => e.1 != id)
  Queue.pass { q with head := keep q.head, spill := keep q.spill, tail := keep q.tail }

/-- A spilled cell is read back into the head ring where a head cell is free (R411). -/
def Queue.readBack (q : Queue) : Queue :=
  let c := runSplit 8 q.spill
  Queue.pass { q with head := runJoin q.head c.1, spill := c.2 }

/-- Spilled words of one item are fetched into the head ring, as many as it has room for (R417). -/
def Queue.stage (q : Queue) (id : Nat) : Queue :=
  let n := min (32 - q.headW) (runWords (q.spill.filter (fun e => e.1 == id)))
  let r := q.spill.foldl (fun (a : Nat × List (Nat × Nat)) e =>
    if e.1 = id then (a.1 - e.2, runAdd a.2 (e.1, e.2 - min a.1 e.2)) else (a.1, runAdd a.2 e)) (n, [])
  if n = 0 then q else { q with head := runAdd q.head (id, n), spill := r.2 }

/-- The item of a queue with an identity. -/
def Queue.find (q : Queue) (id : Nat) : Option Item := q.items.find? (·.id == id)

/-- A queue with one item changed. -/
def Queue.modItem (q : Queue) (id : Nat) (f : Item → Item) : Queue :=
  { q with items := q.items.map (fun i => if i.id = id then f i else i) }

/-- A queue without an item; its words are freed. -/
def Queue.drop (q : Queue) (id : Nat) : Queue := Queue.freeWords { q with items := q.items.filter (·.id != id) } id

/-- The judgement of an opening (R413): the refusal's code, none when it is accepted. While the spill region in use exceeds a SPILL_LIMIT written
below it, every opening is refused as full (R414); use equal to the limit is judged by the words that are free (DEDUCED, log entry 106). -/
def Queue.judge (q : Queue) (size : Nat) : Option Nat :=
  if size = 0 ∨ 16383 < size then some BAD_LENGTH
  else if q.capacity < wordsOf size then some BAD_LENGTH
  else if q.itemLimit ≤ q.items.length ∨ q.spillLimit < q.spillUnits then some NO_RESOURCE
  else if q.capacity < q.words + wordsOf size then some NO_RESOURCE
  else none

/-- What an opening answers: the block after it and the item's identity, or the code of the refusal. -/
structure Opened where
  b : Chip
  id : Nat
  code : Nat

/-- A queue whose items go to the mesh: a NODE queue, or one below a scheduler node of port 2 (R482). -/
def Chip.meshBound (b : Chip) (n : Nat) : Bool :=
  (b.q n).consumer == CONS_NODE ||
  ((b.q n).consumer == CONS_SCHED && b.pat.sched.any (fun r => r.id == b.qParent n && r.port == 2))

/-- A producer opens an item (R413). A STANDBY device discards what is bound for the mesh (R482). -/
def Chip.openItem (b : Chip) (n size prio node : Nat) (front : Bool) : Opened :=
  let q := b.q n
  if b.r Reg.SEA_ROLE = 2 ∧ b.meshBound n then ⟨b.inc Reg.SEA_STBY_DL_DROP, 0, OK⟩ else
  match q.judge size with
  | some c =>
    if c = BAD_LENGTH then ⟨b.inc Reg.QMG_PUSH_TOO_LONG, 0, c⟩
    else ⟨(b.inc Reg.QMG_PUSH_FULL).inc (Reg.QMG_G_PUSH_FULL (b.qGroup n)), 0, c⟩
  | none =>
    let i : Item := { id := b.nextItem, size := size, prio := prio, node := if q.consumer = CONS_NODE then node else noNode,
                      front := front, openNs := b.nowNs }
    let b1 := { b with nextItem := b.nextItem + 1 }
    let q1 := Queue.addWords { q with items := q.items ++ [i] } i.id 1
    ⟨(b1.putQ n q1).inc Reg.QMG_PUSH_OK, i.id, OK⟩

/-- Close an item: LENGTH is what was written, the unused reservation is freed (R413). -/
def Chip.closeItem (b : Chip) (n id : Nat) (aborted : Bool) : Chip :=
  let q := b.q n
  match q.find id with
  | none => b
  | some i =>
    if i.closed then b
    else
      let i1 := { i with closed := true, aborted := i.aborted || aborted }
      b.putQ n ((q.modItem id (fun _ => i1)).addWords id (i1.held - i.held))

/-- Octets appended to an item; the words they fill go to the tail ring (R411, R415). -/
def Queue.append (q : Queue) (i : Item) (l : List Nat) : Queue :=
  let i1 : Item := { i with data := i.data ++ l }
  (q.modItem i.id (fun _ => i1)).addWords i.id (i1.held - i.held)

/-- A producer writes octets; beyond the declared size it is cut off and the item closes ABORTED (R413). -/
def Chip.writeItem (b : Chip) (n id : Nat) (l : List Nat) : Chip :=
  let q := b.q n
  match q.find id with
  | none => b
  | some i =>
    if i.closed then b
    else if i.len + l.length ≤ i.size then b.putQ n (q.append i l)
    else
      let b1 := b.putQ n (q.append i (l.take (i.size - i.len)))
      (b1.closeItem n id true).inc Reg.QMG_PUSH_OVERRUN

/-- Push a whole item: opened, written and closed. Identity 0 names no item: the opening has been refused or discarded. -/
def Chip.pushItem (b : Chip) (n : Nat) (data : List Nat) (prio node : Nat) (front : Bool) : Opened :=
  let o := b.openItem n data.length prio node front
  if o.code ≠ OK ∨ o.id = 0 then o else ⟨(o.b.writeItem n o.id data).closeItem n o.id false, o.id, OK⟩

/-- The items of one node, in a NODE queue. -/
def Queue.nodeItems (q : Queue) (node : Nat) : List Item := q.items.filter (·.node == node)

/-- An item is offered to its consumer (R418). -/
def Chip.offered (b : Chip) (n : Nat) (i : Item) : Bool :=
  let q := b.q n
  if q.consumer = CONS_AIR then i.closed || decide (32 ≤ i.len)
  else if q.consumer = CONS_NODE || b.qPrio n then i.closed
  else i.closed || (q.ct != 0 && decide (q.ct * 32 ≤ i.len))

/-- The first of a list with the highest PRIO. -/
def bestPrio (l : List Item) : Option Item :=
  match l with
  | [] => none
  | i :: t =>
    match bestPrio t with
    | none => some i
    | some j => if i.prio < j.prio then some j else some i

/-- The item a queue's order presents (R408, R416, R424); `node` matters for a NODE queue alone. -/
def Chip.presents (b : Chip) (n node : Nat) : Option Item :=
  let q := b.q n
  let ok := fun (o : Option Item) => o.filter (fun i => b.offered n i)
  if q.consumer = CONS_NODE then
    let l := (q.nodeItems node).filter (!·.taken)
    match l.find? (·.front) with
    | some i => ok (some i)
    | none => ok l.head?
  else if b.qPrio n then bestPrio (q.items.filter (fun i => !i.taken && b.offered n i))
  else ok (q.items.find? (!·.taken))

/-- An item of the queue, or of the node in a NODE queue, is taken (R416). -/
def Queue.hasTaken (q : Queue) (node : Nat) : Bool :=
  if q.consumer = CONS_NODE then (q.nodeItems node).any (·.taken) else q.items.any (·.taken)

/-- A consumer takes the item its order presents (R416). -/
def Chip.takeItem (b : Chip) (n node : Nat) : Chip × Option Item :=
  if (b.q n).hasTaken node then (b, none)
  else
    match b.presents n node with
    | none => (b, none)
    | some i => (b.putQ n (((b.q n).modItem i.id (fun i => { i with taken := true })).stage i.id), some i)

/-- A consumer releases an item (R416). -/
def Chip.releaseItem (b : Chip) (n id : Nat) : Chip :=
  match (b.q n).find id with
  | none => b
  | some _ => (b.putQ n ((b.q n).drop id)).inc Reg.QMG_RELEASED

/-- An item at the head of its own kind, no longer taken: in priority order it goes ahead of its own PRIO (R416, R424). -/
def Queue.toHead (q : Queue) (i : Item) : Queue := { q with items := { i with taken := false } :: q.items.filter (·.id != i.id) }

/-- A consumer returns an item to the head of its order (R416). -/
def Chip.returnItem (b : Chip) (n id : Nat) : Chip :=
  match (b.q n).find id with
  | some i => if i.taken then (b.putQ n ((b.q n).toHead i)).inc Reg.QMG_RETURNED else b
  | none => b

/-- DROP_REST (R419): the item is released at once. -/
def Chip.dropRest (b : Chip) (n id : Nat) : Chip :=
  match (b.q n).find id with
  | none => b
  | some i => ((if i.ecc then b.inc Reg.QMG_ECC_DROP else b).releaseItem n id).inc Reg.QMG_DROP_REST_CNT

/-- What reading an item met (R423). -/
def Chip.eccCorrected (b : Chip) (n : Nat) (dram : Bool) : Chip :=
  b.inc (if dram then Reg.QMG_G_ECC_CORR_DRAM (b.qGroup n) else Reg.QMG_G_ECC_CORR_SRAM (b.qGroup n))

/-- The per-stitch count of QUEUE_ECC (R428). -/
def kQueueEcc : Nat := N.QUEUE_ECC * 2 ^ 16

/-- An uncorrectable error in a data word (R423). -/
def Chip.eccData (b : Chip) (n id : Nat) (dram : Bool) : Chip :=
  let b1 := (b.inc (Reg.QMG_G_ECC_UNCORR (b.qGroup n))).note kQueueEcc 1
  let b2 := { b1 with eccFirst := some (b1.eccFirst.getD (n, dram)) }
  b2.putQ n ((b2.q n).modItem id (fun i => { i with ecc := true }))

/-- An uncorrectable error in a tag word: the item is released unread (R423). -/
def Chip.eccTag (b : Chip) (n id : Nat) (dram : Bool) : Chip :=
  let b1 := (b.inc (Reg.QMG_G_ECC_UNCORR (b.qGroup n))).note kQueueEcc 1
  Chip.releaseItem { b1 with eccFirst := some (b1.eccFirst.getD (n, dram)) } n id

/-- A spilled cell is read back into the head ring (R411). -/
def Chip.spillBack (b : Chip) (n : Nat) : Chip :=
  let q := b.q n
  if q.spillW = 0 ∨ 32 < q.headW + 8 then b else b.putQ n q.readBack

/-- Discard every item of a queue, counting each in a counter; the count discarded. -/
def Chip.emptyQ (b : Chip) (n : Nat) (keep : Item → Bool) (f : Fld) : Chip × Nat :=
  let q := b.q n
  let gone := q.items.filter (fun i => !keep i)
  let q1 := gone.foldl (fun q i => q.drop i.id) q
  ((b.putQ n q1).add f gone.length, gone.length)

/-- Discard a node's list in a NODE queue. -/
def Chip.dropNodeList (b : Chip) (n node : Nat) : Chip × Nat :=
  let q := b.q n
  let gone := q.nodeItems node
  (b.putQ n (gone.foldl (fun q i => q.drop i.id) q), gone.length)

/-- Spill units reserved by every queue together (R412). -/
def Chip.spillReserved (b : Chip) : Nat := ((List.range b.pat.queueCount).map (fun n => (b.q n).spillLimit)).sum

/-- The watermark evaluation of one queue (R422). -/
def Chip.markEval (b : Chip) (n : Nat) : Chip :=
  let q := b.q n
  let w := n / 32
  let i := n % 32
  let hi := bit (b.r (Reg.QMG_HI_STICKY w)) i
  let lo := bit (b.r (Reg.QMG_LO_STICKY w)) i
  let b1 := if hi && !q.hiNoted then b.raise Src.QMG N.WATERMARK (argB (n % 256) (n / 256) 0 (b2n q.hiLvl) q.octets) else b
  let b2 := if lo && !q.loNoted then b1.raise Src.QMG N.WATERMARK (argB (n % 256) (n / 256) 1 (b2n q.loLvl) q.octets) else b1
  if (hi && !q.hiNoted) || (lo && !q.loNoted) then
    { b2 with queues := kput b2.queues n { q with hiNoted := q.hiNoted || hi, loNoted := q.loNoted || lo } }
  else b2

/-- The queues of a group. -/
def Chip.groupQs (b : Chip) (g : Nat) : List Nat :=
  if b.pat.queueGroups = 0 then []
  else (List.range (b.pat.queueCount / b.pat.queueGroups)).map (fun i => g * (b.pat.queueCount / b.pat.queueGroups) + i)

/-- The summary bits of a group (R422). -/
def Chip.groupAny (b : Chip) (g : Nat) : Chip :=
  let qs := b.groupQs g
  let b1 := b.wb (Reg.QMG_G_HI_ANY g) (qs.any (fun n => bit (b.r (Reg.QMG_HI_STICKY (n / 32))) (n % 32)))
  b1.wb (Reg.QMG_G_LO_ANY g) (qs.any (fun n => bit (b.r (Reg.QMG_LO_STICKY (n / 32))) (n % 32)))

/-! ### The command block (R425) -/

def Chip.configQ (b : Chip) : CmdOut :=
  let n := b.arg cbQMG 0
  let a1 := b.arg cbQMG 1
  let cons := bits a1 0 2
  let item := b.arg cbQMG 2
  let spill := b.arg cbQMG 3
  let hi := b.arg cbQMG 4
  let lo := b.arg cbQMG 5
  if b.pat.queueCount ≤ n then b.structFail cbQMG
  else
    let q := b.q n
    if item = 0 ∨ 65535 < item ∨ 65536 < spill ∨ 1048575 < hi ∨ 1048575 < lo then b.fail BAD_ARG
    else if (cons == CONS_SCHED) != (b.qParent n != 0xFFFF) then b.fail BAD_ARG
    else if b.pat.spillMib * 256 < b.spillReserved - q.spillLimit + spill then b.structFail cbQMG
    else if cons ≠ q.consumer ∧ !q.items.isEmpty then b.fail WRONG_STATE
    else if b.qPrio n ∧ cons ≠ q.consumer ∧ (cons = CONS_NODE ∨ cons = CONS_AIR) then b.fail WRONG_STATE
    else
      let b1 := b.putQ n (Queue.pass { q with consumer := cons, ct := bits a1 8 8, itemLimit := item, spillLimit := spill, high := hi, low := lo })
      let b2 := b1.w Reg.QMG_SPILL_RESERVED b1.spillReserved
      b2.done [b2.pat.spillMib * 256 - b2.spillReserved]

def Chip.readQ (b : Chip) : CmdOut :=
  let n := b.arg cbQMG 0
  if b.pat.queueCount ≤ n then b.structFail cbQMG
  else
    let q := b.q n
    let flags := b2n (bit (b.r (Reg.QMG_HI_STICKY (n / 32))) (n % 32)) + 2 * b2n q.hiLvl +
      4 * b2n (bit (b.r (Reg.QMG_LO_STICKY (n / 32))) (n % 32)) + 8 * b2n q.loLvl
    b.done ([q.consumer + q.ct * 2 ^ 8 + b2n (b.qPrio n) * 2 ^ 16, q.items.length, q.octets, (q.items.filter (·.taken)).length] ++
      [q.spillUnits, q.itemLimit, q.spillLimit, q.high, q.low, flags])

/-- DROP_REST by host software; host software has read nothing of an item the device has not yet written to its buffers. -/
def Chip.dropRestCmd (b : Chip) : CmdOut :=
  let n := b.arg cbQMG 0
  if b.pat.queueCount ≤ n then b.structFail cbQMG
  else if (b.q n).consumer ≠ CONS_HOST then b.fail WRONG_STATE
  else
    match (b.q n).items.find? (·.taken) with
    | none => b.fail WRONG_STATE
    | some i => (b.dropRest n i.id).done [i.len]

def Chip.flushQ (b : Chip) : CmdOut :=
  let n := b.arg cbQMG 0
  if b.pat.queueCount ≤ n then b.structFail cbQMG
  else
    let r := b.emptyQ n (fun i => i.taken || !i.closed) Reg.QMG_FLUSHED
    r.1.done [r.2]

def Chip.setGroup (b : Chip) : CmdOut :=
  let g := b.arg cbQMG 0
  let m := b.arg cbQMG 1
  if b.pat.queueGroups ≤ g then b.structFail cbQMG
  else if 1 < m then b.fail BAD_ARG
  else if (b.groupQs g).any (fun n => !(b.q n).items.isEmpty) then b.fail WRONG_STATE
  else if m = 1 ∧ (b.groupQs g).any (fun n => (b.q n).consumer == CONS_NODE || (b.q n).consumer == CONS_AIR) then b.fail WRONG_STATE
  else (b.w (Reg.QMG_G_MODE g) m).done []

end Sys2Proof.Machine
end

