-- ==== Sys2Proof/Machine/Fwd.lean ====
section
/-!
DEFINITION. FWD: the exact-match and prefix tables, lookup, insertion, rehash, learning, aging, the Darner and the FWD command
block (R376 to R407).
-/
namespace Sys2Proof.Machine

def polyC : Nat := 0x82F63B78
def poly3 : Nat := 0xEDB88320

/-! ### Tables and their registers -/

def Chip.tab (b : Chip) (t : Nat) : FwdTab := if t = 0 then b.fwd.exm else b.fwd.lpm
def Chip.putTab (b : Chip) (t : Nat) (x : FwdTab) : Chip :=
  if t = 0 then { b with fwd := { b.fwd with exm := x } } else { b with fwd := { b.fwd with lpm := x } }
def Chip.tabSize (b : Chip) (t : Nat) : Nat := if t = 0 then b.pat.exmEntries else b.pat.lpmPrefixes
def Chip.tabNB (b : Chip) (t : Nat) : Nat := b.tabSize t / 4
def rhFld (t : Nat) : Fld := if t = 0 then Reg.FWD_EXM_RH else Reg.FWD_LPM_RH
def tgtFld (t : Nat) : Fld := if t = 0 then Reg.FWD_EXM_TGT else Reg.FWD_LPM_TGT
def leftFld (t : Nat) : Fld := if t = 0 then Reg.FWD_EXM_RH_LEFT else Reg.FWD_LPM_RH_LEFT
def cursorFld (t : Nat) : Fld := if t = 0 then Reg.FWD_EXM_RH_CURSOR else Reg.FWD_LPM_RH_CURSOR
/-- The two seeds of a table's set. -/
def seedFld (t set k : Nat) : Fld := match t, set, k with
  | 0, 0, 0 => Reg.FWD_EXM_SEED0_A
  | 0, 0, _ => Reg.FWD_EXM_SEED1_A
  | 0, _, 0 => Reg.FWD_EXM_SEED0_B
  | 0, _, _ => Reg.FWD_EXM_SEED1_B
  | _, 0, 0 => Reg.FWD_LPM_SEED0_A
  | _, 0, _ => Reg.FWD_LPM_SEED1_A
  | _, _, 0 => Reg.FWD_LPM_SEED0_B
  | _, _, _ => Reg.FWD_LPM_SEED1_B

/-! ### Entry fields (R378, R379) -/

def vBit (t : Nat) : Nat := if t = 0 then 2 else 0
def genBit (t : Nat) : Nat := if t = 0 then 6 else 1
def eValid (t e : Nat) : Bool := bit e (vBit t)
def eGen (t e : Nat) : Nat := bits e (genBit t) 1
def eStatic (e : Nat) : Bool := bit e 3
def eHit (e : Nat) : Bool := bit e 4
def eLearned (e : Nat) : Bool := bit e 5
/-- The key: KTYPE or LEN in the lowest octet, KEY or PREFIX above it. -/
def eKey (t e : Nat) : Nat := (if t = 0 then bits e 0 2 else bits e 8 8) + 256 * bits e 128 128
/-- Where the shared fields begin: ACTION, VID, QUEUE, NEXT_HOP. -/
def aOff (t : Nat) : Nat := if t = 0 then 8 else 16
def eAction (t e : Nat) : Nat := bits e (aOff t) 2
def ePort (t e : Nat) : Nat := bits e (aOff t + 2) 1
def eTagged (t e : Nat) : Bool := bit e (aOff t + 3)
def ePcp (t e : Nat) : Nat := bits e (aOff t + 4) 3
def eVid (t e : Nat) : Nat := bits e (aOff t + 8 + if t = 0 then 0 else 8) 12
def qOff (t : Nat) : Nat := if t = 0 then 32 else 48
def eQueue (t e : Nat) : Nat := bits e (qOff t) 13
def eHop (t e : Nat) : Nat := bits e (qOff t + 16) 48
def eNode (t e : Nat) : Nat := bits e (qOff t + 16) 17
def eMove (e : Nat) : Nat := bits e 96 32
/-- An entry with HIT clear, as the shadow holds it (R397). -/
def noHit (t e : Nat) : Nat := if t = 0 then clrBit e 4 else e

/-- An IPv6 address, as a number, in the octet order of an entry. -/
def addrKey (v : Nat) : Nat := leNat (beBytes v 16)
/-- An address masked to a prefix length. -/
def maskAddr (v len : Nat) : Nat := v / 2 ^ (128 - len) * 2 ^ (128 - len)

/-! ### Hashing (R377, R383) -/

def hashOf (poly seed key : Nat) : Nat := crcRun poly seed (leBytes key 17)
/-- The candidate buckets of a key under a seed set. -/
def Chip.cands (b : Chip) (t set key : Nat) : Nat × Nat :=
  let nb := b.tabNB t
  let b0 := hashOf polyC (b.r (seedFld t set 0)) key * nb / 2 ^ 32
  let b1 := hashOf poly3 (b.r (seedFld t set 1)) key * nb / 2 ^ 32
  (b0, if b1 = b0 then (b0 + 1) % max 1 nb else b1)
def bucketIdx (k : Nat) : List Nat := [4 * k, 4 * k + 1, 4 * k + 2, 4 * k + 3]
def Chip.stashIdx (b : Chip) (t : Nat) : List Nat := (List.range 16).map (b.tabSize t + ·)
/-- The indices that a search reads (R377, R389). -/
def Chip.searchIdx (b : Chip) (t key : Nat) : List Nat :=
  let g := b.r (tgtFld t)
  let c := b.cands t g key
  let other := if b.t (rhFld t) then
      let d := b.cands t (1 - g) key
      bucketIdx d.1 ++ bucketIdx d.2
    else []
  bucketIdx c.1 ++ bucketIdx c.2 ++ other ++ b.stashIdx t

/-- A search meets uncorrectable slots: each is masked, counted, and joins the repair list (R384, R399). -/
def Chip.maskSlot (b : Chip) (t i : Nat) : Chip :=
  let x := b.tab t
  if x.bad.contains i && !x.masked.contains i then
    let b1 := (b.putTab t { x with masked := i :: x.masked }).inc Reg.FWD_ECC_MASKED
    if b1.fwd.repair.length < 16 then
      let b2 := { b1 with fwd := { b1.fwd with repair := b1.fwd.repair ++ [(t, i)] } }
      b2.w Reg.FWD_REPAIR_PEND b2.fwd.repair.length
    else b1
  else b
/-- What a search of a key does to the slots it reads. -/
def Chip.touch (b : Chip) (t key : Nat) : Chip := (b.searchIdx t key).foldl (fun c i => c.maskSlot t i) b
/-- A lookup begins: it is counted, and may have to wait (R384, R385). -/
def Chip.lookAt (b : Chip) (t key : Nat) : Chip :=
  let c := b.touch t key
  Chip.inc { c with fwd := { c.fwd with looked := true } } Reg.FWD_LOOKUPS
/-- A slot that every search treats as empty (R384). -/
def FwdTab.hidden (x : FwdTab) (i : Nat) : Bool := x.masked.contains i || x.bad.contains i
/-- The valid, readable entry of a key: its index and itself. -/
def Chip.findEnt (b : Chip) (t key : Nat) : Option (Nat × Nat) :=
  let x := b.tab t
  match (b.searchIdx t key).find? (fun i => !x.hidden i && (kget x.ents i).any (fun e => eKey t e == key)) with
  | some i => (kget x.ents i).map (fun e => (i, e))
  | none => none

/-! ### Counts that follow from the tables (R382, R388, R405) -/

/-- REHASH_REQUEST. -/
def Chip.askRehash (b : Chip) (t cause : Nat) : Chip :=
  b.raise Src.FWD N.REHASH_REQUEST (argB t cause 0 0 (b.tab t).ents.length)

/-- The stash's live bit, and the first crossing upwards (R388). -/
def Chip.stashLvl (b : Chip) (t : Nat) : Chip :=
  let lvl := if t = 0 then Reg.FWD_EXM_STASH_LVL else Reg.FWD_LPM_STASH_LVL
  let hi := if t = 0 then Reg.FWD_EXM_STASH_HI else Reg.FWD_LPM_STASH_HI
  let n := b.r (if t = 0 then Reg.FWD_EXM_STASH else Reg.FWD_LPM_STASH)
  let v := decide (b.r Reg.FWD_STASH_MARK ≤ n)
  let b1 := b.wb lvl v
  if v && !b.t lvl && !b.t hi then (b1.wb hi true).askRehash t 1 else b1

/-- The registers that show a table. -/
def Chip.fwdCounts (b : Chip) (t : Nat) : Chip :=
  let x := b.tab t
  let size := b.tabSize t
  let stash := (x.ents.filter (fun e => decide (size ≤ e.1))).length
  let left := if b.t (rhFld t) then (x.ents.filter (fun e => decide (e.1 < size) && eGen t e.2 != b.r (tgtFld t))).length else 0
  let b1 := b.w (leftFld t) left
  let b2 := if t = 0 then
      ((b1.w Reg.FWD_EXM_USED x.ents.length).w Reg.FWD_EXM_STASH stash).w Reg.FWD_LEARNED_USED (x.ents.filter (fun e => eLearned e.2)).length
    else
      let v := x.ents.foldl (fun v e => setBit v (bits e.2 8 8)) 0
      let b3 := (List.range 5).foldl (fun c i => c.w (Reg.FWD_LEN_VEC i) (bits v (32 * i) 32)) b1
      ((b3.w Reg.FWD_LPM_USED x.ents.length).w Reg.FWD_LPM_STASH stash).w Reg.FWD_LEN_ACTIVE (popCount v 129)
  b2.stashLvl t

/-- Write one entry and its shadow word, none to free the index (R397). -/
def Chip.putEnt (b : Chip) (t i : Nat) (e : Option Nat) : Chip :=
  let x := b.tab t
  let y := { x with soft := x.soft.filter (· != i), bad := x.bad.filter (· != i), masked := x.masked.filter (· != i), shBad := x.shBad.filter (· != i) }
  b.putTab t (match e with
    | some v => { y with ents := kput y.ents i v, shadow := kput y.shadow i (noHit t v) }
    | none => { y with ents := kdel y.ents i, shadow := kdel y.shadow i })

/-- Change an entry in place without touching its shadow word: HIT alone. -/
def Chip.setHit (b : Chip) (i : Nat) (v : Bool) : Chip :=
  b.putTab 0 { b.tab 0 with ents := kmod (b.tab 0).ents i (fun e => if v then setBit e 4 else clrBit e 4) }

/-! ### Prefix filters (R383, R390) -/

/-- The three bits of a key in its length's filter. -/
def filtBits (key : Nat) : List Nat :=
  let f := hashOf polyC 0 key
  let g := hashOf poly3 0 key
  [f % 16384, (f + g) % 16384, (f + 2 * g) % 16384]
def Chip.filtSet (b : Chip) (key : Nat) : Chip :=
  let n := key % 256
  { b with fwd := { b.fwd with filt := kset 0 b.fwd.filt n ((filtBits key).foldl setBit (kgetD b.fwd.filt n 0)) } }
def Chip.filtYes (b : Chip) (key : Nat) : Bool :=
  let n := key % 256
  b.fwd.refil.head? == some n || (filtBits key).all (bit (kgetD b.fwd.filt n 0))
/-- A prefix has been deleted. -/
def Chip.stale (b : Chip) : Chip := b.inc Reg.FWD_FILT_STALE
/-- A filter that says yes for every key, as each does after DOZE until it is rebuilt (R513). -/
def filtAll : Nat := 2 ^ 16384 - 1
/-- The lengths LEN_MAP permits, from the longest. -/
def Chip.lens (b : Chip) : List Nat := ((List.range 129).reverse).filter (bit b.pat.lenMap)
/-- The rebuild of a stitch ends: the length in progress is done, and the next one begins. -/
def Chip.refilStep (b : Chip) : Chip :=
  match b.fwd.refil with
  | [] => b
  | n :: t =>
    let ks := ((b.tab 1).ents.map (fun e => eKey 1 e.2)).filter (fun k => k % 256 == n)
    let b1 : Chip := { b with fwd := { b.fwd with filt := kdel b.fwd.filt n, refil := t } }
    let b2 := ks.foldl Chip.filtSet b1
    if t.isEmpty then (b2.wb Reg.FWD_REFILTERING false).w Reg.FWD_FILT_STALE 0 else b2

/-! ### Insertion (R386) -/

/-- A slot that an entry can be placed in. -/
def Chip.slotFree (b : Chip) (t : Nat) (plan : KV Nat) (i : Nat) : Bool :=
  (kget plan i).isNone && !(b.tab t).hidden i
/-- The lowest free slot of a bucket. -/
def Chip.freeSlot (b : Chip) (t : Nat) (plan : KV Nat) (k : Nat) : Option Nat := (bucketIdx k).find? (b.slotFree t plan)

/-- The path search: the plan and the moves when it ends at a free slot. -/
def Chip.insPath (b : Chip) (t seq : Nat) (plan : KV Nat) (cur k m fuel : Nat) : Option (List (Nat × Nat)) :=
  match fuel with
  | 0 => none
  | f + 1 =>
    let g := b.r (tgtFld t)
    let ok := fun (s : Nat) => (kget plan (4 * k + s)).any (fun v => eGen t v == g) && !(b.tab t).hidden (4 * k + s)
    match ([0, 1, 2, 3].map (fun j => (m + seq + j) % 4)).find? ok with
    | none => none
    | some s =>
      match kget plan (4 * k + s) with
      | none => none
      | some v =>
        let p1 := kput plan (4 * k + s) cur
        let c := b.cands t g (eKey t v)
        let k1 := if c.1 = k then c.2 else c.1
        match b.freeSlot t p1 k1 with
        | some i => some [(4 * k + s, cur), (i, v)]
        | none => (b.insPath t seq p1 v k1 (m + 1) f).map (fun l => (4 * k + s, cur) :: l)

/-- What an insert answers. -/
inductive InsR where
  | placed (index moves : Nat)
  | refused (code : Nat)
  deriving DecidableEq, Repr

/-- TABLE_FULL is counted and asks for a rehash, once per stitch and table (R388). -/
def Chip.insFull (b : Chip) (t : Nat) : Chip :=
  let b1 := b.inc Reg.FWD_INSERT_FULL
  if b1.fwd.asked.contains t then b1
  else Chip.askRehash { b1 with fwd := { b1.fwd with asked := t :: b1.fwd.asked } } t 0

/-- An insert (R386); `again` for the re-insertion of a rehash, whose entry is in the table already. -/
def Chip.insert (b0 : Chip) (t e0 : Nat) (again : Bool) : Chip × InsR :=
  let key := eKey t e0
  let bt := b0.touch t key
  let x := bt.tab t
  let b := bt.putTab t { x with insSeq := x.insSeq + 1 }
  let g := b.r (tgtFld t)
  let e := putBits e0 (genBit t) 1 g
  let c := b.cands t g key
  let slots := bucketIdx c.1 ++ bucketIdx c.2
  let place := fun (i : Nat) => (Chip.fwdCounts (b.putEnt t i (some e)) t, InsR.placed i 0)
  if !again && (b.findEnt t key).isSome then (b, .refused EXISTS)
  else if slots.any (fun i => x.masked.contains i) then (b, .refused ECC_FAULT)
  else match (b.freeSlot t x.ents c.1).or (b.freeSlot t x.ents c.2) with
    | some i => place i
    | none =>
      match b.insPath t x.insSeq x.ents e c.1 0 32 with
      | some l =>
        let b1 := l.foldl (fun (d : Chip) p => d.putEnt t p.1 (some p.2)) b
        let i := match (b1.tab t).ents.find? (fun p => eKey t p.2 == key && eGen t p.2 == g) with
          | some p => p.1
          | none => 0
        ((b1.add Reg.FWD_RELOC_MOVES (l.length - 1)).fwdCounts t, .placed i (l.length - 1))
      | none =>
        match (b.stashIdx t).find? (b.slotFree t x.ents) with
        | some i => place i
        | none => (b.insFull t, .refused TABLE_FULL)

/-- Free an index. -/
def Chip.removeEnt (b : Chip) (t i : Nat) : Chip := (b.putEnt t i none).fwdCounts t

/-! ### Uses by MAC and SVC (R300, R401, R456) -/

/-- A STATIC TO_NODE entry. -/
def nodeEnt (ktype key node stitch : Nat) : Nat := ktype + 4 + 8 + 1 * 2 ^ 8 + node * 2 ^ 48 + stitch * 2 ^ 96 + key * 2 ^ 128
/-- Install a node's entry; the code of a refusal. -/
def Chip.nodeEntry (b : Chip) (ktype key node : Nat) : Chip × Nat :=
  match b.insert 0 (nodeEnt ktype key node b.stitch32) false with
  | (b1, .placed _ _) => (b1, OK)
  | (b1, .refused c) => (b1, c)
/-- Remove the entry of a key. -/
def Chip.removeKey (b0 : Chip) (ktype key : Nat) : Chip :=
  let b := b0.touch 0 (ktype + 256 * key)
  match b.findEnt 0 (ktype + 256 * key) with
  | some (i, _) => b.removeEnt 0 i
  | none => b
/-- Remove the entry of a key where it names a node. -/
def Chip.removeOwn (b0 : Chip) (ktype key node : Nat) : Chip :=
  let b := b0.touch 0 (ktype + 256 * key)
  match b.findEnt 0 (ktype + 256 * key) with
  | some (i, e) => if eAction 0 e = 1 ∧ eNode 0 e = node then b.removeEnt 0 i else b
  | none => b
/-- A mirrored address takes its entry: one that the key has already is made to name the node (R401). -/
def Chip.nodeTake (b0 : Chip) (ktype key node : Nat) : Chip :=
  let b := b0.touch 0 (ktype + 256 * key)
  match b.findEnt 0 (ktype + 256 * key) with
  | some (i, e) =>
    if eAction 0 e = 1 ∧ eNode 0 e = node then b
    else (b.putEnt 0 i (some (putBits (nodeEnt ktype key node b.stitch32) (genBit 0) 1 (eGen 0 e)))).fwdCounts 0
  | none => (b.nodeEntry ktype key node).1
/-- The node that an EUI-64 (1) or a short address (2) resolves to (R303, R381). -/
def Chip.resolve (b : Chip) (ktype key : Nat) : Chip × Option Nat :=
  let b1 := b.lookAt 0 (ktype + 256 * key)
  match b1.findEnt 0 (ktype + 256 * key) with
  | some (i, e) => (b1.setHit i true, some (eNode 0 e))
  | none => (b1, none)

/-! ### Lookup (R380 to R384) -/

/-- The prefix lookup of a destination: the entry found, the probes and the filter skips. -/
def Chip.lpmFind (b : Chip) (dst : Nat) (lens : List Nat) (probes skips : Nat) : Chip × Option (Nat × Nat) × Nat × Nat :=
  match lens with
  | [] => (b, none, probes, skips)
  | n :: t =>
    if !bit (b.r (Reg.FWD_LEN_VEC (n / 32))) (n % 32) then b.lpmFind dst t probes skips
    else
      let key := n + 256 * addrKey (maskAddr dst n)
      if !b.filtYes key then b.lpmFind dst t probes (skips + 1)
      else
        let b1 := b.touch 1 key
        match b1.findEnt 1 key with
        | some r => (b1, some r, probes + 1, skips)
        | none => b1.lpmFind dst t (probes + 1) skips

/-- The decision on a destination. -/
structure Route where
  action : Nat
  port : Nat := 0
  tagged : Bool := false
  pcp : Nat := 0
  vid : Nat := 0
  queue : Nat := 0
  hop : Nat := 0
  node : Nat := 0
  deriving DecidableEq, Repr
def routeOf (t e : Nat) : Route :=
  { action := eAction t e, port := ePort t e, tagged := eTagged t e, pcp := ePcp t e, vid := eVid t e, queue := eQueue t e,
    hop := eHop t e, node := eNode t e }

/-- The lookup of a destination, with the miss action (R381). -/
def Chip.route (b : Chip) (dst : Nat) : Chip × Route :=
  let drop := fun (c : Chip) (r : Route) => if r.action = 3 then (c.inc Reg.FWD_MISS, r) else (c, r)
  let b1 := b.lookAt 0 (256 * addrKey dst)
  match b1.findEnt 0 (256 * addrKey dst) with
  | some (i, e) => drop ((b1.setHit i true).inc Reg.FWD_EXM_HIT) (routeOf 0 e)
  | none =>
    match b1.lpmFind dst b1.lens 0 0 with
    | (b2, r, p, k) =>
      let b3 := (b2.add Reg.FWD_PROBES p).add Reg.FWD_FILTER_SKIP k
      match r with
      | some (_, e) => drop (b3.inc Reg.FWD_LPM_HIT) (routeOf 1 e)
      | none =>
        if b3.r Reg.FWD_MISS_ACTION = 1 then (b3.inc Reg.FWD_MISS, { action := 2, queue := b3.r Reg.FWD_MISS_QUEUE })
        else (b3.inc Reg.FWD_MISS, { action := 3 })

/-! ### Learning (R391 to R393) -/

/-- The source of an IPv6 packet from a port whose LEARN_EN bit is set. -/
def Chip.learnLook (b : Chip) (r : LearnReq) : Chip :=
  let key := 256 * addrKey r.src
  let b1 := b.lookAt 0 key
  let ask := fun (c : Chip) =>
    if r.src = 0 ∨ r.src / 2 ^ 120 = 255 ∨ c.fwd.learn.contains r then c
    else if 256 ≤ c.fwd.learn.length then (c.inc Reg.FWD_LEARN_DROP).note (N.LEARN_OVERFLOW * 2 ^ 16) 1
    else
      let l := c.fwd.learn ++ [r]
      let c1 := Chip.w { c with fwd := { c.fwd with learn := l } } Reg.FWD_LEARN_DEPTH l.length
      if c1.r Reg.FWD_LEARN_PEAK < l.length then c1.w Reg.FWD_LEARN_PEAK l.length else c1
  match b1.findEnt 0 key with
  | none => ask b1
  | some (i, e) =>
    let b2 := b1.setHit i true
    if eLearned e && (ePort 0 e != r.port || eHop 0 e != r.mac || eVid 0 e != r.vid) then ask b2 else b2

/-- An entry with a request's next hop, VID and tag. -/
def learnPut (e : Nat) (r : LearnReq) : Nat :=
  putBits (putBits (putBits (putBits e 10 1 r.port) 11 1 (b2n r.tagged)) 16 12 r.vid) 48 48 r.mac
def Chip.learnQueue (b : Chip) (p : Nat) : Nat := b.r (if p = 0 then Reg.FWD_LEARN_QUEUE0 else Reg.FWD_LEARN_QUEUE1)
/-- The entry that a request installs. -/
def Chip.learnEnt (b : Chip) (r : LearnReq) : Nat :=
  putBits (learnPut (4 + 16 + 32 + b.stitch32 * 2 ^ 96 + addrKey r.src * 2 ^ 128) r) 32 13 (b.learnQueue r.port)

/-- The learn engine applies a request (R393). -/
def Chip.learnDo (b0 : Chip) (r : LearnReq) : Chip :=
  let b := b0.touch 0 (256 * addrKey r.src)
  match b.findEnt 0 (256 * addrKey r.src) with
  | none =>
    if b.r Reg.FWD_LEARN_LIMIT ≤ b.r Reg.FWD_LEARNED_USED then b.inc Reg.FWD_LEARN_LIMIT_HIT
    else match b.insert 0 (b.learnEnt r) false with
      | (b1, .placed _ _) => b1.inc Reg.FWD_LEARN_INSTALL
      | (b1, .refused c) => if c = TABLE_FULL then b1.inc Reg.FWD_LEARN_FULL else b1.inc Reg.FWD_LEARN_CONFLICT
  | some (i, e) =>
    if eStatic e || !eLearned e then b.inc Reg.FWD_LEARN_CONFLICT
    else if ePort 0 e = r.port then (b.putEnt 0 i (some (learnPut e r))).inc Reg.FWD_MAC_CHANGE
    else if (b.stitch32 + (2 ^ 32 - eMove e)) % 2 ^ 32 < b.r Reg.FWD_MOVE_HOLD then
      (b.inc Reg.FWD_FLAP).noteFirst N.FLAP_HELD (i + ePort 0 e * 2 ^ 32 + r.port * 2 ^ 33) 1
    else
      let e1 := putBits (putBits (learnPut e r) 32 13 (b.learnQueue r.port)) 96 32 b.stitch32
      ((b.putEnt 0 i (some e1)).inc Reg.FWD_MOVED).noteFirst N.MOVED (i + r.port * 2 ^ 32) 1

/-- LEARN_APPLY: one queued request. -/
def Chip.learnApply (b : Chip) : Chip :=
  match b.fwd.learn with
  | [] => b
  | r :: t => (Chip.w { b with fwd := { b.fwd with learn := t } } Reg.FWD_LEARN_DEPTH t.length).learnDo r

/-! ### Aging and the stash (R387, R394 to R396) -/

/-- The sweep tests one index; `won` says that a lookup hits it in the same cycle (R395). -/
def Chip.ageOne (b : Chip) (i : Nat) (won : Bool) : Chip :=
  match kget (b.tab 0).ents i with
  | none => b
  | some e =>
    if (b.tab 0).hidden i then b.maskSlot 0 i
    else if eStatic e then b
    else if won then (b.setHit i true).inc Reg.FWD_AGE_HIT_WIN
    else if eHit e then b.setHit i false
    else (b.removeEnt 0 i).inc Reg.FWD_AGED

/-- The indices that the sweep of a stitch visits. -/
def Chip.ageItems (b : Chip) (n : Nat) : List Nat :=
  let p := b.r Reg.FWD_AGE_PASS
  let nb := b.tabNB 0
  if !b.t Reg.FWD_AGE_EN || p == 0 then []
  else
    let k := n % p
    let lo := cdiv (k * nb) p
    let hi := cdiv ((k + 1) * nb) p
    ((List.range (hi - lo)).map (fun j => bucketIdx (lo + j))).flatten ++ (if k = 0 then b.stashIdx 0 else [])

/-- One stash entry of a table returns to a bucket. -/
def Chip.drain (b0 : Chip) (t : Nat) : Chip :=
  let b := (b0.stashIdx t).foldl (fun (c : Chip) i => c.maskSlot t i) b0
  let x := b.tab t
  let g := b.r (tgtFld t)
  let home := fun (i : Nat) => match kget x.ents i with
    | some e =>
      let c := b.cands t g (eKey t e)
      (b.freeSlot t x.ents c.1).or (b.freeSlot t x.ents c.2)
    | none => none
  match (b.stashIdx t).find? (fun i => !x.masked.contains i && (home i).isSome) with
  | none => b
  | some i =>
    match home i, kget x.ents i with
    | some j, some e => (((b.putEnt t j (some (putBits e (genBit t) 1 g))).putEnt t i none).inc Reg.FWD_STASH_DRAIN).fwdCounts t
    | _, _ => b

/-! ### The Darner (R398, R399) -/

/-- The Darner examines one index of a table. -/
def Chip.darnOne (b : Chip) (t i : Nat) : Chip :=
  let b1 := if (b.tab t).soft.contains i then
      (b.putTab t { b.tab t with soft := (b.tab t).soft.filter (· != i) }).inc Reg.FWD_ECC_CORR else b
  let x := b1.tab t
  let sh := kget x.shadow i
  let fromSh := fun (hit : Bool) => match sh with
    | some v => b1.putEnt t i (some (if t = 0 ∧ hit then setBit v 4 else v))
    | none => b1.putEnt t i none
  let b2 :=
    if x.bad.contains i then
      if x.shBad.contains i then
        let c := (b1.putEnt t i none).inc Reg.FWD_ENTRY_LOST
        c.noteFirst N.ENTRY_LOST (t + i * 2 ^ 8) 1
      else (fromSh true).inc Reg.FWD_DARNER_REPAIR
    else if x.shBad.contains i then
      (b1.putTab t { x with shBad := x.shBad.filter (· != i),
                            shadow := (match kget x.ents i with
                              | some e => kput x.shadow i (noHit t e)
                              | none => kdel x.shadow i) }).inc Reg.FWD_SHADOW_FIX
    else if (kget x.ents i).map (noHit t) = sh then b1
    else (fromSh ((kget x.ents i).any eHit)).inc Reg.FWD_DARNER_REPAIR
  b2.fwdCounts t

/-- The repair list, at the start of a stitch. -/
def Chip.repairAll (b : Chip) : Chip :=
  let l := b.fwd.repair
  (l.foldl (fun (c : Chip) p => c.darnOne p.1 p.2) { b with fwd := { b.fwd with repair := [] } }).w Reg.FWD_REPAIR_PEND 0

/-- The items of the walk in a stitch, as index + 2^20 × table, and the position after them. The stash of 16 counts as four
buckets after the table's last (log entry 15). -/
def Chip.darnItems (b : Chip) (n t k : Nat) : List Nat × Nat × Nat :=
  match n with
  | 0 => ([], t, k)
  | m + 1 =>
    let here := (bucketIdx k).map (fun i => i + t * 2 ^ 20)
    let next := if k + 1 < b.tabNB t + 4 then (t, k + 1) else (if t = 0 ∧ b.tabSize 1 ≠ 0 then 1 else 0, 0)
    let r := b.darnItems m next.1 next.2
    (here ++ r.1, r.2)

/-- Storage errors that come about: table, index and 0 single-bit, 1 uncorrectable, 2 uncorrectable in the shadow. -/
def Chip.fwdError (b : Chip) (e : Nat × Nat × Nat) : Chip :=
  let t := if e.1 = 0 then 0 else 1
  let x := b.tab t
  match e.2.2 with
  | 0 => b.putTab t { x with soft := e.2.1 :: x.soft.filter (· != e.2.1) }
  | 1 => b.putTab t { x with bad := e.2.1 :: x.bad.filter (· != e.2.1) }
  | _ => b.putTab t { x with shBad := e.2.1 :: x.shBad.filter (· != e.2.1) }

/-! ### Starts and activations (R69, R400) -/

/-- After a cold start the tables and the shadow are empty. -/
def Chip.fwdCold (b : Chip) : Chip := { b with fwd := {} }
/-- After a warm start every valid shadow entry is back at its index, with HIT set. -/
def Chip.fwdWarm (b : Chip) : Chip :=
  let re := fun (t : Nat) (x : FwdTab) =>
    let l : KV Nat := x.shadow.map (fun e => (e.1, if t = 0 then setBit e.2 4 else e.2))
    ({ ents := l, shadow := x.shadow } : FwdTab)
  let b1 : Chip := { b with fwd := { exm := re 0 b.fwd.exm, lpm := re 1 b.fwd.lpm, filt := b.fwd.filt } }
  let b2 := ((b1.tab 1).ents.map (fun e => eKey 1 e.2)).foldl Chip.filtSet b1
  ((b2.wb Reg.FWD_REFILTERING false).fwdCounts 0).fwdCounts 1

/-! ### The command block (R402, R403) -/

/-- The table of ARG0, where it exists. -/
def Chip.argTab (b : Chip) : Option Nat :=
  match b.arg cbFWD 0 with
  | 0 => some 0
  | 1 => if b.pat.lpmPrefixes = 0 then none else some 1
  | _ => none
/-- A command that names no table: the prefix table where the Pattern has none is beyond the structure (R71, R376). -/
def Chip.tabBad (b : Chip) : CmdOut := if b.arg cbFWD 0 = 1 then b.structFail cbFWD else b.fail BAD_ARG
/-- The entry of ARG2 to ARG9. -/
def Chip.argEnt (b : Chip) : Nat := leNat (ofWords (((b.args cbFWD).drop 2).take 8))
def entWords (e : Nat) : List Nat := (List.range 8).map (fun i => bits e (32 * i) 32)

/-- The checks of R403 on a valid entry. -/
def Chip.entOk (b : Chip) (t e : Nat) : Bool :=
  let a := eAction t e
  let key := bits e 128 128
  let kt := bits e 0 2
  let res := if t = 0 then bit e 7 || bit e 15 || bits e 28 4 != 0 || bits e 45 3 != 0
    else bits e 2 6 != 0 || bit e 23 || bits e 24 8 != 0 || bits e 44 4 != 0 || bits e 61 3 != 0 || bits e 112 16 != 0
  let keyOk := if t = 0 then kt != 3 && (kt != 1 || decide (key < 2 ^ 64)) && (kt != 2 || decide (key < 2 ^ 16)) && (kt == 0 || a == 1)
    else decide (bits e 8 8 ≤ 128) && bit b.pat.lenMap (bits e 8 8) && addrKey (maskAddr (leNat (beBytes key 16)) (bits e 8 8)) == key
  let hop := if a = 1 then eHop t e == eNode t e && decide (eNode t e < b.pat.nodeCount) else a == 0 || eHop t e == 0
  !res && keyOk && hop && decide (eQueue t e < b.pat.queueCount) && (a == 0 || a == 2 || eQueue t e == 0)

/-- An entry names what the Pattern's structure does not have: a prefix length, a queue or a node (R71, R72). -/
def Chip.entOver (b : Chip) (t e : Nat) : Bool :=
  (t == 1 && decide (bits e 8 8 ≤ 128) && !bit b.pat.lenMap (bits e 8 8)) || decide (b.pat.queueCount ≤ eQueue t e) ||
  (eAction t e == 1 && decide (b.pat.nodeCount ≤ eNode t e))
/-- The key of ARG2 to ARG9: none for KTYPE 3 or a length above 128. A prefix is masked to its length. -/
def Chip.argKey' (b : Chip) (t : Nat) : Option Nat :=
  let e := b.argEnt
  if t = 0 then (if bits e 0 2 = 3 then none else some (eKey 0 e))
  else
    let n := bits e 8 8
    if 128 < n then none else some (n + 256 * addrKey (maskAddr (leNat (beBytes (bits e 128 128) 16)) n))

def Chip.fwdRead (b : Chip) : CmdOut :=
  let i := b.arg cbFWD 1
  match b.argTab with
  | none => b.tabBad
  | some t =>
    if b.tabSize t + 16 ≤ i then b.structFail cbFWD
    else
      let b1 := b.maskSlot t i
      let x := b1.tab t
      let e := kgetD x.ents i 0
      b1.done (entWords e ++ [if x.masked.contains i then 2 else b2n (kget x.ents i).isSome])

def Chip.fwdWrite (b0 : Chip) : CmdOut :=
  let i := b0.arg cbFWD 1
  let e0 := b0.argEnt
  match b0.argTab with
  | none => b0.tabBad
  | some t =>
    if b0.tabSize t + 16 ≤ i then b0.structFail cbFWD
    else
      let gone := fun (c : Chip) (old : Option Nat) (key : Option Nat) =>
        if t = 1 ∧ old.isSome ∧ old.map (eKey 1) ≠ key then c.stale else c
      if !eValid t e0 then
        let old := kget (b0.tab t).ents i
        (gone (b0.removeEnt t i) old none).done (entWords (old.getD 0))
      else if b0.entOver t e0 then b0.structFail cbFWD
      else if !b0.entOk t e0 then b0.fail BAD_ARG
      else
        let g := b0.r (tgtFld t)
        let key := eKey t e0
        let b := b0.touch t key
        let x := b.tab t
        let c := b.cands t g key
        let slots := bucketIdx c.1 ++ bucketIdx c.2
        if !(slots.contains i) && decide (i < b.tabSize t) then b.fail BAD_ARG
        else if (b.findEnt t key).any (fun p => p.1 != i) then b.fail EXISTS
        else if slots.any (fun j => x.masked.contains j) then b.fail ECC_FAULT
        else
          let old := kget x.ents i
          let b1 := (b.putEnt t i (some (putBits e0 (genBit t) 1 g))).fwdCounts t
          let b2 := gone (if t = 1 then b1.filtSet key else b1) old (some key)
          b2.done (entWords (old.getD 0))

def Chip.fwdInsert (b : Chip) : CmdOut :=
  match b.argTab with
  | none => b.tabBad
  | some t =>
    let e := b.argEnt
    if eValid t e && b.entOver t e then b.structFail cbFWD
    else if !eValid t e || !b.entOk t e then b.fail BAD_ARG
    else match b.insert t e false with
      | (b1, .refused c) => b1.fail c
      | (b1, .placed i m) => (if t = 1 then b1.filtSet (eKey 1 e) else b1).done [i, m]

def Chip.fwdDelete (b : Chip) : CmdOut :=
  match b.argTab with
  | none => b.tabBad
  | some t => match b.argKey' t with
    | none => b.fail BAD_ARG
    | some key =>
      let b1 := b.touch t key
      match b1.findEnt t key with
      | none => b1.fail NOT_FOUND
      | some (i, _) => (if t = 1 then (b1.removeEnt t i).stale else b1.removeEnt t i).done [i]

def Chip.fwdSearch (b : Chip) : CmdOut :=
  match b.argTab with
  | none => b.tabBad
  | some t => match b.argKey' t with
    | none => b.fail BAD_ARG
    | some key =>
      let b1 := b.touch t key
      if !bit (b.arg cbFWD 1) 0 then
        match b1.findEnt t key with
        | none => b1.fail NOT_FOUND
        | some (i, e) => b1.done ([i + t * 2 ^ 31] ++ entWords e ++ [0, 0])
      else if t ≠ 0 ∨ key % 256 ≠ 0 then b.fail BAD_ARG
      else match b1.findEnt 0 key with
        | some (i, e) => b1.done ([i] ++ entWords e ++ [0, 0])
        | none =>
          match b1.lpmFind (leNat (beBytes (key / 256) 16)) b1.lens 0 0 with
          | (b2, some (i, e), p, k) => b2.done ([i + 2 ^ 31] ++ entWords e ++ [p, k])
          | (b2, none, _, _) => b2.fail NOT_FOUND

def Chip.ageNow (b : Chip) : CmdOut :=
  if b.arg cbFWD 0 ≠ 0 then b.fail BAD_ARG
  else match b.argKey' 0 with
    | none => b.fail BAD_ARG
    | some key =>
      let b1 := b.touch 0 key
      match b1.findEnt 0 key with
      | none => b1.fail NOT_FOUND
      | some (i, e) =>
        if eStatic e then b1.fail WRONG_STATE
        else (b1.ageOne i false).done [b2n (!eHit e)]

/-! REHASH_STEP (R389, R390) -/

/-- The results of a REHASH_STEP. -/
def Chip.rhDone (b : Chip) (t : Nat) : CmdOut := b.done [b.r (leftFld t), b.r (cursorFld t)]

def Chip.rehashStart (b : Chip) : CmdOut :=
  match b.argTab with
  | none => b.tabBad
  | some t =>
    if b.t (rhFld t) then b.fail WRONG_STATE
    else
      let g := 1 - b.r (tgtFld t)
      let b1 := (b.w (seedFld t g 0) (b.arg cbFWD 2)).w (seedFld t g 1) (b.arg cbFWD 3)
      ((((b1.w (tgtFld t) g).wb (rhFld t) true).w (cursorFld t) 0).fwdCounts t).rhDone t

/-- Re-insert one bucket's entries. -/
def Chip.rhBucket (b : Chip) (t k : Nat) : Chip :=
  (bucketIdx k).foldl (fun (c : Chip) i =>
    match kget (c.tab t).ents i with
    | none => c
    | some e =>
      if (c.tab t).hidden i then c.maskSlot t i
      else if eGen t e = c.r (tgtFld t) then c
      else match c.insert t e true with
        | (c1, .placed _ _) => c1.removeEnt t i
        | (c1, .refused _) => c1) b

def Chip.rhMoves (b : Chip) (t n : Nat) : Chip :=
  match n with
  | 0 => b
  | m + 1 =>
    let k := b.r (cursorFld t)
    ((b.rhBucket t k).w (cursorFld t) (if k + 1 < b.tabNB t then k + 1 else 0)).rhMoves t m

def Chip.rehashMove (b : Chip) : CmdOut :=
  let n := b.arg cbFWD 2
  match b.argTab with
  | none => b.tabBad
  | some t =>
    if n = 0 ∨ 4096 < n then b.fail BAD_LENGTH
    else if !b.t (rhFld t) then b.fail WRONG_STATE
    else ((b.rhMoves t n).fwdCounts t).rhDone t

def Chip.rehashFinish (b : Chip) : CmdOut :=
  match b.argTab with
  | none => b.tabBad
  | some t =>
    if !b.t (rhFld t) || b.r (leftFld t) != 0 then b.fail WRONG_STATE
    else
      let b1 := (b.wb (rhFld t) false).fwdCounts t
      (b1.raise Src.FWD N.REHASH_DONE (argB t (b1.r (tgtFld t)) 0 0 (b1.tab t).ents.length)).rhDone t

def Chip.rehashRevert (b : Chip) : CmdOut :=
  match b.argTab with
  | none => b.tabBad
  | some t =>
    if !b.t (rhFld t) then b.fail WRONG_STATE
    else (((b.w (tgtFld t) (1 - b.r (tgtFld t))).w (cursorFld t) 0).fwdCounts t).rhDone t

def Chip.refilter (b : Chip) : CmdOut :=
  match b.argTab with
  | none => b.tabBad
  | some t =>
    if t = 0 then b.fail BAD_ARG
    else if b.t (rhFld t) then b.fail WRONG_STATE
    else
      let l := b.lens
      (Chip.wb { b with fwd := { b.fwd with refil := l } } Reg.FWD_REFILTERING (!l.isEmpty)).rhDone t

end Sys2Proof.Machine
end

