-- ==== Sys2Proof/Machine/Tmg.lean ====
section
/-!
DEFINITION. TMG: the scheduler tree, deficit round robin, time gates and latency windows (R429 to R444).
-/
namespace Sys2Proof.Machine

/-- The key of a scheduler node among the children. -/
def nodeKey (n : Nat) : Nat := 0x10000 + n

def Chip.child (b : Chip) (k : Nat) : Child := kgetD b.tmg.child k {}
def Chip.putChild (b : Chip) (k : Nat) (c : Child) : Chip :=
  { b with tmg := { b.tmg with child := kset {} b.tmg.child k c } }

/-- The record of a scheduler node (R53). -/
def Chip.schedRec (b : Chip) (n : Nat) : Option SchedNode := b.pat.sched.find? (·.id == n)

/-- The parent node of a child; 0xFFFF for none. -/
def Chip.parentOf (b : Chip) (k : Nat) : Nat :=
  if k < 0x10000 then b.qParent k
  else match b.schedRec (k - 0x10000) with
    | some r => r.parent
    | none => 0xFFFF

/-- The port of a scheduler node, and of a scheduled queue. -/
def Chip.nodePort (b : Chip) (n : Nat) : Nat := match b.schedRec n with
  | some r => r.port
  | none => 0
def Chip.qPort (b : Chip) (q : Nat) : Nat := b.nodePort (b.qParent q)

/-- The root of a port (R430). -/
def Chip.portRoot (b : Chip) (p : Nat) : Option Nat :=
  (b.pat.sched.find? (fun r => r.parent == 0xFFFF && r.port == p)).map (·.id)

/-! ### Charged lengths and rates (R429, R432) -/

/-- The line rate of an Ethernet port in Mbit/s (R549). -/
def Chip.lineMbps (b : Chip) (p : Nat) : Nat :=
  match b.r (Reg.ETH_MODE p) with
  | 0 => 10000
  | 1 => 2500
  | 3 => if b.t (Reg.ETH_AN_EN p) then
      (match b.r (Reg.ETH_SGMII_SPEED p) with
        | 0 => 10
        | 1 => 100
        | _ => 1000)
    else 1000
  | _ => 1000

/-- Octets of a frame as it leaves an Ethernet port, from the destination address to the FCS: a short one is padded to IEEE 802.3's least
length (PRESUMED, log entry 108). -/
def ethOctets (n : Nat) : Nat := max 64 (n + 4)
/-- The charged length of an item at a port (R432): an open item is charged its declared size. -/
def Chip.charged (b : Chip) (p : Nat) (i : Item) : Nat :=
  let n := if i.closed then i.len else i.size
  let o : Int := (if p < 2 then ethOctets n else n : Nat) + b.rs (Reg.TMG_OVERHEAD p)
  if o < 1 then 1 else o.toNat

/-- The transmission time of a charged length on an Ethernet port, in ns (R437). -/
def Chip.txNs (b : Chip) (p len : Nat) : Nat := cdiv (len * 8000) (b.lineMbps p)

/-! ### Gates (R436, R437) -/

def gateOf (e : Nat) : Nat := bits e 0 8
def intervalNs (e : Nat) : Nat := bits e 8 24 * 4

/-- The entry in force at an offset within the cycle, and the ns it still lasts (R436). -/
def gateWalk (l : List Nat) (idx off left : Nat) : Nat × Nat :=
  match l with
  | [] => (idx - 1, left)
  | [_] => (idx, left)
  | e :: t => if off < intervalNs e then (idx, min (intervalNs e - off) left) else gateWalk t (idx + 1) (off - intervalNs e) left

/-- The entry in force at a network time in ns, and the ns until it ends. -/
def GateList.pos (g : GateList) (t : Nat) : Nat × Nat :=
  let off := (t + (g.cycle - g.base % g.cycle)) % g.cycle
  gateWalk g.entries 0 off (g.cycle - off)

def Chip.gates (b : Chip) (p : Nat) : GateList := kgetD b.tmg.oper p {}

/-- The takeover already scheduled on a port: one whose instant is still to come, or whose list is loaded (R437, R440). -/
def Chip.swapDue (b : Chip) (p : Nat) : Option GateSwap :=
  (kget b.tmg.swap p).filter (fun (s : GateSwap) => s.loaded || decide (b.nowNs < s.takeover))
/-- The list in force at a later time, a scheduled takeover counted (R437). -/
def Chip.gatesAt (b : Chip) (p t : Nat) : GateList :=
  match b.swapDue p with
  | some s => if s.takeover ≤ t then s.list else b.gates p
  | none => b.gates p

/-- The entries of a list as they run in one cycle: gates and ns (R436). -/
def cycleRuns (l : List Nat) (left : Nat) : List (Nat × Nat) :=
  match l with
  | [] => []
  | [e] => [(gateOf e, left)]
  | e :: t => if intervalNs e < left then (gateOf e, intervalNs e) :: cycleRuns t (left - intervalNs e) else [(gateOf e, left)]
/-- A list never closes gate `k`. -/
def GateList.ever (g : GateList) (k : Nat) : Bool := (cycleRuns g.entries g.cycle).all (fun e => bit e.1 k)
/-- A window without an end. -/
def openEver : Nat := 2 ^ 64

/-- How long gate `k` stays open from a time, in ns, under the list in force and then the scheduled one; `fuel` bounds the entries passed. -/
def Chip.openFor (b : Chip) (p k t acc fuel : Nat) : Nat :=
  match fuel with
  | 0 => acc
  | f + 1 =>
    let g := b.gatesAt p t
    let e := g.pos t
    let next := ((b.swapDue p).filter (fun s => decide (t < s.takeover))).map (fun s => s.takeover - t)
    if g.ever k then
      match next with
      | some n => b.openFor p k (t + n) (acc + n) f
      | none => openEver
    else if bit (gateOf (g.entries.getD e.1 0)) k then
      let left := min e.2 (next.getD e.2)
      b.openFor p k (t + left) (acc + left) f
    else acc

/-- The gate test of an item on a port (R437): open now, and until its transmission ends. A window spans at most the entries of two lists, each
begun and ended within a cycle. -/
def Chip.gateTest (b : Chip) (p k : Nat) (i : Item) : Bool :=
  if 2 ≤ p || !b.t (Reg.TMG_GATE_EN p) then true
  else
    let n := b.openFor p k b.nowNs 0 1100
    decide (0 < n) && decide (b.txNs p (b.charged p i) ≤ n)

/-- The longest run of open time of a class in a list, one window across the cycle end counted whole (R438). -/
def windowRun (k : Nat) (l : List (Nat × Nat)) (cur best : Nat) : Nat :=
  match l with
  | [] => max cur best
  | (g, n) :: t => if bit g k then windowRun k t (cur + n) best else windowRun k t 0 (max cur best)

/-- The longest open window of a class in a list (R438). -/
def GateList.window (g : GateList) (k : Nat) : Nat :=
  if g.ever k then openEver
  else
    let r := cycleRuns g.entries g.cycle
    windowRun k (r ++ r) 0 0

/-! ### Eligibility and staging (R431 to R434) -/

/-- The item a queue offers TMG; one whose open item is being sent offers the item behind it. -/
def Chip.qOffers (b : Chip) (q : Nat) : Option Item :=
  if (b.q q).consumer = CONS_SCHED && (!(b.q q).hasTaken noNode || b.tmg.cut.any (fun e => e.1 == q)) then b.presents q noNode else none

/-- A queue is eligible (R431). -/
def Chip.qEligible (b : Chip) (q : Nat) : Bool :=
  match b.qOffers q with
  | some i => b.gateTest (b.qPort q) (b.child q).cls i
  | none => false

/-- A child is eligible: a scheduler node, when it holds a staged item. -/
def Chip.eligible (b : Chip) (k : Nat) : Bool :=
  if k < 0x10000 then b.qEligible k else (kget b.tmg.staged (k - 0x10000)).isSome

/-- The queue and item that a child would send next. -/
def Chip.childItem (b : Chip) (k : Nat) : Option (Nat × Item) :=
  if k < 0x10000 then (b.qOffers k).map (fun i => (k, i))
  else
    match kget b.tmg.staged (k - 0x10000) with
    | some (_, q, id) => ((b.q q).find id).map (fun i => (q, i))
    | none => none

/-- Bring a child's place on its parent's active list in line with its eligibility (R431). -/
def Chip.childFresh (b : Chip) (m k : Nat) : Chip :=
  let l := kgetD b.tmg.active m []
  if b.eligible k then
    if l.contains k then b
    else
      Chip.putChild { b with tmg := { b.tmg with active := kput b.tmg.active m (l ++ [k]) } } k { b.child k with deficit := 0 }
  else if l.contains k then
    let t := { b.tmg with active := kput b.tmg.active m (l.filter (· != k)),
                          turn := if l.head? = some k then b.tmg.turn.filter (· != m) else b.tmg.turn }
    Chip.putChild { b with tmg := t } k { b.child k with deficit := 0 }
  else b

/-- Choose the staged item of a scheduler node (R433, R434); each turn of the loop gives one child its turn. -/
def Chip.stage' (b : Chip) (m fuel : Nat) : Chip :=
  match fuel with
  | 0 => b
  | f + 1 =>
    match kgetD b.tmg.active m [] with
    | [] => b
    | k :: t =>
      if !b.eligible k then (b.childFresh m k).stage' m f else
      let c := b.child k
      let c1 := if b.tmg.turn.contains m then c else { c with deficit := c.deficit + c.quantum }
      let b1 := b.putChild k c1
      match b1.childItem k with
      | none => b1
      | some (q, i) =>
        if b1.charged (b1.nodePort m) i ≤ c1.deficit then
          { b1 with tmg := { b1.tmg with turn := m :: b1.tmg.turn.filter (· != m), staged := kput b1.tmg.staged m (k, q, i.id) } }
        else
          Chip.stage' { b1 with tmg := { b1.tmg with active := kput b1.tmg.active m (t ++ [k]), turn := b1.tmg.turn.filter (· != m) } } m f

/-- The staged item of a node can still be sent (R434). -/
def Chip.stagedOk (b : Chip) (m : Nat) : Bool :=
  match kget b.tmg.staged m with
  | none => true
  | some (_, q, id) =>
    match (b.q q).find id with
    | none => false
    | some i => !i.taken && b.offered q i && (b.q q).consumer == CONS_SCHED && b.gateTest (b.qPort q) (b.child q).cls i

/-- Unstage what has lost eligibility, and stage where nothing is staged. -/
def Chip.restage (b : Chip) (m : Nat) : Chip :=
  let b1 := if b.stagedOk m then b else { b with tmg := { b.tmg with staged := kdel b.tmg.staged m } }
  match kget b1.tmg.staged m with
  | some _ => b1
  | none => b1.stage' m (600 * ((kgetD b1.tmg.active m []).length + 1))

/-- Follow a change of a child up to the port root (R431, R434). -/
def Chip.up (b : Chip) (k fuel : Nat) : Chip :=
  match fuel with
  | 0 => b
  | f + 1 =>
    let m := b.parentOf k
    if m = 0xFFFF then b
    else ((b.childFresh m k).restage m).up (nodeKey m) f

/-- A gate wait is counted once (R437). -/
def Chip.gateHold (b : Chip) (q : Nat) : Chip :=
  match b.qOffers q with
  | none => { b with tmg := { b.tmg with held := b.tmg.held.filter (· != q) } }
  | some i =>
    if b.gateTest (b.qPort q) (b.child q).cls i then { b with tmg := { b.tmg with held := b.tmg.held.filter (· != q) } }
    else if b.tmg.held.contains q then b
    else Chip.inc { b with tmg := { b.tmg with held := q :: b.tmg.held } } (Reg.TMG_GATE_HOLD (b.qPort q))

/-- The per-stitch count of GATE_TOO_LONG by port (R438). -/
def kTooLong (p : Nat) : Nat := N.GATE_TOO_LONG * 2 ^ 16 + p
/-- The longest window that a class has on a port, under the list in force or the scheduled one (R438; log entry 128). -/
def Chip.classWindow (b : Chip) (p k : Nat) : Nat :=
  max ((b.gates p).window k) (((b.swapDue p).map (fun s => s.list.window k)).getD 0)
/-- Discard items at the head of a queue that can never pass their class's window (R438). -/
def Chip.tooLong (b : Chip) (q fuel : Nat) : Chip :=
  match fuel with
  | 0 => b
  | f + 1 =>
    match b.qOffers q with
    | none => b
    | some i =>
      let p := b.qPort q
      let k := (b.child q).cls
      let w := b.classWindow p k
      if 2 ≤ p || !b.t (Reg.TMG_GATE_EN p) || w == 0 || decide (b.txNs p (b.charged p i) ≤ w) then b
      else
        let b1 := ((b.dropRest q i.id).inc (Reg.TMG_GATE_TOO_LONG p)).note (kTooLong p) 1
        let first := if (kget b1.tmg.tooLong p).isSome then b1.tmg.tooLong else kput b1.tmg.tooLong p k
        Chip.tooLong { b1 with tmg := { b1.tmg with tooLong := first } } q f
/-- A queue's items, its settings or its gate have changed. -/
def Chip.tmgQ (b : Chip) (q : Nat) : Chip :=
  if b.qParent q = 0xFFFF then b else ((b.tooLong q ((b.q q).items.length + 1)).gateHold q).up q 6

/-- Every scheduled queue of a port is judged again. -/
def Chip.tmgPort (b : Chip) (p : Nat) : Chip :=
  (List.range b.pat.queueCount).foldl (fun c q => if c.qParent q ≠ 0xFFFF ∧ c.qPort q = p then c.tmgQ q else c) b

/-- Charge an item to every child on its path (R434). -/
def Chip.charge (b : Chip) (k len fuel : Nat) : Chip :=
  match fuel with
  | 0 => b
  | f + 1 =>
    let m := b.parentOf k
    if m = 0xFFFF then b
    else
      let c := b.child k
      let b1 := b.putChild k { c with deficit := c.deficit - len }
      Chip.charge { b1 with tmg := { b1.tmg with staged := kdel b1.tmg.staged m } } (nodeKey m) len f

/-- Give the difference back along the path (R432). -/
def Chip.refund (b : Chip) (k len fuel : Nat) : Chip :=
  match fuel with
  | 0 => b
  | f + 1 =>
    let m := b.parentOf k
    if m = 0xFFFF then b
    else (b.putChild k { b.child k with deficit := (b.child k).deficit + len }).refund (nodeKey m) len f

/-- The port's output can accept an item (R429). -/
def Chip.portOpen (b : Chip) (p : Nat) : Bool :=
  !b.limp && (if p = 2 then bit (b.r Reg.SVC_RUNNING) 0 else b.t (Reg.ETH_LINK p) && b.t (Reg.ETH_EN p) && !b.t (Reg.ETH_HELD p))

/-- An item that was taken open is still being sent: a port sends one item at a time (R429). -/
def Chip.sending (b : Chip) (p : Nat) : Bool := b.tmg.cut.any (fun e => b.qPort e.1 == p)
/-- Where gates run, what is eligible follows the time (R431, R437). -/
def Chip.rejudge (b : Chip) (p : Nat) : Chip := if p < 2 && b.t (Reg.TMG_GATE_EN p) then b.tmgPort p else b
/-- A port sends its root's staged item: the item taken and charged, and the path staged again (R434); an item with ECC set is dropped
unsent (R419). -/
def Chip.dequeue (b : Chip) (p : Nat) : Chip × Option (Nat × Item) :=
  match b.portRoot p with
  | none => (b, none)
  | some m =>
    if !b.portOpen p ∨ b.sending p then (b, none)
    else
      let b := b.rejudge p
      match kget b.tmg.staged m with
      | none => (b, none)
      | some (_, q, id) =>
        match (b.q q).find id with
        | none => (b, none)
        | some i =>
          if i.ecc then ((b.dropRest q id).tmgQ q, none) else
          let len := b.charged p i
          let b1 := b.putQ q ((b.q q).modItem id (fun i => { i with taken := true }))
          let b2 := b1.charge q len 6
          let b3 := (b2.inc (Reg.TMG_ITEMS_SENT p)).add (Reg.TMG_OCTETS_CHARGED p) len
          if i.closed then ((b3.releaseItem q id).tmgQ q, some (q, i))
          else (Chip.tmgQ { b3 with tmg := { b3.tmg with cut := (q, id, len) :: b3.tmg.cut } } q, none)

/-- An item that was sent while open has closed: the difference goes back and the item is released (R432). -/
def Chip.cutClose (b : Chip) (q id : Nat) : Chip × Option Item :=
  match b.tmg.cut.find? (fun e => e.1 == q && e.2.1 == id), (b.q q).find id with
  | some e, some i =>
    let b1 := b.refund q (e.2.2 - b.charged (b.qPort q) i) 6
    let b2 := { b1 with tmg := { b1.tmg with cut := b1.tmg.cut.filter (fun e => !(e.1 == q && e.2.1 == id)) } }
    ((b2.releaseItem q id).tmgQ q, some i)
  | _, _ => (b, none)

/-! ### Gate lists in time (R436 to R441) -/

/-- The gates open now and the entry in force, in the port's registers. -/
def Chip.gateShow (b : Chip) (p : Nat) : Chip :=
  let g := b.gates p
  let e := g.pos b.nowNs
  (b.w (Reg.TMG_GATE_STATE p) (if b.t (Reg.TMG_GATE_EN p) then gateOf (g.entries.getD e.1 0) else 0xFF)).w (Reg.TMG_ENTRY p) e.1

/-- Put a list in force (R439). -/
def Chip.gatePut (b : Chip) (p : Nat) (s : GateSwap) : Chip :=
  let b1 := { b with tmg := { b.tmg with oper := kput b.tmg.oper p s.list, swap := kdel b.tmg.swap p } }
  let b2 := ((b1.wb (Reg.TMG_SWITCH_PEND p) false).w (Reg.TMG_OPER_LEN p) s.list.entries.length).w (Reg.TMG_OPER_CYCLE_NS p) s.list.cycle
  let b3 := (b2.inc (Reg.TMG_GATE_SWITCHES p)).raise Src.TMG N.GATE_SWITCH (argB p s.list.entries.length 0 0 (s.takeover % 1000000000))
  (b3.gateShow p).tmgPort p

/-- The takeover instant arrives (R439, R440). -/
def Chip.gateTake (b : Chip) (p : Nat) : Chip :=
  match kget b.tmg.swap p with
  | none => b
  | some s =>
    let b1 := if b.nowNs < s.takeover then b.passTo (s.takeover * nsU) else b
    if b1.nowNs < s.takeover then b
    else if s.loaded then b1.gatePut p s
    else { b1 with tmg := { b1.tmg with swap := kput b1.tmg.swap p { s with late := true } } }

/-- The pending takeover's registers (R444). -/
def Chip.takeoverShow (b : Chip) (p t : Nat) : Chip :=
  ((b.w (Reg.TMG_TAKEOVER_NS p) (t % 1000000000)).w (Reg.TMG_TAKEOVER_SEC_LO p) (t / 1000000000)).w (Reg.TMG_TAKEOVER_SEC_HI p)
    (t / 1000000000 / 2 ^ 32)

/-- The gate-list load of a stitch finishes (R440): a list whose takeover instant has passed is late and takes over at its next cycle start. -/
def Chip.gateLoad (b : Chip) (p : Nat) : Chip :=
  match kget b.tmg.swap p with
  | none => b
  | some s =>
    if s.loaded then b
    else if s.late || decide (s.takeover < b.nowNs) then
      let t := s.list.base + cdiv (b.nowNs + 1 - s.list.base) s.list.cycle * s.list.cycle
      let b1 := { b with tmg := { b.tmg with swap := kput b.tmg.swap p { s with loaded := true, takeover := t } } }
      ((b1.takeoverShow p t).inc (Reg.TMG_GATE_LATE p)).raise Src.TMG N.GATE_LATE (argB p LATE 0 0 (t % 1000000000))
    else { b with tmg := { b.tmg with swap := kput b.tmg.swap p { s with loaded := true } } }

/-- An entry's interval ends (R436). -/
def Chip.gateNext (b : Chip) (p : Nat) : Chip :=
  if 2 ≤ p then b
  else
    let e := (b.gates p).pos b.nowNs
    let b1 := b.passTo ((b.nowNs + e.2) * nsU)
    (b1.gateShow p).tmgPort p

/-- After a discontinuity each port takes its position from the new time, and a takeover now past is applied (R441). -/
def Chip.gateJump (b : Chip) (p : Nat) : Chip :=
  let b1 := match kget b.tmg.swap p with
    | some s => if s.loaded ∧ s.takeover ≤ b.nowNs then b.gatePut p s else b
    | none => b
  (b1.gateShow p).tmgPort p

/-! ### Depth and sojourn (R442) -/

def Stat.one (v : Nat) : Stat := ⟨v, v, v⟩
def Stat.more (s : Stat) (v : Nat) : Stat := ⟨min s.mn v, max s.mx v, s.sum + v⟩

/-- The sojourn of a queue's head item in µs. -/
def Chip.sojourn (b : Chip) (q : Nat) : Nat :=
  if (b.q q).consumer = CONS_SCHED ∨ (b.q q).consumer = CONS_HOST then
    match (b.q q).items.head? with
    | some i => min ((b.nowNs - i.openNs) / 1000) (2 ^ 32 - 1)
    | none => 0
  else 0

/-- What a boundary finds in a queue. -/
def Chip.latSample (b : Chip) (q : Nat) : LatSample := ⟨q, (b.q q).octets, (b.q q).items.length, b.sojourn q⟩
/-- Accumulate one sample of one queue. -/
def Chip.latOne (b : Chip) (s : LatSample) : Chip :=
  if b.pat.queueCount ≤ s.queue then b else
  let w := match kget b.tmg.lat s.queue with
    | none => { n := 1, depth := Stat.one s.depth, items := Stat.one s.items, soj := Stat.one s.soj : LatWin }
    | some w => { n := w.n + 1, depth := w.depth.more s.depth, items := w.items.more s.items, soj := w.soj.more s.soj }
  { b with tmg := { b.tmg with lat := kput b.tmg.lat s.queue w } }

/-- The window's statistics become the last complete window, with the stitch that ended it; a window that still waits for frozen samples is not
complete (R442). -/
def Chip.latClose (b : Chip) (stitch : Nat) : Chip :=
  if !b.tmg.winDue || !b.tmg.frozen.isEmpty then b
  else
    let last := b.tmg.lat.foldl (fun m e => kput m e.1 (stitch % 2 ^ 32, e.2)) b.tmg.last
    { b with tmg := { b.tmg with last := last, lat := [], winDue := false } }

/-! ### The command block (R443) -/

/-- The child that ARG0 and ARG1 name. -/
def Chip.argChild (b : Chip) : Option Nat :=
  let i := b.arg cbTMG 1
  match b.arg cbTMG 0 with
  | 0 => if i < b.pat.queueCount then some i else none
  | 1 => if i < b.pat.sched.length then some (nodeKey i) else none
  | _ => none

def Chip.setChild (b : Chip) : CmdOut :=
  let qn := b.arg cbTMG 2
  match b.argChild with
  | none => if 1 < b.arg cbTMG 0 then b.fail BAD_ARG else b.structFail cbTMG
  | some k =>
    if qn < 64 ∨ 65535 < qn then b.fail BAD_ARG
    else if k < 0x10000 ∧ b.qParent k = 0xFFFF then b.fail BAD_ARG
    else
      let c := b.child k
      let b1 := b.putChild k { c with quantum := qn, cls := if k < 0x10000 then bits (b.arg cbTMG 3) 0 3 else c.cls }
      CmdOut.mk (if k < 0x10000 then b1.tmgQ k else b1) OK [c.quantum]

def Chip.readChild (b : Chip) : CmdOut :=
  match b.argChild with
  | none => if 1 < b.arg cbTMG 0 then b.fail BAD_ARG else b.structFail cbTMG
  | some k =>
    let m := b.parentOf k
    let b := if m = 0xFFFF then b else b.rejudge (b.nodePort m)
    let c := b.child k
    let l := kgetD b.tmg.active m []
    let staged := match kget b.tmg.staged m with
      | some s => s.1 == k
      | none => false
    b.done [c.quantum, c.deficit,
      b2n (l.contains k) + 2 * b2n (l.head? == some k && b.tmg.turn.contains m) + 4 * b2n staged, c.cls]

def Chip.gateWrite (b : Chip) : CmdOut :=
  let p := b.arg cbTMG 0
  let first := b.arg cbTMG 1
  let n := b.arg cbTMG 2
  let words := ((b.args cbTMG).drop 3).take n
  if 2 ≤ p then b.structFail cbTMG
  else if 255 < first then b.fail BAD_ARG
  else if n = 0 ∨ 12 < n ∨ 256 < first + n then b.fail BAD_LENGTH
  else if words.any (fun e => intervalNs e == 0) then b.fail BAD_ARG
  else if b.t (Reg.TMG_SWITCH_PEND p) then b.fail WRONG_STATE
  else
    let a := (List.range n).foldl (fun m i => kput m (p * 256 + first + i) (words.getD i 0)) b.tmg.admin
    Chip.done { b with tmg := { b.tmg with admin := a } } [n]

/-- An admin entry; one never written reads as the reset entry of the operational list (log entry 24). -/
def Chip.adminEntry (b : Chip) (p i : Nat) : Nat := kgetD b.tmg.admin (p * 256 + i) (0xFF + 250000 * 256)

def Chip.gateCommit (b : Chip) : CmdOut :=
  let p := b.arg cbTMG 0
  let len := b.arg cbTMG 1
  let cyc := b.arg cbTMG 2
  let ns := b.arg cbTMG 3
  let base := (b.arg cbTMG 4 + b.arg cbTMG 5 % 2 ^ 16 * 2 ^ 32) * 1000000000 + ns
  if 2 ≤ p then b.structFail cbTMG
  else if cyc < 1000 ∨ 1000000000 < cyc ∨ 999999999 < ns then b.fail BAD_ARG
  else if len = 0 ∨ 256 < len then b.fail BAD_LENGTH
  else if b.t (Reg.TMG_SWITCH_PEND p) then b.fail WRONG_STATE
  else
    let t := if b.nowNs < base then base else base + cdiv (b.nowNs + 500000 - base) cyc * cyc
    let s : GateSwap := { list := { entries := (List.range len).map (b.adminEntry p), cycle := cyc, base := base }, takeover := t, loaded := false }
    let b1 := Chip.wb { b with tmg := { b.tmg with swap := kput b.tmg.swap p s } } (Reg.TMG_SWITCH_PEND p) true
    (b1.takeoverShow p t).done [t % 1000000000, t / 1000000000 % 2 ^ 32, t / 1000000000 / 2 ^ 32]

def Chip.gateCancel (b : Chip) : CmdOut :=
  let p := b.arg cbTMG 0
  if 2 ≤ p then b.structFail cbTMG
  else if !b.t (Reg.TMG_SWITCH_PEND p) then b.fail WRONG_STATE
  else (Chip.wb { b with tmg := { b.tmg with swap := kdel b.tmg.swap p } } (Reg.TMG_SWITCH_PEND p) false).done []

def Chip.gateRead (b : Chip) : CmdOut :=
  let p := b.arg cbTMG 0
  let w := b.arg cbTMG 1
  let i := b.arg cbTMG 2
  if 2 ≤ p then b.structFail cbTMG
  else if 1 < w ∨ 255 < i then b.fail BAD_ARG
  else if w = 0 then
    let g := b.gates p
    b.done [g.entries.getD i 0, g.entries.length, g.cycle]
  else
    match kget b.tmg.swap p with
    | some s => b.done [b.adminEntry p i, s.list.entries.length, s.list.cycle]
    | none => b.done [b.adminEntry p i, 0, 0]

def Chip.readLat (b : Chip) : CmdOut :=
  let q := b.arg cbTMG 0
  if b.pat.queueCount ≤ q then b.structFail cbTMG
  else
    match kget b.tmg.last q with
    | none => b.fail NOT_FOUND
    | some (st, w) =>
      let f := fun (s : Stat) => [s.mn, s.mx, s.sum / w.n]
      b.done ([st, w.n] ++ f w.depth ++ f w.items ++ f w.soj)

end Sys2Proof.Machine
end

