-- ==== Sys2Proof/Machine/NodeCtx.lean ====
section
/-!
DEFINITION. The node context (R294): 256 octets held as one number, octet 0 in its lowest octet, and its fields by bit
position and width.
-/
namespace Sys2Proof.Machine

/-- A field of the node context: its lowest bit, its width, and whether the host may write it. -/
structure CxF where
  pos : Nat
  w : Nat
  h : Bool := false

namespace Cx
def STATE : CxF := ⟨0, 4, false⟩
def JOINED : CxF := ⟨4, 1, false⟩
def REACH : CxF := ⟨8, 2, true⟩
def FALLBACK : CxF := ⟨10, 2, true⟩
def REF_GRADE : CxF := ⟨12, 1, true⟩
def LEGACY : CxF := ⟨13, 1, true⟩
def UNSEC_OK : CxF := ⟨14, 1, true⟩
def CACHE_PIN : CxF := ⟨15, 1, true⟩
def DRIFT_CLASS : CxF := ⟨16, 3, true⟩
def PHASE_VALID : CxF := ⟨19, 1, false⟩
def BAND : CxF := ⟨20, 2, false⟩
def ALLOWED_LANES : CxF := ⟨24, 7, true⟩
def PARENT : CxF := ⟨32, 17, true⟩
def PREAMBLE : CxF := ⟨56, 8, true⟩
def EUI64 : CxF := ⟨64, 64, false⟩
def SHORT_ADDR : CxF := ⟨128, 16, false⟩
def DL_QUEUE : CxF := ⟨144, 13, true⟩
def DL_COUNT : CxF := ⟨160, 8, false⟩
def MAX_RETRIES : CxF := ⟨168, 4, true⟩
def RETRY_NOW : CxF := ⟨172, 4, false⟩
def INSTALL_POCKET : CxF := ⟨176, 12, true⟩
def KEY_EPOCH : CxF := ⟨192, 32, false⟩
def KEY_INDEX : CxF := ⟨224, 8, false⟩
def SEC_LEVEL_MIN : CxF := ⟨232, 3, true⟩
def LAST_CONTACT : CxF := ⟨256, 32, false⟩
def X_US : CxF := ⟨288, 24, false⟩
def G_US : CxF := ⟨320, 16, false⟩
def SAMPLE_MS : CxF := ⟨336, 16, true⟩
def PHASE_STITCH : CxF := ⟨352, 32, false⟩
def PHASE_US : CxF := ⟨384, 8, false⟩
def LOST_SF : CxF := ⟨400, 16, false⟩
def CFO_PPB : CxF := ⟨416, 24, false⟩
def RSSI_AVG : CxF := ⟨448, 16, false⟩
def SINR_AVG : CxF := ⟨464, 16, false⟩
def TC_LAST : CxF := ⟨480, 12, false⟩
def MODE_MASK : CxF := ⟨512, 16, true⟩
def TX_MODE_BIT : CxF := ⟨528, 4, false⟩
def TX_FEC : CxF := ⟨532, 1, true⟩
def TX_MCS : CxF := ⟨536, 3, false⟩
def MCS_MIN : CxF := ⟨544, 3, true⟩
def MCS_MAX : CxF := ⟨548, 3, true⟩
def ADAPT_EN : CxF := ⟨551, 1, true⟩
def UP_RUN : CxF := ⟨552, 8, false⟩
def DOWN_RUN : CxF := ⟨560, 8, false⟩
def POWER : CxF := ⟨576, 16, true⟩
def WAKE_LEN : CxF := ⟨592, 7, true⟩
def WAKE_PATTERN : CxF := ⟨608, 64, true⟩
def RX_FC : CxF := ⟨768, 32, false⟩
def RX_SEQ : CxF := ⟨800, 8, false⟩
def RX_VALID : CxF := ⟨808, 1, false⟩
def RX_SEQ_NONE : CxF := ⟨809, 1, false⟩
def RX_STITCH : CxF := ⟨832, 32, false⟩
def NBR_COUNT : CxF := ⟨1024, 5, true⟩
def RX_FRAMES : CxF := ⟨1536, 32, false⟩
def RX_DUP : CxF := ⟨1568, 32, false⟩
def RX_REPLAY : CxF := ⟨1600, 32, false⟩
def RX_AUTH_FAIL : CxF := ⟨1632, 32, false⟩
def TX_FRAMES : CxF := ⟨1664, 32, false⟩
def TX_NOACK : CxF := ⟨1696, 32, false⟩
def TX_DROPPED : CxF := ⟨1728, 16, false⟩
def LOST_ENTRIES : CxF := ⟨1744, 16, false⟩
def ADMIT_STITCH : CxF := ⟨1760, 32, false⟩
/-- An entry of the neighbour set. -/
def NBR (i : Nat) : CxF := ⟨1056 + 24 * i, 17, true⟩
/-- A word of HOST_TAG. -/
def TAG (i : Nat) : CxF := ⟨1920 + 32 * i, 32, true⟩
/-- The host-writable fields. -/
def hostFields : List CxF :=
  [REACH, FALLBACK, REF_GRADE, LEGACY, UNSEC_OK, CACHE_PIN, DRIFT_CLASS, ALLOWED_LANES, PARENT, PREAMBLE] ++
  [DL_QUEUE, MAX_RETRIES, INSTALL_POCKET, SEC_LEVEL_MIN, SAMPLE_MS, MODE_MASK, TX_FEC, MCS_MIN, MCS_MAX, ADAPT_EN] ++
  [POWER, WAKE_LEN, WAKE_PATTERN, NBR_COUNT] ++
  (List.range 16).map NBR ++ (List.range 4).map TAG
end Cx

/-- A field of a context. -/
def cx (c : Nat) (f : CxF) : Nat := bits c f.pos f.w
/-- A context with a field written. -/
def cxPut (c : Nat) (f : CxF) (v : Nat) : Nat := putBits c f.pos f.w v

/-- A node's context; a node never admitted has the zero context, EMPTY. -/
def Chip.node (b : Chip) (n : Nat) : Nat := kgetD b.mac.nodes n 0
/-- A field of a node's context. -/
def Chip.nd (b : Chip) (n : Nat) (f : CxF) : Nat := cx (b.node n) f
/-- Put a node's context. -/
def Chip.putNode (b : Chip) (n c : Nat) : Chip := { b with mac := { b.mac with nodes := kset 0 b.mac.nodes n c } }
/-- Write a field of a node's context. -/
def Chip.ndw (b : Chip) (n : Nat) (f : CxF) (v : Nat) : Chip := b.putNode n (cxPut (b.node n) f v)
/-- A signed field. -/
def Chip.nds (b : Chip) (n : Nat) (f : CxF) : Int := toS (b.nd n f) f.w
/-- Write a signed field. -/
def Chip.ndws (b : Chip) (n : Nat) (f : CxF) (i : Int) : Chip := b.ndw n f (ofS i f.w)
/-- Add to a saturating field. -/
def Chip.ndAdd (b : Chip) (n : Nat) (f : CxF) (k : Nat) : Chip := b.ndw n f (satAdd f.w (b.nd n f) k)

/-! Node states (R294) -/
abbrev NS.EMPTY : Nat := 0
abbrev NS.ADMITTED : Nat := 1
abbrev NS.JOINING : Nat := 2
abbrev NS.SYNCED : Nat := 3
abbrev NS.DRIFTING : Nat := 4
abbrev NS.LOST : Nat := 5
abbrev NS.SUSPENDED : Nat := 6
abbrev NS.RETIRED : Nat := 7

/-- A node's state. -/
def Chip.ns (b : Chip) (n : Nat) : Nat := b.nd n Cx.STATE
/-- SYNCED, DRIFTING or LOST. -/
def Chip.linked (b : Chip) (n : Nat) : Bool := decide (3 ≤ b.ns n ∧ b.ns n ≤ 5)

/-- No node, and the device as a parent (R294). -/
abbrev nodeNone : Nat := 0x1FFFF
abbrev parentDev : Nat := 0x1FFFE

/-- The number of octets reversed: an EUI-64 as a number with its first octet on top, from or to the context's order. -/
def rev8 (v : Nat) : Nat := leNat (leBytes v 8).reverse
/-- A node's EUI-64, its first octet on top (R316). -/
def Chip.eui (b : Chip) (n : Nat) : Nat := rev8 (b.nd n Cx.EUI64)
/-- The neighbour set of a node (R270). -/
def Chip.nbrs (b : Chip) (n : Nat) : List Nat := (List.range (min 16 (b.nd n Cx.NBR_COUNT))).map (fun i => b.nd n (Cx.NBR i))

end Sys2Proof.Machine
end

