-- ==== Sys2Proof/Machine/Air.lean ====
section
/-!
DEFINITION. Lanes, channels, columns, groups and PHY modes (R46, R162, R164, R197, R201, R237, R266), and airtime.
-/
namespace Sys2Proof.Machine

/-- The band of a lane code (R197). -/
def laneBand (l : Nat) : Nat := if l = 0 then 0 else if l ≤ 4 then 1 else 2
/-- The radio group, and so the chain, of a lane code (R162, R237). -/
def laneGroup (l : Nat) : Nat := match l with
  | 0 => 0
  | 1 | 2 => 1
  | 3 | 4 => 2
  | _ => 3
/-- The lanes of a group. -/
def groupLanes (g : Nat) : List Nat := match g with
  | 0 => [0]
  | 1 => [1, 2]
  | 2 => [3, 4]
  | _ => [5, 6]
/-- The lanes of a band. -/
def bandLanes (d : Nat) : List Nat := match d with
  | 0 => [0]
  | 1 => [1, 2, 3, 4]
  | _ => [5, 6]
/-- The coexistence set of a group (R162). -/
def coexSet (g : Nat) : Nat := if g = 0 then 0 else if g = 3 then 2 else 1

/-- The channels of a lane (R197). -/
def Chip.laneChans (b : Chip) (l : Nat) : Nat :=
  if l = 0 then 96 else if l ≤ 4 then (if b.pat.mSpacing = 0 then 128 else 64) else 16

/-- A channel's centre in Hz (R46). -/
def Chip.chanHz (b : Chip) (l c : Nat) : Nat :=
  if l = 0 then 169400000 + 12500 * c + 6250
  else if l ≤ 4 then
    let sp := if b.pat.mSpacing = 0 then 200000 else 400000
    b.pat.mCentre.getD (l - 1) 0 * 1000 - 12800000 + sp * c + sp / 2
  else 2405000000 + 5000000 * c

/-- A channel's bandwidth in Hz (R197). -/
def Chip.chanBw (b : Chip) (l : Nat) : Nat :=
  if l = 0 then 12500 else if l ≤ 4 then (if b.pat.mSpacing = 0 then 200000 else 400000) else 5000000

/-- The centre of a chain in Hz (R237). -/
def Chip.chainHz (b : Chip) (c : Nat) : Nat := match c with
  | 0 => 170000000
  | 1 => b.pat.mCentre.getD 0 0 * 1000
  | 2 => b.pat.mCentre.getD 2 0 * 1000
  | _ => 2442500000

/-- Half of a chain's synthesis range in Hz (R237). -/
def chainRange (c : Nat) : Nat := match c with
  | 0 => 620000
  | 1 | 2 => 13000000
  | _ => 40000000

/-- The distance of two numbers. -/
def dist (x y : Nat) : Nat := if x ≤ y then y - x else x - y

/-- A channel outside its chain's span is receive-only (R164). -/
def Chip.rxOnly (b : Chip) (l c : Nat) : Bool :=
  (l == 2 || l == 4) && decide (12800000 < dist (b.chanHz l c) (b.chainHz (laneGroup l)))

/-- A channel the Pattern gives the device. -/
def Chip.chanOk (b : Chip) (l c : Nat) : Bool := b.laneExists l && decide (c < b.laneChans l)

/-- A group is present (R163). -/
def Chip.groupPresent (b : Chip) (g : Nat) : Bool := (groupLanes g).any b.laneExists || b.chainExists g

/-! ### Columns (R266) -/

/-- W, the columns of the Weave. -/
def Chip.cols (b : Chip) : Nat := b.pat.weaveCells / b.sfSlots

/-- The lane and channel of a column below 640. -/
def colLane (c : Nat) : Nat := if c < 96 then 0 else if c < 608 then 1 + (c - 96) / 128 else 5 + (c - 608) / 16
def colChan (c : Nat) : Nat := if c < 96 then c else if c < 608 then (c - 96) % 128 else (c - 608) % 16
/-- The column of a channel. -/
def columnOf (l c : Nat) : Nat := if l = 0 then c else if l ≤ 4 then 96 + 128 * (l - 1) + c else 608 + 16 * (l - 5) + c

/-- A column is usable. -/
def Chip.colOk (b : Chip) (c : Nat) : Bool := decide (c < b.cols ∧ c < 640) && b.chanOk (colLane c) (colChan c)

/-- Two channels overlap: their centres differ by less than the larger bandwidth. -/
def Chip.chanOverlap (b : Chip) (l c l2 c2 : Nat) : Bool :=
  laneBand l == laneBand l2 && decide (dist (b.chanHz l c) (b.chanHz l2 c2) < max (b.chanBw l) (b.chanBw l2))
def Chip.colOverlap (b : Chip) (c c2 : Nat) : Bool := b.chanOverlap (colLane c) (colChan c) (colLane c2) (colChan c2)

/-! ### PHY modes (R201) -/

/-- Modes enabled at a band. -/
def Chip.modes (b : Chip) (d : Nat) : Nat := if d = 0 then b.pat.modesL else if d = 1 then b.pat.modesM else b.pat.modesH
def Chip.modeOn (b : Chip) (d m : Nat) : Bool := decide (m < 8) && bit (b.modes d) m

def mcsOfdm4 : List Nat := [0, 0, 50000, 100000, 150000, 200000, 300000, 400000]
def mcsOfdm3 : List Nat := [0, 50000, 100000, 200000, 300000, 400000, 600000, 800000]
def mcsSinr : List Int := [0, -1, 2, 5, 8, 11, 15, 18]

/-- An OFDM mode. -/
def isOfdm (d m : Nat) : Bool := d == 1 && (m == 5 || m == 6)
/-- An MCS is within its option's range; any other mode has MCS 0. -/
def mcsOk (d m s : Nat) : Bool := if isOfdm d m then decide ((if m = 5 then 2 else 1) ≤ s ∧ s ≤ 7) else s == 0

/-- The rate in bit/s. -/
def bitRate (d m s : Nat) : Nat := match d, m with
  | 0, 0 => 2400
  | 0, _ => 4800
  | 1, 0 => 50000
  | 1, 1 => 100000
  | 1, 2 => 150000
  | 1, 3 => 200000
  | 1, 4 => 300000
  | 1, 5 => mcsOfdm4.getD s 0
  | 1, _ => mcsOfdm3.getD s 0
  | _, _ => 250000

/-- The SINR threshold in dB, uncoded or coded. -/
def sinrMin (d m s : Nat) (fec : Bool) : Int := match d, m with
  | 0, 0 => if fec then 5 else 9
  | 0, _ => if fec then 12 else 15
  | 1, 0 => if fec then 4 else 8
  | 1, 1 => if fec then 5 else 9
  | 1, 2 => if fec then 5 else 9
  | 1, 3 => if fec then 12 else 15
  | 1, 4 => if fec then 13 else 16
  | 1, _ => mcsSinr.getD s 0
  | _, _ => 4

/-- Octets of preamble, SFD and PHR ahead of a PSDU: the standard's 4 + 1 + 1 for O-QPSK, `pre` + 2 + 2 for SUN FSK. -/
def headOctets (d pre : Nat) : Nat := if d = 2 then 6 else pre + 4

/-- Airtime in µs, rounded up (R248): from the mode's rate for uncoded FSK and O-QPSK; the standard's figure, which the spec
does not state, for MR-OFDM and coded FSK (log entry 11). -/
def airUs (d m s : Nat) (fec : Bool) (pre len : Nat) : Nat :=
  if isOfdm d m || fec then Config.codedAirUs d m s pre len
  else cdiv ((headOctets d pre + len) * 8 * 1000000) (bitRate d m s)

/-- Time from the first preamble symbol to the end of the SFD, in ns (R306). -/
def sfdLeadNs (d m s pre : Nat) : Nat :=
  if isOfdm d m then Config.ofdmLeadNs m
  else (if d = 2 then 5 else pre + 2) * 8 * 1000000000 / bitRate d m s

/-- A time in µs in units of 10 symbol periods, rounded down (R253, R313): by symbols a second of SUN FSK, 120 µs of MR-OFDM, 16 µs of O-QPSK. -/
def tenSymbols (d m us : Nat) : Nat :=
  if d = 2 then us / 160 else if isOfdm d m then us / 1200
  else us * (if d = 0 then 2400 else [50000, 100000, 150000, 100000, 150000].getD m 150000) / 10000000

/-- The time of a symbol in ns, as CCA_US counts symbols (R310). -/
def symbolNs (d m : Nat) : Nat :=
  if d = 2 then 16000 else if isOfdm d m then 120000
  else if d = 0 then 416667 else match m with
    | 0 => 20000
    | 1 => 10000
    | 2 => 6667
    | 3 => 10000
    | _ => 6667

end Sys2Proof.Machine
end

