-- ==== Sys2Proof/Machine/Weave.lean ====
section
/-!
DEFINITION. The Weave: its cells, their validity, collision-free placement and the SCH command block (R266 to R277).
-/
namespace Sys2Proof.Machine

/-- ROLE values (R474). -/
abbrev ROLE.SINGLE : Nat := 0
abbrev ROLE.LISTEN : Nat := 1
abbrev ROLE.STANDBY : Nat := 2
abbrev ROLE.ACTIVE : Nat := 3
abbrev ROLE.OUT : Nat := 4
def Chip.role (b : Chip) : Nat := b.r Reg.SEA_ROLE
/-- The device serves the district: SINGLE or ACTIVE (R290). -/
def Chip.serves (b : Chip) : Bool := b.role == 0 || b.role == 3
def Chip.isStandby (b : Chip) : Bool := b.role == 2

/-! ### Cell words (R267) -/
def freeCell : Nat := 0x1FFFF
def cOwner (w : Nat) : Nat := bits w 0 17
def cType (w : Nat) : Nat := bits w 17 3
def cDown (w : Nat) : Bool := bit w 20
def cLane (w : Nat) : Nat := bits w 22 3
def cPinned (w : Nat) : Bool := bit w 25
def cNoAck (w : Nat) : Bool := bit w 26
def cBattery (w : Nat) : Bool := bit w 27
def cHeld (w : Nat) : Bool := bit w 28
abbrev T.BEACON : Nat := 1
abbrev T.SHARED : Nat := 2
abbrev T.ASSIGNED : Nat := 3
abbrev T.WAKE : Nat := 4
abbrev T.BROADCAST : Nat := 5
/-- A cell word from its parts; `flags` are bits 27 to 25. -/
def mkCell (owner ty : Nat) (down : Bool) (lane flags : Nat) : Nat :=
  owner + ty * 2 ^ 17 + b2n down * 2 ^ 20 + lane * 2 ^ 22 + flags % 8 * 2 ^ 25

/-- The cell at an index. -/
def Chip.cell (b : Chip) (i : Nat) : Nat := kgetD b.sch.cells i freeCell
/-- Write a cell, and CELLS_USED with it. -/
def Chip.setCell (b : Chip) (i w : Nat) : Chip :=
  let c := kset freeCell b.sch.cells i w
  Chip.w { b with sch := { b.sch with cells := c } } Reg.SCH_CELLS_USED c.length
/-- The row and column of an index. -/
def Chip.rowOf (b : Chip) (i : Nat) : Nat := i / b.cols
def Chip.colOf (b : Chip) (i : Nat) : Nat := i % b.cols
/-- The cells of a row that are not FREE: column and word. -/
def Chip.row (b : Chip) (r : Nat) : List (Nat × Nat) :=
  (b.sch.cells.filter (fun e => b.rowOf e.1 == r)).map (fun e => (b.colOf e.1, e.2))

/-- The device is an end of the cell that an owner, a type and a direction name now (R268). -/
def Chip.devEnd (b : Chip) (owner ty : Nat) : Bool :=
  match ty with
  | 1 => owner == nodeNone
  | 2 => true
  | 3 => b.nd owner Cx.PARENT == parentDev
  | 4 => true
  | 5 => owner == nodeNone
  | _ => false

/-- The combinations of R268, for the column's lane. -/
def Chip.cellValid (b : Chip) (c w : Nat) : Bool :=
  let o := cOwner w
  let t := cType w
  let none := o == nodeNone
  let dev := b.devEnd o t
  !bit w 21 && bits w 29 3 == 0 && !cHeld w && (none || decide (o < b.pat.nodeCount)) &&
  (match t with
    | 1 => none == cDown w
    | 2 => none && !cDown w
    | 3 => !none
    | 4 => cDown w
    | 5 => none == cDown w
    | _ => false) &&
  (!cNoAck w || t == 3) && (!cBattery w || dev) && cLane w == (if dev then colLane c else 7)

/-! ### Placement (R270) -/

/-- A cell in which the device sends. -/
def cSend (w : Nat) : Bool := cLane w != 7 && cDown w
/-- A device-end ASSIGNED UP cell. -/
def cRecv (w : Nat) : Bool := cLane w != 7 && cType w == 3 && !cDown w
/-- The phase of a device-end cell: 0 RECEIVE, 1 SHARED, 2 SEND. -/
def cPhase (w : Nat) : Nat := if cDown w then 2 else if cType w = 2 then 1 else 0
/-- Slot phases of a group, 3 IDLE. -/
def phaseOf (cells : List (Nat × Nat)) (g : Nat) : Nat :=
  match cells.find? (fun e => cLane e.2 != 7 && laneGroup (cLane e.2) == g) with
  | some e => cPhase e.2
  | none => 3

/-- The nodes of a cell's link (R270, condition 3). -/
def Chip.linkNodes (b : Chip) (w : Nat) : List Nat :=
  let o := cOwner w
  if o = nodeNone then []
  else if cType w = 3 ∧ b.nd o Cx.PARENT < parentDev then [o, b.nd o Cx.PARENT] else [o]

/-- Two links that share a frequency: no node in common, no node in the other's neighbour set (R270, condition 6). -/
def Chip.linksApart (b : Chip) (w v : Nat) : Bool :=
  let l := b.linkNodes w
  let m := b.linkNodes v
  !(l.any m.contains) && !(l.any (fun n => m.any (fun k => (b.nbrs k).contains n || (b.nbrs n).contains k)))

/-- CARRIERS in force on a chain (R241, R525). -/
def Chip.carriers (b : Chip) (c : Nat) : Nat := kgetD b.tx.carriers c 1

/-- A cell may be placed at a row and column (R270). -/
def Chip.mayPlace (b : Chip) (r c w : Nat) : Bool :=
  let cells := b.row r
  let dev := cLane w != 7
  let g := laneGroup (colLane c)
  let same := cells.filter (fun e => cLane e.2 != 7 && laneGroup (cLane e.2) == g)
  b.cell (r * b.cols + c) == freeCell && b.colOk c &&
  cells.all (fun e => !b.colOverlap c e.1 || (!dev && cLane e.2 == 7 && b.linksApart w e.2)) &&
  (b.linkNodes w).all (fun n => cells.all (fun e => !(b.linkNodes e.2).contains n)) &&
  (!dev ||
    (same.all (fun e => cPhase e.2 == cPhase w) &&
     (!cSend w || decide ((same.filter (fun e => cSend e.2)).length < b.carriers g)) &&
     (!(cRecv w && !cNoAck w) || decide ((same.filter (fun e => cRecv e.2 && !cNoAck e.2)).length < b.carriers g)) &&
     (!(cSend w || (cRecv w && !cNoAck w)) || !b.rxOnly (colLane c) (colChan c)) &&
     !(b.t Reg.SCH_PAIR_EN && laneGroup (colLane (b.r Reg.SCH_PAIR_COL)) == g)))

/-! ### The allocator (R272, R273) -/

/-- The rows of a series. -/
def seriesRows (s0 count spacing rows : Nat) : List Nat := (List.range count).map (fun j => (s0 + j * spacing) % rows)

/-- The first of a list of columns at which every row of the series takes the cell; `f` gives the word for a column. -/
def Chip.fitCol (b : Chip) (rows : List Nat) (f : Nat → Nat) (cols : List Nat) : Option Nat :=
  cols.find? (fun c => rows.all (fun r => b.mayPlace r c (f c)))

/-- The search of R273: the first start within `fuel` starts, and its column. -/
def Chip.fitAt (b : Chip) (s count spacing : Nat) (f : Nat → Nat) (cols : List Nat) (fuel : Nat) : Option (Nat × Nat) :=
  match fuel with
  | 0 => none
  | k + 1 =>
    match b.fitCol (seriesRows (s % b.sfSlots) count spacing b.sfSlots) f cols with
    | some c => some (s % b.sfSlots, c)
    | none => b.fitAt (s + 1) count spacing f cols k

/-- Place the series. -/
def Chip.placeAll (b : Chip) (rows : List Nat) (c w : Nat) : Chip := rows.foldl (fun b r => b.setCell (r * b.cols + c) w) b

/-- The columns that masks and ARG6 permit. -/
def Chip.permitted (b : Chip) (bands lanes col : Nat) : List Nat :=
  (if col = 0xFFFFFFFF then List.range (min b.cols 640) else [col]).filter (fun c =>
    b.colOk c && (bands == 0 || bit bands (laneBand (colLane c))) && (lanes == 0 || bit lanes (colLane c)))

/-- What an allocation answers: the block after it, and the placement. -/
def Chip.allocSeries (b : Chip) (owner ty : Nat) (down : Bool) (flags count spacing start : Nat) (cols : List Nat) :
    Chip × Option (Nat × Nat) :=
  let dev := b.devEnd owner ty
  let f := fun c => mkCell owner ty down (if dev then colLane c else 7) flags
  let any := start == 0xFFFFFFFF
  let s0 := if any then b.sch.allocStart else start
  let b1 := { b with sch := { b.sch with allocStart := (b.sch.allocStart + 1) % max 1 b.sfSlots } }
  match b.fitAt s0 count spacing f cols spacing with
  | none => (b1.inc Reg.SCH_ALLOC_FAIL, none)
  | some (s, c) => ((b1.placeAll (seriesRows s count spacing b.sfSlots) c (f c)).inc Reg.SCH_ALLOC_OK, some (s, c))

/-- Commands that would change a mirrored item during a handover's gap slot complete WRONG_STATE (R488). -/
def Chip.inGap (b : Chip) : Bool := b.gap

/-- The owner's state allows cells (R272): the refusal's code, none when it does. -/
def Chip.ownerCheck (b : Chip) (o : Nat) : Option Nat :=
  if o = nodeNone then none
  else if b.pat.nodeCount ≤ o then some BAD_ARG
  else match b.ns o with
    | 0 => some NOT_FOUND
    | 1 | 2 | 3 | 4 => none
    | _ => some WRONG_STATE

def Chip.allocCmd (b : Chip) : CmdOut :=
  let o := b.arg cbSCH 0
  let a1 := b.arg cbSCH 1
  let ty := bits a1 0 3
  let down := bit a1 4
  let flags := bits a1 8 3
  let count := b.arg cbSCH 2
  let sp := b.arg cbSCH 3
  let a4 := b.arg cbSCH 4
  let start := b.arg cbSCH 5
  let col := b.arg cbSCH 6
  let w := mkCell o ty down (if b.devEnd o ty then 0 else 7) flags
  if o ≠ nodeNone ∧ b.pat.nodeCount ≤ o then b.structFail cbSCH
  else if count = 0 ∨ 4096 < count then b.fail BAD_LENGTH
  else if sp = 0 ∨ b.sfSlots < sp ∨ b.sfSlots < count * sp then b.fail BAD_ARG
  else if ty = 0 ∨ !b.cellValid 0 w then b.fail BAD_ARG
  else if start ≠ 0xFFFFFFFF ∧ b.sfSlots ≤ start then b.fail BAD_ARG
  else if col ≠ 0xFFFFFFFF ∧ !b.colOk col then b.fail BAD_ARG
  else if b.isStandby || b.inGap then b.fail WRONG_STATE
  else match b.ownerCheck o with
    | some c => b.fail c
    | none =>
      match b.allocSeries o ty down flags count sp start (b.permitted (bits a4 0 3) (bits a4 8 7) col) with
      | (b1, none) => b1.fail NO_RESOURCE
      | (b1, some (s, c)) => b1.done [count, s * b1.cols + c, c, s]

/-- Free the cells that a test names; the count freed. -/
def Chip.freeCells (b : Chip) (p : Nat → Bool) : Chip × Nat :=
  let gone := (b.sch.cells.filter (fun e => p e.2)).map (·.1)
  (gone.foldl (fun b i => b.setCell i freeCell) b, gone.length)

/-- RECLAIM of an owner's cells by type mask (R272). -/
def Chip.reclaimCells (b : Chip) (o mask : Nat) (force : Bool) : Chip × Nat :=
  b.freeCells (fun w => cOwner w == o && bit mask (cType w) && (force || !cPinned w))

def Chip.reclaimCmd (b : Chip) : CmdOut :=
  let o := b.arg cbSCH 0
  if o ≠ nodeNone ∧ b.pat.nodeCount ≤ o then b.structFail cbSCH
  else if b.isStandby || b.inGap then b.fail WRONG_STATE
  else
    let r := b.reclaimCells o (bits (b.arg cbSCH 1) 0 6) (bit (b.arg cbSCH 2) 0)
    r.1.done [r.2]

def Chip.readCell (b : Chip) : CmdOut :=
  let i := b.arg cbSCH 0
  if b.pat.weaveCells ≤ i then b.structFail cbSCH
  else b.done [b.cell i, b.rowOf i, b.colOf i]

def Chip.writeCell (b : Chip) : CmdOut :=
  let i := b.arg cbSCH 0
  let w := b.arg cbSCH 1
  let old := b.cell i
  if b.pat.weaveCells ≤ i then b.structFail cbSCH
  else if b.isStandby || b.inGap then
    b.fail WRONG_STATE
  else if w = freeCell then (b.setCell i freeCell).done [old]
  else if 640 ≤ b.colOf i ∨ !b.colOk (b.colOf i) ∨ !b.cellValid (b.colOf i) w then b.fail BAD_ARG
  else if old ≠ freeCell then b.fail EXISTS
  else match b.ownerCheck (cOwner w) with
    | some c => if c = BAD_ARG then b.structFail cbSCH else b.fail c
    | none => if b.mayPlace (b.rowOf i) (b.colOf i) w then (b.setCell i w).done [old] else b.fail NO_RESOURCE

def Chip.nodeCells (b : Chip) : CmdOut :=
  let o := b.arg cbSCH 0
  if o ≠ nodeNone ∧ b.pat.nodeCount ≤ o then b.structFail cbSCH
  else
    let l := (b.sch.cells.filter (fun e => cOwner e.2 == o)).map (·.2)
    let n := fun (p : Nat → Bool) => (l.filter p).length
    b.done [l.length, n (fun w => cLane w != 7 && !cDown w), n (fun w => cLane w != 7 && cDown w), n (fun w => cLane w == 7), n cHeld]

def Chip.pairSet (b : Chip) : CmdOut :=
  let en := bit (b.arg cbSCH 0) 0
  let c := b.arg cbSCH 1
  if en && (!b.colOk c || b.rxOnly (colLane c) (colChan c)) then b.fail BAD_ARG
  else if b.isStandby || b.pat.roleCfg == 0 || b.inGap then b.fail WRONG_STATE
  else if en && b.sch.cells.any (fun e => cLane e.2 != 7 && laneGroup (cLane e.2) == laneGroup (colLane c)) then b.fail NO_RESOURCE
  else
    let b1 := b.wb Reg.SCH_PAIR_EN en
    (if en then b1.w Reg.SCH_PAIR_COL c else b1).done [b2n en]

/-! ### The slot in progress -/

/-- Nanoseconds of a slot, and of network time at a slot's start (R260). -/
def Chip.slotNs (b : Chip) : Nat := b.pat.slotStitches * 250000
def Chip.slotAt (b : Chip) (t : Nat) : Nat := if b.slotNs = 0 then 0 else t / b.slotNs
/-- The cells read for the slot that holds an instant. -/
def Chip.cellsAt (b : Chip) (t : Nat) : List SlotCell :=
  let s := some (b.slotAt t)
  if s = b.sch.curSlot then b.sch.cur else if s = b.sch.nxtSlot then b.sch.nxt else []
/-- TX_OFFSET and ACK_OFFSET of the slot that holds an instant, in µs. -/
def Chip.offsAt (b : Chip) (t : Nat) : Nat × Nat :=
  let s := some (b.slotAt t)
  if s = b.sch.curSlot then b.sch.curOff else if s = b.sch.nxtSlot then b.sch.nxtOff
  else (b.r Reg.SCH_TX_OFFSET_US, b.r Reg.SCH_ACK_OFFSET_US)
/-- A group's phase in the slot that holds an instant (R270): of the cells as read, or as they stand in a slot not read. -/
def Chip.phaseAt (b : Chip) (g t : Nat) : Nat :=
  let s := b.slotAt t
  if some s = b.sch.curSlot ∨ some s = b.sch.nxtSlot then phaseOf ((b.cellsAt t).map (fun c => (c.col, c.word))) g
  else phaseOf (b.row (s % max 1 b.sfSlots)) g
/-- The cell served on a column in the slot that holds an instant. -/
def Chip.slotCell (b : Chip) (c t : Nat) : Option SlotCell := (b.cellsAt t).find? (fun e => e.col == c && !e.off)

end Sys2Proof.Machine
end

