-- ==== Sys2Proof/Machine/Rxp.lean ====
section
/-!
DEFINITION. RXP: detection, the demodulator pool, capture, gain, the descriptor and the ends of receptions (R197 to R233).
-/
namespace Sys2Proof.Machine

/-- End causes (R231). -/
abbrev CAUSE.FCS : Nat := 1
abbrev CAUSE.PREEMPT : Nat := 2
abbrev CAUSE.CAPTURE_ABORT : Nat := 3
abbrev CAUSE.CAPTURE_LOST : Nat := 4
abbrev CAUSE.CAL : Nat := 5
abbrev CAUSE.TX_BLANK : Nat := 6
abbrev CAUSE.REF_SWITCH : Nat := 7
abbrev CAUSE.LANE_OFF : Nat := 8
abbrev CAUSE.SYNC_LOST : Nat := 9

/-- The counter of an end cause. -/
def causeFld (cause l : Nat) : Fld := match cause with
  | 1 => Reg.RXP_FCS_ERR l
  | 2 => Reg.RXP_PREEMPT l
  | 3 => Reg.RXP_CAPTURE_ABORT l
  | 4 => Reg.RXP_CAPTURE_LOST l
  | 5 => Reg.RXP_CAL_DROP l
  | 6 => Reg.RXP_TX_BLANK l
  | 7 => Reg.RXP_REF_SWITCH l
  | 8 => Reg.RXP_LANE_OFF l
  | _ => Reg.RXP_SYNC_LOST l

/-- A radio group beyond its registers. -/
def Chip.grp (b : Chip) (g : Nat) : Rf := kgetD b.rf g {}
def Chip.putGrp (b : Chip) (g : Nat) (x : Rf) : Chip := { b with rf := kset {} b.rf g x }

/-- A lane receives (R198): enabled twice over, not shed, its group in RX and not leaving it. -/
def Chip.laneOn (b : Chip) (l : Nat) : Bool :=
  b.laneExists l && b.t (Reg.RXP_LANE_EN l) && !bit (b.r Reg.PWR_SHED_MASK) l && b.working &&
  b.r (Reg.RFC_STATE (laneGroup l)) == 4 && !(b.grp (laneGroup l)).leaving

/-! ### Per-channel figures (R233) -/
def chanKey (l c : Nat) : Nat := l * 128 + c
def Chip.chanStat (b : Chip) (l c : Nat) : ChanStat := kgetD b.rx.chans (chanKey l c) {}
def Chip.modChan (b : Chip) (l c : Nat) (f : ChanStat → ChanStat) : Chip :=
  { b with rx := { b.rx with chans := kset {} b.rx.chans (chanKey l c) (f (b.chanStat l c)) } }

/-! ### The pool (R212 to R216) -/

/-- Contexts of a band's pool, and where they begin; FLOAT follows the bands (log entry 12). -/
def Chip.poolSize (b : Chip) (d : Nat) : Nat := if d = 0 then b.pat.demodL else if d = 1 then b.pat.demodM else b.pat.demodH
def Chip.poolBase (b : Chip) (d : Nat) : Nat := if d = 0 then 0 else if d = 1 then b.pat.demodL else b.pat.demodL + b.pat.demodM
def Chip.floatBase (b : Chip) : Nat := b.pat.demodL + b.pat.demodM + b.pat.demodH

/-- The free contexts of a range, lowest first. -/
def Chip.freeIn (b : Chip) (base n : Nat) : List Nat := ((List.range n).map (base + ·)).filter (fun i => (kget b.rx.ctxs i).isNone)
/-- The free contexts a band can draw: its own pool, then FLOAT. -/
def Chip.freeFor (b : Chip) (d : Nat) : List (Nat × Bool) :=
  (b.freeIn (b.poolBase d) (b.poolSize d)).map (fun i => (i, false)) ++
  (b.freeIn b.floatBase b.pat.demodFloat).map (fun i => (i, true))

/-- The ACTIVE counts, and HOLD with them (R209, R216). -/
def Chip.rxCounts (b : Chip) : Chip :=
  let n := fun (p : Ctx → Bool) => (b.rx.ctxs.filter (fun e => p e.2)).length
  let b1 := (List.range 7).foldl (fun c l =>
    let k := n (fun x => x.lane == l)
    (c.w (Reg.RXP_ACTIVE l) k).wb (Reg.RXP_HOLD l) (k != 0)) b
  let b2 := ((b1.w Reg.RXP_ACTIVE_L (n (fun x => x.band == 0))).w Reg.RXP_ACTIVE_M (n (fun x => x.band == 1))).w
    Reg.RXP_ACTIVE_H (n (fun x => x.band == 2))
  let all := b.rx.ctxs.length
  let b3 := b2.w Reg.RXP_RXP_ACTIVE all
  if b3.r Reg.RXP_ACTIVE_PEAK < all then b3.w Reg.RXP_ACTIVE_PEAK all else b3

def Chip.putCtx (b : Chip) (i : Nat) (x : Ctx) : Chip := { b with rx := { b.rx with ctxs := kput b.rx.ctxs i x } }
def Chip.modCtx (b : Chip) (i : Nat) (f : Ctx → Ctx) : Chip := { b with rx := { b.rx with ctxs := kmod b.rx.ctxs i f } }

/-- Free a context; a partner in a capture goes on alone (R220). -/
def Chip.freeCtx (b : Chip) (i : Nat) : Chip :=
  let alone := fun (x : Ctx) => if x.item.isSome then CtxStage.stream else CtxStage.sync
  let l := (kdel b.rx.ctxs i).map (fun e =>
    (e.1, if e.2.partner = some i then
      { e.2 with partner := none, stage := if e.2.stage = .cancelling then alone e.2 else e.2.stage, low := 0 } else e.2))
  Chip.rxCounts { b with rx := { b.rx with ctxs := l } }

/-! ### The descriptor (R229) -/

/-- Descriptor octet 2. -/
def Ctx.oct2 (x : Ctx) : Nat := x.modeBit + x.band * 16 + b2n x.fec * 64

/-- The 32-octet header; an O-QPSK frame's FCS is always of 2 octets (R229). -/
def rxHeader (i : Nat) (x : Ctx) (p : Phr) : List Nat :=
  [x.lane, x.chan, x.oct2, x.mcs] ++ leBytes x.len 2 ++ [b2n x.fcs2 + 2 * b2n p.whitened, i] ++
  leBytes (x.sfdNs / 250000) 4 ++ leBytes (x.sfdNs % 250000) 4 ++ leBytes (ofS x.cfo 24) 3 ++ [x.gain] ++
  leBytes (ofS x.rssi 16) 2 ++ [x.cls + 4 * b2n x.captured] ++ List.replicate 9 0

/-- FEC_METRIC: saturating, and 0 of a frame without FEC (R225, R229). -/
def Ctx.metric (x : Ctx) (m : Nat) : Nat := if x.fec || isOfdm x.band x.modeBit then min 0xFFFF m else 0
/-- The 32-octet trailer. -/
def rxTrailer (x : Ctx) (status cause : Nat) (sinr : Int) (metric endNs octets : Nat) : List Nat :=
  [status, cause, b2n x.collided + 2 * b2n x.cancelled + 4 * b2n x.clipped + 8 * b2n x.erased, x.steps] ++
  leBytes (ofS sinr 16) 2 ++ leBytes (x.metric metric) 2 ++ leBytes (endNs / 250000) 4 ++ leBytes (endNs % 250000) 4 ++
  leBytes octets 2 ++ List.replicate 14 0

/-- The figures of a trailer: SINR in 0.25 dB, FEC_METRIC, the end in ns and the octets streamed. -/
structure RxFigures where
  sinr : Int
  metric : Nat
  endNs : Nat
  octets : Nat
/-- A reception ends with a cause: its counter, its trailer, and MAC drops what was streamed (R230, R231, R419). -/
def Chip.endWith (b : Chip) (i cause : Nat) (y : RxFigures) : Chip :=
  match kget b.rx.ctxs i with
  | none => b
  | some x =>
    let b1 := b.inc (causeFld cause x.lane)
    let b2 := match x.item with
      | none => b1
      | some (q, id) =>
        let c := b1.writeItem q id (rxTrailer x ABORTED cause y.sinr y.metric y.endNs y.octets)
        ((c.closeItem q id false).dropRest q id).tmgQ q
    b2.freeCtx i
/-- A reception is cut off now: what had been streamed of it is a free value of the trailer, and its SINR where no estimate had been made. -/
def Chip.endRx (b : Chip) (i cause : Nat) : Chip :=
  match kget b.rx.ctxs i with
  | none => b
  | some x =>
    if x.item.isNone then b.endWith i cause ⟨0, 0, b.nowNs, 0⟩
    else
      let s := b.free 16
      let m := s.2.free 16
      let o := m.2.free 11
      o.2.endWith i cause ⟨x.worst.getD (toS s.1 16), m.1, b.nowNs, o.1 % (x.len + 1)⟩

/-- Every reception on a lane ends with a cause (R198). -/
def Chip.endLane (b : Chip) (l cause : Nat) : Chip :=
  (b.rx.ctxs.filter (fun e => e.2.lane == l)).foldl (fun c e => c.endRx e.1 cause) b
/-- Every reception on a group's lanes ends with a cause. -/
def Chip.endGroup (b : Chip) (g cause : Nat) : Chip := (groupLanes g).foldl (fun c l => c.endLane l cause) b

/-! ### Detection (R200, R204 to R207, R213, R214) -/

/-- The class of a detection (R213): what the Weave holds for the channel and lane in the slot of its SFD. -/
def Chip.detClass (b : Chip) (l c sfdNs : Nat) : Nat :=
  let w := b.cell (b.slotAt sfdNs % max 1 b.sfSlots * b.cols + columnOf l c)
  if cRecv w then 0 else if cType w = 2 then 1 else 2

/-- The level of a reception: its RSSI once the SFD has been averaged over, its correlated power before. -/
def Ctx.level (x : Ctx) : Int := if x.item.isSome then x.rssi else x.power
/-- The context a pre-emption takes (R214): not SCHEDULED, the lowest class, then the lowest RSSI, then the latest start. -/
def Chip.victim (b : Chip) (d : Nat) (spare : Option Nat) : Option Nat :=
  let l := b.rx.ctxs.filter (fun e => e.2.band == d && e.2.cls != 0 && spare != some e.1)
  let worse := fun (x y : Nat × Ctx) =>
    decide (y.2.cls < x.2.cls) || (x.2.cls == y.2.cls && (decide (x.2.level < y.2.level) ||
      (x.2.level == y.2.level && decide (y.2.start < x.2.start))))
  (l.foldl (fun (a : Option (Nat × Ctx)) e => match a with
    | none => some e
    | some y => if worse e y then some e else a) none).map (·.1)

/-- MIN_FREE_SCHED of a band. -/
def Chip.minFree (b : Chip) (d : Nat) : Nat :=
  b.r (if d = 0 then Reg.RXP_MIN_FREE_SCHED_L else if d = 1 then Reg.RXP_MIN_FREE_SCHED_M else Reg.RXP_MIN_FREE_SCHED_H)

/-- The per-stitch count of NO_DEMOD of a band (R215). -/
def kPool (d : Nat) : Nat := N.POOL_EXHAUSTED * 2 ^ 16 + d

/-- The code that a band's coded SUN FSK frames use (R225). -/
def Chip.codeFits (b : Chip) (p : Preamble) : Bool :=
  let l := laneBand p.lane == 0
  !p.fec || (p.rsc == b.t (if l then Reg.RXP_FEC_SCHEME_L else Reg.RXP_FEC_SCHEME_M) &&
    p.interleave == b.t (if l then Reg.RXP_INTERLEAVE_L else Reg.RXP_INTERLEAVE_M))

/-- The settings that the handling of one frame reads (R25). -/
def rxSettings (l : Nat) : List Fld :=
  [Reg.RXP_PSDU_LIMIT, Reg.RXP_RX_QUEUE l, Reg.MAC_PAN_ID, Reg.MAC_SHORT_ADDR, Reg.MAC_ACK_TURN_L_US, Reg.MAC_ACK_TURN_M_US,
   Reg.MAC_ACK_TURN_H_US, Reg.MAC_FOLLOW_EN, Reg.MAC_KEY_INDEX_JOIN, Reg.MAC_DUP_WINDOW, Reg.MAC_UP_MARGIN, Reg.MAC_DOWN_MARGIN,
   Reg.MAC_UP_COUNT, Reg.MAC_DOWN_MISSES, Reg.MAC_ACK_MAX_OCTETS, Reg.SEC_ALLOW_L4, Reg.SEC_BEACON_LEVEL, Reg.SEC_BEACON_INDEX,
   Reg.SEC_BEACON_POCKET, Reg.SEC_BEACON_PK_EN, Reg.SEC_BCAST_LEVEL, Reg.SEC_BCAST_INDEX, Reg.SEC_BCAST_POCKET, Reg.SEC_BCAST_PK_EN,
   Reg.RXP_STEER_EN, Reg.SCH_G0_US, Reg.SCH_GUARD_BOUND_US, Reg.SCH_DEV_DRIFT_PPB, Reg.SCH_XO_DRIFT_PPB, Reg.SCH_DRIFT_CUSTOM_PPB]
def Chip.setAll (b : Chip) (fs : List Fld) (vs : List Nat) : Chip := (fs.zip vs).foldl (fun c e => c.w e.1 e.2) b
/-- A frame is handled under the settings that stood when it started; those written since stand again afterwards (R25). -/
def Chip.under (b : Chip) (x : Ctx) (f : Chip → Chip) : Chip :=
  let fs := rxSettings x.lane
  (f (b.setAll fs x.set)).setAll fs (fs.map b.r)

/-- The context of a fresh detection. -/
def Chip.newCtx (b : Chip) (p : Preamble) (float : Bool) : Ctx :=
  { lane := p.lane, chan := p.chan, band := laneBand p.lane, modeBit := p.modeBit, fec := p.fec,
    cls := b.detClass p.lane p.chan p.sfdNs, float := float, power := p.power, start := b.nowNs, stitch := b.stitch32,
    sfdNs := p.sfdNs, gain := b.r (Reg.RXP_GAIN p.lane), trim := b.rs Reg.RFC_FREQ_TRIM, codeOk := b.codeFits p,
    set := (rxSettings p.lane).map b.r }

/-- Assign a context to a detection. -/
def Chip.assign (b : Chip) (p : Preamble) (i : Nat) (float : Bool) (f : Ctx → Ctx) : Chip :=
  (b.putCtx i (f (b.newCtx p float))).rxCounts

/-- An ordinary detection asks the pool (R214). -/
def Chip.askPool (b : Chip) (p : Preamble) : Chip :=
  let d := laneBand p.lane
  let free := b.freeFor d
  let sched := b.detClass p.lane p.chan p.sfdNs == 0
  let no := (b.inc (Reg.RXP_NO_DEMOD p.lane)).note (kPool d) 1
  match free.head? with
  | some (i, fl) => if sched || decide (b.minFree d < free.length) then b.assign p i fl id else no
  | none =>
    if sched then
      match b.victim d none with
      | some v =>
        let fl := match kget b.rx.ctxs v with
          | some x => x.float
          | none => false
        (b.endRx v CAUSE.PREEMPT).assign p v fl id
      | none => no
    else no

/-- The receptions in flight on a channel, on whichever lane (R200). -/
def Chip.onChannel (b : Chip) (l c : Nat) : List (Nat × Ctx) :=
  b.rx.ctxs.filter (fun e => laneBand e.2.lane == laneBand l && b.chanHz e.2.lane e.2.chan == b.chanHz l c)

/-- The strongest of them: no other is being cancelled from it. -/
def mainOf (l : List (Nat × Ctx)) : Option (Nat × Ctx) :=
  match l.find? (fun e => e.2.stage != .cancelling) with
  | some e => some e
  | none => l.head?

/-- The weaker of a pair goes into cancellation against its partner (R219). -/
def Chip.cancelFrom (b : Chip) (weak strong : Nat) : Chip :=
  (b.modCtx weak (fun x => { x with stage := .cancelling, cancelled := true, partner := some strong, low := 0 })).modCtx strong
    (fun x => { x with captured := true, partner := some weak })

/-- A capture (R217 to R222): `w` is the reception in flight. -/
def Chip.capture (b : Chip) (p : Preamble) (w : Nat) (x : Ctx) : Chip :=
  let b1 := match x.partner with
    | some o => if (kget b.rx.ctxs o).any (fun (y : Ctx) => y.stage == CtxStage.cancelling) then b.endRx o CAUSE.CAPTURE_LOST else b
    | none => b
  let take := (b1.endRx w CAUSE.CAPTURE_ABORT).assign p w x.float (fun y => { y with captured := true })
  if !b.t Reg.RXP_CANCEL_EN then take
  else
    let d := laneBand p.lane
    match (b1.freeFor d).head? with
    | some (i, fl) => (b1.assign p i fl id).cancelFrom w i
    | none =>
      match b1.victim d (some w) with
      | some v =>
        let fl := match kget b1.rx.ctxs v with
          | some y => y.float
          | none => false
        ((b1.endRx v CAUSE.PREEMPT).assign p v fl id).cancelFrom w v
      | none => take

/-- The detector of a channel is enabled. -/
def Chip.detOn (b : Chip) (l c : Nat) : Bool :=
  bit (b.r ([Reg.RXP_DET_EN0 l, Reg.RXP_DET_EN1 l, Reg.RXP_DET_EN2 l, Reg.RXP_DET_EN3 l].getD (c / 32) (Reg.RXP_DET_EN0 l))) (c % 32)
/-- A detector tracks its channel's floor over 64 stitches, while it is enabled, its lane receives and no reception is on it, on whichever
lane (R200, R204). -/
def Chip.floorTrack (b : Chip) (l c : Nat) (m : Int) : Chip :=
  if !b.laneOn l || !b.detOn l c || !(b.onChannel l c).isEmpty then b
  else b.modChan l c (fun s =>
    let h := (m :: s.hist).take 64
    { s with floor := h.sum / (h.length : Int), hist := h })

/-- The carrier lies within the pull-in range (R226). -/
def Chip.pullIn (b : Chip) (p : Preamble) : Bool :=
  let d := laneBand p.lane
  if d = 0 then decide (p.offset.natAbs * b.chanHz p.lane p.chan ≤ 1500 * 1000000000)
  else decide (p.offset.natAbs ≤ (if d = 2 then 100000 else if isOfdm d p.modeBit then 40000 else 60000))
/-- The preamble is long enough, and its SFD is of the set that the band has selected (R203). -/
def Chip.sfdFits (b : Chip) (p : Preamble) : Bool :=
  let d := laneBand p.lane
  !p.short && (d == 2 || isOfdm d p.modeBit || p.sfdSet == b.r (if d = 0 then Reg.RXP_FSK_SFD_SET_L else Reg.RXP_FSK_SFD_SET_M))

/-- A detector may declare the preamble (R203, R204, R226). -/
def Chip.detects (b : Chip) (p : Preamble) : Bool :=
  let d := laneBand p.lane
  b.laneOn p.lane && b.sfdFits p && b.pullIn p && b.chanOk p.lane p.chan && b.modeOn d p.modeBit && (!p.fec || (decide (d < 2) && bit (b.modes d) 8)) &&
  b.detOn p.lane p.chan &&
  decide ((b.chanStat p.lane p.chan).floor + 4 * (b.r (Reg.RXP_DET_MARGIN p.lane) : Int) ≤ p.power)

/-- The lane that takes a preamble both of two lanes found (R200): hold clear first, then the higher gain code. Where both holds are clear, or both
are set at one gain code, it is the operand's own lane (DESIGN CHOICE, log entry 114). -/
def Chip.pickLane (b : Chip) (p : Preamble) : Preamble :=
  match p.other with
  | none => p
  | some (l, c, w) =>
    let q : Preamble := { p with lane := l, chan := c, power := w, other := none }
    if !b.detects q then p
    else if !b.detects { p with other := none } then q
    else if !b.t (Reg.RXP_HOLD p.lane) then p
    else if !b.t (Reg.RXP_HOLD l) then q
    else if b.r (Reg.RXP_GAIN p.lane) < b.r (Reg.RXP_GAIN l) then q else p

/-- A preamble is found (R204 to R206, R217). One found as a collision takes no context, and counts neither in DET_CNT nor among the channel's
detections (DESIGN CHOICE, log entry 116). -/
def Chip.detect (b : Chip) (p0 : Preamble) : Chip :=
  let p := b.pickLane p0
  if !b.detects p then b
  else
    let det := fun (c : Chip) => (c.inc (Reg.RXP_DET_CNT p.lane)).modChan p.lane p.chan
      (fun s => { s with det := satAdd 32 s.det 1, rssi := p.power })
    match (if p.overlaps then mainOf (b.onChannel p.lane p.chan) else none) with
    | none => (det b).askPool p
    | some (w, x) =>
      if b.t Reg.RXP_CAPTURE_EN && decide (x.power + 4 * (b.r Reg.RXP_CAPTURE_MARGIN : Int) ≤ p.power) then (det b).capture p w x
      else (b.inc (Reg.RXP_COLLIDED p.lane)).modCtx w (fun y => { y with collided := true })

/-! ### Gain (R208 to R211) -/

/-- The gain code a lane is at or moving to. -/
def Chip.gainTo (b : Chip) (l : Nat) : Nat := kgetD b.rx.marks l (b.r (Reg.RXP_GAIN l))

/-- The gain decision of a microsecond; `peak` in 0.25 dBFS. -/
def Chip.gainDown (b : Chip) (l : Nat) (peak : Int) : Chip :=
  if !b.laneOn l || decide (peak ≤ -4 * (b.r (Reg.RXP_HEADROOM l) : Int)) then b
  else if b.gainTo l ≤ b.r (Reg.RXP_GAIN_MIN l) then
    let b1 := b.inc (Reg.RXP_GAIN_CLAMP l)
    { b1 with rx := { b1.rx with ctxs := b1.rx.ctxs.map (fun e => (e.1, if e.2.lane = l then { e.2 with clipped := true } else e.2)) } }
  else { b with rx := { b.rx with marks := kput b.rx.marks l (b.gainTo l - 1) } }

/-- The gain decision of 16 µs. -/
def Chip.gainUp (b : Chip) (l : Nat) (peak : Int) : Chip :=
  if !b.laneOn l || b.r (Reg.RXP_ACTIVE l) != 0 || decide (-4 * ((b.r (Reg.RXP_HEADROOM l) : Int) + 12) ≤ peak) then b
  else if b.r (Reg.RXP_GAIN_MAX l) ≤ b.gainTo l then b.inc (Reg.RXP_GAIN_CLAMP l)
  else { b with rx := { b.rx with marks := kput b.rx.marks l (b.gainTo l + 1) } }

/-- A step reaches the converter (R210). -/
def Chip.gainEffect (b : Chip) (l : Nat) : Chip :=
  match kget b.rx.marks l with
  | none => b
  | some g =>
    let n := dist g (b.r (Reg.RXP_GAIN l))
    let cs : KV Ctx := b.rx.ctxs.map (fun e =>
      (e.1, if e.2.lane = l then { e.2 with steps := min 11 (e.2.steps + n), erased := true } else e.2))
    let b1 : Chip := { b with rx := { b.rx with marks := kdel b.rx.marks l, ctxs := cs } }
    let b2 := (b1.w (Reg.RXP_GAIN l) g).add (Reg.RXP_GAIN_STEP l) n
    b2.rawCap.foldl (fun c e => if e.lane = l then c.w (Reg.RXP_WIN_STEPS (e.chan - 8)) (min 15 (c.r (Reg.RXP_WIN_STEPS (e.chan - 8)) + n)) else c) b2

/-- A bound is written past the present code: the loop clamps at the bound at once, with the marks of any step (R35, R208; log entry 78). -/
def Chip.gainBound (b : Chip) (l : Nat) : Chip :=
  let g := b.gainTo l
  let x := max (b.r (Reg.RXP_GAIN_MIN l)) (min (b.r (Reg.RXP_GAIN_MAX l)) g)
  if x = g then b
  else (Chip.gainEffect { b with rx := { b.rx with marks := kput b.rx.marks l x } } l).inc (Reg.RXP_GAIN_CLAMP l)

/-! ### The PHR (R223, R224) -/

/-- The verdict on a PHR: the counter of the failure, none when it passes all but the room in the queue. -/
def Chip.phrCheck (b : Chip) (x : Ctx) (p : Phr) : Option (Nat → Fld) :=
  let ofdm := isOfdm x.band x.modeBit
  if (ofdm && !p.hcsOk) || (!ofdm && x.band != 2 && p.modeSwitch) || (ofdm && !mcsOk x.band x.modeBit p.mcs) then some Reg.RXP_PHR_ERR
  else if p.len = 0 then some Reg.RXP_LEN_ERR
  else if p.len ≤ (if p.fcs2 || x.band == 2 then 2 else 4) then some Reg.RXP_LEN_ERR
  else if (if x.band = 2 then 127 else b.r Reg.RXP_PSDU_LIMIT) < p.len then some Reg.RXP_LEN_ERR
  else none

/-- The priority tag of a reception (R410). -/
def rxPrio (cls : Nat) : Nat := if cls = 0 then 6 else if cls = 1 then 4 else 2

/-- The PHR of a reception; a queue that is not AIR_RX takes nothing (R408). -/
def Chip.phrOf (b : Chip) (x : Ctx) (p : Phr) : Chip :=
  match b.phrCheck x p with
  | some f =>
    let b1 := b.inc (f x.lane)
    (if (f x.lane).off = (Reg.RXP_LEN_ERR x.lane).off then b1.modChan x.lane x.chan (fun s => { s with len := satAdd 32 s.len 1 })
     else b1).freeCtx p.ctx
  | none =>
    let q := b.r (Reg.RXP_RX_QUEUE x.lane)
    let y := { x with mcs := if isOfdm x.band x.modeBit then p.mcs else 0, len := p.len, fcs2 := p.fcs2 || x.band == 2, rssi := p.rssi,
                      cfo := clampI (-8388608) 8388607 (p.cfo + x.trim),
                      stage := if x.stage = .cancelling then .cancelling else .stream : Ctx }
    let o := b.openItem q (p.len + 64) (rxPrio x.cls) noNode false
    if b.pwr.restoring ∨ (b.q q).consumer ≠ CONS_AIR then (b.inc (Reg.RXP_NO_BUF x.lane)).freeCtx p.ctx
    else if o.code ≠ OK then (o.b.inc (Reg.RXP_NO_BUF x.lane)).freeCtx p.ctx
    else
      let b1 := o.b.writeItem q o.id (rxHeader p.ctx y p)
      (b1.putCtx p.ctx { y with item := some (q, o.id) }).modChan x.lane x.chan (fun s => { s with rssi := p.rssi })
/-- The PHR is decoded. -/
def Chip.phr (b : Chip) (p : Phr) : Chip :=
  match kget b.rx.ctxs p.ctx with
  | none => b
  | some x => if x.item.isSome then b else b.under x (fun c => c.phrOf x p)

/-- The estimate of a cancelled reception (R220): four in a row below the threshold end it. `sinr` in 0.25 dB. -/
def Chip.sinrEst (b : Chip) (i : Nat) (sinr : Int) : Chip :=
  match kget b.rx.ctxs i with
  | none => b
  | some x =>
    let b1 := b.modCtx i (fun y => { y with worst := some (min sinr (y.worst.getD sinr)) })
    if x.stage ≠ .cancelling then b1
    else if 4 * sinrMin x.band x.modeBit x.mcs x.fec ≤ sinr then b1.modCtx i (fun y => { y with low := 0 })
    else if 3 ≤ x.low then b1.endRx i CAUSE.CAPTURE_LOST
    else b1.modCtx i (fun y => { y with low := y.low + 1 })

/-! ### Steering (R227, R228) -/

/-- Insert into a rising list. -/
def insertInt (x : Int) (l : List Int) : List Int :=
  match l with
  | [] => [x]
  | y :: t => if x ≤ y then x :: y :: t else y :: insertInt x t
def sortInt (l : List Int) : List Int := l.foldl (fun a x => insertInt x a) []
/-- The median: the middle value, or the mean of the two middle ones, rounded down (log entry 13). -/
def median (l : List Int) : Int :=
  let s := sortInt l
  let n := s.length
  if n % 2 = 1 then s.getD (n / 2) 0 else (s.getD (n / 2 - 1) 0 + s.getD (n / 2) 0) / 2
/-- The distinct members of a list. -/
def distinct (l : List Nat) : List Nat := l.foldl (fun a x => if a.contains x then a else x :: a) []

/-- A steering window ends. Where every value lies further than REF_REJECT from the median of an even count, TARGET is the median itself (DESIGN
CHOICE, log entry 115). -/
def Chip.steerEnd (b : Chip) : Chip :=
  if !b.t Reg.RXP_STEER_EN then { b with rx := { b.rx with refs := [] } }
  else
    let refs := b.rx.refs
    let frames := refs.length
    let nodes := (distinct (refs.map (·.1))).length
    let b1 := (({ b with rx := { b.rx with refs := [] } } : Chip).w Reg.RXP_REF_FRAMES (min 65535 frames)).w Reg.RXP_REF_NODES (min 65535 nodes)
    if frames < b.r Reg.RXP_REF_MIN_FRAMES ∨ nodes < b.r Reg.RXP_REF_MIN_NODES then
      if b1.rx.starved then b1
      else Chip.raise { b1 with rx := { b1.rx with starved := true } } Src.RXP N.STEER_STARVED (argW 0 (min 65535 frames + min 65535 nodes * 65536))
    else
      let v := refs.map (·.2)
      let m := median v
      let rest := v.filter (fun x => decide ((x - m).natAbs ≤ b.r Reg.RXP_REF_REJECT))
      let target : Int := if rest.isEmpty then m else rest.sum / (rest.length : Int)
      let lim : Int := (b.r Reg.RXP_TARGET_LIMIT : Int)
      let c := clampI (-lim) lim target
      let b2 := Chip.ws { b1 with rx := { b1.rx with starved := false, clamped := c != target } } Reg.RXP_TARGET c
      if c ≠ target ∧ ¬ b1.rx.clamped then b2.raise Src.RXP N.TARGET_CLAMPED (argW 0 (ofS target 32)) else b2

/-- A write of LANE_EN (R198, R71). -/
def Chip.laneEn (b : Chip) (l : Nat) (v : Bool) (off : Nat) : Chip :=
  if v && !b.laneExists l then b.structReject off
  else
    let b1 := b.wb (Reg.RXP_LANE_EN l) v
    if v then b1 else b1.endLane l CAUSE.LANE_OFF

/-! ### Commands (R233) -/

def Chip.readChan (b : Chip) : CmdOut :=
  let l := b.arg cbRXP 0
  let c := b.arg cbRXP 1
  if !b.chanOk l c then b.fail BAD_ARG
  else
    let s := kgetD b.rx.chansPub (chanKey l c) {}
    b.done [ofS s.floor 32, s.det, s.ok, s.fcs, s.len, ofS s.rssi 32, b.r Reg.RXP_STATS_TAG]

def Chip.rxReadCtx (b : Chip) : CmdOut :=
  let i := b.arg cbRXP 0
  if 255 < i then b.fail BAD_ARG
  else match kget b.rx.ctxs i with
    | none => b.done [0, 0, 0, 0, 0, 0, 0xFFFF]
    | some x =>
      let st := match x.stage with
        | .sync => 1
        | .stream => 2
        | .cancelling => 3
      b.done [st, x.lane, x.chan, x.oct2, x.cls, x.stitch, x.partner.getD 0xFFFF]

end Sys2Proof.Machine
end

