-- ==== Sys2Proof/Machine/Crypto.lean ====
section
/-!
DEFINITION. The cryptography that the spec names, over octets: AES, AES-CMAC and the KDF built on it (R349, R363), AES key wrap (R351), CCM* (R324,
R327), SHA-256, HMAC and ECDSA over P-256 (R354, R369, R370). The spec names the algorithms; their steps are those of the standards it
names (PRESUMED, log entry 118).
-/
namespace Sys2Proof.Machine

/-! ### AES (FIPS 197) -/

/-- The S-box, octet x in bits 8x + 7 : 8x, and its inverse. -/
def aesSbox : Nat := 0x16bb54b00f2d99416842e6bf0d89a18cdf2855cee9871e9b948ed9691198f8e19e1dc186b95735610ef6034866b53e708a8bbd4b1f74dde8c6b4a61c2e2578ba08ae7a65eaf4566ca94ed58d6d37c8e779e4959162acd3c25c2406490a3a32e0db0b5ede14b8ee4688902a22dc4f816073195d643d7ea7c41744975fec130ccdd2f3ff1021dab6bcf5389d928f40a351a89f3c507f02f94585334d43fbaaefd0cf584c4a39becb6a5bb1fc20ed00d153842fe329b3d63b52a05a6e1b1a2c830975b227ebe28012079a059618c323c7041531d871f1e5a534ccf73f362693fdb7c072a49cafa2d4adf04759fa7dc982ca76abd7fe2b670130c56f6bf27b777c63
def aesInvSbox : Nat := 0x7d0c2155631469e126d677ba7e042b17619953833cbbebc8b0f52aae4d3be0a0ef9cc9939f7ae52d0d4ab519a97f51605fec8027591012b131c7078833a8dd1ff45acd78fec0db9a2079d2c64b3e56fc1bbe18aa0e62b76f89c5291d711af1476edf751ce837f9e28535ade72274ac9673e6b4f0cecff297eadc674f4111913a6b8a130103bdafc1020f3fca8f1e2cd00645b3b80558e4f70ad3bc8c00abd890849d8da75746155edab9edfd5048706c92b6655dcc5ca4d41698688664f6f87225d18b6d49a25b76b224d92866a12e084ec3fa420b954cee3d23c2a632947b54cbe9dec444438e3487ff2f9b8239e37cfbd7f3819ea340bf38a53630d56a0952
def boxAt (t x : Nat) : Nat := t / 2 ^ (8 * x) % 256
/-- Multiplication by x in the field of AES, and by a constant below 16. -/
def xtime (x : Nat) : Nat := if x < 128 then 2 * x else (2 * x - 256) ^^^ 0x1B
def gmul (k x : Nat) : Nat :=
  let y := xtime x
  let z := xtime y
  (if bit k 0 then x else 0) ^^^ (if bit k 1 then y else 0) ^^^ (if bit k 2 then z else 0) ^^^ (if bit k 3 then xtime z else 0)
/-- Octets added bit by bit; the shorter list ends the sum. -/
def xorL (x y : List Nat) : List Nat := List.zipWith (· ^^^ ·) x y

/-- One word of the key schedule after the words held, the latest first; `nk` is the key's length in words. -/
def aesWord (nk : Nat) (ws : List (List Nat)) (i : Nat) : List (List Nat) :=
  let t := ws.headD []
  let sub := fun (l : List Nat) => l.map (boxAt aesSbox)
  let u := if i % nk = 0 then xorL (sub (t.rotateLeft 1)) [Nat.repeat xtime (i / nk - 1) 1, 0, 0, 0]
    else if nk = 8 ∧ i % 8 = 4 then sub t else t
  xorL (ws.getD (nk - 1) []) u :: ws
/-- Octets in pieces of `k`. -/
def chunksOf (k : Nat) (l : List Nat) (n : Nat) : List (List Nat) := (List.range n).map (fun i => slice l (k * i) k)
/-- A key's round keys, 16 octets each: AES-256 for 32 octets, AES-128 otherwise. -/
def aesKeys (key : List Nat) : List (List Nat) :=
  let nk := if key.length = 32 then 8 else 4
  let ws := (List.range (3 * nk + 28)).foldl (fun ws i => aesWord nk ws (nk + i)) (chunksOf 4 (key ++ List.replicate (4 * nk - key.length) 0) nk).reverse
  chunksOf 16 ws.reverse.flatten (nk + 7)
/-- A column mixed by the first row of its matrix. -/
def aesMix (m s : List Nat) : List Nat :=
  (List.range 16).map (fun i => (List.range 4).foldl (fun a j => a ^^^ gmul (m.getD j 0) (s.getD (i / 4 * 4 + (i + j) % 4) 0)) 0)
def aesShift (k : Nat) (s : List Nat) : List Nat := (List.range 16).map (fun i => s.getD ((i + k * (i % 4)) % 16) 0)
/-- A block of 16 octets enciphered under round keys. -/
def aesRounds (ks : List (List Nat)) (blk : List Nat) : List Nat :=
  let mid := (ks.drop 1).dropLast.foldl (fun s k => xorL (aesMix [2, 3, 1, 1] (aesShift 4 (s.map (boxAt aesSbox)))) k) (xorL blk (ks.headD []))
  xorL (aesShift 4 (mid.map (boxAt aesSbox))) (ks.getLastD [])
/-- A block deciphered. -/
def aesBack (ks : List (List Nat)) (blk : List Nat) : List Nat :=
  let undo := fun (s : List Nat) => (aesShift 12 s).map (boxAt aesInvSbox)
  let mid := (ks.drop 1).dropLast.reverse.foldl (fun s k => aesMix [14, 11, 13, 9] (xorL (undo s) k)) (xorL blk (ks.getLastD []))
  xorL (undo mid) (ks.headD [])
def aes (key blk : List Nat) : List Nat := aesRounds (aesKeys key) blk

/-! ### AES-CMAC (SP 800-38B) and the KDF in counter mode (SP 800-108) -/

/-- A block doubled in the field of CMAC. -/
def cmacDouble (l : List Nat) : List Nat :=
  let v := beNat l
  beBytes ((2 * v % 2 ^ 128) ^^^ (if v < 2 ^ 127 then 0 else 0x87)) 16
/-- CBC-MAC over blocks of 16 octets. -/
def cbcMac (ks : List (List Nat)) (blocks : List (List Nat)) : List Nat := blocks.foldl (fun x y => aesRounds ks (xorL x y)) (List.replicate 16 0)
/-- A message in blocks, the last filled with zeros. -/
def blocks16 (l : List Nat) : List (List Nat) :=
  let n := cdiv l.length 16
  chunksOf 16 (l ++ List.replicate (16 * n - l.length) 0) n
def cmac (key l : List Nat) : List Nat :=
  let ks := aesKeys key
  let k1 := cmacDouble (aesRounds ks (List.replicate 16 0))
  let n := cdiv l.length 16 - 1
  let tail := l.drop (16 * n)
  let last := if tail.length = 16 then xorL tail k1 else xorL (tail ++ [0x80] ++ List.replicate (15 - tail.length) 0) (cmacDouble k1)
  cbcMac ks (chunksOf 16 l n ++ [last])
/-- The PRF input of an iteration of R363. -/
def kdfInput (i : Nat) (label context : List Nat) (bitsOut : Nat) : List Nat := beBytes i 4 ++ label ++ [0] ++ context ++ beBytes bitsOut 4
/-- The KDF of R363: so many bits under a key, a label and a context. -/
def kdf (key label context : List Nat) (bitsOut : Nat) : List Nat :=
  ((List.range (cdiv bitsOut 128)).flatMap (fun i => cmac key (kdfInput (i + 1) label context bitsOut))).take (bitsOut / 8)

/-! ### AES key wrap (SP 800-38F, KW) -/

/-- A step of wrapping: the integrity register and the semiblocks after it. -/
def kwStep (ks : List (List Nat)) (n : Nat) (s : List Nat × List (List Nat)) (t : Nat) : List Nat × List (List Nat) :=
  let c := aesRounds ks (s.1 ++ s.2.getD (t % n) [])
  (xorL (c.take 8) (beBytes (t + 1) 8), s.2.set (t % n) (c.drop 8))
def kwBack (ks : List (List Nat)) (n : Nat) (s : List Nat × List (List Nat)) (t : Nat) : List Nat × List (List Nat) :=
  let c := aesBack ks (xorL s.1 (beBytes (t + 1) 8) ++ s.2.getD (t % n) [])
  (c.take 8, s.2.set (t % n) (c.drop 8))
def kwWrap (kek key : List Nat) : List Nat :=
  let n := key.length / 8
  let r := (List.range (6 * n)).foldl (kwStep (aesKeys kek) n) (List.replicate 8 0xA6, chunksOf 8 key n)
  r.1 ++ r.2.flatten
/-- The key that a wrapped value holds, none where its integrity check fails. -/
def kwUnwrap (kek wrapped : List Nat) : Option (List Nat) :=
  let n := wrapped.length / 8 - 1
  let r := (List.range (6 * n)).reverse.foldl (kwBack (aesKeys kek) n) (wrapped.take 8, chunksOf 8 (wrapped.drop 8) n)
  if r.1 = List.replicate 8 0xA6 then some r.2.flatten else none

/-! ### CCM* (IEEE 802.15.4-2020, 9.3 and annex B) -/

/-- A block of the key stream, and the flags of the first block of the MAC. -/
def ccmCtr (nonce : List Nat) (i : Nat) : List Nat := [1] ++ nonce ++ beBytes i 2
def ccmFlags (aad : Bool) (mic : Nat) : Nat := 64 * b2n aad + 8 * ((mic - 2) / 2) + 1
/-- Text under the key stream of a nonce. -/
def ccmStream (ks : List (List Nat)) (nonce l : List Nat) : List Nat :=
  xorL l ((List.range (cdiv l.length 16)).flatMap (fun i => aesRounds ks (ccmCtr nonce (i + 1))))
/-- The MIC of additional data and clear text, as it is sent. -/
def ccmMic (ks : List (List Nat)) (nonce aad text : List Nat) (mic : Nat) : List Nat :=
  if mic = 0 then []
  else
    let b0 := [ccmFlags (!aad.isEmpty) mic] ++ nonce ++ beBytes text.length 2
    let a := if aad.isEmpty then [] else blocks16 (beBytes aad.length 2 ++ aad)
    xorL ((cbcMac ks (b0 :: a ++ blocks16 text)).take mic) (aesRounds ks (ccmCtr nonce 0))

/-! ### SHA-256 (FIPS 180-4) and HMAC (FIPS 198-1) -/

/-- The round constants, constant t in bits 32t + 31 : 32t. -/
def shaK : Nat := 0xc67178f2bef9a3f7a4506ceb90befffa8cc7020884c8781478a5636f748f82ee682e6ff35b9cca4f4ed8aa4a391c0cb334b0bcb52748774c1e376c0819a4c116106aa070f40e3585d6990624d192e819c76c51a3c24b8b70a81a664ba2bfe8a192722c8581c2c92e766a0abb650a735453380d134d2c6dfc2e1b213827b70a851429296706ca6351d5a79147c6e00bf3bf597fc7b00327c8a831c66d983e515276f988da5cb0a9dc4a7484aa2de92c6f240ca1cc0fc19dc6efbe4786e49b69c1c19bf1749bdc06a780deb1fe72be5d74550c7dc3243185be12835b01d807aa98ab1c5ed5923f82a459f111f13956c25be9b5dba5b5c0fbcf71374491428a2f98
def rotr (x n : Nat) : Nat := x / 2 ^ n + x % 2 ^ n * 2 ^ (32 - n)
def shaMix (x a b c : Nat) : Nat := rotr x a ^^^ rotr x b ^^^ rotr x c
/-- The next word of the message schedule, before the latest ones. -/
def shaWord (w : List Nat) : List Nat :=
  let x := w.getD 14 0
  let y := w.getD 1 0
  let s0 := rotr x 7 ^^^ rotr x 18 ^^^ (x / 8)
  let s1 := rotr y 17 ^^^ rotr y 19 ^^^ (y / 1024)
  ((w.getD 15 0 + s0 + w.getD 6 0 + s1) % 2 ^ 32) :: w
/-- A round on the eight working words. -/
def shaRound (s : List Nat) (kw : Nat) : List Nat :=
  match s with
  | [a, b, c, d, e, f, g, h] =>
    let t1 := h + shaMix e 6 11 25 + ((e &&& f) ^^^ ((0xFFFFFFFF - e) &&& g)) + kw
    let t2 := shaMix a 2 13 22 + ((a &&& b) ^^^ (a &&& c) ^^^ (b &&& c))
    [(t1 + t2) % 2 ^ 32, a, b, c, (d + t1) % 2 ^ 32, e, f, g]
  | _ => s
def shaBlock (h blk : List Nat) : List Nat :=
  let w := ((List.range 48).foldl (fun w _ => shaWord w) (((chunksOf 4 blk 16).map beNat).reverse)).reverse
  let r := (List.range 64).foldl (fun s t => shaRound s (shaK / 2 ^ (32 * t) % 2 ^ 32 + w.getD t 0)) h
  List.zipWith (fun x y => (x + y) % 2 ^ 32) h r
/-- SHA-256 of octets, 32 octets. -/
def sha256 (l : List Nat) : List Nat :=
  let p := l ++ [0x80] ++ List.replicate ((119 - l.length % 64) % 64) 0 ++ beBytes (8 * l.length) 8
  let h0 := [0x6a09e667, 0xbb67ae85, 0x3c6ef372, 0xa54ff53a, 0x510e527f, 0x9b05688c, 0x1f83d9ab, 0x5be0cd19]
  ((chunksOf 64 p (p.length / 64)).foldl shaBlock h0).flatMap (fun x => beBytes x 4)
/-- HMAC-SHA-256. -/
def hmac (key l : List Nat) : List Nat :=
  let k0 := if 64 < key.length then sha256 key else key
  let k := k0 ++ List.replicate (64 - k0.length) 0
  sha256 (k.map (· ^^^ 0x5C) ++ sha256 (k.map (· ^^^ 0x36) ++ l))

/-! ### P-256 (SP 800-186) and ECDSA (FIPS 186-5) -/

def p256p : Nat := 0xFFFFFFFF00000001000000000000000000000000FFFFFFFFFFFFFFFFFFFFFFFF
/-- The order of the curve (R352). -/
def p256n : Nat := 0xFFFFFFFF00000000FFFFFFFFFFFFFFFFBCE6FAADA7179E84F3B9CAC2FC632551
def p256b : Nat := 0x5AC635D8AA3A93E7B3EBBD55769886BC651D06B0CC53B0F63BCE3C3E27D2604B
def p256G : Nat × Nat :=
  (0x6B17D1F2E12C4247F8BCE6E563A440F277037D812DEB33A0F4A13945D898C296, 0x4FE342E2FE1A7F9B8EE7EB4A7C0F9E162BCE33576B315ECECBB6406837BF51F5)
/-- A power modulo `m`, the exponent's lowest `k` bits. -/
def powMod (m x e k : Nat) : Nat :=
  match k with
  | 0 => 1
  | j + 1 => let y := powMod m (x * x % m) (e / 2) j; if e % 2 = 1 then x * y % m else y
/-- The inverse modulo a prime. -/
def invMod (m x : Nat) : Nat := powMod m (x % m) (m - 2) 256
/-- The sum of two points; none is the point at infinity. -/
def ecAdd (u v : Option (Nat × Nat)) : Option (Nat × Nat) :=
  match u, v with
  | none, v => v
  | u, none => u
  | some (x1, y1), some (x2, y2) =>
    let p := p256p
    if x1 = x2 ∧ (y1 + y2) % p = 0 then none
    else
      let s := if x1 = x2 then (3 * x1 * x1 + (p - 3)) * invMod p (2 * y1) % p else (y2 + p - y1) * invMod p (x2 + p - x1) % p
      let x3 := (s * s + 2 * p - x1 - x2) % p
      some (x3, (s * (x1 + p - x3) + p - y1) % p)
/-- A multiple of a point, the factor's lowest `k` bits. -/
def ecMul (e : Nat) (u : Option (Nat × Nat)) (k : Nat) : Option (Nat × Nat) :=
  match k with
  | 0 => none
  | j + 1 => let v := ecMul (e / 2) (ecAdd u u) j; if e % 2 = 1 then ecAdd u v else v
/-- A point as X then Y, 64 octets. -/
def pointOctets (u : Option (Nat × Nat)) : List Nat := beBytes (u.getD (0, 0)).1 32 ++ beBytes (u.getD (0, 0)).2 32
/-- The public key of a private key. -/
def p256Pub (d : Nat) : List Nat := pointOctets (ecMul d (some p256G) 256)
/-- A signature of a digest, r then s, with the secret number `k`. -/
def ecdsaSign (d k : Nat) (digest : List Nat) : List Nat :=
  let r := (((ecMul k (some p256G) 256).getD (0, 0)).1) % p256n
  beBytes r 32 ++ beBytes (invMod p256n k * (beNat digest + r * d) % p256n) 32
/-- A signature over a digest verifies under a public key that is a point of the curve. -/
def ecdsaOk (pub digest sig : List Nat) : Bool :=
  let x := beNat (pub.take 32)
  let y := beNat (slice pub 32 32)
  let r := beNat (sig.take 32)
  let s := beNat (slice sig 32 32)
  let w := invMod p256n s
  let q := ecAdd (ecMul (beNat digest * w % p256n) (some p256G) 256) (ecMul (r * w % p256n) (some (x, y)) 256)
  decide (x < p256p ∧ y < p256p) && y * y % p256p == (x * x * x + (p256p - 3) * x + p256b) % p256p &&
  decide (0 < r ∧ r < p256n ∧ 0 < s ∧ s < p256n) && q.any (fun e => e.1 % p256n == r)

end Sys2Proof.Machine
end

