-- ==== Sys2Proof/Machine/Frame.lean ====
section
/-!
DEFINITION. MAC frames of IEEE 802.15.4-2020 as octets: reading a received PSDU and writing the frames the device sends
(R301 to R313, R326, R459, R586). The formats the spec takes from the standard are PRESUMED (log entry 14).
-/
namespace Sys2Proof.Machine

/-- The auxiliary security header (R326). -/
structure Aux where
  level : Nat
  mode : Nat
  fcSuppressed : Bool := false
  asn : Bool := false
  rsv : Bool := false
  fc : Nat := 0
  source : Nat := 0
  index : Nat := 0
  len : Nat := 0
  deriving DecidableEq, Repr

/-- A frame as read. Addresses are none, short (mode 2) or extended (mode 3). -/
structure MacFrame where
  ftype : Nat
  ver : Nat
  ar : Bool
  seq : Option Nat
  dstMode : Nat
  srcMode : Nat
  dstPan : Option Nat
  dst : Nat
  srcPan : Option Nat
  src : Nat
  aux : Option Aux
  /-- octets of the MAC header without security and IEs, and of the header IEs with any termination -/
  mhr : Nat
  ieLen : Nat
  /-- header IEs and payload IEs: ID or group, and content -/
  hies : List (Nat × List Nat)
  pies : List (Nat × List Nat)
  payload : List Nat
  deriving DecidableEq, Repr

/-- Octets of an address. -/
def addrLen (mode : Nat) : Nat := if mode = 2 then 2 else if mode = 3 then 8 else 0

/-- Which PAN IDs are present: destination, then source. -/
def pansOf (ver dm sm : Nat) (comp : Bool) : Bool × Bool :=
  if ver < 2 then (dm != 0, sm != 0 && !comp)
  else if dm = 0 ∧ sm = 0 then (comp, false)
  else if sm = 0 then (!comp, false)
  else if dm = 0 then (false, !comp)
  else if dm = 3 ∧ sm = 3 then (!comp, false)
  else (true, !comp)

/-- Read the header IEs: what they are, the octets they take, and whether payload IEs follow. -/
def readHies (l : List Nat) (fuel : Nat) : List (Nat × List Nat) × Nat × Bool :=
  match fuel with
  | 0 => ([], 0, false)
  | k + 1 =>
    if l.length < 2 then ([], 0, false)
    else
      let d := leNat (l.take 2)
      let n := bits d 0 7
      let id := bits d 7 8
      if bit d 15 then ([], 0, true)
      else if id = 0x7E then ([], 2, true)
      else if id = 0x7F then ([], 2, false)
      else
        let r := readHies (l.drop (2 + n)) k
        ((id, slice l 2 n) :: r.1, 2 + n + r.2.1, r.2.2)

/-- Read the payload IEs, and what follows them. -/
def readPies (l : List Nat) (fuel : Nat) : List (Nat × List Nat) × List Nat :=
  match fuel with
  | 0 => ([], l)
  | k + 1 =>
    if l.length < 2 then ([], l)
    else
      let d := leNat (l.take 2)
      let n := bits d 0 11
      let g := bits d 11 4
      if !bit d 15 then ([], l)
      else if g = 15 then ([], l.drop 2)
      else
        let r := readPies (l.drop (2 + n)) k
        ((g, slice l 2 n) :: r.1, r.2)

/-- Read the auxiliary security header. -/
def readAux (l : List Nat) : Aux :=
  let c := l.headD 0
  let m := bits c 3 2
  let sup := bit c 5
  let f := if sup then 0 else 4
  let s := if m = 2 then 4 else if m = 3 then 8 else 0
  { level := bits c 0 3, mode := m, fcSuppressed := sup, asn := bit c 6, rsv := bit c 7, fc := fldLE l 1 f,
    source := fldLE l (1 + f) s, index := if m = 0 then 0 else l.getD (1 + f + s) 0, len := 1 + f + s + (if m = 0 then 0 else 1) }

/-- Read a PSDU whose FCS and MIC have been removed and whose payload is in the clear. -/
def readFrame (p : List Nat) : MacFrame :=
  let fcf := leNat (p.take 2)
  let ver := bits fcf 12 2
  let dm := bits fcf 10 2
  let sm := bits fcf 14 2
  let noSeq := bit fcf 8 && ver == 2
  let pans := pansOf ver dm sm (bit fcf 6)
  let o1 := 2 + (if noSeq then 0 else 1)
  let o2 := o1 + (if pans.1 then 2 else 0)
  let o3 := o2 + addrLen dm
  let o4 := o3 + (if pans.2 then 2 else 0)
  let o5 := o4 + addrLen sm
  let aux := if bit fcf 3 then some (readAux (p.drop o5)) else none
  let o6 := o5 + (match aux with
    | some a => a.len
    | none => 0)
  let h := if bit fcf 9 && ver == 2 then readHies (p.drop o6) p.length else ([], 0, false)
  let body := p.drop (o6 + h.2.1)
  let py := if h.2.2 then readPies body p.length else ([], body)
  { ftype := bits fcf 0 3, ver := ver, ar := bit fcf 5, seq := if noSeq then none else some (p.getD 2 0), dstMode := dm, srcMode := sm,
    dstPan := if pans.1 then some (fldLE p o1 2) else none, dst := fldLE p o2 (addrLen dm),
    srcPan := if pans.2 then some (fldLE p o3 2) else none, src := fldLE p o4 (addrLen sm), aux := aux, mhr := o5, ieLen := h.2.1,
    hies := h.1, pies := py.1, payload := py.2 }

/-- The OUI of the device's own IEs, as octets (R308). -/
def oui : List Nat := [0x7A, 0x2C, 0x51]

/-- The content of a vendor payload IE of a subtype, after the subtype octet (R308). -/
def MacFrame.vendor (f : MacFrame) (sub : Nat) : Option (List Nat) :=
  (f.pies.find? (fun e => e.1 == 2 && slice e.2 0 4 == oui ++ [sub])).map (fun e => e.2.drop 4)

/-- The MIC octets of a level (R324). -/
def micLen (level : Nat) : Nat := match level % 4 with
  | 0 => 0
  | 1 => 4
  | 2 => 8
  | _ => 16

/-! ### Frames the device writes -/

/-- A frame control field. -/
def mkFcf (ftype : Nat) (sec ar comp noSeq ie : Bool) (dm ver sm : Nat) : Nat :=
  ftype + 8 * b2n sec + 32 * b2n ar + 64 * b2n comp + 256 * b2n noSeq + 512 * b2n ie + 1024 * dm + 4096 * ver + 16384 * sm

/-- An auxiliary security header with a 4-octet counter and a key identifier. -/
def auxOctets (level mode fc source index : Nat) : List Nat :=
  [level + 8 * mode] ++ leBytes fc 4 ++ leBytes source (if mode = 2 then 4 else if mode = 3 then 8 else 0) ++ [index]

/-- A header IE and a payload IE. -/
def hieOctets (id : Nat) (c : List Nat) : List Nat := leBytes (c.length + id * 128) 2 ++ c
def pieOctets (g : Nat) (c : List Nat) : List Nat := leBytes (c.length + g * 2048 + 32768) 2 ++ c
def ht1 : List Nat := hieOctets 0x7E []

/-- A secured data frame with mode-1 key identifier to a short address, or to an extended address where there is none; the
counter field is filled when the frame is sealed. -/
def dataFrame (ar : Bool) (seq pan : Nat) (dstMode dst srcMode src level index : Nat) (ies body : List Nat) : List Nat :=
  leBytes (mkFcf 1 (level != 0) ar true false (!ies.isEmpty) dstMode 2 srcMode) 2 ++ [seq % 256] ++
  (if dstMode = 3 ∧ srcMode = 3 then [] else leBytes pan 2) ++
  leBytes dst (addrLen dstMode) ++ leBytes src (addrLen srcMode) ++
  (if level = 0 then [] else auxOctets level 1 0 0 index) ++ ies ++ body

/-- Put a frame counter into the auxiliary security header of a frame the device wrote. -/
def putFc (p : List Nat) (fc : Nat) : List Nat :=
  let f := readFrame p
  match f.aux with
  | some _ => splice p (f.mhr + 1) (leBytes fc 4)
  | none => p

end Sys2Proof.Machine
end

