-- ==== Sys2Proof/Machine/Keys.lean ====
section
/-!
DEFINITION. KEY: pockets, their states, promotion, invalidation, derived keys and the KEY command block (R349 to R375, R585).
-/
namespace Sys2Proof.Machine

abbrev PS.BASTED : Nat := 1
abbrev PS.ACTIVE : Nat := 2
abbrev PS.ORPHANED : Nat := 3
abbrev PS.RETIRED : Nat := 4

/-- ASCII text as octets. -/
def ascii (s : String) : List Nat := s.toList.map Char.toNat
/-- What the device generates for the n-th time, in octets. -/
def madeOctets (n len : Nat) : List Nat := (List.range len).map (fun i => Config.madeOctet n i % 256)
/-- A number as a P-256 scalar from 1 to n − 1 (R352, R369). -/
def asScalar (v : Nat) : Nat := v % (p256n - 1) + 1
/-- The context of a link key: the EUI-64, first octet first, and the epoch (R363). -/
def linkContext (eui epoch : Nat) : List Nat := beBytes eui 8 ++ beBytes epoch 4
/-- The octets of key material. -/
def keyOctets (k : KeyT) : List Nat :=
  match k with
  | .raw l => l
  | .made n len => madeOctets n len
  | .scalar n => beBytes (asScalar (beNat (madeOctets n 32))) 32
  | .link m e ep => kdf (keyOctets m) (ascii "ONW-LINK") (linkContext e ep) 128

/-! ### The root (R349, R354, R369) -/

def rootOctets (test : Bool) : List Nat := beBytes (Config.root test) 32
/-- DEVICE_ID as the whole context of the root's KDF. -/
def idContext : List Nat := beBytes Config.deviceId 8
/-- The device wrapping key. -/
def kek (test : Bool) : List Nat := kdf (rootOctets test) (ascii "ONW-KEK") idContext 256
/-- The identity key, and its public key. -/
def identKey (test : Bool) : Nat := asScalar (beNat (kdf (rootOctets test) (ascii "ONW-IDENT") idContext 320))
def identPub (test : Bool) : List Nat := p256Pub (identKey test)
/-- The vendor certificate: at most 1,024 octets. -/
def vendorCert : List Nat := (Config.vendorCert.take 1024).map (· % 256)
/-- The key check value of key material of a type, its first octet lowest (R354). -/
def keyCheck (typ : Nat) (key : List Nat) : Nat :=
  leNat ((if typ = 4 then hmac key [] else if typ = 3 then sha256 (p256Pub (beNat key)) else cmac key (List.replicate 16 0)).take 8)

/-- Octets of key material of a type (R352). -/
def keyLen (typ : Nat) : Nat := if typ = 1 then 16 else 32
/-- Bits of USAGE a type may carry (R353). -/
def usageMask (typ : Nat) : Nat := match typ with
  | 1 => 0x1F
  | 2 => 0x122
  | 3 => 0x40
  | _ => 0x80

/-- A pocket that is not EMPTY. -/
def Chip.pocket (b : Chip) (p : Nat) : Option Pocket := kget b.key.pockets p
/-- A pocket in a state. -/
def Chip.pocketIn (b : Chip) (p st : Nat) : Bool := (b.pocket p).any (fun (x : Pocket) => x.state == st)

/-- The counts that the registers show. -/
def Chip.keyCounts (b : Chip) : Chip :=
  let n := fun (p : Pocket → Bool) => (b.key.pockets.filter (fun e => p e.2)).length
  ((((((b.w Reg.KEY_BASTED_CNT (n (fun x => x.state == 1))).w Reg.KEY_ACTIVE_CNT (n (fun x => x.state == 2))).w
    Reg.KEY_ORPHANED_CNT (n (fun x => x.state == 3))).w Reg.KEY_RETIRED_CNT (n (fun x => x.state == 4))).w
    Reg.KEY_MASTERS (n (fun x => x.state == 2 && bit x.usage 1))).w Reg.KEY_CACHE_USED b.key.cache.length).w
    Reg.KEY_REKEY_PENDING b.key.rekeys.length

/-! ### The copies in MRAM (R350) -/

/-- A copy of a pocket's record; one never written is EMPTY, with GEN 0. -/
def Key.copy (k : Key) (p side : Nat) : PockCopy := kgetD k.copies (2 * p + side) {}
/-- A generation is the later of two under half-range comparison. -/
def genLater (x y : Nat) : Bool := x != y && decide ((x + 2 ^ 32 - y % 2 ^ 32) % 2 ^ 32 < 2 ^ 31)
/-- The copy that holds a pocket's current record: its CRC passes, and its GEN is the later. -/
def Key.side (k : Key) (p : Nat) : Option Nat :=
  let x := k.copy p 0
  let y := k.copy p 1
  if x.ok && y.ok then some (if genLater y.gen x.gen then 1 else 0)
  else if x.ok then some 0 else if y.ok then some 1 else none
/-- A pocket's current record as MRAM gives it, its GEN, and the record of its superseded copy. -/
def Key.current (k : Key) (p : Nat) : PockCopy := match k.side p with
  | some s => k.copy p s
  | none => {}
def Key.superseded (k : Key) (p : Nat) : Option Pocket := match k.side p with
  | some s => if (k.copy p (1 - s)).ok then (k.copy p (1 - s)).body else none
  | none => none
def Chip.pocketGen (b : Chip) (p : Nat) : Nat := (b.key.current p).gen
/-- A record is committed as it is, none for EMPTY, to the copy that does not hold the current one. -/
def Chip.writePocket (b : Chip) (p : Nat) (x : Option Pocket) : Chip :=
  let k := b.key
  let side := match k.side p with
    | some s => 1 - s
    | none => 0
  let ps := match x with
    | some y => kput k.pockets p y
    | none => kdel k.pockets p
  Chip.keyCounts { b with key := { k with
    pockets := ps, copies := kput k.copies (2 * p + side) { body := x, gen := ((k.current p).gen + 1) % 2 ^ 32 } } }
/-- Commit a pocket's record, none for EMPTY; a change of state is stamped (R350, R351). -/
def Chip.commitPocket (b : Chip) (p : Nat) (x : Option Pocket) : Chip :=
  b.writePocket p (x.map (fun y => match b.pocket p with
    | some o => if y.state = o.state then { y with stateStitch := o.stateStitch } else { y with stateStitch := b.stitch32 }
    | none => { y with stateStitch := b.stitch32 }))
/-- A commit that fails (R374). -/
def Chip.commitFail (b : Chip) : Chip := b.inc Reg.KEY_COMMIT_FAIL

/-- Change a pocket. -/
def Chip.modPocket (b : Chip) (p : Nat) (f : Pocket → Pocket) : Chip :=
  match b.pocket p with
  | some x => b.commitPocket p (some (f x))
  | none => b

/-- A pocket's PARENT chain reaches a pocket of a list. -/
def chainMeets (ps : KV Pocket) (l : List Nat) (p fuel : Nat) : Bool :=
  match fuel with
  | 0 => false
  | k + 1 =>
    match kget ps p with
    | none => false
    | some x => x.parent != 0xFFFF && (l.contains x.parent || chainMeets ps l x.parent k)

/-- The pocket under whose key a child with a PARENT_EPOCH is wrapped: the parent itself or its RETIRED partner (R356). -/
def Chip.wrapPocket (b : Chip) (parent parentEpoch : Nat) : Option Pocket :=
  match b.pocket parent with
  | none => none
  | some x =>
    if x.epoch = parentEpoch then some x
    else (b.pocket x.partner).filter (fun y => y.state == PS.RETIRED && y.epoch == parentEpoch)
/-- A pocket's key can be unwrapped, through its whole PARENT chain, under the present root (R356, R368). -/
def Chip.unwraps (b : Chip) (x : Pocket) (fuel : Nat) : Bool :=
  x.key.isSome && x.test == b.t Reg.KEY_TEST_ROOT &&
  (x.parent == 0xFFFF || (match fuel with
    | 0 => false
    | k + 1 => match b.wrapPocket x.parent x.parentEpoch with
      | some y => b.unwraps y k
      | none => false))
/-- A pocket's key, unwrapped. -/
def Chip.unwrapped (b : Chip) (x : Pocket) : Option KeyT := if b.unwraps x 4096 then x.key else none
/-- The octets of the key that wraps what names a parent, at the parent's present epoch (R349, R356). -/
def Chip.wrapOctets (b : Chip) (parent : Nat) : Option (List Nat) :=
  if parent = 0xFFFF then some (kek (b.t Reg.KEY_TEST_ROOT))
  else ((b.pocket parent).bind b.unwrapped).map keyOctets

/-- The key of a pocket in use under a type and usage bit: ACTIVE, unwrapped under the present root (R330, R353, R368). -/
def Chip.pocketKey (b : Chip) (p typ use : Nat) : Sum Nat KeyT :=
  match b.pocket p with
  | none => .inl KEY_INVALID
  | some x =>
    if x.state = PS.ORPHANED ∧ x.wasActive ∧ ¬ b.key.orphanDue ∧ x.key.isSome then .inl KEY_ORPHANED
    else if x.state ≠ PS.ACTIVE ∨ x.typ ≠ typ ∨ !bit x.usage use then .inl KEY_INVALID
    else match b.unwrapped x with
      | some k => .inr k
      | none => .inl KEY_INVALID

/-! ### Derived keys (R362 to R364) -/

/-- The ACTIVE master with the highest EPOCH at or below one; with `orphans`, those marked since the last boundary as well. -/
def Chip.master (b : Chip) (e : Nat) (orphans : Bool) : Option (Nat × Pocket) :=
  let l := b.key.pockets.filter (fun x => bit x.2.usage 1 && decide (x.2.epoch ≤ e) &&
    ((x.2.state == 2 && (b.unwrapped x.2).isSome) || (orphans && x.2.state == 3 && x.2.wasActive && !b.key.orphanDue && x.2.key.isSome)))
  l.foldl (fun a x => match a with
    | none => some x
    | some y => if y.2.epoch < x.2.epoch then some x else a) none

/-- A node's link key at an epoch; a cached key that is marked ORPHANED counts until the boundary (R330, R336, R364). -/
def Chip.linkKey (b : Chip) (n e : Nat) : Chip × Sum Nat KeyT :=
  match b.key.cache.find? (fun x => x.node == n && x.epoch == e && !(x.orphan && b.key.orphanDue)) with
  | some x =>
    if x.orphan then (b, .inl KEY_ORPHANED)
    else
      (Chip.inc { b with key := { b.key with cache := x :: b.key.cache.filter (fun y => !(y.node == n && y.epoch == e)) } } Reg.KEY_CACHE_HIT,
        .inr x.key)
  | none =>
    let b1 := b.inc Reg.KEY_CACHE_MISS
    match b1.master e true with
    | none => (b1, .inl KEY_INVALID)
    | some (p, x) =>
      match x.key with
      | none => (b1, .inl KEY_INVALID)
      | some k =>
        if x.state = PS.ORPHANED then (b1, .inl KEY_ORPHANED)
        else
          let key := KeyT.link k (b1.eui n) e
          let ent : KeyEnt := { node := n, epoch := e, key := key, master := p }
          let rest := b1.key.cache.filter (fun y => !(y.node == n && y.epoch == e))
          let b2 := { b1 with key := { b1.key with cache := (ent :: rest).take b1.pat.keyCache } }
          ((b2.inc Reg.KEY_DERIVE_CNT).w Reg.KEY_CACHE_USED b2.key.cache.length, .inr key)

/-- Drop a node's cached keys (R364, R366). -/
def Chip.dropKeys (b : Chip) (n : Nat) : Chip :=
  let c := b.key.cache.filter (fun x => x.node != n)
  Chip.w { b with key := { b.key with cache := c } } Reg.KEY_CACHE_USED c.length

/-! ### Invalidation (R361) -/

/-- The promotions waiting on pockets that have been marked end (R372). -/
def Chip.dropPromotes (b : Chip) (marked : List Nat) : Chip :=
  let hit := b.key.waiting.filter (fun q => marked.contains q || (b.pocket q).any (fun (x : Pocket) => marked.contains x.partner))
  let b1 := { b with key := { b.key with waiting := b.key.waiting.filter (fun q => !hit.contains q) } }
  let b2 := hit.foldl (fun c q => c.modPocket q (fun x => { x with promoting := false })) b1
  match b2.key.cmd with
  | some q => if hit.contains q then Chip.cmdFinish { b2 with key := { b2.key with cmd := none } } cbKEY KEY_ORPHANED [] else b2
  | none => b2

/-- Zeroise every key marked ORPHANED, and drop cached keys that are marked. -/
def Chip.orphanZero (b : Chip) : Chip :=
  let hit := (b.key.pockets.filter (fun e => e.2.state == 3 && e.2.key.isSome)).map (·.1)
  let n := (b.key.cache.filter (·.orphan)).length
  let b1 := hit.foldl (fun c p => c.modPocket p (fun x => { x with key := none, wrapped := [] })) b
  let b2 := { b1 with key := { b1.key with cache := b1.key.cache.filter (fun x => !x.orphan), orphanDue := false } }
  (b2.add Reg.KEY_ZEROISE_CNT (hit.length + n)).keyCounts

/-- The keys change: a frame that streams in may have an open that has started, and keeps the keys that stood before (R336, R356). -/
def Chip.holdKeys (b : Chip) (before : Key) : Chip :=
  if before = b.key then b else
  { b with rx := { b.rx with ctxs := b.rx.ctxs.map (fun e => (e.1,
      if e.2.stage = CtxStage.stream ∨ e.2.stage = CtxStage.cancelling then { e.2 with held := e.2.held ++ [(b.nowNs, before)] } else e.2)) } }

/-- Mark a pocket and everything beneath it (R361): the block after it, the pockets and the cached keys marked. -/
def Chip.invalidate (b0 : Chip) (p : Nat) : Chip × Nat × Nat :=
  let b := if b0.key.orphanDue then b0.orphanZero else b0
  let ps := b.key.pockets
  let m1 := (ps.filter (fun e => e.1 == p || chainMeets ps [p] e.1 4096)).map (·.1)
  let m2 := (ps.filter (fun e => m1.contains e.1 || (e.2.state == 1 && m1.contains e.2.partner))).map (·.1)
  let new := m2.filter (fun q => !b.pocketIn q 3)
  let b1 := new.foldl (fun c q => c.modPocket q (fun x =>
    { x with state := PS.ORPHANED, wasActive := x.state == 2, rewrap := false })) b
  let cs := b1.key.cache.filter (fun x => new.contains x.master && !x.orphan)
  let marked : List KeyEnt := b1.key.cache.map (fun (x : KeyEnt) => if new.contains x.master then { x with orphan := true } else x)
  let b2 := { b1 with key := { b1.key with cache := marked } }
  let b3 := ((b2.dropPromotes new).add Reg.KEY_ORPHAN_CNT (new.length + cs.length)).noteFirst N.KEY_ORPHANED_SET p new.length
  let b4 := if cs.isEmpty then b3 else b3.note (N.KEY_ORPHANED_SET * 2 ^ 16 + 1) 1
  (b4, new.length, cs.length)

/-! ### Promotion (R355, R356) -/

/-- Stitches of the grace period. -/
def Chip.graceStitches (b : Chip) : Nat := b.r Reg.KEY_GRACE_SF * b.pat.slotStitches * b.sfSlots

/-- A key-store PROMOTE command that waits for a pocket completes. -/
def Chip.promoteDone (b : Chip) (q code : Nat) (res : List Nat) : Chip :=
  if b.key.cmd = some q then Chip.cmdFinish { b with key := { b.key with cmd := none } } cbKEY code res else b

/-- One promotion at its boundary; `bad` are the pockets whose commits fail (R356, R372, R374; log entry 123). A commit of step 2 that fails
leaves the exchange to be finished at the next start (R359). -/
def Chip.promoteOne (bad : List Nat) (b : Chip) (q : Nat) : Chip :=
  match b.pocket q with
  | none => b
  | some x =>
    let p := if x.partner = 0xFFFF then q else x.partner
    if bad.contains p then ((b.modPocket q (fun y => { y with promoting := false })).commitFail).promoteDone q ECC_FAULT []
    else if x.partner = 0xFFFF then
      let b1 := (b.commitPocket q (some { x with state := PS.ACTIVE, promoting := false })).inc Reg.KEY_PROMOTE_CNT
      (b1.raise Src.KEY N.KEY_PROMOTED (argW (q + 0xFFFF * 65536) x.epoch)).promoteDone q OK [q, b.stitch32]
    else
      match b.pocket p with
      | none => b
      | some o =>
        let kids := (b.key.pockets.filter (fun e => e.2.parent == p)).map (·.1)
        let b1 := b.writePocket p (some { x with
          state := PS.ACTIVE, promoting := false, partner := q, rewrap := !kids.isEmpty, stateStitch := b.stitch32 })
        let b2 := { b1 with key := { b1.key with rewrap := b1.key.rewrap.filter (fun k => !kids.contains k) ++ kids } }
        let b3 := (b2.inc Reg.KEY_PROMOTE_CNT).wb Reg.KEY_REWRAP_BUSY (!b2.key.rewrap.isEmpty)
        let b4 := b3.raise Src.KEY N.KEY_PROMOTED (argW (p + q * 65536) x.epoch)
        if bad.contains q then b4.commitFail.promoteDone q ECC_FAULT []
        else
          let due := (b.stitch32 + b.graceStitches) % 2 ^ 32
          (b4.commitPocket q (some { o with state := PS.RETIRED, partner := p, rewrap := false, retireAt := due })).promoteDone q OK [p, b.stitch32]

/-- KEY's promotion work at a boundary (R22, R355). -/
def Chip.promoteAll (b : Chip) (bad : List Nat) : Chip :=
  let l := b.key.waiting
  l.foldl (Chip.promoteOne bad) { b with key := { b.key with waiting := [] } }

/-- A child of a pocket is still wrapped under its former key. -/
def Chip.childStale (b : Chip) (x : Pocket) : Bool :=
  x.key.isSome && (b.pocket x.parent).any (fun (p : Pocket) => p.epoch != x.parentEpoch)
/-- REWRAP of a pocket clears when no child is left. -/
def Chip.rewrapDone (b : Chip) (p : Nat) : Chip :=
  if b.key.pockets.any (fun e => e.2.parent == p && b.childStale e.2) then b
  else match b.pocket p with
    | some x => if x.rewrap then b.commitPocket p (some { x with rewrap := false }) else b
    | none => b
/-- Re-wrap a child under its parent's new key; a child that cannot be unwrapped stays as it is (R356, R368). -/
def Chip.rewrapOne (bad : List Nat) (b : Chip) (k : Nat) : Chip :=
  if bad.contains k then b.commitFail
  else
    let b1 := { b with key := { b.key with rewrap := b.key.rewrap.filter (· != k) } }
    match b1.pocket k with
    | none => b1
    | some x => match b1.pocket x.parent, b1.unwrapped x, b1.wrapOctets x.parent with
      | some p, some key, some w =>
        (b1.commitPocket k (some { x with parentEpoch := p.epoch, wrapped := kwWrap w (keyOctets key) })).rewrapDone x.parent
      | _, _, _ => b1.rewrapDone x.parent

/-- The background re-wrapping of a stitch, all but `left` children (R23, R356). -/
def Chip.rewrapWork (b : Chip) (left : Nat) (bad : List Nat) : Chip :=
  let l := b.key.rewrap
  let b1 := (l.take (l.length - left)).foldl (Chip.rewrapOne bad) b
  b1.wb Reg.KEY_REWRAP_BUSY (!b1.key.rewrap.isEmpty)

/-- RETIRE_AT is reached (R585). -/
def retireReached (now at_ : Nat) : Bool := decide ((now + (2 ^ 32 - at_ % 2 ^ 32)) % 2 ^ 32 < 2 ^ 31)

/-- A RETIRED pocket whose grace has ended, and whose epoch no child names, is zeroised, where its commit does not fail (R355, R374). -/
def Chip.retireEnd (b : Chip) (p : Nat) (ok : Bool) : Chip :=
  match b.pocket p with
  | none => b
  | some x =>
    let named := b.key.pockets.any (fun e => e.2.parent == x.partner && e.2.parentEpoch == x.epoch)
    if x.state = PS.RETIRED ∧ retireReached b.stitch32 x.retireAt ∧ ¬ named then
      if ok then (b.commitPocket p none).inc Reg.KEY_ZEROISE_CNT else b.commitFail
    else b

/-- RETIRE_AT moves with the stitch number at a discontinuity of cause 2 or 3 (R585). -/
def Chip.retireShift (b : Chip) (jump : Int) : Chip :=
  b.key.pockets.foldl (fun c e => if e.2.state = PS.RETIRED then
    c.modPocket e.1 (fun x => { x with retireAt := ofS ((x.retireAt : Int) + jump) 32 }) else c) b

/-- The owner table is committed where it changes, and the table before it stands until then (R367, log entry 121); OWNERS shows its length. -/
def Chip.setOwners (b : Chip) (l : List (List Nat)) : Chip :=
  let old := if b.key.owners = l then b.key.ownersOld else b.key.owners
  Chip.w { b with key := { b.key with owners := l, ownersOld := old } } Reg.KEY_OWNERS l.length

/-! ### The command block (R372) -/

/-- A gate every command but READ_POCKET and DERIVE_CHECK passes. -/
def Chip.keyBarred (b : Chip) : Bool := b.isStandby || b.inGap

/-- The key material in ARG4 to ARG15. -/
def Chip.argKey (b : Chip) (n : Nat) : List Nat := (ofWords ((b.args cbKEY).drop 4)).take n

/-- Key material is in its type's range (R352). -/
def keyInRange (typ : Nat) (l : List Nat) : Bool := typ != 3 || (decide (0 < beNat l) && decide (beNat l < p256n))

def Chip.keyLoad (b : Chip) (mramOk : Bool) : CmdOut :=
  let p := b.arg cbKEY 0
  let a1 := b.arg cbKEY 1
  let typ := bits a1 0 4
  let src := bits a1 4 2
  let usage := bits a1 16 16
  let parent := bits (b.arg cbKEY 2) 0 16
  let repl := bits (b.arg cbKEY 2) 16 16
  let epoch := b.arg cbKEY 3
  let r := if repl = 0xFFFF then none else b.pocket repl
  let badRepl := if repl = 0xFFFF then false else match r with
    | none => true
    | some x => x.state != 2 || x.typ != typ || x.usage != usage || bit x.usage 1 || decide (epoch ≤ x.epoch) ||
        parent == repl || chainMeets b.key.pockets [repl] parent 4096
  let badEpoch := repl == 0xFFFF && (match kget b.sec.ceil (131072 + p) with
    | some c => decide (epoch ≤ c.epoch)
    | none => false)
  if b.keyBarred then b.fail WRONG_STATE
  else if 4095 < p ∨ typ = 0 ∨ 4 < typ ∨ src = 3 ∨ andNot usage (usageMask typ) ≠ 0 ∨ (4095 < parent ∧ parent ≠ 0xFFFF) ∨
      badRepl ∨ badEpoch then b.fail BAD_ARG
  else if (b.pocket p).isSome then b.fail EXISTS
  else if repl ≠ 0xFFFF ∧ b.key.pockets.any (fun e => e.2.state == 1 && e.2.partner == repl) then b.fail EXISTS
  else
    let pk : Sum Nat (List Nat × Nat) :=
      if parent = 0xFFFF then .inr (kek (b.t Reg.KEY_TEST_ROOT), 0)
      else match b.pocket parent with
        | none => .inl KEY_INVALID
        | some x => match b.unwrapped x with
          | none => .inl KEY_INVALID
          | some k => if x.state ≠ PS.ACTIVE then .inl KEY_INVALID
            else if !bit x.usage 5 then .inl DENIED else .inr (keyOctets k, x.epoch)
    match pk with
    | .inl c => b.fail c
    | .inr (wk, pe) =>
      let n := keyLen typ
      let fr := b.free 32
      let mat : Option KeyT := match src with
        | 0 => some (.raw (b.argKey n))
        | 1 => (kwUnwrap wk (b.argKey (n + 8))).map KeyT.raw
        | _ => some (if typ = 3 then .scalar fr.1 else .made fr.1 n)
      match mat with
      | none => b.fail AUTH_FAIL
      | some k =>
        let oct := keyOctets k
        if !keyInRange typ oct then b.fail BAD_ARG
        else if !mramOk then b.commitFail.fail ECC_FAULT
        else
          let b1 := if src = 2 then fr.2 else b
          let x : Pocket := { state := PS.BASTED, typ := typ, usage := usage, parent := parent, partner := repl, epoch := epoch,
                              parentEpoch := pe, key := some k, wrapped := kwWrap wk oct, test := b.t Reg.KEY_TEST_ROOT }
          let v := keyCheck typ oct
          (b1.commitPocket p (some x)).done [v % 2 ^ 32, v / 2 ^ 32 % 2 ^ 32]

/-- A pocket's KCV, its first octet lowest; zero once zeroised. -/
def Pocket.kcv (x : Pocket) : Nat := match x.key with
  | some k => keyCheck x.typ (keyOctets k)
  | none => 0
/-- The record of a pocket (R351): `pe`, `w`, `gen` are PARENT_EPOCH, WRAPPED and GEN as they stand in it. -/
def Pocket.octets (x : Pocket) (pe : Nat) (w : List Nat) (gen : Nat) : List Nat :=
  let l := [x.state + 8 * b2n x.verified + 16 * b2n x.promoting + 32 * b2n x.rewrap, x.typ] ++ leBytes x.usage 2 ++ leBytes x.parent 2 ++
    leBytes x.partner 2 ++ leBytes x.epoch 4 ++ leBytes pe 4 ++ leBytes x.stateStitch 4 ++ leBytes x.retireAt 4 ++ leBytes x.kcv 8 ++
    (w ++ List.replicate 88 0).take 88 ++ leBytes gen 4
  l ++ leBytes (crc32 l) 4
/-- The record of an EMPTY pocket is zero but for GEN and CRC. -/
def emptyRecord (gen : Nat) : List Nat := let l := List.replicate 120 0 ++ leBytes gen 4; l ++ leBytes (crc32 l) 4
/-- The record of a pocket as MRAM holds it. -/
def Chip.pocketRecord (b : Chip) (p : Nat) : List Nat :=
  match b.pocket p with
  | some x => x.octets x.parentEpoch x.wrapped (b.pocketGen p)
  | none => emptyRecord (b.pocketGen p)

def Chip.keyVerify (b : Chip) : CmdOut :=
  let p := b.arg cbKEY 0
  if b.keyBarred then b.fail WRONG_STATE
  else if 4095 < p then b.fail BAD_ARG
  else match b.pocket p with
    | none => b.fail WRONG_STATE
    | some x =>
      if x.state ≠ PS.BASTED then b.fail WRONG_STATE
      else
        if x.kcv = b.arg cbKEY 1 + b.arg cbKEY 2 * 2 ^ 32 then (b.commitPocket p (some { x with verified := true })).done []
        else (b.inc Reg.KEY_VERIFY_FAIL).fail AUTH_FAIL

/-- Put a pocket in line for its boundary. -/
def Chip.promoteWait (b : Chip) (q : Nat) : Chip :=
  if b.key.waiting.contains q then b
  else (b.modPocket q (fun x => { x with promoting := true })).keyCounts |> fun c =>
    { c with key := { c.key with waiting := c.key.waiting ++ [q] } }

/-- PROMOTE: it stays BUSY until its boundary. -/
def Chip.keyPromote (b : Chip) : Sum Chip CmdOut :=
  let q := b.arg cbKEY 0
  if b.keyBarred then .inr (b.fail WRONG_STATE)
  else if 4095 < q then .inr (b.fail BAD_ARG)
  else match b.pocket q with
    | none => .inr (b.fail WRONG_STATE)
    | some x =>
      if x.state ≠ PS.BASTED ∨ ¬ x.verified ∨ (x.partner ≠ 0xFFFF ∧ !b.pocketIn x.partner PS.ACTIVE) then .inr (b.fail WRONG_STATE)
      else
        let go := fun (c : Chip) => (Sum.inl { c with key := { c.key with cmd := some q } } : Sum Chip CmdOut)
        if b.key.waiting.contains q then go b
        else
          let ms := b.key.pockets.filter (fun e => bit e.2.usage 1 && (e.2.state == 2 || b.key.waiting.contains e.1))
          if bit x.usage 1 && decide (4 ≤ ms.length) then .inr (b.fail NO_RESOURCE)
          else if bit x.usage 1 && ms.any (fun e => e.2.epoch == x.epoch) then .inr (b.fail EXISTS)
          else go (b.promoteWait q)

def Chip.keyInvalidate (b : Chip) : CmdOut :=
  let p := b.arg cbKEY 0
  if b.keyBarred then b.fail WRONG_STATE
  else if 4095 < p then b.fail BAD_ARG
  else match b.pocket p with
    | none => b.fail WRONG_STATE
    | some x =>
      if x.state = PS.ORPHANED then b.fail WRONG_STATE
      else
        let r := b.invalidate p
        (r.1.holdKeys b.key).done [r.2.1, r.2.2]

/-- ERASE; a promotion that waits for the pocket ends with it, and its key is zeroised (R355, R374). -/
def Chip.keyErase (b : Chip) : CmdOut :=
  let p := b.arg cbKEY 0
  if b.keyBarred then b.fail WRONG_STATE
  else if 4095 < p then b.fail BAD_ARG
  else match b.pocket p with
    | none => b.fail WRONG_STATE
    | some x =>
      if x.state = PS.BASTED then
        let b1 := Chip.inc { b with key := { b.key with waiting := b.key.waiting.filter (· != p) } } Reg.KEY_ZEROISE_CNT
        (b1.commitPocket p none).done []
      else if x.state = PS.ORPHANED ∧ x.key.isNone then (b.commitPocket p none).done []
      else b.fail WRONG_STATE

def Chip.readPocket (b : Chip) : CmdOut :=
  let p := b.arg cbKEY 0
  if 4095 < p then b.fail BAD_ARG
  else b.done (toWords (b.pocketRecord p) 8 ++ [b.pocketGen p])

def Chip.setNodeEpoch (b : Chip) : CmdOut :=
  let e := b.arg cbKEY 0
  if b.keyBarred then b.fail WRONG_STATE
  else if e ≤ b.r Reg.KEY_NODE_EPOCH then b.fail BAD_ARG
  else match b.master e false with
    | none => b.fail KEY_INVALID
    | some (p, _) => (Chip.w { b with key := { b.key with nodeEpoch := e } } Reg.KEY_NODE_EPOCH e).done [p]

def Chip.deriveCheck (b : Chip) : CmdOut :=
  let n := b.arg cbKEY 0
  let e := b.arg cbKEY 1
  if b.pat.nodeCount ≤ n then b.structFail cbKEY
  else if b.ns n = 0 then b.fail NOT_FOUND
  else match b.master e false with
    | none => b.fail KEY_INVALID
    | some (_, x) => match x.key with
      | none => b.fail KEY_INVALID
      | some k =>
        let v := keyCheck 1 (keyOctets (.link k (b.eui n) e))
        (b.inc Reg.KEY_DERIVE_CNT).done [v % 2 ^ 32, v / 2 ^ 32 % 2 ^ 32]

end Sys2Proof.Machine
end

