-- ==== Sys2Proof/Machine/Sec.lean ====
section
/-!
DEFINITION. SEC: frame counters and their reservation, key selection, opening and sealing, and the SEC command block (R324 to
R348, R586).
-/
namespace Sys2Proof.Machine

/-! ### Counters (R339 to R343) -/

/-- The counter ID of a pocket. -/
def pocketCid (p : Nat) : Nat := 131072 + p

/-- The lowest block of allowed parity at or above a ceiling whose end fits (R340). -/
def Chip.nextBlock (b : Chip) (ceiling : Nat) : Option Nat :=
  let k := ceiling / 4096
  let par := b.r Reg.SEC_PARITY
  let n := if par ≠ 0 ∧ k % 2 ≠ par - 1 then k + 1 else k
  if (n + 1) * 4096 ≤ 0xFFFFF000 then some n else none

/-- A counter's record at an epoch of its key: a record of another epoch restarts at zero (R341). -/
def Chip.recAt (b : Chip) (cid epoch : Nat) : Ceil :=
  match kget b.sec.ceil cid with
  | some c => if c.epoch = epoch then c else { epoch := epoch, ceiling := 0 }
  | none => { epoch := epoch, ceiling := 0 }
/-- The blocks that a counter holds at an epoch: none where its record is of another. -/
def Chip.liveAt (b : Chip) (cid epoch : Nat) : Option Live :=
  if (kget b.sec.ceil cid).any (fun (c : Ceil) => c.epoch == epoch) then kget b.sec.live cid else none

/-- What a reservation answers: the first value of the block, exhausted, or a failed commit. -/
inductive Resv where
  | block (start : Nat)
  | exhausted
  | failed
  deriving DecidableEq, Repr

/-- Reserve the next block and commit the ceiling; a commit that fails leaves the record as it was (R340, R341, R343). -/
def Chip.reserve (b : Chip) (cid epoch : Nat) (mramOk : Bool) : Chip × Resv :=
  let c := b.recAt cid epoch
  match b.nextBlock c.ceiling with
  | none => (b, .exhausted)
  | some k =>
    if !mramOk then ((b.inc Reg.SEC_CEIL_WRITE_FAIL).raise Src.SEC N.CEIL_FAULT (argW cid ECC_FAULT), .failed)
    else
      let stop := (k + 1) * 4096
      let b1 := Chip.inc { b with sec := { b.sec with ceil := kput b.sec.ceil cid { c with ceiling := stop } } } Reg.SEC_BLOCKS_RESERVED
      let mark := b.r Reg.SEC_FC_LOW_MARK
      let b2 := if c.ceiling ≤ mark ∧ mark < stop then b1.raise Src.SEC N.FC_LOW (argW cid stop) else b1
      (b2, .block (k * 4096))

def Chip.putLive (b : Chip) (cid : Nat) (l : Live) : Chip := { b with sec := { b.sec with live := kput b.sec.live cid l } }

/-- Move a counter to its next block: one reserved ahead, or a new one. -/
def Chip.advance (b : Chip) (cid epoch : Nat) (mramOk : Bool) : Chip × Resv :=
  match (b.liveAt cid epoch).bind (fun l => l.more.head?.map (fun k => (k, l.more.drop 1))) with
  | some (k, t) => (b.putLive cid { next := k, stop := k + 4096, more := t }, .block k)
  | none =>
    match b.reserve cid epoch mramOk with
    | (b1, .block k) => (b1.putLive cid { next := k, stop := k + 4096 }, .block k)
    | r => r

/-- The next block in the background, when NEXT has reached CEILING − RESERVE_AHEAD (R340). -/
def Chip.reserveAhead (b : Chip) (cid epoch : Nat) (mramOk : Bool) : Chip :=
  match b.liveAt cid epoch with
  | some l =>
    if l.more.isEmpty ∧ l.stop ≤ l.next + b.r Reg.SEC_RESERVE_AHEAD then
      match b.reserve cid epoch mramOk with
      | (b1, .block k) => b1.putLive cid { l with more := [k] }
      | (b1, _) => b1
    else b
  | none => b

/-- A seal takes a counter value (R334, R340, R341). -/
def Chip.takeFc (b : Chip) (cid epoch : Nat) (mramOk : Bool) : Chip × Resv :=
  let r : Chip × Resv := match b.liveAt cid epoch with
    | some l => if l.next < l.stop then (b, Resv.block l.next) else b.advance cid epoch mramOk
    | none => b.advance cid epoch mramOk
  match r with
  | (b2, .block v) =>
    match b2.liveAt cid epoch with
    | some l => ((b2.putLive cid { l with next := v + 1 }).reserveAhead cid epoch mramOk, .block v)
    | none => (b2, .block v)
  | r => r

/-- The present epoch of the key a counter serves; with no key there, that of its record. -/
def Chip.cidEpoch (b : Chip) (cid : Nat) : Nat :=
  let held := match kget b.sec.ceil cid with
    | some c => c.epoch
    | none => 0
  if cid < 131072 then (if b.ns cid = NS.EMPTY then held else b.nd cid Cx.KEY_EPOCH)
  else match b.pocket (cid - 131072) with
    | some x => x.epoch
    | none => held

/-- The next value that a seal would take (R345). -/
def Chip.nextFc (b : Chip) (cid : Nat) : Nat :=
  let e := b.cidEpoch cid
  let fresh := match b.nextBlock (b.recAt cid e).ceiling with
    | some k => k * 4096
    | none => 0xFFFFFFFF
  match b.liveAt cid e with
  | none => fresh
  | some l => if l.next < l.stop then l.next else l.more.headD fresh

/-- At a start, and when the device changes its role, the unused rest of every block is abandoned (R342, R345). -/
def Chip.dropBlocks (b : Chip) : Chip := { b with sec := { b.sec with live := [] } }

/-! ### Finding keys (R328 to R330) -/

/-- A key that has been found: its material and how its own frames are counted. -/
structure Found where
  key : KeyT
  cid : Nat
  epoch : Nat
  pocket : Option Nat := none

/-- A pocket's key for a use. -/
def Chip.findPocket (b : Chip) (p use : Nat) : Sum Nat Found :=
  match b.pocketKey p 1 use with
  | .inl c => .inl c
  | .inr k => .inr { key := k, cid := pocketCid p, epoch := b.cidEpoch (pocketCid p), pocket := some p }

/-- A node's link key at its context's epoch. -/
def Chip.findLink (b : Chip) (n : Nat) : Chip × Sum Nat Found :=
  let e := b.nd n Cx.KEY_EPOCH
  match b.linkKey n e with
  | (b1, .inl c) => (b1, .inl c)
  | (b1, .inr k) => (b1, .inr { key := k, cid := n, epoch := e })

/-- The valid KEY_MAP entry of a mode, source and index. -/
def Chip.findMap (b : Chip) (mode source index : Nat) : Option MapEnt :=
  (b.sec.map.find? (fun e => e.2.valid && e.2.mode == mode && e.2.source == source && e.2.index == index)).map (·.2)

def Chip.mapKey (b : Chip) (mode source index : Nat) : Sum Nat Found :=
  match b.findMap mode source index with
  | some e => b.findPocket e.pocket 4
  | none => .inl NOT_FOUND

/-- The key of an inbound frame (R328); `n` is the node context that its source resolves to. -/
def Chip.findKey (b : Chip) (a : Aux) (n : Option Nat) : Chip × Sum Nat Found :=
  let index := fun (k : Nat) => b.nd k Cx.KEY_INDEX == a.index
  match a.mode, n with
  | 1, n =>
    let pockets : Sum Nat Found :=
      if b.t Reg.SEC_BEACON_PK_EN && a.index == b.r Reg.SEC_BEACON_INDEX then b.findPocket (b.r Reg.SEC_BEACON_POCKET) 2
      else if b.t Reg.SEC_BCAST_PK_EN && a.index == b.r Reg.SEC_BCAST_INDEX then b.findPocket (b.r Reg.SEC_BCAST_POCKET) 3
      else if n.isSome then b.mapKey 1 0 a.index else .inl NOT_FOUND
    match n with
    | none => (b, pockets)
    | some k =>
      if a.index = b.r Reg.MAC_KEY_INDEX_JOIN then (b, b.findPocket (b.nd k Cx.INSTALL_POCKET) 0)
      else if index k then b.findLink k else (b, pockets)
  | 2, _ => (b, b.mapKey 2 (a.source % 2 ^ 32) a.index)
  | 3, some k => if a.source = b.eui k ∧ index k then b.findLink k else (b, b.mapKey 3 a.source a.index)
  | _, _ => (b, b.mapKey 3 a.source a.index)

/-! ### Opening (R325, R326, R331, R360) -/

/-- A level encrypts. -/
def encLevel (l : Nat) : Bool := decide (4 ≤ l)
/-- A frame of the level carries an integrity code (R325). -/
def authLevel (l : Nat) : Bool := l != 0 && l != 4
/-- The level meets R325 for a data or command frame of a node. -/
def Chip.levelOk (b : Chip) (a : Aux) (n : Nat) : Bool :=
  let m := b.nd n Cx.SEC_LEVEL_MIN
  if a.mode == 1 && a.index == b.r Reg.MAC_KEY_INDEX_JOIN then decide (5 ≤ a.level)
  else if a.level = 4 then b.t Reg.SEC_ALLOW_L4 && m == 4
  else decide (micLen m ≤ micLen a.level) && (encLevel a.level || !encLevel m)
/-- A frame's level lets it be opened: that of a data or command frame of a node meets R325, and level 4 is accepted of such a node alone. -/
def Chip.levelMeets (b : Chip) (f : MacFrame) (a : Aux) (n : Option Nat) : Bool :=
  if f.ftype == 1 || f.ftype == 3 || (a.mode == 1 && a.index == b.r Reg.MAC_KEY_INDEX_JOIN) then n.all (b.levelOk a)
  else a.level != 4 || (b.t Reg.SEC_ALLOW_L4 && n.any (fun k => b.nd k Cx.SEC_LEVEL_MIN == 4))

/-- The CCM* nonce: the source's extended address, the frame counter, the level (R327). -/
def ccmNonce (src fc level : Nat) : List Nat := beBytes src 8 ++ beBytes fc 4 ++ [level]
/-- The octets ahead of what a secured frame encrypts: its headers, and the command ID of a command frame of version 0 or 1. -/
def MacFrame.clearLen (f : MacFrame) (a : Aux) : Nat := f.mhr + a.len + f.ieLen + (if f.ftype = 3 ∧ f.ver < 2 then 1 else 0)
/-- The MIC of a frame: over its headers, and over its payload in the clear. -/
def frameMic (ks : List (List Nat)) (nonce head text : List Nat) (level : Nat) : List Nat :=
  if encLevel level then ccmMic ks nonce head text (micLen level) else ccmMic ks nonce (head ++ text) [] (micLen level)
/-- A frame secured under a key by its sender: its payload enciphered where the level encrypts, and its MIC behind it (R324). -/
def ccmSeal (key : List Nat) (src : Nat) (p : List Nat) : List Nat :=
  let f := readFrame p
  match f.aux with
  | none => p
  | some a =>
    let ks := aesKeys key
    let nonce := ccmNonce src a.fc a.level
    let head := p.take (f.clearLen a)
    let text := p.drop (f.clearLen a)
    head ++ (if encLevel a.level then ccmStream ks nonce text else text) ++ frameMic ks nonce head text a.level
/-- A secured frame opened under a key: the frame in the clear, without its MIC; none where the MIC does not verify. -/
def ccmOpen (key : List Nat) (src : Nat) (p : List Nat) : Option (List Nat) :=
  let f := readFrame p
  match f.aux with
  | none => some p
  | some a =>
    let ks := aesKeys key
    let nonce := ccmNonce src a.fc a.level
    let m := micLen a.level
    let head := p.take (f.clearLen a)
    let body := (p.take (p.length - m)).drop (f.clearLen a)
    let text := if encLevel a.level then ccmStream ks nonce body else body
    if frameMic ks nonce head text a.level = p.drop (p.length - m) then some (head ++ text) else none

/-- The pocket whose BASTED key replaces a network key's pocket (R353, R360). -/
def Chip.trialOf (b : Chip) (p : Nat) : Option (Nat × Pocket) :=
  if !(b.pocket p).any (fun (x : Pocket) => bit x.usage 2 || bit x.usage 3 || bit x.usage 4) then none
  else b.key.pockets.find? (fun e => e.2.state == 1 && e.2.partner == p && e.2.typ == 1)

/-- Only the trial key's MIC verifies: the pocket becomes VERIFIED and is counted, and is promoted where AUTO_PROMOTE is set (R360). -/
def Chip.trialOk (b : Chip) (q : Nat) : Chip :=
  if !b.pocketIn q PS.BASTED then b
  else
    let b1 := if (b.pocket q).any (fun (x : Pocket) => x.verified) then b
      else (b.modPocket q (fun x => { x with verified := true })).inc Reg.KEY_TRIAL_VERIFY
    if b1.t Reg.KEY_AUTO_PROMOTE then b1.promoteWait q else b1

/-- A frame that SEC has opened: its auxiliary header, the pocket or the counter ID of the key, and the frame in the clear. -/
structure SecOpened where
  aux : Aux
  pocket : Option Nat
  cid : Nat
  clear : List Nat
  deriving DecidableEq, Repr

/-- A verdict other than OK, counted. -/
def Chip.verdict (b : Chip) (code : Nat) (f : Fld) : Chip × Sum Nat SecOpened := (b.inc f, .inl code)

/-- What SEC judges: the frame as it was received without its FCS, its source's extended address, the node context, the PSDU's octets and its
FCS octets, whether it is a beacon whose extended source is the partner's, and the key store as it stood when the open started. -/
structure OpenIn where
  psdu : List Nat
  src : Nat
  n : Option Nat
  len : Nat
  fcs : Nat
  peer : Bool := false
  keys : Key

/-- SEC judges a secured frame (R331, R586). The keys are those of the open's start; what the open changes, it changes in the store as it stands
(R332, R336). -/
def Chip.openFrame (b : Chip) (f : MacFrame) (a : Aux) (x : OpenIn) : Chip × Sum Nat SecOpened :=
  if a.mode = 0 ∨ a.fcSuppressed ∨ a.asn ∨ a.rsv then b.verdict BAD_ARG Reg.SEC_HDR_ERR
  else if x.len < f.mhr + a.len + f.ieLen + micLen a.level + x.fcs then b.verdict BAD_LENGTH Reg.SEC_SEC_LEN_ERR
  else if !b.levelMeets f a x.n then b.verdict DENIED Reg.SEC_LEVEL_ERR
  else
    let held : Chip := { b with key := x.keys }
    let b1 := (b.findKey a x.n).1
    match (held.findKey a x.n).2 with
    | .inl c =>
      if c = KEY_ORPHANED then b1.verdict c Reg.SEC_RX_ORPHANED else b1.verdict c Reg.SEC_NO_KEY
    | .inr k =>
      let trial := k.pocket.bind held.trialOf
      let own := ccmOpen (keyOctets k.key) x.src x.psdu
      let tried := if authLevel a.level then (trial.bind (fun e => held.unwrapped e.2)).bind (fun t => ccmOpen (keyOctets t) x.src x.psdu) else none
      match own.orElse (fun _ => tried) with
      | none =>
        let b2 := match x.n with
          | some i => b1.ndAdd i Cx.RX_AUTH_FAIL 1
          | none => b1
        b2.verdict AUTH_FAIL Reg.SEC_AUTH_FAIL
      | some clear =>
        let b2 := match trial with
          | some (q, _) => if own.isSome then b1 else b1.trialOk q
          | none => b1
        let judged := x.peer && authLevel a.level
        if judged && decide (a.fc ≤ b2.r Reg.SEC_PEER_BEACON_FC) then b2.verdict REPLAY Reg.SEC_PAIR_REPLAY
        else
          let b3 := if judged then b2.w Reg.SEC_PEER_BEACON_FC a.fc else b2
          (b3.inc Reg.SEC_OPEN_OK, .inr { aux := a, pocket := k.pocket, cid := k.cid, clear := clear })

/-! ### Sealing (R333 to R335) -/

/-- What a frame the device sends is. -/
inductive SealKind where
  | node (n : Nat)
  | join (n : Nat)
  | beacon
  | bcast
  deriving DecidableEq, Repr

/-- A seal whose key has been found. -/
def sealOf (f : Found) (level index : Nat) : Seal :=
  { key := f.key, cid := f.cid, epoch := f.epoch, level := level, mode := 1, source := 0, index := index, pocket := f.pocket }

/-- A pocket's seal. -/
def Chip.pocketSeal (b : Chip) (p use level index : Nat) : Sum (Nat × Nat) Seal :=
  match b.findPocket p use with
  | .inl c => .inl (pocketCid p, c)
  | .inr f => .inr (sealOf f level index)

/-- The level and index under which a frame is secured (R333): level 0 for one that is sent unsecured. -/
def Chip.sealLevel (b : Chip) (k : SealKind) : Nat × Nat :=
  match k with
  | .node n => (max (b.nd n Cx.SEC_LEVEL_MIN) (b.r Reg.SEC_DL_LEVEL), b.nd n Cx.KEY_INDEX)
  | .join _ => (7, b.r Reg.MAC_KEY_INDEX_JOIN)
  | .beacon => (if b.t Reg.SEC_BEACON_PK_EN then b.r Reg.SEC_BEACON_LEVEL else 0, b.r Reg.SEC_BEACON_INDEX)
  | .bcast => (if b.t Reg.SEC_BCAST_PK_EN then b.r Reg.SEC_BCAST_LEVEL else 0, b.r Reg.SEC_BCAST_INDEX)

/-- The key, level and counter of a frame (R333): the counter ID and the code of a refusal, none for an unsecured frame. -/
def Chip.sealKey (b : Chip) (k : SealKind) : Chip × Sum (Nat × Nat) (Option Seal) :=
  let li := b.sealLevel k
  let some' := fun (r : Sum (Nat × Nat) Seal) => match r with
    | .inl e => (Sum.inl e : Sum (Nat × Nat) (Option Seal))
    | .inr s => .inr (some s)
  if li.1 = 0 then (b, .inr none)
  else match k with
    | .node n => match b.findLink n with
      | (b1, .inl c) => (b1, .inl (n, c))
      | (b1, .inr f) => (b1, .inr (some (sealOf f li.1 li.2)))
    | .join n => (b, some' (b.pocketSeal (b.nd n Cx.INSTALL_POCKET) 0 li.1 li.2))
    | .beacon => (b, some' (b.pocketSeal (b.r Reg.SEC_BEACON_POCKET) 2 li.1 li.2))
    | .bcast => (b, some' (b.pocketSeal (b.r Reg.SEC_BCAST_POCKET) 3 li.1 li.2))

/-- A seal fails for want of a key (R335). -/
def Chip.sealKeyFail (b : Chip) (cid code : Nat) : Chip :=
  (b.inc Reg.SEC_SEAL_KEY_FAIL).noteFirst N.SEAL_KEY_FAIL (cid + code * 2 ^ 20) 1
/-- A seal fails for want of a counter value (R335, R343). -/
def Chip.sealFcFail (b : Chip) (cid : Nat) (r : Resv) : Chip :=
  let b1 := b.inc Reg.SEC_SEAL_FC_FAIL
  if r = .exhausted then b1.noteFirst N.FC_EXHAUSTED cid 1 else b1

/-- The key point of a frame of R333 (R334, R335): the block after it, and its seal and counter value, or the failure. -/
def Chip.sealFrame (b : Chip) (k : SealKind) (mramOk : Bool) : Chip × Option (Option (Seal × Nat)) :=
  match b.sealKey k with
  | (b1, .inl (cid, code)) => (b1.sealKeyFail cid code, none)
  | (b1, .inr none) => (b1, some none)
  | (b1, .inr (some s)) =>
    match b1.takeFc s.cid s.epoch mramOk with
    | (b2, .block v) => (b2, some (some (s, v)))
    | (b2, r) => (b2.sealFcFail s.cid r, none)

/-- The key point of an acknowledgement: the key that the acknowledged frame names is resolved as it now stands, and its counter taken (R333 to
R336). -/
def Chip.sealAck (b : Chip) (a : Aux) (n : Nat) (mramOk : Bool) : Chip × Option (Seal × Nat) :=
  match b.findKey a (some n) with
  | (b1, .inl _) => (b1.inc Reg.SEC_ACK_KEY_FAIL, none)
  | (b1, .inr f) =>
    match b1.takeFc f.cid f.epoch mramOk with
    | (b2, .block v) =>
      (b2, some ({ key := f.key, cid := f.cid, epoch := f.epoch, level := a.level, mode := a.mode, source := a.source, index := a.index,
                   pocket := f.pocket }, v))
    | (b2, r) => ((if r = .exhausted then b2.noteFirst N.FC_EXHAUSTED f.cid 1 else b2).inc Reg.SEC_ACK_KEY_FAIL, none)

/-! ### Commands (R345) -/

def Chip.cidOk (b : Chip) (cid : Nat) : Bool := decide (cid < b.pat.nodeCount ∨ (131072 ≤ cid ∧ cid ≤ 135167))

def Chip.readCounter (b : Chip) : CmdOut :=
  let cid := b.arg cbSEC 0
  if !b.cidOk cid then b.fail BAD_ARG
  else match kget b.sec.ceil cid with
    | none => b.fail NOT_FOUND
    | some c => b.done [b.nextFc cid, c.ceiling, c.epoch, b.r Reg.SEC_PARITY]

/-- ARG1 of a KEY_MAP entry. -/
def MapEnt.word (e : MapEnt) : Nat := e.mode + e.index * 2 ^ 8 + e.pocket * 2 ^ 16 + b2n e.valid * 2 ^ 31

def Chip.mapWrite (b : Chip) : CmdOut :=
  let i := b.arg cbSEC 0
  let w := b.arg cbSEC 1
  let e : MapEnt := { valid := bit w 31, mode := bits w 0 2, index := bits w 8 8, pocket := bits w 16 12,
                      source := b.arg cbSEC 2 + b.arg cbSEC 3 * 2 ^ 32 }
  let width := if e.mode = 1 then 0 else if e.mode = 2 then 32 else 64
  if 31 < i ∨ e.mode = 0 ∨ e.index = 0 ∨ 2 ^ width ≤ e.source then b.fail BAD_ARG
  else if e.valid && b.sec.map.any (fun x => x.1 != i && x.2.valid && x.2.mode == e.mode && x.2.source == e.source && x.2.index == e.index) then
    b.fail EXISTS
  else
    let old := match kget b.sec.map i with
      | some x => x.word
      | none => 0
    let m := kput b.sec.map i e
    (Chip.w { b with sec := { b.sec with map := m } } Reg.SEC_MAP_USED (m.filter (fun x => x.2.valid)).length).done [old]

def Chip.mapRead (b : Chip) : CmdOut :=
  let i := b.arg cbSEC 0
  if 31 < i then b.fail BAD_ARG
  else match kget b.sec.map i with
    | none => b.done [0, 0, 0]
    | some e => b.done [e.word, e.source % 2 ^ 32, e.source / 2 ^ 32]

def Chip.skipBlock (b : Chip) (mramOk : Bool) : CmdOut :=
  let cid := b.arg cbSEC 0
  if !b.cidOk cid then b.fail BAD_ARG
  else if b.isStandby || b.inGap then b.fail WRONG_STATE
  else match b.advance cid (b.cidEpoch cid) mramOk with
    | (b1, .block v) => b1.done [v]
    | (b1, .exhausted) => b1.fail NO_RESOURCE
    | (b1, .failed) => b1.fail ECC_FAULT

end Sys2Proof.Machine
end

