-- ==== Sys2Proof/Machine/Txp.lean ====
section
/-!
DEFINITION. TXP: carriers, power, the transmit header's checks, the duty tally, outcomes, tones and wake calls (R237 to R257).
-/
namespace Sys2Proof.Machine

/-! ### Frames to send -/

/-- The chain of a frame (R237). -/
def TxF.chain (f : TxF) : Nat := laneGroup f.lane
/-- The end of a frame's last symbol. -/
def TxF.endNs (f : TxF) : Nat := f.t + f.airUs * 1000
def TxF.isAck (f : TxF) : Bool := f.src == TxSrc.ack
/-- A carrier has been granted. -/
def TxF.granted (f : TxF) : Bool := f.phase == TxPhase.taken || f.phase == TxPhase.setup || f.phase == TxPhase.air

def Chip.tf (b : Chip) (id : Nat) : Option TxF := kget b.tx.frames id
def Chip.txPut (b : Chip) (id : Nat) (f : TxF) : Chip := { b with tx := { b.tx with frames := kput b.tx.frames id f } }
def Chip.txDel (b : Chip) (id : Nat) : Chip := { b with tx := { b.tx with frames := kdel b.tx.frames id } }
/-- Plan a frame. -/
def Chip.txNew (b : Chip) (f : TxF) : Chip × Nat :=
  (Chip.txPut { b with tx := { b.tx with nextId := b.tx.nextId + 1 } } b.tx.nextId f, b.tx.nextId)
/-- The frames of a chain. -/
def Chip.chainTx (b : Chip) (c : Nat) : List (Nat × TxF) := b.tx.frames.filter (fun e => e.2.chain == c)
/-- Carriers of a chain on air, and those on air or past their setup point. -/
def Chip.airNow (b : Chip) (c : Nat) : Nat := ((b.chainTx c).filter (fun e => e.2.phase == TxPhase.air)).length
def Chip.busyNow (b : Chip) (c : Nat) : Nat :=
  ((b.chainTx c).filter (fun e => e.2.phase == TxPhase.air || e.2.phase == TxPhase.setup)).length
/-- The ON_AIR registers (R258). -/
def Chip.onAir (b : Chip) : Chip := (List.range 4).foldl (fun c i => c.w (Reg.TXP_ON_AIR i) (c.airNow i)) b

/-- The set's request ends with the last carrier of its chains, unless a frame for which it has been asserted is still to come (R185). -/
def Chip.coexRelease (b : Chip) (c : Nat) : Chip :=
  let set := coexSet c
  if b.tx.frames.any (fun e => coexSet e.2.chain == set && (e.2.req || e.2.phase == TxPhase.air || e.2.phase == TxPhase.setup)) then b
  else (b.wb (Reg.RFC_CX_REQ set) false).wb (Reg.RFC_CX_PRI set) false

/-! ### Carriers and power (R239 to R241, R525) -/

/-- CARRIER_CAP by CARRIERS. -/
def carrierCap (n : Nat) : Nat := match n with
  | 1 => 140
  | 2 => 109
  | 3 => 92
  | _ => 79

/-- The limit that the thermal governor's clamp sets (R525). -/
def Chip.clampTo (b : Chip) : Nat := match b.r Reg.PWR_CARRIER_CLAMP with
  | 0 => 4
  | 1 => 2
  | _ => 1

/-- CARRIERS takes effect while the chain has no carrier on air. -/
def Chip.carriersApply (b : Chip) (c : Nat) : Chip :=
  if b.airNow c ≠ 0 then b
  else
    let n := min (b.r (Reg.TXP_CARRIERS c)) b.clampTo
    Chip.w { b with tx := { b.tx with carriers := kset 1 b.tx.carriers c n } } (Reg.TXP_CARRIER_CAP c) (carrierCap n)

/-- The power of a carrier in 0.1 dBm, in steps of 0.5 dB rounded down; the lowest setting is −10 dBm (R240, R574). -/
def Chip.carrierPower (b : Chip) (c : Nat) (p : Int) : Int :=
  max (-100) (min (min p (b.rs (Reg.TXP_MAX_POWER c))) (b.rs (Reg.TXP_CARRIER_CAP c)) / 5 * 5)

/-- The chain can send (R238). -/
def Chip.canSend (b : Chip) (c : Nat) : Bool :=
  b.chainExists c && b.t (Reg.TXP_TX_EN c) && !b.t (Reg.TXP_TEST c) && !b.t (Reg.RFC_MUTED c) && !b.t (Reg.RFC_CAL_FAILED c)

/-- Two intervals of time overlap. -/
def spansMeet (f g : TxF) : Bool := decide (f.t < g.endNs ∧ g.t < f.endNs)

/-- The carriers a frame competes with: granted, or of the same take point and an earlier KIND (R242). -/
def Chip.rivals (b : Chip) (id : Nat) (f : TxF) : List TxF :=
  (((b.chainTx f.chain).filter (fun e => e.1 != id && spansMeet f e.2 &&
    (e.2.granted || (e.2.phase == TxPhase.keyed && e.2.t == f.t && decide (e.2.kind < f.kind))))).map (·.2))

/-- The most carriers of a list that a frame meets at one instant: where it starts, or where one of them does. -/
def TxF.meets (f : TxF) (l : List TxF) : Nat :=
  ((f.t :: l.map (·.t)).map (fun t => (l.filter (fun g => decide (f.t ≤ t ∧ g.t ≤ t ∧ t < g.endNs))).length)).foldl max 0
/-- A carrier is granted: at no instant does the chain hold more than CARRIERS, and no channel is shared (R242, R250). -/
def Chip.grant (b : Chip) (id : Nat) (f : TxF) : Bool :=
  let l := b.rivals id f
  let hz := b.chanHz f.lane f.chan
  let gap := if b.t (Reg.TXP_MASK_SEL f.chain) then 2 * b.chanBw f.lane else 1
  decide (f.meets l < b.carriers f.chain) && l.all (fun g => decide (gap ≤ dist hz (b.chanHz g.lane g.chan)))

/-! ### The duty tally (R248) -/

def dutyKey (c bk : Nat) : Nat := c * 512 + bk % 360
def Chip.dutySum (b : Chip) (c : Nat) : Nat := ((b.tx.duty.filter (fun e => e.1 / 512 == c)).map (·.2)).sum
/-- Change a bucket, and DUTY_USED with it. -/
def Chip.dutySet (b : Chip) (c bk : Nat) (f : Nat → Nat) : Chip :=
  let k := dutyKey c bk
  let b1 := { b with tx := { b.tx with duty := kset 0 b.tx.duty k (f (kgetD b.tx.duty k 0)) } }
  b1.w (Reg.TXP_DUTY_USED c) (b1.dutySum c)
def Chip.dutyOk (b : Chip) (c us : Nat) : Bool :=
  b.r (Reg.TXP_DUTY_PPM c) == 0 || decide (b.dutySum c + us ≤ b.r (Reg.TXP_DUTY_PPM c) * 3600)
/-- The tally moves to its next bucket. -/
def Chip.dutyRoll (b : Chip) : Chip :=
  let n := b.tx.bucket + 1
  let b1 := { b with tx := { b.tx with bucket := n } }
  (List.range 4).foldl (fun c i => c.dutySet i n (fun _ => 0)) b1

/-! ### Outcomes (R247, R256) -/

/-- DL_COUNT follows the node's list (R417, R294). -/
def Chip.dlSync (b : Chip) (n : Nat) : Chip :=
  if b.pat.nodeCount ≤ n ∨ b.ns n = NS.EMPTY then b
  else
    let k := ((b.q (b.nd n Cx.DL_QUEUE)).nodeItems n).length
    let b1 := b.ndw n Cx.DL_COUNT (min 255 k)
    if k = 0 ∧ b1.nd n Cx.RETRY_NOW ≠ 0 then b1.ndw n Cx.RETRY_NOW 0 else b1

/-- The counter of a code of R244 or R247. -/
def txRejFld (code c : Nat) : Option Fld :=
  if code = NO_RESOURCE then some (Reg.TXP_BUSY_REJ c)
  else if code = DENIED then some (Reg.TXP_DUTY_REJ c)
  else if code = BAD_LENGTH then some (Reg.TXP_LEN_REJ c)
  else if code = BAD_ARG then some (Reg.TXP_MODE_REJ c)
  else if code = ABORTED then some (Reg.TXP_MUTE_ABORT c)
  else none

/-- A frame's item goes back to the head of its order, or is discarded (R244, R256). -/
def Chip.txItem (b : Chip) (f : TxF) (keep : Bool) : Chip :=
  match f.item with
  | none => b
  | some (q, id) => (if keep then b.returnItem q id else b.releaseItem q id).dlSync f.node

/-- The head of a node's list is discarded (R244, for a train that can never be sent). -/
def Chip.dropHead (b : Chip) (n : Nat) : Chip :=
  let q := b.nd n Cx.DL_QUEUE
  match b.presents q n with
  | some i => (b.releaseItem q i.id).dlSync n
  | none => b

/-- A frame that has not been on air is withdrawn: its item goes back, its airtime leaves the tally. -/
def Chip.withdraw (b : Chip) (id : Nat) (f : TxF) : Chip :=
  ((if f.granted then b.dutySet f.chain f.bucket (· - f.airUs) else b).txItem f true).txDel id
/-- The frame is the payload of a train or a call. -/
def TxF.paysFor (g f : TxF) : Bool := match f.src, g.src with
  | .wake c, .payload k => c == k && f.node == g.node
  | _, _ => false
/-- What a carrier that is cut off has been on air for, and the copies of a train that were sent whole: a copy lasts the time between two less
the gap (R253, R258). -/
def Chip.airSpent (b : Chip) (f : TxF) : Chip :=
  if f.phase ≠ TxPhase.air then b
  else
    let us := min f.airUs ((b.nowNs - f.t) / 1000)
    let b1 := b.add (Reg.TXP_AIRTIME_US f.chain) us
    if f.copies = 0 then b1
    else b1.add (Reg.TXP_TRAIN_COPIES f.chain) (min f.copies ((us + b.r (Reg.TXP_TRAIN_GAP f.chain)) / max 1 f.step))
/-- A frame that TXP has taken, or is to take, ends with a code: it leaves the chain and the tally, is counted, and its item goes back or is
discarded (R248, R256). -/
def Chip.txEnded (b : Chip) (id code : Nat) (f : TxF) : Chip :=
  let c := f.chain
  let b1 := (b.airSpent f).txDel id
  let b2 := if f.granted then b1.dutySet c f.bucket (· - f.airUs) else b1
  let b3 := match txRejFld code c with
    | some r => if f.isAck && code != ABORTED then b2 else b2.inc r
    | none => b2
  let b4 := if f.isAck then b3.inc (Reg.TXP_ACK_DROPPED c) else b3
  b4.txItem f (code != BAD_ARG && code != BAD_LENGTH)
/-- A train or a call that has failed takes its payload with it: the whole train is sent again (R254). A payload that had been taken ends with
the same code (R256). -/
def Chip.payloadDrop (b : Chip) (f : TxF) (code : Nat) : Chip :=
  (b.tx.frames.filter (fun e => e.2.paysFor f)).foldl (fun c e =>
    if e.2.granted then c.txEnded e.1 code e.2 else c.withdraw e.1 e.2) b

/-- A frame ends without being sent (R256). -/
def Chip.txFail (b : Chip) (id code : Nat) : Chip :=
  match b.tf id with
  | none => b
  | some f =>
    let c := f.chain
    let keep := code != BAD_ARG && code != BAD_LENGTH
    let b5 := b.txEnded id code f
    let b6 := match f.src with
      | .wake _ => (if keep then b5 else b5.dropHead f.node).payloadDrop f code
      | .call =>
        let b7 : Chip := { b5 with tx := { b5.tx with call := none } }
        b7.cmdFinish cbTXP code []
      | _ => b5
    (b6.onAir).coexRelease c

/-- The per-stitch count of TX_LATE of a group and cause: 0 SETTLE, 1 CAL (R182). -/
def kLate (g cause : Nat) : Nat := N.TX_LATE * 2 ^ 16 + g * 256 + cause
/-- A frame fails LATE (R176, R180, R181, R247). -/
def Chip.txLate (b : Chip) (id cause : Nat) : Chip :=
  match b.tf id with
  | none => b
  | some f =>
    let g := f.chain
    ((b.inc (if cause = 0 then Reg.RFC_SETTLE_LATE_CNT g else Reg.RFC_CAL_LATE_CNT g)).note (kLate g cause) 1).txFail id LATE

/-- The per-stitch count of COEX_DENY of a set (R186). -/
def kDeny (set : Nat) : Nat := N.COEX_DENY * 2 ^ 16 + set
/-- The per-stitch count of DUTY_LIMIT of a chain (R248). -/
def kDuty (c : Nat) : Nat := N.DUTY_LIMIT * 2 ^ 16 + c

/-! ### The take point (R244, R251, R254) -/

/-- The transmit header of a frame (R243). -/
def TxF.header (f : TxF) : List Nat :=
  [f.lane, f.chan, f.modeBit % 16 + 16 * laneBand f.lane + 64 * b2n f.fec, f.mcs] ++ leBytes f.len 2 ++
  [b2n f.fcs2 + 2 * b2n f.whiten + 4 * (f.kind % 8), f.reach % 4] ++ leBytes (f.node % 2 ^ 17) 4 ++ leBytes (ofS f.power 16) 2 ++ [0, 0]
/-- The reserved fields of an item's header are zero, and its BAND is a band (R244). -/
def headerOk (h : List Nat) : Bool :=
  h.getD 2 0 / 128 == 0 && h.getD 2 0 / 16 % 4 != 3 && h.getD 5 0 / 8 == 0 && h.getD 6 0 / 32 == 0 && decide (h.getD 6 0 / 4 % 8 ≤ 5) &&
  h.getD 7 0 / 4 == 0 && h.getD 7 0 % 4 != 3 && h.getD 10 0 / 2 == 0 && h.getD 11 0 == 0 && h.getD 14 0 == 0 && h.getD 15 0 == 0
/-- The verdict of R244 on a header: the code of the first check that fails. -/
def Chip.headCheck (b : Chip) (id : Nat) (f : TxF) : Option Nat :=
  let d := laneBand f.lane
  let queued := !f.hdr.isEmpty
  let train := match f.src with
    | .wake _ => f.reach == 1
    | _ => false
  let fits := match f.src with
    | .wake _ => decide (f.t + (f.airUs + f.gapUs + f.payUs) * 1000 ≤ f.limit)
    | .payload _ => decide (f.endNs ≤ f.limit)
    | _ => true
  let keyed := f.reach == 2 && f.kind == 4 && f.psdu.isEmpty
  if !b.chanOk f.lane f.chan || b.rxOnly f.lane f.chan || (queued && !headerOk f.hdr) then some BAD_ARG
  else if queued && f.hdr.getD 2 0 / 16 % 4 != d then some BAD_ARG
  else if train && b.nd f.node Cx.SHORT_ADDR == 0xFFFE then some BAD_ARG
  else if !keyed && (!b.modeOn d f.modeBit || !mcsOk d f.modeBit f.mcs) then some BAD_ARG
  else if !keyed && (f.len == 0 || decide (f.len ≤ (if f.fcs2 then 2 else 4)) ||
    decide ((if d = 2 then 127 else b.pat.maxPsdu) < f.len)) then some BAD_LENGTH
  else if !b.canSend f.chain || !b.grant id f || !fits then some NO_RESOURCE
  else if !f.isAck && !b.dutyOk f.chain f.airUs then some DENIED
  else none

/-- The shift of a frame at its take point, and whether it was clamped (R251). -/
def Chip.precomp (b : Chip) (f : TxF) : Int × Bool :=
  let c := f.chain
  let valid := decide (f.node < b.pat.nodeCount) && f.kind != 1 && f.kind != 3 && !(f.reach == 2 && f.psdu.isEmpty)
  if !b.t (Reg.TXP_PRECOMP_EN c) || !valid then (0, false)
  else
    let x := (if f.isAck then f.shift else b.nds f.node Cx.CFO_PPB) - (b.rs Reg.RFC_FREQ_TRIM - (b.grp c).lag)
    let lim : Int := b.r (Reg.TXP_PRECOMP_LIMIT c)
    (clampI (-lim) lim x, decide (lim < x ∨ x < -lim))

/-- The payload of a train keeps the shift of the train's first copy (R252). -/
def TxF.keepsShift (f : TxF) : Bool := match f.src with
  | .payload _ => f.reach == 1
  | _ => false
/-- A carrier is granted and the airtime added (R240, R242, R248, R251). -/
def Chip.txGrant (b : Chip) (id : Nat) (f : TxF) : Chip :=
  let c := f.chain
  let pc := if f.keepsShift then (f.shift, false) else b.precomp f
  let b1 := if pc.2 then b.inc (Reg.TXP_PRECOMP_CLAMP c) else b
  let b2 := b1.dutySet c b1.tx.bucket (· + f.airUs)
  b2.txPut id { f with phase := .taken, power := b.carrierPower c f.power, bucket := b2.tx.bucket, shift := pc.1 }

/-- The end of LOCK or CAL of a group, from its entry, in ns (R180). -/
def Chip.readyNs (b : Chip) (g : Nat) : Nat := (b.grp g).entry + (if b.r (Reg.RFC_STATE g) = 6 then 900000 else 60000)

/-- A frame of a group in LOCK or CAL is held, or fails LATE (R180, R181). -/
def Chip.judge (b : Chip) (id : Nat) : Chip :=
  match b.tf id with
  | none => b
  | some f =>
    let g := f.chain
    let st := b.r (Reg.RFC_STATE g)
    if st ≠ 2 ∧ st ≠ 6 then b
    else if b.readyNs g + 32000 ≤ f.t then b.txPut id { f with held := true }
    else b.txLate id (if st = 6 then 1 else 0)

/-- Every frame taken for a group and not yet on air is judged again (R179, R181). -/
def Chip.judgeAll (b : Chip) (g : Nat) : Chip :=
  ((b.chainTx g).filter (fun e => e.2.phase == TxPhase.taken)).foldl (fun c e => c.judge e.1) b

/-! ### Ends (R183, R241, R256) -/

/-- A step of the trim reaches the groups: one in TX takes it when it leaves TX (R183). -/
def Chip.trimLag (b : Chip) (d : Int) : Chip :=
  (List.range 4).foldl (fun (c : Chip) g =>
    if c.r (Reg.RFC_STATE g) = 5 then c.putGrp g { c.grp g with lag := (c.grp g).lag + d } else c) b
/-- The frequency trim of a stitch (R183); a reception whose SFD is still to come takes the new value (R226). -/
def Chip.trimStep (b : Chip) : Chip :=
  let now := b.rs Reg.RFC_FREQ_TRIM
  let want := b.rs Reg.RXP_TARGET
  let nxt := clampI (-20000) 20000 (now + clampI (-50) 50 (want - now))
  let b0 := if nxt = now then b else
    let cs := b.rx.ctxs.map (fun e => (e.1, if b.nowNs ≤ e.2.sfdNs then { e.2 with trim := nxt } else e.2))
    (Chip.trimLag { b with rx := { b.rx with ctxs := cs } } (nxt - now)).ws Reg.RFC_FREQ_TRIM nxt
  if nxt ≠ now ∧ (nxt = 20000 ∨ nxt = -20000) ∧ nxt ≠ want then b0.raise Src.RFC N.TRIM_LIMIT (argW 0 (ofS want 32)) else b0

/-! ### Tones (R257) -/

def Chip.tone (b : Chip) : CmdOut :=
  let c := b.arg cbTXP 0
  let off := toS (b.arg cbTXP 1) 32
  let d := b.arg cbTXP 3
  if c ≤ 3 ∧ ¬ b.chainExists c then b.structFail cbTXP
  else if 3 < c ∨ chainRange c < off.natAbs then b.fail BAD_ARG
  else if d = 0 ∨ 10000000 < d then b.fail BAD_LENGTH
  else if !b.ready || !b.t (Reg.TXP_TEST c) || b.t (Reg.TXP_TONE_ON c) then b.fail WRONG_STATE
  else
    let t : Tone := { start := b.nowNs, dur := d, offset := off, power := toS (b.arg cbTXP 2) 32 }
    (Chip.wb { b with tx := { b.tx with tones := kput b.tx.tones c t } } (Reg.TXP_TONE_ON c) true).done [b.stitch32]

/-- A tone ends. -/
def Chip.toneOff (b : Chip) (c : Nat) : Chip :=
  Chip.wb { b with tx := { b.tx with tones := kdel b.tx.tones c } } (Reg.TXP_TONE_ON c) false

def Chip.toneStop (b : Chip) : CmdOut :=
  let c := b.arg cbTXP 0
  if 3 < c then b.fail BAD_ARG
  else match kget b.tx.tones c with
    | none => b.fail WRONG_STATE
    | some t => (b.toneOff c).done [min t.dur ((b.nowNs - t.start) / 1000)]

/-- A tone has lasted its duration: time passes to its end. -/
def Chip.toneEnd (b : Chip) (c : Nat) : Chip :=
  match kget b.tx.tones c with
  | none => b
  | some t => if t.start + t.dur * 1000 ≤ b.nowNs then b.toneOff c else b

/-! ### Wake calls (R255, R257) -/

/-- The keyed sequence of a wake call in µs. -/
def Chip.callUs (b : Chip) (c len reps : Nat) : Nat :=
  cdiv ((b.r (Reg.TXP_WAKE_PRE c) + len) * reps * 1000) (2 ^ b.r (Reg.TXP_WAKE_RATE c))

/-- The WAKE_CALL command: the call is planned, and the command stays BUSY until it ends. -/
def Chip.wakeCall (b : Chip) : Sum Chip CmdOut :=
  let a := fun (i : Nat) => b.arg cbTXP i
  let lane := a 0
  let chan := a 1
  let len := a 2
  let reps := a 5
  let c := laneGroup lane
  let start := a 7
  let ahead := (start + (2 ^ 32 - b.stitch32)) % 2 ^ 32
  let t := if start = 0 then b.tim.stitch + (if b.nowNs % 250000 = 0 then 2 else 3)
    else if ahead < 2 ^ 31 then b.tim.stitch + ahead else b.tim.stitch + ahead - 2 ^ 32
  if lane ≤ 6 ∧ b.chanOk lane chan ∧ ¬ b.chainExists c then .inr (b.structFail cbTXP)
  else if 6 < lane ∨ ¬ b.chanOk lane chan ∨ b.rxOnly lane chan ∨ reps = 0 ∨ 64 < reps then .inr (b.fail BAD_ARG)
  else if len < 8 ∨ 64 < len then .inr (b.fail BAD_LENGTH)
  else if !b.ready then .inr (b.fail WRONG_STATE)
  else if !b.canSend c then .inr (b.fail NO_RESOURCE)
  else if t * 250000 < b.nowNs + 160000 then .inr (b.fail LATE)
  else
    let f : TxF := { src := .call, lane := lane, chan := chan, kind := 4, reach := 2, power := toS (a 6) 32, t := t * 250000,
                     phase := .keyed, airUs := b.callUs c len reps, limit := 0, pattern := (a 3 + a 4 * 2 ^ 32) % 2 ^ len, patLen := len,
                     pre := b.r (Reg.TXP_WAKE_PRE c), rate := b.r (Reg.TXP_WAKE_RATE c), reps := reps }
    let r := b.txNew f
    .inl { r.1 with tx := { r.1.tx with call := some r.2, callNs := f.t } }

end Sys2Proof.Machine
end

