-- ==== Sys2Proof/Machine/Rfc.lean ====
section
/-!
DEFINITION. RFC: the radio groups' state machine, calibration, front-end pins, coexistence and the wake receiver's matcher (R162 to
R195).
-/
namespace Sys2Proof.Machine

/-! Group states (R168) -/
abbrev RFS.SLEEP : Nat := 0
abbrev RFS.STANDBY : Nat := 1
abbrev RFS.LOCK : Nat := 2
abbrev RFS.SYNTH : Nat := 3
abbrev RFS.RX : Nat := 4
abbrev RFS.TX : Nat := 5
abbrev RFS.CAL : Nat := 6

/-- The state a group works towards (R170, R163, R169, R503): by the power state, with the lanes off in an activation's pause; STANDBY in
LIMP, SLEEP out of READY. -/
def Chip.rfTarget (b : Chip) (g : Nat) : Nat :=
  if !b.groupPresent g || !b.ready then RFS.SLEEP
  else if b.limp then RFS.STANDBY
  else match b.r Reg.PWR_PSTATE with
    | 0 | 1 => if b.upd.paused then RFS.SYNTH else RFS.RX
    | 2 => RFS.SYNTH
    | 3 => RFS.STANDBY
    | _ => RFS.SLEEP

def Chip.rfs (b : Chip) (g : Nat) : Nat := b.r (Reg.RFC_STATE g)
def Chip.modGrp (b : Chip) (g : Nat) (f : Rf → Rf) : Chip := b.putGrp g (f (b.grp g))

/-- Enter a state; a group that is not leaving RX has its lanes free, and one that is not in TX has every step of the trim. -/
def Chip.rfGo (b : Chip) (g st : Nat) : Chip :=
  (b.w (Reg.RFC_STATE g) st).modGrp g (fun x => { x with leaving := false, entry := b.nowNs, prev := b.rfs g,
                                                         lag := if st = RFS.TX then x.lag else 0 })

/-- The pins of a group as driven (R166, R167): the nibble of the state, with EARLY_MASK and HOLD_MASK pins apart. -/
def Chip.femPins (b : Chip) (g : Nat) : Nat :=
  let m := b.r (Reg.RFC_FEM_FEM_MAP g)
  let nib := fun (i : Nat) => bits m (4 * i) 4
  let x := b.grp g
  let early := b.r (Reg.RFC_FEM_EARLY_MASK g)
  let hold := b.r (Reg.RFC_FEM_HOLD_MASK g)
  let st := b.rfs g
  let pick := fun (mask a c : Nat) => orN (andN mask a) (andNot c mask)
  if !b.groupPresent g then nib 0
  else if b.t (Reg.RFC_MUTED g) then nib 7
  else if st = 4 ∧ x.leaving then pick early (nib 4) (nib 5)
  else if st = 5 then (if x.femEarly then nib 5 else pick early (nib x.txFrom) (nib 5))
  else if x.femHold then pick hold (nib 5) (nib st)
  else nib st

/-! ### Calibration (R172 to R181) -/

/-- The stored calibration is valid (R173). -/
def Chip.calValid (b : Chip) (g : Nat) : Bool :=
  let x := b.grp g
  x.valid && x.cal.any (fun (c : CalRes) => decide ((b.rs (Reg.RFC_TJ g) - c.tj).natAbs < b.r (Reg.RFC_CAL_STEP g)))

/-- An acknowledgement that has not started is not sent (R177). -/
def Chip.ackCancel (b : Chip) (id : Nat) : Chip :=
  match b.tf id with
  | none => b
  | some f =>
    let b1 := if f.granted then b.dutySet f.chain f.bucket (· - f.airUs) else b
    ((b1.txDel id).inc Reg.MAC_ACK_SKIPPED).inc (Reg.TXP_ACK_DROPPED f.chain)

/-- A calibration starts (R176, R177): receptions end, acknowledgements not started are dropped, and what is taken is judged. -/
def Chip.calEnter (b : Chip) (g trigger : Nat) : Chip :=
  let forced := b.t (Reg.RFC_CAL_FORCED g)
  let waited := b.r (Reg.RFC_CAL_WAIT g)
  let b1 := b.endGroup g CAUSE.CAL
  let b2 := ((b1.chainTx g).filter (fun e => e.2.isAck && e.2.phase != TxPhase.air)).foldl (fun c e => c.ackCancel e.1) b1
  let b3 := (((b2.rfGo g RFS.CAL).wb (Reg.RFC_CAL_PENDING g) false).wb (Reg.RFC_CAL_FORCED g) false).w (Reg.RFC_CAL_WAIT g) 0
  let b4 := b3.modGrp g (fun x => { x with failed1 := false, trigger := trigger, forced := forced, waited := waited, pendTemp := false,
                                           pendCmd := false, femHold := false, femEarly := false })
  b4.judgeAll g

/-- A calibration becomes pending (R174); a trigger during CAL is discarded. -/
def Chip.calPend (b : Chip) (g : Nat) (cmd forced : Bool) : Chip :=
  if b.rfs g = RFS.CAL then b
  else
    let b1 := if b.t (Reg.RFC_CAL_PENDING g) then b else (b.wb (Reg.RFC_CAL_PENDING g) true).w (Reg.RFC_CAL_WAIT g) 0
    let b2 := if forced || b1.t (Reg.RFC_CAL_FAILED g) then b1.wb (Reg.RFC_CAL_FORCED g) true else b1
    b2.modGrp g (fun x => { x with pendTemp := x.pendTemp || !cmd, pendCmd := x.pendCmd || cmd })

/-- The sensor of a group is read at a stitch (R174). -/
def Chip.calTrigger (b : Chip) (g : Nat) (tj : Int) : Chip :=
  let b1 := b.ws (Reg.RFC_TJ g) tj
  match (b1.grp g).cal with
  | some c =>
    if b1.groupPresent g && decide (b1.r (Reg.RFC_CAL_STEP g) ≤ (tj - c.tj).natAbs) then b1.calPend g false false else b1
  | none => b1

/-- CAL_DONE (R196). -/
def Chip.calDone (b : Chip) (g status : Nat) (tj : Int) : Chip :=
  let x := b.grp g
  b.raise Src.RFC N.CAL_DONE (argB g status x.trigger (b2n x.forced) (x.waited % 65536 + ofS tj 8 * 65536))

/-- From SYNTH a group goes on to the state of the power state (R170); a frame held for it keeps its synthesiser on (R180). -/
def Chip.fromSynth (b : Chip) (g : Nat) : Chip :=
  match b.rfTarget g with
  | 4 => b.rfGo g RFS.RX
  | 3 => b
  | 1 => if (b.chainTx g).any (fun e => e.2.phase == TxPhase.taken) then b else b.rfGo g RFS.STANDBY
  | _ => b.rfGo g RFS.SLEEP

/-- Synthesiser on (R169, R173). -/
def Chip.synthOn (b : Chip) (g : Nat) : Chip :=
  if b.calValid g then b.rfGo g RFS.LOCK else b.calEnter g 1

/-- A transmit request for a group: one in STANDBY starts its synthesiser, and the request is judged (R180). -/
def Chip.request (b : Chip) (id : Nat) : Chip :=
  match b.tf id with
  | none => b
  | some f =>
    let g := f.chain
    (if b.rfs g = RFS.STANDBY ∧ b.ready ∧ !b.limp ∧ !b.t (Reg.RFC_CAL_FAILED g) then b.synthOn g else b).judge id

/-- A group that the structure no longer has goes to SLEEP, whatever it did (R163). -/
def Chip.rfAbsent (b : Chip) (g : Nat) : Chip :=
  if b.groupPresent g ∨ b.rfs g = RFS.SLEEP then b
  else (((b.endGroup g CAUSE.LANE_OFF).wb (Reg.RFC_CAL_PENDING g) false).wb (Reg.RFC_CAL_FORCED g) false).rfGo g RFS.SLEEP
/-- A group follows the power state (R170); one whose calibration failed stays in STANDBY, and one in LOCK, CAL or TX first ends that (R169). -/
def Chip.rfDrive (b : Chip) (g : Nat) : Chip :=
  let want := b.rfTarget g
  let up : Chip → Chip := fun c => if c.t (Reg.RFC_CAL_FAILED g) || decide (want < 3) then c else c.synthOn g
  match b.rfs g with
  | 0 => if want = 0 then b else up (b.rfGo g RFS.STANDBY)
  | 1 => if want = 0 then b.rfGo g RFS.SLEEP else up b
  | 3 => b.fromSynth g
  | 4 => if want = 4 then b else ((b.endGroup g CAUSE.LANE_OFF).rfGo g RFS.SYNTH).fromSynth g
  | _ => b
def Chip.rfDriveAll (b : Chip) : Chip := (List.range 4).foldl (fun c g => c.rfDrive g) b

/-- A synthesiser locks. -/
def Chip.lockDetected (b : Chip) (g : Nat) : Chip :=
  if b.rfs g = RFS.LOCK then (b.rfGo g RFS.SYNTH).fromSynth g else b

/-- No lock within 60 µs (R169, R181). -/
def Chip.lockTimeout (b : Chip) (g : Nat) : Chip :=
  if b.rfs g = RFS.LOCK then
    let b1 := (b.inc (Reg.RFC_LOCK_FAIL_CNT g)).raise Src.RFC N.LOCK_FAIL (argB g (b.grp g).prev 0 0 0)
    b1.calEnter g 3
  else b

/-- A calibration completes (R169, R179). -/
def Chip.calComplete (b : Chip) (g : Nat) (m : CalMeas) : Chip :=
  if b.rfs g ≠ RFS.CAL then b
  else
    let r : CalRes := { tj := m.tj, stitch := b.stitch32, vco := m.vco, gain := m.gain, frac := m.frac, dc := m.dc, status := OK }
    let b1 := (b.inc (Reg.RFC_CAL_CNT g)).modGrp g (fun x => { x with cal := some r, valid := true })
    let b2 := ((b1.ws (Reg.RFC_TJ g) m.tj).wb (Reg.RFC_CAL_FAILED g) false).calDone g OK m.tj
    (b2.rfGo g RFS.SYNTH).fromSynth g

/-- A calibration run fails (R179). Which results READ_CAL shows of a second run that failed is not stated: free values (log entry 104). -/
def Chip.calFail (b : Chip) (g : Nat) (tj : Int) : Chip :=
  if b.rfs g ≠ RFS.CAL then b
  else
    let b1 := (b.inc (Reg.RFC_CAL_CNT g)).calDone g ABORTED tj
    if !(b1.grp g).failed1 then
      (b1.modGrp g (fun x => { x with failed1 := true, entry := b.nowNs })).judgeAll g
    else
      let vco := b1.free 32
      let gain := vco.2.free 32
      let b1 := gain.2
      let r : CalRes := { tj := tj, stitch := b.stitch32, vco := vco.1, gain := gain.1, status := ABORTED }
      let b2 := ((b1.rfGo g RFS.STANDBY).wb (Reg.RFC_CAL_FAILED g) true).modGrp g (fun x => { x with cal := some r, valid := false })
      ((b2.chainTx g).filter (fun e => e.2.phase == TxPhase.taken)).foldl (fun c e => c.txLate e.1 1) b2

/-- The reserved cells of a group in a row of the Weave (R175). -/
def Chip.reserved (b : Chip) (g row : Nat) : List (Nat × Nat) :=
  (b.row row).filter (fun e => cLane e.2 != 7 && laneGroup (cLane e.2) == g && cType e.2 != 2)

/-- The cells of a row in which the device receives on a lane of the group, SHARED ones among them (R179, R268). -/
def Chip.groupRx (b : Chip) (g row : Nat) : List (Nat × Nat) :=
  (b.row row).filter (fun e => cLane e.2 != 7 && laneGroup (cLane e.2) == g && !cDown e.2)

/-- Reserved cells that a calibration started at the slot boundary loses: sending cells whose setup point comes before the end of
the 900 µs, receiving cells whose window opens before the group is in RX again. -/
def Chip.calLost (b : Chip) (g row : Nat) : List (Nat × Nat) :=
  let off := b.r Reg.SCH_TX_OFFSET_US
  (b.reserved g row).filter (fun e =>
    if cDown e.2 then decide (off < 932) else decide (off < 924 + (if cOwner e.2 < b.pat.nodeCount then b.nd (cOwner e.2) Cx.G_US else 0)))

/-- The slot-boundary test of a pending calibration (R175, R176, R179). -/
def Chip.calSlot (b : Chip) (row nextRow g : Nat) : Chip :=
  let missed := fun (c : Chip) (l : List (Nat × Nat)) => c.add (Reg.RFC_CAL_MISSED_CNT g) (l.filter (fun e => !cDown e.2)).length
  let b0 := if b.t (Reg.RFC_CAL_FAILED g) then missed b (b.groupRx g row) else b
  let x := b0.grp g
  let trigger := if x.pendTemp then 1 else 2
  let can := b0.rfs g == 3 || b0.rfs g == 4 || (b0.rfs g == 1 && b0.t (Reg.RFC_CAL_FAILED g) && decide (3 ≤ b0.rfTarget g))
  let due := b0.t (Reg.RFC_CAL_FORCED g) || decide (b0.sfSlots ≤ b0.r (Reg.RFC_CAL_WAIT g))
  if !b0.t (Reg.RFC_CAL_PENDING g) then b0
  else if can && due then
    let lost := if b0.t (Reg.RFC_CAL_FAILED g) then [] else b0.calLost g row
    let b1 := b0.raise Src.SCH N.CAL_FORCED (argB g (b2n x.pendCmd) 0 0 lost.length)
    (missed b1 lost).calEnter g trigger
  else if can && (b0.reserved g row).isEmpty && (b0.reserved g nextRow).isEmpty then b0.calEnter g trigger
  else b0.w (Reg.RFC_CAL_WAIT g) (min 65535 (b0.r (Reg.RFC_CAL_WAIT g) + 1))

/-! ### Muting and source changes (R115, R169, R247) -/

/-- The main source changes: every group with its synthesiser on goes to LOCK, or to CAL where its stored calibration is not valid (R173). -/
def Chip.refSwitch (b : Chip) (g : Nat) : Chip :=
  let st := b.rfs g
  if st < 2 ∨ 5 < st then b
  else
    let b1 := b.endGroup g CAUSE.REF_SWITCH
    let b2 := ((b1.chainTx g).filter (fun e => e.2.phase == TxPhase.air || e.2.phase == TxPhase.setup)).foldl (fun c e => c.txLate e.1 0) b1
    let b3 := (b2.synthOn g).modGrp g (fun x => { x with femHold := false, femEarly := false })
    ((b3.coexRelease g).carriersApply g).judgeAll g
def Chip.refSwitchAll (b : Chip) : Chip := (List.range 4).foldl (fun c g => c.refSwitch g) b

/-- A mute (R90, R94, R110, R247, R503): cause 0 SAFE, 1 LIMP, 2 thermal trip, 3 the pause of an activation, for which MUTE_ABORT has no
code. The frames on air or taken end ABORTED, all others that wait are withdrawn, and the group goes to STANDBY in LIMP, to SLEEP in SAFE, and
out of RX and TX to SYNTH in the pause. -/
def Chip.mute (b : Chip) (cause g : Nat) : Chip :=
  let air := (b.chainTx g).filter (fun e => e.2.phase == TxPhase.air)
  let b1 := air.foldl (fun c e => c.txFail e.1 ABORTED) b
  let b2 := if air.isEmpty ∨ cause = 3 then b1 else b1.raise Src.TXP N.MUTE_ABORT (argB g cause 0 0 air.length)
  let b3 := (b2.chainTx g).foldl (fun c e =>
    if e.2.granted || e.2.src == TxSrc.call then c.txFail e.1 ABORTED else c.withdraw e.1 e.2) b2
  let b4 := (b3.endGroup g CAUSE.LANE_OFF).toneOff g
  let b5 :=
    if cause = 3 then (if b4.rfs g = RFS.RX ∨ b4.rfs g = RFS.TX then b4.rfGo g RFS.SYNTH else b4)
    else if cause = 1 ∧ b4.rfs g = 0 then b4
    else b4.rfGo g (if cause = 1 then RFS.STANDBY else RFS.SLEEP)
  ((b5.wb (Reg.RFC_MUTED g) true).modGrp g (fun x => { x with femHold := false, femEarly := false })).coexRelease g
def Chip.muteAll (b : Chip) (cause : Nat) : Chip :=
  Chip.onAir ((List.range 4).foldl (fun c g => c.mute cause g) b)
/-- The end of a mute (R170). -/
def Chip.unmuteAll (b : Chip) : Chip := (List.range 4).foldl (fun c g => (c.wb (Reg.RFC_MUTED g) false).rfDrive g) b

/-! ### Transmission (R165, R167, R171, R185 to R187) -/

/-- RX to TX begins (R169, R165): a frame of the chain starts within 48 µs. -/
def Chip.rxToTx (b : Chip) (g : Nat) : Chip :=
  if b.rfs g = RFS.RX ∧ (b.chainTx g).any (fun e => e.2.phase == TxPhase.taken) then
    (b.endGroup g CAUSE.TX_BLANK).modGrp g (fun x => { x with leaving := true })
  else b

/-- The class bit of a frame in PRI_CLASS (R194). -/
def TxF.cls (f : TxF) : Nat := match f.kind with
  | 0 => 1
  | 1 => 0
  | 2 => 2
  | 3 => 3
  | 5 => 4
  | _ => if f.reach = 2 then 5 else 6

/-- A set asserts its request for a frame (R184, R185). -/
def Chip.coexAssert (b : Chip) (id : Nat) : Chip :=
  match b.tf id with
  | none => b
  | some f =>
    let set := coexSet f.chain
    if !b.t (Reg.RFC_CX_EN set) then b
    else
      let pri := b.t (Reg.RFC_CX_PRI set) || bit (b.r (Reg.RFC_CX_PRI_CLASS set)) f.cls
      Chip.txPut ((b.wb (Reg.RFC_CX_REQ set) true).wb (Reg.RFC_CX_PRI set) pri) id { f with req := true }

/-- A frame fails COEX_DENIED (R186, R187). -/
def Chip.coexDeny (b : Chip) (id : Nat) : Chip :=
  match b.tf id with
  | none => b
  | some f =>
    let set := coexSet f.chain
    ((b.inc (Reg.RFC_CX_DENIED_CNT set)).note (kDeny set) 1).txFail id COEX_DENIED

/-- A group that has sent its last carrier (R169, R170, R183). -/
def Chip.txIdle (b : Chip) (g : Nat) : Chip :=
  let b1 := (b.onAir.carriersApply g).coexRelease g
  if b1.rfs g = RFS.TX ∧ b1.busyNow g = 0 then
    let b2 := (b1.rfGo g RFS.SYNTH).modGrp g (fun x => { x with femEarly := false, femHold := b.r (Reg.RFC_FEM_HOLD_MASK g) != 0 })
    b2.fromSynth g
  else b1

/-- The transmit setup point of a frame (R171, R180, R186); `granted` is the grant after polarity. -/
def Chip.setupPoint (b : Chip) (id : Nat) (granted : Bool) : Chip :=
  match b.tf id with
  | none => b
  | some f =>
    let g := f.chain
    let set := coexSet g
    let en := b.t (Reg.RFC_CX_EN set)
    let st := b.rfs g
    if f.phase ≠ TxPhase.taken then b
    else if st = RFS.TX then b.txPut id { f with phase := .setup }
    else if st ≠ RFS.RX ∧ st ≠ RFS.SYNTH then b.txLate id (if st = RFS.CAL then 1 else 0)
    else
      let b1 := b.wb (Reg.RFC_CX_GRANT set) (!en || granted)
      if en && !granted then ((b1.modGrp g (fun x => { x with leaving := false })).coexDeny id).coexRelease g
      else
        let b2 := (if st = RFS.RX then b1.endGroup g CAUSE.TX_BLANK else b1)
        ((b2.rfGo g RFS.TX).modGrp g (fun x => { x with txFrom := st, femHold := false })).txPut id { f with phase := .setup }

/-- Pins of EARLY_MASK take their TX value; pins of HOLD_MASK release (R167). -/
def Chip.femEarlyOn (b : Chip) (g : Nat) : Chip := if b.rfs g = RFS.TX then b.modGrp g (fun x => { x with femEarly := true }) else b
def Chip.femRelease (b : Chip) (g : Nat) : Chip := b.modGrp g (fun x => { x with femHold := false })

/-- The grant is withdrawn while carriers are sent (R187). -/
def Chip.grantLost (b : Chip) (set : Nat) : Chip :=
  let b1 := b.wb (Reg.RFC_CX_GRANT set) false
  let air := b1.tx.frames.filter (fun e => coexSet e.2.chain == set && e.2.phase == TxPhase.air)
  if !b1.t (Reg.RFC_CX_EN set) || air.isEmpty then b1
  else if b1.t (Reg.RFC_CX_ABORT_ON_LOSS set) then
    let b2 := air.foldl (fun c e => c.coexDeny e.1) b1
    (List.range 4).foldl (fun c g => if coexSet g = set then c.txIdle g else c) b2
  else b1.inc (Reg.RFC_CX_GRANT_LOST_CNT set)

/-! ### The wake receiver (R189 to R192) -/

/-- The receiver listens (R191). -/
def Chip.wurListens (b : Chip) : Bool := b.t Reg.WUR_EN && (b.t Reg.WUR_ACTIVE_LISTEN || b.r Reg.PWR_PSTATE == 4)

/-- The received bits match a pattern of 16 or 32 bits, at most MAX_ERR of them different (R190). -/
def Chip.wurMatches (b : Chip) (rx pat : Nat) (long : Bool) : Bool :=
  let n := if long then 32 else 16
  decide (popCount (xorN (rx % 2 ^ n) (pat % 2 ^ n)) n ≤ b.r Reg.WUR_MAX_ERR)

/-- A match: flag, counter, and the notice of WAKE and NOTE, in DOZE once CORE runs (R190). `woke` says that it woke the device from DOZE. -/
def Chip.wurMatch (b : Chip) (which act : Nat) (woke : Bool) : Chip :=
  let b1 := b.wb (if which = 0 then Reg.WUR_MATCH_A else Reg.WUR_MATCH_B) true
  let b2 := b1.inc (if which = 0 then Reg.WUR_MATCH_CNT_A else Reg.WUR_MATCH_CNT_B)
  if act = 0 then b2
  else if b2.r Reg.PWR_PSTATE = 4 then { b2 with pwr := { b2.pwr with heard := b2.pwr.heard ++ [(which, act)] } }
  else b2.raise Src.WUR N.WUR_MATCH (argB which act (b2n woke) 0 0)
/-- CORE runs again: the notices of the matches heard in DOZE. -/
def Chip.wurTell (b : Chip) : Chip :=
  b.pwr.heard.foldl (fun (c : Chip) e => c.raise Src.WUR N.WUR_MATCH (argB e.1 e.2 0 0 0)) { b with pwr := { b.pwr with heard := [] } }

/-! ### Commands (R193) -/

def Chip.groupMask (b : Chip) : List Nat := (List.range 4).filter (bit (b.arg cbRFC 0))

def Chip.calCmd (b : Chip) : CmdOut :=
  let l := b.groupMask
  if l.isEmpty then b.fail BAD_ARG
  else if l.any (fun g => !b.groupPresent g) then b.structFail cbRFC
  else if !b.ready || l.any (fun g => b.rfs g == RFS.CAL) then b.fail WRONG_STATE
  else (l.foldl (fun c g => c.calPend g true (bit (b.arg cbRFC 1) 0)) b).done [b.arg cbRFC 0 % 16]

def Chip.calCancelCmd (b : Chip) : CmdOut :=
  let l := b.groupMask
  if l.isEmpty then b.fail BAD_ARG
  else if !b.ready || l.any (fun g => !b.t (Reg.RFC_CAL_PENDING g) || (b.grp g).pendTemp || !(b.grp g).pendCmd) then b.fail WRONG_STATE
  else
    let b1 := l.foldl (fun c g =>
      (((c.wb (Reg.RFC_CAL_PENDING g) false).wb (Reg.RFC_CAL_FORCED g) false).w (Reg.RFC_CAL_WAIT g) 0).modGrp g
        (fun x => { x with pendCmd := false })) b
    b1.done [b.arg cbRFC 0 % 16]

def Chip.readCal (b : Chip) : CmdOut :=
  let g := b.arg cbRFC 0
  if 3 < g then b.fail BAD_ARG
  else match (b.grp g).cal with
    | none => b.fail NOT_FOUND
    | some c => b.done [ofS c.tj 32, c.stitch, c.vco, c.gain, c.status]

end Sys2Proof.Machine
end

