-- ==== Sys2Proof/Machine/Sched.lean ====
section
/-!
DEFINITION. SCH at work: the guard allowance, losing and regaining nodes, wake runs, the prefetch, slot and superframe starts,
placement and the next event (R260 to R290), with the context cache of MAC (R295).
-/
namespace Sys2Proof.Machine

/-! ### The context cache (R295) -/

def Chip.cacheCount (b : Chip) : Chip :=
  (b.w Reg.MAC_CACHE_USED b.mac.cache.length).w Reg.MAC_CACHE_PINNED
    (b.mac.nodes.filter (fun e => cx e.2 Cx.CACHE_PIN == 1)).length
/-- A context may be evicted: not pinned, no frame, acknowledgement, wait or command in progress, and no reception whose source address has
named it. -/
def Chip.evictable (b : Chip) (n : Nat) : Bool :=
  b.nd n Cx.CACHE_PIN == 0 && !b.tx.frames.any (fun e => e.2.node == n && e.2.phase != TxPhase.planned) && (kget b.mac.waits n).isNone &&
  !b.rx.ctxs.any (fun e => e.2.node == some n) && !(b.t (cbBUSY cbMAC) && b.arg cbMAC 0 == n)
/-- A fetch of a node's context; where no context may be evicted it takes no place (log entry 80). -/
def Chip.cacheFetch (b : Chip) (n : Nat) : Chip :=
  if b.mac.cache.contains n then
    Chip.inc { b with mac := { b.mac with cache := n :: b.mac.cache.filter (· != n) } } Reg.MAC_CACHE_HIT
  else
    let c := b.mac.cache
    let c1 := if c.length < b.pat.ctxCache then n :: c else match (c.reverse.find? b.evictable) with
      | some v => n :: c.filter (· != v)
      | none => c
    (Chip.inc { b with mac := { b.mac with cache := c1 } } Reg.MAC_CACHE_MISS).cacheCount
/-- A command names a node: its context is fetched (R295). -/
def Chip.named (b : Chip) (n : Nat) : Chip := if b.pat.nodeCount ≤ n ∨ b.nd n Cx.STATE = NS.EMPTY then b else b.cacheFetch n
/-- A context leaves the cache. -/
def Chip.cacheDrop (b : Chip) (n : Nat) : Chip :=
  Chip.cacheCount { b with mac := { b.mac with cache := b.mac.cache.filter (· != n) } }

/-! ### Node states -/

/-- The counts of SYNCED, DRIFTING and LOST nodes (R291). -/
def nsFld (st : Nat) : Option Fld := match st with
  | 3 => some Reg.SCH_SYNCED_CNT
  | 4 => some Reg.SCH_DRIFTING_CNT
  | 5 => some Reg.SCH_LOST_CNT
  | _ => none
/-- Move a node to a state. -/
def Chip.setNs (b : Chip) (n st : Nat) : Chip :=
  let b1 := match nsFld (b.ns n) with
    | some f => b.sub f 1
    | none => b
  let b2 := match nsFld st with
    | some f => b1.add f 1
    | none => b1
  b2.ndw n Cx.STATE st

/-- The pending rekey entry of a node is removed (R366). -/
def Chip.rekeyDrop (b : Chip) (n : Nat) : Chip :=
  if (kget b.key.rekeys n).isNone then b
  else
    let b1 : Chip := { b with key := { b.key with rekeys := kdel b.key.rekeys n } }
    (((b1.w Reg.KEY_REKEY_PENDING b1.key.rekeys.length).inc Reg.KEY_REKEY_FAIL)).noteFirst N.REKEY_FAIL n 1

/-! ### Guard allowance (R279 to R281) -/

/-- The drift bound of a class in ppb (R280). -/
def Chip.classPpb (b : Chip) (c : Nat) : Nat := [1000, 5000, 10000, 20000, 40000, 50000, 100000].getD c (b.r Reg.SCH_DRIFT_CUSTOM_PPB)
/-- The device's own bound. -/
def Chip.devPpb (b : Chip) : Nat := if b.r Reg.CKR_MAIN_SRC = 1 then b.r Reg.SCH_XO_DRIFT_PPB else b.r Reg.SCH_DEV_DRIFT_PPB
/-- G of a node at a stitch, in µs; a contact that a backward step has left ahead counts as one of now (log entry 79). -/
def Chip.guardUs (b : Chip) (n st : Nat) : Nat :=
  let d := (st % 2 ^ 32 + (2 ^ 32 - b.nd n Cx.LAST_CONTACT)) % 2 ^ 32
  let dt := if d < 2 ^ 31 then d * 250 else 0
  b.r Reg.SCH_G0_US + b.nd n Cx.X_US + cdiv (2 * (b.classPpb (b.nd n Cx.DRIFT_CLASS) + b.devPpb) * dt) 1000000000
/-- C (R281). -/
def Chip.guardCap (b : Chip) : Nat := min (b.slotUs / 4) (b.r Reg.SCH_GUARD_BOUND_US)

/-- The cells of an owner: index and word. -/
def Chip.ownCells (b : Chip) (n : Nat) : List (Nat × Nat) := b.sch.cells.filter (fun e => cOwner e.2 == n)
/-- A LOST node's held cells are freed, except PINNED (R284). -/
def Chip.freeHeld (b : Chip) (n : Nat) : Chip :=
  let l := (b.ownCells n).filter (fun e => cHeld e.2 && !cPinned e.2)
  (l.foldl (fun c e => c.setCell e.1 freeCell) b).add Reg.SCH_LOST_RECLAIM l.length

/-- The contexts of a stitch's guard-allowance update, and the index after them (R282). -/
def Chip.guardItems (b : Chip) : List Nat × Nat :=
  let nc := b.pat.nodeCount
  let k := cdiv nc (max 1 b.pat.slotStitches)
  ((List.range (min k nc)).map (fun i => (b.sch.evalIdx + i) % max 1 nc), (b.sch.evalIdx + k) % max 1 nc)

/-! ### Frames to a node -/

/-- A key-update frame or a data frame is sealed under the link key, a join response under the install pocket (R302, R333). -/
def Chip.sealKindOf (b : Chip) (n : Nat) (psdu : List Nat) : SealKind :=
  match (readFrame psdu).aux with
  | some a => if a.mode = 1 ∧ a.index = b.r Reg.MAC_KEY_INDEX_JOIN then .join n else .node n
  | none => .node n

/-- The 2-octet FCS is used at Band H alone (log entry 16). -/
def fcs2At (d : Nat) : Bool := d == 2
def fcsLen (d : Nat) : Nat := if d = 2 then 2 else 4
/-- The PSDU octets on air of a frame before its MIC and FCS. -/
def Chip.airLen (b : Chip) (d : Nat) (k : SealKind) (psdu : List Nat) : Nat := psdu.length + micLen (b.sealLevel k).1 + fcsLen d

/-- The airtime of a frame in a node's downlink rung. -/
def Chip.nodeAir (b : Chip) (n len : Nat) : Nat :=
  airUs (b.nd n Cx.BAND) (b.nd n Cx.TX_MODE_BIT) (b.nd n Cx.TX_MCS) (b.nd n Cx.TX_FEC == 1) (b.nd n Cx.PREAMBLE) len

/-- ACK_TURN of a band. -/
def Chip.ackTurn (b : Chip) (d : Nat) : Nat :=
  b.r (if d = 0 then Reg.MAC_ACK_TURN_L_US else if d = 1 then Reg.MAC_ACK_TURN_M_US else Reg.MAC_ACK_TURN_H_US)
/-- The acknowledgement wait outside a DOWN cell, in µs (R307). -/
def Chip.ackWaitUs (b : Chip) (d m s : Nat) (fec : Bool) (pre : Nat) : Nat :=
  b.ackTurn d + airUs d m s fec pre (b.r Reg.MAC_ACK_MAX_OCTETS) + 200

/-- MAC takes from a NODE queue alone (R408). -/
def Chip.dlTakes (b : Chip) (n : Nat) : Bool := (b.q (b.nd n Cx.DL_QUEUE)).consumer == CONS_NODE
/-- The head frame of a node's list that could be taken. -/
def Chip.headItem (b : Chip) (n : Nat) : Option Item := if b.dlTakes n then b.presents (b.nd n Cx.DL_QUEUE) n else none
/-- QMG stages the head item of a node's list into the head ring (R417). -/
def Chip.stageHead (b : Chip) (n : Nat) : Chip :=
  match b.headItem n with
  | some i => b.putQ (b.nd n Cx.DL_QUEUE) ((b.q (b.nd n Cx.DL_QUEUE)).stage i.id)
  | none => b

/-- The reach method in force (R312): 0 scheduled or rendezvous, 1 LPL_TRAIN, 2 WAKE_CALL. -/
def Chip.reachOf (b : Chip) (n : Nat) : Nat := match b.ns n with
  | 3 | 4 => b.nd n Cx.REACH
  | 5 => b.nd n Cx.FALLBACK
  | _ => 0

/-! ### Trains and wake runs (R253, R254, R286) -/

/-- D of a wake-up frame in the node's mode, and S on a chain. -/
def Chip.trainD (b : Chip) (n : Nat) : Nat := b.nodeAir n 13
def Chip.trainS (b : Chip) (n c : Nat) : Nat := b.trainD n + b.r (Reg.TXP_TRAIN_GAP c)
/-- The first copy's start in ns at or after an instant, and N (R253); G is that of the stitch at which the instant's slot starts (R279). -/
def Chip.trainPlan (b : Chip) (n c from_ : Nat) : Nat × Nat :=
  let s := b.trainS n c
  let p := b.nd n Cx.SAMPLE_MS * 1000
  if b.nd n Cx.PHASE_VALID = 0 ∨ p = 0 then (from_, cdiv p s + 1)
  else
    let st := b.tim.stitch - (b.stitch32 + (2 ^ 32 - b.nd n Cx.PHASE_STITCH)) % 2 ^ 32
    let e0 := st * 250 + b.nd n Cx.PHASE_US
    let g := b.guardUs n (b.slotAt from_ * b.pat.slotStitches)
    let least := from_ / 1000 + g
    let e := if least ≤ e0 then e0 - (e0 - least) / p * p else e0 + cdiv (least - e0) p * p
    ((e - g) * 1000, cdiv (2 * g) s + 1)

/-- The µs from an instant until the end of the acknowledgement wait of a node's payload, by train or call (R286). -/
def Chip.reachUs (b : Chip) (n c from_ payLen : Nat) : Nat :=
  let d := b.nd n Cx.BAND
  let tail := b.nodeAir n payLen +
    b.ackWaitUs d (b.nd n Cx.TX_MODE_BIT) (b.nd n Cx.TX_MCS) (b.nd n Cx.TX_FEC == 1) (b.nd n Cx.PREAMBLE)
  if b.reachOf n = 2 then b.callUs c (b.nd n Cx.WAKE_LEN) 1 + b.r (Reg.TXP_WAKE_FOLLOW_US c) + tail
  else
    let p := b.trainPlan n c from_
    (p.1 - from_) / 1000 + p.2 * b.trainS n c + tail

/-- The slots of a run that begins at a slot, on a column. -/
def Chip.runSlots (b : Chip) (n slot col payLen : Nat) : Nat :=
  let off := b.r Reg.SCH_TX_OFFSET_US
  cdiv (off + b.reachUs n (laneGroup (colLane col)) (slot * b.slotNs + off * 1000) payLen + 100) (max 1 b.slotUs)

/-- The columns of a node's band and lanes. -/
def Chip.nodeCols (b : Chip) (n : Nat) : List Nat :=
  (List.range (min b.cols 640)).filter (fun c =>
    b.colOk c && laneBand (colLane c) == b.nd n Cx.BAND && bit (b.nd n Cx.ALLOWED_LANES) (colLane c))

/-- A run at a slot on a column, where it fits. -/
def Chip.runFits (b : Chip) (n slot payLen col : Nat) : Option Nat :=
  let k := b.runSlots n slot col payLen
  if b.sfSlots < k then none
  else if (seriesRows (slot % max 1 b.sfSlots) k 1 (max 1 b.sfSlots)).all (fun r => b.mayPlace r col (mkCell n T.WAKE true (colLane col) 0))
  then some k else none

/-- The first run that starts within a superframe: slot, column and length (R286, R273). -/
def Chip.runSearch (b : Chip) (n payLen slot fuel : Nat) : Option (Nat × Nat × Nat) :=
  match fuel with
  | 0 => none
  | k + 1 =>
    match (b.nodeCols n).find? (fun c => (b.runFits n slot payLen c).isSome) with
    | some c => some (slot, c, (b.runFits n slot payLen c).getD 0)
    | none => b.runSearch n payLen (slot + 1) k

/-- Reserve a run for a node, or wait for the next superframe start. -/
def Chip.runReserve (b : Chip) (n payLen : Nat) : Chip :=
  match b.runSearch n payLen (b.slotAt b.nowNs + 2) (b.sfSlots - 1) with
  | some (s, c, k) =>
    let b1 := b.placeAll (seriesRows (s % max 1 b.sfSlots) k 1 (max 1 b.sfSlots)) c (mkCell n T.WAKE true (colLane c) 0)
    { b1 with sch := { b1.sch with runs := kput b1.sch.runs n { col := c, slot := s, count := k },
                                   runWait := b1.sch.runWait.filter (· != n) } }
  | none =>
    let b1 := (b.inc Reg.SCH_WAKE_RUN_FAIL).noteFirst N.WAKE_RUN_FAIL n 1
    { b1 with sch := { b1.sch with runWait := n :: b1.sch.runWait.filter (· != n) } }

/-- A frame at the head of a node's list that goes by train or wake call asks for a run (R286, R312). -/
def Chip.wantRun (b : Chip) (n : Nat) : Chip :=
  if !b.t Reg.SCH_AUTO_WAKE_RUN || b.reachOf n == 0 || (kget b.sch.runs n).isSome || b.sch.runWait.contains n || !b.serves then b
  else match b.headItem n with
    | some i => b.runReserve n (b.airLen (b.nd n Cx.BAND) (b.sealKindOf n i.psdu) i.psdu)
    | none => b

/-- The cells of a run are freed, on whichever column placement has left them (R286, R287). -/
def Chip.runFree (b : Chip) (n : Nat) : Chip :=
  match kget b.sch.runs n with
  | none => b
  | some r =>
    let rows := seriesRows (r.slot % max 1 b.sfSlots) r.count 1 (max 1 b.sfSlots)
    let l := b.sch.cells.filter (fun e => rows.contains (b.rowOf e.1) && cType e.2 == T.WAKE && cOwner e.2 == n)
    let b1 := l.foldl (fun (c : Chip) e => c.setCell e.1 freeCell) b
    { b1 with sch := { b1.sch with runs := kdel b1.sch.runs n } }

/-- A node's downlink list changed. -/
def Chip.dlChanged (b : Chip) (n : Nat) : Chip := (b.dlSync n).wantRun n

/-- A node's downlink list is discarded. -/
def Chip.dlDiscard (b : Chip) (n : Nat) : Chip × Nat :=
  let r := b.dropNodeList (b.nd n Cx.DL_QUEUE) n
  (r.1.dlSync n, r.2)

/-! ### Losing and regaining nodes (R281, R284, R285) -/

/-- A node goes to LOST (R284, R297); a fallback by train or call asks for a run for the frames that wait (R286). -/
def Chip.goLost (b : Chip) (n : Nat) : Chip :=
  let b1 := (((b.setNs n NS.LOST).ndAdd n Cx.LOST_ENTRIES 1).ndw n Cx.PHASE_VALID 0).ndw n Cx.LOST_SF 0
  let b2 := (b1.ownCells n).foldl (fun c e => c.setCell e.1 (setBit e.2 28)) b1
  let b3 := (b2.inc Reg.SCH_LOST_ENTER).noteFirst N.NODE_LOST n 1
  let b4 : Chip := { b3 with sch := { b3.sch with lostFresh := n :: b3.sch.lostFresh } }
  (if b4.r Reg.SCH_LOST_KEEP_SF = 0 then b4.freeHeld n else b4).wantRun n

/-- A node regained (R285); what its reach method now is asks for a run (R286, R312). -/
def Chip.resync (b : Chip) (n : Nat) : Chip :=
  let b1 := (b.ownCells n).foldl (fun c e => c.setCell e.1 (clrBit e.2 28)) b
  (((b1.setNs n NS.SYNCED).inc Reg.SCH_RESYNC).noteFirst N.NODE_RESYNC n 1).wantRun n

/-- A contact (R279, R281). -/
def Chip.contact (b : Chip) (n : Nat) : Chip :=
  let b1 := (b.ndw n Cx.LAST_CONTACT b.stitch32).ndw n Cx.X_US 0
  match b1.ns n with
  | 4 => b1.setNs n NS.SYNCED
  | 5 => b1.resync n
  | _ => b1

/-- The evaluation of a node (R281, R282). -/
def Chip.evalNode (b : Chip) (n st : Nat) : Chip :=
  let s := b.ns n
  if s ≠ NS.SYNCED ∧ s ≠ NS.DRIFTING then b
  else
    let g := b.guardUs n st
    let cap := b.guardCap
    let b1 := b.ndw n Cx.G_US (min 65535 g)
    if b.isStandby || b.gap then b1
    else if cap < g then (if 4 * g ≤ b.slotUs then b1.inc Reg.SCH_GUARD_CLAMP else b1).goLost n
    else if s = NS.SYNCED ∧ b.r Reg.SCH_DRIFT_MARK_PCT * cap < 100 * g then b1.setNs n NS.DRIFTING
    else b1

/-- WHITEN, which SUN FSK alone has: the spec does not state which frames the device whitens. -/
def whitens (d m : Nat) : Bool := if d = 2 || isOfdm d m then false else Config.txWhiten d m
/-- The KIND of a frame for a node as its reach now is (R243, R312): WAKE by train or call, ASSIGNED in a cell, else SHARED. -/
def Chip.kindFor (b : Chip) (n : Nat) : Nat :=
  if b.reachOf n ≠ 0 then 4 else if b.ns n = NS.SYNCED ∨ b.ns n = NS.DRIFTING then 2 else 5
/-- The transmit header that MAC places ahead of a frame for a node (R243): the lane, the channel and the rung are settled, and the header
written again, when the frame is taken (log entry 27); until then LANE is the lowest lane the node may use. -/
def Chip.txHeader (b : Chip) (n : Nat) (psdu : List Nat) : List Nat :=
  let d := b.nd n Cx.BAND
  let lane := ((bandLanes d).find? (bit (b.nd n Cx.ALLOWED_LANES))).getD ((bandLanes d).headD 0)
  let reach := b.reachOf n
  let white := whitens d (b.nd n Cx.TX_MODE_BIT)
  [lane, 0, b.nd n Cx.TX_MODE_BIT + 16 * d + 64 * b.nd n Cx.TX_FEC, b.nd n Cx.TX_MCS] ++
  leBytes (psdu.length + micLen (b.sealLevel (b.sealKindOf n psdu)).1 + fcsLen d) 2 ++
  [b2n (fcs2At d) + 2 * b2n white + 4 * b.kindFor n, reach] ++ leBytes n 4 ++ leBytes (b.nd n Cx.POWER) 2 ++ [0, 0]

/-- A node's state bars a frame from its list (R299); `join` says that the frame is its join response. -/
def Chip.dlBars (b : Chip) (n : Nat) (join : Bool) : Bool :=
  let s := b.ns n
  s == NS.ADMITTED || s == NS.SUSPENDED || s == NS.RETIRED || s == NS.EMPTY || (s == NS.JOINING && !join)
/-- Place a frame in a node's downlink list (R299, R408): the code and the item's identity. -/
def Chip.dlPush (b : Chip) (n : Nat) (psdu : List Nat) (prio : Nat) (front : Bool) : Opened :=
  let q := b.nd n Cx.DL_QUEUE
  if b.dlBars n front then ⟨b.inc Reg.MAC_DL_DISCARD, 0, OK⟩
  else if b.pat.queueCount ≤ q ∨ (b.q q).consumer ≠ CONS_NODE then ⟨b.inc Reg.MAC_DL_DISCARD, 0, OK⟩
  else
    let o := b.pushItem q (b.txHeader n psdu ++ psdu) prio n front
    if o.code = OK then ⟨o.b.dlChanged n, o.id, OK⟩ else o

/-! ### The prefetch (R261, R262, R264, R269, R289, R290) -/

/-- A cell whose LANE disagrees with its owner's present parent (R269). -/
def Chip.cellStale (b : Chip) (w : Nat) : Bool :=
  cType w == 3 && decide (cOwner w < b.pat.nodeCount) && ((b.nd (cOwner w) Cx.PARENT == parentDev) != (cLane w != 7))
/-- Whether a cell read for a slot is not served, and whether it is stale. -/
def Chip.cellOff (b : Chip) (slot w : Nat) : Bool × Bool :=
  let stale := b.cellStale w
  let hand := match b.sea.hand with
    | some (s, _) => slot == s || slot + 1 == s
    | none => false
  let off := cHeld w || !b.serves || decide (slot < b.sch.first) || (b.t Reg.PWR_BATTERY && !cBattery w) || hand || b.upd.paused
  (off || stale, stale && !off)

/-- The frames planned on a column for a slot at the prefetch. -/
def Chip.planCell (b : Chip) (slot : Nat) (e : SlotCell) : Chip :=
  let lane := colLane e.col
  let d := laneBand lane
  let t := slot * b.slotNs + b.r Reg.SCH_TX_OFFSET_US * 1000
  let o := cOwner e.word
  if e.off || cLane e.word == 7 then b
  else match cType e.word, cDown e.word with
    | 3, true => ((b.stageHead o).txNew { src := .cell e.col e.word, lane := lane, chan := colChan e.col, kind := 2, node := o, t := t,
                                          g := e.g, fcs2 := fcs2At d }).1
    | 1, true =>
      let m := b.r (if d = 0 then Reg.SCH_BEACON_MODE_L else if d = 1 then Reg.SCH_BEACON_MODE_M else Reg.SCH_BEACON_MODE_H)
      (b.txNew { src := .beacon e.col, lane := lane, chan := colChan e.col, kind := 1, t := t, modeBit := m, fcs2 := fcs2At d,
                 mcs := if isOfdm d m then b.r Reg.SCH_BEACON_MCS_M else 0 }).1
    | 5, true => (b.txNew { src := .bcast e.col none, lane := lane, chan := colChan e.col, kind := 3, t := t, fcs2 := fcs2At d }).1
    | _, _ => b

/-- Slots of a run of WAKE cells of a node on a column from a slot on. -/
def Chip.runAhead (b : Chip) (n col slot fuel : Nat) : Nat :=
  match fuel with
  | 0 => 0
  | k + 1 =>
    let w := b.cell (slot % max 1 b.sfSlots * b.cols + col)
    if cType w = T.WAKE ∧ cOwner w = n ∧ ¬ cHeld w then 1 + b.runAhead n col (slot + 1) k else 0

/-- A train or a call to a node is under way, its payload and the acknowledgement wait included. -/
def Chip.waking (b : Chip) (n : Nat) : Bool :=
  b.tx.frames.any (fun x => x.2.node == n && x.2.kind == 4 && (x.2.phase != TxPhase.planned ||
    (match x.2.src with
      | .payload _ => true
      | _ => false))) || (kget b.mac.waits n).isSome
/-- A WAKE cell of a slot: what goes out in it is settled at its key point, unless a train or a call is under way in it (R246, R264). -/
def Chip.planWake (b : Chip) (slot : Nat) (e : SlotCell) : Chip :=
  let n := cOwner e.word
  let off := slot * b.slotNs + b.r Reg.SCH_TX_OFFSET_US * 1000
  if e.off || cType e.word != T.WAKE || (decide (n < b.pat.nodeCount) && b.waking n) then b
  else ((b.stageHead n).txNew { src := .wake e.col, lane := colLane e.col, chan := colChan e.col, kind := 4, node := n, t := off }).1
/-- The train or the wake call that starts in a WAKE cell, ahead of the head frame of its owner's list (R253 to R255). -/
def Chip.wakeOf (b : Chip) (f : TxF) (col : Nat) (i : Item) : TxF :=
  let n := f.node
  let c := f.chain
  let r := b.reachOf n
  let len := b.airLen (b.nd n Cx.BAND) (b.sealKindOf n i.psdu) i.psdu
  let slot := b.slotAt f.t
  let f0 : TxF := { f with reach := r, power := b.nds n Cx.POWER, payUs := b.nodeAir n len, phase := .keyed,
                           limit := (slot + b.runAhead n col slot b.sfSlots) * b.slotNs - 100000 }
  if r = 2 then
    let us := b.callUs c (b.nd n Cx.WAKE_LEN) 1
    { f0 with airUs := us, gapUs := b.r (Reg.TXP_WAKE_FOLLOW_US c), step := us, pattern := b.nd n Cx.WAKE_PATTERN,
              patLen := b.nd n Cx.WAKE_LEN, pre := b.r (Reg.TXP_WAKE_PRE c), rate := b.r (Reg.TXP_WAKE_RATE c), reps := 1 }
  else
    let p := b.trainPlan n c f.t
    { f0 with t := p.1, copies := p.2, step := b.trainS n c, airUs := p.2 * b.trainS n c, len := 13, fcs2 := true,
              modeBit := b.nd n Cx.TX_MODE_BIT, mcs := b.nd n Cx.TX_MCS, fec := b.nd n Cx.TX_FEC == 1,
              preamble := b.nd n Cx.PREAMBLE, seq := b.mac.seq, psdu := [0x01, 0x2A] }

/-- The pair beacon of a slot (R277): of every slot, once, while its key point is still to come. -/
def Chip.planPair (b : Chip) (slot : Nat) : Chip :=
  if !b.t Reg.SCH_PAIR_EN || b.role != 3 || b.upd.paused || b.sea.hand.any (fun h => h.1 == slot) then b
  else
    let col := b.r Reg.SCH_PAIR_COL
    let lane := colLane col
    let d := laneBand lane
    let off := b.r (if b.r Reg.SEA_PAIR_EPOCH % 2 = 0 then Reg.SCH_PAIR_OFF0_US else Reg.SCH_PAIR_OFF1_US)
    let m := b.r (if d = 0 then Reg.SCH_BEACON_MODE_L else if d = 1 then Reg.SCH_BEACON_MODE_M else Reg.SCH_BEACON_MODE_H)
    let t := slot * b.slotNs + off * 1000
    if t < b.nowNs + 200000 ∨ b.tx.frames.any (fun e => e.2.src == TxSrc.pairBeacon && e.2.t == t) then b
    else (b.txNew { src := .pairBeacon, lane := lane, chan := colChan col, kind := 1, t := t, modeBit := m,
                    fcs2 := fcs2At d, mcs := if isOfdm d m then b.r Reg.SCH_BEACON_MCS_M else 0 }).1

/-- The pair beacons of the slot in progress and of the one whose prefetch has been. -/
def Chip.planPairs (b : Chip) : Chip :=
  let now := b.slotAt b.nowNs
  let b1 := b.planPair now
  if b1.sch.nxtSlot = some (now + 1) then b1.planPair (now + 1) else b1
/-- PAIR_SET has changed PAIR_EN or PAIR_COL: the pair beacons that have not been taken are planned anew (R277). -/
def Chip.pairRenew (b old : Chip) : Chip :=
  if b.r Reg.SCH_PAIR_EN = old.r Reg.SCH_PAIR_EN ∧ b.r Reg.SCH_PAIR_COL = old.r Reg.SCH_PAIR_COL then b
  else
    let gone := b.tx.frames.filter (fun e => e.2.src == TxSrc.pairBeacon && (e.2.phase == TxPhase.planned || e.2.phase == TxPhase.keyed))
    (gone.foldl (fun c e => c.txDel e.1) b).planPairs

/-- The prefetch of a slot: its cells are read, their owners fetched and evaluated, their frames planned. -/
def Chip.prefetch (b : Chip) (slot : Nat) : Chip :=
  let words := b.row (slot % max 1 b.sfSlots)
  let st := slot * b.pat.slotStitches
  let owners := (distinct ((words.map (fun e => cOwner e.2)).filter (fun o => decide (o < b.pat.nodeCount)))).reverse
  let b1 := owners.foldl (fun c n => (c.cacheFetch n).evalNode n st) b
  let cells := (b1.row (slot % max 1 b.sfSlots)).map (fun e =>
    let o := cOwner e.2
    ({ col := e.1, word := e.2, g := if o < b1.pat.nodeCount then b1.guardUs o st else 0, off := (b1.cellOff slot e.2).1 } : SlotCell))
  let stale := ((b1.row (slot % max 1 b.sfSlots)).filter (fun e => (b1.cellOff slot e.2).2)).length
  let b2 := b1.add Reg.SCH_CELL_STALE stale
  let offs := (b2.r Reg.SCH_TX_OFFSET_US, b2.r Reg.SCH_ACK_OFFSET_US)
  let b3 : Chip := { b2 with sch := { b2.sch with nxt := cells, nxtSlot := some slot, lastRead := slot, nxtOff := offs } }
  (cells.foldl (fun c e => (c.planCell slot e).planWake slot e) b3).planPair slot

/-! ### Slot and superframe starts (R142, R276, R284, R297) -/

/-- A slot starts: its cells are in progress, ended runs are freed, pending calibrations are tested. -/
def Chip.slotStart (b : Chip) (slot : Nat) : Chip :=
  let b0 := if b.sch.nxtSlot = some slot ∨ slot < b.sch.first then b else b.prefetch slot
  let live := b0.sch.nxtSlot = some slot
  let b1 : Chip := { b0 with sch := { b0.sch with
    cur := if live then b0.sch.nxt else [], curSlot := if live then some slot else none, curOff := b0.sch.nxtOff, nxt := [], nxtSlot := none } }
  let ended := (b1.sch.runs.filter (fun e => decide (e.2.slot + e.2.count ≤ slot))).map (·.1)
  let b3 := ended.foldl (fun c n => (c.runFree n).wantRun n) b1
  (List.range 4).foldl (fun c g => c.calSlot (slot % max 1 b.sfSlots) ((slot + 1) % max 1 b.sfSlots) g) b3

/-- A JOINING node at a superframe start (R297). -/
def Chip.joinTick (b : Chip) (n : Nat) : Chip :=
  let k := kgetD b.mac.joinSf n 0 + 1
  if k < b.r Reg.MAC_JOIN_TIMEOUT_SF then { b with mac := { b.mac with joinSf := kput b.mac.joinSf n k } }
  else
    let b1 := (b.dlDiscard n).1.setNs n NS.ADMITTED
    let b2 : Chip := { b1 with mac := { b1.mac with joinSf := kdel b1.mac.joinSf n } }
    (b2.inc Reg.MAC_JOIN_TIMEOUT).noteFirst N.JOIN_TIMEOUT n 1

/-- A LOST node at a superframe start (R284, R294). -/
def Chip.lostTick (b : Chip) (n : Nat) : Chip :=
  if b.sch.lostFresh.contains n then b
  else
    let b1 := b.ndAdd n Cx.LOST_SF 1
    let keep := b1.r Reg.SCH_LOST_KEEP_SF
    if keep ≠ 255 ∧ keep ≤ b1.nd n Cx.LOST_SF then b1.freeHeld n else b1

/-- A band that should have a beacon and has none (R276). -/
def Chip.noBeacon (b : Chip) (d : Nat) : Bool :=
  (bandLanes d).any b.laneExists &&
  b.mac.nodes.any (fun e => decide (3 ≤ cx e.2 Cx.STATE ∧ cx e.2 Cx.STATE ≤ 5) && cx e.2 Cx.BAND == d) &&
  !b.sch.cells.any (fun e => cType e.2 == T.BEACON && cOwner e.2 == nodeNone && laneBand (colLane (b.colOf e.1)) == d)

def Chip.superStart (b : Chip) : Chip :=
  let nodesIn := fun (c : Chip) (st : Nat) => (c.mac.nodes.filter (fun e => cx e.2 Cx.STATE == st)).map (·.1)
  let b1 := if b.isStandby || b.gap then b else (nodesIn b NS.JOINING).foldl (fun c n => c.joinTick n) b
  let b2 := if b.isStandby || b.gap then b1 else (nodesIn b1 NS.LOST).foldl (fun c n => c.lostTick n) b1
  let b3 : Chip := { b2 with sch := { b2.sch with lostFresh := [] } }
  let b4 := [0, 1, 2].foldl (fun (c : Chip) d => if c.noBeacon d then c.raise Src.SCH N.NO_BEACON (argB d 0 0 0 0) else c) b3
  let wait := b4.sch.runWait
  wait.foldl (fun c n => c.wantRun n) { b4 with sch := { b4.sch with runWait := [] } }

/-! ### Discontinuities (R265) -/

/-- A WAKE_CALL that has not been taken waits for its stitch, or ends LATE where its take point has passed (R257). -/
def Chip.callJump (b : Chip) (id : Nat) (f : TxF) : Chip := if b.nowNs + 160000 ≤ f.t then b else b.txFail id LATE
/-- A discontinuity: cells from the first whole slot on, the pair beacon of the slot in which stitches resume too; a STANDBY makes no
node-state transition (R482). -/
def Chip.schJump (b : Chip) (before cause us : Nat) : Chip :=
  let ss := max 1 b.pat.slotStitches
  let m := b.tim.nextB
  let s := m / ss
  let first := if m % ss = 0 then s else s + 1
  let old := before / ss
  let skipped := if old < first then first - old - 1 else if m % ss = 0 then 0 else 1
  let gone := b.tx.frames.filter (fun e => e.2.phase == TxPhase.planned || e.2.phase == TxPhase.keyed)
  let b0 := gone.foldl (fun c e => if e.2.src = TxSrc.call then c.callJump e.1 e.2 else (c.txItem e.2 true).txDel e.1) b
  let b1 : Chip := { b0 with sch := { b0.sch with first := first, cur := [], nxt := [], curSlot := none, nxtSlot := none } }
  let b2 := (b1.add Reg.SCH_SLOTS_SKIPPED skipped).raise Src.SCH N.SLOT_SKIPPED (argW skipped cause)
  let near := (b2.mac.nodes.filter (fun e => cx e.2 Cx.STATE == 3 || cx e.2 Cx.STATE == 4)).map (·.1)
  let extra := if cause = 2 then us else b2.r Reg.SCH_DISC_GUARD_US
  let b3 := near.foldl (fun (c : Chip) n => if cause = 3 then (if c.isStandby then c else c.goLost n) else c.ndAdd n Cx.X_US extra) b2
  if m % ss = 0 then b3 else b3.planPair s

/-! ### Placement (R287) -/

/-- The better column for a node's cell: overlapping, of another group, of the same centre, heard better by the margin. -/
def Chip.betterCol (b : Chip) (n col : Nat) : Option Nat :=
  match kget b.sch.heard (n * 1024 + col) with
  | none => none
  | some here =>
    let l := (b.sch.heard.filter (fun e => e.1 / 1024 == n &&
      laneGroup (colLane (e.1 % 1024)) != laneGroup (colLane col) && b.colOverlap (e.1 % 1024) col &&
      b.chanHz (colLane (e.1 % 1024)) (colChan (e.1 % 1024)) == b.chanHz (colLane col) (colChan col) &&
      decide (here + 4 * (b.r Reg.SCH_PLACE_MARGIN : Int) ≤ e.2))).map (fun e => e.1 % 1024)
    l.head?

/-- One cell considered for a move: the block after it, and whether it moved. A move is clamped by the node's allowed lanes, by LANE_EN and by
the lanes that the thermal governor has shed (R35, R38, R287). -/
def Chip.placeOne (b : Chip) (i : Nat) : Chip × Bool :=
  let w := b.cell i
  let n := cOwner w
  if cLane w = 7 ∨ b.pat.nodeCount ≤ n ∨ cPinned w ∨ cHeld w then (b, false)
  else match b.betterCol n (b.colOf i) with
    | none => (b, false)
    | some c =>
      let b1 := b.setCell i freeCell
      let v := putBits w 22 3 (colLane c)
      let j := b.rowOf i * b.cols + c
      let l := colLane c
      if !b1.mayPlace (b.rowOf i) c v then (b, false)
      else if !bit (b.nd n Cx.ALLOWED_LANES) l || !b.t (Reg.RXP_LANE_EN l) || bit (b.r Reg.PWR_SHED_MASK) l then (b.inc Reg.SCH_PLACE_CLAMP, false)
      else ((b1.setCell j v).inc Reg.SCH_PLACE_MOVES, true)

def Chip.placeLoop (b : Chip) (l : List Nat) (left : Nat) : Chip :=
  match l with
  | [] => b
  | i :: t =>
    if left = 0 then b
    else
      let r := b.placeOne i
      r.1.placeLoop t (if r.2 then left - 1 else left)

/-- The placement of a stitch. -/
def Chip.place (b : Chip) : Chip :=
  if b.t Reg.SCH_PLACE_EN && b.serves then b.placeLoop (b.sch.cells.map (·.1)) (b.r Reg.SCH_PLACE_RATE) else b

/-! ### The next event (R288) -/

/-- µs from an instant to the next time a row's offset comes. -/
def Chip.rowAhead (b : Chip) (nowUs row : Nat) (e : Int) : Nat :=
  let sf := b.sfSlots * b.slotUs
  if sf = 0 then 0xFFFFFFFF else (((row * b.slotUs : Nat) : Int) + e - (nowUs : Int)).emod (sf : Int) |>.toNat

/-- The offset in a slot at which a cell needs the device, in µs; none where it does not. -/
def Chip.cellEvent (b : Chip) (col w : Nat) : Option Int :=
  if cLane w = 7 ∨ cHeld w ∨ b.cellStale w ∨ !b.colOk col ∨ (b.t Reg.PWR_BATTERY ∧ ¬ cBattery w) then none
  else if cDown w then some ((b.r Reg.SCH_TX_OFFSET_US : Int) - 200)
  else if cType w = 2 then some 0
  else some ((b.r Reg.SCH_TX_OFFSET_US : Int) - (b.nd (cOwner w) Cx.G_US : Int))

/-- NEXT_EVENT: the cells that are served, the acknowledgements decided and not yet on air, the pair-beacon offsets; on battery the cells
with BATTERY alone (R288, R289). -/
def Chip.nextEvent (b : Chip) : Nat :=
  if b.t Reg.SCH_KEEP_LISTEN then 0
  else
    let now := b.tim.stitch * 250
    let cells := if b.serves then b.sch.cells.filterMap (fun e => (b.cellEvent (b.colOf e.1) e.2).map (fun o => b.rowAhead now (b.rowOf e.1) o)) else []
    let bat := b.t Reg.PWR_BATTERY
    let air := if bat then [] else
      (b.tx.frames.filter (fun e => e.2.isAck && e.2.phase != TxPhase.air && decide (now + 200 ≤ e.2.t / 1000))).map (fun e =>
        e.2.t / 1000 - 200 - now)
    let pair := if b.t Reg.SCH_PAIR_EN && !bat then
      [b.r Reg.SCH_PAIR_OFF0_US, b.r Reg.SCH_PAIR_OFF1_US].map (fun o => if b.slotUs = 0 then 0 else (o + (b.slotUs - now % b.slotUs)) % b.slotUs) else []
    (cells ++ air ++ pair).foldl min 0xFFFFFFFF

end Sys2Proof.Machine
end

