-- ==== Sys2Proof/Machine/Lowpan.lean ====
section
/-!
DEFINITION. Octets of IPv6 packets, and the RFC 6282 compression of a packet as the adaptation stage reads and writes it (R448, R451). The
formats are those of the RFCs that the spec names, PRESUMED (log entry 19); which of the forms that RFC 6282 allows a compressed packet takes is
a free value.
-/
namespace Sys2Proof.Machine

/-! ### Octets of a packet -/

def ipNext (p : List Nat) : Nat := p.getD 6 0
def ipSrc (p : List Nat) : Nat := beNat (slice p 8 16)
def ipDst (p : List Nat) : Nat := beNat (slice p 24 16)
/-- The top 3 bits of the traffic class (R410). -/
def ipPrio (p : List Nat) : Nat := p.getD 0 0 % 16 / 2
/-- A header with the fields the device sets: hop limit 64, traffic class and flow label 0. -/
def ipHead (nh len src dst : Nat) : List Nat := [0x60, 0, 0, 0] ++ beBytes len 2 ++ [nh, 64] ++ beBytes src 16 ++ beBytes dst 16

/-- The 16-bit one's complement sum of octets. -/
def sum16 (l : List Nat) : Nat :=
  match l with
  | [] => 0
  | [x] => x * 256
  | x :: y :: t => x * 256 + y + sum16 t
/-- The Internet checksum of octets. -/
def cksum (l : List Nat) : Nat :=
  let s := sum16 l
  let f := s / 65536 + s % 65536
  65535 - (f / 65536 + f % 65536)

/-- The modified EUI-64 interface identifier of an EUI-64. -/
def iidOf (eui : Nat) : Nat := xorN eui (2 ^ 57)
/-- The interface identifier of a short address (RFC 6282). -/
def shortIid (a : Nat) : Nat := 0xFFFE000000 + a
/-- The interface identifier of a link-layer address: a short one, or an EUI-64. -/
def linkIid (mode a : Nat) : Nat := if mode = 2 then shortIid a else iidOf a

/-! ### Addresses (R448) -/

/-- The valid compression contexts: CID, prefix length and prefix. -/
abbrev Ctxs := List (Nat × Nat × List Nat)
/-- An address under a context: its prefix, then the bits of an interface identifier. -/
def ctxAddr (c : Ctxs) (ci iid : Nat) : Option Nat :=
  (c.find? (fun e => e.1 == ci)).map (fun e =>
    let m := 2 ^ (128 - e.2.1)
    beNat e.2.2 / m * m + iid % m)
/-- Octets that a unicast address form carries inline. -/
def uniLen (sac : Bool) (mode : Nat) : Nat := if mode = 0 then (if sac then 0 else 16) else [0, 8, 2, 0].getD mode 0
/-- The address of a unicast form; `link` is the interface identifier that the encapsulating header gives. -/
def uniAddr (c : Ctxs) (sac : Bool) (mode ci link : Nat) (l : List Nat) : Option Nat :=
  if mode = 0 then some (if sac then 0 else beNat l)
  else
    let iid := if mode = 1 then beNat l else if mode = 2 then shortIid (beNat l) else link
    if sac then ctxAddr c ci iid else some (0xFE80 * 2 ^ 112 + iid)
/-- Octets that a multicast address form carries inline. -/
def mcLen (dac : Bool) (mode : Nat) : Nat := if dac then 6 else [16, 6, 4, 1].getD mode 0
/-- The address of a multicast form; none for a reserved one. -/
def mcAddr (c : Ctxs) (dac : Bool) (mode ci : Nat) (l : List Nat) : Option Nat :=
  let flags := 0xFF * 2 ^ 120 + l.headD 0 * 2 ^ 112
  if dac then
    if mode ≠ 0 then none
    else (c.find? (fun e => e.1 == ci)).map (fun e =>
      beNat ([0xFF] ++ l.take 2 ++ [e.2.1] ++ beBytes (beNat e.2.2 / 2 ^ (128 - e.2.1) * 2 ^ (128 - e.2.1) / 2 ^ 64) 8 ++ slice l 2 4))
  else if mode = 0 then some (beNat l)
  else if mode = 3 then some (0xFF02 * 2 ^ 112 + l.headD 0)
  else some (flags + beNat (l.drop 1))

/-! ### Decompression (R448) -/

/-- A field of a header that the rest of the packet settles: 0 an IPv6 length, 1 a UDP length, 2 a UDP checksum; where its header starts, and where
the IPv6 header over it does. -/
abbrev Fix := Nat × Nat × Nat
/-- `n` octets of what is left. -/
def cut? (n : Nat) (l : List Nat) : Option (List Nat × List Nat) := if l.length < n then none else some (l.take n, l.drop n)
/-- Traffic class and flow label of a TF form: octets inline, and the first word of the header. -/
def tfLen (tf : Nat) : Nat := [4, 3, 1, 0].getD tf 0
def tfWord (tf : Nat) (l : List Nat) : Nat :=
  let t := l.headD 0
  let fl := fun (i : Nat) => l.getD i 0 % 16 * 65536 + l.getD (i + 1) 0 * 256 + l.getD (i + 2) 0
  0x60000000 + (if tf = 0 then (t % 64 * 4 + t / 64) * 2 ^ 20 + fl 1
    else if tf = 1 then t / 64 * 2 ^ 20 + fl 0
    else if tf = 2 then (t % 64 * 4 + t / 64) * 2 ^ 20 else 0)
/-- The ports of a UDP form: octets inline, and the four octets. -/
def portLen (p : Nat) : Nat := [4, 3, 3, 1].getD p 0
def portOctets (p : Nat) (l : List Nat) : List Nat :=
  match p with
  | 0 => l.take 4
  | 1 => l.take 2 ++ [0xF0, l.getD 2 0]
  | 2 => [0xF0, l.getD 0 0] ++ slice l 1 2
  | _ => [0xF0, 0xB0 + l.headD 0 / 16, 0xF0, 0xB0 + l.headD 0 % 16]
/-- The extension headers of NHC by EID: their protocol numbers. -/
def extProto (eid : Nat) : Option Nat := [some 0, some 43, some 44, some 60, some 135].getD eid none
/-- The octets of an extension header after its length octet, padded where it holds options; none where they make no header. -/
def extBody (eid : Nat) (d : List Nat) : Option (List Nat) :=
  if eid = 2 then (if d.length = 6 then some ([0] ++ d) else none)
  else
    let pad := (8 - (2 + d.length) % 8) % 8
    let fill := if pad = 0 then [] else if pad = 1 then [0] else [1, pad - 2] ++ List.replicate (pad - 2) 0
    if pad = 0 ∨ eid = 0 ∨ eid = 3 then some ([(2 + d.length + pad) / 8 - 1] ++ d ++ fill) else none

/-- Decompress what stands at offset `at_` of the packet: an IPHC header with all after it, or an NHC one. The answer: the protocol number, the
octets, and the fields left to settle. -/
def unpack (fuel : Nat) (c : Ctxs) (elide ip : Bool) (src dst at_ ipAt : Nat) (l : List Nat) : Option (Nat × List Nat × List Fix) :=
  match fuel with
  | 0 => none
  | k + 1 =>
    if ip then do
      let (h, l) ← cut? 2 l
      let a := h.headD 0
      let m := h.getD 1 0
      if a / 32 ≠ 3 then none
      let (ci, l) ← cut? (b2n (bit m 7)) l
      let tf := bits a 3 2
      let (t, l) ← cut? (tfLen tf) l
      let (nh, l) ← cut? (b2n (!bit a 2)) l
      let (hl, l) ← cut? (b2n (a % 4 == 0)) l
      let (s, l) ← cut? (uniLen (bit m 6) (bits m 4 2)) l
      let sa ← uniAddr c (bit m 6) (bits m 4 2) (ci.headD 0 / 16) src s
      let dm := m % 4
      let dac := bit m 2
      if !bit m 3 && dac && dm == 0 then none
      let (d, l) ← cut? (if bit m 3 then mcLen dac dm else uniLen dac dm) l
      let da ← if bit m 3 then mcAddr c dac dm (ci.headD 0 % 16) d else uniAddr c dac dm (ci.headD 0 % 16) dst d
      let x ← if bit a 2 then unpack k c elide false (sa % 2 ^ 64) (da % 2 ^ 64) (at_ + 40) at_ l else some (nh.headD 0, l, [])
      let hop := if a % 4 = 0 then hl.headD 0 else [0, 1, 64, 255].getD (a % 4) 0
      some (41, beBytes (tfWord tf t) 4 ++ [0, 0, x.1, hop] ++ beBytes sa 16 ++ beBytes da 16 ++ x.2.1, (0, at_, at_) :: x.2.2)
    else do
      let (h, l) ← cut? 1 l
      let a := h.headD 0
      if a / 8 = 30 then
        let e := bit a 2
        if e && !elide then none
        let (p, l) ← cut? (portLen (a % 4)) l
        let (s, l) ← cut? (if e then 0 else 2) l
        some (17, portOctets (a % 4) p ++ [0, 0] ++ (if e then [0, 0] else s) ++ l, (1, at_, ipAt) :: (if e then [(2, at_, ipAt)] else []))
      else if a = 0xEE then unpack k c elide true src dst at_ at_ l
      else if a / 16 ≠ 14 then none
      else
        let eid := bits a 1 3
        let pr ← extProto eid
        let (nh, l) ← cut? (b2n (!bit a 0)) l
        let (n, l) ← cut? 1 l
        let (d, l) ← cut? (n.headD 0) l
        let body ← extBody eid d
        let x ← if bit a 0 then unpack k c elide false src dst (at_ + 1 + body.length) ipAt l else some (nh.headD 0, l, [])
        some (pr, [x.1] ++ body ++ x.2.1, x.2.2)

/-- A payload decompressed, and the fields left to settle: an IPHC packet, or one that came whole (RFC 4944). -/
def unpackIp (c : Ctxs) (elide : Bool) (src dst : Nat) (l : List Nat) : Option (List Nat × List Fix) :=
  if l.headD 0 = 0x41 then some (l.drop 1, []) else (unpack (l.length + 1) c elide true src dst 0 0 l).map (·.2)
/-- Settle one field of a whole packet. -/
def settleFix (p : List Nat) (f : Fix) : List Nat :=
  let n := p.length - f.2.1
  if f.1 = 0 then splice p (f.2.1 + 4) (beBytes (n - 40) 2)
  else if f.1 = 1 then splice p (f.2.1 + 4) (beBytes n 2)
  else
    let s := cksum (slice p (f.2.2 + 8) 32 ++ beBytes n 4 ++ [0, 0, 0, 17] ++ p.drop f.2.1)
    splice p (f.2.1 + 6) (beBytes (if s = 0 then 0xFFFF else s) 2)
/-- Settle the fields of a whole packet, lengths before checksums. -/
def settleFixes (p : List Nat) (fs : List Fix) : List Nat := (fs.filter (fun f => f.1 == 2)).foldl settleFix ((fs.filter (fun f => f.1 != 2)).foldl settleFix p)

/-! ### Compression (R451) -/

/-- One of the forms that RFC 6282 allows for a field of a packet, a free choice. -/
def pickForm {A : Type} (k : Nat) (p : List Nat) (d : A) (l : List A) : A := l.getD (Config.compressPick k p % l.length) d
/-- An address form: the SAC or DAC bit, the mode, the context and the octets inline. -/
abbrev AddrForm := Bool × Nat × Nat × List Nat
/-- The contexts an address may be formed under: none, and each valid one. -/
def formCtxs (c : Ctxs) : List (Bool × Nat) := (false, 0) :: c.map (fun e => (true, e.1))
/-- The unicast forms that spell an address. -/
def uniForms (c : Ctxs) (link a : Nat) : List AddrForm :=
  (false, 0, 0, beBytes a 16) :: (formCtxs c).flatMap (fun e =>
    ([1, 2, 3].map (fun m => (e.1, m, e.2, if m = 1 then beBytes a 8 else if m = 2 then beBytes a 2 else []))).filter
      (fun f => uniAddr c f.1 f.2.1 f.2.2.1 link f.2.2.2 == some a))
/-- The multicast forms that spell an address. -/
def mcForms (c : Ctxs) (a : Nat) : List AddrForm :=
  let o := beBytes a 16
  (false, 0, 0, o) :: ([(false, 1, 0, slice o 1 1 ++ o.drop 11), (false, 2, 0, slice o 1 1 ++ o.drop 13), (false, 3, 0, o.drop 15)] ++
    c.map (fun (e : Nat × Nat × List Nat) => (true, 0, e.1, slice o 1 2 ++ o.drop 12))).filter (fun (f : AddrForm) => mcAddr c f.1 f.2.1 f.2.2.1 f.2.2.2 == some a)
/-- The traffic class and flow label forms that spell a header's first word. -/
def tfForms (w : Nat) : List (Nat × List Nat) :=
  let tc := bits w 20 8
  let o := tc % 4 * 64 + tc / 4
  ([(0, [o] ++ beBytes (w % 2 ^ 20) 3), (1, beBytes (tc % 4 * 2 ^ 22 + w % 2 ^ 20) 3), (2, [o]), (3, [])]).filter (fun f => tfWord f.1 f.2 == w)
/-- The port forms of a UDP header. -/
def portForms (q : List Nat) : List (Nat × List Nat) :=
  ([(0, q), (1, q.take 2 ++ q.drop 3), (2, q.drop 1), (3, [q.getD 1 0 % 16 * 16 + q.getD 3 0 % 16])]).filter (fun f => portOctets f.1 f.2 == q)

/-- Compress what stands at the head of a list: an IPv6 packet, or the header with a protocol number and all after it, where NHC has a form for it
and its lengths are those of the octets. The UDP checksum is never elided. -/
def pack (fuel : Nat) (c : Ctxs) (ip : Bool) (src dst nh : Nat) (p : List Nat) : Option (List Nat) :=
  match fuel with
  | 0 => none
  | k + 1 =>
    if ip then
      if p.length < 40 ∨ beNat (slice p 4 2) ≠ p.length - 40 then none
      else
        let sa := ipSrc p
        let da := ipDst p
        let mc := decide (da / 2 ^ 120 = 0xFF)
        let tf := pickForm 0 p (0, [0, 0, 0, 0]) (tfForms (beNat (p.take 4)))
        let sf := pickForm 1 p (false, 0, 0, []) (uniForms c src sa ++ (if sa = 0 then [(true, 0, 0, [])] else []))
        let df := pickForm 2 p (false, 0, 0, []) (if mc then mcForms c da else uniForms c dst da)
        let hop := p.getD 7 0
        let hl := pickForm 3 p 0 ([0] ++ [1, 2, 3].filter (fun m => [0, 1, 64, 255].getD m 0 == hop))
        let next := pickForm 4 p none (none :: (match pack k c false (sa % 2 ^ 64) (da % 2 ^ 64) (ipNext p) (p.drop 40) with
          | some x => [some x]
          | none => []))
        let cid := (sf.1 && sf.2.2.1 != 0) || (df.1 && df.2.2.1 != 0)
        let a := 0x60 + tf.1 * 8 + b2n next.isSome * 4 + hl
        let m := b2n cid * 128 + b2n sf.1 * 64 + sf.2.1 * 16 + b2n mc * 8 + b2n df.1 * 4 + df.2.1
        some ([a, m] ++ (if cid then [sf.2.2.1 * 16 + df.2.2.1] else []) ++ tf.2 ++ (if next.isSome then [] else [ipNext p]) ++
          (if hl = 0 then [hop] else []) ++ sf.2.2.2 ++ df.2.2.2 ++ next.getD (p.drop 40))
    else if nh = 17 then
      if p.length < 8 ∨ beNat (slice p 4 2) ≠ p.length then none
      else
        let f := pickForm 5 p (0, p.take 4) (portForms (p.take 4))
        some ([0xF0 + f.1] ++ f.2 ++ slice p 6 2 ++ p.drop 8)
    else if nh = 41 then (pack k c true src dst 0 p).map (fun l => 0xEE :: l)
    else
      match (List.range 5).find? (fun e => extProto e == some nh) with
      | none => none
      | some eid =>
        let n := if eid = 2 then 8 else 8 * (p.getD 1 0 + 1)
        if p.length < n ∨ 257 < n ∨ (eid = 2 ∧ p.getD 1 0 ≠ 0) then none
        else
          let next := pickForm 6 p none (none :: (match pack k c false src dst (p.headD 0) (p.drop n) with
            | some x => [some x]
            | none => []))
          some ([0xE0 + 2 * eid + b2n next.isSome] ++ (if next.isSome then [] else [p.headD 0]) ++ [n - 2] ++ slice p 2 (n - 2) ++ next.getD (p.drop n))
/-- A packet compressed under the valid contexts (R451). -/
def packIp (c : Ctxs) (src dst : Nat) (p : List Nat) : List Nat := (pack (p.length + 1) c true src dst 0 p).getD (0x41 :: p)

end Sys2Proof.Machine
end

