-- ==== Sys2Proof/Machine/Packet.lean ====
section
/-!
DEFINITION. IPv6 packets as the device reads and writes them, forwarding of a packet, and the adaptation of packets to nodes
(R18, R20, R380, R448 to R452). The packet formats are those of the RFCs the spec names, PRESUMED (log entry 19).
-/
namespace Sys2Proof.Machine

/-! ### Packets of the device -/

/-- An ICMPv6 packet; `body` follows the checksum. -/
def icmp (src dst ty code : Nat) (body : List Nat) : List Nat :=
  let n := body.length + 4
  let pseudo := beBytes src 16 ++ beBytes dst 16 ++ beBytes n 4 ++ [0, 0, 0, 58]
  let c := cksum (pseudo ++ [ty, code, 0, 0] ++ body)
  ipHead 58 n src dst ++ [ty, code] ++ beBytes c 2 ++ body

def linkLocal (eui : Nat) : Nat := 0xFE80 * 2 ^ 112 + iidOf eui
/-- The RPL multicast address. -/
def allRpl : Nat := 0xFF02 * 2 ^ 112 + 0x1A

def Chip.dodag (b : Chip) : Nat := beNat b.svc.rpl.dodag
/-- The DODAGID-prefix address of an EUI-64 (R452). -/
def Chip.meshAddr (b : Chip) (eui : Nat) : Nat := b.dodag / 2 ^ 64 * 2 ^ 64 + iidOf eui
def Chip.devAddr (b : Chip) (a : Nat) : Bool :=
  a == linkLocal Config.deviceEui || (b.svc.rpl.set && (a == b.dodag || a == b.meshAddr Config.deviceEui))

/-- The node with an EUI-64 in SYNCED, DRIFTING or LOST. -/
def Chip.linkedEui (b : Chip) (eui : Nat) : Option Nat :=
  (b.mac.nodes.find? (fun e => rev8 (cx e.2 Cx.EUI64) == eui && b.linked e.1)).map (·.1)
/-- The node an address names: a registered address, or the DODAGID-prefix address of such a node (R454). -/
def Chip.addrNode (b : Chip) (a : Nat) : Option Nat :=
  match b.svc.regs.find? (fun r => r.addr == a) with
  | some r => some r.node
  | none => if b.svc.rpl.set ∧ a / 2 ^ 64 = b.dodag / 2 ^ 64 then b.linkedEui (iidOf (a % 2 ^ 64)) else none

/-- A hop-by-hop header's options without the RPL Option: what is left, and whether it held one (R449). -/
def rplOpts (l : List Nat) (fuel : Nat) : List Nat × Bool :=
  match fuel, l with
  | 0, l => (l, false)
  | _, [] => ([], false)
  | k + 1, t :: r =>
    if t = 0 then let x := rplOpts r k; (0 :: x.1, x.2)
    else
      let n := r.headD 0
      let x := rplOpts (r.drop (1 + n)) k
      if t = 0x63 ∨ t = 0x23 then (x.1, true) else (t :: r.take (1 + n) ++ x.1, x.2)
/-- The options of a list are padding alone. -/
def padOnly (l : List Nat) (fuel : Nat) : Bool :=
  match fuel, l with
  | 0, _ => true
  | _, [] => true
  | k + 1, t :: r => if t = 0 then padOnly r k else t == 1 && padOnly (r.drop (1 + r.headD 0)) k
/-- A packet without its RPL Option; a header left with padding alone goes with it. -/
def dropRplOption (p : List Nat) : List Nat :=
  if ipNext p ≠ 0 then p
  else
    let h := p.drop 40
    let n := 8 * (h.getD 1 0 + 1)
    let o := rplOpts (slice h 2 (n - 2)) n
    if !o.2 then p
    else if padOnly o.1 n then
      splice (splice (p.take 40) 6 [h.headD 0]) 4 (beBytes (p.length - 40 - n) 2) ++ h.drop n
    else
      let pad := (8 - (o.1.length + 2) % 8) % 8
      let fill := if pad = 0 then [] else if pad = 1 then [0] else [1, pad - 2] ++ List.replicate (pad - 2) 0
      let hd := [h.headD 0, (o.1.length + 2 + pad) / 8 - 1] ++ o.1 ++ fill
      splice (p.take 40) 4 (beBytes (p.length - 40 - n + hd.length) 2) ++ hd ++ h.drop n
/-- The stage's first act after decompression (R449). -/
def Chip.unwrapIp (b : Chip) (p : List Nat) : List Nat :=
  let q := dropRplOption p
  if ipNext q = 41 ∧ b.devAddr (ipDst q) then dropRplOption (q.drop 40) else q

/-! ### Forwarding (R380) -/

/-- The station address of a port (R550). -/
def Chip.station (b : Chip) (p : Nat) : List Nat := beBytes (b.r (Reg.ETH_MAC_HI p)) 2 ++ beBytes (b.r (Reg.ETH_MAC_LO p)) 4
/-- The Ethernet frame of an IPv6 packet under an entry, without its FCS. -/
def Chip.ethFrame (b : Chip) (r : Route) (pkt : List Nat) : List Nat :=
  leBytes r.hop 6 ++ b.station r.port ++ (if r.tagged then beBytes 0x8100 2 ++ beBytes (r.pcp * 8192 + r.vid) 2 else []) ++
  beBytes 0x86DD 2 ++ pkt

/-- A frame as it leaves an Ethernet port, without its FCS: padded where it is short (PRESUMED, log entry 108). -/
def ethPad (l : List Nat) : List Nat := l ++ List.replicate (60 - l.length) 0
/-- A frame leaves an Ethernet port; its octets are counted from the destination address to the FCS. -/
def Chip.ethSend (b : Chip) (p : Nat) (l : List Nat) : Chip :=
  ((b.emit (.eth p (ethPad l))).inc (Reg.ETH_TX_FRAMES p)).add (Reg.ETH_TX_OCTETS p) (ethOctets l.length)

/-- Push an item with a declared size, its source and its ingress timestamp (R413, R546). -/
def Chip.pushSrc (b : Chip) (q size : Nat) (data : List Nat) (prio src : Nat) (ts : Option (Nat × Nat × Bool)) : Opened :=
  let o0 := b.openItem q size prio noNode false
  if o0.code ≠ OK then o0
  else
    let o : Opened := ⟨(o0.b.writeItem q o0.id data).closeItem q o0.id false, o0.id, OK⟩
    ⟨(o.b.putQ q ((o.b.q q).modItem o.id (fun i => { i with src := src, ts := ts }))).tmgQ q, o.id, OK⟩

/-- A packet goes to the adaptation stage; a STANDBY discards it (R482). -/
def Chip.toAdapt (b : Chip) (a : AdaptIn) : Chip :=
  if b.isStandby then b.inc Reg.SEA_STBY_DL_DROP else { b with adapt := b.adapt ++ [a] }

/-- The size that a packet's producer declares (R413): ETH ingress the port's largest frame, else the packet's own. -/
def Chip.declared (b : Chip) (port : Option (Nat × Nat)) (n : Nat) : Nat := match port with
  | some (p, _) => b.r (Reg.ETH_MAX_FRAME p)
  | none => n

/-- A packet is looked up and goes where its entry says (R380, R381). `port` is the ingress port and the source station. -/
def Chip.forward (b : Chip) (pkt : List Nat) (src : Nat) (ts : Option (Nat × Nat × Bool)) (port : Option (Nat × Nat)) : Opened :=
  let x := b.route (ipDst pkt)
  let r := x.2
  let prio := if r.tagged then r.pcp else ipPrio pkt
  match r.action with
  | 0 => let f := x.1.ethFrame r pkt; x.1.pushSrc r.queue (x.1.declared port f.length) f prio src ts
  | 1 => ⟨x.1.toAdapt { node := some r.node, data := pkt, port := port }, 0, OK⟩
  | 2 => x.1.pushSrc r.queue (x.1.declared port pkt.length) pkt prio src ts
  | _ => ⟨x.1, 0, OK⟩

/-! ### Source routes (R452) -/

/-- The PARENT chain of a node up to the device, first hop first; none where the route fails. -/
def Chip.routeUp (b : Chip) (n depth : Nat) (tail : List Nat) (fuel : Nat) : Option (List Nat) :=
  match fuel with
  | 0 => none
  | k + 1 =>
    let p := if b.ns n = NS.EMPTY then nodeNone else b.nd n Cx.PARENT
    if p = parentDev then some (n :: tail)
    else if p = nodeNone ∨ depth = b.r Reg.SVC_MAX_DEPTH then none
    else b.routeUp p (depth + 1) (n :: tail) k
def Chip.routePath (b : Chip) (n : Nat) : Option (List Nat) := b.routeUp n 1 [] 17

/-- An RFC 6554 header for the hops after the first, with whole addresses, in an outer header from the DODAGID. -/
def Chip.sourceRoute (b : Chip) (first : Nat) (rest : List Nat) (pkt : List Nat) : List Nat :=
  let hops := rest.flatMap (fun n => beBytes (b.meshAddr (b.eui n)) 16)
  let srh := [41, 2 * rest.length, 3, rest.length, 0, 0, 0, 0] ++ hops
  ipHead 43 (srh.length + pkt.length) b.dodag (b.meshAddr (b.eui first)) ++ srh ++ pkt

/-! ### Frames to a node (R451) -/

/-- The destination of a frame to a node: its short address where it has one. -/
def Chip.nodeDst (b : Chip) (n : Nat) : Nat × Nat :=
  if b.nd n Cx.SHORT_ADDR = 0xFFFE then (3, b.eui n) else (2, b.nd n Cx.SHORT_ADDR)
/-- A unicast data frame to a node, its sequence number and counter still to be filled (R307, R333; log entry 14). -/
def Chip.nodeFrame (b : Chip) (n : Nat) (ies body : List Nat) : List Nat :=
  let d := b.nodeDst n
  let l := b.sealLevel (.node n)
  dataFrame true 0 (b.r Reg.MAC_PAN_ID) d.1 d.2 2 (b.r Reg.MAC_SHORT_ADDR) l.1 l.2 ies body

def Chip.fragPsdu (b : Chip) (d : Nat) : Nat :=
  b.r (if d = 0 then Reg.SVC_FRAG_PSDU_L else if d = 1 then Reg.SVC_FRAG_PSDU_M else Reg.SVC_FRAG_PSDU_H)
/-- The octets of a frame to a node that its payload does not use, with a 4-octet FCS. -/
def Chip.frameOver (b : Chip) (n : Nat) : Nat := (b.nodeFrame n [] []).length + micLen (b.sealLevel (.node n)).1 + 4

/-- The payloads of the fragments after the first, from an offset in units of 8 octets. -/
def fragRest (size tag off room : Nat) (l : List Nat) (fuel : Nat) : List (List Nat) :=
  match fuel with
  | 0 => []
  | k + 1 =>
    if l.isEmpty then []
    else (beBytes (0xE000 + size % 2048) 2 ++ beBytes tag 2 ++ [off] ++ l.take room) :: fragRest size tag (off + room / 8) room (l.drop room) k
/-- The fragments of a compressed packet (RFC 4944): `size` is the packet's own length. -/
def fragments (size tag room : Nat) (c : List Nat) : List (List Nat) :=
  let saved := size - c.length
  let n1 := (room - 4 + saved) / 8 * 8 - saved
  (beBytes (0xC000 + size % 2048) 2 ++ beBytes tag 2 ++ c.take n1) ::
    fragRest size tag ((n1 + saved) / 8) (max 8 ((room - 5) / 8 * 8)) (c.drop n1) c.length

/-- The valid compression contexts (R448). -/
def Chip.compCtxs (b : Chip) : Ctxs :=
  (b.svc.ctxs.filter (fun e => e.2.valid)).map (fun e => (e.1, e.2.len, e.2.prefix_))

/-- An ICMPv6 Packet Too Big with MTU 1,280 leaves the ingress port (R451). -/
def Chip.tooBig (b : Chip) (pkt : List Nat) (port : Option (Nat × Nat)) : Chip :=
  let b1 := b.inc Reg.SVC_TOO_BIG
  match port with
  | none => b1
  | some (p, m) =>
    let body := beBytes 1280 4 ++ pkt.take (1280 - 48)
    let out := icmp (if b.svc.rpl.set then b.dodag else linkLocal Config.deviceEui) (ipSrc pkt) 2 0 body
    b1.ethSend p (leBytes m 6 ++ b.station p ++ beBytes 0x86DD 2 ++ out)

/-- A packet to a node (R451, R452). -/
def Chip.adaptTo (b : Chip) (n : Nat) (pkt : List Nat) (port : Option (Nat × Nat)) : Chip :=
  if 2047 < pkt.length then b.tooBig pkt port
  else match b.routePath n with
    | none => (b.inc Reg.SVC_NO_ROUTE).noteFirst N.NO_ROUTE n 1
    | some [] => b
    | some (first :: rest) =>
      let p := if rest.isEmpty then pkt else b.sourceRoute first rest pkt
      if 2047 < p.length then b.tooBig pkt port else
      let d := b.nodeDst first
      let c := packIp b.compCtxs (shortIid (b.r Reg.MAC_SHORT_ADDR)) (linkIid d.1 d.2) p
      let used := b.frameOver first
      let limit := b.fragPsdu (b.nd first Cx.BAND)
      if used + c.length ≤ limit then (b.dlPush first (b.nodeFrame first [] c) (ipPrio pkt) false).b
      else
        let fs := fragments p.length b.svc.fragTag (limit - used) c
        let b1 : Chip := { b with svc := { b.svc with fragTag := (b.svc.fragTag + 1) % 65536 } }
        fs.foldl (fun c f => (c.dlPush first (c.nodeFrame first [] f) (ipPrio pkt) false).b) b1

/-- ADAPTATION_DOWNLINK: the first packet that waits (R429, R451). -/
def Chip.adaptDown (b : Chip) : Chip :=
  match b.adapt with
  | [] => b
  | a :: t =>
    if !bit (b.r Reg.SVC_RUNNING) 0 then b
    else
      let b1 := Chip.touch { b with adapt := t } 0 (256 * addrKey (ipDst a.data))
      match a.node.or ((b1.findEnt 0 (256 * addrKey (ipDst a.data))).bind (fun e => if eAction 0 e.2 = 1 then some (eNode 0 e.2) else none)) with
      | some n => b1.adaptTo n a.data a.port
      | none => (b1.inc Reg.SVC_NO_ROUTE).noteFirst N.NO_ROUTE nodeNone 1

end Sys2Proof.Machine
end

