-- ==== Sys2Proof/Machine/Svc.lean ====
section
/-!
DEFINITION. SVC: the services' intake, reassembly, the RPL root, registration, images and campaigns (R446 to R461).
-/
namespace Sys2Proof.Machine

def Chip.modSvc (b : Chip) (f : Svc → Svc) : Chip := { b with svc := f b.svc }
/-- A service is RUNNING: 0 adaptation, 1 RPL root, 2 registration, 3 images, 4 management (R446). -/
def Chip.svcOn (b : Chip) (i : Nat) : Bool := bit (b.r Reg.SVC_RUNNING) i

/-- A message reaches the intake (R446). -/
def Chip.intake (b : Chip) (x : Intake) : Chip :=
  if 4096 ≤ b.svc.intake.length then b.inc Reg.SVC_SVC_DROP else b.modSvc (fun s => { s with intake := s.intake ++ [x] })

/-! ### Packets from the air (R448 to R450) -/

/-- Neighbour Discovery options: type and content. -/
def ndOpts (l : List Nat) (fuel : Nat) : List (Nat × List Nat) :=
  match fuel, l with
  | 0, _ => []
  | k + 1, t :: n :: r => if n = 0 then [] else (t, r.take (8 * n - 2)) :: ndOpts (r.drop (8 * n - 2)) k
  | _, _ => []
/-- RPL options: type and content. -/
def rplOptions (l : List Nat) (fuel : Nat) : List (Nat × List Nat) :=
  match fuel, l with
  | 0, _ => []
  | k + 1, t :: r => if t = 0 then rplOptions r k else (t, slice r 1 (r.headD 0)) :: rplOptions (r.drop (1 + r.headD 0)) k
  | _, _ => []

def icmpType (p : List Nat) : Nat := p.getD 40 0
def icmpCode (p : List Nat) : Nat := p.getD 41 0
/-- The EARO of a Neighbor Solicitation. -/
def earo (p : List Nat) : Option (List Nat) := ((ndOpts (p.drop 64) 64).find? (fun e => e.1 == 33)).map (·.2)

/-- The service a packet belongs to (R449): 1 RPL, 2 registration. -/
def Chip.svcOf (b : Chip) (p : List Nat) : Option Nat :=
  if ipNext p ≠ 58 then none
  else
    let dev := b.devAddr (ipDst p)
    match icmpType p, icmpCode p with
    | 155, 0 => if dev || ipDst p == allRpl then some 1 else none
    | 155, 2 => if dev then some 1 else none
    | 135, _ => if dev && (earo p).isSome then some 2 else none
    | 157, _ => if dev then some 2 else none
    | _, _ => none

/-- A decompressed packet from a node goes on (R449). -/
def Chip.meshPacket (b : Chip) (n : Nat) (p : List Nat) : Chip :=
  let q := b.unwrapIp p
  match b.svcOf q with
  | some s => b.intake { svc := s, node := n, data := q }
  | none => (b.forward q 2 none none).b

/-- A payload decompressed, with the fields that its whole packet settles (R448). -/
def Chip.decomp (b : Chip) (x : MeshIn) (l : List Nat) : Option (List Nat × List Fix) :=
  unpackIp b.compCtxs (b.t Reg.SVC_CSUM_ELIDE_OK) x.src x.dst l

/-- The payload of an accepted data frame reaches the adaptation stage (R447, R448, R450). -/
def Chip.meshData (b : Chip) (x : MeshIn) : Chip :=
  if x.data.isEmpty then b
  else if !b.svcOn 0 then b.inc Reg.SVC_ADAPT_STOPPED
  else if x.data.headD 0 / 8 = 24 ∨ x.data.headD 0 / 8 = 28 then b.modSvc (fun s => { s with frags := s.frags ++ [x] })
  else match b.decomp x x.data with
    | some p => b.meshPacket x.node (settleFixes p.1 p.2)
    | none => b.inc Reg.SVC_DECOMP_ERR

def Chip.putReasm (b : Chip) (l : List Reasm) : Chip := (b.modSvc (fun s => { s with reasm := l })).w Reg.SVC_REASM_USED l.length

/-- The pieces of a datagram put together, where they are complete. -/
def joinParts (parts : List (Nat × List Nat)) (at_ fuel : Nat) : List Nat :=
  match fuel with
  | 0 => []
  | k + 1 => match parts.find? (fun e => e.1 == at_ && !e.2.isEmpty) with
    | some e => e.2 ++ joinParts parts (at_ + e.2.length) k
    | none => []

/-- FRAGMENT: the first fragment that waits is judged (R450). -/
def Chip.fragment (b0 : Chip) : Chip :=
  match b0.svc.frags with
  | [] => b0
  | m :: t =>
    let n := m.node
    let l := m.data
    let b := b0.modSvc (fun s => { s with frags := t })
    let size := beNat (l.take 2) % 2048
    let tag := beNat (slice l 2 2)
    let first := l.headD 0 / 8 == 24
    let off := if first then 0 else 8 * l.getD 4 0
    let body := if first then b.decomp m (l.drop 4) else some (l.drop 5, [])
    let mine := fun (r : Reasm) => r.eui == b.eui n && r.size == size && r.tag == tag
    let rest := b.svc.reasm.filter (fun r => !mine r)
    match body with
    | none => b.inc Reg.SVC_DECOMP_ERR
    | some (d, fixes) =>
      if size = 0 then b.inc Reg.SVC_REASM_ERR
      else if size < off + d.length then (b.putReasm rest).inc Reg.SVC_REASM_ERR
      else
        let held := b.svc.reasm.find? mine
        if held.isNone ∧ 4096 ≤ b.svc.reasm.length then (b.inc Reg.SVC_REASM_FULL).note (N.REASM_FULL * 2 ^ 16) 1
        else
          let r : Reasm := held.getD { eui := b.eui n, size := size, tag := tag, parts := [],
                                       deadline := b.nowNs + b.r Reg.SVC_REASM_TIMEOUT_S * 1000000000 }
          if r.parts.any (fun e => e.1 == off && e.2.length == d.length) then b
          else if r.parts.any (fun e => decide (e.1 < off + d.length ∧ off < e.1 + e.2.length)) then (b.putReasm rest).inc Reg.SVC_REASM_ERR
          else
            let parts := (off, d) :: r.parts
            let whole := joinParts parts 0 (parts.length + 1)
            let x := { r with parts := parts, fixes := r.fixes ++ fixes }
            if whole.length < size then b.putReasm (x :: rest)
            else ((b.putReasm rest).inc Reg.SVC_REASM_OK).meshPacket n (settleFixes whole x.fixes)

/-- REASSEMBLY_TIMEOUT: contexts whose time has passed (R450). -/
def Chip.reasmTimeout (b : Chip) : Chip :=
  let live := b.svc.reasm.filter (fun r => decide (b.nowNs < r.deadline))
  (b.putReasm live).add Reg.SVC_REASM_TIMEOUT (b.svc.reasm.length - live.length)

/-- A message of the device to a node; only a serving device sends one (R457). -/
def Chip.tell (b : Chip) (n : Nat) (pkt : List Nat) : Chip := if b.serves then b.adaptTo n pkt none else b

/-- Take the first message of a service, where it is of a kind. -/
def Chip.takeIntake (b : Chip) (svc : Nat) (kind : Intake → Bool) : Option (Chip × Intake) :=
  match b.svc.intake.find? (fun x => x.svc == svc) with
  | none => none
  | some x => if kind x then some (b.modSvc (fun s => { s with intake := s.intake.erase x }), x) else none

/-! ### The RPL root (R453 to R455) -/

/-- A sequence counter is newer than another under the lollipop rule of RFC 6550 (R454). -/
def lollipopNewer (x y : Nat) : Bool :=
  if 128 ≤ x ∧ y < 128 then decide (16 < 256 + y - x)
  else if x < 128 ∧ 128 ≤ y then decide (256 + x - y ≤ 16)
  else
    let d := if x < 128 then (x + 128 - y) % 128 else x - y
    decide (0 < d ∧ d ≤ 16)

/-- Reallocate a node's cells of one direction (R455): the block after it, and the code. -/
def Chip.reallocDir (b : Chip) (n : Nat) (down : Bool) (cells : List (Nat × Nat)) : Chip × Nat :=
  let k := cells.length
  if k = 0 then (b, OK)
  else match b.ownerCheck n with
    | some c => (b, c)
    | none =>
      let flags := match cells with
        | e :: _ => bits e.2 25 3
        | [] => 0
      let cols := b.permitted (2 ^ b.nd n Cx.BAND) (b.nd n Cx.ALLOWED_LANES) 0xFFFFFFFF
      match b.allocSeries n T.ASSIGNED down flags k (b.sfSlots / k) 0xFFFFFFFF cols with
      | (b1, some _) => (b1, OK)
      | (b1, none) => (b1, NO_RESOURCE)

/-- The root changes a node's PARENT (R454, R455). -/
def Chip.setParent (b : Chip) (n p : Nat) : Chip :=
  if b.nd n Cx.PARENT = p then b
  else
    let b1 := (b.ndw n Cx.PARENT p).inc Reg.SVC_PARENT_CHANGES
    if p = nodeNone then (b1.reclaimCells n 0x3F false).1
    else
      let mine := fun (down : Bool) => (b1.ownCells n).filter (fun e => cType e.2 == T.ASSIGNED && cDown e.2 == down && !cPinned e.2)
      let b2 := (b1.reclaimCells n (2 ^ T.ASSIGNED) false).1
      let u := b2.reallocDir n false (mine false)
      let d := u.1.reallocDir n true (mine true)
      if u.2 = OK ∧ d.2 = OK then d.1
      else d.1.raise Src.SVC N.CELL_REALLOC_FAIL
        (argW n (b2n (u.2 != OK) + 2 * b2n (d.2 != OK) + (if d.2 = OK then u.2 else d.2) * 256))

/-- A node is the device's choice of parent for itself or a node above it. -/
def Chip.above (b : Chip) (n p fuel : Nat) : Bool :=
  match fuel with
  | 0 => false
  | k + 1 => p == n || (decide (p < b.pat.nodeCount) && b.above n (b.nd p Cx.PARENT) k)

/-- The DAO-ACK of an outcome (R454). -/
def Chip.daoAck (b : Chip) (x : Intake) (base : List Nat) (status : Nat) : Chip :=
  if !bit (base.getD 1 0) 7 then b
  else
    let d := bit (base.getD 1 0) 6
    let body := [base.headD 0, if d then 128 else 0, base.getD 3 0, status] ++ (if d then b.svc.rpl.dodag else [])
    b.tell ((b.addrNode (ipSrc x.data)).getD x.node) (icmp (ipDst x.data) (ipSrc x.data) 155 3 body)

/-- Add a parent named by a further option to the neighbour set (R454). -/
def Chip.addNbr (b : Chip) (n p : Nat) : Chip :=
  let k := b.nd n Cx.NBR_COUNT
  if (b.nbrs n).contains p ∨ 16 ≤ k then b else (b.ndw n (Cx.NBR k) p).ndw n Cx.NBR_COUNT (k + 1)

/-- What a Transit Information option's parent resolves to. -/
def Chip.transitParent (b : Chip) (o : List Nat) : Option Nat :=
  let a := beNat (slice o 4 16)
  if b.devAddr a then some parentDev else b.addrNode a

/-- DAO: the root judges the first message of its intake (R454). -/
def Chip.dao (b0 : Chip) : Chip :=
  match b0.takeIntake 1 (fun x => icmpCode x.data == 2) with
  | none => b0
  | some (b, x) =>
    if !b.svcOn 1 then b
    else
      let base := slice x.data 44 4
      let opts := rplOptions (x.data.drop (48 + if bit (base.getD 1 0) 6 then 16 else 0)) 64
      let target := (opts.find? (fun e => e.1 == 5)).map (fun e => beNat (slice e.2 2 16))
      let transit := (opts.filter (fun e => e.1 == 6)).map (·.2)
      match target.bind b.addrNode, transit with
      | some n, tr :: more =>
        match b.transitParent tr with
        | none => b.inc Reg.SVC_DAO_UNKNOWN
        | some p =>
          let st := kgetD b.svc.routes n {}
          let seq := base.getD 3 0
          let life := tr.getD 3 0
          let put := fun (c : Chip) (dl : Option Nat) => c.modSvc (fun s => { s with routes := kput s.routes n { seq := some seq, deadline := dl } })
          if st.seq.any (fun y => !lollipopNewer seq y) then (b.inc Reg.SVC_DAO_STALE).daoAck x base 0
          else if life = 0 then (((put b none).setParent n nodeNone).inc Reg.SVC_DAO_OK).daoAck x base 0
          else if b.above n p (b.mac.nodes.length + 2) then ((b.raise Src.SVC N.DAO_LOOP (argW n p)).inc Reg.SVC_DAO_LOOP).daoAck x base 128
          else
            let b1 := (put b (some (b.nowNs + life * b.svc.rpl.unit * 1000000000))).setParent n p
            let b2 := (more.filterMap b1.transitParent).foldl (fun c q => if q = parentDev then c else c.addNbr n q) b1
            (b2.inc Reg.SVC_DAO_OK).daoAck x base 0
      | _, _ => b.inc Reg.SVC_DAO_UNKNOWN

/-- The device's DIO (R453). -/
def Chip.dioBody (b : Chip) : List Nat :=
  let r := b.svc.rpl
  [r.inst, r.version] ++ beBytes r.minRank 2 ++ [0x88, 0, 0, 0] ++ r.dodag ++
  [4, 14, 0, r.doublings, r.imin, r.redundancy] ++ beBytes r.maxRank 2 ++ beBytes r.minRank 2 ++ [0, 0, 0, r.life] ++ beBytes r.unit 2
def Chip.dio (b : Chip) (dst : Nat) : List Nat := icmp (linkLocal Config.deviceEui) dst 155 1 b.dioBody
def Chip.trickleReset (b : Chip) : Chip := b.modSvc (fun s => { s with rpl := { s.rpl with grown := 0 } })

/-- DIS: the first message of the root's intake (R453). -/
def Chip.dis (b0 : Chip) : Chip :=
  match b0.takeIntake 1 (fun x => icmpCode x.data == 0) with
  | none => b0
  | some (b, x) =>
    if !b.svcOn 1 then b
    else if ipDst x.data = allRpl then b.trickleReset
    else if b.svc.rpl.set then b.tell x.node (b.dio (ipSrc x.data)) else b

/-- TRICKLE_TIMER: a DIO is due in every band with an enabled lane, and the interval doubles (R453). -/
def Chip.trickle (b : Chip) : Chip :=
  if !b.svcOn 1 || !b.svc.rpl.set || !b.serves then b
  else
    let bands := [0, 1, 2].filter (fun d => (bandLanes d).any b.laneExists)
    b.modSvc (fun s => { s with rpl := { s.rpl with due := bands, grown := min s.rpl.doublings (s.rpl.grown + 1) } })

/-- ROUTE_LIFETIME_EXPIRY: route lifetimes that have ended (R454). -/
def Chip.routeExpiry (b : Chip) : Chip :=
  if !b.serves then b
  else
    let gone := (b.svc.routes.filter (fun e => e.2.deadline.any (fun t => decide (t ≤ b.nowNs)))).map (·.1)
    gone.foldl (fun (c : Chip) n =>
      ((c.modSvc (fun s => { s with routes := kmod s.routes n (fun r => { r with deadline := none }) })).setParent n nodeNone).inc
        Reg.SVC_ROUTE_EXPIRED) b

/-! ### Registration (R456, R457) -/

def Chip.putRegs (b : Chip) (l : List Regn) : Chip := (b.modSvc (fun s => { s with regs := l })).w Reg.SVC_REG_USED l.length
/-- Remove a registration and its entry. -/
def Chip.regDrop (b : Chip) (a : Nat) : Chip :=
  (b.putRegs (b.svc.regs.filter (fun r => r.addr != a))).removeKey 0 (addrKey a)

/-- A registration is judged (R456): the block after it and the EARO status. -/
def Chip.regJudge (b : Chip) (a : Nat) (rovr : Option Nat) (tid life : Nat) : Chip × Nat :=
  match rovr.bind (fun r => (b.linkedEui r).map (fun n => (r, n))) with
  | none => (b.inc Reg.SVC_REG_INVALID, 7)
  | some (r, n) =>
    let old := b.svc.regs.find? (fun x => x.addr == a)
    if old.any (fun x => x.rovr != r) then
      let who := match old with
        | some x => x.node
        | none => 0
      ((b.inc Reg.SVC_REG_DUP).raise Src.SVC N.REG_DUPLICATE (argW n who), 1)
    else if old.any (fun x => !lollipopNewer tid x.tid) then (b.inc Reg.SVC_REG_STALE, 3)
    else if life = 0 then ((if old.isSome then b.regDrop a else b).inc Reg.SVC_REG_OK, 0)
    else
      let put := fun (c : Chip) =>
        let x : Regn := { addr := a, node := n, rovr := r, tid := tid, deadline := c.nowNs + life * 60000000000 }
        ((c.putRegs (x :: c.svc.regs.filter (fun y => y.addr != a))).inc Reg.SVC_REG_OK, 0)
      if old.isSome then put b
      else if b.r Reg.SVC_REG_MAX_PER_NODE ≤ (b.svc.regs.filter (fun x => x.node == n)).length then (b.inc Reg.SVC_REG_FULL, 9)
      else match b.nodeEntry 0 (addrKey a) n with
        | (b1, c) => if c = OK ∨ c = EXISTS then put b1 else (b1.inc Reg.SVC_REG_FULL, 9)

/-- NEIGHBOR_SOLICITATION: a node whose parent is the device registers (R456). -/
def Chip.nsol (b0 : Chip) : Chip :=
  match b0.takeIntake 2 (fun x => icmpType x.data == 135) with
  | none => b0
  | some (b, x) =>
    if !b.svcOn 2 then b
    else
      let o := (earo x.data).getD []
      let rovr := if o.length = 14 then some (beNat (slice o 6 8)) else none
      let r := b.regJudge (beNat (slice x.data 48 16)) rovr (o.getD 3 0) (beNat (slice o 4 2))
      let opt := [33, (o.length + 2) / 8, r.2] ++ o.drop 1
      r.1.tell x.node (icmp (ipDst x.data) (ipSrc x.data) 136 0 ([0xC0, 0, 0, 0] ++ slice x.data 48 16 ++ opt))

/-- EDAR: a deeper node's registration, relayed (R456). -/
def Chip.edar (b0 : Chip) : Chip :=
  match b0.takeIntake 2 (fun x => icmpType x.data == 157) with
  | none => b0
  | some (b, x) =>
    if !b.svcOn 2 then b
    else
      let code := icmpCode x.data
      let n := 8 * (code % 16)
      let rovr := if code % 16 = 1 then some (beNat (slice x.data 48 8)) else none
      let r := b.regJudge (beNat (slice x.data (48 + n) 16)) rovr (x.data.getD 45 0) (beNat (slice x.data 46 2))
      r.1.tell ((r.1.addrNode (ipSrc x.data)).getD x.node) (icmp (ipDst x.data) (ipSrc x.data) 158 code ([r.2] ++ x.data.drop 45))

/-- REGISTRATION_EXPIRY: registrations whose lifetime has passed (R457). -/
def Chip.regExpiry (b : Chip) : Chip :=
  let gone := (b.svc.regs.filter (fun r => decide (r.deadline ≤ b.nowNs))).map (·.addr)
  gone.foldl (fun (c : Chip) a => (c.regDrop a).inc Reg.SVC_REG_EXPIRED) b

/-- RETIRE and CLEAR of a node remove its registrations (R457). -/
def Chip.regsOf (b : Chip) (n : Nat) : Chip :=
  ((b.svc.regs.filter (fun r => r.node == n)).map (·.addr)).foldl (fun (c : Chip) a => c.regDrop a) b

/-! ### Image distribution (R458 to R461) -/

/-- Octets of a slot. -/
def Chip.slotOctets (b : Chip) : Nat := b.pat.imageMib * 131072
def Camp.on (c : Camp) : Bool := c.phase == 1 || c.phase == 2
def Chip.slotBusy (b : Chip) (s : Nat) : Bool := b.svc.camps.any (fun e => e.2.on && e.2.slot == s)
def Camp.blocks (c : Camp) (size : Nat) : Nat := cdiv size (max 1 c.block)

def Chip.putCamp (b : Chip) (k : Nat) (c : Camp) : Chip :=
  let b1 := b.modSvc (fun s => { s with camps := kput s.camps k c })
  b1.w Reg.SVC_CAMP_ACTIVE (b1.svc.camps.foldl (fun a e => if e.2.on then setBit a e.1 else a) 0)

/-- A campaign ends (R461). -/
def Chip.campEnd (b : Chip) (k status : Nat) : Chip :=
  match kget b.svc.camps k with
  | none => b
  | some c =>
    if !c.on then b
    else
      let ts := c.targets.map (fun t => (t.1, if t.2 = 0 ∧ status = OK then 3 else t.2))
      (b.putCamp k { c with phase := 3, status := status, targets := ts }).raise Src.SVC N.CAMP_END
        (argB k status c.round 0 (ts.filter (fun t => t.2 != 1)).length)
/-- Every campaign ends ABORTED (R447, R461). -/
def Chip.campAbort (b : Chip) : Chip := [0, 1, 2, 3].foldl (fun c k => c.campEnd k ABORTED) b

/-- The image a campaign sends. -/
def Chip.campSlot (b : Chip) (c : Camp) : ImgSlot := kgetD b.svc.slots c.slot { size := 0, data := [] }

/-- Block frames of a campaign that are on their way. -/
def Chip.campAir (b : Chip) (k : Nat) : List Nat :=
  (b.tx.frames.filter (fun e => match e.2.src with
    | .bcast _ (some j) => j == k && e.2.phase != TxPhase.planned
    | _ => false)).map (fun e => e.2.step)
/-- The next block a campaign sends, and whether it is the round's last. -/
def Chip.campNext (b : Chip) (k : Nat) (c : Camp) : Option (Nat × Bool) :=
  let air := b.campAir k
  match c.left.filter (fun n => !air.contains n) with
  | [] => none
  | n :: t => some (n, t.isEmpty)

/-- The campaign whose turn a BROADCAST cell of a band is (R461). -/
def Chip.campTurn (b : Chip) (d : Nat) : Option (Nat × Camp) :=
  let ok := b.svc.camps.filter (fun e => e.2.phase == 1 && e.2.band == d && (b.campNext e.1 e.2).isSome)
  let last := kgetD b.svc.turn d 3
  (ok.find? (fun e => decide (last < e.1))).or ok.head?

/-- A broadcast data frame, its sequence number and counter still to be filled (R459). -/
def Chip.bcastFrame (b : Chip) (ies body : List Nat) : List Nat :=
  let l := b.sealLevel .bcast
  dataFrame false 0 (b.r Reg.MAC_PAN_ID) 2 0xFFFF 2 (b.r Reg.MAC_SHORT_ADDR) l.1 l.2 ies body

/-- A block frame (R459). -/
def Chip.blockFrame (b : Chip) (c : Camp) (n : Nat) (last : Bool) : List Nat :=
  let s := b.campSlot c
  let ie := oui ++ [5] ++ leBytes s.imageId 4 ++ leBytes s.version 4 ++ leBytes n 2 ++ leBytes (c.blocks s.size) 2 ++ [c.round, b2n last] ++
    slice s.data (n * c.block) c.block
  b.bcastFrame (ht1 ++ pieOctets 2 ie) []

/-- A block frame has been sent (R461). -/
def Chip.campSent (b : Chip) (k n : Nat) : Chip :=
  match kget b.svc.camps k with
  | none => b
  | some c =>
    let left := c.left.filter (· != n)
    let b1 := b.inc Reg.SVC_IMG_BLOCKS_SENT
    if c.phase ≠ 1 then b1
    else b1.putCamp k (if left.isEmpty then { c with left := [], phase := 2, collect := c.statusSf } else { c with left := left })

/-- A superframe of COLLECTING has passed. -/
def Chip.campTick (b : Chip) : Chip :=
  b.modSvc (fun s => { s with camps := s.camps.map (fun e => (e.1, if e.2.phase = 2 then { e.2 with collect := e.2.collect - 1 } else e.2)) })

/-- Numbers rising without repeats. -/
def insertNat (x : Nat) (l : List Nat) : List Nat :=
  match l with
  | [] => [x]
  | y :: t => if x < y then x :: y :: t else if x = y then y :: t else y :: insertNat x t

/-- CAMPAIGN_COLLECT_END: COLLECTING ends (R461). -/
def Chip.collectEnd (b : Chip) (k : Nat) : Chip :=
  match kget b.svc.camps k with
  | none => b
  | some c =>
    if c.phase ≠ 2 ∨ c.collect ≠ 0 then b
    else if c.targets.any (fun t => t.2 == 0) && decide (c.round < c.maxRounds) then
      let total := c.blocks (b.campSlot c).size
      let set := if c.next.isEmpty then [total - 1] else c.next
      b.putCamp k { c with phase := 1, round := c.round + 1, left := set, setSize := set.length, next := [] }
    else b.campEnd k OK

/-- The missing blocks a report names. -/
def missing (l : List Nat) (total : Nat) : List Nat :=
  ((List.range (min 8 (l.getD 9 0 % 16))).flatMap (fun r =>
    let s := fldLE l (12 + 10 * r) 2
    let m := fldLE l (14 + 10 * r) 8
    ((List.range 64).filter (bit m)).map (s + ·))).filter (fun n => decide (n < total))

/-- IMG_STATUS: a node's report (R460, R461). -/
def Chip.imgStatus (b0 : Chip) : Chip :=
  match b0.takeIntake 3 (fun _ => true) with
  | none => b0
  | some (b, x) =>
    let l := x.data
    let mine := fun (e : Nat × Camp) =>
      let s := b.campSlot e.2
      e.2.on && s.imageId == fldLE l 0 4 && s.version == fldLE l 4 4 && e.2.targets.any (fun t => t.1 == x.node)
    match b.svc.camps.find? mine with
    | none => b.inc Reg.SVC_IMG_IGNORED
    | some (k, c) =>
      if c.phase ≠ 2 then b
      else
        let to_ := fun (v : Nat) => c.targets.map (fun t => if t.1 = x.node then (t.1, v) else t)
        match l.getD 8 0 with
        | 0 => b.putCamp k { c with next := (missing l (c.blocks (b.campSlot c).size)).foldl (fun a n => insertNat n a) c.next }
        | 1 => b.putCamp k { c with targets := to_ 1 }
        | 2 | 3 => b.putCamp k { c with targets := to_ 2 }
        | _ => b

end Sys2Proof.Machine
end

