-- ==== Sys2Proof/Machine/Nodes.lean ====
section
/-!
DEFINITION. MAC's node commands, the rate ladder, the context fetch and REKEY_NODE (R295 to R302, R314 to R320, R366).
-/
namespace Sys2Proof.Machine

/-! ### The ladder (R314, R315) -/

/-- A rung: mode bit and MCS. -/
abbrev Rung := Nat × Nat
/-- A rung sorts before another: by rate, then by SINR threshold. -/
def rungBefore (d : Nat) (fec : Bool) (x y : Rung) : Bool :=
  let rx := bitRate d x.1 x.2
  let ry := bitRate d y.1 y.2
  decide (rx < ry) || (rx == ry && decide (sinrMin d x.1 x.2 fec < sinrMin d y.1 y.2 fec))
def rungInsert (d : Nat) (fec : Bool) (x : Rung) (l : List Rung) : List Rung :=
  match l with
  | [] => [x]
  | y :: t => if rungBefore d fec y x then y :: rungInsert d fec x t else x :: y :: t
/-- The rungs of a context. -/
def Chip.ladder (b : Chip) (c : Nat) : List Rung :=
  let d := cx c Cx.BAND
  let fec := cx c Cx.TX_FEC == 1
  let lo := cx c Cx.MCS_MIN
  let hi := cx c Cx.MCS_MAX
  let ms := (List.range 8).filter (fun m => bit (cx c Cx.MODE_MASK) m && b.modeOn d m)
  let all : List Rung := ms.flatMap (fun m =>
    if isOfdm d m then ((List.range 8).filter (fun s => decide (lo ≤ s ∧ s ≤ hi) && mcsOk d m s)).map (fun s => (m, s)) else [(m, 0)])
  all.foldl (fun a x => rungInsert d fec x a) []
def cxRung (c : Nat) : Rung := (cx c Cx.TX_MODE_BIT, cx c Cx.TX_MCS)
def setRung (c : Nat) (r : Rung) : Nat := cxPut (cxPut c Cx.TX_MODE_BIT r.1) Cx.TX_MCS r.2
/-- A context at the lowest rung of its ladder. -/
def Chip.lowestRung (b : Chip) (c : Nat) : Nat := setRung c ((b.ladder c).headD (0, 0))

/-- The rung has left the ladder: the highest rung below it, or the lowest (R315). -/
def Chip.rungFix (b : Chip) (n : Nat) : Chip :=
  let c := b.node n
  let l := b.ladder c
  if l.contains (cxRung c) then b
  else
    let below := l.filter (fun r => rungBefore (cx c Cx.BAND) (cx c Cx.TX_FEC == 1) r (cxRung c))
    (b.putNode n (setRung c (below.getLast?.getD (l.headD (0, 0))))).inc Reg.MAC_ADAPT_CLAMP

/-- The threshold of a rung of a node, in dB. -/
def Chip.rungMin (b : Chip) (n : Nat) (r : Rung) : Int := sinrMin (b.nd n Cx.BAND) r.1 r.2 (b.nd n Cx.TX_FEC == 1)
/-- A step up that is due is taken; at the top of the ladder it is clamped, and its SINR is judged against the present rung (R35, R315; log entry
125). -/
def Chip.rungUp (b : Chip) (n : Nat) (l : List Rung) (i : Nat) : Chip :=
  let due := fun (r : Rung) => decide (b.r Reg.MAC_UP_COUNT ≤ b.nd n Cx.UP_RUN ∧ 4 * (b.rungMin n r + (b.r Reg.MAC_UP_MARGIN : Int)) ≤ b.nds n Cx.SINR_AVG)
  match l[i + 1]? with
  | some r => if due r then (b.putNode n (cxPut (setRung (b.node n) r) Cx.UP_RUN 0)).inc Reg.MAC_ADAPT_UP else b
  | none => if due (cxRung (b.node n)) then (b.ndw n Cx.UP_RUN 0).inc Reg.MAC_ADAPT_CLAMP else b
/-- A step down that is due is taken; at the bottom of the ladder it is clamped (R35, R315). -/
def Chip.rungDown (b : Chip) (n : Nat) (l : List Rung) (i : Nat) : Chip :=
  if b.nd n Cx.DOWN_RUN < b.r Reg.MAC_DOWN_MISSES ∧
    4 * (b.rungMin n (cxRung (b.node n)) + (b.r Reg.MAC_DOWN_MARGIN : Int)) ≤ b.nds n Cx.SINR_AVG then b
  else if i = 0 then (b.ndw n Cx.DOWN_RUN 0).inc Reg.MAC_ADAPT_CLAMP
  else (b.putNode n (cxPut (setRung (b.node n) (l.getD (i - 1) (0, 0))) Cx.DOWN_RUN 0)).inc Reg.MAC_ADAPT_DOWN
/-- The rate adaptation is judged (R315): a step up, then a step down from the rung that it leaves. -/
def Chip.adaptRate (b : Chip) (n : Nat) : Chip :=
  if b.nd n Cx.ADAPT_EN = 0 then b
  else
    let l := b.ladder (b.node n)
    let b1 := b.rungUp n l (l.idxOf (cxRung (b.node n)))
    b1.rungDown n l (l.idxOf (cxRung (b1.node n)))

/-! ### Commands (R316 to R320) -/

/-- The node index of ARG0 is in range, the role allows the command, and the node is fetched (R316, R295). -/
def Chip.nodeCmd (b : Chip) (base : Nat) (stby : Bool) (f : Chip → Nat → CmdOut) : CmdOut :=
  let n := b.arg base 0
  if b.pat.nodeCount ≤ n then b.structFail base
  else if !stby && (b.isStandby || b.inGap) then b.fail WRONG_STATE
  else f (if b.ns n = NS.EMPTY then b else b.cacheFetch n) n

/-- R312's conditions on REACH and FALLBACK. -/
def reachOk (c : Nat) : Bool :=
  cx c Cx.REACH != 3 && cx c Cx.FALLBACK != 3 && (cx c Cx.REACH != 1 || cx c Cx.SAMPLE_MS != 0) &&
  ((cx c Cx.REACH != 2 && cx c Cx.FALLBACK != 2) || decide (8 ≤ cx c Cx.WAKE_LEN ∧ cx c Cx.WAKE_LEN ≤ 64))
/-- Lanes that the Pattern enables at a band, as a mask. -/
def Chip.bandMask (b : Chip) (d : Nat) : Nat := ((bandLanes d).filter b.laneExists).foldl setBit 0
/-- A mask names a mode, and nothing but what the Pattern enables at the band; bit 8 is FEC (R201, R319). -/
def Chip.modeMaskOk (b : Chip) (d m : Nat) : Bool := m % 256 != 0 && andNot m (b.modes d) == 0
/-- A mask names a mode that the Pattern does not enable (R72). -/
def Chip.modeOver (b : Chip) (d m : Nat) : Bool := andNot m (b.modes d) != 0

/-- The context that ADMIT writes (R317). -/
def Chip.admitCtx (b : Chip) : Nat :=
  let a := fun (i : Nat) => b.arg cbMAC i
  let eui := a 1 + a 2 * 2 ^ 32
  let l : List (CxF × Nat) :=
    [(Cx.STATE, NS.ADMITTED), (Cx.REACH, bits (a 4) 4 2), (Cx.FALLBACK, bits (a 4) 6 2), (Cx.REF_GRADE, bits (a 4) 12 1)] ++
    [(Cx.LEGACY, bits (a 4) 13 1), (Cx.UNSEC_OK, bits (a 4) 14 1), (Cx.DRIFT_CLASS, bits (a 4) 0 3), (Cx.BAND, bits (a 4) 8 2)] ++
    [(Cx.ALLOWED_LANES, b.bandMask (bits (a 4) 8 2)), (Cx.PARENT, nodeNone), (Cx.PREAMBLE, 8), (Cx.EUI64, rev8 eui)] ++
    [(Cx.SHORT_ADDR, bits (a 3) 0 16), (Cx.DL_QUEUE, bits (a 7) 0 13), (Cx.MAX_RETRIES, 4), (Cx.INSTALL_POCKET, bits (a 5) 0 12)] ++
    [(Cx.KEY_EPOCH, b.r Reg.KEY_NODE_EPOCH), (Cx.KEY_INDEX, bits (a 5) 16 8), (Cx.SEC_LEVEL_MIN, 5), (Cx.SAMPLE_MS, bits (a 8) 0 11)] ++
    [(Cx.MODE_MASK, bits (a 6) 0 16), (Cx.MCS_MIN, 1), (Cx.MCS_MAX, 7), (Cx.ADAPT_EN, 1), (Cx.POWER, 140)] ++
    [(Cx.WAKE_LEN, bits (a 9) 0 7), (Cx.WAKE_PATTERN, a 10 + a 11 * 2 ^ 32), (Cx.ADMIT_STITCH, b.stitch32)]
  b.lowestRung (l.foldl (fun c e => cxPut c e.1 e.2) 0)

/-- An address resolves to a node. -/
def Chip.names (b : Chip) (ktype key n : Nat) : Bool := (b.findEnt 0 (ktype + 256 * key)).any (fun e => eAction 0 e.2 == 1 && eNode 0 e.2 == n)
/-- An address resolves elsewhere (R316). -/
def Chip.namesOther (b : Chip) (ktype key n : Nat) : Bool := (b.findEnt 0 (ktype + 256 * key)).isSome && !b.names ktype key n
/-- Install a node's entry, where the address does not resolve to the node already. -/
def Chip.nodeName (b : Chip) (ktype key n : Nat) : Chip × Nat := if b.names ktype key n then (b, OK) else b.nodeEntry ktype key n

def Chip.admitCmd (b : Chip) : CmdOut := b.nodeCmd cbMAC true (fun b n =>
  let c := b.admitCtx
  let d := cx c Cx.BAND
  let e := cx c Cx.EUI64
  let s := cx c Cx.SHORT_ADDR
  let short := cx c Cx.SHORT_ADDR != 0xFFFE
  if d < 3 ∧ (b.modeOver d (cx c Cx.MODE_MASK) ∨ b.pat.queueCount ≤ cx c Cx.DL_QUEUE) then b.structFail cbMAC
  else if d = 3 ∨ !reachOk c ∨ (cx c Cx.WAKE_LEN ≠ 0 ∧ cx c Cx.WAKE_LEN < 8) ∨ 64 < cx c Cx.WAKE_LEN ∨ 2000 < cx c Cx.SAMPLE_MS ∨ cx c Cx.KEY_INDEX = 0 ∨
      !b.modeMaskOk d (cx c Cx.MODE_MASK) then b.fail BAD_ARG
  else if b.isStandby || b.inGap || b.ns n != NS.EMPTY then b.fail WRONG_STATE
  else match b.pocketKey (cx c Cx.INSTALL_POCKET) 1 0 with
    | .inl _ => b.fail KEY_INVALID
    | .inr _ =>
      let b0 := if short then (b.touch 0 (1 + 256 * e)).touch 0 (2 + 256 * s) else b.touch 0 (1 + 256 * e)
      if b0.namesOther 1 e n || (short && b0.namesOther 2 s n) then b0.fail EXISTS
      else match b0.nodeName 1 e n with
        | (b1, r1) =>
          if r1 ≠ OK then b1.fail r1
          else
            let fin := fun (x : Chip) => ((x.putNode n c).dlSync n).cacheFetch n |>.done [cx c Cx.TX_MODE_BIT + cx c Cx.TX_MCS * 16]
            if !short then fin b1
            else match b1.nodeName 2 s n with
              | (b2, r2) => if r2 ≠ OK then (if b0.names 1 e n then b2 else b2.removeKey 1 e).fail r2 else fin b2)

/-- READ_CTX (R318): quarter 0 latches; an EMPTY context reads as zeros. -/
def Chip.macReadCtx (b : Chip) : CmdOut := b.nodeCmd cbMAC true (fun b n =>
  let k := b.arg cbMAC 1
  if 3 < k then b.fail BAD_ARG
  else
    let b1 : Chip := if k = 0 then { b with mac := { b.mac with latch := if b.ns n = NS.EMPTY then 0 else b.node n } } else b
    b1.done ((List.range 16).map (fun i => bits b1.mac.latch (512 * k + 32 * i) 32)))

/-- The checks of R319 on the fields a write covers. -/
def Chip.writeOk (b : Chip) (n lo hi c : Nat) : Bool :=
  let d := cx c Cx.BAND
  let on := fun (f : CxF) => decide (f.pos < hi ∧ lo < f.pos + f.w)
  let idx := fun (v : Nat) => decide (v < b.pat.nodeCount) || v == parentDev || v == nodeNone
  let pins := (b.mac.nodes.filter (fun e => e.1 != n && cx e.2 Cx.CACHE_PIN == 1)).length + cx c Cx.CACHE_PIN
  (!on Cx.PREAMBLE || decide (4 ≤ cx c Cx.PREAMBLE ∧ cx c Cx.PREAMBLE ≤ 64)) &&
  (!on Cx.SEC_LEVEL_MIN || cx c Cx.SEC_LEVEL_MIN != 0) &&
  (!on Cx.SAMPLE_MS || decide (cx c Cx.SAMPLE_MS ≤ 2000)) &&
  (!on Cx.WAKE_LEN || decide (8 ≤ cx c Cx.WAKE_LEN ∧ cx c Cx.WAKE_LEN ≤ 64)) &&
  (!on Cx.MCS_MIN || decide (1 ≤ cx c Cx.MCS_MIN ∧ cx c Cx.MCS_MIN ≤ cx c Cx.MCS_MAX)) &&
  (!on Cx.NBR_COUNT || decide (cx c Cx.NBR_COUNT ≤ 16)) &&
  (!(on Cx.REACH || on Cx.SAMPLE_MS || on Cx.WAKE_LEN) || reachOk c) &&
  (!on Cx.ALLOWED_LANES || andNot (cx c Cx.ALLOWED_LANES) (b.bandMask d) == 0) &&
  (!on Cx.MODE_MASK || b.modeMaskOk d (cx c Cx.MODE_MASK)) &&
  (!on Cx.DL_QUEUE || decide (cx c Cx.DL_QUEUE < b.pat.queueCount)) &&
  (!on Cx.PARENT || idx (cx c Cx.PARENT)) &&
  (List.range 16).all (fun i => !on (Cx.NBR i) || idx (cx c (Cx.NBR i))) &&
  (!on Cx.CACHE_PIN || decide (2 * pins ≤ b.pat.ctxCache) || cx c Cx.CACHE_PIN == 0)

/-- A write of a context names what the structure does not have: a lane, a mode, a queue or a node (R71, R72). -/
def Chip.writeOver (b : Chip) (lo hi c : Nat) : Bool :=
  let d := cx c Cx.BAND
  let on := fun (f : CxF) => decide (f.pos < hi ∧ lo < f.pos + f.w)
  let far := fun (v : Nat) => decide (b.pat.nodeCount ≤ v) && v != parentDev && v != nodeNone
  (on Cx.ALLOWED_LANES && (bandLanes d).any (fun l => bit (cx c Cx.ALLOWED_LANES) l && !b.laneExists l)) ||
  (on Cx.MODE_MASK && b.modeOver d (cx c Cx.MODE_MASK)) ||
  (on Cx.DL_QUEUE && decide (b.pat.queueCount ≤ cx c Cx.DL_QUEUE)) ||
  (on Cx.PARENT && far (cx c Cx.PARENT)) ||
  (List.range 16).any (fun i => on (Cx.NBR i) && far (cx c (Cx.NBR i)))
def Chip.writeCtx (b : Chip) : CmdOut := b.nodeCmd cbMAC true (fun b n =>
  let first := b.arg cbMAC 1
  let cnt := b.arg cbMAC 2
  let old := b.node n
  if first % 4 ≠ 0 then b.fail BAD_ARG
  else if cnt = 0 ∨ 13 < cnt ∨ 256 < first + 4 * cnt then b.fail BAD_LENGTH
  else if b.isStandby || b.inGap || b.ns n == NS.EMPTY || b.ns n == NS.RETIRED then b.fail WRONG_STATE
  else
    let raw := putBits old (8 * first) (32 * cnt) (leNat (ofWords (((b.args cbMAC).drop 3).take cnt)))
    let c := Cx.hostFields.foldl (fun a f => cxPut a f (cx raw f)) old
    if b.writeOver (8 * first) (8 * first + 32 * cnt) c then b.structFail cbMAC
    else if !b.writeOk n (8 * first) (8 * first + 32 * cnt) c then b.fail BAD_ARG
    else
      let b1 := (b.putNode n c).cacheCount
      let b2 := if cx c Cx.MODE_MASK ≠ cx old Cx.MODE_MASK ∨ cx c Cx.MCS_MIN ≠ cx old Cx.MCS_MIN ∨ cx c Cx.MCS_MAX ≠ cx old Cx.MCS_MAX
        then b1.rungFix n else b1
      (b2.dlChanged n).done [cnt])

/-- A node leaves the mesh: its downlink list, the acknowledgement awaited of it, its wake run and a pending rekey go. -/
def Chip.nodeQuiet (b : Chip) (n : Nat) : Chip × Nat :=
  let r := b.dlDiscard n
  let b1 := (r.1.runFree n).rekeyDrop n
  ({ b1 with sch := { b1.sch with runWait := b1.sch.runWait.filter (· != n) },
             mac := { b1.mac with joinSf := kdel b1.mac.joinSf n, csma := kdel b1.mac.csma n, waits := kdel b1.mac.waits n } }, r.2)

def Chip.suspendCmd (b : Chip) : CmdOut := b.nodeCmd cbMAC false (fun b n =>
  if b.ns n = 0 ∨ 5 < b.ns n then b.fail WRONG_STATE
  else
    let r := b.reclaimCells n 0x3F false
    ((r.1.nodeQuiet n).1.setNs n NS.SUSPENDED).done [r.2])

def Chip.resumeCmd (b : Chip) : CmdOut := b.nodeCmd cbMAC false (fun b n =>
  if b.ns n ≠ NS.SUSPENDED then b.fail WRONG_STATE
  else
    let b1 := if b.nd n Cx.JOINED = 1 then b.goLost n else b.setNs n NS.ADMITTED
    b1.done [b1.ns n])

def Chip.retireCmd (b : Chip) : CmdOut := b.nodeCmd cbMAC false (fun b n =>
  if b.ns n = NS.EMPTY ∨ b.ns n = NS.RETIRED then b.fail WRONG_STATE
  else
    let r := b.reclaimCells n 0x3F true
    let q := r.1.nodeQuiet n
    let b1 := if b.nd n Cx.SHORT_ADDR = 0xFFFE then q.1 else q.1.removeKey 2 (b.nd n Cx.SHORT_ADDR)
    (((b1.dropKeys n).regsOf n).setNs n NS.RETIRED).done [r.2, q.2])

def Chip.clearCmd (b : Chip) : CmdOut := b.nodeCmd cbMAC false (fun b n =>
  if b.ns n ≠ NS.RETIRED then b.fail WRONG_STATE
  else
    let b1 := ((b.removeKey 1 (b.nd n Cx.EUI64)).regsOf n).dropKeys n
    (((b1.modSvc (fun s => { s with routes := kdel s.routes n })).putNode n 0).cacheDrop n).done [])

def Chip.findCmd (b : Chip) : CmdOut :=
  let k := b.arg cbMAC 0
  let a := b.arg cbMAC 1
  let key := if k = 0 then 1 + 256 * rev8 (a + b.arg cbMAC 2 * 2 ^ 32) else 2 + 256 * bits a 0 16
  let b1 := b.touch 0 key
  if 1 < k then b.fail BAD_ARG
  else match b1.findEnt 0 key with
    | none => b1.fail NOT_FOUND
    | some (_, e) => let n := eNode 0 e; if b1.ns n = NS.EMPTY then b1.fail NOT_FOUND else b1.done [n, b1.ns n]

def Chip.resetLink (b : Chip) : CmdOut := b.nodeCmd cbMAC false (fun b n =>
  if !b.linked n then b.fail WRONG_STATE
  else
    let c := [Cx.CFO_PPB, Cx.RSSI_AVG, Cx.SINR_AVG, Cx.UP_RUN, Cx.DOWN_RUN].foldl (fun c f => cxPut c f 0) (b.node n)
    (b.putNode n (b.lowestRung c)).done [])

/-! ### The context fetch (R295, R296) -/

/-- An uncorrectable error empties a context and removes the entries that resolve to it (R296). -/
def Chip.ctxLost (b : Chip) (n : Nat) : Chip :=
  let b1 := (b.removeOwn 1 (b.nd n Cx.EUI64) n).removeOwn 2 (b.nd n Cx.SHORT_ADDR) n
  let b2 := ((((b1.nodeQuiet n).1.dropKeys n).setNs n NS.EMPTY).putNode n 0).cacheDrop n
  (b2.inc Reg.MAC_CTX_ECC).noteFirst N.CTX_ECC n 1

/-- CONTEXT_FETCH: a fetch, whose storage is at fault or not. Where the source address of a reception in progress has named the node, the
reception holds the context until it ends (R295). -/
def Chip.fetch (b : Chip) (n : Nat) (ecc : Bool) (ctx : Option Nat) : Chip :=
  if b.pat.nodeCount ≤ n ∨ b.ns n = NS.EMPTY ∨ ¬ b.working then b
  else
    let b1 := if ecc && !b.mac.cache.contains n then (b.cacheFetch n).ctxLost n else b.cacheFetch n
    match ctx with
    | some k => { b1 with rx := { b1.rx with ctxs := kmod b1.rx.ctxs k (fun (x : Ctx) => { x with node := some n }) } }
    | none => b1

/-! ### Join responses and key updates (R302, R366) -/

/-- The JOIN_RESP IE (R302). -/
def Chip.joinResp (b : Chip) (n epoch index : Nat) (key : KeyT) : List Nat :=
  ht1 ++ pieOctets 2 (oui ++ [4] ++ leBytes (b.nd n Cx.SHORT_ADDR) 2 ++ leBytes (b.r Reg.MAC_PAN_ID) 2 ++ leBytes epoch 4 ++
    [index, b.nd n Cx.SEC_LEVEL_MIN] ++ keyOctets key ++ [0, 0])

/-- A join response at the head of the node's list (R301, R302). -/
def Chip.pushJoin (b : Chip) (n : Nat) : Chip :=
  let e := b.nd n Cx.KEY_EPOCH
  match b.linkKey n e with
  | (b1, .inl _) => b1
  | (b1, .inr k) =>
    let p := dataFrame true 0 (b1.r Reg.MAC_PAN_ID) 3 (b1.eui n) 2 (b1.r Reg.MAC_SHORT_ADDR) 7 (b1.r Reg.MAC_KEY_INDEX_JOIN)
      (b1.joinResp n e (b1.nd n Cx.KEY_INDEX) k) []
    (b1.dlPush n p 7 true).b

/-- REKEY_NODE (R366, R372); a node whose DL_QUEUE is no NODE queue has no list for the frame (log entry 120). -/
def Chip.rekeyNode (b : Chip) : CmdOut :=
  let n := b.arg cbKEY 0
  let ix := b.arg cbKEY 1
  let e := b.r Reg.KEY_NODE_EPOCH
  if b.keyBarred then b.fail WRONG_STATE
  else if b.pat.nodeCount ≤ n then b.structFail cbKEY
  else if ix = 0 ∨ 255 < ix ∨ ix = b.r Reg.MAC_KEY_INDEX_JOIN then b.fail BAD_ARG
  else if !b.linked n ∨ e ≤ b.nd n Cx.KEY_EPOCH ∨ (kget b.key.rekeys n).isSome then b.fail WRONG_STATE
  else if 1024 ≤ b.key.rekeys.length ∨ !b.dlTakes n then b.fail NO_RESOURCE
  else match b.linkKey n e with
    | (b1, .inl _) => b1.fail KEY_INVALID
    | (b1, .inr k) =>
      let o := b1.dlPush n (b1.nodeFrame n (b1.joinResp n e ix k) []) 7 true
      if o.code ≠ OK then o.b.fail o.code
      else
        let r : Rekey := { epoch := e, index := ix, item := o.id }
        let b2 : Chip := { o.b with key := { o.b.key with rekeys := kput o.b.key.rekeys n r } }
        (b2.w Reg.KEY_REKEY_PENDING b2.key.rekeys.length).done []

/-- The head of a node's list is its key-update frame. -/
def Chip.rekeyHead (b : Chip) (n : Nat) : Bool :=
  match b.headItem n, kget b.key.rekeys n with
  | some i, some r => r.item == i.id
  | _, _ => false
/-- The acknowledgement of a key-update frame (R366). -/
def Chip.rekeyDone (b : Chip) (n item : Nat) : Chip :=
  match kget b.key.rekeys n with
  | none => b
  | some r =>
    if r.item ≠ item then b
    else
      let b1 := ((b.ndw n Cx.KEY_EPOCH r.epoch).ndw n Cx.KEY_INDEX r.index).ndw n Cx.RX_VALID 0
      let cache := b1.key.cache.filter (fun x => x.node != n || x.epoch == r.epoch)
      let b2 : Chip := { b1 with key := { b1.key with cache := cache, rekeys := kdel b1.key.rekeys n } }
      ((b2.w Reg.KEY_CACHE_USED cache.length).w Reg.KEY_REKEY_PENDING b2.key.rekeys.length).inc Reg.KEY_REKEY_OK

end Sys2Proof.Machine
end

