-- ==== Sys2Proof/Machine/MacRx.lean ====
section
/-!
DEFINITION. The end of a reception: MAC's filter, SEC's verdict, acceptance, duplicates, acknowledgements and the acknowledgements
of nodes (R229, R230, R263, R278, R297 to R309, R311).
-/
namespace Sys2Proof.Machine

/-! ### Outcomes of frames to nodes (R307, R311) -/

/-- A frame to a node has been delivered: its item is released. A context that has become EMPTY keeps nothing of it (R318). -/
def Chip.delivered (b : Chip) (n q item : Nat) : Chip :=
  if b.ns n = NS.EMPTY then b.releaseItem q item
  else (((b.ndw n Cx.RETRY_NOW 0).ndAdd n Cx.TX_FRAMES 1).releaseItem q item).dlChanged n

/-- The node's acknowledgement has come. -/
def Chip.acked (b : Chip) (n : Nat) : Chip :=
  match kget b.mac.waits n with
  | none => b
  | some w =>
    let b1 : Chip := { b with mac := { b.mac with waits := kdel b.mac.waits n } }
    let b2 := (b1.ndAdd n Cx.UP_RUN 1).ndw n Cx.DOWN_RUN 0
    ((b2.adaptRate n).rekeyDone n w.item).delivered n w.q w.item

/-- ACK_WAIT_TIMEOUT: the window has closed without an acknowledgement (R311). -/
def Chip.ackTimeout (b : Chip) (n : Nat) : Chip :=
  match kget b.mac.waits n with
  | none => b
  | some w =>
    let b1 : Chip := { b with mac := { b.mac with waits := kdel b.mac.waits n } }
    let b2 := ((b1.ndAdd n Cx.TX_NOACK 1).ndAdd n Cx.DOWN_RUN 1).ndw n Cx.UP_RUN 0
    let b3 := b2.adaptRate n
    if b1.ns n = NS.EMPTY then b1.releaseItem w.q w.item
    else if b3.nd n Cx.MAX_RETRIES ≤ b3.nd n Cx.RETRY_NOW then
      let b4 := (((b3.ndw n Cx.RETRY_NOW 0).ndAdd n Cx.TX_DROPPED 1).inc Reg.MAC_DROP_RETRY).noteFirst N.RETRY_EXHAUSTED n 1
      let b5 := if (kget b4.key.rekeys n).any (fun (r : Rekey) => r.item == w.item) then b4.rekeyDrop n else b4
      (b5.releaseItem w.q w.item).dlChanged n
    else ((b3.ndAdd n Cx.RETRY_NOW 1).returnItem w.q w.item).dlChanged n

/-! ### Acknowledgements (R263, R271, R304 to R306, R309) -/

/-- A reception that has ended: what it was received with. -/
structure Heard where
  x : Ctx
  r : RxEnd
  f : MacFrame
  n : Nat
  /-- the node's guard allowance at the slot, in µs -/
  g : Nat

/-- The octets of the fields of an acknowledgement that its length depends on. -/
def Chip.ackOctets (b : Chip) (h : Heard) (mine pend : Bool) (tc : Int) (start : Nat) (s : Option (Aux × Nat)) : List Nat :=
  let seq := h.f.seq.getD 0
  if h.f.ver < 2 then leBytes (mkFcf 2 false false false false false 0 0 0 + 16 * b2n pend) 2 ++ [seq]
  else
    let d := b.nodeDst h.n
    let aux := match s with
      | some (k, fc) => auxOctets k.level k.mode fc k.source k.index
      | none => []
    leBytes (mkFcf 2 s.isSome false true h.f.seq.isNone true d.1 2 0 + 16 * b2n pend) 2 ++ (if h.f.seq.isNone then [] else [seq]) ++
    leBytes d.2 (addrLen d.1) ++ aux ++ hieOctets 0x1E (leBytes (ofS tc 12) 2) ++
    (if mine then [] else hieOctets 0 (oui ++ [2] ++ leBytes (start / 250000) 4 ++ leBytes (start % 250000) 4))

/-- An acknowledgement has no take point: it is granted at once if a carrier is free, and not sent otherwise (R242, R304). Its seal has
ended when it is granted, and its set asserts its request now (R185). -/
def Chip.ackGrant (b : Chip) (f : TxF) : Chip :=
  let p := b.txNew f
  match p.1.headCheck p.2 f with
  | some c => (if c = NO_RESOURCE ∧ b.canSend f.chain then p.1.inc Reg.MAC_ACK_SKIPPED else p.1).txFail p.2 c
  | none =>
    let b1 := if f.sealed.isSome then p.1.inc Reg.SEC_SEAL_OK else p.1
    ((b1.txGrant p.2 f).request p.2).coexAssert p.2

/-- MAC decides on the acknowledgement of an accepted frame or of a duplicate. -/
def Chip.ackDecide (b : Chip) (h : Heard) (sec : Option Aux) (dup mramOk : Bool) : Chip :=
  let x := h.x
  let n := h.n
  let slot := b.slotAt x.sfdNs
  let base := slot * b.slotNs
  let offs := b.offsAt x.sfdNs
  let w := match b.slotCell (columnOf x.lane x.chan) x.sfdNs with
    | some e => e.word
    | none => freeCell
  let mine := cRecv w && cOwner w == n
  let phase := b.phaseAt (laneGroup x.lane) x.sfdNs
  let start0 := x.sfdNs - sfdLeadNs x.band x.modeBit x.mcs (b.nd n Cx.PREAMBLE)
  let off : Int := (start0 : Int) - (base : Int)
  let want : Int := (offs.1 * 1000 : Nat)
  let b0 := if mine && decide ((h.g * 1000 : Nat) < (off - want).natAbs) then b.inc Reg.SCH_OUT_OF_WINDOW else b
  let atOff := mine || phase == 0
  let noAck := cRecv w && cNoAck w
  if atOff && decide (base + offs.2 * 1000 < h.r.endNs + 200000) then (if mine && !noAck then b0.inc Reg.SCH_LATE_END else b0)
  else if !h.f.ar || (h.f.dstMode == 2 && h.f.dst == 0xFFFF) || noAck || (!atOff && phase == 2) then b0
  else
    let start := if atOff then base + offs.2 * 1000 else h.r.endNs + b0.ackTurn x.band * 1000
    let q := h.f.ver == 2
    let s := if q then sec else none
    let tcRaw : Int := if mine then (2 * (want - off) + 1000) / 2000 else 0
    let tc := clampI (-2047) 2047 tcRaw
    let pend := decide (0 < b0.nd n Cx.DL_COUNT)
    let mic := match s with
      | some k => micLen k.level
      | none => 0
    let len := (b0.ackOctets h mine pend tc start (s.map (fun k => (k, 0)))).length + mic + fcsLen x.band
    let us := airUs x.band x.modeBit x.mcs x.fec (b0.nd n Cx.PREAMBLE) len
    if base + b0.slotNs < start + us * 1000 + 100000 then b0.inc Reg.SCH_ACK_NO_ROOM
    else if dup && b0.tx.frames.any (fun e => e.2.isAck && e.2.node == n && decide (start < e.2.endNs)) then b0
    else
      let sl : Chip × Option (Option (Seal × Nat)) := match s with
        | none => (b0, some none)
        | some k => match b0.sealAck k n mramOk with
          | (c, some v) => (c, some (some v))
          | (c, none) => (c, none)
      match sl with
      | (b3, none) => b3
      | (b3, some v) =>
        let fc := (v.map (·.2)).getD 0
        let p := b3.ackOctets h mine pend tc start (s.map (fun k => (k, fc)))
        b3.ackGrant
          { src := .ack, lane := x.lane, chan := x.chan, modeBit := x.modeBit, fec := x.fec, mcs := x.mcs, len := len,
                    fcs2 := fcs2At x.band, kind := 0, node := n, power := b3.nds n Cx.POWER, preamble := b3.nd n Cx.PREAMBLE, t := start,
                    phase := .keyed, psdu := p, sealed := v.map (·.1), fc := fc, airUs := us, shift := x.cfo,
                    tc := if q then some tcRaw else none,
                    pendBit := pend && b3.t Reg.MAC_FOLLOW_EN && !mine, seq := h.f.seq.getD 0 }

/-! ### Acceptance (R297, R298, R301, R309, R312) -/

/-- Which key a frame was accepted under. -/
inductive Kin where
  | none | install | link | net
  deriving DecidableEq, Repr

/-- The outcome of R309. -/
inductive Judged where
  | new | dup | replay
  deriving DecidableEq, Repr

def Chip.kinOf (b : Chip) (n : Nat) (o : SecOpened) : Kin :=
  if o.pocket = some (b.nd n Cx.INSTALL_POCKET) ∧ o.aux.mode = 1 ∧ o.aux.index = b.r Reg.MAC_KEY_INDEX_JOIN then .install
  else if o.cid = n then .link else .net
/-- The auxiliary header of a frame that has been authenticated: one of level 4 never is (R325). -/
def authAux (sec : Option SecOpened) : Option Aux := (sec.map (·.aux)).filter (fun a => authLevel a.level)

/-- Duplicates and replays (R309). A frame that nothing authenticates is judged by its sequence number (R325; log entry 122). -/
def Chip.judgeSeq (b : Chip) (n : Nat) (f : MacFrame) (a : Option Aux) (endSt : Nat) : Judged :=
  match a with
  | some x =>
    if b.nd n Cx.RX_VALID = 0 ∨ b.nd n Cx.RX_FC < x.fc then .new
    else if x.fc = b.nd n Cx.RX_FC then
      (match f.seq with
        | none => if b.nd n Cx.RX_SEQ_NONE = 1 then .dup else .replay
        | some s => if b.nd n Cx.RX_SEQ_NONE = 0 ∧ s = b.nd n Cx.RX_SEQ then .dup else .replay)
    else .replay
  | none =>
    if f.seq = some (b.nd n Cx.RX_SEQ) ∧
      (endSt % 2 ^ 32 + (2 ^ 32 - b.nd n Cx.RX_STITCH)) % 2 ^ 32 ≤ b.r Reg.MAC_DUP_WINDOW then .dup else .new

/-- What a frame that is not a duplicate sets (R309). -/
def Chip.seqTake (b : Chip) (n : Nat) (f : MacFrame) (a : Option Aux) (endSt : Nat) : Chip :=
  let b1 := match a with
    | some y => (b.ndw n Cx.RX_FC y.fc).ndw n Cx.RX_VALID 1
    | none => b
  ((b1.ndw n Cx.RX_SEQ (f.seq.getD 0)).ndw n Cx.RX_SEQ_NONE (b2n f.seq.isNone)).ndw n Cx.RX_STITCH endSt
/-- A replay, and a duplicate, counted. -/
def Chip.replayed (b : Chip) (n : Nat) : Chip := (b.inc Reg.MAC_REPLAY).ndAdd n Cx.RX_REPLAY 1
def Chip.duplicated (b : Chip) (n : Nat) : Chip := (b.inc Reg.MAC_DUPLICATE).ndAdd n Cx.RX_DUP 1
/-- What a new frame does to the context (R18 step 8, R227, R309, R312, R315). -/
def Chip.rxUpdate (b : Chip) (h : Heard) (a : Option Aux) : Chip :=
  let n := h.n
  let x := h.x
  let b2 := b.seqTake n h.f a (h.r.endNs / 250000)
  let b3 := ((b2.inc Reg.MAC_RX_ACCEPTED).ndAdd n Cx.RX_FRAMES 1).ndws n Cx.CFO_PPB x.cfo
  let move := fun (old new : Int) => old + Int.tdiv (new - old) 8
  let b4 := (b3.ndws n Cx.RSSI_AVG (move (b3.nds n Cx.RSSI_AVG) x.rssi)).ndws n Cx.SINR_AVG (move (b3.nds n Cx.SINR_AVG) h.r.sinr)
  let b5 := b4.adaptRate n
  let b6 : Chip := { b5 with sch := { b5.sch with heard := kput b5.sch.heard (n * 1024 + columnOf x.lane x.chan) x.rssi } }
  let steers := b6.t Reg.RXP_STEER_EN ∧ b6.nd n Cx.REF_GRADE = 1 ∧ a.isSome
  let b7 : Chip := if steers then { b6 with rx := { b6.rx with refs := b6.rx.refs ++ [(n, x.cfo)] } } else b6
  if b7.nd n Cx.REACH = 1 then
    let m := x.sfdNs - sfdLeadNs x.band x.modeBit x.mcs (b7.nd n Cx.PREAMBLE)
    ((b7.ndw n Cx.PHASE_STITCH (m / 250000)).ndw n Cx.PHASE_US (m % 250000 / 1000)).ndw n Cx.PHASE_VALID 1
  else b7

/-- A data or command frame of a node that SEC has opened, or an unsecured one: the block after it, and whether its verdict is OK. Frames
under any other key than R298 lists are dropped. -/
def Chip.macJudge (b : Chip) (h : Heard) (sec : Option SecOpened) (mramOk : Bool) : Chip × Bool :=
  let n := h.n
  let f := h.f
  let kin := match sec with
    | none => Kin.none
    | some o => b.kinOf n o
  let auth := authAux sec
  let join := kin == .install && f.ftype == 1 && f.ver == 2 && f.srcMode == 3 && (f.vendor 3).isSome
  let st := b.ns n
  let ok := match st with
    | 1 => join
    | 2 => join || kin == .link
    | 3 | 4 | 5 => kin == .link || (kin == .none && f.ftype == 1 && b.nd n Cx.UNSEC_OK == 1)
    | _ => false
  if !ok then (b.inc Reg.MAC_STATE_DROP, true)
  else
    let joined := st == NS.JOINING && kin == Kin.link && auth.isSome
    let b0 := if joined then b.ndw n Cx.RX_VALID 0 else b
    let sl := sec.map (·.aux)
    match b0.judgeSeq n f auth (h.r.endNs / 250000) with
    | .replay => (b0.replayed n, false)
    | .dup =>
      let b1 := b0.duplicated n
      ((if auth.isSome || sec.isNone then b1.contact n else b1).ackDecide h sl true mramOk, true)
    | .new =>
      let b1 := b0.rxUpdate h auth
      let b2 :=
        if join then (if st = NS.ADMITTED then b1.setNs n NS.JOINING else b1).pushJoin n
        else if joined then
          ((((b1.setNs n NS.SYNCED).ndw n Cx.JOINED 1).inc Reg.MAC_JOIN_OK).raise Src.MAC N.NODE_JOINED (argW n (b1.nd n Cx.KEY_EPOCH))).wantRun n
        else b1
      let b3 := (if auth.isSome then b2.contact n else b2).ackDecide h sl false mramOk
      let b4 := if join || f.ftype != 1 then b3
        else match f.vendor 6 with
          | some l => b3.intake { svc := 3, node := n, data := l }
          | none => b3.meshData { node := n, src := if f.srcMode = 2 then shortIid f.src else iidOf (b3.eui n),
                                  dst := if f.dstMode = 0 then iidOf Config.deviceEui else linkIid f.dstMode f.dst, data := f.payload }
      (b4, true)

/-! ### The filter (R303) -/

/-- Conditions 1 and 2 of R303; only a data or a command frame may have no destination. -/
def Chip.toMe (b : Chip) (f : MacFrame) : Bool :=
  (match f.dstPan with
    | some p => p == b.r Reg.MAC_PAN_ID || p == 0xFFFF
    | none => true) &&
  (match f.dstMode with
    | 2 => f.dst == b.r Reg.MAC_SHORT_ADDR || f.dst == 0xFFFF
    | 3 => f.dst == Config.deviceEui
    | _ => f.ftype == 1 || f.ftype == 3)

/-- Condition 3: the node that the source resolves to. -/
def Chip.srcNode (b : Chip) (f : MacFrame) : Chip × Option Nat :=
  let r := match f.srcMode with
    | 2 => b.resolve 2 f.src
    | 3 => b.resolve 1 (rev8 f.src)
    | _ => (b, none)
  (r.1, r.2.filter (fun n => r.1.ns n != NS.EMPTY))

/-- When the open of a frame starts, in ns of the block's time: its auxiliary header has been received (R332). -/
def openNs (x : Ctx) (f : MacFrame) (a : Aux) : Nat :=
  x.sfdNs + ((if x.band = 2 then 1 else 2) + f.mhr + a.len) * 8 * 1000000000 / max 1 (bitRate x.band x.modeBit x.mcs)

/-- SEC opens a frame with the keys that stood when the open started (R332, R336); its FCS is of the type that its PHR names (R223). -/
def Chip.openHeard (b : Chip) (x : Ctx) (r : RxEnd) (f : MacFrame) (a : Aux) (n : Option Nat) (peer : Bool) : Chip × Sum Nat SecOpened :=
  let src := if f.srcMode = 3 then f.src else (n.map b.eui).getD 0
  let keys := match x.held.find? (fun e => decide (openNs x f a ≤ e.1)) with
    | some e => e.2
    | none => b.key
  b.openFrame f a { psdu := r.psdu, src := src, n := n, len := r.octets, fcs := if x.fcs2 then 2 else 4, peer := peer, keys := keys }

/-- An acknowledgement that matches the frame awaited of its node ends the wait, and is a contact (R307). -/
def Chip.ackMatch (b : Chip) (x : Ctx) (f : MacFrame) (n : Nat) (touch : Bool) : Chip :=
  let m := x.sfdNs - sfdLeadNs x.band x.modeBit x.mcs (b.nd n Cx.PREAMBLE)
  let hit := (kget b.mac.waits n).any (fun (w : AckWait) => f.seq == some (w.seq % 256) && decide (w.lo ≤ m ∧ m ≤ w.hi))
  let b1 := if hit then b.acked n else b
  if hit || touch then b1.contact n else b1
/-- MAC judges an acknowledgement frame of a node: by the node's state, by its counter where it is authenticated, by the frame awaited (R298,
R307, R337; log entry 127). One that only level 4 secures is no acknowledgement (R325). -/
def Chip.ackJudge (b : Chip) (x : Ctx) (r : RxEnd) (f : MacFrame) (n : Nat) (sec : Option SecOpened) : Chip × Bool :=
  if b.ns n = NS.ADMITTED ∨ b.ns n = NS.SUSPENDED ∨ b.ns n = NS.RETIRED then (b.inc Reg.MAC_STATE_DROP, true)
  else match authAux sec with
    | none => if sec.any (fun o => o.aux.level == 4) then (b, true) else (b.ackMatch x f n false, true)
    | some a =>
      match b.judgeSeq n f (some a) (r.endNs / 250000) with
      | .replay => (b.replayed n, false)
      | .dup => ((b.duplicated n).contact n, true)
      | .new => ((b.seqTake n f (some a) (r.endNs / 250000)).ackMatch x f n true, true)
/-- An acknowledgement frame from a node. -/
def Chip.ackIn (b : Chip) (x : Ctx) (r : RxEnd) (f : MacFrame) (n : Nat) : Chip × Bool :=
  match f.aux with
  | none => b.ackJudge x r f n none
  | some a => match b.openHeard x r f a (some n) false with
    | (b1, .inl _) => (b1, false)
    | (b1, .inr o) => b1.ackJudge x r f n (some o)

/-- An authenticated beacon of the own pair is passed to SEA (R278). -/
def Chip.pairBeaconIn (b : Chip) (f : MacFrame) : Chip :=
  match f.vendor 1 with
  | none => b
  | some l =>
    if b.pat.roleCfg = 0 ∨ fldLE l 16 8 ≠ b.pat.pairId then b
    else
      let e := fldLE l 12 4
      let b2 := b.inc Reg.SCH_PAIR_HEARD
      let b3 := if e = b2.r Reg.SEA_PAIR_EPOCH then b2
        else b2.raise Src.SCH N.PAIR_EPOCH (argW e (b2n (bit (l.getD 11 0) 3) + 256 * b2n (bit (l.getD 11 0) 4)))
      { b3 with sch := { b3.sch with pairHeard := some (e, bit (l.getD 11 0) 3) } }
/-- The partner's EUI-64 that SEA holds. -/
def Chip.peerEui (b : Chip) : Nat := b.r Reg.SEA_PEER_EUI_LO + b.r Reg.SEA_PEER_EUI_HI * 2 ^ 32
/-- A beacon (R303, R278): authenticated, its source naming a key as R328 says, passed on when it is of the own pair, and dropped. One of
level 0 or 4 is authenticated by nothing (R325); one whose source is short and of no context, or absent, never reaches SEC (R327). A node's
beacon is a contact (R279). -/
def Chip.beaconIn (b : Chip) (x : Ctx) (r : RxEnd) (f : MacFrame) : Chip × Bool :=
  match f.aux with
  | none => (b, true)
  | some a =>
    let s := b.srcNode f
    if f.srcMode ≠ 3 ∧ s.2.isNone then (s.1, true)
    else match s.1.openHeard x r f a s.2 (f.srcMode == 3 && f.src != 0 && f.src == b.peerEui) with
      | (b1, .inl _) => (b1, false)
      | (b1, .inr o) =>
        if !authLevel a.level then (b1, true)
        else
          let b2 := match s.2 with
            | some n => if b1.serves && !b1.gap then b1.contact n else b1
            | none => b1
          (b2.pairBeaconIn (readFrame o.clear), true)

/-- The node that a source address names, without a lookup of FWD being counted. -/
def Chip.srcKnown (b : Chip) (f : MacFrame) : Option Nat :=
  let key := match f.srcMode with
    | 2 => some (2 + 256 * f.src)
    | 3 => some (1 + 256 * rev8 f.src)
    | _ => none
  ((key.bind (b.findEnt 0)).map (fun e => eNode 0 e.2)).filter (fun n => b.ns n != NS.EMPTY)
/-- The source address of a frame has streamed: its node's context is fetched, whatever becomes of the frame, unless a CONTEXT_FETCH has done
so for this reception (R295). -/
def Chip.srcFetch (b : Chip) (x : Ctx) (f : MacFrame) : Chip :=
  if !b.working then b
  else match b.srcKnown f with
    | some n => if x.node = some n then b else b.cacheFetch n
    | none => b
/-- The guard allowance of a node for a reception, in µs: that of the prefetch in a cell of its own (R282). -/
def Chip.heardG (b : Chip) (x : Ctx) (n : Nat) : Nat :=
  match (b.slotCell (columnOf x.lane x.chan) x.sfdNs).filter (fun e => cOwner e.word == n) with
  | some e => e.g
  | none => b.guardUs n (b.slotAt x.sfdNs * b.pat.slotStitches)

/-- MAC acts on a frame with a good trailer. -/
def Chip.macFrame (b : Chip) (x : Ctx) (r : RxEnd) (mramOk : Bool) : Chip × Bool :=
  let f := readFrame r.psdu
  if 4 ≤ f.ftype then (b.inc Reg.MAC_FTYPE_ERR, true)
  else if f.ftype = 0 then (if f.ver = 2 then b.beaconIn x r f else (b.inc Reg.MAC_FTYPE_ERR, true))
  else if !b.serves then (b.inc Reg.SEA_STBY_RX_DROP, true)
  else if b.gap then (b, true)
  else if !b.toMe f then (b.inc Reg.MAC_ADDR_MISS, true)
  else
    match b.srcNode f with
    | (b1, none) => (b1.inc Reg.MAC_UNKNOWN_SRC, true)
    | (b1, some n) =>
      if f.ver = 3 ∨ (f.ver < 2 ∧ b1.nd n Cx.LEGACY = 0) then (b1.inc Reg.MAC_FTYPE_ERR, true)
      else if f.ftype = 2 then b1.ackIn x r f n
      else
        let h : Heard := { x := x, r := r, f := f, n := n, g := b1.heardG x n }
        match f.aux with
        | none => b1.macJudge h none mramOk
        | some a => match b1.openHeard x r f a (some n) false with
          | (b2, .inl _) => (b2, false)
          | (b2, .inr o) => b2.macJudge { h with f := readFrame o.clear } (some o) mramOk

/-- The PSDU as it was streamed into the item: `r.psdu`, then the FCS octets, which the model leaves free (R224). -/
def Chip.psduItem (b : Chip) (x : Ctx) (r : RxEnd) : List Nat × Chip :=
  let k := x.len - r.psdu.length
  if k = 0 then (r.psdu.take x.len, b)
  else
    let v := b.free (8 * k)
    (r.psdu ++ leBytes v.1 k, v.2)
/-- RECEPTION_END of a frame whose PSDU has streamed: the trailer is written, and SEC and MAC judge the frame (R229 to R231), unless an
uncorrectable error has reached its item (R423). -/
def Chip.rxEndOf (b : Chip) (x : Ctx) (q id : Nat) (r : RxEnd) (mramOk : Bool) : Chip :=
  let b0 := b.srcFetch x (readFrame r.psdu)
  if !r.fcsOk || !x.codeOk then
    (b0.modChan x.lane x.chan (fun s => { s with fcs := satAdd 32 s.fcs 1 })).endWith r.ctx CAUSE.FCS ⟨r.sinr, r.fecMetric, r.endNs, r.octets⟩
  else
    let b1 := (b0.inc (Reg.RXP_FRAME_OK x.lane)).modChan x.lane x.chan (fun s => { s with ok := satAdd 32 s.ok 1 })
    let b2 := if x.cancelled then b1.inc (Reg.RXP_CAPTURE_OK x.lane) else b1
    let p := b2.psduItem x r
    let b3 := (p.2.writeItem q id p.1).writeItem q id (rxTrailer x OK 0 r.sinr r.fecMetric r.endNs r.octets)
    let b4 := (b3.closeItem q id false).freeCtx r.ctx
    if ((b4.q q).find id).any (·.ecc) then (b4.dropRest q id).tmgQ q
    else match b4.macFrame x r mramOk with
    | (b5, ok) => ((if ok then b5.releaseItem q id else b5.dropRest q id).tmgQ q)
/-- RECEPTION_END. -/
def Chip.rxEnd (b : Chip) (r : RxEnd) (mramOk : Bool) : Chip :=
  match kget b.rx.ctxs r.ctx with
  | none => b
  | some x =>
    match x.item with
    | none => b
    | some (q, id) => b.under x (fun c => c.rxEndOf x q id r mramOk)

end Sys2Proof.Machine
end

