-- ==== Sys2Proof/Machine/MacTx.lean ====
section
/-!
DEFINITION. Frames on their way out: the key point, the take point, the start and the end of a carrier, CSMA/CA and wake calls
(R244 to R256, R264, R275, R277, R305, R307, R310 to R313, R334, R335, R459).
-/
namespace Sys2Proof.Machine

/-- A frame with its sequence number and counter filled in. -/
def fillFrame (p : List Nat) (seq : Nat) (fc : Option Nat) : List Nat :=
  let q := splice p 2 [seq % 256]
  match fc with
  | some v => putFc q v
  | none => q

/-- The first slot boundary at or before an instant, in ns. -/
def Chip.slotBase (b : Chip) (t : Nat) : Nat := b.slotAt t * b.slotNs

/-! ### What a frame carries -/

/-- Slots to the next SHARED cell of a band, and its column (R275). -/
def Chip.sharedAhead (b : Chip) (d slot k fuel : Nat) : Nat × Nat :=
  match fuel with
  | 0 => (0xFFFF, 0xFFFF)
  | n + 1 =>
    match (b.row ((slot + k) % max 1 b.sfSlots)).find? (fun e => cType e.2 == T.SHARED && laneBand (colLane e.1) == d) with
    | some e => (k, e.1)
    | none => b.sharedAhead d slot (k + 1) n

/-- The schedule payload of a beacon (R275). -/
def Chip.schedPayload (b : Chip) (d t : Nat) (pair : Bool) : List Nat :=
  let slot := b.slotAt t
  let single := b.pat.roleCfg == 0
  let offs := b.offsAt t
  let sh := b.sharedAhead d slot 0 b.sfSlots
  leBytes (slot * b.pat.slotStitches) 8 ++ leBytes b.pat.slotStitches 2 ++ [b.pat.sfExp] ++
  [b2n (b.t Reg.TIM_HOLDOVER) + 2 * b2n (b.t Reg.PWR_BATTERY) + 4 * b2n (!single) + 8 * b2n (b.role == 3) + 16 * b2n pair] ++
  leBytes (if single then 0 else b.r Reg.SEA_PAIR_EPOCH) 4 ++ leBytes (if single then 0 else b.pat.pairId) 8 ++
  leBytes offs.1 4 ++ leBytes offs.2 4 ++ leBytes sh.1 2 ++ leBytes sh.2 2 ++ [0, 0, 0, 0]

/-- An Enhanced Beacon of the device, its sequence number and counter still to be filled. -/
def Chip.beaconFrame (b : Chip) (d t : Nat) (pair : Bool) : List Nat :=
  let l := b.sealLevel .beacon
  leBytes (mkFcf 0 (l.1 != 0) false false false true 0 2 3) 2 ++ [0] ++ leBytes (b.r Reg.MAC_PAN_ID) 2 ++ leBytes Config.deviceEui 8 ++
  (if l.1 = 0 then [] else auxOctets l.1 1 0 0 l.2) ++ ht1 ++ pieOctets 2 (oui ++ [1] ++ b.schedPayload d t pair)

/-- The state of a node lets a frame of its list go out by a cell, by a run or by CSMA/CA (R298, R299, R312). -/
def Chip.mayCell (b : Chip) (n : Nat) : Bool := (b.ns n == 3 || b.ns n == 4) && b.nd n Cx.REACH == 0
def Chip.mayFollow (b : Chip) (n : Nat) : Bool := decide (2 ≤ b.ns n ∧ b.ns n ≤ 5)

/-! ### The key point (R334, R335) -/

/-- The header of a frame once its PSDU is known: length, airtime and the rest (R243). -/
def Chip.headOf (b : Chip) (f : TxF) (p : List Nat) (k : SealKind) : TxF :=
  let len := p.length + micLen (b.sealLevel k).1 + fcsLen (laneBand f.lane)
  { f with psdu := p, len := len, airUs := airUs (laneBand f.lane) f.modeBit f.mcs f.fec f.preamble len, ar := (readFrame p).ar }

/-- The frame in the node's present rung (R314). -/
def Chip.inRung (b : Chip) (f : TxF) (n : Nat) : TxF :=
  { f with modeBit := b.nd n Cx.TX_MODE_BIT, mcs := b.nd n Cx.TX_MCS, fec := b.nd n Cx.TX_FEC == 1, power := b.nds n Cx.POWER,
           preamble := b.nd n Cx.PREAMBLE, node := n, whiten := whitens (b.nd n Cx.BAND) (b.nd n Cx.TX_MODE_BIT) }

/-- The latest end of a frame in ns (R264, R310). -/
def Chip.lastEnd (b : Chip) (f : TxF) : Nat :=
  let base := b.slotBase f.t
  match f.src with
  | .cell _ _ => base + (b.offsAt f.t).2 * 1000 - 200000
  | .payload _ => f.limit
  | _ => base + b.slotNs - 100000

/-- A frame that does not fit its cell stays at the head of its list (R264). -/
def Chip.tooShort (b : Chip) (id : Nat) (f : TxF) : Chip := ((b.txItem f true).txDel id).inc Reg.SCH_CELL_TOO_SHORT

/-- The seal of a frame starts: the counter is taken, or the frame fails and stays with its list. -/
def Chip.keyFrame (b : Chip) (id : Nat) (f : TxF) (k : SealKind) (mramOk : Bool) : Chip :=
  if b.lastEnd f < f.endNs then b.tooShort id f
  else match b.sealFrame k mramOk with
    | (b1, none) => (b1.txItem f true).txDel id
    | (b1, some s) =>
      let seq := b1.mac.seq
      let b2 : Chip := { b1 with mac := { b1.mac with seq := (seq + 1) % 256 } }
      b2.txPut id { f with phase := .keyed, psdu := fillFrame f.psdu seq (s.map (·.2)), sealed := s.map (·.1), fc := (s.map (·.2)).getD 0, seq := seq }

/-- A PSDU with AR clear. -/
def noAr (p : List Nat) : List Nat := splice p 0 [clrBit (p.headD 0) 5]

/-- The head frame of a node's list, taken from a NODE queue (R408). One with an uncorrectable error is discarded (R423), and a header whose
LENGTH is not that of the frame discards it (R334, R335). In a NO_ACK cell it asks for no acknowledgement (R267; log entry 28). -/
def Chip.keyNode (b : Chip) (id : Nat) (f : TxF) (n : Nat) (mramOk : Bool) : Chip :=
  let q := b.nd n Cx.DL_QUEUE
  match (if b.dlTakes n then b.takeItem q n else (b, none)) with
  | (_, none) => b
  | (b1, some i) =>
    if i.ecc then (b1.dropRest q i.id).dlChanged n
    else
    let noAck := match f.src with
      | .cell _ w => cNoAck w
      | _ => false
    let p := if noAck then noAr i.psdu else i.psdu
    let k := b1.sealKindOf n p
    let g : TxF := { b1.headOf (b1.inRung f n) p k with item := some (q, i.id), hdr := i.data.take 16 }
    let found := match (b1.sealKey k).2 with
      | .inl _ => false
      | .inr _ => true
    if found && fldLE i.data 4 2 != g.len then ((b1.releaseItem q i.id).dlSync n |>.txDel id).inc Reg.SEC_SEAL_LEN_ERR
    else b1.keyFrame id g k mramOk

/-- A broadcast of SVC in a cell: a DIO that is due, or the campaign whose turn it is (R453, R461). -/
def Chip.keyBcast (b : Chip) (id : Nat) (f : TxF) (col : Nat) (mramOk : Bool) : Chip :=
  let d := laneBand f.lane
  if b.svc.rpl.due.contains d && b.svcOn 1 && b.svc.rpl.set then
    let m := b.r (if d = 0 then Reg.SCH_BEACON_MODE_L else if d = 1 then Reg.SCH_BEACON_MODE_M else Reg.SCH_BEACON_MODE_H)
    let p := b.bcastFrame [] (packIp b.compCtxs (shortIid (b.r Reg.MAC_SHORT_ADDR)) (shortIid 0xFFFF) (b.dio allRpl))
    b.keyFrame id (b.headOf { f with modeBit := m, mcs := if isOfdm d m then b.r Reg.SCH_BEACON_MCS_M else 0 } p .bcast) .bcast mramOk
  else match b.campTurn d with
    | none => b
    | some (k, c) =>
      match b.campNext k c with
      | none => b
      | some (n, last) =>
        let b1 := b.modSvc (fun s => { s with turn := kput s.turn d k })
        let g := { f with src := .bcast col (some k), modeBit := c.mode, mcs := c.mcs, step := n }
        b1.keyFrame id (b1.headOf g (b1.blockFrame c n last) .bcast) .bcast mramOk

/-- A WAKE cell: the train or the call that its owner's head frame asks for (R264, R312). -/
def Chip.keyWake (b : Chip) (id : Nat) (f : TxF) (col : Nat) : Chip :=
  if b.pat.nodeCount ≤ f.node ∨ b.reachOf f.node = 0 then b
  else if b.waking f.node then b.txDel id
  else match b.headItem f.node with
    | none => b
    | some i => b.txPut id (b.wakeOf f col i)
/-- The frame is planned for a cell. -/
def TxF.inCell (f : TxF) : Bool := match f.src with
  | .cell _ _ | .beacon _ | .bcast _ _ | .wake _ => true
  | _ => false

/-- KEY_POINT of a planned frame; a frame that finds no item stays planned until its take point (R246). A key-update frame, which needs its
acknowledgement, is not sent in a NO_ACK cell (R366; log entry 120). -/
def Chip.keyPoint (b : Chip) (id : Nat) (mramOk : Bool) : Chip :=
  match b.tf id with
  | none => b
  | some f =>
    if f.phase ≠ TxPhase.planned ∨ ¬ b.working then b
    else
      let d := laneBand f.lane
      match f.src with
      | .cell _ w =>
        if b.mayCell (cOwner w) && !(cNoAck w && b.rekeyHead (cOwner w)) then b.keyNode id f (cOwner w) mramOk else b
      | .follow => if b.mayFollow f.node then b.keyNode id f f.node mramOk else b
      | .payload _ => if b.mayFollow f.node then b.keyNode id f f.node mramOk else b
      | .beacon _ => b.keyFrame id (b.headOf f (b.beaconFrame d f.t false) .beacon) .beacon mramOk
      | .pairBeacon => b.keyFrame id (b.headOf f (b.beaconFrame d f.t true) .beacon) .beacon mramOk
      | .bcast col _ => b.keyBcast id f col mramOk
      | .wake col => b.keyWake id f col
      | _ => b

/-! ### The take point (R244, R246) -/

/-- The header of the frame's item as the take settles it: lane, channel, rung and KIND (R243). -/
def Chip.settleHead (b : Chip) (f : TxF) : Chip :=
  match f.item with
  | some (q, id) => b.putQ q ((b.q q).modItem id (fun i => { i with data := f.header ++ i.data.drop 16 }))
  | none => b
/-- TAKE_POINT. -/
def Chip.takePoint (b0 : Chip) (id : Nat) (mramOk : Bool) : Chip :=
  let b := b0.keyPoint id mramOk
  match b.tf id with
  | none => b
  | some f =>
    if !b.working then b
    else match f.phase with
    | .planned => if f.inCell then (b.txDel id).inc Reg.SCH_CELL_UNUSED else b.txDel id
    | .keyed =>
      (match b.headCheck id f with
      | some c =>
        (if c = DENIED then b.note (kDuty f.chain) 1 else b).txFail id c
      | none =>
        let b1 := if f.sealed.isSome then b.inc Reg.SEC_SEAL_OK else b
        ((b1.settleHead f).txGrant id f).request id)
    | _ => b

/-! ### On air (R245, R253, R255, R258) -/

/-- The rendezvous time of copy `j` of a train, in units of 10 symbol periods, rounded down (R253, R313). -/
def Chip.rzTime (b : Chip) (f : TxF) (d j : Nat) : Nat := tenSymbols d f.modeBit ((f.copies - j) * f.step - b.trainD f.node)

/-- The first wake-up frame of a train (R313); each later copy differs in its rendezvous time alone. -/
def Chip.wakeFrame (b : Chip) (f : TxF) : List Nat :=
  leBytes 0x2A01 2 ++ [f.seq % 256] ++ leBytes (b.r Reg.MAC_PAN_ID) 2 ++ leBytes (b.nd f.node Cx.SHORT_ADDR) 2 ++ leBytes 0x0E82 2 ++
  leBytes (b.rzTime f (laneBand f.lane) 0) 2

/-- The payload of a train or a wake call is planned (R253, R254, R255). -/
def Chip.planPayload (b : Chip) (f : TxF) (col : Nat) : Chip :=
  (b.txNew { src := .payload col, lane := f.lane, chan := f.chan, kind := 4, reach := f.reach, node := f.node,
             t := f.t + (f.airUs + f.gapUs) * 1000,
             fcs2 := fcs2At (laneBand f.lane), shift := f.shift, limit := f.limit }).1

/-- A frame as it goes on air: secured under its seal (R324, R327), a train with its rendezvous times (R253), and with the acknowledgement wait
that now applies (R25, R307). -/
def Chip.onAirFrame (b : Chip) (f : TxF) : TxF :=
  let train := f.reach == 1 && (match f.src with
    | .wake _ => true
    | _ => false)
  let p := if train then b.wakeFrame f else match f.sealed with
    | some s => ccmSeal (keyOctets s.key) Config.deviceEui f.psdu
    | none => f.psdu
  { f with phase := .air, psdu := p, rz := if train then (List.range f.copies).map (b.rzTime f (laneBand f.lane)) else f.rz,
           ackUs := b.ackWaitUs (laneBand f.lane) f.modeBit f.mcs f.fec f.preamble }
/-- An acknowledgement goes out: TC_LAST records the correction it carries, and TC_CLAMP one that saturates (R306). -/
def Chip.ackSent (b : Chip) (f : TxF) : Chip :=
  let b1 := match f.tc with
    | some x =>
      let tc := clampI (-2047) 2047 x
      (if tc = x then b else b.inc Reg.MAC_TC_CLAMP).ndws f.node Cx.TC_LAST tc
    | none => b
  b1.inc Reg.MAC_ACK_SENT
/-- CARRIER_START: the first symbol leaves RF_OUT; a frame that joins a chain in TX has had no setup point (R246). A frame that was taken goes
out whatever TX_EN and TEST have become since (R238; log entry 117). -/
def Chip.carrierStart (b : Chip) (id : Nat) : Chip :=
  match b.tf id with
  | none => b
  | some f0 =>
    let joins := f0.phase == TxPhase.taken && b.rfs f0.chain == RFS.TX
    if f0.phase ≠ TxPhase.setup ∧ ¬ joins then b
    else
      let f := b.onAirFrame f0
      let c := f.chain
      let b1 := ((b.txPut id f).onAir).emit (.air f)
      let b2 := if f.held then b1.inc (Reg.RFC_HELD_CNT c) else b1
      match f.src with
      | .ack => b2.ackSent f
      | .follow => b2.inc Reg.MAC_FOLLOW_SENT
      | .beacon _ | .pairBeacon => b2.inc Reg.SCH_BEACONS_SENT
      | .wake col => (b2.inc (if f.reach = 1 then Reg.TXP_TRAINS c else Reg.TXP_WAKE_CALLS c)).planPayload f col
      | .call => b2.inc (Reg.TXP_WAKE_CALLS c)
      | _ => b2

/-- A frame with AR set has been sent: the acknowledgement is awaited (R307). -/
def Chip.awaitAck (b : Chip) (f : TxF) (q item : Nat) : Chip :=
  let n := f.node
  let w : Nat × Nat := match f.src with
    | .cell _ _ =>
      let mid := b.slotBase f.t + (b.offsAt f.t).2 * 1000
      (mid - f.g * 1000, mid + f.g * 1000)
    | _ => (f.endNs, f.endNs + f.ackUs * 1000)
  { b with mac := { b.mac with waits := kput b.mac.waits n { q := q, item := item, seq := f.seq, src := f.src, lo := w.1, hi := w.2 } } }

/-- The end of a WAKE_CALL command's call. -/
def Chip.callEnd (b : Chip) (id : Nat) (f : TxF) : Chip :=
  let c := f.chain
  let b1 : Chip := { b.txDel id with tx := { (b.txDel id).tx with call := none } }
  let b2 := ((b1.inc (Reg.TXP_FRAMES_OK c)).add (Reg.TXP_AIRTIME_US c) f.airUs).txIdle c
  b2.cmdFinish cbTXP OK [f.t / 250000, f.airUs]

/-- TRANSMISSION_END: the last symbol has been sent (R256). -/
def Chip.txEnd (b : Chip) (id : Nat) : Chip :=
  match b.tf id with
  | none => b
  | some f =>
    if f.phase ≠ TxPhase.air then b
    else if f.src = TxSrc.call then b.callEnd id f
    else
      let c := f.chain
      let b1 := (((b.txDel id).inc (if f.isAck then Reg.TXP_ACKS_OK c else Reg.TXP_FRAMES_OK c)).add (Reg.TXP_AIRTIME_US c) f.airUs).txIdle c
      match f.src with
      | .ack =>
        if f.pendBit && (kget b1.mac.csma f.node).isNone then
          let x : Csma := { lane := f.lane, chan := f.chan, q := b1.nd f.node Cx.DL_QUEUE, be := b1.r Reg.MAC_MIN_BE, from_ := f.endNs }
          { b1 with mac := { b1.mac with csma := kput b1.mac.csma f.node x } }
        else b1
      | .wake _ => if f.reach = 1 then b1.add (Reg.TXP_TRAIN_COPIES c) f.copies else b1
      | .bcast _ none => b1.modSvc (fun s => { s with rpl := { s.rpl with due := s.rpl.due.filter (· != laneBand f.lane) } })
      | .bcast _ (some k) => b1.campSent k f.step
      | .cell _ _ | .follow | .payload _ =>
        (match f.item with
          | some (q, i) =>
            if ((b1.q q).find i).isNone then b1 else if f.ar then b1.awaitAck f q i else b1.delivered f.node q i
          | none => b1)
      | _ => b1

/-- WAKE_CALL_END: the call of the WAKE_CALL command ends (R257). -/
def Chip.wakeCallEnd (b : Chip) : Chip :=
  match b.tx.call with
  | none => b
  | some id =>
    match b.tf id with
    | none => b
    | some f => if f.phase = TxPhase.air then b.callEnd id f else b

/-! ### CSMA/CA (R310) -/

/-- CCA_US in ns, and the unit of the wait in a mode of a band. -/
def ccaNs (d m : Nat) : Nat := 8 * symbolNs d m
def Chip.backoffNs (b : Chip) (d m : Nat) : Nat := ccaNs d m + b.ackTurn d * 1000
/-- The channel is busy: a reception is in flight on it on any lane, or its energy exceeds the detector's noise floor by CCA_ED. -/
def Chip.chanBusy (b : Chip) (l c : Nat) (level : Int) : Bool :=
  !(b.onChannel l c).isEmpty || decide ((kgetD b.rx.chans (128 * l + c) {}).floor + 4 * (b.r Reg.MAC_CCA_ED : Int) ≤ level)
/-- The first slot after one whose phase is SHARED or IDLE and that a frame fits from its start; none within a superframe. -/
def Chip.sharedSlot (b : Chip) (f : TxF) (s fuel : Nat) : Option Nat :=
  match fuel with
  | 0 => none
  | k + 1 =>
    let t := (s + 1) * b.slotNs
    let ph := b.phaseAt (laneGroup f.lane) t
    if (ph = 1 ∨ ph = 3) ∧ f.airUs * 1000 + 100000 ≤ b.slotNs then some (s + 1) else b.sharedSlot f (s + 1) k
/-- Put the procedure of a node, or end it. -/
def Chip.csmaPut (b : Chip) (n : Nat) (y : Option Csma) : Chip := match y with
  | some y => { b with mac := { b.mac with csma := kput b.mac.csma n y } }
  | none => { b with mac := { b.mac with csma := kdel b.mac.csma n } }
/-- The procedure meets a busy channel at its candidate take point. -/
def Chip.csmaBusy (b : Chip) (n : Nat) (x : Csma) (take : Nat) : Chip :=
  if b.r Reg.MAC_MAX_BACKOFFS < x.nb + 1 then ((b.csmaPut n none).inc Reg.MAC_CSMA_FAIL).wantRun n
  else b.csmaPut n (some { x with nb := x.nb + 1, be := min (x.be + 1) (b.r Reg.MAC_MAX_BE), from_ := take })
/-- CSMA_BACKOFF_EXPIRY: the wait is the drawn number of units, the channel is judged over CCA_US after it, and that is the candidate take
point. A candidate in no slot for it moves to the first such slot, where the procedure starts again; where a superframe has none, it ends (log
entry 124). A draw of 2^BE or more cannot come. -/
def Chip.csmaExpiry (b : Chip) (n draw : Nat) (level : Int) : Chip :=
  match kget b.mac.csma n with
  | none => b
  | some x =>
    if 2 ^ x.be ≤ draw then b
    else match b.headItem n with
    | none => b.csmaPut n none
    | some i =>
      if !b.mayFollow n || (kget b.mac.waits n).isSome then b.csmaPut n none
      else
        let d := laneBand x.lane
        let m := b.nd n Cx.TX_MODE_BIT
        let take := x.from_ + draw * b.backoffNs d m + ccaNs d m
        if b.chanBusy x.lane x.chan level then b.csmaBusy n x take
        else
          let f : TxF := { src := .follow, lane := x.lane, chan := x.chan, kind := 5, node := n, t := take + 160000, fcs2 := fcs2At d }
          let h := b.headOf (b.inRung f n) i.psdu (b.sealKindOf n i.psdu)
          let ph := b.phaseAt (laneGroup x.lane) f.t
          if (ph = 1 ∨ ph = 3) ∧ h.endNs ≤ b.lastEnd f then ((b.csmaPut n none).txNew f).1
          else b.csmaPut n ((b.sharedSlot h (b.slotAt f.t) b.sfSlots).map (fun s =>
            { x with nb := 0, be := b.r Reg.MAC_MIN_BE, from_ := s * b.slotNs }))

end Sys2Proof.Machine
end

