-- ==== Sys2Proof/Machine/Mailbox.lean ====
section
/-!
DEFINITION. The SVC mailbox: its operations, its tickets and its buffers (R462 to R465).
-/
namespace Sys2Proof.Machine

/-- The request and response buffers (R462). -/
def reqBuf : Nat := 0x261000
def rspBuf : Nat := 0x262000

/-- What an operation answers: the block after it, the status and the response body. -/
structure OpOut where
  b : Chip
  status : Nat
  body : List Nat := []

def Chip.opFail (b : Chip) (c : Nat) : OpOut := ⟨b, c, []⟩
def Chip.opOk (b : Chip) (l : List Nat) : OpOut := ⟨b, OK, l⟩

/-- The service an operation names, none for one of SVC itself; none at all for an unknown operation (R465). -/
def opService (op : Nat) : Option (Option Nat) :=
  if op = 1 ∨ op = 0xF0 then some none
  else if op = 2 ∨ op = 3 then some (some 0)
  else if op = 0x10 ∨ op = 0x11 ∨ op = 0x12 then some (some 1)
  else if op = 0x20 ∨ op = 0x21 then some (some 2)
  else if [0x30, 0x31, 0x32, 0x38, 0x39, 0x3A, 0x3B].contains op then some (some 3)
  else none
/-- Legal on a STANDBY (R465). -/
def opStandby (op : Nat) : Bool := [3, 0x11, 0x20, 0x30, 0x31, 0x32, 0x39, 0x3B, 0xF0].contains op
/-- Operations that change a mirrored item: refused in a handover's gap slot (R488). -/
def opMirrored (op : Nat) : Bool := op == 0x21

/-- Adaptation starts or stops: port 2 is judged again (R429, R447). -/
def Chip.setRunning (b : Chip) (v : Nat) : Chip :=
  let b1 := (b.w Reg.SVC_RUNNING v).tmgPort 2
  if b.svcOn 3 && !bit v 3 then b1.campAbort else b1

/-- What the services keep goes into the settings record of the running set (R499, R501). -/
def Chip.keepSvc (b : Chip) : Chip :=
  let k : SvcKeep := { ctxs := b.svc.ctxs, rpl := { b.svc.rpl with due := [], grown := 0 } }
  { b with nv := { b.nv with keep := kput b.nv.keep (b.r Reg.UPD_CUR_MANIFEST_VER) k } }

/-- An operation that keeps its effect, once it has completed OK. -/
def OpOut.kept (o : OpOut) : OpOut := if o.status = OK then { o with b := o.b.keepSvc } else o

def Chip.opCtrl (b : Chip) (l : List Nat) : OpOut :=
  let m := fldLE l 4 4
  let run := b.r Reg.SVC_RUNNING
  if l.length < 8 ∨ 1 < l.headD 0 then b.opFail BAD_ARG
  else if andNot m b.pat.svcMask ≠ 0 then (if l.headD 0 = 1 then b.structReject cbSVC else b).opFail BAD_ARG
  else if l.headD 0 = 1 then
    let v := orN run m
    if (bit m 1 || bit m 2) && !bit v 0 then b.opFail WRONG_STATE
    else let c := b.setRunning v; c.opOk (leBytes (c.r Reg.SVC_RUNNING) 4)
  else
    let v := andNot run (if bit m 0 then orN m 6 else m)
    let c := b.setRunning v
    c.opOk (leBytes (c.r Reg.SVC_RUNNING) 4)

def Chip.opCtxSet (b : Chip) (l : List Nat) : OpOut :=
  let i := l.headD 0
  if l.length < 32 ∨ 15 < i ∨ 128 < l.getD 1 0 then b.opFail BAD_ARG
  else
    let x : CompCtx := { len := l.getD 1 0, valid := bit (l.getD 2 0) 0, prefix_ := slice l 16 16 }
    (b.modSvc (fun s => { s with ctxs := kput s.ctxs i x })).opOk []

def Chip.opCtxRead (b : Chip) (l : List Nat) : OpOut :=
  let i := l.headD 0
  if l.isEmpty ∨ 15 < i then b.opFail BAD_ARG
  else
    let x := kgetD b.svc.ctxs i { len := 0, valid := false, prefix_ := List.replicate 16 0 }
    b.opOk ([i, x.len, b2n x.valid] ++ List.replicate 13 0 ++ x.prefix_)

def Chip.opRplCfg (b : Chip) (l : List Nat) : OpOut :=
  let g := fun (i : Nat) => l.getD i 0
  if l.length < 32 ∨ g 1 < 6 ∨ 20 < g 1 ∨ g 2 = 0 ∨ 20 < g 2 ∨ 15 < g 3 then b.opFail BAD_ARG
  else if b.svcOn 1 then b.opFail WRONG_STATE
  else
    let r : Rpl := { b.svc.rpl with inst := g 0, imin := g 1, doublings := g 2, redundancy := g 3, minRank := fldLE l 4 2,
                                    maxRank := fldLE l 6 2, life := g 8, unit := fldLE l 10 2, dodag := slice l 16 16, set := true,
                                    grown := 0, due := [] }
    (b.modSvc (fun s => { s with rpl := r })).opOk []

def Chip.opRplRoute (b : Chip) (l : List Nat) : OpOut :=
  let n := fldLE l 0 4
  if l.length < 4 ∨ b.pat.nodeCount ≤ n then b.opFail BAD_ARG
  else match b.routePath n with
    | none => (b.named n).opFail NOT_FOUND
    | some p => (b.named n).opOk ([p.length, 0, 0, 0] ++ p.flatMap (fun n => leBytes n 4))

def Chip.opRplRepair (b : Chip) : OpOut :=
  if !b.svcOn 1 then b.opFail WRONG_STATE
  else
    let v := (b.svc.rpl.version + 1) % 256
    (b.modSvc (fun s => { s with rpl := { s.rpl with version := v } })).trickleReset.opOk [v]

def Chip.opRegRead (b : Chip) (l : List Nat) : OpOut :=
  match b.svc.regs.find? (fun r => r.addr == beNat (slice l 0 16)) with
  | none => b.opFail NOT_FOUND
  | some r => b.opOk (leBytes r.node 4 ++ beBytes r.rovr 8 ++ [r.tid, 0, 0, 0] ++ leBytes ((r.deadline - b.nowNs) / 60000000000) 4)

def Chip.opRegRemove (b : Chip) (l : List Nat) : OpOut :=
  let a := beNat (slice l 0 16)
  if b.svc.regs.any (fun r => r.addr == a) then (b.regDrop a).opOk [] else b.opFail NOT_FOUND

def Chip.opImgWrite (b : Chip) (l : List Nat) : OpOut :=
  let s := l.headD 0
  let first := bit (l.getD 1 0) 0
  let size := fldLE l 4 4
  let off := fldLE l 8 4
  let n := fldLE l 12 4
  let old := if first then { size := size, data := [] } else kgetD b.svc.slots s { size := size, data := [] }
  if l.length < 16 ∨ 7 < s then b.opFail BAD_ARG
  else if n = 0 ∨ 4064 < n ∨ l.length ≠ 16 + n ∨ size < off + n ∨ b.slotOctets < size then b.opFail BAD_LENGTH
  else if off ≠ old.data.length ∨ old.size ≠ size then b.opFail BAD_ARG
  else if b.slotBusy s then b.opFail WRONG_STATE
  else
    let x : ImgSlot := { size := size, data := old.data ++ l.drop 16 }
    (b.modSvc (fun v => { v with slots := kput v.slots s x })).opOk (leBytes x.data.length 4)

def Chip.opImgClose (b : Chip) (l : List Nat) : OpOut :=
  let s := l.headD 0
  if l.length < 48 ∨ 7 < s then b.opFail BAD_ARG
  else match kget b.svc.slots s with
    | none => b.opFail WRONG_STATE
    | some x =>
      if b.slotBusy s ∨ x.data.length ≠ x.size then b.opFail WRONG_STATE
      else if sha256 x.data ≠ slice l 16 32 then b.opFail AUTH_FAIL
      else
        let y := { x with closed := true, imageId := fldLE l 4 4, version := fldLE l 8 4 }
        (b.modSvc (fun v => { v with slots := kput v.slots s y })).opOk []

def Chip.opImgErase (b : Chip) (l : List Nat) : OpOut :=
  let s := l.headD 0
  if l.isEmpty ∨ 7 < s then b.opFail BAD_ARG
  else if b.slotBusy s then b.opFail WRONG_STATE
  else (b.modSvc (fun v => { v with slots := kdel v.slots s })).opOk []

/-- An ownerless BROADCAST cell on a band (R461). -/
def Chip.bcastCell (b : Chip) (d : Nat) : Bool :=
  b.sch.cells.any (fun e => cType e.2 == T.BROADCAST && cOwner e.2 == nodeNone && laneBand (colLane (b.colOf e.1)) == d)

def Chip.opCampStart (b : Chip) (l : List Nat) : OpOut :=
  let g := fun (i : Nat) => l.getD i 0
  let k := g 0
  let d := g 2
  let m := g 3
  let blk := fldLE l 6 2
  let cnt := fldLE l 10 2
  let nodes := (List.range cnt).map (fun i => fldLE l (16 + 4 * i) 4)
  if l.length < 16 ∨ 3 < k ∨ 7 < g 1 ∨ 2 < d ∨ !b.modeOn d m ∨ !mcsOk d m (g 4) ∨ blk < 64 ∨ 1024 < blk ∨ blk % 16 ≠ 0 ∨
      g 8 = 0 ∨ 32 < g 8 ∨ g 9 = 0 ∨ 16 < g 9 ∨ 1016 < cnt ∨ nodes.any (fun n => decide (b.pat.nodeCount ≤ n)) then b.opFail BAD_ARG
  else if l.length ≠ 16 + 4 * cnt then b.opFail BAD_LENGTH
  else if (kget b.svc.camps k).any (fun (c : Camp) => c.on) || !(kget b.svc.slots (g 1)).any (fun (x : ImgSlot) => x.closed) || !b.svcOn 3 then b.opFail WRONG_STATE
  else if !b.bcastCell d then b.opFail NO_RESOURCE
  else
    let len := blk + 37 + fcsLen d + micLen (b.sealLevel .bcast).1
    let us := b.r Reg.SCH_TX_OFFSET_US + airUs d m (g 4) false 8 len
    if b.slotUs < us + 100 ∨ (if d = 2 then 127 else b.pat.maxPsdu) < len then b.opFail BAD_LENGTH
    else
      let all := (b.mac.nodes.filter (fun e => cx e.2 Cx.BAND == d && (cx e.2 Cx.STATE == 3 || cx e.2 Cx.STATE == 4))).map (·.1)
      let size := (kgetD b.svc.slots (g 1) { size := 0, data := [] }).size
      let total := cdiv size blk
      let ts := (if cnt = 0 then all else nodes).map (fun n => (n, 0))
      let c : Camp := { phase := 1, slot := g 1, band := d, mode := m, mcs := g 4, block := blk, maxRounds := g 8, statusSf := g 9,
                        targets := ts, left := List.range total, setSize := total }
      (b.putCamp k c).opOk (leBytes total 2 ++ [0, 0] ++ leBytes ts.length 4)

def Chip.opCampStatus (b : Chip) (l : List Nat) : OpOut :=
  if l.isEmpty ∨ 3 < l.headD 0 then b.opFail BAD_ARG
  else match kget b.svc.camps (l.headD 0) with
    | none => b.opOk (List.replicate 18 0)
    | some c =>
      let n := fun (p : Nat → Bool) => leBytes (c.targets.filter (fun t => p t.2)).length 4
      b.opOk ([c.phase, c.round, c.status, 0] ++ n (· == 1) ++ n (· == 2) ++ n (fun v => v == 0 || v == 3) ++ leBytes c.setSize 2)

def Chip.opCampStop (b : Chip) (l : List Nat) : OpOut :=
  let k := l.headD 0
  if l.isEmpty ∨ 3 < k then b.opFail BAD_ARG
  else if !(kget b.svc.camps k).any (fun (c : Camp) => c.on) then b.opFail WRONG_STATE
  else (b.campEnd k ABORTED).opOk []

/-- Four 2-bit states to an octet, from a target rank. -/
def packStates (ts : List (Nat × Nat)) (from_ : Nat) : List Nat :=
  (List.range 256).map (fun i =>
    let s := fun (j : Nat) => (ts.getD (from_ + 4 * i + j) (0, 0)).2
    s 0 + 4 * s 1 + 16 * s 2 + 64 * s 3)

def Chip.opCampResult (b : Chip) (l : List Nat) : OpOut :=
  let k := l.headD 0
  let f := fldLE l 4 4
  if l.length < 8 ∨ 3 < k ∨ f % 1024 ≠ 0 then b.opFail BAD_ARG
  else match kget b.svc.camps k with
    | none => b.opFail WRONG_STATE
    | some c => if c.phase = 0 then b.opFail WRONG_STATE else b.opOk (packStates c.targets f)

/-- An operation on its request body. -/
def Chip.opRun (b : Chip) (op : Nat) (l : List Nat) : OpOut :=
  match op with
  | 0x01 => b.opCtrl l
  | 0x02 => (b.opCtxSet l).kept
  | 0x03 => b.opCtxRead l
  | 0x10 => (b.opRplCfg l).kept
  | 0x11 => b.opRplRoute l
  | 0x12 => (b.opRplRepair).kept
  | 0x20 => b.opRegRead l
  | 0x21 => b.opRegRemove l
  | 0x30 => b.opImgWrite l
  | 0x31 => b.opImgClose l
  | 0x32 => b.opImgErase l
  | 0x38 => b.opCampStart l
  | 0x39 => b.opCampStatus l
  | 0x3A => b.opCampStop l
  | 0x3B => b.opCampResult l
  | _ => b.opFail BAD_ARG

/-- The checks that come before an operation (R465). -/
def Chip.opCheck (b : Chip) (op : Nat) : Option Nat :=
  match opService op with
  | none => some BAD_ARG
  | some s =>
    if s.any (fun i => !bit b.pat.svcMask i) then some BAD_ARG
    else if b.isStandby && !opStandby op then some WRONG_STATE
    else if b.inGap && opMirrored op then some WRONG_STATE
    else if decide (2 ≤ b.r Reg.UPD_PHASE) && [0x01, 0x02, 0x10, 0x12].contains op then some WRONG_STATE
    else none

/-- A response record (R463). -/
def respRec (op status tag ticket : Nat) (body : List Nat) : List Nat :=
  leBytes op 2 ++ [status, 0] ++ leBytes tag 4 ++ leBytes body.length 4 ++ leBytes ticket 4 ++ body
def respStatus (r : List Nat) : Nat := r.getD 2 0

/-- What a SUBMIT does: the block after it, and the response record with the completion code, none while it stays BUSY. -/
structure Submitted where
  b : Chip
  resp : Option (List Nat)

/-- POLL (R464): `fin` says that the ticket's operation has finished. -/
def Chip.opPoll (b : Chip) (req : List Nat) (fin : Bool) : Submitted :=
  let tag := fldLE req 4 4
  let t := fldLE req 12 4
  match kget b.svc.tickets t with
  | none => ⟨b, some (respRec 0xF0 NOT_FOUND tag 0 [])⟩
  | some x =>
    if fin then ⟨b.modSvc (fun s => { s with tickets := kdel s.tickets t }), some (respRec 0xF0 (respStatus x.resp) tag t (x.resp.drop 16))⟩
    else ⟨b, some (respRec 0xF0 BUSY tag t [])⟩

/-- SUBMIT of an operation: `late` says that its service needs more than a second (R464). -/
def Chip.submit (b : Chip) (op : Nat) (req : List Nat) (late fin : Bool) : Submitted :=
  let tag := fldLE req 4 4
  match b.opCheck op with
  | some c => ⟨b, some (respRec op c tag 0 [])⟩
  | none =>
    if op = 0xF0 then b.opPoll req fin
    else if late ∧ 8 ≤ b.svc.tickets.length then ⟨b, some (respRec op NO_RESOURCE tag 0 [])⟩
    else
      let o := b.opRun op (req.drop 16)
      let r := respRec op o.status tag 0 o.body
      if late then ⟨o.b.modSvc (fun s => { s with running := some r }), none⟩ else ⟨o.b, some r⟩

/-- Write the response record and complete the command (R462). -/
def State.svcFinish (s : State) (b : Chip) (r : List Nat) : State :=
  { s with mem := s.mem.write rspBuf r, b := b.cmdFinish cbSVC (respStatus r) [r.length] }

/-- The SUBMIT command (R462): `op` is the operation of the row, none to take it from the request record. -/
def State.svcSubmit (s : State) (irq : Bool) (op : Option Nat) (late fin : Bool) : State :=
  let b := s.b
  if b.starting || b.t (cbBUSY cbSVC) || b.safe then { s with b := b.cmd cbSVC irq (fun c => c.fail BAD_ARG) }
  else
    let b1 := b.cmdAccept cbSVC irq
    let n := b1.arg cbSVC 0
    let req := s.mem.read reqBuf n
    if n < 16 ∨ 4096 < n ∨ n ≠ fldLE req 8 4 + 16 then { s with b := b1.cmdFinish cbSVC BAD_LENGTH [] }
    else
      let x := b1.submit (op.getD (fldLE req 0 2)) req late fin
      match x.resp with
      | some r => s.svcFinish x.b r
      | none => { s with b := x.b }

/-- MAILBOX_TIMEOUT: a second has passed; the hardware answers BUSY with a new ticket (R464). -/
def State.svcTimeout (s : State) : State :=
  match s.b.svc.running with
  | none => s
  | some r =>
    let t := s.b.svc.nextTicket
    let b1 := s.b.modSvc (fun v => { v with tickets := kput v.tickets t { resp := r, doneNs := s.b.nowNs }, running := none,
                                            nextTicket := if t + 1 < 2 ^ 32 then t + 1 else 1 })
    s.svcFinish b1 (respRec (fldLE r 0 2) BUSY (fldLE r 4 4) t [])

/-- TICKET_EXPIRY: 60 s have passed since a ticket's completion (R464). -/
def Chip.ticketExpiry (b : Chip) (t : Nat) : Chip :=
  match kget b.svc.tickets t with
  | none => b
  | some x => if x.doneNs + 60000000000 ≤ b.nowNs then b.modSvc (fun s => { s with tickets := kdel s.tickets t }) else b

/-! ### One meaning for each row of the services -/

/-- SVC_CTRL. -/
def execSvcCtrl (irq late : Bool) (s : State) : Host.Outcome State Fault Refusal := .next (s.svcSubmit irq (some 0x01) late false)
/-- CTX_SET. -/
def execSvcCtxSet (irq late : Bool) (s : State) : Host.Outcome State Fault Refusal := .next (s.svcSubmit irq (some 0x02) late false)
/-- CTX_READ. -/
def execSvcCtxRead (irq late : Bool) (s : State) : Host.Outcome State Fault Refusal := .next (s.svcSubmit irq (some 0x03) late false)
/-- RPL_CFG. -/
def execRplCfg (irq late : Bool) (s : State) : Host.Outcome State Fault Refusal := .next (s.svcSubmit irq (some 0x10) late false)
/-- RPL_ROUTE. -/
def execRplRoute (irq late : Bool) (s : State) : Host.Outcome State Fault Refusal := .next (s.svcSubmit irq (some 0x11) late false)
/-- RPL_REPAIR. -/
def execRplRepair (irq late : Bool) (s : State) : Host.Outcome State Fault Refusal := .next (s.svcSubmit irq (some 0x12) late false)
/-- REG_READ. -/
def execRegRead (irq late : Bool) (s : State) : Host.Outcome State Fault Refusal := .next (s.svcSubmit irq (some 0x20) late false)
/-- REG_REMOVE. -/
def execRegRemove (irq late : Bool) (s : State) : Host.Outcome State Fault Refusal := .next (s.svcSubmit irq (some 0x21) late false)
/-- IMG_WRITE. -/
def execImgWrite (irq late : Bool) (s : State) : Host.Outcome State Fault Refusal := .next (s.svcSubmit irq (some 0x30) late false)
/-- IMG_CLOSE. -/
def execImgClose (irq late : Bool) (s : State) : Host.Outcome State Fault Refusal := .next (s.svcSubmit irq (some 0x31) late false)
/-- IMG_ERASE. -/
def execImgErase (irq late : Bool) (s : State) : Host.Outcome State Fault Refusal := .next (s.svcSubmit irq (some 0x32) late false)
/-- CAMP_START. -/
def execCampStart (irq late : Bool) (s : State) : Host.Outcome State Fault Refusal := .next (s.svcSubmit irq (some 0x38) late false)
/-- CAMP_STATUS. -/
def execCampStatus (irq late : Bool) (s : State) : Host.Outcome State Fault Refusal := .next (s.svcSubmit irq (some 0x39) late false)
/-- CAMP_STOP. -/
def execCampStop (irq late : Bool) (s : State) : Host.Outcome State Fault Refusal := .next (s.svcSubmit irq (some 0x3A) late false)
/-- CAMP_RESULT. -/
def execCampResult (irq late : Bool) (s : State) : Host.Outcome State Fault Refusal := .next (s.svcSubmit irq (some 0x3B) late false)
/-- POLL: `fin` says that the ticket's operation has finished. -/
def execSvcPoll (irq fin : Bool) (s : State) : Host.Outcome State Fault Refusal := .next (s.svcSubmit irq (some 0xF0) false fin)
/-- MAILBOX_TIMEOUT. -/
def execMailboxTimeout (s : State) : Host.Outcome State Fault Refusal := .next s.svcTimeout
/-- TICKET_EXPIRY. -/
def execTicketExpiry (ticket : Nat) (s : State) : Host.Outcome State Fault Refusal := s.on (fun b => b.ticketExpiry ticket)
/-- DAO. -/
def execDao (s : State) : Host.Outcome State Fault Refusal := s.on Chip.dao
/-- DIS. -/
def execDis (s : State) : Host.Outcome State Fault Refusal := s.on Chip.dis
/-- TRICKLE_TIMER. -/
def execTrickleTimer (s : State) : Host.Outcome State Fault Refusal := s.on Chip.trickle
/-- ROUTE_LIFETIME_EXPIRY. -/
def execRouteLifetimeExpiry (s : State) : Host.Outcome State Fault Refusal := s.on Chip.routeExpiry
/-- NEIGHBOR_SOLICITATION. -/
def execNeighborSolicitation (s : State) : Host.Outcome State Fault Refusal := s.on Chip.nsol
/-- EDAR. -/
def execEdar (s : State) : Host.Outcome State Fault Refusal := s.on Chip.edar
/-- REGISTRATION_EXPIRY. -/
def execRegistrationExpiry (s : State) : Host.Outcome State Fault Refusal := s.on Chip.regExpiry
/-- FRAGMENT. -/
def execFragment (s : State) : Host.Outcome State Fault Refusal := s.on Chip.fragment
/-- REASSEMBLY_TIMEOUT. -/
def execReassemblyTimeout (s : State) : Host.Outcome State Fault Refusal := s.on Chip.reasmTimeout
/-- ADAPTATION_DOWNLINK. -/
def execAdaptationDownlink (s : State) : Host.Outcome State Fault Refusal := s.on Chip.adaptDown
/-- IMG_STATUS. -/
def execImgStatus (s : State) : Host.Outcome State Fault Refusal := s.on Chip.imgStatus
/-- CAMPAIGN_COLLECT_END. -/
def execCampaignCollectEnd (camp : Nat) (s : State) : Host.Outcome State Fault Refusal := s.on (fun b => b.collectEnd camp)

end Sys2Proof.Machine
end

