-- ==== Sys2Proof/Machine/Seam.lean ====
section
/-!
DEFINITION. The twin: the Seam's frames and bodies, mirror states, roles, claims and retreats (R469 to R488).
-/
namespace Sys2Proof.Machine

def Chip.modSea (b : Chip) (f : Sea → Sea) : Chip := { b with sea := f b.sea }
/-- The Pattern's ROLE_CFG is a TWIN's (R58). -/
def Chip.twin (b : Chip) : Bool := b.pat.roleCfg != 0
/-- The Seam side works: a TWIN in READY, out of LIMP (R119, R489). -/
def Chip.seamOn (b : Chip) : Bool := b.twin && b.working
/-- The present pair pocket's key, where it is valid (R477). -/
def Chip.pairKey (b : Chip) : Option KeyT :=
  if !b.t Reg.SEA_PAIR_PK_EN then none
  else match b.pocketKey (b.r Reg.SEA_PAIR_POCKET) 2 8 with
    | .inr k => some k
    | .inl _ => none
def Chip.ownEui (_ : Chip) : Nat := Config.deviceEui % 2 ^ 64

/-! ### Frames (R470, R471) -/

/-- A sequence number that is none. -/
def seqNone : Nat := 0xFFFFFFFF
def seqNext (s : Nat) : Nat := if s + 1 = seqNone then 0 else s + 1
/-- The Seam key: the KDF under the pair pocket with PAIR_ID as the whole context (R470). -/
def Chip.seamKey (b : Chip) : Option (List Nat) :=
  b.pairKey.map (fun k => kdf (keyOctets k) (ascii "ONW-SEAM") (beBytes b.pat.pairId 8) 128)
/-- The TAG over the octets it covers. -/
def seamTag (key l : List Nat) : List Nat := (cmac key l).take 8
/-- The octets of a record: its header and its body. -/
def SeamRec.all (r : SeamRec) : List Nat := [r.kind, b2n r.bulk] ++ leBytes r.body.length 2 ++ leBytes r.item 4 ++ r.body
/-- The octets of a frame that its TAG covers; a short frame is padded with zeros after its records (PRESUMED, log entry 129). -/
def seamCover (seq ack stitch : Nat) (recs : List SeamRec) : List Nat :=
  let l := leBytes seq 4 ++ leBytes ack 4 ++ leBytes stitch 4 ++ leBytes recs.length 2 ++ [0, 0] ++ recs.flatMap SeamRec.all
  l ++ List.replicate (38 - l.length) 0
/-- A whole frame under a Seam key. -/
def seamFrame (key : List Nat) (seq ack stitch : Nat) (recs : List SeamRec) : List Nat :=
  let c := seamCover seq ack stitch recs
  let l := List.replicate 12 0 ++ beBytes 0x88B6 2 ++ c ++ seamTag key c
  l ++ leBytes (crc32 l) 4
/-- A frame leaves on the Seam, under the Seam key. -/
def Chip.seamOut (b : Chip) (seq : Nat) (recs : List SeamRec) : Chip :=
  match b.seamKey with
  | some k => b.emit (.seam (seamFrame k seq b.sea.ackOut b.stitch32 recs))
  | none => b
/-- The records of a frame. -/
def readRecs (n : Nat) (l : List Nat) : List SeamRec :=
  match n with
  | 0 => []
  | k + 1 =>
    let len := fldLE l 2 2
    { kind := l.headD 0, bulk := bit (l.getD 1 0) 0, item := fldLE l 4 4, body := slice l 8 len } :: readRecs k (l.drop (8 + len))
/-- SEQ and ACK of a frame, and the record of it that a command delivers. -/
def seamSeq (h : SeamHdr) : Nat := fldLE h.octets 0 4
def seamAckOf (h : SeamHdr) : Nat := fldLE h.octets 4 4
def seamRecord (h : SeamHdr) : SeamRec := (readRecs (fldLE h.octets 12 2) (h.octets.drop 16)).getD h.index { kind := 0 }
/-- FCS and TAG of a frame are right under the present Seam key (R470). -/
def Chip.tagOk (b : Chip) (h : SeamHdr) : Bool := h.fcsOk && b.seamKey.any (fun k => seamTag k h.octets == h.tag)
/-- An unsequenced frame of one record. -/
def Chip.seamOne (b : Chip) (kind : Nat) (body : List Nat) : Chip := b.seamOut seqNone [{ kind := kind, body := body }]
/-- A sequenced frame. -/
def Chip.seamSend (b : Chip) (recs : List SeamRec) : Chip :=
  let s := b.sea.seqOut
  let f : SeamF := { seq := s, recs := recs }
  (b.modSea (fun x => { x with seqOut := seqNext s, waiting := x.waiting ++ [f] })).seamOut s recs
/-- Octets of a record in its frame. -/
def SeamRec.octets (r : SeamRec) : Nat := 8 + r.body.length
/-- Records in frames of at most 9,018 octets. -/
def packRecs (l : List SeamRec) (cur : List SeamRec) (n : Nat) : List (List SeamRec) :=
  match l with
  | [] => if cur.isEmpty then [] else [cur.reverse]
  | r :: t =>
    if cur.isEmpty || decide (n + r.octets ≤ 8976) then packRecs t (r :: cur) (n + r.octets)
    else cur.reverse :: packRecs t [r] r.octets
def Chip.seamSendAll (b : Chip) (recs : List SeamRec) : Chip := (packRecs recs [] 0).foldl Chip.seamSend b
/-- An acknowledgement: the frames up to it have arrived. -/
def Chip.seamAck (b : Chip) (ack : Nat) : Chip :=
  if b.sea.waiting.any (fun f => f.seq == ack) then
    b.modSea (fun x => { x with waiting := (x.waiting.dropWhile (fun f => f.seq != ack)).drop 1 })
  else b
/-- Frames not acknowledged within 2 stitches go out again, with every later one (R471). -/
def Chip.seamResend (b : Chip) : Chip :=
  if !b.seamOn || !b.t Reg.SEA_BLOCK_LOCK then b
  else
    let l := b.sea.waiting.dropWhile (fun f => decide (f.age < 2))
    let n := b.sea.waiting.length - l.length
    let b1 := l.foldl (fun c f => c.seamOut f.seq f.recs) b
    (b1.modSea (fun x => { x with waiting := x.waiting.take n ++ l.map (fun (f : SeamF) => { f with age := 0 }) })).add
      Reg.SEA_RETRANSMIT l.length

/-! ### Bodies -/

/-- HELLO (R477). -/
def Chip.helloBody (b : Chip) : List Nat :=
  leBytes b.pat.pairId 8 ++ leBytes b.pat.nodeCount 4 ++ leBytes b.pat.weaveCells 4 ++ leBytes b.pat.slotStitches 2 ++
  [b.pat.sfExp, b.pat.roleCfg, b.role, b.r Reg.SEA_MIRROR, 0, 0] ++ leBytes (b.r Reg.SEA_PAIR_EPOCH) 4 ++ [0, 0, 0, 0] ++ beBytes b.ownEui 8
def Chip.helloOut (b : Chip) : Chip := b.seamOne 1 b.helloBody
/-- HEARTBEAT (R482). -/
def Chip.beatBody (b : Chip) : List Nat :=
  let flags := b.r Reg.SEA_CLAIM_OUT + 2 * b.r Reg.SEA_BASED + 4 * b.r Reg.SEA_STBY_REC + 8 * b.r Reg.TIM_HOLDOVER +
    16 * b2n (b.isStandby && b.sea.hand.isSome)
  leBytes b.tim.stitch 8 ++ leBytes (b.r Reg.SEA_PAIR_EPOCH) 4 ++ [b.role, b.r Reg.SEA_MIRROR, flags, 0] ++ beBytes b.ownEui 8 ++
  leBytes (b.r Reg.SEA_MIRROR_SEQ) 4 ++ leBytes (b.r Reg.SEA_SKEW_NS) 4
def readBeat (l : List Nat) : Beat :=
  let g := fun (i : Nat) => l.getD i 0
  { stitch := fldLE l 0 8, epoch := fldLE l 8 4, role := g 12, mirror := g 13, claimOut := bit (g 14) 0, based := bit (g 14) 1,
    hoReady := bit (g 14) 4, eui := slice l 16 8, seq := fldLE l 24 4 }
/-- A pocket's record as the mirror carries it: its key wrapped under the pair pocket, PARENT_EPOCH zero; WRAPPED is zero where there is no key to
wrap (R351, R481; log entry 10). -/
def Chip.pocketBody (b : Chip) (p : Nat) (x : Option Pocket) : List Nat :=
  match x with
  | none => emptyRecord (b.pocketGen p)
  | some y =>
    let w := match b.pairKey, b.unwrapped y with
      | some k, some key => kwWrap (keyOctets k) (keyOctets key)
      | _, _ => []
    y.octets 0 w (b.pocketGen p)
def Chip.pocketRec (b : Chip) (p : Nat) (x : Option Pocket) (bulk : Bool) : SeamRec :=
  { kind := 5, bulk := bulk, item := p, body := b.pocketBody p x }
/-- A ceiling record (R339). -/
def ceilBody (c : Ceil) : List Nat :=
  let l := leBytes c.epoch 4 ++ leBytes c.ceiling 4 ++ [0, 0, 0, 0]
  l ++ leBytes (crc32 l) 4
/-- A ROUTE record's body: the sequence and the seconds left. -/
def Chip.routeBody (b : Chip) (seq deadline : Nat) : List Nat :=
  [seq, 0, 0, 0] ++ leBytes (cdiv (deadline - b.nowNs) 1000000000) 4
/-- A REG record's body: the minutes left. -/
def regBody (a rovr tid mins : Nat) : List Nat := beBytes a 16 ++ beBytes rovr 8 ++ [tid, 0, 0, 0] ++ leBytes mins 4
def Chip.regLeft (b : Chip) (r : Regn) : Nat := cdiv (r.deadline - b.nowNs) 60000000000
/-- KEYSTATE. -/
def keyStateBody (epoch : Nat) (owners : List (List Nat)) : List Nat :=
  leBytes epoch 4 ++ (owners.flatten ++ List.replicate 128 0).take 128 ++ [0, 0, 0, 0]
/-- A compression context in the CTX_SET body form (R465). -/
def ctxBody (i : Nat) (x : CompCtx) : List Nat := [i, x.len, b2n x.valid] ++ List.replicate 13 0 ++ x.prefix_
/-- The RPL configuration in the RPL_CFG body form (R465). -/
def rplBody (r : Rpl) : List Nat :=
  [r.inst, r.imin, r.doublings, r.redundancy] ++ leBytes r.minRank 2 ++ leBytes r.maxRank 2 ++ [r.life, 0] ++ leBytes r.unit 2 ++ [0, 0, 0, 0] ++
  (r.dodag ++ List.replicate 16 0).take 16
/-- CONFIG. -/
def Chip.confBody (b : Chip) : List Nat :=
  leBytes (b.r Reg.SCH_PAIR_EN + b.r Reg.SCH_PAIR_COL * 2 ^ 16) 4 ++
  (List.range 16).flatMap (fun i => ctxBody i (kgetD b.svc.ctxs i { len := 0, valid := false, prefix_ := List.replicate 16 0 })) ++
  rplBody b.svc.rpl

/-! ### The mirror at its sender (R478 to R480) -/

/-- The mirrored items as they stand; every pocket but the pair pocket. -/
def Chip.mirrorNow (b : Chip) : Mirror :=
  { nodes := b.mac.nodes, cells := b.sch.cells,
    pockets := if b.t Reg.SEA_PAIR_PK_EN then kdel b.key.pockets (b.r Reg.SEA_PAIR_POCKET) else b.key.pockets,
    ceil := b.sec.ceil, epoch := b.key.nodeEpoch, owners := b.key.owners,
    routes := b.svc.routes.filterMap (fun e => e.2.deadline.map (fun d => (e.1, e.2.seq.getD 0, d))),
    regs := b.svc.regs, conf := b.confBody }

/-- Entries that differ between two tables, in key order: what stands now, none for nothing. -/
def kdiff {α : Type} [DecidableEq α] (old new : KV α) : KV (Option α) :=
  let chg : KV (Option α) := (new.filter (fun e => kget old e.1 ≠ some e.2)).map (fun e => (e.1, some e.2))
  (old.filter (fun e => (kget new e.1).isNone)).foldl (fun m e => kput m e.1 none) chg

/-- Neighbouring cells go in one record, at most 1,024. -/
def cellRuns (l : List (Nat × Nat)) : List (Nat × List Nat) :=
  l.foldr (fun e acc => match acc with
    | (k, vs) :: t => if e.1 + 1 = k ∧ vs.length < 1024 then (e.1, e.2 :: vs) :: t else (e.1, [e.2]) :: acc
    | [] => [(e.1, [e.2])]) []
def cellRecs (l : List (Nat × Nat)) (bulk : Bool) : List SeamRec :=
  (cellRuns l).map (fun e => { kind := 4, bulk := bulk, item := e.1, body := ofWords e.2 })

/-- Pockets with each parent before its children. -/
def pocketOrder (ps : KV Pocket) (done : List Nat) (fuel : Nat) : List Nat :=
  match fuel with
  | 0 => done
  | k + 1 =>
    let next := (ps.filter (fun e => !done.contains e.1 && (done.contains e.2.parent || (kget ps e.2.parent).isNone))).map (·.1)
    if next.isEmpty then done ++ (ps.filter (fun e => !done.contains e.1)).map (·.1) else pocketOrder ps (done ++ next) k

/-- The change records between two states of the mirror. -/
def Chip.changeRecs (b : Chip) (o n : Mirror) : List SeamRec :=
  let keyst : List SeamRec := if o.epoch = n.epoch ∧ o.owners = n.owners then [] else [{ kind := 9, body := keyStateBody n.epoch n.owners }]
  let pk := kdiff o.pockets n.pockets
  let order := pocketOrder (pk.filterMap (fun e => e.2.map (fun x => (e.1, x)))) [] 4096
  let gone := (pk.filter (fun e => e.2.isNone)).map (fun e => b.pocketRec e.1 none false)
  let pks := order.map (fun p => b.pocketRec p (kget n.pockets p) false)
  let ceils := (kdiff o.ceil n.ceil).filterMap (fun e => e.2.map (fun c => ({ kind := 6, item := e.1, body := ceilBody c } : SeamRec)))
  let ctxs := (kdiff o.nodes n.nodes).map (fun e => ({ kind := 3, item := e.1, body := leBytes (e.2.getD 0) 256 } : SeamRec))
  let cells := cellRecs ((kdiff o.cells n.cells).map (fun e => (e.1, e.2.getD freeCell))) false
  let rts := (n.routes.filter (fun r => !o.routes.contains r)).map (fun r =>
    ({ kind := 7, item := r.1, body := b.routeBody r.2.1 r.2.2 } : SeamRec))
  let rtsGone := (o.routes.filter (fun r => !n.routes.any (fun s => s.1 == r.1))).map (fun r =>
    ({ kind := 7, item := r.1, body := [r.2.1, 0, 0, 0, 0, 0, 0, 0] } : SeamRec))
  let rgs := (n.regs.filter (fun r => !o.regs.contains r)).map (fun r =>
    ({ kind := 8, item := r.node, body := regBody r.addr r.rovr r.tid (b.regLeft r) } : SeamRec))
  let rgsGone := (o.regs.filter (fun r => !n.regs.any (fun s => s.addr == r.addr))).map (fun r =>
    ({ kind := 8, item := r.node, body := regBody r.addr r.rovr r.tid 0 } : SeamRec))
  let conf : List SeamRec := if o.conf = n.conf then [] else [{ kind := 10, body := n.conf }]
  keyst ++ gone ++ pks ++ ceils ++ ctxs ++ cells ++ rts ++ rtsGone ++ rgs ++ rgsGone ++ conf

/-- The records of a bulk pass, in order (R480). -/
def Chip.bulkRecs (b : Chip) (n : Mirror) : List SeamRec :=
  let empty := ((List.range 4096).filter (fun p => (kget n.pockets p).isNone &&
    !(b.t Reg.SEA_PAIR_PK_EN && p == b.r Reg.SEA_PAIR_POCKET))).map (fun p => b.pocketRec p none true)
  let pks := (pocketOrder n.pockets [] 4096).map (fun p => b.pocketRec p (kget n.pockets p) true)
  [{ kind := 11, bulk := true, item := 0 }, { kind := 9, bulk := true, body := keyStateBody n.epoch n.owners }] ++ empty ++ pks ++
  n.ceil.map (fun e => { kind := 6, bulk := true, item := e.1, body := ceilBody e.2 }) ++
  (List.range b.pat.nodeCount).map (fun i => { kind := 3, bulk := true, item := i, body := leBytes (kgetD n.nodes i 0) 256 }) ++
  cellRecs ((List.range b.pat.weaveCells).map (fun i => (i, kgetD n.cells i freeCell))) true ++
  n.routes.map (fun r => { kind := 7, bulk := true, item := r.1, body := b.routeBody r.2.1 r.2.2 }) ++
  n.regs.map (fun r => { kind := 8, bulk := true, item := r.node, body := regBody r.addr r.rovr r.tid (b.regLeft r) }) ++
  [{ kind := 10, bulk := true, body := n.conf }, { kind := 11, bulk := true, item := 1 }]

/-- The mirror flows: an ACTIVE device, paired, over a Seam in lock. -/
def Chip.mirrorOn (b : Chip) : Bool :=
  b.seamOn && b.role == 3 && b.t Reg.SEA_PAIRED && b.t Reg.SEA_BLOCK_LOCK && b.pairKey.isSome

/-- The mirror at the close of the budget (R479, R480): the pass asked for, else the changes of the stitch. -/
def Chip.mirrorSend (b : Chip) : Chip :=
  if !b.mirrorOn then b
  else
    let n := b.mirrorNow
    if b.sea.bulk then
      (b.modSea (fun x => { x with bulk := false, snapOk := true, snap := n })).seamSendAll (b.bulkRecs n)
    else if !b.sea.snapOk then b
    else
      let l := b.changeRecs b.sea.snap n
      let b1 := (b.modSea (fun x => { x with snap := n })).seamSendAll l
      (b1.add Reg.SEA_REC_SENT l.length).w Reg.SEA_MIRROR_SEQ (b1.r Reg.SEA_MIRROR_SEQ + l.length)

/-- Ceilings are sent when they are committed (R340, R479). -/
def Chip.ceilSend (b : Chip) : Chip :=
  if !b.mirrorOn || !b.sea.snapOk || b.sea.snap.ceil == b.sec.ceil then b
  else
    let l := (kdiff b.sea.snap.ceil b.sec.ceil).filterMap (fun e => e.2.map (fun c => ({ kind := 6, item := e.1, body := ceilBody c } : SeamRec)))
    let b1 := (b.modSea (fun x => { x with snap := { x.snap with ceil := b.sec.ceil } })).seamSendAll l
    (b1.add Reg.SEA_REC_SENT l.length).w Reg.SEA_MIRROR_SEQ (b1.r Reg.SEA_MIRROR_SEQ + l.length)

/-! ### Mirror states, roles and epochs (R474 to R476) -/

/-- MIRROR changes (R479, R492); a copy that has become STALE waits for a new pass, not for the lag of the last (R480). -/
def Chip.setMirror (b0 : Chip) (v : Nat) : Chip :=
  let b := if v = 3 then b0.modSea (fun x => { x with ended := false }) else b0
  if b.r Reg.SEA_MIRROR = v then b
  else
    let b1 := b.w Reg.SEA_MIRROR v
    let b2 := if v = 3 then b1.inc Reg.SEA_STALE_CNT else b1
    b2.raise Src.SEA N.MIRROR_STATE (argB v 0 0 0 (b2.r (if v = 2 then Reg.SEA_BULK_ITEMS else Reg.SEA_LAG)))
/-- ROLE changes, and the unused rest of every counter block is abandoned (R342, R492). -/
def Chip.setRole (b : Chip) (v cause : Nat) : Chip :=
  (b.dropBlocks.w Reg.SEA_ROLE v).raise Src.SEA N.ROLE_CHANGE (argB b.role v cause 0 (b.r Reg.SEA_PAIR_EPOCH))
/-- The pair epoch is committed, and counter blocks follow its parity (R475, R340). -/
def Chip.setEpoch (b : Chip) (e : Nat) : Chip :=
  ((b.w Reg.SEA_PAIR_EPOCH e).w Reg.SEC_PARITY (1 + e % 2)) |> fun c => { c with nv := { c.nv with pairEpoch := e % 2 ^ 32 } }
def Chip.setStby (b : Chip) (v : Bool) : Chip := (b.wb Reg.SEA_STBY_REC v) |> fun c => { c with nv := { c.nv with stbyRec := v } }
/-- PEER_EPOCH learns (R475). -/
def Chip.learnEpoch (b : Chip) (e : Nat) : Chip := b.w Reg.SEA_PEER_EPOCH (max e (b.r Reg.SEA_PEER_EPOCH))

/-- Items bound for the mesh are discarded (R482, R485); those of frames already taken go out (R274). -/
def Chip.meshDrop (b : Chip) : Chip :=
  let keep := fun (q : Nat) (i : Item) => b.tx.frames.any (fun e => e.2.granted && e.2.item == some (q, i.id))
  let b1 := ((List.range b.pat.queueCount).filter b.meshBound).foldl (fun c q => (c.emptyQ q (keep q) Reg.SEA_STBY_DL_DROP).1) b
  let b2 := Chip.add { b1 with adapt := [], mac := { b1.mac with waits := [], csma := [] } } Reg.SEA_STBY_DL_DROP b1.adapt.length
  (b2.mac.nodes.foldl (fun c e => c.dlSync e.1) b2).tmgPort 2

/-- Pair beacons stop (R485). -/
def Chip.pairStop (b : Chip) : Chip :=
  (b.tx.frames.filter (fun e => e.2.src == TxSrc.pairBeacon && e.2.phase != TxPhase.air)).foldl (fun c e => c.withdraw e.1 e.2) b

/-- The device leaves ACTIVE. -/
def Chip.leaveActive (b : Chip) : Chip :=
  (((b.wb Reg.SEA_CLAIM_OUT false).pairStop.campAbort).modSea (fun x =>
    { x with claim := none, retry := none, retreat := none, bulk := false, snapOk := false, snap := {}, waiting := [], marks := [],
             ended := false, pass := none }))

/-- ROLE STANDBY (R476). -/
def Chip.toStandby (b : Chip) (mirror cause : Nat) : Chip :=
  let b1 := if b.role = 3 then b.leaveActive else b
  let b2 := (b1.setRole 2 cause).modSea (fun x => { x with listen := none, toStandby := false, retry := none, claim := none })
  (b2.setMirror mirror).meshDrop

/-- ROLE ACTIVE at the end of a claim (R484); the first pair beacon goes out at the first offset to come (R277). -/
def Chip.toActive (b : Chip) (cause : Nat) : Chip :=
  let b1 := ((b.setEpoch (max (b.r Reg.SEA_PAIR_EPOCH) (b.r Reg.SEA_PEER_EPOCH) + 1)).setStby false)
  let b2 := b1.mac.nodes.foldl (fun (c : Chip) e => (c.ndw e.1 Cx.DL_COUNT 0).ndw e.1 Cx.RETRY_NOW 0) b1
  let b3 := (((b2.setRole 3 cause).setMirror 0).inc Reg.SEA_CLAIMS).modSea (fun x =>
    { x with claim := none, retry := none, listen := none, toStandby := false, hand := none, marks := [], ended := false, pass := none,
             waiting := [], bulk := false, snapOk := cause == 4, snap := if cause = 4 then b2.mirrorNow else {}, retreat := none })
  let ss := max 1 b.pat.slotStitches
  let slot := (b.tim.stitch + 1) / ss + (if cause = 4 then 0 else 1)
  let b4 : Chip := { b3 with sch := { b3.sch with first := max b3.sch.first slot } }
  let b5 := if cause = 4 ∧ slot * ss = b.tim.stitch + 1 then b4.prefetch slot else b4
  b5.planPairs

/-- The first slot a device that became ACTIVE in the present stitch serves. -/
def Chip.servedFrom (b : Chip) : Nat := (b.tim.stitch + 1) / max 1 b.pat.slotStitches + 1

/-! ### Claims (R483, R484) -/

/-- A claim begins: CLAIM_OUT is driven. -/
def Chip.claimStart (b : Chip) (cause : Nat) (byCmd : Bool) : Chip :=
  (b.wb Reg.SEA_CLAIM_OUT true).modSea (fun x => { x with claim := some (cause, byCmd), retry := none })

/-- CLAIM_IN is sampled (R484). -/
def Chip.claimSample (b : Chip) : Chip :=
  match b.sea.claim with
  | none => b
  | some (cause, byCmd) =>
    let stop := (b.wb Reg.SEA_CLAIM_OUT false).modSea (fun x => { x with claim := none })
    let fin := fun (c : Chip) (code : Nat) (l : List Nat) => if byCmd then c.cmdFinish cbSEA code l else c
    if b.t Reg.SEA_CLAIM_IN then
      let wait := if b.ownEui < b.peerEui then 1 else 4
      let b1 := stop.inc Reg.SEA_CLAIMS_LOST
      if byCmd then fin b1 ABORTED [] else b1.modSea (fun x => { x with retry := some (wait, cause) })
    else if 2 ^ 32 - 1 ≤ max (b.r Reg.SEA_PAIR_EPOCH) (b.r Reg.SEA_PEER_EPOCH) then fin stop NO_RESOURCE []
    else
      let b1 := b.toActive cause
      fin b1 OK [b1.r Reg.SEA_PAIR_EPOCH, b.servedFrom % 2 ^ 32]

/-- Conditions 2 to 4 of R483: 8 stitches missed; CLAIM_IN low; no ACTIVE pair beacon at or above the own epoch. -/
def Chip.missed8 (b : Chip) : Bool := decide (8 ≤ b.r Reg.SEA_MISS_RUN)
def within8 (age : Option Nat) : Bool := age.any (fun n => decide (n ≤ 8))
def Chip.claimOk (b : Chip) (cause : Nat) : Bool :=
  !b.t Reg.SEA_CLAIM_IN &&
  match cause with
  | 1 => b.role == 1 && b.pat.roleCfg == 1 && !b.t Reg.SEA_STBY_REC && b.pairKey.isSome
  | 2 => b.isStandby && b.t Reg.SEA_AUTO_CLAIM && b.missed8 && !within8 b.sea.beaconAge && b.t Reg.SEA_BASED
  | _ => b.isStandby
/-- An abandoned claim is tried again (R484). -/
def Chip.claimAgain (b : Chip) : Chip :=
  match b.sea.retry with
  | some (0, cause) =>
    if !b.seamOn then b
    else if b.claimOk cause then b.claimStart cause false
    else b.modSea (fun x => { x with retry := none, hand := if cause = 4 then none else x.hand })
  | _ => b

/-- A STANDBY at a boundary (R483). -/
def Chip.claimTest (b : Chip) : Chip :=
  if !b.isStandby || !b.missed8 || b.sea.claim.isSome || b.sea.retry.isSome then b
  else
    let beacon := within8 b.sea.beaconAge
    if b.t Reg.SEA_CLAIM_IN || beacon then
      if b.sea.seamDown then b
      else (b.modSea (fun x => { x with seamDown := true })).raise Src.SEA N.SEAM_DOWN
        (argB (b.r Reg.SEA_CLAIM_IN + 2 * b2n beacon) 0 0 0 0)
    else if !b.t Reg.SEA_BASED then
      if b.sea.noMirror then b else (b.modSea (fun x => { x with noMirror := true })).raise Src.SEA N.NO_MIRROR 0
    else if b.t Reg.SEA_AUTO_CLAIM then b.claimStart 2 false
    else b

/-! ### Retreats (R485) -/

/-- A retreat is due at the next boundary. -/
def Chip.retreatDue (b : Chip) (cause epoch : Nat) : Chip :=
  if b.sea.retreat.isSome then b
  else (b.modSea (fun x => { x with retreat := some cause })).raise Src.SEA N.DUAL_ACTIVE (argW epoch 1)
/-- The retreat. -/
def Chip.retreatNow (b : Chip) : Chip :=
  match b.sea.retreat with
  | none => b
  | some cause =>
    let b0 := b.modSea (fun x => { x with retreat := none })
    if b.role ≠ 3 then b0
    else
      let b1 := if b0.r Reg.SEA_PAIR_EPOCH < b0.r Reg.SEA_PEER_EPOCH then b0.setEpoch (b0.r Reg.SEA_PEER_EPOCH) else b0
      let b2 := if b1.sea.hand.isSome then
          Chip.cmdFinish (Chip.modSea { b1 with gap := false } (fun x => { x with hand := none })) cbSEA ABORTED []
        else b1
      (b2.toStandby 3 cause).inc Reg.SEA_RETREATS

/-- The partner is seen ACTIVE at an epoch, with an EUI-64: what an ACTIVE device does. -/
def Chip.peerActive (b : Chip) (epoch eui cause : Nat) (fresh : Bool) : Chip :=
  let own := b.r Reg.SEA_PAIR_EPOCH
  if own < epoch ∨ (own = epoch ∧ eui < b.ownEui) then b.retreatDue cause epoch
  else if fresh then b.raise Src.SEA N.DUAL_ACTIVE (argW epoch 0)
  else b

/-- A LISTEN device is shown an ACTIVE partner (R476). -/
def Chip.hearActive (b : Chip) : Chip :=
  if b.role = 1 ∧ b.pairKey.isSome then b.modSea (fun x => { x with toStandby := true }) else b

/-- A pair beacon heard (R278, R475, R485). -/
def Chip.pairHeardAct (b : Chip) : Chip :=
  match b.sch.pairHeard with
  | none => b
  | some (e, act) =>
    let b0 : Chip := { b with sch := { b.sch with pairHeard := none } }
    if !b0.seamOn then b0
    else
      let b1 := b0.learnEpoch e
      let own := b1.r Reg.SEA_PAIR_EPOCH
      let b2 := if e < own then b1.modSea (fun x => { x with lowAge := some 0 }) else b1
      if !act then b2
      else
        let b3 := if own ≤ e then b2.modSea (fun x => { x with beaconAge := some 0 }) else b2
        if b3.role = 1 then b3.hearActive
        else if b3.role = 3 then b3.peerActive e (if b3.t Reg.SEA_PAIRED then b3.peerEui else 2 ^ 64) 7 false
        else b3

/-- CLAIM_IN takes a new level (R472, R476, R485). -/
def Chip.claimIn (b : Chip) (level : Bool) : Chip :=
  let b1 := b.wb Reg.SEA_CLAIM_IN level
  if !level || b.t Reg.SEA_CLAIM_IN || !b1.seamOn then b1
  else if b1.role = 1 then b1.hearActive
  else if b1.role = 3 ∧ ¬ within8 b1.sea.lowAge then b1.retreatDue 5 (b1.r Reg.SEA_PEER_EPOCH)
  else b1

/-! ### Starts and stops (R476, R90, R120) -/

/-- The device goes to LISTEN: READY (cause 0) or LIMP exit (cause 9); a SINGLE one is SINGLE from READY on. -/
def Chip.seaListen (b : Chip) (cause : Nat) : Chip :=
  if !b.twin then b.w Reg.SEA_ROLE 0
  else (b.setRole 1 cause).modSea (fun x =>
    { x with listen := some (b.r Reg.SEA_LISTEN_STITCHES), hello := x.hello || (b.t Reg.SEA_AUTO_PAIR && b.t Reg.SEA_BLOCK_LOCK) })

/-- SAFE or LIMP entry: OUT, the claim wire released, STBY_REC set; commands in progress end ABORTED. -/
def Chip.seaOut (b : Chip) : Chip :=
  let b1 := b.setStby true
  if b1.role = 0 ∨ b1.role = 4 then b1
  else
    let b2 := b1.leaveActive.setRole 4 8
    let b3 := Chip.modSea { b2 with gap := false } (fun x =>
      { x with hand := none, listen := none, pairLeft := none, hello := false, toStandby := false })
    if b3.t (cbBUSY cbSEA) then b3.cmdFinish cbSEA ABORTED [] else b3

/-- PAIR_KEY_MISSING, once while no pair pocket is valid (R477). -/
def Chip.keyMissing (b : Chip) : Chip :=
  if b.pairKey.isSome then b.modSea (fun x => { x with keyMissing := false })
  else if b.sea.keyMissing then b
  else (b.modSea (fun x => { x with keyMissing := true })).raise Src.SEA N.PAIR_KEY_MISSING 0

/-- The listen timer expires (R476). -/
def Chip.listenEnd (b : Chip) : Chip :=
  if b.sea.listen ≠ some 0 ∨ b.role ≠ 1 ∨ ¬ b.seamOn then b
  else
    let b1 := (b.modSea (fun x => { x with listen := none })).keyMissing
    if b1.claimOk 1 then b1.claimStart 1 false else b1.raise Src.SEA N.PARTNER_ABSENT 0

/-! ### The stitch (R473, R477, R482) -/

/-- SSYNC of the ended stitch (R473). -/
def Chip.skewStitch (b : Chip) : Chip :=
  match b.sea.edge with
  | some _ => b.modSea (fun x => { x with edge := none })
  | none => (b.w Reg.SEA_SKEW_NS 0x80000000).modSea (fun x => { x with above := 0, within := if x.within < 16 then 0 else 16 })

/-- The partner's pulse (R473). -/
def Chip.skewEdge (b : Chip) (skew : Int) : Chip :=
  if !b.seamOn || b.sea.edge.isSome then b
  else
    let b1 := (b.ws Reg.SEA_SKEW_NS skew).modSea (fun x => { x with edge := some skew })
    if b1.r Reg.SEA_SKEW_LIMIT_NS < skew.natAbs then
      let b2 := b1.modSea (fun x => { x with above := min 16 (x.above + 1), within := if x.within < 16 then 0 else 16 })
      if b2.sea.above = 16 ∧ b2.sea.within = 16 then
        ((b2.modSea (fun x => { x with within := 0 })).inc Reg.SEA_SKEW_ALARMS).raise Src.SEA N.SKEW_ALARM (argW 0 (ofS skew 32))
      else b2
    else b1.modSea (fun x => { x with above := 0, within := min 16 (x.within + 1) })

/-- A sequence number has been reached. -/
def seqReached (applied m : Nat) : Bool := decide ((applied + (2 ^ 32 - m % 2 ^ 32)) % 2 ^ 32 < 2 ^ 31)

/-- LAG (R479): the age of the oldest count of the sender's heartbeats that the receiver has not reached. -/
def Chip.lagShow (b : Chip) (applied : Nat) : Chip :=
  let l := b.sea.marks.filter (fun m => !seqReached applied m.1)
  let lag := (l.map (·.2)).foldl max 0
  (b.modSea (fun x => { x with marks := l })).w Reg.SEA_LAG (min 255 lag)

/-- A STANDBY judges its lag (R479, R480). -/
def Chip.lagTest (b : Chip) : Chip :=
  if !b.isStandby then b
  else if b.sea.ended && decide (b.r Reg.SEA_LAG ≤ 4) then (b.modSea (fun x => { x with ended := false })).setMirror 2
  else if b.r Reg.SEA_MIRROR = 2 ∧ 4 < b.r Reg.SEA_LAG then b.setMirror 3
  else b

/-- Missed stitches and ages at a boundary (R482). -/
def Chip.seaAges (b : Chip) : Chip :=
  let up := fun (a : Option Nat) => a.map (· + 1)
  let b1 := if b.sea.hb then b.w Reg.SEA_MISS_RUN 0 else (b.w Reg.SEA_MISS_RUN (min 15 (b.r Reg.SEA_MISS_RUN + 1))).inc Reg.SEA_HB_MISSED
  b1.modSea (fun x => { x with
    hb := false, okRun := if x.hb then min 8 (x.okRun + 1) else 0,
    actAge := up x.actAge, lowAge := up x.lowAge, beaconAge := up x.beaconAge,
    listen := x.listen.map (· - 1), pairLeft := x.pairLeft.map (· - 1), retry := x.retry.map (fun r => (r.1 - 1, r.2)),
    waiting := x.waiting.map (fun (f : SeamF) => { f with age := f.age + 1 }), marks := x.marks.map (fun m => (m.1, m.2 + 1)) })

/-- HELLO and HEARTBEAT at a boundary (R477, R482). -/
def Chip.seaSend (b : Chip) : Chip :=
  if !b.t Reg.SEA_BLOCK_LOCK then b
  else
    let b0 := if b.sea.hello || b.role == 1 then b.keyMissing else b
    if b0.pairKey.isNone then b0
    else
      let b1 := (b0.seamOne 2 b0.beatBody).inc Reg.SEA_HB_SENT
      if b1.sea.hello && (b1.t Reg.SEA_AUTO_PAIR || b1.sea.pairLeft.isSome) then b1.helloOut else b1

/-- PAIR gives up after 40 stitches (R489). -/
def Chip.pairTimeout (b : Chip) : Chip :=
  if b.sea.pairLeft = some 0 then
    Chip.cmdFinish (b.modSea (fun x => { x with pairLeft := none, hello := b.t Reg.SEA_AUTO_PAIR && !b.t Reg.SEA_PAIRED })) cbSEA ABORTED []
  else b

/-- SEA at a stitch boundary. -/
def Chip.seaStitch (b : Chip) : Chip :=
  if !b.seamOn || b.role == 4 then b
  else
    let b1 := b.seaAges.skewStitch.pairTimeout
    let b2 := if b1.role = 1 ∧ (b1.sea.toStandby ∨ b1.t Reg.SEA_CLAIM_IN) ∧ b1.pairKey.isSome ∧ b1.sea.claim.isNone then b1.toStandby 0 10 else b1
    let b3 := b2.retreatNow
    let b4 := b3.lagShow (if b3.isStandby then b3.r Reg.SEA_MIRROR_SEQ else (b3.sea.peer.map (fun (p : Beat) => p.seq)).getD (b3.r Reg.SEA_MIRROR_SEQ))
    let b5 := if b4.role = 3 ∧ b4.sea.snapOk then b4.modSea (fun x => { x with marks := x.marks ++ [(b4.r Reg.SEA_MIRROR_SEQ, 0)] }) else b4
    b5.lagTest.claimTest.seaSend

end Sys2Proof.Machine
end

