-- ==== Sys2Proof/Machine/Hooks.lean ====
section
/-!
DEFINITION. What follows in other blocks inside the same step: the effects of a discontinuity (R265, R441, R585), of a pair beacon
heard (R278, R485), and of a ceiling committed (R340, R479).
-/
namespace Sys2Proof.Machine

/-- The effects of a discontinuity on SCH, TMG and KEY. -/
def Chip.jumpAct (b : Chip) : Chip :=
  match b.tim.jump with
  | none => b
  | some (before, cause, us) =>
    let b0 : Chip := { b with tim := { b.tim with jump := none } }
    let b1 := b0.schJump before cause us
    let b2 := [0, 1, 2].foldl Chip.gateJump b1
    if cause = 2 ∨ cause = 3 then b2.retireShift ((b2.tim.stitch : Int) - before) else b2

/-- What a step leaves to the other blocks is done. -/
def Chip.settle (b : Chip) : Chip := b.jumpAct.pairHeardAct.ceilSend

/-- What time does while no command waits (log entry 1). -/
def Chip.idleStep (b : Chip) : Chip := b.idle.settle

end Sys2Proof.Machine
end

