-- ==== Sys2Proof/Machine/Clock.lean ====
section
/-!
DEFINITION. CKR: sources, qualification, banks and PLLs, switches, LIMP, reset groups and event crossings (R101 to R129).
-/
namespace Sys2Proof.Machine

/-! ### An activation that ends (R504, R507, R510) -/

/-- ACTIVATE ends with a code: its counters, LAST_RESULT, ACTIVATED, and the command's completion. -/
def Chip.actEnd (b : Chip) (code boundary us : Nat) (results : List Nat) : Chip :=
  let b1 : Chip := (b.w Reg.UPD_PHASE 0).w Reg.UPD_LAST_RESULT code
  let b2 := b1.inc (if code = OK then Reg.UPD_ACTIVATIONS else Reg.UPD_ACT_FAIL)
  let b3 := b2.raise Src.UPD N.ACTIVATED (argW boundary (us / 10 % 65536 + code * 65536 + b2.r Reg.UPD_CUR_BANK * 2 ^ 24))
  Chip.cmdFinish { b3 with upd := {} } cbUPD code results
/-- SAFE entry, LIMP entry and a thermal trip end an activation in STAGING or WAITING (R504). -/
def Chip.actAbort (b : Chip) : Chip :=
  if b.r Reg.UPD_PHASE = 2 ∨ b.r Reg.UPD_PHASE = 3 then b.actEnd ABORTED 0 0 [] else b

/-! ### Sources (R101, R104, R106) -/

/-- The register fields of a source: 1 XO, 2 TCXO, 3 LF. -/
def qstFld (s : Nat) : Fld := if s = 1 then Reg.CKR_XO_QST else if s = 2 then Reg.CKR_TCXO_QST else Reg.CKR_LF_QST
def enFld (s : Nat) : Fld := if s = 1 then Reg.CKR_XO_EN else if s = 2 then Reg.CKR_TCXO_EN else Reg.CKR_LF_EN
def failFld (s : Nat) : Fld := if s = 1 then Reg.CKR_XO_FAIL else if s = 2 then Reg.CKR_TCXO_FAIL else Reg.CKR_LF_FAIL
def Chip.qst (b : Chip) (s : Nat) : Nat := b.r (qstFld s)
/-- Qualified, with or without FINE; the RC always is. -/
def Chip.srcOk (b : Chip) (s : Nat) : Bool := s == 0 || (b.t (enFld s) && (b.qst s == 4 || b.qst s == 5))
/-- The first source of the chain TCXO, XO, RC that is qualified and is not the main source, whatever PIN_SRC names: the rules do not say what a
pin does at a choice of a source (DESIGN CHOICE, log entry 73). -/
def Chip.nextSrc (b : Chip) : Nat := ([2, 1].find? (fun s => b.srcOk s && b.r Reg.CKR_MAIN_SRC != s)).getD 0
def Chip.modClk (b : Chip) (f : Clk → Clk) : Chip := { b with clk := f b.clk }
/-- The last count of a source, of either kind (R126). -/
def Chip.lastCount (b : Chip) (s : Nat) : Nat := kgetD b.clk.last s 0
/-- A COARSE count of a source is kept for QUAL_COARSE, a FINE one for QUAL_FINE (R127). -/
def Chip.coarseKeep (b : Chip) (s count : Nat) : Chip :=
  b.modClk (fun k => { k with coarse := kput k.coarse s (count % 2 ^ 21), last := kput k.last s (count % 2 ^ 21) })
def Chip.fineKeep (b : Chip) (s count : Nat) : Chip :=
  b.modClk (fun k => { k with fine := kput k.fine s (count % 2 ^ 21), last := kput k.last s (count % 2 ^ 21) })

/-- The PLLs of a bank. -/
def plaFld (bank : Nat) : Fld := if bank = 0 then Reg.CKR_A0_LOCK else Reg.CKR_A1_LOCK
def pltFld (bank : Nat) : Fld := if bank = 0 then Reg.CKR_T0_LOCK else Reg.CKR_T1_LOCK
def Chip.idleBank (b : Chip) : Nat := 1 - b.r Reg.CKR_ACTIVE_BANK
/-- The source of a bank. -/
def Chip.bankSrc (b : Chip) (bank : Nat) : Nat := b.r (if bank = b.r Reg.CKR_ACTIVE_BANK then Reg.CKR_MAIN_SRC else Reg.CKR_IDLE_SRC)
/-- The idle bank is locked to its source; PLL_T is never referenced to the RC (R103). -/
def Chip.idleLocked (b : Chip) : Bool :=
  b.t (plaFld b.idleBank) && (b.r Reg.CKR_IDLE_SRC == 0 || b.t (pltFld b.idleBank))
/-- The idle bank is given a source; a change of it loses lock (R103, R104). -/
def Chip.idleTo (b : Chip) (s : Nat) : Chip :=
  if b.r Reg.CKR_IDLE_SRC = s then b
  else ((b.w Reg.CKR_IDLE_SRC s).wb (plaFld b.idleBank) false).wb (pltFld b.idleBank) false
/-- The idle bank follows the chain, unless a switch waits on it. -/
def Chip.relock (b : Chip) : Chip := if b.clk.sw.isSome then b else b.idleTo b.nextSrc

/-! ### LIMP (R110, R119, R120) -/

/-- A domain or side, by its code of R128, runs: a domain by DOMAIN_STATE; LIMP holds the Ethernet and Seam sides (R119); of the sides DOZE
leaves AON alone (R511). -/
def Chip.domainRuns (b : Chip) (d : Nat) : Bool :=
  if d < 5 then bits (b.r Reg.CKR_DOMAIN_STATE) (2 * d) 2 == 0
  else if b.r Reg.PWR_PSTATE = 4 then d == 5
  else !(b.limp && (d == 6 || d == 7 || d == 8))
def xingDst (id : Nat) : Nat := (Config.crossingInfo id).2.1
/-- The crossing carries a value by hold-and-flag (R125, R127). -/
def xingHold (id : Nat) : Bool := (Config.crossingInfo id).2.2.2 == 1
/-- What waits at a crossing crosses: its events, or the latest value. -/
def Xing.deliver (x : Xing) (hold : Bool) : Xing :=
  { x with pend := false, fly := false, got := if hold && x.fly then some (if x.pend then x.next else x.held) else x.got }
/-- What is held for domains that run again is delivered (R124, R125). -/
def Chip.xingDeliver (b : Chip) : Chip :=
  b.modClk (fun k => { k with xing := k.xing.map (fun e => (e.1, if b.domainRuns (xingDst e.1) then e.2.deliver (xingHold e.1) else e.2)) })
/-- DOMAIN_STATE takes a value, and what is held for the domains that run with it is delivered (R33, R124). -/
def Chip.domains (b : Chip) (v : Nat) : Chip := (b.w Reg.CKR_DOMAIN_STATE v).xingDeliver

/-- RC_EST as measured against a qualified source (R102). -/
def Chip.rcMeasured (b : Chip) (hz : Option Nat) : Chip :=
  match hz with
  | some n => if [1, 2, 3].any (fun s => b.qst s == 4 || b.qst s == 5) then b.w Reg.CKR_RC_EST n else b
  | none => b

/-- Both Ethernet ports are held down, or released (R119). -/
def Chip.ethHold (b : Chip) (p : Nat) (held : Bool) : Chip :=
  let b1 := b.wb (Reg.ETH_HELD p) held
  if held then (b1.wb (Reg.ETH_LINK p) false).wb (Reg.ETH_AN_DONE p) false else b1

/-- DSP, MAC and TIME held. -/
def limpDomains : Nat := 0x150
def Chip.limpEnter (b : Chip) (src : Nat) : Chip :=
  let b1 := ((b.wb Reg.CKR_LIMP true).wb Reg.CKR_LIMP_SEEN true).inc Reg.CKR_LIMP_CNT
  let b2 := (b1.domains limpDomains).raise Src.CKR N.LIMP_ENTER (argB src 0 0 0 0)
  let b3 := if b.ready then ((b2.muteAll 1).campAbort.actAbort).seaOut else b2
  ((b3.ethHold 0 true).ethHold 1 true).wb Reg.SEA_BLOCK_LOCK false |>.wb Reg.SEA_PAIRED false

/-- Network time starts, or resumes with a discontinuity (R120, R130). -/
def Chip.timeResume (b : Chip) (cause : Nat) : Chip :=
  if b.tim.started then b.discont cause 0 0 else { b with tim := { b.tim with started := true } }

/-- The device leaves LIMP for a crystal source (R112, R120); `ms` is the time it was in LIMP. Inside a DOZE exit nothing is raised, and
network time is advanced by the exit itself (R512). -/
def Chip.limpLeave (b : Chip) (src ms : Nat) : Chip :=
  if b.r Reg.PWR_PSTATE = 4 then (b.wb Reg.CKR_LIMP false).domains 0 else
  let b1 := ((b.wb Reg.CKR_LIMP false).domains 0).raise Src.CKR N.LIMP_EXIT (argB src 0 0 0 ms)
  let b2 := b1.timeResume 1
  let b3 := if b.safe then b2.ethHold 0 false else if b.ready then (b2.ethHold 0 false).ethHold 1 false else b2
  if b.ready then
    let b4 := b3.unmuteAll
    if b4.role = 4 ∧ b4.twin then b4.seaListen 9 else b4
  else b3

/-- The domains run from the RC, with PLL_A alone, in LIMP: as at the start of a DOZE exit and where SAFE ends DOZE (R103, R104, R119, R512). A
crystal that is enabled is qualified from its start. -/
def Chip.rcClocks (b : Chip) : Chip :=
  let b1 := ((b.w Reg.CKR_MAIN_SRC 0).wb Reg.CKR_LIMP true).w Reg.CKR_IDLE_SRC 0
  let b2 := [0, 1].foldl (fun (c : Chip) k => (c.wb (plaFld k) (k == c.r Reg.CKR_ACTIVE_BANK)).wb (pltFld k) false) b1
  let b3 := [1, 2].foldl (fun (c : Chip) s => if c.t (enFld s) then c.w (qstFld s) 1 else c) b2
  (b3.modClk (fun k => { k with sw := none })).domains limpDomains

/-! ### Switches (R113 to R118) -/

/-- The time that the TIME domain loses in an orderly switch: 6 ticks, in 2^-16 ns (R114). -/
def switchLost : Int := 24 * 65536
/-- The idle bank becomes active. From the RC a crystal that has qualified meanwhile is the next target (R107, R112). -/
def Chip.switchNow (b : Chip) (forced : Bool) (ms : Nat) : Chip :=
  let old := b.r Reg.CKR_MAIN_SRC
  let new := b.r Reg.CKR_IDLE_SRC
  let b1 := ((b.w Reg.CKR_MAIN_SRC new).w Reg.CKR_ACTIVE_BANK b.idleBank).modClk (fun k => { k with sw := none })
  let b2 := if forced then (b1.inc Reg.CKR_FORCED_CNT).wb Reg.CKR_FORCED true else b1.inc Reg.CKR_SWITCH_CNT
  let b3 := if old = new then b2 else b2.raise Src.CKR N.CLK_SWITCH (argB old new (b2n forced) 0 0)
  let b4 := if b3.r Reg.CKR_PIN_SRC = new then b3.overrideEnd 3 0x10000 else b3
  let b5 := (b4.w Reg.CKR_IDLE_SRC old).relock
  if new = 0 then
    let b6 := if b5.limp then b5.domains limpDomains else b5.limpEnter old
    let n := b6.nextSrc
    if n = 0 then b6 else b6.modClk (fun k => { k with sw := some (n, false) })
  else if b5.limp then b5.limpLeave new ms
  else if forced then ((b5.domains 0).timeResume 0).refSwitchAll
  else ((b5.domains 0).heldTime switchLost).refSwitchAll

/-- A switch to a source: at once where the idle bank is locked to it, else when it locks (R113, R116); a forced switch that waits stays
forced (R118). -/
def Chip.switchTo (b : Chip) (target : Nat) (forced : Bool) (ms : Nat) : Chip :=
  let f := forced || b.clk.sw.any (fun x => x.2)
  let b1 := b.idleTo target
  if b1.idleLocked then b1.switchNow f ms
  else
    let b2 := b1.modClk (fun k => { k with sw := some (target, f) })
    if f then b2.domains 0x155 else b2

/-- What follows a change of the qualified sources: a main source that is no longer usable is left by an orderly switch (R108, R129), a switch
that waits for a source no longer usable turns to the next one (R107), and otherwise the idle bank follows the chain. -/
def Chip.reselect (b : Chip) (ms : Nat) : Chip :=
  match b.clk.sw with
  | some (t, f) =>
    let main := b.r Reg.CKR_MAIN_SRC
    if b.srcOk t then b
    else if ¬ f ∧ ((main ≠ 0 ∧ b.srcOk main) ∨ b.nextSrc = main) then (b.modClk (fun k => { k with sw := none })).relock
    else b.switchTo b.nextSrc f ms
  | none => if b.srcOk (b.r Reg.CKR_MAIN_SRC) then b.relock else b.switchTo b.nextSrc false ms

/-- A source is marked FAILED (R106, R126). -/
def Chip.srcFail (b : Chip) (s cause : Nat) : Chip :=
  ((b.w (qstFld s) 6).wb (failFld s) true).raise Src.CKR N.SRC_FAILED (argB s cause 0 0 (b.lastCount s))

/-- A trip of the clock monitor (R110, R111, R118): cause 3 STOPPED, 4 FREQ, 5 UNLOCK. -/
def Chip.clkTrip (b : Chip) (cause ms : Nat) : Chip :=
  let main := b.r Reg.CKR_MAIN_SRC
  let forced := cause != 4 || b.clk.sw.isSome
  let b1 := if main = 0 then b else b.srcFail main cause
  let target := b1.nextSrc
  let b2 := if main ≠ 0 ∧ b1.r Reg.CKR_PIN_SRC = main then b1.override Src.CKR 3 0x10000 target (some Reg.CKR_CLAMP_CNT) else b1
  b2.switchTo target forced ms
/-- A forced switch that ends on the bank which has been active all along: the domains restart there, with the lost time of TIME unknown (R117,
R118). -/
def Chip.forcedBack (b : Chip) : Chip :=
  let b1 := ((b.modClk (fun k => { k with sw := none })).inc Reg.CKR_FORCED_CNT).wb Reg.CKR_FORCED true
  if b1.limp then b1 else b1.timeResume 0
/-- The bank that a switch waits for loses lock: the new source fails, and the switch is a forced one, to whichever bank is still locked to a
qualified source (R118): the present one where its source has not failed, from which the next crystal is then tried (R107, R112), else the next
source of the chain (log entry 98). -/
def Chip.newFails (b : Chip) (t : Nat) (forced : Bool) : Chip :=
  let b1 := if t = 0 then b else b.srcFail t 5
  let main := b1.r Reg.CKR_MAIN_SRC
  if forced ∨ ¬ b1.srcOk main then b1.switchTo b1.nextSrc true 0
  else
    let b2 := b1.forcedBack
    if main = 0 ∧ b2.nextSrc ≠ 0 then b2.switchTo b2.nextSrc false 0 else b2.relock

/-- A crystal source has qualified (R104, R107, R112). -/
def Chip.srcGood (b : Chip) (s : Nat) (fine : Bool) (ms : Nat) : Chip :=
  let b1 := (b.w (qstFld s) (if fine then 4 else 5)).raise Src.CKR N.SRC_QUALIFIED (argB s (b2n fine) 0 0 (b.lastCount s))
  if s = 3 then b1.w Reg.CKR_AON_SRC 0
  else if b1.r Reg.CKR_MAIN_SRC = 0 then (if b1.clk.sw.any (fun x => x.1 != 0) then b1 else b1.switchTo s false ms)
  else b1.relock

/-! ### Qualification (R106, R108) -/

/-- The other crystal source a FINE check runs against: the other of TCXO and XO, or the main crystal for LF. -/
def Chip.fineRef (b : Chip) (s : Nat) : Nat := if s = 3 then b.r Reg.CKR_MAIN_SRC else 3 - s
/-- The COARSE count lies within E ± 3 %. -/
def Chip.coarseOk (b : Chip) (s count : Nat) : Bool :=
  let rc := b.r Reg.CKR_RC_EST
  if s = 3 then decide (100 * dist (count * 32768) (1024 * rc) ≤ 3 * 1024 * rc)
  else decide (100 * dist (count * rc) (1024 * 40000000) ≤ 3 * 1024 * 40000000)
/-- The FINE count lies within its window. -/
def fineOk (s count : Nat) : Bool :=
  if s = 3 then decide (1249750 ≤ count ∧ count ≤ 1250250) else decide (65523 ≤ count ∧ count ≤ 65549)

def Chip.ampGood (b : Chip) (s : Nat) : Chip := if b.t (enFld s) ∧ b.qst s = 1 then b.w (qstFld s) 2 else b
def Chip.ampFail (b : Chip) (s : Nat) : Chip := if b.t (enFld s) ∧ b.qst s = 1 then b.srcFail s 0 else b
/-- 10 ms after a failure (R106). -/
def Chip.qualAgain (b : Chip) (s : Nat) : Chip := if b.t (enFld s) ∧ b.qst s = 6 then b.w (qstFld s) 1 else b
def Chip.coarseDone (b : Chip) (s count ms : Nat) : Chip :=
  if !b.t (enFld s) || b.qst s != 2 then b
  else
    let b1 := b.coarseKeep s count
    if !b1.coarseOk s count then b1.srcFail s 1
    else if b1.fineRef s ≠ 0 ∧ b1.srcOk (b1.fineRef s) then b1.w (qstFld s) 3
    else b1.srcGood s false ms
/-- The XO's FINE count against the TCXO, as CLK_DISAGREE reports it: the count itself where the XO was measured; a free value where the TCXO
was, since the XO's own is then not taken (log entry 72). -/
def Chip.disagree (b : Chip) (s count : Nat) : Chip :=
  let r := if s = 1 then (count, b) else b.free 21
  (r.2.wb Reg.CKR_DISAGREE true).raise Src.CKR N.CLK_DISAGREE (argW 0 r.1)
/-- A FINE count; where TCXO and XO disagree the TCXO is trusted, and counts as qualified without FINE (R108, log entry 72). -/
def Chip.fineDone (b : Chip) (s count ms : Nat) : Chip :=
  if !b.t (enFld s) || b.qst s != 3 then b
  else
    let b1 := b.fineKeep s count
    if fineOk s count then b1.srcGood s true ms
    else if s = 3 then b1.srcFail 3 2
    else
      let b2 := (b1.srcFail 1 2).disagree s count
      (if s = 2 then b2.srcGood 2 false ms else b2).reselect ms

/-! ### The monitor's events -/

/-- The rows act on a main source that runs. -/
def Chip.clkStopped (b : Chip) : Chip := if b.r Reg.CKR_MAIN_SRC = 0 then b else b.clkTrip 3 0
def Chip.clkFreq (b : Chip) (count ms : Nat) : Chip :=
  let s := b.r Reg.CKR_MAIN_SRC
  if s = 0 then b
  else
    let b1 := b.coarseKeep s count
    if b1.coarseOk s count then b1 else b1.clkTrip 4 ms
/-- A PLL by the bit of 0x0001_0020 that shows its lock. -/
def pllFld (pll : Nat) : Fld := match pll with
  | 0 => Reg.CKR_A0_LOCK
  | 1 => Reg.CKR_T0_LOCK
  | 2 => Reg.CKR_A1_LOCK
  | _ => Reg.CKR_T1_LOCK
def Chip.pllLost (b : Chip) (pll : Nat) : Chip :=
  if 3 < pll ∨ ¬ b.t (pllFld pll) then b
  else
    let b1 := b.wb (pllFld pll) false
    if pll / 2 = b.r Reg.CKR_ACTIVE_BANK then b1.clkTrip 5 0
    else match b1.clk.sw with
      | some (t, f) => b1.newFails t f
      | none => b1
def Chip.pllGot (b : Chip) (pll ms : Nat) : Chip :=
  if 3 < pll ∨ b.t (pllFld pll) ∨ (pll % 2 = 1 ∧ b.bankSrc (pll / 2) = 0) then b
  else
    let b1 := b.wb (pllFld pll) true
    match b1.clk.sw with
    | some (t, forced) => if t = b1.r Reg.CKR_IDLE_SRC ∧ b1.idleLocked then b1.switchNow forced ms else b1
    | none => b1
/-- The TCXO has stayed qualified for RETURN_HOLD_MS (R112). -/
def Chip.tcxoBack (b : Chip) : Chip :=
  if b.r Reg.CKR_MAIN_SRC = 1 ∧ b.srcOk 2 ∧ b.clk.sw.isNone ∧ (b.t Reg.CKR_RETURN_AUTO ∨ b.r Reg.CKR_PIN_SRC = 2) then b.switchTo 2 false 0 else b

/-! ### Register writes (R127, R129) -/

/-- A source's enable bit is written: its qualification starts, or the source is off. -/
def Chip.srcSet (b : Chip) (s : Nat) (en : Bool) : Chip :=
  if b.t (enFld s) = en then b
  else
    let b1 := (b.wb (enFld s) en).w (qstFld s) (if en then 1 else 0)
    if s = 3 ∧ ¬ en then b1.w Reg.CKR_AON_SRC 1 else b1
/-- A source is enabled or disabled, and the domains leave one that is off (R129). -/
def Chip.srcEn (b : Chip) (s : Nat) (en : Bool) : Chip := if b.t (enFld s) = en then b else (b.srcSet s en).reselect 0
/-- PIN_SRC is written: an override of the pin it ends is over (R37, R111). Naming a qualified source moves nothing by itself (log entry 73). -/
def Chip.pinSet (b : Chip) (v : Nat) : Chip :=
  (if b.r Reg.CKR_PIN_SRC = v then b else b.overrideEnd 3 0x10000).w Reg.CKR_PIN_SRC v
/-- SRC_CTRL (R127): the reserved PIN_SRC encoding discards the write (R583); every enable bit is taken before a source is chosen (R129). -/
def Chip.srcCtrl (b : Chip) (v : Nat) : Chip :=
  if bits v 4 2 = 3 then b
  else if (bit v 1 && b.parked 0x1C) || (bit v 2 && b.parked 0x1D) then b.structReject 0x10000
  else
    let b1 := (b.pinSet (bits v 4 2)).wb Reg.CKR_RETURN_AUTO (bit v 8)
    let b2 := ((b1.srcSet 3 (bit v 2)).srcSet 1 (bit v 1)).srcSet 2 (bit v 0)
    if bit v 0 = b.t Reg.CKR_TCXO_EN ∧ bit v 1 = b.t Reg.CKR_XO_EN then b2 else b2.reselect 0

/-- Counters return to zero, the published ones with them (R122). -/
def Chip.zeroCnt (b : Chip) (l : List Fld) : Chip :=
  l.foldl (fun c f => let d := c.w f 0; { d with bank := kdel d.bank f.key }) b
/-- The counters of an Ethernet port and of the Seam. -/
def ethCounters (p : Nat) : List Fld :=
  [Reg.ETH_RX_FRAMES p, Reg.ETH_RX_OCTETS p, Reg.ETH_RX_FCS_ERR p, Reg.ETH_RX_TOO_LONG p, Reg.ETH_RX_CTRL p, Reg.ETH_RX_NO_BUF p,
   Reg.ETH_TX_FRAMES p, Reg.ETH_TX_OCTETS p, Reg.ETH_SAFE_DISCARD p]
def seaCounters : List Fld :=
  [Reg.SEA_HB_SENT, Reg.SEA_HB_MISSED, Reg.SEA_TAG_FAIL, Reg.SEA_RETRANSMIT, Reg.SEA_REC_SENT, Reg.SEA_REC_APPLIED, Reg.SEA_BULK_PASSES,
   Reg.SEA_CLAIMS, Reg.SEA_CLAIMS_LOST, Reg.SEA_RETREATS, Reg.SEA_HANDOVERS, Reg.SEA_STBY_RX_DROP, Reg.SEA_STBY_DL_DROP, Reg.SEA_STALE_CNT,
   Reg.SEA_SKEW_ALARMS]
/-- The crossings of a side are reset from both ends: events in flight are discarded, and their counters return to zero (R33, R122). -/
def Chip.xingDrop (b : Chip) (side : Nat) : Chip :=
  b.modClk (fun k => { k with xing := k.xing.map (fun e =>
    (e.1, if (Config.crossingInfo e.1).1 = side ∨ xingDst e.1 = side then ({} : Xing) else e.2)) })
/-- A reset of a group: 0 ETH0, 1 ETH1, 2 SEAM, 3 UART. -/
def Chip.groupReset (b : Chip) (g : Nat) : Chip :=
  match g with
  | 0 | 1 =>
    let b1 := ((b.zeroCnt (ethCounters g)).wb (Reg.ETH_LINK g) false).wb (Reg.ETH_AN_DONE g) false
    b1.xingDrop (6 + g)
  | 2 =>
    let b1 := ((b.zeroCnt seaCounters).wb Reg.SEA_BLOCK_LOCK false).wb Reg.SEA_PAIRED false
    (b1.modSea (fun x => { x with pass := none, waiting := [] })).xingDrop 8
  | _ => { b.zeroCnt [Reg.HIF_UART_DROP] with ntc := { b.ntc with uartLines := 0 } }
/-- GROUP_RESET: a group still BUSY is not reset again (R129). -/
def Chip.groupResets (b : Chip) (v : Nat) : Chip :=
  let l := (List.range 4).filter (fun g => bit v g && !bit (b.r Reg.CKR_GRP_BUSY) g)
  l.foldl (fun c g => (c.groupReset g).w Reg.CKR_GRP_BUSY (setBit (c.r Reg.CKR_GRP_BUSY) g)) b

/-- An event at a crossing (R123): in flight, pending, or lost. -/
def Chip.xingPut (b : Chip) (id : Nat) (x : Xing) : Chip := b.modClk (fun k => { k with xing := kput k.xing id x })
def Chip.xingLose (b : Chip) (id : Nat) (x : Xing) : Chip :=
  let n := satAdd 16 x.lost 1
  let b1 := b.xingPut id { x with ovr := true, lost := n }
  if x.ovr then b1 else (b1.wb Reg.CKR_XING_OVR true).raise Src.CKR N.XING_OVERRUN (argB id 0 0 0 n)
/-- A value at a hold-and-flag crossing: held until it has crossed, and the latest one waits (R125). -/
def Xing.write (x : Xing) (v : Nat) : Xing := if x.fly then { x with pend := true, next := v } else { x with fly := true, held := v }
/-- An event, or a value, arrives at a crossing: it crosses where the destination runs, and is held where it does not (R123 to R125). -/
def Chip.xingEvent (b : Chip) (id v : Nat) : Chip :=
  let x := kgetD b.clk.xing id {}
  let run := b.domainRuns (xingDst id)
  if Config.crossingCount ≤ id then b
  else if xingHold id then b.xingPut id (if run then { x with got := some v } else x.write v)
  else if run then b
  else if !x.fly then b.xingPut id { x with fly := true }
  else if !x.pend then b.xingPut id { x with pend := true }
  else b.xingLose id x

/-! ### The rows -/

/-- A source code that names a crystal source. -/
def crystal (s : Nat) : Bool := s == 1 || s == 2 || s == 3

/-- AMPLITUDE_GOOD (R106). -/
def execAmplitudeGood (src : Nat) (s : State) : Host.Outcome State Fault Refusal := s.on (fun b => if crystal src then b.ampGood src else b)
/-- AMPLITUDE_FAIL (R106). -/
def execAmplitudeFail (src : Nat) (s : State) : Host.Outcome State Fault Refusal := s.on (fun b => if crystal src then b.ampFail src else b)
/-- QUAL_RETRY (R106). -/
def execQualRetry (src : Nat) (s : State) : Host.Outcome State Fault Refusal := s.on (fun b => if crystal src then b.qualAgain src else b)
/-- QUAL_COARSE_DONE (R106). -/
def execQualCoarseDone (src count ms : Nat) (s : State) : Host.Outcome State Fault Refusal :=
  s.on (fun b => if crystal src then (b.coarseDone src count ms).settle else b)
/-- QUAL_FINE_DONE (R106, R108). -/
def execQualFineDone (src count ms : Nat) (s : State) : Host.Outcome State Fault Refusal :=
  s.on (fun b => if crystal src then (b.fineDone src count ms).settle else b)
/-- CLOCK_STOPPED (R109). -/
def execClockStopped (s : State) : Host.Outcome State Fault Refusal := s.on (fun b => b.clkStopped.settle)
/-- FREQ_CHECK (R109). -/
def execFreqCheck (count ms : Nat) (s : State) : Host.Outcome State Fault Refusal := s.on (fun b => (b.clkFreq count ms).settle)
/-- PLL_UNLOCK (R109). -/
def execPllUnlock (pll : Nat) (s : State) : Host.Outcome State Fault Refusal := s.on (fun b => (b.pllLost pll).settle)
/-- PLL_LOCK (R103, R113, R116). -/
def execPllLock (pll ms : Nat) (s : State) : Host.Outcome State Fault Refusal := s.on (fun b => (b.pllGot pll ms).settle)
/-- TCXO_RETURN (R112). -/
def execTcxoReturn (s : State) : Host.Outcome State Fault Refusal := s.on (fun b => b.tcxoBack.settle)
/-- SRC_CTRL_WRITE (R127, R129). -/
def execSrcCtrlWrite (value : Word) (s : State) : Host.Outcome State Fault Refusal :=
  s.on (fun b => (b.gated 1 (fun c => c.srcCtrl value.toNat)).settle)
/-- GROUP_RESET (R122, R129). -/
def execGroupReset (value : Word) (s : State) : Host.Outcome State Fault Refusal :=
  s.on (fun b => b.gated 1 (fun c => c.groupResets value.toNat))
/-- GROUP_RESET_RELEASE (R122). -/
def execGroupResetRelease (grp : Nat) (s : State) : Host.Outcome State Fault Refusal :=
  s.on (fun b => b.w Reg.CKR_GRP_BUSY (clrBit (b.r Reg.CKR_GRP_BUSY) grp))
end Sys2Proof.Machine
end

