-- ==== Sys2Proof/Machine/Limits.lean ====
section
/-!
DEFINITION. What bounds a register write beyond the range of its own field: the Pattern's structure (R70, R71, R72, R560), the
relations between fields (R12, R262), and the reset values that the Pattern fixes.
-/
namespace Sys2Proof.Machine

/-- TX_OFFSET and ACK_OFFSET stand in their ranges (R262). -/
def Chip.offsetsOk (b : Chip) (tx ack : Nat) : Bool :=
  decide (b.slotUs / 4 + 100 ≤ tx ∧ tx + 400 ≤ ack ∧ ack + 300 ≤ b.slotUs)

/-- Enable bits of the channels of a lane that lie in word `w` (R197, R198). -/
def Chip.detMask (b : Chip) (l w : Nat) : Nat :=
  if b.laneExists l then 2 ^ min 32 (b.laneChans l - 32 * w) - 1 else 0

/-- A field's index among `n` of a stride from an offset; none when the offset is not one of them. -/
def idxAt (off base stride n : Nat) : Option Nat :=
  if base ≤ off ∧ (off - base) % stride = 0 ∧ (off - base) / stride < n then some ((off - base) / stride) else none

/-- The reset value of a field under the loaded Pattern. -/
def Chip.rstOf (b : Chip) (f : Fld) : Nat :=
  let p := b.pat
  let one := fun (i : Option Nat) (t : Nat → Bool) => match i with
    | some l => b2n (t l)
    | none => f.rst
  if f.off = 0xA0104 then p.maxPsdu
  else if f.off / 256 = 0xA02 ∧ f.off % 0x20 = 0 ∧ f.lo = 0 then one (idxAt f.off 0xA0200 0x20 7) b.laneExists
  else if f.off / 256 = 0xA04 then
    (if (f.off - 0xA0400) / 16 < 7 then b.detMask ((f.off - 0xA0400) / 16) ((f.off - 0xA0400) % 16 / 4) else f.rst)
  else if f.off / 256 = 0xC01 ∧ f.off % 0x40 = 0 ∧ f.lo = 0 then one (idxAt f.off 0xC0100 0x40 4) b.chainExists
  else if f.off / 256 = 0xC01 ∧ f.off % 0x40 = 0 ∧ f.lo = 8 then
    one (idxAt f.off 0xC0100 0x40 4) (fun c => c == 0 || p.region == 1 || p.region == 2 || p.region == 5)
  else if f.off = 0x120100 then b.slotUs / 4 + 100
  else if f.off = 0x120104 then 4 * b.slotUs / 5
  else if f.off = 0x12010C then b.slotUs / 4
  else if f.off = 0x120138 then b.slotUs / 2 + 200
  else if f.off = 0x180114 then p.exmEntries
  else f.rst

/-- A field's value would exceed the structure (R71, R72, R560). -/
def Chip.exceeds (b : Chip) (f : Fld) (v : Nat) : Bool :=
  let p := b.pat
  let q := decide (p.queueCount ≤ v)
  let off := f.off
  match off / 0x10000 with
  | 1 => off == 0x10000 && ((f.lo == 1 && v == 1 && b.parked 0x1C) || (f.lo == 2 && v == 1 && b.parked 0x1D))
  | 3 => match idxAt (off / 0x40 * 0x40) 0x30000 0x40 64 with
    | some n => !b.t (Reg.TMR_HOST_OWNED n)
    | none => false
  | 8 => match idxAt off 0x80400 0x10 3 with
    | some s => f.lo == 0 && v == 1 && b.parked (0x14 + s)
    | none => false
  | 9 => off == 0x90000 && f.lo == 0 && v == 1 && b.parked 0x1B
  | 0xA =>
    if off = 0xA0104 then decide (p.maxPsdu < v)
    else if off = 0xA0110 then
      decide ((if f.lo = 0 then p.demodL else if f.lo = 8 then p.demodM else p.demodH) + p.demodFloat < v)
    else if off / 256 = 0xA02 ∧ off % 0x20 = 0 then f.lo == 0 && v == 1 && !b.laneExists ((off - 0xA0200) / 0x20)
    else if off / 256 = 0xA02 ∧ off % 0x20 = 0xC then q
    else if off / 256 = 0xA04 then v != 0 && !b.laneExists ((off - 0xA0400) / 0x10)
    else false
  | 0xC => off / 256 == 0xC01 && off % 0x40 == 0 && f.lo == 0 && v == 1 && !b.chainExists ((off - 0xC0100) / 0x40)
  | 0x12 => off == 0x12012C && f.lo != 12 && !b.modeOn (if f.lo = 0 then 0 else if f.lo = 8 then 1 else 2) v
  | 0x18 => if off = 0x180104 ∨ off = 0x180108 then q else if off = 0x180114 then decide (p.exmEntries < v) else false
  | 0x20 => if off = 0x200088 then q else off == 0x200140 && f.lo == 0 && v == 1 && b.parked 2
  | 0 => match idxAt off 0x400 4 64 with
    | some i => b.parked i
    | none => false
  | _ => false

/-- The present or the written value of a field of the written word. -/
def Chip.after (b : Chip) (off v : Nat) (f : Fld) : Nat := if f.off = off then bits v f.lo f.w else b.r f

/-- Seven lane codes, each once, lowest place first (R525). -/
def shedOk (v : Nat) : Bool := (List.range 7).all (fun l => (List.range 7).any (fun i => bits v (4 * i) 4 == l))

/-- A write of a word breaks a relation between fields, or a bound that another value sets (R12, R583). -/
def Chip.breaks (b : Chip) (off v : Nat) : Bool :=
  let a := b.after off v
  match off / 0x10000 with
  | 1 => off == 0x10044 && decide (Config.crossingCount ≤ v % 256)
  | 3 => (idxAt off 0x30000 0x40 64).isSome && decide (20 < bits v 6 5 ∨ 20 < bits v 11 5)
  | 2 => off == 0x20124 && (!shedOk v || b.r Reg.PWR_SHED_LANES != 0)
  | 0xA =>
    if off = 0xA0104 then decide (v % 2 ^ 11 < 127)
    else match idxAt off 0xA0204 0x20 7 with
      | some l => decide (a (Reg.RXP_GAIN_MAX l) < a (Reg.RXP_GAIN_MIN l))
      | none => false
  | 0xC => match idxAt off 0xC0100 0x40 4 with
    | some c => a (Reg.TXP_SHAPE_SEL c) == 3
    | none => false
  | 0x10 => (off == 0x10010C && decide (a Reg.MAC_MAX_BE < a Reg.MAC_MIN_BE)) ||
      (off == 0x10011C && decide (a Reg.MAC_UP_MARGIN < a Reg.MAC_DOWN_MARGIN))
  | 0x12 =>
    if off = 0x120100 ∨ off = 0x120104 then !b.offsetsOk (a Reg.SCH_TX_OFFSET_US) (a Reg.SCH_ACK_OFFSET_US)
    else if off = 0x120108 ∨ off = 0x12010C then
      decide (a Reg.SCH_GUARD_BOUND_US < a Reg.SCH_G0_US ∨ b.slotUs / 4 < a Reg.SCH_GUARD_BOUND_US)
    else if off = 0x120134 ∨ off = 0x120138 then decide (b.slotUs < v % 2 ^ 17 + 1000)
    else false
  | 0x14 => off == 0x14010C && (v % 4096 != 0 || decide (0xFFFFE000 < v % 2 ^ 32))
  | 0x26 => off == 0x260104 && decide (b.pat.maxPsdu < a Reg.SVC_FRAG_PSDU_L ∨ b.pat.maxPsdu < a Reg.SVC_FRAG_PSDU_M)
  | 5 => off == 0x50008 && bit v 1 && b.safe
  | _ => false

/-- A value lies in the field's own stated range (R583). -/
def Fld.allows (f : Fld) (v : Nat) : Bool := match f.lim with
  | none => true
  | some (lo, hi) => let i : Int := if f.sgn then toS v f.w else (v : Int); decide (lo ≤ i ∧ i ≤ hi)

/-! ### Settings that exceed a new structure (R70) -/

/-- The run-time settings that the structure bounds. -/
def boundFlds : List Fld :=
  [Reg.CKR_XO_EN, Reg.CKR_LF_EN, Reg.WUR_EN, Reg.RXP_PSDU_LIMIT, Reg.RXP_MIN_FREE_SCHED_L, Reg.RXP_MIN_FREE_SCHED_M,
   Reg.RXP_MIN_FREE_SCHED_H, Reg.SCH_BEACON_MODE_L, Reg.SCH_BEACON_MODE_M, Reg.SCH_BEACON_MODE_H, Reg.FWD_MISS_QUEUE,
   Reg.FWD_LEARN_QUEUE0, Reg.FWD_LEARN_QUEUE1, Reg.FWD_LEARN_LIMIT, Reg.ETH_ETH_OTHER_Q, Reg.ETH_PTP_Q, Reg.ETH_EN 1] ++
  (List.range 3).map Reg.RFC_CX_EN ++ (List.range 4).map Reg.TXP_TX_EN ++
  (List.range 7).flatMap (fun l =>
    [Reg.RXP_LANE_EN l, Reg.RXP_RX_QUEUE l, Reg.RXP_DET_EN0 l, Reg.RXP_DET_EN1 l, Reg.RXP_DET_EN2 l, Reg.RXP_DET_EN3 l]) ++
  (List.range 64).flatMap (fun n =>
    [Reg.TMR_MODE n, Reg.TMR_CAP_EN n, Reg.TMR_CAP_WHAT n, Reg.TMR_CLK n, Reg.TMR_EVT_SRC n, Reg.TMR_CAP_SRC n, Reg.TMR_CAP_EDGE n,
     Reg.TMR_FILT_N n, Reg.TMR_PRESC n, Reg.TMR_COMPARE n, Reg.TMR_INTERVAL n, Reg.TMR_END n, Reg.TMR_START n, Reg.TMR_INT_EN n])

/-- The slot settings whose bounds follow the slot length. -/
def Chip.slotBad (b : Chip) (f : Fld) : Bool :=
  if f.off = 0x120100 ∨ f.off = 0x120104 then !b.offsetsOk (b.r Reg.SCH_TX_OFFSET_US) (b.r Reg.SCH_ACK_OFFSET_US)
  else if f.off = 0x12010C then decide (b.slotUs / 4 < b.r f)
  else if f.off = 0x120134 ∨ f.off = 0x120138 then decide (b.slotUs < b.r f + 1000)
  else if f.off / 256 = 0xA04 then andNot (b.r f) (b.rstOf f) != 0
  else decide (b.pat.maxPsdu < b.r f)
def slotFlds : List Fld :=
  [Reg.SCH_TX_OFFSET_US, Reg.SCH_ACK_OFFSET_US, Reg.SCH_GUARD_BOUND_US, Reg.SCH_PAIR_OFF0_US, Reg.SCH_PAIR_OFF1_US, Reg.SVC_FRAG_PSDU_L,
   Reg.SVC_FRAG_PSDU_M]

/-- The detector enables: their bits for channels that the plan no longer has are beyond it. -/
def detFlds : List Fld := (List.range 7).flatMap (fun l => [Reg.RXP_DET_EN0 l, Reg.RXP_DET_EN1 l, Reg.RXP_DET_EN2 l, Reg.RXP_DET_EN3 l])

/-- The base of the block that a field belongs to (R530). -/
def blockBase (off : Nat) : Nat :=
  let p := off / 0x10000
  if [0xB, 0xD, 0x11, 0x13, 0x1D, 0x1F, 0x21].contains p then (p - 1) * 0x10000
  else if p = 0x19 ∨ p = 0x1A ∨ p = 0x1B then 0x180000
  else p * 0x10000

/-- Return to reset what exceeds the structure now loaded, with one SETTING_RESET for each block (R70). A timer channel that is not host-owned
neither runs nor has compare armed for host software (R54). -/
def Chip.resetOver (b : Chip) : Chip :=
  let bad := (boundFlds.filter (fun f => b.exceeds f (b.r f) && b.r f != b.rstOf f)) ++ slotFlds.filter b.slotBad ++
    detFlds.filter (fun f => b.slotBad f && !b.exceeds f (b.r f))
  let lost := (List.range 64).filter (fun n => !b.t (Reg.TMR_HOST_OWNED n))
  let b0 := lost.foldl (fun (c : Chip) n => (c.wb (Reg.TMR_RUNNING n) false).wb (Reg.TMR_CMP_ARMED n) false) b
  let b1 := bad.foldl (fun (c : Chip) f => c.w f (b.rstOf f)) b0
  let blocks := bad.foldl (fun (l : List (Nat × Nat)) f => kset 0 l (blockBase f.off) (kgetD l (blockBase f.off) 0 + 1)) []
  blocks.foldl (fun (c : Chip) e => c.raise Src.GLB N.SETTING_RESET (argW e.1 e.2)) b1

/-- The registers that a Pattern's load sets to the values it fixes, at a start. -/
def Chip.loadDefaults (b : Chip) : Chip :=
  let fs := [Reg.RXP_PSDU_LIMIT, Reg.SCH_TX_OFFSET_US, Reg.SCH_ACK_OFFSET_US, Reg.SCH_GUARD_BOUND_US, Reg.SCH_PAIR_OFF1_US,
      Reg.FWD_LEARN_LIMIT] ++ (List.range 4).flatMap (fun c => [Reg.TXP_TX_EN c, Reg.TXP_MASK_SEL c]) ++
    (List.range 7).flatMap (fun l => [Reg.RXP_LANE_EN l, Reg.RXP_DET_EN0 l, Reg.RXP_DET_EN1 l, Reg.RXP_DET_EN2 l, Reg.RXP_DET_EN3 l])
  fs.foldl (fun (c : Chip) f => c.w f (b.rstOf f)) b

end Sys2Proof.Machine
end

