-- ==== Sys2Proof/Machine/Pattern.lean ====
section
/-!
DEFINITION. The Pattern: its layout (R40 to R61), its validation (R64), and the structure it fixes.
-/
namespace Sys2Proof.Machine

/-- Where a Pattern fails (R64, R65): the step, the status code, a section TYPE and an octet offset. -/
structure PatBad where
  step : Nat
  code : Nat
  type : Nat := 0
  off : Nat := 0
  deriving DecidableEq, Repr

/-- The lowest offset whose check fails. -/
def firstBad (l : List (Nat × Bool)) : Option Nat :=
  l.foldl (fun a e => if e.2 then a else match a with
    | none => some e.1
    | some o => some (min o e.1)) none

/-- A field within a range, and a multiple of a unit. -/
def inRange (lo hi unit v : Nat) : Bool := decide (lo ≤ v ∧ v ≤ hi) && v % unit == 0

/-- The directory entry of a type (R41): OFFSET and LENGTH. -/
def dirAt (p : List Nat) (i : Nat) : Nat × Nat := (fldLE p (64 + 16 * i + 4) 4, fldLE p (64 + 16 * i + 8) 4)

/-- A section's octets; the i-th entry holds type i + 1 once step 6 has passed (R42). -/
def section_ (p : List Nat) (type : Nat) : List Nat := slice p (dirAt p (type - 1)).1 (dirAt p (type - 1)).2

/-- Step 6 of R64: the header's reserved octets and the directory, each check with the offset of its field. -/
def dirChecks (p : List Nat) (body : Nat) : List (Nat × Bool) :=
  [(12, fldLE p 12 2 == 12), (15, p.getD 15 0 == 0), (48, allZero (slice p 48 16))] ++
  (List.range 12).flatMap (fun i =>
    let e := 64 + 16 * i
    let d := dirAt p i
    let apart := (List.range i).all (fun j =>
      decide (d.1 + d.2 ≤ (dirAt p j).1 ∨ (dirAt p j).1 + (dirAt p j).2 ≤ d.1))
    [(e, fldLE p e 2 == i + 1), (e + 2, fldLE p (e + 2) 2 == 0),
     (e + 4, d.1 % 8 == 0 && decide (256 ≤ d.1 ∧ d.1 < body) && apart),
     (e + 8, d.2 != 0 && decide (d.1 + d.2 ≤ body)), (e + 12, allZero (slice p (e + 12) 4))])

def up8 (n : Nat) : Nat := cdiv n 8 * 8

/-- The length of a section (R42). -/
def sectLen (p : List Nat) (type : Nat) : Nat := match type with
  | 1 => 64
  | 2 => 8
  | 3 => 8
  | 4 => 16
  | 5 => 32
  | 6 => 32
  | 7 => 8
  | 8 => up8 (4 + 8 * fldLE (section_ p 8) 0 2 + 2 * fldLE (section_ p 7) 0 2)
  | 9 => 8
  | 10 => up8 (4 + 4 * fldLE (section_ p 10) 0 2)
  | 11 => 8
  | _ => 16

/-- Step 8 of R64: the fields and relations of one section (R45 to R58), each check with its offset. Which field of a relation of two is the
first failing one, R65 does not say: the list's order and offsets are the model's (DESIGN CHOICE, log entry 84). The pad octets that round
TRAFFIC and PINS up to a multiple of 8 are not checked (DESIGN CHOICE, log entry 86). -/
def sectChecks (type : Nat) (s : List Nat) : List (Nat × Bool) := match type with
  | 1 => [(0, decide (s.getD 0 0 ≤ 5)), (1, decide (s.getD 1 0 < 0x80)), (2, decide (s.getD 2 0 < 0x10)), (3, decide (s.getD 3 0 < 2)),
      (4, allZero (slice s 4 4)), (24, andNot (fldLE s 24 2) 0x103 == 0), (26, andNot (fldLE s 26 2) 0x17F == 0),
      (28, andNot (fldLE s 28 2) 1 == 0), (30, inRange 127 2047 1 (fldLE s 30 2)), (32, allZero (slice s 32 32))]
  | 3 => [(0, inRange 8 400 1 (fldLE s 0 2)), (2, inRange 4 14 1 (s.getD 2 0)), (3, s.getD 3 0 == 0),
      (4, inRange 16384 1048576 16384 (fldLE s 4 4))]
  | 4 => [(0, inRange 1 131072 1 (fldLE s 0 4)), (4, inRange 256 16384 256 (fldLE s 4 4)),
      (8, inRange 2048 65536 2048 (fldLE s 8 4)), (12, allZero (slice s 12 4))]
  | 6 => [(0, inRange 2048 524288 2048 (fldLE s 0 4)), (4, inRange 0 65536 2048 (fldLE s 4 4)),
      (8, decide (fldLE s 8 17 < 2 ^ 129) && (fldLE s 4 4 != 0 || fldLE s 8 17 == 0)), (25, allZero (slice s 25 7))]
  | 7 => [(0, inRange 1 8192 1 (fldLE s 0 2)), (2, inRange 1 256 1 (fldLE s 2 2) && fldLE s 0 2 % fldLE s 2 2 == 0),
      (4, inRange 0 256 1 (fldLE s 4 4))]
  | 8 => [(0, inRange 0 8192 1 (fldLE s 0 2)), (2, allZero (slice s 2 2))] ++
      (List.range (fldLE s 0 2)).flatMap (fun i =>
        let o := 4 + 8 * i
        [(o + 4, decide (s.getD (o + 4) 0 ≤ 2)), (o + 5, inRange 1 4 1 (s.getD (o + 5) 0)), (o + 6, allZero (slice s (o + 6) 2))])
  | 10 => [(0, inRange 0 512 1 (fldLE s 0 2)), (2, allZero (slice s 2 2))] ++
      (List.range (fldLE s 0 2)).flatMap (fun i =>
        let o := 4 + 4 * i
        [(o, padIds.contains (fldLE s o 2) && !(List.range i).any (fun j => fldLE s (4 + 4 * j) 2 == fldLE s o 2)),
         (o + 2, decide (s.getD (o + 2) 0 ≤ 2)), (o + 3, s.getD (o + 3) 0 == 0)])
  | 11 => [(0, decide (fldLE s 0 4 < 32) && (andN (fldLE s 0 4) 6 == 0 || bit (fldLE s 0 4) 0)),
      (4, inRange 0 1024 1 (fldLE s 4 4) && (fldLE s 4 4 == 0) == !bit (fldLE s 0 4) 3)]
  | 12 => [(0, decide (s.getD 0 0 ≤ 2)), (1, allZero (slice s 1 3)), (12, allZero (slice s 12 4))]
  | _ => []

/-- The structure that the octets of a Pattern give (R40 to R58). -/
def readPat (p : List Nat) : Pat :=
  let r := section_ p 1
  let q := section_ p 7
  let t := section_ p 8
  let sn := fldLE t 0 2
  let pn := section_ p 10
  let w : List Nat → Nat → Nat := fun s o => fldLE s o 2
  { patternId := fldLE p 16 8, patternVer := fldLE p 24 4, hash := sha256 (p.take (fldLE p 8 4))
    region := r.getD 0 0, lanes := r.getD 1 0, chains := r.getD 2 0, mSpacing := r.getD 3 0
    mCentre := (List.range 4).map (fun i => fldLE r (8 + 4 * i) 4)
    modesL := w r 24, modesM := w r 26, modesH := w r 28, maxPsdu := w r 30
    demodL := w (section_ p 2) 0, demodM := w (section_ p 2) 2, demodH := w (section_ p 2) 4, demodFloat := w (section_ p 2) 6
    slotStitches := w (section_ p 3) 0, sfExp := (section_ p 3).getD 2 0, weaveCells := fldLE (section_ p 3) 4 4
    nodeCount := fldLE (section_ p 4) 0 4, ctxCache := fldLE (section_ p 4) 4 4, keyCache := fldLE (section_ p 4) 8 4
    sram := (List.range 16).map (fun c => w (section_ p 5) (2 * c))
    exmEntries := fldLE (section_ p 6) 0 4, lpmPrefixes := fldLE (section_ p 6) 4 4, lenMap := fldLE (section_ p 6) 8 17
    queueCount := w q 0, queueGroups := w q 2, spillMib := fldLE q 4 4
    sched := (List.range sn).map (fun i => ⟨w t (4 + 8 * i), w t (6 + 8 * i), t.getD (8 + 8 * i) 0, t.getD (9 + 8 * i) 0⟩)
    qParent := (List.range (w q 0)).map (fun i => w t (4 + 8 * sn + 2 * i))
    hostOwned := fldLE (section_ p 9) 0 8
    pins := (List.range (w pn 0)).map (fun i => (w pn (4 + 4 * i), pn.getD (6 + 4 * i) 0))
    svcMask := fldLE (section_ p 11) 0 4, imageMib := fldLE (section_ p 11) 4 4
    roleCfg := (section_ p 12).getD 0 0, pairId := fldLE (section_ p 12) 4 8 }

/-- The REGION band in kHz (R45). -/
def regionKhz (r : Nat) : Nat × Nat := match r with
  | 1 => (863000, 870000)
  | 2 => (865000, 868000)
  | 3 => (902000, 928000)
  | 4 => (915000, 928000)
  | 5 => (920000, 928000)
  | _ => (0, 0)

/-- A band has an enabled lane. -/
def Pat.bandLane (s : Pat) (d : Nat) : Bool :=
  if d = 0 then bit s.lanes 0 else if d = 1 then bits s.lanes 1 4 != 0 else bits s.lanes 5 2 != 0

/-- The granules a class needs by its size (R61); none where the size does not fix them. -/
def Pat.granules (s : Pat) (c : Nat) : Option Nat := match c with
  | 0 => some (s.exmEntries / 2048)
  | 1 => some (s.lpmPrefixes / 2048)
  | 2 => some (if s.lpmPrefixes = 0 then 0 else 1)
  | 3 => some (cdiv s.queueCount 32)
  | 4 => some (s.ctxCache / 256)
  | 5 => some 16
  | 6 => some (s.weaveCells / 16384)
  | 7 => some (s.keyCache / 2048)
  | 9 => some (cdiv (s.queueCount + s.sched.length) 2048)
  | 8 => none
  | 15 => none
  | _ => some 0

/-- The rules of R430 for a record and for a queue's parent. -/
def Pat.schedOk (s : Pat) (i : Nat) (x : SchedNode) : Bool :=
  decide (x.id < s.sched.length) && !(s.sched.take i).any (fun y => y.id == x.id) &&
  (if x.parent = 0xFFFF then x.level == 1 && !(s.sched.take i).any (fun y => y.parent == 0xFFFF && y.port == x.port)
   else s.sched.any (fun y => y.id == x.parent && y.port == x.port && x.level == y.level + 1))

/-- Functions a pin group offers (R559). -/
def Pat.pinOk (s : Pat) (e : Nat × Nat) : Bool := match e.2 with
  | 0 => true
  | 1 => !([1, 6, 9].contains e.1) && (!([3, 4].contains e.1) || s.roleCfg == 0)
  | _ => [9, 0x10, 0x11, 0x12, 0x13, 0x14, 0x15, 0x16, 0x18, 0x19, 0x1C, 0x1D].contains e.1

/-- The modes of Band M that need 400 kHz (R201). -/
def wideModes : Nat := 0x5C

/-- Step 9 of R64, in its order, with the TYPE and offset of R65. -/
def Pat.cross (s : Pat) : Option (Nat × Nat) :=
  let demod := [s.demodL, s.demodM, s.demodH]
  let a : List (Nat × Nat × Bool) :=
    [(2, 0, demod.sum + s.demodFloat == 256 && (List.range 3).all (fun d => decide (0 < demod.getD d 0) == s.bandLane d))]
  let spans := (List.range 4).map (fun n =>
    let c := s.mCentre.getD n 0
    (1, 8 + 4 * n, !bit s.lanes (n + 1) || (s.region != 0 && decide ((regionKhz s.region).1 + 12800 ≤ c ∧ c + 12800 ≤ (regionKhz s.region).2))))
  let modes := [(1, 24, s.modesL == 0 || s.bandLane 0),
    (1, 26, (s.modesM == 0 || s.bandLane 1) && (s.mSpacing == 1 || andN s.modesM wideModes == 0)),
    (1, 28, s.modesH == 0 || s.bandLane 2)]
  let sum := [(5, 0, s.sram.sum == 768)]
  let classes := (List.range 16).map (fun c => (5, 2 * c, match s.granules c with
    | some n => s.sram.getD c 0 == n
    | none => c != 8 || inRange 64 256 1 (s.sram.getD 8 0)))
  let recs := (List.range s.sched.length).map (fun i => (8, 4 + 8 * i, match s.sched[i]? with
    | some x => s.schedOk i x
    | none => true))
  let parents := (List.range s.qParent.length).map (fun q => (8, 4 + 8 * s.sched.length + 2 * q,
    s.qParent.getD q 0 == 0xFFFF || s.sched.any (fun y => y.id == s.qParent.getD q 0)))
  let rest := [(6, 8, decide (popCount s.lenMap 129 ≤ 24)), (9, 0, decide (popCount s.hostOwned 64 ≤ 60))]
  let pins := (List.range s.pins.length).map (fun i => (10, 4 + 4 * i, s.pinOk (s.pins.getD i (0, 0))))
  ((a ++ spans ++ modes ++ sum ++ classes ++ recs ++ parents ++ rest ++ pins).find? (fun e => !e.2.2)).map (fun e => (e.1, e.2.1))

/-- The granules that the DOZE image copies (R62, R513). -/
def Pat.dozeGranules (s : Pat) : Nat :=
  s.sram.getD 0 0 + s.sram.getD 1 0 + s.sram.getD 3 0 + s.sram.getD 8 0 + s.sram.getD 6 0 + s.sram.getD 9 0

/-- The DRAM a Pattern needs, in MiB (R62). -/
def Pat.dramMib (s : Pat) : Nat := 64 + 32 + s.spillMib + s.imageMib + cdiv s.dozeGranules 16

/-- The owner key of a signature block (R43): its octets, and the test of step 4 (R367: an empty table passes). -/
def ownerKey (p : List Nat) (total : Nat) : List Nat := slice p (total - 128) 64
def ownerOk (owners : List (List Nat)) (key : List Nat) : Bool := owners.isEmpty || owners.contains (sha256 key)

/-- The signature of a block of `total` octets verifies (R43). -/
def sigOk (p : List Nat) (total : Nat) : Bool :=
  ecdsaOk (ownerKey p total) (sha256 (p.take (total - 128))) (slice p (total - 64) 64)

/-- R64 steps 1 to 10 on a Pattern that an area or a buffer of `room` octets holds. -/
def checkPat (owners : List (List Nat)) (dramMib room : Nat) (p : List Nat) : Sum PatBad Pat :=
  let total := fldLE p 8 4
  let body := total - 128
  if fldLE p 0 4 ≠ 0x4B595054 then .inl ⟨1, BAD_ARG, 0, 0⟩
  else if total < 4096 ∨ 262144 < total ∨ room < total then .inl ⟨2, BAD_LENGTH, 0, 8⟩
  else match firstBad [(4, fldLE p 4 2 == 2), (6, fldLE p 6 2 == 0x40), (14, p.getD 14 0 == 0xC0)] with
  | some o => .inl ⟨3, VERSION_MISMATCH, 0, o⟩
  | none =>
    if !ownerOk owners (ownerKey p total) then .inl ⟨4, KEY_INVALID, 0, 0⟩
    else if !sigOk p total then .inl ⟨5, AUTH_FAIL, 0, 0⟩
    else match firstBad (dirChecks p body) with
    | some o => .inl ⟨6, BAD_ARG, 0, o⟩
    | none =>
      match ((List.range 12).map (· + 1)).find? (fun t => (section_ p t).length != sectLen p t) with
      | some t => .inl ⟨7, BAD_LENGTH, t, 0⟩
      | none =>
        let bad := ((List.range 12).map (· + 1)).filterMap (fun t => (firstBad (sectChecks t (section_ p t))).map (fun o => (t, o)))
        match bad.head? with
        | some e => .inl ⟨8, BAD_ARG, e.1, e.2⟩
        | none =>
          match (readPat p).cross with
          | some e => .inl ⟨9, BAD_ARG, e.1, e.2⟩
          | none => if dramMib < (readPat p).dramMib then .inl ⟨10, NO_RESOURCE, 0, 0⟩ else .inr (readPat p)

/-- PATTERN_REJECT (R65): `copy` is 0 A, 1 B, 2 the supplied buffer. An offset above 65,535 overflows octets 14-15, and what is above is lost
(DESIGN CHOICE, log entry 85). -/
def Chip.patReject (b : Chip) (copy : Nat) (x : PatBad) : Chip :=
  b.raise Src.UPD N.PATTERN_REJECT (argB copy x.step x.code 0 (x.type + x.off * 2 ^ 16))

/-- The registers that show the loaded Pattern (R73), and what else it fixes at its load: pin functions (R562), timer ownership (R54)
and the default detector and MAX_PSDU settings. -/
def Chip.patShow (b : Chip) (copy : Nat) : Chip :=
  let p := b.pat
  let b1 := (((b.w Reg.GLB_PATTERN_ID_LO p.patternId).w Reg.GLB_PATTERN_ID_HI (p.patternId / 2 ^ 32)).w Reg.GLB_PATTERN_VER p.patternVer).w
    Reg.GLB_PATTERN_COPY copy
  let b2 := (List.range 8).foldl (fun (c : Chip) i => c.w (Reg.GLB_PATTERN_HASH i) (fldLE p.hash (4 * i) 4)) b1
  let b3 := padIds.foldl (fun (c : Chip) i => c.w (Reg.GLB_FUNC i) (((p.pins.find? (fun e => e.1 == i)).map (·.2)).getD 0)) b2
  (List.range 64).foldl (fun (c : Chip) n => c.wb (Reg.TMR_HOST_OWNED n) (bit p.hostOwned n)) b3

end Sys2Proof.Machine
end

