-- ==== Sys2Proof/Machine/Banks.lean ====
section
/-!
DEFINITION. Banks, manifests, settings records and the set record (R493 to R500).
-/
namespace Sys2Proof.Machine

def Chip.modNv (b : Chip) (f : Mram → Mram) : Chip := { b with nv := f b.nv }
/-- A parked crystal group has no source: its enable bit reads 0 (R560). -/
def Chip.parkSources (b : Chip) : Chip :=
  let b1 := if b.parked 0x1C then b.srcEn 1 false else b
  if b1.parked 0x1D then b1.srcEn 3 false else b1
def Chip.modUpd (b : Chip) (f : Upd → Upd) : Chip := { b with upd := f b.upd }

/-! ### Banks and copies -/

def Mram.bank (m : Mram) (n : Nat) : BankArea := if n = 0 then m.bank0 else m.bank1
def Mram.copy (m : Mram) (n : Nat) : CopyArea := if n = 0 then m.copyA else m.copyB
def Mram.putBank (m : Mram) (n : Nat) (x : BankArea) : Mram := if n = 0 then { m with bank0 := x } else { m with bank1 := x }
/-- Octets 0 to 43 of a copy record (R66). -/
def CopyArea.head (c : CopyArea) : List Nat :=
  [c.st, 0, 0, 0] ++ leBytes c.ver 4 ++ (c.hash ++ List.replicate 32 0).take 32 ++ leBytes c.gen 4
/-- The commit word closes the record. -/
def CopyArea.commit (c : CopyArea) : CopyArea := { c with crc := crc32 c.head }
def CopyArea.committed (c : CopyArea) : Bool := c.crc == crc32 c.head
/-- An area is written, then its record is committed. -/
def Mram.putCopy (m : Mram) (n : Nat) (x : CopyArea) : Mram :=
  if n = 0 then { m with copyA := x.commit } else { m with copyB := x.commit }
/-- The records as a start finds them: an uncommitted one is EMPTY (R66). -/
def Mram.judged (m : Mram) : Mram :=
  let f := fun (c : CopyArea) => if c.committed then c else ({ gen := c.gen } : CopyArea)
  { m with copyA := f m.copyA, copyB := f m.copyB }
def Mram.otherBank (m : Mram) : Nat := 1 - m.curBank
def Mram.otherCopy (m : Mram) : Nat := 1 - m.curCopy
/-- A bank or a copy is marked. -/
def Mram.markBank (m : Mram) (n st : Nat) : Mram := m.putBank n { m.bank n with st := st }
def Mram.markCopy (m : Mram) (n st : Nat) : Mram := m.putCopy n { m.copy n with st := st, gen := (m.copy n).gen + 1 }

/-- BANK_MIB: the flash less the 16 MiB of the settings store, halved (R493). -/
def Chip.bankMib (b : Chip) : Nat := (b.boot.flashMib - 16) / 2

/-! ### The manifest (R495 to R497) -/

/-- A part entry (R496). -/
structure PartEnt where
  type : Nat
  index : Nat
  setVer : Nat
  ver : Nat
  off : Nat
  len : Nat
  hash : List Nat
  deriving DecidableEq, Repr

def manLen (m : List Nat) : Nat := fldLE m 8 4
def manVer (m : List Nat) : Nat := fldLE m 12 4
def manCount (m : List Nat) : Nat := m.getD 16 0
def manPart (m : List Nat) (i : Nat) : PartEnt :=
  let e := 64 + 48 * i
  ⟨m.getD e 0, m.getD (e + 1) 0, fldLE m (e + 2) 2, fldLE m (e + 4) 4, fldLE m (e + 8) 4, fldLE m (e + 12) 4, slice m (e + 16) 32⟩
def manParts (m : List Nat) : List PartEnt := (List.range (manCount m)).map (manPart m)
/-- The part of a type and index. -/
def manFind (m : List Nat) (type index : Nat) : Option PartEnt :=
  (manParts m).find? (fun p => p.type == type && p.index == index)
/-- The Pattern hash that a manifest names (R44). -/
def manPattern (m : List Nat) : List Nat := ((manFind m 1 0).map (·.hash)).getD []
/-- The octets of a part in a bundle. -/
def partData (bundle : List Nat) (p : PartEnt) : List Nat := slice bundle p.off p.len

/-- The MANIFEST_VER of a bank whose manifest MRAM holds. -/
def Mram.ver (m : Mram) (n : Nat) : Nat := manVer (m.bank n).manifest

/-- An entry is right: a part of R497 in its place in the order, aligned, inside the bundle, apart from those before it. -/
def entryOk (m : List Nat) (i : Nat) : Bool :=
  let p := manPart m i
  let known := match p.type with
    | 1 | 3 | 4 | 5 => p.index == 0
    | 2 => decide (p.index ≤ 7)
    | 6 => decide (p.index ≤ 4)
    | _ => false
  let after := i == 0 || decide ((manPart m (i - 1)).type * 256 + (manPart m (i - 1)).index < p.type * 256 + p.index)
  let apart := (List.range i).all (fun j => let q := manPart m j; decide (q.off + q.len ≤ p.off ∨ p.off + p.len ≤ q.off))
  known && after && p.off % 4096 == 0 && decide (manLen m ≤ p.off ∧ p.off + p.len ≤ fldLE m 20 4) && p.len != 0 && apart
/-- Every required part is there (R497). -/
def partsAll (m : List Nat) : Bool :=
  [(1, 0), (3, 0), (4, 0), (5, 0)].all (fun e => (manFind m e.1 e.2).isSome) && (List.range 8).all (fun i => (manFind m 2 i).isSome)

/-- KEY_SCHEMA: its version, 1 to 4 owners, three reserved octets and the hashes (R497). -/
def schemaOk (s : List Nat) : Bool :=
  decide (1 ≤ s.getD 4 0 ∧ s.getD 4 0 ≤ 4) && allZero (slice s 5 3) && s.length == 8 + 32 * s.getD 4 0
def schemaOwners (s : List Nat) : List (List Nat) := (List.range (s.getD 4 0)).map (fun i => slice s (8 + 32 * i) 32)
/-- The owner table of the set in a bank. -/
def Mram.bankOwners (m : Mram) (n : Nat) : List (List Nat) :=
  match manFind (m.bank n).manifest 5 0 with
  | some p => schemaOwners (partData (m.bank n).data p)
  | none => []

/-- A verification that fails: step, code, and the part entry, 0xFF for none (R498). -/
structure VerBad where
  step : Nat
  code : Nat
  entry : Nat := 0xFF
  deriving DecidableEq, Repr

/-- Steps 1 to 6 and 8 of R498 on a bundle; `size` is the octets received, `cur` the version that step 7 refuses. -/
def verifySet (owners : List (List Nat)) (size : Nat) (cur : Option Nat) (m : List Nat) : Option VerBad :=
  let parts := manParts m
  let staged := ((parts.filter (fun p => p.type == 2 || p.type == 3)).map (·.len)).sum
  if fldLE m 0 4 ≠ 0x4B594D46 then some ⟨1, BAD_ARG, 0xFF⟩
  else if manLen m ≠ 64 + 48 * manCount m + 128 ∨ fldLE m 20 4 ≠ size ∨ 30 * 2 ^ 20 < staged then some ⟨2, BAD_LENGTH, 0xFF⟩
  else if fldLE m 4 2 ≠ 1 ∨ fldLE m 6 2 ≠ 0x40 ∨ m.getD 17 0 ≠ 0xC0 then some ⟨3, VERSION_MISMATCH, 0xFF⟩
  else if !ownerOk owners (ownerKey m (manLen m)) then some ⟨4, KEY_INVALID, 0xFF⟩
  else if !sigOk m (manLen m) then some ⟨5, AUTH_FAIL, 0xFF⟩
  else if manVer m = 0 ∨ manCount m < 12 ∨ 17 < manCount m ∨ ¬ allZero (slice m 18 2) ∨ ¬ allZero (slice m 40 24) then some ⟨6, BAD_ARG, 0xFF⟩
  else match (List.range (manCount m)).find? (fun i => !entryOk m i) with
    | some i => some ⟨6, BAD_ARG, i⟩
    | none =>
      if !partsAll m then some ⟨6, BAD_ARG, 0xFF⟩
      else match (List.range (manCount m)).find? (fun i => (manPart m i).type == 5 && !schemaOk (partData m (manPart m i))) with
        | some i => some ⟨6, BAD_ARG, i⟩
        | none =>
          if cur = some (manVer m) then some ⟨7, EXISTS, 0xFF⟩
          else match (List.range (manCount m)).find? (fun i => sha256 (partData m (manPart m i)) != (manPart m i).hash) with
            | some i => some ⟨8, AUTH_FAIL, i⟩
            | none => none

/-! ### What the registers show (R508) -/

def Chip.updShow (b : Chip) : Chip :=
  let n := b.nv
  let st := fun (k : Nat) => (n.bank k).st
  let b1 := (((b.w Reg.UPD_CUR_BANK n.curBank).wb Reg.UPD_TRIAL n.trial).w Reg.UPD_BANK0_STATE (st 0)).w Reg.UPD_BANK1_STATE (st 1)
  ((b1.w Reg.UPD_CUR_MANIFEST_VER (n.ver n.curBank)).w Reg.UPD_OTHER_MANIFEST_VER
    (if st n.otherBank = 2 then n.ver n.otherBank else 0)).w Reg.UPD_BANK_MIB b.bankMib

/-! ### Settings records (R499, R500) -/

def SetRec.size (r : SetRec) : Nat := 16 + r.body.length + 4
/-- One record for a new set: none where the migration fails. -/
def migrateOne (m : List Nat) (r : SetRec) : Option SetRec :=
  match manFind m r.ownerType r.ownerIndex with
  | none => none
  | some p =>
    if p.setVer < r.ver then none
    else if r.ver = p.setVer then some { r with writer := manVer m }
    else (Config.migrate r.ownerType r.ownerIndex r.id r.ver p.setVer r.body).map
      (fun x => { r with ver := p.setVer, writer := manVer m, body := x })
/-- The new set's copies of the records that a set owns, in the room of the settings store (R493). -/
def Mram.migrated (n : Mram) (owner : Nat) (m : List Nat) : Option (List SetRec) :=
  let own := n.settings.filter (fun r => r.writer == owner)
  let out := own.map (migrateOne m)
  let l := out.filterMap id
  let kept := n.settings.filter (fun r => r.writer != manVer m || r.writer == owner)
  if out.any Option.isNone then none
  else if 16 * 2 ^ 20 < ((kept ++ l).map SetRec.size).sum then none
  else some l
/-- A set's copies stand in the store, with the settings that the services keep (R501). -/
def Mram.adopt (n : Mram) (owner : Nat) (m : List Nat) (l : List SetRec) : Mram :=
  { n with settings := n.settings.filter (fun r => r.writer != manVer m) ++ l
           keep := match kget n.keep owner with
             | some k => kput n.keep (manVer m) k
             | none => kdel n.keep (manVer m) }

/-! ### Writing a bundle (R96, R498) -/

/-- The length and order checks of R96 on ARG0 to ARG3; `load` is what the running load has received. NO_RESOURCE is judged first, and a chunk
without FIRST while no load runs is BAD_ARG whatever its offset (DESIGN CHOICE, log entry 87). -/
def Chip.chunkBad (b : Chip) (base : Nat) (load : Option Nat) : Option Nat :=
  let total := b.arg base 0
  let off := b.arg base 1
  let len := b.arg base 2
  let first := bit (b.arg base 3) 0
  if b.boot.flashMib = 0 then some NO_RESOURCE
  else if len = 0 ∨ 4096 < len ∨ total < off + len ∨ b.bankMib * 2 ^ 20 < total then some BAD_LENGTH
  else if off ≠ (if first then 0 else load.getD 0) ∨ (!first && load.isNone) then some BAD_ARG
  else none

/-- The first chunk takes the bank and its Pattern copy, and frees the settings of the set that was there (R498, R500). -/
def Mram.startLoad (n : Mram) : Mram :=
  let o := n.otherBank
  let v := n.ver o
  let n1 : Mram := if v = 0 ∨ v = n.ver n.curBank then n
    else { n with settings := n.settings.filter (fun r => r.writer != v), keep := kdel n.keep v }
  (n1.putBank o { st := 1 }).putCopy n1.otherCopy { gen := (n1.copy n1.otherCopy).gen + 1 }

/-- A bundle that has passed: the Pattern part goes into the copy that is not CURRENT, the manifest into MRAM (R68, R498), and with an
empty owner table its keys are enrolled (R367). -/
def Chip.acceptSet (b : Chip) (bundle : List Nat) : Chip :=
  let n := b.nv
  let p := match manFind bundle 1 0 with
    | some e => partData bundle e
    | none => []
  let copy : CopyArea := { st := 1, ver := fldLE p 24 4, hash := manPattern bundle, gen := (n.copy n.otherCopy).gen + 1, data := p }
  let n1 := (n.putBank n.otherBank { st := 2, manifest := bundle.take (manLen bundle), data := bundle }).putCopy n.otherCopy copy
  let k1 := ownerKey bundle (manLen bundle)
  let k2 := ownerKey p (fldLE p 8 4)
  let owners := if !b.key.owners.isEmpty then b.key.owners
    else if k1 = k2 then [sha256 k1] else [sha256 k1, sha256 k2]
  Chip.setOwners { b with nv := n1 } owners

/-- Verification of the bundle in the other bank (R498): the block after it, the failing check, and the version. -/
def Chip.verifyLoad (b : Chip) (cur : Option Nat) (stored : Bool) : Chip × Option VerBad :=
  let bundle := (b.nv.bank b.nv.otherBank).data
  match verifySet b.key.owners bundle.length cur bundle with
  | some x => (b, some x)
  | none =>
    let p := match manFind bundle 1 0 with
      | some e => partData bundle e
      | none => []
    match checkPat b.key.owners b.boot.dramMib p.length p with
    | .inl x => (b.patReject 2 x, some ⟨9, x.code, 0⟩)
    | .inr _ => if stored then (b.acceptSet bundle, none) else (b, some ⟨10, ECC_FAULT, 0xFF⟩)

/-! ### The set record (R68, R494) -/

/-- The other bank and copy become CURRENT in one commit; the previous bank and copy take the states given. -/
def Mram.swap (n : Mram) (bankSt copySt : Nat) (trial : Bool) : Mram :=
  let c := n.curBank
  let k := n.curCopy
  let n1 := ((n.markBank c (if (n.bank c).st = 3 then bankSt else (n.bank c).st)).markCopy k
    (if (n.copy k).st = 2 then copySt else (n.copy k).st)).markBank n.otherBank 3
  let n2 := n1.markCopy n.otherCopy 2
  { n2 with curBank := n.otherBank, curCopy := n.otherCopy, trial := trial }

/-- A reversion under R85, R504 and R68: the previous set comes back with its owner table, the reverted one is INVALID, REVERTED names
the part that failed, and a warm start with the REVERT cause is due. -/
def Chip.revertSet (b : Chip) (code ptype pindex : Nat) : Chip :=
  let bad := b.nv.ver b.nv.curBank
  let n := b.nv.swap 4 3 false
  let b1 : Chip := Chip.setOwners { b with nv := n, boot := { b.boot with warm := some 6 } } (n.bankOwners n.curBank)
  ((b1.updShow.w Reg.UPD_LAST_RESULT code).inc Reg.UPD_REVERTS).raise Src.UPD N.REVERTED (argB n.curBank code ptype pindex bad)

end Sys2Proof.Machine
end

