-- ==== Sys2Proof/Machine/Update.lean ====
section
/-!
DEFINITION. UPD: installing, activating, pausing and reverting (R69, R70, R493 to R510).
-/
namespace Sys2Proof.Machine

/-! ### INSTALL (R498, R507) -/

/-- INSTALL completes: its code and LAST_RESULT. -/
def Chip.installDone (b : Chip) (code : Nat) (results : List Nat) : CmdOut := ⟨b.w Reg.UPD_LAST_RESULT code, code, results⟩

/-- The bundle is judged after its last chunk. -/
def Chip.installEnd (b : Chip) (size : Nat) (stored : Bool) : CmdOut :=
  let o := b.nv.otherBank
  let (b1, r) := b.verifyLoad (some (b.nv.ver b.nv.curBank)) stored
  let b2 : Chip := Chip.w { b1 with upd := { b1.upd with load := none } } Reg.UPD_PHASE 0
  let ver := manVer (b.nv.bank o).data
  match r with
  | none =>
    let b3 := b2.updShow.inc Reg.UPD_INSTALLS
    (b3.raise Src.UPD N.INSTALLED (argB o OK 0 0xFF ver)).installDone OK [size, 0xFF]
  | some x =>
    let b3 := ((b2.modNv (fun n => n.markBank o 4)).updShow).inc Reg.UPD_INSTALL_FAIL
    (b3.raise Src.UPD N.INSTALLED (argB o x.code x.step x.entry ver)).installDone x.code [size, x.entry]

/-- INSTALL of a chunk. -/
def Chip.install (b : Chip) (chunk : List Nat) (stored : Bool) : CmdOut :=
  let o := b.nv.otherBank
  match b.chunkBad cbUPD b.upd.load with
  | some c => b.installDone c [b.r Reg.UPD_INSTALL_OCTETS, 0xFF]
  | none =>
    if !b.ready || decide (1 < b.r Reg.UPD_PHASE) then b.installDone WRONG_STATE [b.r Reg.UPD_INSTALL_OCTETS, 0xFF]
    else
      let b1 := if bit (b.arg cbUPD 3) 0 then b.modNv Mram.startLoad else b
      let size := b.arg cbUPD 1 + b.arg cbUPD 2
      let b2 := b1.modNv (fun n => n.putBank o { n.bank o with data := (n.bank o).data ++ chunk })
      let b3 := (((b2.modUpd (fun u => { u with load := some size })).w Reg.UPD_PHASE 1).w Reg.UPD_INSTALL_OCTETS size).updShow
      if bit (b.arg cbUPD 3) 1 then b3.installEnd size stored else b3.installDone OK [size, 0xFF]

/-! ### STAGING (R501) -/

/-- The structure that a Pattern copy holds. -/
def Mram.patOf (n : Mram) (k : Nat) : Pat := readPat (n.copy k).data

/-- An ARG0 stitch as a full stitch number; one that has passed names the present stitch. -/
def Chip.earliest (b : Chip) (a : Nat) : Nat :=
  let d := (a + 2 ^ 32 - b.stitch32) % 2 ^ 32
  if a = 0 ∨ 2 ^ 31 ≤ d then b.tim.stitch else b.tim.stitch + d

/-- ACTIVATE (R501): the check of R64 step 11, the migration, and STAGING begins; the command stays BUSY. -/
def Chip.activate (b : Chip) : Sum Chip CmdOut :=
  let n := b.nv
  let m := (n.bank n.otherBank).manifest
  let high := b.mac.nodes.any (fun e => cx e.2 Cx.STATE != 0 && decide ((n.patOf n.otherCopy).nodeCount ≤ e.1))
  if b.limp || !b.ready || b.r Reg.UPD_PHASE != 0 || (n.bank n.otherBank).st != 2 || (n.copy n.otherCopy).st != 1 then
    .inr (((b.inc Reg.UPD_ACT_FAIL).w Reg.UPD_LAST_RESULT WRONG_STATE).fail WRONG_STATE)
  else if high then .inl ((b.patReject n.otherCopy ⟨11, WRONG_STATE, 4, 0⟩).actEnd WRONG_STATE 0 0 [])
  else match n.migrated (n.ver n.curBank) m with
    | none => .inl (b.actEnd VERSION_MISMATCH 0 0 [])
    | some l =>
      let u : Upd := { staged := l, earliest := b.earliest (b.arg cbUPD 0), allowSkip := bit (b.arg cbUPD 1) 0 }
      .inl (((({ b with upd := u } : Chip).w Reg.UPD_PHASE 2)).add Reg.UPD_RECORDS_MIGRATED l.length)

/-! ### WAITING (R502) -/

/-- Slots in the pause window. -/
def Chip.pauseSlots (b : Chip) : Nat := cdiv 160 (max 1 b.pat.slotStitches)
/-- BEACON cells without an owner in the pause window that starts at a slot. -/
def Chip.pauseBeacons (b : Chip) (slot : Nat) : Nat :=
  let rows := (List.range b.pauseSlots).map (fun i => (slot + i) % b.sfSlots)
  (b.sch.cells.filter (fun e => cType e.2 == T.BEACON && cOwner e.2 == nodeNone && rows.contains (b.rowOf e.1))).length
/-- A wake run lies in the window. -/
def Chip.pauseRun (b : Chip) (slot : Nat) : Bool :=
  b.sch.runs.any (fun e => decide (e.2.slot < slot + b.pauseSlots ∧ slot < e.2.slot + e.2.count))
/-- The device has no ownerless beacon. -/
def Chip.noOwnerless (b : Chip) : Bool := !b.sch.cells.any (fun e => cType e.2 == T.BEACON && cOwner e.2 == nodeNone)

/-- The slot of t0 and its beacons, among the candidates of one superframe from `s0` on (R502). -/
def Chip.pickPause (b : Chip) (s0 : Nat) : Option (Nat × Nat) :=
  let cand := (List.range b.sfSlots).map (fun i => s0 + i)
  if b.isStandby || (!b.t Reg.SCH_KEEP_LISTEN && b.noOwnerless) then some (s0, b.pauseBeacons s0)
  else match cand.find? (fun s => b.pauseBeacons s == 0 && !b.pauseRun s) with
    | some s => some (s, 0)
    | none =>
      if b.upd.allowSkip then
        cand.foldl (fun (a : Option (Nat × Nat)) s => match a with
          | none => some (s, b.pauseBeacons s)
          | some x => if b.pauseBeacons s < x.2 then some (s, b.pauseBeacons s) else some x) none
      else none

/-- Staging ends with a code; t0 is chosen (R501, R502). A reserved code is never reported (R14). -/
def Chip.stagingEnd (b : Chip) (code : Nat) : Chip :=
  if b.r Reg.UPD_PHASE ≠ 2 ∨ 0x15 < code then b
  else if code ≠ OK then b.actEnd code 0 0 []
  else
    match b.pickPause (cdiv (max b.upd.earliest (cdiv (b.nowNs + 500000) 250000)) (max 1 b.pat.slotStitches)) with
    | none => b.actEnd NO_RESOURCE 0 0 []
    | some (s, n) =>
      let t0 := s * b.pat.slotStitches
      let b1 := ((b.modUpd (fun u => { u with t0 := t0, skipped := n })).w Reg.UPD_PHASE 3).w Reg.UPD_PAUSE_STITCH t0
      b1.raise Src.UPD N.ACT_PLANNED (argW t0 n)

/-! ### The pause (R69, R70, R503) -/

/-- t0: chains muted, lanes off, cell service stopped. -/
def Chip.pauseStart (b : Chip) : Chip :=
  if b.r Reg.UPD_PHASE ≠ 3 ∨ b.tim.stitch < b.upd.t0 then b
  else
    let b1 := ((b.w Reg.UPD_PHASE 4).modUpd (fun u => { u with paused := true })).muteAll 3
    let stop := fun (l : List SlotCell) => l.map (fun c => ({ c with off := true } : SlotCell))
    { b1 with sch := { b1.sch with cur := stop b1.sch.cur, nxt := stop b1.sch.nxt }, mac := { b1.mac with csma := [] } }

/-- The granule range of a class (R60): where it starts and how many it has. -/
def Pat.classAt (p : Pat) (c : Nat) : Nat × Nat := ((p.sram.take c).sum, p.sram.getD c 0)
/-- A group's lane centres, chain or region change (R178). -/
def planMoves (o n : Pat) (g : Nat) : Bool :=
  o.region != n.region || bit o.chains g != bit n.chains g ||
  (groupLanes g).any (fun l => bit o.lanes l != bit n.lanes l ||
    (decide (1 ≤ l ∧ l ≤ 4) && o.mCentre.getD (l - 1) 0 != n.mCentre.getD (l - 1) 0))
/-- An item of R59 changes. -/
def pairMoves (o n : Pat) : Bool :=
  o.pairId != n.pairId || o.slotStitches != n.slotStitches || o.sfExp != n.sfExp || o.weaveCells != n.weaveCells ||
  o.nodeCount != n.nodeCount || o.roleCfg != n.roleCfg

/-- One SETTING_RESET for a block whose settings exceeded the new structure (R70). -/
def Chip.settingReset (b : Chip) (base k : Nat) : Chip := if k = 0 then b else b.raise Src.GLB N.SETTING_RESET (argW base k)
/-- The settings of a queue that are not at their defaults. -/
def Queue.settings (q d : Queue) : Nat :=
  b2n (q.consumer != d.consumer) + b2n (q.ct != d.ct) + b2n (q.itemLimit != d.itemLimit) + b2n (q.spillLimit != d.spillLimit) +
  b2n (q.high != d.high) + b2n (q.low != d.low)
/-- The settings of a scheduler's child that are not at their defaults. -/
def Child.settings (c : Child) : Nat := b2n (c.quantum != ({} : Child).quantum) + b2n (c.cls != ({} : Child).cls)
/-- TMG: a changed granule range clears it; queues that have been emptied leave no child active; children beyond the structure go. -/
def Chip.tmgMove (b : Chip) (o n : Pat) (moved : Bool) : Chip :=
  let idle := { b.tmg with active := [], turn := [], staged := [], held := [] }
  if o.classAt 9 != n.classAt 9 then { b with tmg := { idle with child := [] } }
  else
    let in_ := fun (k : Nat) => decide (k < n.queueCount ∨ (0x10000 ≤ k ∧ k < 0x10000 + n.sched.length))
    let kept : KV Child := b.tmg.child.filter (fun e => in_ e.1)
    let still : KV Child := (kept.map (fun e => (e.1, { e.2 with deficit := 0 }))).filter (fun e => e.2 != {})
    let lost := ((b.tmg.child.filter (fun e => !in_ e.1)).map (fun e => e.2.settings)).sum
    let b1 : Chip := { b with tmg := if moved then { idle with child := still } else { b.tmg with child := kept } }
    b1.settingReset cbTMG lost
/-- A queue's items, with the settings that every queue has after an activation (R408, R412, R425). -/
def Queue.afresh (q d : Queue) : Queue :=
  { q with consumer := d.consumer, ct := d.ct, itemLimit := d.itemLimit, spillLimit := d.spillLimit, high := d.high, low := d.low }
/-- The QRING, QUEUES or TRAFFIC items or SPILL_MIB change (R69). -/
def queuesChange (o n : Pat) : Bool :=
  o.classAt 3 != n.classAt 3 || o.queueCount != n.queueCount || o.queueGroups != n.queueGroups || o.spillMib != n.spillMib ||
    o.sched != n.sched || o.qParent != n.qParent
/-- Then every queue is emptied, under the structure that still stands: each discarded item counts, and MAC learns of each node's count (R69,
R417). -/
def Chip.queuesEmpty (b : Chip) (n : Pat) : Chip :=
  if !queuesChange b.pat n then b
  else
    let nodes := distinct ((b.queues.flatMap (fun e => e.2.items.map (·.node))).filter (fun k => decide (k < b.pat.nodeCount)))
    nodes.foldl (fun c k => c.dlSync k) (b.queues.foldl (fun c e => (c.emptyQ e.1 (fun _ => false) Reg.QMG_ACT_DISCARD).1) b)
/-- The first queue of each group (R426). -/
def Chip.groupsShow (b : Chip) : Chip :=
  let p := b.pat
  let per := if p.queueGroups = 0 then 0 else p.queueCount / p.queueGroups
  (List.range 256).foldl (fun (c : Chip) g => c.w (Reg.QMG_G_FIRST_Q g) (if g < p.queueGroups then g * per else 0)) b
/-- The mark bits after an activation: both marks of every queue are off, and the bits of queues that no longer exist read zero (R421, R426). -/
def Chip.marksShow (b : Chip) : Chip :=
  (List.range 256).foldl (fun (c : Chip) w =>
    let keep := fun (f : Fld) => andN (c.r f) (2 ^ min 32 (b.pat.queueCount - 32 * w) - 1)
    (((c.w (Reg.QMG_HI_STICKY w) (keep (Reg.QMG_HI_STICKY w))).w (Reg.QMG_LO_STICKY w) (keep (Reg.QMG_LO_STICKY w))).w
      (Reg.QMG_HI_LVL w) 0).w (Reg.QMG_LO_LVL w) 0) b
/-- The queues after the boundary (R69, R408): every setting at its default; those that exceeded the new structure are counted (R70). -/
def Chip.queuesMove (b1 : Chip) (o n : Pat) : Chip :=
  let moved := queuesChange o n
  let lost := (b1.queues.filter (fun e => decide (n.queueCount ≤ e.1))).map (fun e => e.2.settings (Chip.qDefault { b1 with pat := o } e.1))
  let fixed : KV Queue := b1.queues.filter (fun e => decide (e.1 < n.queueCount))
  let wrong := fun (e : Nat × Queue) => (e.2.consumer == CONS_SCHED) != (n.qParent.getD e.1 0xFFFF != 0xFFFF)
  let over_ := decide (n.spillMib * 256 < Chip.spillReserved { b1 with queues := fixed })
  let cut := fixed.filter (fun e => over_ && e.2.spillLimit != (b1.qDefault e.1).spillLimit)
  let qs1 : KV Queue := (fixed.map (fun e => (e.1, e.2.afresh (b1.qDefault e.1)))).filter (fun e => e.2 != b1.qDefault e.1)
  let modes := (List.range 256).filter (fun g => decide (n.queueGroups ≤ g) && b1.t (Reg.QMG_G_MODE g))
  let b3 := modes.foldl (fun (c : Chip) g => c.wb (Reg.QMG_G_MODE g) false) (b1.tmgMove o n moved)
  let b4 : Chip := Chip.marksShow (Chip.groupsShow { b3 with queues := qs1 })
  let b5 := b4.w Reg.QMG_SPILL_RESERVED b4.spillReserved
  b5.settingReset cbQMG (lost.sum + (fixed.filter wrong).length + cut.length + modes.length)

/-- The forwarding tables whose place or size changes are cleared; firmware restores them after the pause (R69, R503). -/
def Chip.tablesMove (b : Chip) (o n : Pat) : Chip :=
  let gone := fun (c : Nat) => o.classAt c != n.classAt c
  let b1 := if gone 0 then { b with fwd := { b.fwd with exm := { shadow := b.fwd.exm.shadow } } } else b
  let b2 := if gone 1 then { b1 with fwd := { b1.fwd with lpm := { shadow := b1.fwd.lpm.shadow } } } else b1
  let b3 := if gone 2 || o.lenMap != n.lenMap then Chip.wb { b2 with fwd := { b2.fwd with filt := [], refil := [] } } Reg.FWD_REFILTERING false
    else b2
  (b3.fwdCounts 0).fwdCounts 1

/-- A table is restored from its shadow (R69, R400): an entry goes back to its index where the table kept its size, else it is inserted anew. A key
that the table holds already keeps the entry it has, as WRITE and INSERT answer EXISTS. -/
def Chip.tableBack (b : Chip) (t : Nat) (same : Bool) : Chip :=
  let x := b.tab t
  let lost := x.shadow.filter (fun e => (kget x.ents e.1).isNone)
  let hit := fun (e : Nat) => if t = 0 then setBit e 4 else e
  let b0 := b.putTab t { x with shadow := x.ents.map (fun e => (e.1, noHit t e.2)) }
  let b1 := lost.foldl (fun (c : Chip) e =>
    if !same then (c.insert t (hit e.2) false).1
    else if (c.findEnt t (eKey t e.2)).isSome then c else c.putEnt t e.1 (some (hit e.2))) b0
  let b2 := if t = 1 then ((b1.tab 1).ents.map (fun e => eKey 1 e.2)).foldl Chip.filtSet b1 else b1
  b2.fwdCounts t

/-- Pin groups whose function changes return to their reset settings (R562). -/
def Chip.padsMove (b : Chip) (before : Chip) : Chip :=
  (padIds.filter (fun i => before.r (Reg.GLB_FUNC i) != b.r (Reg.GLB_FUNC i))).foldl (fun (c : Chip) i =>
    ((c.w (Reg.GLB_DRIVE i) 1).w (Reg.GLB_PULL i) 1).w (Reg.GLB_SLOW i) 0) b

/-- The host-writable fields of a node's context that exceed the structure, each with the value it returns to: the one that ADMIT gives where it
gives one, else 0 (R70, R72; DESIGN CHOICE, log entry 107). -/
def Chip.ctxOver (b : Chip) (c : Nat) : List (CxF × Nat) :=
  let d := cx c Cx.BAND
  let far := fun (v : Nat) => decide (b.pat.nodeCount ≤ v) && v != parentDev && v != nodeNone
  ([(Cx.ALLOWED_LANES, andNot (cx c Cx.ALLOWED_LANES) (b.bandMask d) != 0, b.bandMask d),
    (Cx.MODE_MASK, b.modeOver d (cx c Cx.MODE_MASK), 0),
    (Cx.DL_QUEUE, decide (b.pat.queueCount ≤ cx c Cx.DL_QUEUE), 0),
    (Cx.PARENT, far (cx c Cx.PARENT), nodeNone)] ++
   (List.range 16).map (fun i => (Cx.NBR i, far (cx c (Cx.NBR i)), nodeNone))).filterMap (fun e => if e.2.1 then some (e.1, e.2.2) else none)
/-- Node contexts under the new structure, with their rungs (R70, R315). -/
def Chip.nodesOver (b : Chip) : Chip :=
  let r := (b.mac.nodes.map (·.1)).foldl (fun (r : Chip × Nat) n =>
    let l := r.1.ctxOver (r.1.node n)
    if r.1.ns n = NS.EMPTY ∨ l.isEmpty then r
    else
      let c := r.1.putNode n (l.foldl (fun c e => cxPut c e.1 e.2) (r.1.node n))
      (((if l.any (fun e => e.1.pos == Cx.MODE_MASK.pos) then c.rungFix n else c).dlSync n), r.2 + l.length)) (b, 0)
  r.1.settingReset cbMAC r.2
/-- The structure of a new Pattern takes effect (R32, R69, R70). -/
def Chip.applyPat (b : Chip) (p : Pat) (copy : Nat) : Chip :=
  let o := b.pat
  let b0 := b.queuesEmpty p
  let b1 := Chip.patShow { b0 with pat := p } copy
  let b2 := (b1.padsMove b).queuesMove o p
  let b3 := b2.tablesMove o p
  let ctx := if o.classAt 4 != p.classAt 4 then { b3.mac with cache := [] } else b3.mac
  let key := if o.classAt 7 != p.classAt 7 then { b3.key with cache := [] } else b3.key
  let weave := o.classAt 6 != p.classAt 6
  let sch := { b3.sch with cur := [], nxt := [], curSlot := none, nxtSlot := none
                           cells := if weave then [] else b3.sch.cells, allocStart := if weave then 0 else b3.sch.allocStart
                           runs := if weave then [] else b3.sch.runs, runWait := if weave then [] else b3.sch.runWait }
  let slots := if o.spillMib != p.spillMib || o.imageMib != p.imageMib then [] else b3.svc.slots
  let b4 : Chip := { b3 with mac := ctx, key := key, sch := sch, svc := { b3.svc with slots := slots } }
  let run := orN (andN (b4.r Reg.SVC_RUNNING) p.svcMask) (andNot p.svcMask o.svcMask)
  let b5 := (((b4.w Reg.SVC_RUNNING run).w Reg.SCH_COLUMNS b4.cols).w Reg.SCH_CELLS_USED sch.cells.length).keyCounts.cacheCount
  let b6 := (List.range 4).foldl (fun (c : Chip) g =>
    let c1 := (c.wb (Reg.RFC_PRESENT g) (c.groupPresent g)).rfAbsent g
    if planMoves o p g then
      ((c1.wb (Reg.RFC_CAL_PENDING g) false).wb (Reg.RFC_CAL_FORCED g) false).modGrp g
        (fun x => { x with cal := none, valid := false, pendTemp := false, pendCmd := false })
    else c1) b5
  let b7 := if pairMoves o p then (b6.pairStop).wb Reg.SEA_PAIRED false else b6
  let b8 := if o.roleCfg != p.roleCfg then b7.seaListen 0 else b7
  b8.parkSources.resetOver.nodesOver

/-- The activation boundary (R503): set commit with TRIAL, owner table, Pattern and settings. -/
def Chip.actBoundary (b : Chip) : Chip :=
  if b.r Reg.UPD_PHASE ≠ 4 ∨ b.upd.boundary.isSome ∨ b.tim.stitch < b.upd.t0 then b
  else
    let old := b.nv.ver b.nv.curBank
    let o := b.pat
    let n := b.nv.swap 2 1 true
    let n1 := n.adopt old (n.bank n.curBank).manifest b.upd.staged
    let b1 := (Chip.setOwners { b with nv := n1 } (n.bankOwners n.curBank)).campAbort
    let p := n.patOf n.curCopy
    let b2 := ((b1.applyPat p n.curCopy).updShow).w Reg.GLB_LOADED_BANK n.curBank
    b2.modUpd (fun u => { u with boundary := some (max b.tim.stitch (b.upd.t0 + 1)),
                                 cal := (List.range 4).filter (fun g => planMoves o p g && b2.groupPresent g) })

/-- The microcode is loaded, and the groups whose plan changed run their full calibration. -/
def Chip.microLoaded (b : Chip) : Chip :=
  if b.upd.boundary.isNone ∨ b.upd.micro then b
  else b.upd.cal.foldl (fun (c : Chip) g => c.calEnter g 4) (b.modUpd (fun u => { u with micro := true }))

/-- A control processor's image reports alive. -/
def Chip.imageAlive (b : Chip) (cpu : Nat) : Chip :=
  if b.upd.boundary.isNone ∨ 7 < cpu then b
  else b.modUpd (fun u => { u with alive := cpu :: u.alive.filter (· != cpu) })

/-- Every image is alive, the microcode loaded and every calibration complete. -/
def Chip.setUp (b : Chip) : Bool :=
  b.upd.boundary.isSome && b.upd.micro && (List.range 8).all b.upd.alive.contains &&
  b.upd.cal.all (fun g => (b.grp g).valid && b.rfs g != RFS.CAL)

/-- Radio service resumes (R503). -/
def Chip.pauseEnd (b : Chip) (us : Nat) : Chip :=
  if !b.setUp then b
  else
    let u := b.upd
    let bd := u.boundary.getD 0
    let o := b.nv.patOf b.nv.otherCopy
    let b1 := (b.tableBack 0 (o.exmEntries == b.pat.exmEntries)).tableBack 1 (o.lpmPrefixes == b.pat.lpmPrefixes)
    let b2 := ((b1.modNv (fun n => { n with trial := false })).updShow).w Reg.UPD_LAST_PAUSE_US (min 65535 us)
    let b3 := (b2.modUpd (fun x => { x with paused := false })).unmuteAll
    b3.actEnd OK bd us [u.t0 % 2 ^ 32, bd % 2 ^ 32, us, u.skipped, b3.r Reg.UPD_CUR_MANIFEST_VER]

/-- t0 + 40 ms: the activated set has failed (R504). -/
def Chip.actTimeout (b : Chip) (ptype pindex : Nat) : Chip :=
  if b.r Reg.UPD_PHASE ≠ 4 ∨ b.setUp then b
  else if b.upd.boundary.isNone then b
  else (b.inc Reg.UPD_ACT_FAIL).revertSet ABORTED ptype pindex

/-! ### The other commands (R507) -/

/-- CANCEL: the running ACTIVATE ends ABORTED. It is taken although ACTIVATE keeps the block BUSY (log entry 21). -/
def Chip.updCancel (b : Chip) (irq : Bool) : Chip :=
  let ph := b.r Reg.UPD_PHASE
  if b.t (cbBUSY cbUPD) ∧ (ph = 2 ∨ ph = 3) then
    ((b.actEnd ABORTED 0 0 []).cmdAccept cbUPD irq).cmdFinish cbUPD OK [ph]
  else if b.t (cbBUSY cbUPD) ∧ ph = 4 then
    let held := b.cmdIrq
    let b1 := (b.cmdAccept cbUPD irq).cmdFinish cbUPD WRONG_STATE []
    Chip.wb { b1 with cmdIrq := held } (cbBUSY cbUPD) true
  else b.cmd cbUPD irq (fun c => c.fail WRONG_STATE)

def Chip.readBank (b : Chip) : CmdOut :=
  let k := b.arg cbUPD 0
  if 1 < k then b.fail BAD_ARG
  else
    let m := (b.nv.bank k).manifest
    b.done [(b.nv.bank k).st, manVer m, manCount m, fldLE m 20 4]

def Chip.readPart (b : Chip) : CmdOut :=
  let k := b.arg cbUPD 0
  let i := b.arg cbUPD 1
  let a := b.nv.bank k
  if 1 < k ∨ 16 < i then b.fail BAD_ARG
  else if a.st ≠ 2 ∧ a.st ≠ 3 then b.fail WRONG_STATE
  else if manCount a.manifest ≤ i then b.fail BAD_ARG
  else
    let p := manPart a.manifest i
    b.done ([p.type + p.index * 256 + p.setVer * 65536, p.ver, p.len] ++ (List.range 8).map (fun j => fldLE p.hash (4 * j) 4))

/-- REVERT (R505): the command stays BUSY until its warm start. -/
def Chip.revert (b : Chip) : Sum Chip CmdOut :=
  let n := b.nv
  let o := n.otherBank
  if !b.ready || b.r Reg.UPD_PHASE != 0 || (n.bank o).st != 2 || (n.copy n.otherCopy).st != 1 ||
      (n.copy n.otherCopy).hash != manPattern (n.bank o).manifest then .inr (b.fail WRONG_STATE)
  else
    let n1 := n.swap 2 1 false
    let b1 : Chip := Chip.setOwners { b with nv := n1, boot := { b.boot with warm := some 6 } } (n1.bankOwners n1.curBank)
    .inl (((b1.updShow).w Reg.UPD_LAST_RESULT OK).inc Reg.UPD_REVERTS)

/-! ### The rows -/

/-- INSTALL (R498). -/
def execUpdInstall (irq stored : Bool) (s : State) : Host.Outcome State Fault Refusal :=
  s.on (fun b => b.cmd cbUPD irq (fun c => c.install (s.mem.read 0x241000 (min 4096 (c.arg cbUPD 2))) stored))
/-- ACTIVATE (R501). -/
def execUpdActivate (irq : Bool) (s : State) : Host.Outcome State Fault Refusal :=
  s.on (fun b => b.command cbUPD irq Chip.activate)
/-- STAGING_COMPLETE (R502). -/
def execStagingComplete (code : Nat) (s : State) : Host.Outcome State Fault Refusal := s.on (fun b => b.stagingEnd code)
/-- PAUSE_START (R503). -/
def execPauseStart (s : State) : Host.Outcome State Fault Refusal := s.on Chip.pauseStart
/-- ACTIVATION_BOUNDARY (R503). -/
def execActivationBoundary (s : State) : Host.Outcome State Fault Refusal := s.on Chip.actBoundary
/-- MICROCODE_LOADED (R503). -/
def execMicrocodeLoaded (s : State) : Host.Outcome State Fault Refusal := s.on Chip.microLoaded
/-- IMAGE_ALIVE (R503). -/
def execImageAlive (cpu : Nat) (s : State) : Host.Outcome State Fault Refusal := s.on (fun b => b.imageAlive cpu)
/-- PAUSE_END (R503). -/
def execPauseEnd (us : Nat) (s : State) : Host.Outcome State Fault Refusal := s.on (fun b => b.pauseEnd us)
/-- ACTIVATION_TIMEOUT (R504). -/
def execActivationTimeout (ptype pindex us : Nat) (s : State) : Host.Outcome State Fault Refusal :=
  s.on (fun b => if us < 40000 then b else b.actTimeout ptype pindex)
/-- CANCEL (R507). -/
def execUpdCancel (irq : Bool) (s : State) : Host.Outcome State Fault Refusal := s.on (fun b => b.updCancel irq)
/-- READ_BANK (R507). -/
def execReadBank (irq : Bool) (s : State) : Host.Outcome State Fault Refusal := s.on (fun b => b.cmd cbUPD irq Chip.readBank)
/-- READ_PART (R507). -/
def execReadPart (irq : Bool) (s : State) : Host.Outcome State Fault Refusal := s.on (fun b => b.cmd cbUPD irq Chip.readPart)
/-- REVERT (R505). -/
def execUpdRevert (irq : Bool) (s : State) : Host.Outcome State Fault Refusal := s.on (fun b => b.command cbUPD irq Chip.revert)

end Sys2Proof.Machine
end

