-- ==== Sys2Proof/Machine/Wake.lean ====
section
/-!
DEFINITION. PWR: the next event, the choice of a power state, entry into it, and every exit but that from DOZE (R511 to R519).
-/
namespace Sys2Proof.Machine

def Chip.modPwr (b : Chip) (f : Pwr → Pwr) : Chip := { b with pwr := f b.pwr }
def Chip.pstate (b : Chip) : Nat := b.r Reg.PWR_PSTATE

/-- The exit times of R511, in µs. -/
def exitUs (s : Nat) : Nat := [0, 2, 30, 160, 6000].getD s 6000

/-! ### NEXT (R514) -/

/-- The µs until an armed compare of a timer channel matches; none for a channel that R514 leaves out. -/
def Chip.compareUs (b : Chip) (n : Nat) : Option Nat :=
  if !b.t (Reg.TMR_RUNNING n) || !b.t (Reg.TMR_CMP_ARMED n) then none
  else
    let k := reachIn (b.r (Reg.TMR_COUNT n)) (b.r (Reg.TMR_COMPARE n))
    match b.r (Reg.TMR_CLK n) with
    | 0 => some (k * b.tim.incr / nsU / 1000)
    | 1 => some ((b.tim.nextB * 250000 - b.nowNs) / 1000 + (k - 1) * 250)
    | _ => none
/-- The µs until a gate of an Ethernet port changes, or its pending list takes over. -/
def Chip.gateUs (b : Chip) (p : Nat) : List Nat :=
  if !b.t (Reg.TMG_GATE_EN p) then []
  else
    let take := match kget b.tmg.swap p with
      | some s => [(s.takeover - b.nowNs) / 1000]
      | none => []
    ((b.gates p).pos b.nowNs).2 / 1000 :: take
/-- NEXT in µs from the present instant. -/
def Chip.nextUs (b : Chip) : Nat :=
  let timers := (List.range 64).filterMap b.compareUs
  let trigs := (b.tim.trig.filter (fun e => b.t (Reg.TIM_TRG_ARM e.1))).map (fun e => (e.2 - b.nowNs) / 1000)
  let pause := if b.r Reg.UPD_PHASE = 3 then [(b.upd.t0 * 250000 - b.nowNs) / 1000] else []
  (timers ++ trigs ++ b.gateUs 0 ++ b.gateUs 1 ++ pause).foldl min b.nextEvent

/-! ### The choice (R515, R519) -/

/-- The error rate of the AON count in ppm. -/
def Chip.dozePpm (b : Chip) : Nat := b.r (if b.r Reg.CKR_AON_SRC = 0 then Reg.PWR_DOZE_ERR_PPM else Reg.PWR_RC_ERR_PPM)
/-- E of a dwell, in µs. -/
def Chip.dozeErr (b : Chip) (dwell : Nat) : Nat := cdiv (b.dozePpm * dwell) 1000000 + 31
/-- The longest dwell, in µs. -/
def Chip.dozeMax (b : Chip) : Nat := (b.r Reg.SCH_DISC_GUARD_US - 31) * 1000000 / max 1 b.dozePpm
/-- The dwell planned for a NEXT before E is taken off. -/
def Chip.dozeDwell (b : Chip) (next : Nat) : Nat := min (next - exitUs 4 - b.r Reg.PWR_MARGIN_US) b.dozeMax
/-- The conditions of DOZE. -/
def Chip.dozeOk (b : Chip) (next : Nat) : Bool :=
  b.t Reg.PWR_DOZE_EN &&
  (b.t Reg.PWR_BATTERY || (List.range 2).all (fun p => !b.t (Reg.ETH_LINK p) || b.t (Reg.ETH_HELD p))) &&
  !b.t Reg.SEA_BLOCK_LOCK && (List.range 12).all (fun n => !b.t (Reg.TIM_TRG_ARM n)) &&
  decide (exitUs 4 + b.r Reg.PWR_MARGIN_US + b.dozeErr (b.dozeDwell next) + 5000 ≤ next) && decide (5000 ≤ b.dozeMax) && b.working
/-- The deepest state allowed. -/
def Chip.choose (b : Chip) (next s : Nat) : Nat :=
  match s with
  | 0 => 0
  | k + 1 => if exitUs (k + 1) + b.r Reg.PWR_MARGIN_US ≤ next ∧ (k + 1 ≠ 4 ∨ b.dozeOk next) then k + 1 else b.choose next k
/-- The µs until the exit planned for a state. -/
def Chip.wakeAt (b : Chip) (next s : Nat) : Nat :=
  let t := next - exitUs s - b.r Reg.PWR_MARGIN_US
  if s = 4 then min (t - b.dozeErr (b.dozeDwell next)) b.dozeMax else t

/-! ### Entry (R511, R513) -/

def entryFld (s : Nat) : Option Fld := match s with
  | 1 => some Reg.PWR_IDLE_ENTRIES
  | 2 => some Reg.PWR_NAP_ENTRIES
  | 3 => some Reg.PWR_DROWSE_ENTRIES
  | 4 => some Reg.PWR_DOZE_ENTRIES
  | _ => none
/-- Every domain gated but AON. -/
def dozeDomains : Nat := 0x2AA
/-- What DOZE entry does beyond the radio groups: cached contexts written back, the domains shut down, the PCIe link down. -/
def Chip.dozeEnter (b : Chip) : Chip :=
  let b1 := Chip.cacheCount { b with mac := { b.mac with cache := [] } }
  (b1.w Reg.CKR_DOMAIN_STATE dozeDomains).wb Reg.HIF_LINK_UP false
/-- The device enters a state, with the µs until its planned exit. -/
def Chip.enter (b : Chip) (s us : Nat) : Chip :=
  let plan := if s = 0 then none else some (b.nowNs + us * 1000)
  if b.pstate = s then b.modPwr (fun x => { x with exitAt := plan })
  else
    let back := if s < b.pstate then b.nowNs + (exitUs b.pstate) * 1000 else b.pwr.busyTo
    let b1 := (b.w Reg.PWR_PSTATE s).modPwr (fun x => { x with exitAt := plan, busyTo := back })
    let b2 := match entryFld s with
      | some f => b1.inc f
      | none => b1
    let b3 := b2.rfDriveAll
    if s = 4 then b3.dozeEnter else b3

/-! ### Exits but DOZE (R516, R517) -/

/-- An exit to ACTIVE, with its cause. -/
def Chip.leave (b : Chip) (cause : Nat) : Chip :=
  if b.pstate = 0 ∨ b.pstate = 4 then b else (b.w Reg.PWR_WAKE_CAUSE cause).enter 0 0
/-- A command to RFC, RXP, TXP, MAC or SCH ends NAP and DROWSE (cause 4). -/
def Chip.wakeFor (b : Chip) : Chip := if b.pstate = 2 ∨ b.pstate = 3 then b.leave 4 else b
/-- A change of a setting that makes NEXT shorter ends NAP and DROWSE (cause 5). -/
def Chip.sooner (b : Chip) (f : Chip → Chip) : Chip :=
  if b.pstate = 2 ∨ b.pstate = 3 then
    let c := f b
    if c.nextUs < b.nextUs then c.leave 5 else c
  else f b
/-- KEEP_LISTEN set, or MAX_STATE below the present state (cause 6). -/
def Chip.wakeSetting (b : Chip) : Chip :=
  if b.t Reg.SCH_KEEP_LISTEN ∨ b.r Reg.PWR_MAX_STATE < b.pstate then b.leave 6 else b
/-- An event met while an exit is still running (R516). -/
def Chip.lateWake (b : Chip) (n : Nat) : Chip := if b.nowNs < b.pwr.busyTo then b.add Reg.PWR_LATE_WAKE n else b

/-- The evaluation of a stitch (R514 to R516). -/
def Chip.powerEval (b : Chip) : Chip :=
  if b.starting then b
  else
    let next := min b.nextUs (2 ^ 32 - 1)
    let s := b.choose next (min 4 (b.r Reg.PWR_MAX_STATE))
    let us := if s = 0 then 0 else b.wakeAt next s
    let b1 := (b.w Reg.PWR_NEXT_US next).w Reg.PWR_WAKE_AT_US us
    (if s < b.pstate then b1.w Reg.PWR_WAKE_CAUSE 0 else b1).enter s us

end Sys2Proof.Machine
end

