-- ==== Sys2Proof/Machine/Reset.lean ====
section
/-!
DEFINITION. What a reset keeps and clears (R87, R98, R99, R122), and entry into SAFE (R90).
-/
namespace Sys2Proof.Machine

/-! ### What outlives a reset -/

/-- The key of a field of the AON domain: PWR, WUR, the cause record, the LF source, the debug flag, and the code of the last update. -/
def aonKey (k : Nat) : Bool :=
  let off := k / 32
  off / 0x10000 == 2 || off / 0x10000 == 9 || off == 0x308 || off == 0x3F0100 || off == (Reg.UPD_LAST_RESULT).off ||
  [Reg.CKR_LF_EN.key, Reg.CKR_LF_QST.key, Reg.CKR_AON_SRC.key, Reg.SEA_CLAIM_IN.key].contains k
/-- Fields that a warm start keeps besides: the seeds and rehash state of the tables, which firmware restores (R400), and the PCIe link, whose
group a warm reset leaves alone (R122). -/
def warmKey (k : Nat) : Bool :=
  let off := k / 32
  decide (0x180150 ≤ off ∧ off ≤ 0x180160) || decide (0x180190 ≤ off ∧ off ≤ 0x1801AC) || off == 0x280100

/-- A crossing of the groups PCIE and JTAG, which a warm reset leaves alone (R122). -/
def ownReset (id : Nat) : Bool := [9, 0xB].contains (Config.crossingInfo id).1 || [9, 0xB].contains (xingDst id)
/-- The block after a reset of a kind: MRAM, flash and the AON domain stay; a warm reset keeps DRAM as well. That a verified load waits for its
REBOOT does not outlast a reset, of which R97 does not speak (DESIGN CHOICE, log entry 88). -/
def Chip.resetTo (b : Chip) (warm : Bool) : Chip :=
  let kept := fun (k : Nat) => aonKey k || (warm && warmKey k)
  let ntc : Ntc := if warm then { msixEn := b.ntc.msixEn, msixMask := b.ntc.msixMask, pba := b.ntc.pba, d3hot := b.ntc.d3hot } else {}
  let fwd : Fwd := if warm then { exm := { shadow := b.fwd.exm.shadow }, lpm := { shadow := b.fwd.lpm.shadow } } else {}
  let c : Chip := { regs := b.regs.filter (fun e => kept e.1)
                    bank := b.bank.filter (fun e => aonKey e.1)
                    ntc := ntc
                    clk := { xing := if warm then b.clk.xing.filter (fun e => ownReset e.1) else [] }
                    rawMem := if warm then b.rawMem else []
                    mac := { nodes := if warm then b.mac.nodes else [] }
                    sec := { ceil := b.sec.ceil }
                    key := { pockets := b.key.pockets, copies := b.key.copies, owners := b.key.owners, ownersOld := b.key.ownersOld,
                             nodeEpoch := b.key.nodeEpoch }
                    fwd := fwd
                    svc := { slots := if warm then b.svc.slots else [] }
                    nv := b.nv
                    boot := { off := 0, wdog := b.boot.wdog }
                    pwr := { b.pwr with exitAt := none, restoring := false, busyTo := 0, heard := [] }
                    freeCtr := b.freeCtr
                    out := b.out }
  ((c.w Reg.PWR_PSTATE 0).wb (Reg.ETH_HELD 0) true).wb (Reg.ETH_HELD 1) true

/-- The whole AON domain is reset (R99, R122). -/
def Chip.aonReset (b : Chip) : Chip := { b with regs := b.regs.filter (fun e => !aonKey e.1), bank := [], pwr := {} }

/-- The bits of RESET_CAUSE. -/
def causeFlag (i : Nat) : Fld := match i with
  | 0 => Reg.GLB_POR
  | 1 => Reg.GLB_BROWNOUT
  | 2 => Reg.GLB_PIN
  | 3 => Reg.GLB_REBOOT_CMD
  | 4 => Reg.GLB_WATCHDOG
  | 5 => Reg.GLB_DEBUG
  | _ => Reg.GLB_REVERT

/-- The supplies fail: a reset, and no start until VIN is good (R98, R521, R523). -/
def Chip.powerLost (b : Chip) (off : Nat) : Chip :=
  let c := ((b.resetTo false).wb Reg.PWR_BATTERY false).wb Reg.PWR_VIN_GOOD false
  if off = 2 then { c.aonReset with boot := { c.boot with off := 2, wdog := false } }
  else { c.wb Reg.GLB_BROWNOUT true with boot := { c.boot with off := 1 } }

/-! ### SAFE (R90, R92) -/

/-- The notice ring is dropped if it lies in DRAM (R92). -/
def Chip.dramRingDrop (b : Chip) : Chip :=
  if b.t Reg.NTC_LOC then
    let b1 := (b.wb Reg.NTC_EN false).wb Reg.NTC_LOC false
    { b1 with ntc := { b1.ntc with ring := [] } }
  else b
/-- DOZE ends at a SAFE entry with the domains on the RC (R527). -/
def Chip.dozeToRc (b : Chip) : Chip :=
  if b.pstate ≠ 4 then b else ((b.w Reg.PWR_PSTATE 0).rcClocks.modPwr (fun x => { x with exitAt := none, restoring := false })).wurTell
/-- A pause that SAFE cuts off (R504): the new set stays CURRENT with TRIAL set. -/
def Chip.pauseDrop (b : Chip) : Chip := if b.r Reg.UPD_PHASE = 4 then Chip.w { b with upd := {} } Reg.UPD_PHASE 0 else b
/-- A port's mode is set: a change reloads its factory latencies (R145). -/
def Chip.portMode (b : Chip) (p m : Nat) : Chip :=
  if b.r (Reg.ETH_MODE p) = m then b
  else ((b.w (Reg.ETH_MODE p) m).w (Reg.TIM_ING_LAT p) (Config.modeLatency p m).1).w (Reg.TIM_EGR_LAT p) (Config.modeLatency p m).2
/-- Ethernet port 0 runs at 1000BASE-X whatever its settings were (R90); a change retrains the link. -/
def Chip.safePort (b : Chip) : Chip :=
  if b.t (Reg.ETH_EN 0) ∧ b.r (Reg.ETH_MODE 0) = 2 then b
  else
    let b1 := (b.wb (Reg.ETH_EN 0) true).portMode 0 2
    (b1.wb (Reg.ETH_LINK 0) false).wb (Reg.ETH_AN_DONE 0) false
/-- The device enters SAFE with an item and a cause code; `mute` is the cause of MUTE_ABORT. A warm start that was due is dropped: SAFE is left by
REBOOT or a cold reset alone (R93). -/
def Chip.safeEnter (b : Chip) (item code mute : Nat) : Chip :=
  let b1 := (b.dozeToRc.muteAll mute).campAbort.actAbort.seaOut
  let b2 := b1.ethHold 1 true
  let b3 := (if b2.limp then b2.ethHold 0 true else b2.wb (Reg.ETH_HELD 0) false).safePort
  let b4 := ((b3.dramRingDrop.w Reg.GLB_SAFE_ITEM item).w Reg.GLB_SAFE_CODE code).w Reg.GLB_STATE 2
  let b4 : Chip := { b4 with boot := { b4.boot with warm := none } }
  let b5 := ((b4.w Reg.PWR_PSTATE 0).modPwr (fun x => { x with exitAt := none })).pauseDrop
  b5.raise Src.GLB N.SAFE_ENTERED (argB item code 0 0 (b5.r Reg.GLB_BOOT_COUNT))

end Sys2Proof.Machine
end

