-- ==== Sys2Proof/Machine/Power.lean ====
section
/-!
DEFINITION. PWR: DOZE exits, the wake receiver, the supplies, battery-backed operation and the thermal governor (R189 to R192, R512 to
R529).
-/
namespace Sys2Proof.Machine

/-! ### The clock chain inside a start or a DOZE exit (R106, R512) -/

/-- One event of the clock chain; `ms` is the time in LIMP that LIMP_EXIT reports. -/
def Chip.clkEv (ms : Nat) (b : Chip) (e : ClkEv) : Chip :=
  match e with
  | .good s => if s = 0 ∨ 3 < s then b else b.ampGood s
  | .fail s => if s = 0 ∨ 3 < s then b else b.ampFail s
  | .coarse s n => if s = 0 ∨ 3 < s then b else b.coarseDone s n ms
  | .fine s n => if s = 0 ∨ 3 < s then b else b.fineDone s n ms
  | .lock p => b.pllGot (2 * b.idleBank + p % 2) ms
def Chip.clkEvs (b : Chip) (ms : Nat) (l : List ClkEv) : Chip := l.foldl (Chip.clkEv ms) b

/-! ### DOZE exits (R512, R513, R518) -/

/-- The clocks of a DOZE exit: the domains run from the RC until a crystal qualifies; with none, the device is in LIMP (R119). No LIMP_EXIT is
raised there (R512). -/
def Chip.dozeClocks (b : Chip) (l : List ClkEv) : Chip :=
  b.rcClocks.clkEvs 0 l
/-- Network time across the dwell: the AON cycles counted, by the AON period last measured (R143). -/
def Chip.dozeTime (b : Chip) (x : WakeIn) : Chip :=
  let d := x.aonCount * b.pwr.aonPer
  let ms := d / nsU / 1000000
  Chip.discont { b with tim := { b.tim with now := (b.tim.now + d) % timeEnd } } 4 (ms % 2 ^ 32) 0 |>.add Reg.PWR_DOZE_MS ms
/-- The temperatures of the radio groups. -/
def Chip.tjRead (b : Chip) (l : List Int) : Chip := (List.range (min 4 l.length)).foldl (fun (c : Chip) g => c.ws (Reg.RFC_TJ g) (l.getD g 0)) b
/-- The exit from DOZE, from the point the entry had reached. -/
def Chip.dozeExit (b : Chip) (cause : Nat) (x : WakeIn) : Chip :=
  let b0 := if x.stage < 2 then b.inc Reg.PWR_DOZE_ABORT else b
  let out := fun (c : Chip) =>
    ((((c.w Reg.PWR_PSTATE 0).w Reg.PWR_WAKE_CAUSE cause).modPwr (fun y => { y with exitAt := none, busyTo := c.nowNs + exitUs 4 * 1000 })).wurTell).xingDeliver
  if x.stage = 0 then (out (b0.domains 0)).rfDriveAll
  else
    let b1 := b0.dozeClocks x.clocks
    let b2 := (Chip.keyCounts { b1 with
      key := { b1.key with cache := [] },
      fwd := { b1.fwd with filt := b1.lens.reverse.map (fun n => (n, filtAll)), refil := b1.lens } }).wb Reg.FWD_REFILTERING (!b1.lens.isEmpty)
    let b3 := b2.modPwr (fun y => { y with restoring := true })
    let b4 := b3.dozeTime x
    if b4.r Reg.CKR_MAIN_SRC = 0 then out ((b4.wb Reg.CKR_LIMP false).limpEnter 0)
    else ((out b4).tjRead x.tj).rfDriveAll
/-- The wake of a cause: from DOZE through its exit, from the other states at once. -/
def Chip.wake (b : Chip) (cause : Nat) (x : WakeIn) : Chip := if b.pstate = 4 then b.dozeExit cause x else b.leave cause
/-- An event, or a value, for a domain that DOZE gates raises a wake request: the device leaves DOZE, and the event is held until its domain runs
(R33, R124). R517 gives this cause no code: WAKE_CAUSE is a free value (log entry 103). -/
def Chip.xingWake (b : Chip) (e : XingEv) : Chip :=
  let b1 := b.xingEvent e.xing e.value
  if b1.pstate = 4 ∧ e.xing < Config.crossingCount ∧ ¬ b1.domainRuns (xingDst e.xing) then
    let r := b1.free 3
    (r.2.dozeExit r.1 e.wake).settle
  else b1
/-- The planned exit comes (R515). -/
def Chip.plannedExit (b : Chip) (x : WakeIn) : Chip :=
  match b.pwr.exitAt with
  | none => b
  | some t =>
    if b.pstate = 4 then b.dozeExit 0 x
    else
      let b1 := b.passTo (t * nsU)
      if b1.nowNs < t then b1 else b1.leave 0

/-- A granule of a class that fails on restore (R513): its table entries are masked, and items with words in its ring cells carry ECC. -/
def Chip.granuleBad (b : Chip) (e : Nat × Nat) : Chip :=
  let inG := fun (n i : Nat) => decide (e.2 * n ≤ i ∧ i < (e.2 + 1) * n)
  match e.1 with
  | 0 | 1 =>
    let t := e.1
    let x := b.tab t
    let bad := (x.ents.map (·.1)).filter (inG 2048)
    bad.foldl (fun (c : Chip) i => c.maskSlot t i) (b.putTab t { x with bad := bad ++ x.bad.filter (fun i => !bad.contains i) })
  | 3 => (b.queues.filter (fun q => inG 32 q.1)).foldl (fun (c : Chip) q =>
      (q.2.items.filter (fun i => (q.2.head ++ q.2.tail).any (fun r => r.1 == i.id))).foldl (fun (c : Chip) i => c.eccData q.1 i.id false) c) b
  | _ => b
/-- The remaining image is restored; a bad CPU, WEAVE or TMG granule ends the exit in a warm start (R513),
which does not leave SAFE (R93). -/
def Chip.restored (b : Chip) (bad : List (Nat × Nat)) : Chip :=
  if !b.pwr.restoring then b
  else
    let b1 := (bad.foldl Chip.granuleBad b).modPwr (fun x => { x with restoring := false })
    if !b1.safe && bad.any (fun e => e.1 == 8 || e.1 == 6 || e.1 == 9) then { b1 with boot := { b1.boot with warm := some 4 } } else b1

/-! ### The wake receiver (R190, R191) -/

/-- The action of a pattern: 0 OFF, 1 WAKE, 2 NOTE. -/
def Chip.wurTry (b : Chip) (rx which : Nat) (x : WakeIn) : Chip :=
  let act := b.r (if which = 0 then Reg.WUR_A_ACT else Reg.WUR_B_ACT)
  let pat := b.r (if which = 0 then Reg.WUR_PAT_A else Reg.WUR_PAT_B)
  let long := b.t (if which = 0 then Reg.WUR_A_LEN else Reg.WUR_B_LEN)
  if ¬ b.wurMatches rx pat long then b
  else
    let woke := act == 1 && b.pstate == 4
    (if woke then b.dozeExit 1 x else b).wurMatch which act woke
def Chip.wurHear (b : Chip) (rx : Nat) (x : WakeIn) : Chip :=
  if !b.wurListens then b else (b.wurTry rx 0 x).wurTry rx 1 x

/-! ### Supplies (R521 to R523) -/

/-- A broadcast frame of EtherType 0x88B5 that carries a notice record, padded to the minimum frame (R92, R522). -/
def Chip.noticeFrame (b : Chip) (p : Nat) (n : Note) : List Nat :=
  let mac := b.r (Reg.ETH_MAC_LO p) + b.r (Reg.ETH_MAC_HI p) * 2 ^ 32
  let record := leBytes n.stitch 4 ++ [n.src, n.sev] ++ leBytes n.code 2 ++ leBytes n.arg 8
  List.replicate 6 0xFF ++ beBytes mac 6 ++ [0x88, 0xB5] ++ (record ++ List.replicate 46 0).take 46
/-- The last gasp of a port. -/
def Chip.gasp (b : Chip) (p : Nat) (n : Note) : Chip :=
  if b.t Reg.PWR_LAST_GASP_EN ∧ b.t (Reg.ETH_LINK p) then b.ethSend p (b.noticeFrame p n) else b
/-- The supply monitor holds a port down (R521). -/
def Chip.supplyHold (b : Chip) (p : Nat) : Chip :=
  let b1 := b.ethHold p true
  if b.t (Reg.ETH_EN p) then b1.override Src.PWR 2 (Reg.ETH_EN p).off 0 (some Reg.PWR_CLAMP_CNT) else b1
/-- The enable of a port that the supply monitor holds down is written: set, it is overridden; clear, the override is over (R37, R521). -/
def Chip.supplyOver (b : Chip) (p : Nat) : Chip :=
  if b.t Reg.PWR_BATTERY && b.t (Reg.ETH_EN p) then b.override Src.PWR 2 (Reg.ETH_EN p).off 0 (some Reg.PWR_CLAMP_CNT)
  else b.overrideEnd 2 (Reg.ETH_EN p).off
/-- VIN is lost (R521, R522). -/
def Chip.vinLost (b : Chip) (vin vbak : Nat) : Chip :=
  if b.boot.off ≠ 0 ∨ ¬ b.t Reg.PWR_VIN_GOOD then b
  else
    let b1 := ((b.w Reg.PWR_VIN_MV vin).w Reg.PWR_VBAK_MV vbak).wb Reg.PWR_VIN_GOOD false
    let batt := b1.ready && b1.t Reg.PWR_BATT_EN && b1.t Reg.PWR_VBAK_GOOD
    let arg := argW (min 65535 vin + min 65535 vbak * 65536) (b2n batt)
    let b2 := b1.raise Src.PWR N.VIN_LOST arg
    if !batt then b2.powerLost 1
    else
      let n : Note := ⟨b2.stitch32, Src.PWR, sevOf N.VIN_LOST, N.VIN_LOST, arg⟩
      let b3 := ((b2.gasp 0 n).gasp 1 n).supplyHold 0 |>.supplyHold 1
      let b4 := ((b3.wb Reg.SEA_BLOCK_LOCK false).wb Reg.SEA_PAIRED false).wb Reg.HIF_LINK_UP false
      (b4.wb Reg.PWR_BATTERY true).inc Reg.PWR_BATT_ENTRIES
/-- VIN has been good for 10 ms (R522). -/
def Chip.vinHeld (b : Chip) (ms : Nat) : Chip :=
  if !b.t Reg.PWR_BATTERY || !b.t Reg.PWR_VIN_GOOD then b
  else
    let rel := fun (c : Chip) (p : Nat) => (if c.limp then c else c.ethHold p false).overrideEnd 2 (Reg.ETH_EN p).off
    ((rel (rel b 0) 1).wb Reg.PWR_BATTERY false).raise Src.PWR N.VIN_RESTORED (argW 0 ms)
/-- VBAK rises through 2.65 V. -/
def Chip.vbakUp (b : Chip) (mv : Nat) : Chip := (b.w Reg.PWR_VBAK_MV mv).wb Reg.PWR_VBAK_GOOD true
/-- VBAK falls through 2.55 V (R521, R523). -/
def Chip.vbakDown (b : Chip) (mv : Nat) : Chip :=
  let b1 := (b.w Reg.PWR_VBAK_MV mv).wb Reg.PWR_VBAK_GOOD false
  if b.boot.off ≠ 0 then b1
  else
    let b2 := b1.raise Src.PWR N.VBAK_LOW (argW (min 65535 mv) 0)
    if b2.t Reg.PWR_BATTERY then (b2.muteAll 0).powerLost 2 else b2

/-! ### The thermal governor (R524 to R527) -/

/-- The highest reading and its sensor. -/
def hottest (l : List Int) : Int × Nat :=
  (List.range l.length).foldl (fun (a : Int × Nat) i => if a.1 < l.getD i 0 then (l.getD i 0, i) else a) (l.headD 0, 0)
/-- The supplies and temperatures of a stitch (R524). -/
def Chip.measure (b : Chip) (x : StitchIn) : Chip :=
  let p := (x.pvinMw :: b.pwr.pvin).take 16
  let b1 := (((b.w Reg.PWR_VIN_MV x.vinMv).w Reg.PWR_VBAK_MV x.vbakMv).w Reg.PWR_PVIN_MW (p.sum / p.length)).modPwr (fun y => { y with pvin := p })
  if x.tj.isEmpty then b1
  else
    let b2 := (List.range (min 8 x.tj.length)).foldl (fun (c : Chip) i => c.ws (Reg.PWR_TJ_S i) (x.tj.getD i 0)) b1
    let h := hottest (x.tj.take 8)
    (b2.ws Reg.PWR_TJ_MAX h.1).w Reg.PWR_TJ_SENSOR h.2
/-- TJ_HIGH, once until the junction has cooled (R527). -/
def Chip.tjHigh (b : Chip) : Chip :=
  let t := b.rs Reg.PWR_TJ_MAX
  if 145 < t ∧ ¬ b.pwr.tjHigh then
    (b.modPwr (fun x => { x with tjHigh := true })).raise Src.PWR N.TJ_HIGH (argB (ofS t 8) (b.r Reg.PWR_TJ_SENSOR) 0 0 0)
  else if t < 140 then b.modPwr (fun x => { x with tjHigh := false })
  else b

/-- The lane codes in the order of shedding. -/
def Chip.shedOrder (b : Chip) : List Nat := (List.range 7).map (fun i => bits (b.r Reg.PWR_SHED_ORDER) (4 * i) 4)
/-- Lanes still receiving: present, enabled and not shed. -/
def Chip.lanesOn (b : Chip) : Nat :=
  ((List.range 7).filter (fun l => b.laneExists l && b.t (Reg.RXP_LANE_EN l) && !bit (b.r Reg.PWR_SHED_MASK) l)).foldl setBit 0
/-- A clamp below the CARRIERS of a chain overrides it (R526). -/
def Chip.clampOver (b : Chip) : Chip :=
  let lim := b.clampTo
  (List.range 4).foldl (fun (c : Chip) g =>
    if lim < c.r (Reg.TXP_CARRIERS g) then
      (if c.chainExists g then c.override Src.PWR 1 (Reg.TXP_TX_EN g).off lim (some Reg.PWR_CLAMP_CNT) else c)
    else c.overrideEnd 1 (Reg.TXP_TX_EN g).off) b
/-- A shed lane whose LANE_EN is set overrides it (R526). -/
def Chip.shedOver (b : Chip) (l : Nat) : Chip :=
  if bit (b.r Reg.PWR_SHED_MASK) l && b.laneExists l && b.t (Reg.RXP_LANE_EN l) then
    b.override Src.PWR 1 (Reg.RXP_LANE_EN l).off b.lanesOn (some Reg.PWR_CLAMP_CNT)
  else b.overrideEnd 1 (Reg.RXP_LANE_EN l).off
/-- LANE_EN is written: the lane starts or stops, and a shed lane's enable is overridden (R198, R526). -/
def Chip.laneSet (b : Chip) (l : Nat) (v : Bool) : Chip := (b.laneEn l v (Reg.RXP_LANE_EN l).off).shedOver l
/-- One more lane is shed (R525, R526). -/
def Chip.shed (b : Chip) : Chip :=
  let n := b.r Reg.PWR_SHED_LANES
  let l := b.shedOrder.getD n 0
  (((b.w Reg.PWR_SHED_LANES (n + 1)).w Reg.PWR_SHED_MASK (setBit (b.r Reg.PWR_SHED_MASK) l)).endLane l CAUSE.LANE_OFF).shedOver l
/-- One lane is restored, in reverse order. -/
def Chip.unshed (b : Chip) : Chip :=
  let n := b.r Reg.PWR_SHED_LANES
  let l := b.shedOrder.getD (n - 1) 0
  ((b.w Reg.PWR_SHED_LANES (n - 1)).w Reg.PWR_SHED_MASK (clrBit (b.r Reg.PWR_SHED_MASK) l)).overrideEnd 1 (Reg.RXP_LANE_EN l).off
/-- The carrier clamp takes a value; a chain with no carrier on air follows at once, the others at their next such instant (R525). -/
def Chip.clampSet (b : Chip) (v : Nat) : Chip :=
  ((List.range 4).foldl (fun (c : Chip) g => c.carriersApply g) (b.w Reg.PWR_CARRIER_CLAMP v)).clampOver
/-- GOV_STEP. -/
def Chip.govStep (b : Chip) (trigger : Nat) : Chip :=
  let b1 := (b.inc Reg.PWR_GOV_STEPS).modPwr (fun x =>
    { x with since := 0, sinceP := if trigger = 0 then 0 else x.sinceP, sinceT := if trigger = 1 then 0 else x.sinceT })
  b1.raise Src.PWR N.GOV_STEP
    (argB trigger (b1.r Reg.PWR_SHED_LANES) (b1.r Reg.PWR_CARRIER_CLAMP) (b1.r Reg.PWR_TJ_MAX) (b1.r Reg.PWR_PVIN_MW))
/-- At most one step at a stitch: power before thermal before restore (R525). -/
def Chip.governor (b : Chip) : Chip :=
  let up := fun (n : Nat) => min 4000 (n + 1)
  let b0 := b.modPwr (fun x => { x with sinceP := up x.sinceP, sinceT := up x.sinceT, since := up x.since })
  let power := decide (15000 < b0.r Reg.PWR_PVIN_MW)
  let hot := decide (135 < b0.rs Reg.PWR_TJ_MAX)
  let b1 := (b0.wb Reg.PWR_GOV_POWER power).wb Reg.PWR_GOV_THERMAL hot
  let k := b1.r Reg.PWR_CARRIER_CLAMP
  let n := b1.r Reg.PWR_SHED_LANES
  if power && decide (16 ≤ b1.pwr.sinceP) && (decide (k < 2) || decide (n < 6)) then
    (if k < 2 then b1.clampSet (k + 1) else b1.shed).govStep 0
  else if hot && decide (400 ≤ b1.pwr.sinceT) && decide (n < 6) then b1.shed.govStep 1
  else if decide (b1.r Reg.PWR_PVIN_MW ≤ 14500) && decide (b1.rs Reg.PWR_TJ_MAX ≤ 130) && decide (4000 ≤ b1.pwr.since) &&
      (decide (0 < n) || decide (0 < k)) then
    (if 0 < n then b1.unshed else b1.clampSet (k - 1)).govStep 2
  else b1

/-! ### The rows -/

/-- PLANNED_EXIT (R515). -/
def execPlannedExit (x : WakeIn) (s : State) : Host.Outcome State Fault Refusal := s.on (fun b => (b.plannedExit x).settle)
/-- DOMAIN_WAKE_REQUEST (R123 to R125). -/
def execDomainWakeRequest (xing : XingEv) (s : State) : Host.Outcome State Fault Refusal := s.on (fun b => b.xingWake xing)
/-- DOZE_RESTORE_COMPLETE (R513). -/
def execDozeRestoreComplete (bad : List (Nat × Nat)) (s : State) : Host.Outcome State Fault Refusal := s.on (fun b => b.restored bad)
/-- SPI_CS_N_WAKE (R517). -/
def execSpiCsNWake (x : WakeIn) (s : State) : Host.Outcome State Fault Refusal :=
  s.on (fun b => if b.pstate = 4 then (b.dozeExit 3 x).settle else b)
/-- WAKE_PATTERN_MATCH (R190). -/
def execWakePatternMatch (rx : Nat) (x : WakeIn) (s : State) : Host.Outcome State Fault Refusal :=
  s.on (fun b => (b.wurHear rx x).settle)
/-- VIN_LOST_CONDITION (R521, R522). -/
def execVinLostCondition (vin vbak : Nat) (s : State) : Host.Outcome State Fault Refusal := s.on (fun b => b.vinLost vin vbak)
/-- VIN_GOOD_HOLD (R522). -/
def execVinGoodHold (ms : Nat) (s : State) : Host.Outcome State Fault Refusal := s.on (fun b => b.vinHeld ms)
/-- VBAK_GOOD (R521). -/
def execVbakGood (mv : Nat) (s : State) : Host.Outcome State Fault Refusal := s.on (fun b => b.vbakUp mv)
/-- VBAK_FALL (R521, R523). -/
def execVbakFall (mv : Nat) (s : State) : Host.Outcome State Fault Refusal := s.on (fun b => b.vbakDown mv)

end Sys2Proof.Machine
end

