-- ==== Sys2Proof/Machine/Start.lean ====
section
/-!
DEFINITION. Starts: the root, the self-test and its report, the Pattern, the bank, the images, the calibrations and READY (R75 to R87), with
the events that start the device.
-/
namespace Sys2Proof.Machine

/-! ### The root's helper data (R78) -/

def Mram.helper (m : Mram) (i : Nat) : List Nat := if i = 0 then m.helper0 else m.helper1
/-- The last four octets are the CRC-32 of those before them. -/
def helperOk (l : List Nat) : Bool := decide (4 ≤ l.length) && fldLE l (l.length - 4) 4 == crc32 (l.take (l.length - 4))
/-- The copy that a start uses: the first whose CRC passes as it is read. -/
def Chip.helperUsed (b : Chip) (x : StartIn) : Option Nat :=
  [0, 1].find? (fun i => helperOk (b.nv.helper i) && !x.helperBad.contains i)

/-! ### The self-test report (R82) -/

/-- Close a report with its CRC. -/
def repClose (l : List Nat) : List Nat := l.take 60 ++ leBytes (crc32 (l.take 60)) 4
def repSet (l : List Nat) (off : Nat) (x : List Nat) : List Nat := repClose (splice l off x)
/-- An item has run in a step: the pass or fail bit, and at the first failure the result. -/
def repItem (l : List Nat) (step : Nat) (e : Nat × Nat) : List Nat :=
  let l1 := repSet l 3 [step]
  if e.2 = OK then repSet l1 4 (leBytes (setBit (fldLE l1 4 4) e.1) 4)
  else
    let l2 := repSet l1 8 (leBytes (setBit (fldLE l1 8 4) e.1) 4)
    if l2.getD 2 0 = 0 then repSet l2 1 [e.2, e.1] else l2
def Chip.repAdd (b : Chip) (step : Nat) (l : List (Nat × Nat)) : Chip :=
  { b with boot := { b.boot with report := l.foldl (fun r e => repItem r step e) b.boot.report } }
/-- The time to READY or SAFE. -/
def Chip.repMs (b : Chip) (ms : Nat) : Chip :=
  Chip.w { b with boot := { b.boot with report := repSet b.boot.report 52 (leBytes ms 4) } } Reg.GLB_START_MS ms
/-- RESET_CAUSE as one word. -/
def Chip.causeWord (b : Chip) : Nat := ((List.range 7).filter (fun i => b.t (causeFlag i))).foldl setBit 0

/-- The items of steps 2 and 3 and their cause codes (R81). -/
def Chip.selfTest (b : Chip) (x : StartIn) : List (Nat × Nat) :=
  let ok := fun (p : Bool) (c : Nat) => if p then OK else c
  let dram := decide (0 < x.dramMib) && x.dramEcc
  let flash := decide (0 < x.flashMib) && x.bankHdr
  [(2, ok (!b.boot.rootBad) KEY_INVALID), (3, ok (x.sramBad.2 == 0) ECC_FAULT), (4, ok (x.mram.2 == 0) ECC_FAULT),
   (5, ok (x.crypto == 0) AUTH_FAIL), (6, ok (b.r Reg.CKR_MAIN_SRC != 0) NO_RESOURCE), (7, ok dram ECC_FAULT),
   (8, ok flash NO_RESOURCE), (9, ok (x.loopPass % 2048 == 0x7FF) ABORTED)]
/-- The report at the end of step 3, without results. -/
def Chip.report0 (b : Chip) (x : StartIn) : List Nat :=
  let copy := (b.helperUsed x).getD 0
  let fixed := if (b.helperUsed x).isSome then x.bch.getD 0 else 0
  repClose ([1, 0, 0, 3] ++ List.replicate 8 0 ++ leBytes x.sramBad.1 2 ++ leBytes x.sramBad.2 2 ++ leBytes x.mram.1 4 ++ leBytes x.mram.2 4 ++
    leBytes x.crypto 2 ++ [b.r Reg.CKR_MAIN_SRC, 0] ++ leBytes (x.loopPass % 2048) 2 ++ leBytes x.dramMib 2 ++ leBytes x.flashMib 4 ++
    leBytes fixed 2 ++ [b.r Reg.GLB_TEST_ROOT + 2 * copy, 0] ++ leBytes (b.r Reg.GLB_BOOT_COUNT) 4 ++ leBytes b.causeWord 4 ++
    leBytes x.bistUs 4 ++ List.replicate 12 0)

/-! ### Steps 2 and 3 (R78 to R80) -/

/-- Network time at the end of a step; the boundaries that pass within the start are part of it. -/
def Chip.timeAt (b : Chip) (x : StartIn) (i : Nat) : Chip :=
  let t := x.times.getD i 0 * nsU % timeEnd
  let n := t / stitchU
  if b.tim.started && decide (b.tim.now ≤ t) then { b with tim := { b.tim with now := t, stitch := n, nextB := n + 1, lastB := n } } else b
/-- The strap is sampled at a cold start; the root, real or substitute, is reconstructed. -/
def Chip.rootStep (b : Chip) (cold : Bool) (x : StartIn) : Chip :=
  let b1 := if !cold then b
    else
      let c := b.wb Reg.DBG_STRAP x.strap
      if x.strap then c else c.wb Reg.DBG_REQ false
  let test := b1.t Reg.DBG_STRAP && b1.t Reg.DBG_REQ
  let ok := test || ((b1.helperUsed x).isSome && x.bch.isSome)
  let b2 := ((b1.wb Reg.GLB_TEST_ROOT test).wb Reg.DBG_TEST_ROOT test).wb Reg.KEY_TEST_ROOT test
  let b3 := (b2.wb Reg.GLB_ROOT_OK ok).wb Reg.KEY_ROOT_OK ok
  let b4 := b3.w Reg.KEY_HELPER_COPY ((b1.helperUsed x).getD 0)
  { b4 with boot := { b4.boot with rootBad := !ok } }
/-- The clocks come up from the RC in LIMP, bank 0 active, until a crystal qualifies (R119). -/
def Chip.clockStep (b : Chip) (x : StartIn) : Chip :=
  let b0 := if b.limp then b.domains limpDomains else b
  let b1 := [1, 2].foldl (fun (c : Chip) s => if c.t (enFld s) then c.w (qstFld s) 1 else c) (b0.wb Reg.CKR_A0_LOCK true)
  let b2 := if b1.t Reg.CKR_LF_EN ∧ b1.qst 3 = 0 then b1.w Reg.CKR_LF_QST 1 else b1
  ((b2.clkEvs x.limpMs x.clocks).rcMeasured x.rcEst).settle
/-- BOOT_COUNT, the root, the clocks and the self-test. -/
def Chip.firstSteps (b : Chip) (cold : Bool) (x : StartIn) : Chip :=
  let n := satAdd 32 b.nv.boot 1
  let b1 := Chip.w { b with nv := { b.nv with boot := n } } Reg.GLB_BOOT_COUNT n
  let b2 := ((b1.rootStep cold x).clockStep x).timeAt x 0
  let b3 := { b2 with boot := { b2.boot with dramMib := x.dramMib, flashMib := x.flashMib } }
  let b4 := ((b3.modNv Mram.judged).updShow.setOwners (if x.ownerCut then b3.key.ownersOld else b3.key.owners)).w Reg.KEY_NODE_EPOCH b3.key.nodeEpoch
  Chip.repAdd { b4 with boot := { b4.boot with report := b4.report0 x } } 3 (b4.selfTest x)

/-! ### Step 4 (R67, R83, R359, R361, R400) -/

/-- The former content of a pocket whose exchange is not finished: its superseded copy, where the partner it names is not RETIRED in its favour
(R359). A partner that holds another key is left alone (log entry 119). -/
def Chip.exchangeCut (b : Chip) (p : Nat) : Option (Nat × Pocket) :=
  (b.pocket p).bind (fun x =>
    let open_ := match b.pocket x.partner with
      | none => true
      | some q => q.state == PS.BASTED && q.partner == p
    if x.state == PS.ACTIVE && x.partner != 0xFFFF && open_ then
      ((b.key.superseded p).filter (fun o => o.state == PS.ACTIVE && decide (o.epoch < x.epoch))).map (fun o => (x.partner, o))
    else none)
/-- An exchange that power loss cut off is finished: the partner becomes RETIRED with the former content; `n` are finished at this start
(R359, R375). -/
def Chip.exchangeEnd (b : Chip) (p n : Nat) : Chip :=
  match b.exchangeCut p with
  | some (q, o) => (b.commitPocket q (some { o with state := PS.RETIRED, partner := p, rewrap := false })).raise Src.KEY N.KEY_RECOVERED (argW p n)
  | none => b
/-- The copies whose CRC no longer passes are set aside: the current record is that of the other copy, and a pocket with neither is EMPTY
(R350). -/
def Chip.copiesJudged (b : Chip) (bad : List Nat) : Chip :=
  let worn : KV PockCopy := bad.foldl (fun (m : KV PockCopy) i => kput m i { kgetD m i {} with ok := false }) b.key.copies
  let k : Key := { b.key with copies := worn }
  let hit := distinct (bad.map (· / 2))
  let ps := hit.foldl (fun (m : KV Pocket) p => match (k.current p).body with
    | some x => kput m p x
    | none => kdel m p) k.pockets
  let lost := hit.filter (fun p => (k.side p).isNone)
  let b1 := Chip.add { b with key := { k with pockets := ps } } Reg.KEY_POCKET_LOST lost.length
  match lost with
  | [] => b1
  | p :: _ => b1.raise Src.KEY N.POCKET_LOST (argW p lost.length)
/-- Pockets beneath one that is ORPHANED are marked with it (R361). -/
def Chip.orphansMarked (b : Chip) : Chip :=
  let ps := b.key.pockets
  let bad := (ps.filter (fun e => e.2.state == PS.ORPHANED)).map (·.1)
  let more := (ps.filter (fun e => e.2.state != PS.ORPHANED && chainMeets ps bad e.1 4096)).map (·.1)
  let b1 := more.foldl (fun (c : Chip) p => c.modPocket p (fun x =>
    { x with state := PS.ORPHANED, wasActive := x.state == 2, rewrap := false })) b
  match more with
  | [] => b1
  | p :: _ => (b1.add Reg.KEY_ORPHAN_CNT more.length).raise Src.KEY N.KEY_ORPHANED_SET (argW p more.length)
/-- KEY at the start of step 4 (R350, R359, R361). -/
def Chip.keyStart (b : Chip) (badCopies : List Nat) : Chip :=
  let b2 := b.copiesJudged badCopies
  let cut := (b2.key.pockets.map (·.1)).filter (fun p => (b2.exchangeCut p).isSome)
  let b3 := cut.foldl (fun (c : Chip) p => c.exchangeEnd p cut.length) b2
  let b4 := ((b3.key.pockets.filter (fun e => e.2.promoting)).map (·.1)).foldl
    (fun (c : Chip) p => c.modPocket p (fun x => { x with promoting := false })) b3
  let b5 := b4.orphansMarked
  let stale := (b5.key.pockets.filter (fun e => b5.childStale e.2 && (b5.unwrapped e.2).isSome)).map (·.1)
  let b6 : Chip := { b5 with key := { b5.key with rewrap := stale } }
  (b6.orphanZero.wb Reg.KEY_REWRAP_BUSY (!stale.isEmpty)).keyCounts

/-- A Pattern copy that has passed is loaded: the structure, its registers and what it fixes elsewhere; the tables come back from the
shadow that DRAM has kept. -/
def Chip.loadPat (b : Chip) (old p : Pat) (copy : Nat) : Chip :=
  let b1 := ((Chip.patShow { b with pat := p } copy).loadDefaults).parkSources
  let b2 := (List.range 4).foldl (fun (c : Chip) g => c.wb (Reg.RFC_PRESENT g) (c.groupPresent g)) b1
  let b3 := (b2.w Reg.SCH_COLUMNS b2.cols).w Reg.QMG_SPILL_RESERVED b2.spillReserved
  let b4 := b3.groupsShow.rxCounts
  let b5 := (b4.tableBack 0 (old.exmEntries == p.exmEntries)).tableBack 1 (old.lpmPrefixes == p.lpmPrefixes)
  let count := fun (st : Nat) => (b5.mac.nodes.filter (fun e => cx e.2 Cx.STATE == st)).length
  let b6 := ((b5.w Reg.SCH_SYNCED_CNT (count 3)).w Reg.SCH_DRIFTING_CNT (count 4)).w Reg.SCH_LOST_CNT (count 5)
  (b6.mac.nodes.foldl (fun (c : Chip) e => c.dlSync e.1) b6).cacheCount

/-- Validation of the copies: the block after it, and the code of the CURRENT copy's failing step where neither passes. -/
def Chip.patStep (b : Chip) (old : Pat) : Chip × Nat :=
  let k := b.nv.curCopy
  let o := b.nv.otherCopy
  let try_ := fun (i : Nat) => checkPat b.key.owners b.boot.dramMib 262144 (b.nv.copy i).data
  match try_ k with
  | .inr p => (b.loadPat old p k, OK)
  | .inl e =>
    let b1 := b.patReject k e
    if (b.nv.copy o).st ≠ 1 then (b1, e.code)
    else match try_ o with
      | .inl e2 => (b1.patReject o e2, e.code)
      | .inr p =>
        let b2 := b1.modNv (fun n => { (n.markCopy k 3).markCopy o 2 with curCopy := o })
        ((b2.raise Src.UPD N.PATTERN_FALLBACK (argB o 0 0 0 0)).loadPat old p o, OK)

/-! ### Step 5 (R84, R85, R500) -/

/-- A bank that may be used: it holds a verified bundle that names the loaded hash. -/
def Chip.bankNames (b : Chip) (k : Nat) : Bool :=
  let a := b.nv.bank k
  (a.st == 2 || a.st == 3) && manPattern a.manifest == b.pat.hash
/-- Its verification: OK or the code that fails. -/
def Chip.bankCheck (b : Chip) (k : Nat) : Nat :=
  let a := b.nv.bank k
  match verifySet b.key.owners a.data.length none (a.manifest ++ a.data.drop a.manifest.length) with
  | none => OK
  | some x => x.code
/-- The other bank is used: the set record is committed with it, and the refused bank is marked; `aside` says that it was set aside, not verified
(R84). The record is committed with TRIAL clear, of which R84 and R494 do not speak (DESIGN CHOICE, log entry 105). -/
def Chip.bankFall (b : Chip) (k code : Nat) (aside : Bool) : Chip :=
  let c := 1 - k
  let n := b.nv
  let names := (n.copy n.otherCopy).st == 1 && (n.copy n.otherCopy).hash == manPattern (n.bank c).manifest
  let st := if aside ∧ names ∧ (n.bank c).st ≠ 4 then 2 else if (n.bank c).st = 0 ∨ (n.bank c).st = 1 then (n.bank c).st else 4
  let b1 := b.modNv (fun m => { (m.markBank c st).markBank k 3 with curBank := k, trial := false })
  b1.raise Src.UPD N.BANK_FALLBACK (argB k code 0 0 0)
/-- The choice of a bank: the block after it, and OK or the code with which MANIFEST fails. -/
def Chip.bankStep (b : Chip) : Chip × Nat :=
  let c := b.nv.curBank
  let o := b.nv.otherBank
  let fail := fun (code : Nat) => (b, if code = VERSION_MISMATCH then VERSION_MISMATCH else AUTH_FAIL)
  if b.bankNames c then
    let r := b.bankCheck c
    if r = OK then (b, OK)
    else if b.bankNames o && b.bankCheck o == OK then (b.bankFall o r false, OK)
    else fail r
  else if b.bankNames o then
    (if b.bankCheck o = OK then (b.bankFall o VERSION_MISMATCH true, OK) else fail (b.bankCheck o))
  else fail VERSION_MISMATCH

/-- The owner of the record whose migration fails. -/
def Mram.migrateBad (n : Mram) (owner : Nat) (m : List Nat) : Nat × Nat :=
  match (n.settings.filter (fun r => r.writer == owner)).find? (fun r => (migrateOne m r).isNone) with
  | some r => (r.ownerType, r.ownerIndex)
  | none => (0, 0)
/-- The first start of a new set (R500): none where no migration is due, else whether it succeeded. -/
def Chip.migrateStep (b : Chip) : Chip × Option Bool :=
  let n := b.nv
  let m := (n.bank n.curBank).manifest
  if !n.trial || n.settings.any (fun r => r.writer == manVer m) || (kget n.keep (manVer m)).isSome then (b, none)
  else match n.migrated (n.ver n.otherBank) m with
    | none => (b, some false)
    | some l => ((b.modNv (fun x => x.adopt (n.ver n.otherBank) m l)).add Reg.UPD_RECORDS_MIGRATED l.length, some true)

/-! ### Steps 6 and 7, and READY (R76, R87, R172, R585) -/

/-- A calibration of step 7, with what that step calibrates besides (R172). -/
def Chip.calStart (b : Chip) (g : Nat) (m : CalMeas) (iq : StepCal) : Chip :=
  let r : CalRes := { tj := m.tj, stitch := b.stitch32, vco := m.vco, gain := m.gain, frac := m.frac, dc := m.dc, status := OK }
  let b1 := (b.inc (Reg.RFC_CAL_CNT g)).modGrp g (fun x => { x with cal := some r, iq := some iq, valid := true, trigger := 0, forced := false, waited := 0 })
  ((b1.ws (Reg.RFC_TJ g) m.tj).calDone g OK m.tj).w (Reg.RFC_STATE g) RFS.SYNTH
/-- Every present group has its calibration. -/
def Chip.calsOk (b : Chip) (x : StartIn) : Bool :=
  !x.calFailed && (List.range 4).all (fun g => !b.groupPresent g || x.cals.any (fun e => e.1 == g))
/-- The device reaches READY. -/
def Chip.readyNow (b : Chip) (x : StartIn) : Chip :=
  let b1 := ((b.w Reg.GLB_STATE 1).w Reg.GLB_STEP 7).repMs (x.ms % 2 ^ 32)
  let b2 := ((b1.w Reg.GLB_LOADED_BANK b1.nv.curBank).modNv (fun n => { n with trial := false })).updShow
  let b3 := b2.key.pockets.foldl (fun (c : Chip) e =>
    if e.2.state = PS.RETIRED then c.modPocket e.1 (fun p => { p with retireAt := (c.stitch32 + c.graceStitches) % 2 ^ 32 }) else c) b2
  let keep := kgetD b3.nv.keep (b3.r Reg.UPD_CUR_MANIFEST_VER) {}
  let b4 := (b3.modSvc (fun s => { s with ctxs := keep.ctxs, rpl := keep.rpl })).w Reg.SVC_RUNNING b3.pat.svcMask
  let par := if b4.twin then 1 + b4.nv.pairEpoch % 2 else 0
  let b5 := ((b4.w Reg.SEA_PAIR_EPOCH b4.nv.pairEpoch).wb Reg.SEA_STBY_REC b4.nv.stbyRec).w Reg.SEC_PARITY par
  let b6 := (b5.ethHold 0 false).ethHold 1 false
  let b7 : Chip := { b6 with tim := { b6.tim with wdog := some 0 } }
  let b8 := b7.raise Src.GLB N.READY (argB (b7.r Reg.GLB_PATTERN_COPY) b7.nv.curBank 0 0 x.ms)
  b8.rfDriveAll.seaListen 0

/-- A failing step: the set of a first start is reverted, any other start ends in SAFE (R77, R85). -/
def Chip.stepFails (b : Chip) (x : StartIn) (step item code : Nat) (part : Nat × Nat) : Chip :=
  let b1 := b.repAdd step [(item, code)]
  if b1.nv.trial ∧ 0x0C ≤ item then b1.revertSet code part.1 part.2 else (b1.safeEnter item code 0).repMs (x.ms % 2 ^ 32)
/-- Steps 5 to 7. -/
def Chip.lastSteps (b : Chip) (x : StartIn) : Chip :=
  let (b1, code) := (b.w Reg.GLB_STEP 5).bankStep
  if code ≠ OK then b1.stepFails x 5 0x0B code (0, 0)
  else
    let (b2, mig) := b1.migrateStep
    let n := b2.nv
    if mig = some false then
      (b2.repAdd 5 [(0x0B, OK)]).stepFails x 5 0x0C VERSION_MISMATCH (n.migrateBad (n.ver n.otherBank) (n.bank n.curBank).manifest)
    else
      let b2 := b2.w Reg.GLB_LOADED_BANK b2.nv.curBank
      let b3 := ((b2.repAdd 5 (if mig = some true then [(0x0B, OK), (0x0C, OK)] else [(0x0B, OK)])).timeAt x 2).updShow.w Reg.GLB_STEP 6
      match x.silent with
      | some p => b3.stepFails x 6 0x0D ABORTED p
      | none =>
        let lost := x.ctxEcc.filter (fun i => decide (i < b3.pat.nodeCount) && b3.ns i != NS.EMPTY)
        let b4 := (((lost.foldl (fun (c : Chip) i => c.ctxLost i) b3).repAdd 6 [(0x0D, OK)]).timeAt x 3).w Reg.GLB_STEP 7
        if !b4.calsOk x then b4.stepFails x 7 0x0E ABORTED (4, 0)
        else
          let once := fun (c : Chip) (g : Nat) => match x.cals.find? (fun e => e.1 == g) with
            | some e => if c.groupPresent g then c.calStart g e.2 (kgetD x.iq g {}) else c
            | none => c
          let b5 := (((List.range 4).foldl once b4).repAdd 7 [(0x0E, OK)]).timeAt x 4
          b5.readyNow x

/-- A start from step 2 on; `old` is the structure before it. -/
def Chip.start (b : Chip) (cold : Bool) (old : Pat) (x : StartIn) : Chip :=
  let b1 := b.firstSteps cold x
  match (b1.selfTest x).find? (fun e => e.2 != OK) with
  | some e => ((b1.w Reg.GLB_STEP 3).safeEnter e.1 e.2 0).repMs (x.ms % 2 ^ 32)
  | none =>
    let b2 := ((b1.w Reg.GLB_STEP 4).keyStart x.pockBad).dropBlocks
    let (b3, code) := b2.patStep old
    if code ≠ OK then b3.stepFails x 4 0x0A code (0, 0)
    else ((b3.repAdd 4 [(0x0A, OK)]).timeAt x 1).lastSteps x

/-! ### What starts the device (R75, R98, R521, R522) -/

/-- VIN rises through its power-good threshold: a cold start, or the end of a power state on battery. -/
def Chip.vinGood (b : Chip) (x : StartIn) : Chip :=
  if b.boot.off = 0 then
    if b.t Reg.PWR_BATTERY then
      ((b.wb Reg.PWR_VIN_GOOD true).wake 2 { clocks := x.clocks, stage := 2, aonCount := x.aonCount }).settle
    else b
  else
    let por := b.boot.off == 2 || x.aonLost
    let b1 := if x.aonLost then (b.resetTo false).aonReset else b.resetTo false
    let b2 := (if por then b1.wb Reg.GLB_POR true else b1).wb Reg.PWR_VIN_GOOD true
    b2.start true {} x
/-- RST_N held low. -/
def Chip.rstLow (b : Chip) (x : StartIn) : Chip :=
  if b.boot.off ≠ 0 then b
  else if b.t Reg.PWR_BATTERY then (b.wb Reg.GLB_PIN true).powerLost 1
  else ((b.resetTo false).wb Reg.GLB_PIN true).start true {} x
/-- A warm start that is due. -/
def Chip.warmGo (b : Chip) (x : StartIn) : Chip :=
  match b.boot.warm with
  | none => b
  | some c =>
    let b1 := b.wb (causeFlag c) true
    if b1.boot.off ≠ 0 then b
    else if b1.t Reg.PWR_BATTERY then b1.powerLost 1
    else (b1.resetTo true).start false b.pat x
/-- The watchdog of the control processors (R98); a second one, which enters SAFE, sets the WATCHDOG cause bit too (DESIGN CHOICE, log entry
89). -/
def Chip.watchdog (b : Chip) (again : Bool) : Chip :=
  if !b.ready then b
  else if again && b.boot.wdog then (b.wb Reg.GLB_WATCHDOG true).safeEnter 0x10 ABORTED 0
  else { b with boot := { b.boot with warm := some 4, wdog := true } }
/-- The thermal trip (R94, R527). -/
def Chip.thermalTrip (b : Chip) : Chip := if b.boot.off ≠ 0 ∨ b.safe then b else b.safeEnter 0x0F ABORTED 2

/-- VIN_GOOD (R75). -/
def execVinGood (x : StartIn) (s : State) : Host.Outcome State Fault Refusal :=
  s.onReset (s.b.boot.off != 0) (fun b => b.vinGood x)
/-- RST_N_LOW (R98). -/
def execRstNLow (x : StartIn) (s : State) : Host.Outcome State Fault Refusal :=
  s.onReset (s.b.boot.off == 0) (fun b => b.rstLow x)
/-- WARM_START (R98). -/
def execWarmStart (x : StartIn) (s : State) : Host.Outcome State Fault Refusal :=
  s.onReset (s.b.boot.off == 0 && s.b.boot.warm.isSome) (fun b => b.warmGo x)
/-- WATCHDOG_EXPIRY (R98). -/
def execWatchdogExpiry (again : Bool) (s : State) : Host.Outcome State Fault Refusal := s.on (fun b => b.watchdog again)
/-- THERMAL_TRIP (R94). -/
def execThermalTrip (s : State) : Host.Outcome State Fault Refusal := s.on Chip.thermalTrip

end Sys2Proof.Machine
end

