-- ==== Sys2Proof/Machine/Diag.lean ====
section
/-!
DEFINITION. The diagnostic command set, the SAFE beacon, the console lines that act as diagnostic commands, and debug (R92, R95 to R97, R370,
R541, R553).
-/
namespace Sys2Proof.Machine

/-! ### DIAG_STATUS and READ_REPORT (R95) -/

def Chip.stateWord (b : Chip) : Nat :=
  b.r Reg.GLB_STATE + b.r Reg.GLB_STEP * 2 ^ 4 + b.r Reg.GLB_TEST_ROOT * 2 ^ 8 + b.r Reg.GLB_ROOT_OK * 2 ^ 9
def Chip.safeWord (b : Chip) : Nat := b.r Reg.GLB_SAFE_ITEM + b.r Reg.GLB_SAFE_CODE * 2 ^ 8

def Chip.diagStatus (b : Chip) : CmdOut := b.done [b.stateWord, b.safeWord, b.causeWord, b.r Reg.GLB_BOOT_COUNT]
/-- The report is there from the end of step 3 on. -/
def Chip.readReport (b : Chip) : CmdOut :=
  if b.boot.report.isEmpty then b.fail WRONG_STATE else b.done (toWords b.boot.report 16)

/-! ### READ_ATTEST (R370) -/

/-- Debug is enabled (R80, R553). -/
def Chip.debugOn (b : Chip) : Bool := b.t Reg.DBG_STRAP && b.t Reg.DBG_REQ
/-- ROLE of a statement: 0 SINGLE, 1 ACTIVE, 2 STANDBY. -/
def Chip.attestRole (b : Chip) : Nat := if b.r Reg.SEA_ROLE = 0 then 0 else if b.r Reg.SEA_ROLE = 3 then 1 else 2
/-- The running manifest; empty before step 5 has chosen its bank. -/
def Chip.running (b : Chip) : List Nat := if b.r Reg.GLB_STEP < 6 then [] else (b.nv.bank b.nv.curBank).manifest
/-- The octets that are signed. -/
def Chip.attestBody (b : Chip) : List Nat :=
  let m := b.running
  let parts := if m.isEmpty then [] else manParts m
  let flags := b2n b.debugOn + 2 * b.r Reg.GLB_TEST_ROOT + 4 * b.attestRole + 16 * b2n b.safe
  let epoch := if b.r Reg.SEA_ROLE = 0 then 0 else b.r Reg.SEA_PAIR_EPOCH
  leBytes 0x4B594154 4 ++ leBytes 1 2 ++ leBytes (172 + 40 * parts.length) 2 ++ leBytes (b.r Reg.GLB_DEVICE_ID_LO) 4 ++
    leBytes (b.r Reg.GLB_DEVICE_ID_HI) 4 ++ leBytes 0x7160 2 ++ [0xC0, flags] ++ leBytes (b.r Reg.GLB_BOOT_COUNT) 4 ++
    leBytes b.tim.stitch 8 ++ ofWords ((List.range 8).map (b.arg cbGLB)) ++ identPub (b.t Reg.GLB_TEST_ROOT) ++
    (if b.pat.hash.isEmpty then List.replicate 32 0 else b.pat.hash) ++ leBytes (if m.isEmpty then 0 else manVer m) 4 ++ leBytes epoch 4 ++
    [parts.length, 0, 0, 0] ++ (parts.map (fun (p : PartEnt) => [p.type, p.index, 0, 0] ++ leBytes p.ver 4 ++ p.hash)).flatten
/-- The whole statement; `n` numbers the secret number of the signature, which the spec leaves free. -/
def Chip.statement (b : Chip) (n : Nat) : List Nat :=
  let body := b.attestBody
  let cert := if b.t Reg.GLB_TEST_ROOT then [] else vendorCert
  body ++ ecdsaSign (identKey (b.t Reg.GLB_TEST_ROOT)) (asScalar (Config.freeValue n)) (sha256 body) ++ leBytes cert.length 2 ++ [0, 0] ++ cert
/-- READ_ATTEST runs: it was accepted, in READY or SAFE, with a root. -/
def Chip.attests (b : Chip) : Bool := !b.t (cbBUSY cbGLB) && !b.starting && !b.boot.rootBad
/-- READ_ATTEST; the statement that stands in the result buffer is the one of the block before the command. -/
def Chip.readAttest (b : Chip) (len : Nat) : CmdOut :=
  if b.starting then b.fail WRONG_STATE
  else if b.boot.rootBad then b.fail KEY_INVALID
  else Chip.done { b with freeCtr := b.freeCtr + 1 } [len]

/-! ### LOAD_MANIFEST (R96) -/

/-- A failure of the verification by the codes that R95 lists: a signer that is no owner is an authentication failure. -/
def loadCode (c : Nat) : Nat := if c = KEY_INVALID then AUTH_FAIL else c
/-- A load that has failed: the bank and the copy stay unmarked. -/
def Chip.loadGone (b : Chip) : Chip :=
  Chip.updShow (Chip.modNv { b with boot := { b.boot with load := none, loaded := false } }
    (fun n => (n.putBank n.otherBank { st := 0 }).putCopy n.otherCopy { gen := (n.copy n.otherCopy).gen + 1 }))
/-- The manifest is verified after the last chunk. -/
def Chip.loadEnd (b : Chip) (size : Nat) (stored : Bool) : CmdOut :=
  match b.verifyLoad none stored with
  | (b1, some x) => ⟨b1.loadGone, loadCode x.code, [size]⟩
  | (b1, none) => Chip.done (Chip.updShow { b1 with boot := { b1.boot with load := none, loaded := true } }) [size]
/-- A chunk. -/
def Chip.loadManifest (b : Chip) (chunk : List Nat) (stored : Bool) : CmdOut :=
  let got := b.boot.load.getD 0
  if !b.safe then ⟨b, WRONG_STATE, [got]⟩
  else match b.chunkBad cbGLB b.boot.load with
    | some c => ⟨b, c, [got]⟩
    | none =>
      let b1 := if bit (b.arg cbGLB 3) 0 then b.modNv Mram.startLoad else b
      let size := b.arg cbGLB 1 + b.arg cbGLB 2
      let b2 := b1.modNv (fun n => n.putBank n.otherBank { n.bank n.otherBank with data := (n.bank n.otherBank).data ++ chunk })
      let b3 := Chip.updShow { b2 with boot := { b2.boot with load := some size, loaded := false } }
      if bit (b.arg cbGLB 3) 1 then b3.loadEnd size stored else b3.done [size]

/-! ### REBOOT (R94, R97) -/

/-- REBOOT by its ARG0: the warm start is due 1 ms after DONE. The junction is judged by PWR_TJ_MAX, the reading of the last stitch, which a
thermal trip does not raise by itself: R94 names no reading (DESIGN CHOICE, log entry 77). -/
def Chip.reboot (b : Chip) (a0 : Nat) : CmdOut :=
  let swap := bit a0 0
  if b.starting || decide (145 < b.rs Reg.PWR_TJ_MAX) || (swap && !b.boot.loaded) then b.fail WRONG_STATE
  else
    let b1 : Chip := { b with boot := { b.boot with warm := some 3 } }
    if !swap then b1.done []
    else
      let n := b1.nv.swap 2 1 true
      (Chip.setOwners { b1 with nv := n } (n.bankOwners n.curBank)).done []

/-! ### The SAFE beacon (R92) -/

/-- A beacon on every live path: the notice record holds the SAFE_ENTERED argument, whose octets 10 and 11 are free for the sequence number, cut to
16 bits (DEDUCED, log entry 36). -/
def Chip.safeBeacon (b : Chip) : Chip :=
  if !b.safe then b
  else
    let b1 := b.inc Reg.GLB_SAFE_BEACON_SEQ
    let item := b1.r Reg.GLB_SAFE_ITEM
    let code := b1.r Reg.GLB_SAFE_CODE
    let boot := b1.r Reg.GLB_BOOT_COUNT
    let seq := b1.r Reg.GLB_SAFE_BEACON_SEQ
    let arg := argB item code (seq % 256) (seq / 256 % 256) boot
    let n : Note := ⟨b1.stitch32, Src.GLB, sevOf N.SAFE_BEACON, N.SAFE_BEACON, arg⟩
    let b2 := (b1.raise Src.GLB N.SAFE_BEACON arg).fire 1
    let b3 : Chip := { b2 with ntc := { b2.ntc with safeIrq := true } }
    let b4 := if b3.parked 8 then b3 else b3.emit (.uartBeacon item code boot seq)
    if b4.t (Reg.ETH_LINK 0) && !b4.t (Reg.ETH_HELD 0) then b4.ethSend 0 (b4.noticeFrame 0 n) else b4

/-! ### The console (R541) -/

/-- An answer of the console, where its pins are not parked (R560). -/
def Chip.console (b : Chip) (o : Out) : Chip := if b.parked 8 then b else b.emit o
/-- An error answer whose code the spec does not state: a free one of the codes of failure that R13 lists, never a reserved one (R14). -/
def Chip.consoleErr (b : Chip) : Chip :=
  if b.parked 8 then b
  else
    let (c, b1) := b.free 8
    b1.emit (.uartErr (2 + c % 20))
def Chip.consoleStatus (b : Chip) : Chip :=
  b.console (.uartStatus (b.r Reg.GLB_STATE) (b.r Reg.GLB_STEP) (b.r Reg.GLB_SAFE_ITEM) (b.r Reg.GLB_SAFE_CODE) (b.r Reg.GLB_BOOT_COUNT))
def Chip.consoleReport (b : Chip) : Chip :=
  b.console (if b.starting ∨ b.boot.report.isEmpty then .uartErr WRONG_STATE else .uartReport b.boot.report)
def Chip.consoleReboot (b : Chip) : Chip :=
  if b.parked 8 then b
  else
    let r := b.reboot 0
    r.b.emit (if r.code = OK then .uartOk else .uartErr r.code)

/-! ### Debug (R553) -/

/-- DEBUG_REQ changes and the warm start with the DEBUG cause is due. -/
def Chip.debugSet (b : Chip) (v : Bool) : CmdOut :=
  (Chip.wb { b with boot := { b.boot with warm := some 5 } } Reg.DBG_REQ v).done []
def Chip.debugEnable (b : Chip) : CmdOut :=
  if b.arg cbDBG 0 ≠ 0x44424745 then b.fail BAD_ARG
  else if !b.ready || !b.t Reg.DBG_STRAP || b.t Reg.DBG_REQ then b.fail WRONG_STATE
  else b.debugSet true
def Chip.debugDisable (b : Chip) : CmdOut := if !b.ready || !b.t Reg.DBG_REQ then b.fail WRONG_STATE else b.debugSet false

/-! ### The rows -/

/-- SAFE_BEACON_PERIOD (R92). -/
def execSafeBeaconPeriod (s : State) : Host.Outcome State Fault Refusal := s.on Chip.safeBeacon
/-- DIAG_STATUS (R95). -/
def execDiagStatus (irq : Bool) (s : State) : Host.Outcome State Fault Refusal := s.on (fun b => b.cmd cbGLB irq Chip.diagStatus)
/-- READ_REPORT (R95). -/
def execReadReport (irq : Bool) (s : State) : Host.Outcome State Fault Refusal := s.on (fun b => b.cmd cbGLB irq Chip.readReport)
/-- READ_ATTEST (R95, R370). -/
def execReadAttest (irq : Bool) (s : State) : Host.Outcome State Fault Refusal :=
  let st := s.b.statement s.b.freeCtr
  .next { s with b := s.b.cmd cbGLB irq (fun c => c.readAttest st.length), mem := if s.b.attests then s.mem.write 0x1000 st else s.mem }
/-- LOAD_MANIFEST (R96). -/
def execLoadManifest (irq stored : Bool) (s : State) : Host.Outcome State Fault Refusal :=
  s.on (fun b => b.cmd cbGLB irq (fun c => c.loadManifest (s.mem.read 0x1000 (min 4096 (c.arg cbGLB 2))) stored))
/-- REBOOT (R97). -/
def execReboot (irq : Bool) (s : State) : Host.Outcome State Fault Refusal :=
  s.on (fun b => b.cmd cbGLB irq (fun c => c.reboot (c.arg cbGLB 0)))
/-- CONSOLE_STATUS (R541). -/
def execConsoleStatus (s : State) : Host.Outcome State Fault Refusal := s.on Chip.consoleStatus
/-- CONSOLE_REPORT (R541). -/
def execConsoleReport (s : State) : Host.Outcome State Fault Refusal := s.on Chip.consoleReport
/-- CONSOLE_REBOOT (R541). -/
def execConsoleReboot (s : State) : Host.Outcome State Fault Refusal := s.on Chip.consoleReboot
/-- CONSOLE_LINE_TOO_LONG (R541). -/
def execConsoleLineTooLong (s : State) : Host.Outcome State Fault Refusal := s.on (fun b => b.console .uartErrLen)
/-- DEBUG_ENABLE (R553). -/
def execDebugEnable (irq : Bool) (s : State) : Host.Outcome State Fault Refusal := s.on (fun b => b.cmd cbDBG irq Chip.debugEnable)
/-- DEBUG_DISABLE (R553). -/
def execDebugDisable (irq : Bool) (s : State) : Host.Outcome State Fault Refusal := s.on (fun b => b.cmd cbDBG irq Chip.debugDisable)

end Sys2Proof.Machine
end

