-- ==== Sys2Proof/Machine/QueueOps.lean ====
section
/-!
DEFINITION. What producers and consumers of queues do, as the events of QMG report it (R413 to R419, R423).
-/
namespace Sys2Proof.Machine

/-- What follows a change of a queue's items: the scheduler judges it again, MAC learns of the node's count (R417, R431). -/
def Chip.qChanged (b : Chip) (q node : Nat) : Chip :=
  let b1 := b.tmgQ q
  if (b.q q).consumer = CONS_NODE ∧ node < b.pat.nodeCount then b1.dlChanged node else b1

/-- An item of a queue and the node it is for. -/
def Chip.itemNode (b : Chip) (q id : Nat) : Nat := match (b.q q).find id with
  | some i => i.node
  | none => noNode

/-- A consumer of the event names an item that is taken. -/
def Chip.isTaken (b : Chip) (q id : Nat) : Bool := ((b.q q).find id).any (fun (i : Item) => i.taken)

/-- ITEM_OPEN (R413), with the octets that the producer writes while the item stays open, from which a cut-through queue may offer it (R418); a
frame for a node whose state bars it is discarded (R299). -/
def Chip.evOpen (b : Chip) (q size prio node : Nat) (data : List Nat) : Chip :=
  if b.pat.queueCount ≤ q then b
  else if (b.q q).consumer = CONS_NODE ∧ node < b.pat.nodeCount ∧ b.dlBars node false then b.inc Reg.MAC_DL_DISCARD
  else
    let o := b.openItem q size (prio % 8) node false
    (if data.isEmpty ∨ o.id = 0 then o.b else o.b.writeItem q o.id data).qChanged q node

/-- ITEM_TAKE (R416, R423): `ecc` is what reading the item meets, 1 corrected, 2 a data word, 3 its tag word, 0 nothing. -/
def Chip.evTake (b : Chip) (q node ecc : Nat) (dram : Bool) : Chip :=
  if b.pat.queueCount ≤ q then b
  else if (b.q q).hasTaken node then b
  else match b.presents q node with
    | none => b
    | some i =>
      if ecc = 3 then (b.eccTag q i.id dram).qChanged q i.node
      else
        let b1 := (b.takeItem q node).1
        let b2 := if ecc = 1 then b1.eccCorrected q dram else if ecc = 2 then b1.eccData q i.id dram else b1
        b2.tmgQ q

/-- ITEM_RELEASE (R416). -/
def Chip.evRelease (b : Chip) (q id : Nat) : Chip :=
  if b.isTaken q id then (b.releaseItem q id).qChanged q (b.itemNode q id) else b
/-- ITEM_RETURN (R416). -/
def Chip.evReturn (b : Chip) (q id : Nat) : Chip := if b.isTaken q id then (b.returnItem q id).tmgQ q else b
/-- ITEM_DROP_REST (R419). -/
def Chip.evDrop (b : Chip) (q id : Nat) : Chip :=
  if b.isTaken q id then (b.dropRest q id).qChanged q (b.itemNode q id) else b

/-- FRONT_PUSH (R416): MAC pushes a frame to the front of a node's list; it does not push into a queue that is not a NODE queue (R408). -/
def Chip.evFront (b : Chip) (q node : Nat) (data : List Nat) : Chip :=
  if b.pat.queueCount ≤ q ∨ b.pat.nodeCount ≤ node then b
  else if (b.q q).consumer ≠ CONS_NODE then b.inc Reg.MAC_DL_DISCARD
  else if b.dlBars node (match b.sealKindOf node data with
    | .join _ => true
    | _ => false) then b.inc Reg.MAC_DL_DISCARD
  else (b.pushItem q (b.txHeader node data ++ data) 7 node true).b.qChanged q node

/-- CONFIG_Q (R425): the scheduler judges the queue again under its new settings (R431). -/
def Chip.configCmd (b : Chip) : CmdOut :=
  let o := b.configQ
  if o.code = OK then { o with b := o.b.tmgQ (b.arg cbQMG 0) } else o

/-- FLUSH (R425): MAC learns of every node whose list it empties. -/
def Chip.flushCmd (b : Chip) : CmdOut :=
  let q := b.arg cbQMG 0
  let nodes := distinct (((b.q q).items.map (·.node)).filter (fun n => decide (n < b.pat.nodeCount)))
  let o := b.flushQ
  { o with b := (nodes.foldl (fun c n => c.dlSync n) o.b).tmgQ q }

end Sys2Proof.Machine
end

