-- ==== Sys2Proof/Machine/Host.lean ====
section
/-!
DEFINITION. HIF and NTC: the notice ring, interrupt moderation, the PCIe endpoint, the descriptor rings, and the SPI frames that access no
register (R89, R534 to R539, R544 to R547, R551).
-/
namespace Sys2Proof.Machine

def Chip.modNtc (b : Chip) (f : Ntc → Ntc) : Chip := { b with ntc := f b.ntc }
def Chip.modHif (b : Chip) (f : Hif → Hif) : Chip := { b with hif := f b.hif }

/-! ### The notice ring (R89, R92, R544) -/

/-- EN is set: the early buffer is written in order, then EARLY_LOST. -/
def Chip.earlyOut (b : Chip) : Chip :=
  let l := b.ntc.early
  let n := b.ntc.earlyLost
  let b1 := l.foldl Chip.toRing (b.modNtc (fun x => { x with early := [], earlyLost := 0 }))
  if n = 0 then b1 else b1.toRing ⟨b1.stitch32, Src.GLB, sevOf N.EARLY_LOST, N.EARLY_LOST, argW 0 n⟩

/-- A write of the word that holds EN, LOC and MIN_SEV. -/
def Chip.ntcCtl (b : Chip) (v : Nat) : Chip :=
  let on := b.t Reg.NTC_EN
  if b.safe && bit v 1 then b.locked
  else
    let b1 := b.w Reg.NTC_MIN_SEV (bits v 4 2)
    let b2 := if !on then b1.wb Reg.NTC_LOC (bit v 1)
      else if bit v 1 != b.t Reg.NTC_LOC then b1.locked
      else b1
    let b3 := b2.wb Reg.NTC_EN (bit v 0)
    if bit v 0 && !on then b3.earlyOut else b3

/-! ### Interrupt moderation (R537) -/

/-- The vectors under moderation. -/
def moderated (v : Nat) : Bool := v == 0 || decide (4 ≤ v ∧ v ≤ 19)
/-- HOLDOFF_US has passed since a source's first event. -/
def Chip.holdoff (b : Chip) (v : Nat) : Chip :=
  if !moderated v || kgetD b.ntc.mod v 0 == 0 then b else (b.modNtc (fun x => { x with mod := kset 0 x.mod v 0 })).fire v
/-- Several events of a moderated source. -/
def Chip.modEvents (b : Chip) (v n : Nat) : Chip := (List.range n).foldl (fun (c : Chip) _ => c.modEvent v) b

/-! ### The PCIe endpoint (R122, R534, R535) -/

/-- The device can master the bus. -/
def Chip.pcieUp (b : Chip) : Bool := b.t Reg.HIF_LINK_UP && b.t Reg.HIF_BUS_MASTER && !b.ntc.d3hot

/-- The link trains or goes down; a parked group never trains. -/
def Chip.pcieLink (b : Chip) (up : Bool) (width speed : Nat) : Chip :=
  if b.boot.off ≠ 0 then b
  else if up && !b.parked 5 then ((b.wb Reg.HIF_LINK_UP true).w Reg.HIF_WIDTH width).w Reg.HIF_SPEED speed
  else ((b.wb Reg.HIF_LINK_UP false).w Reg.HIF_WIDTH 0).w Reg.HIF_SPEED 0

/-- Vectors that rose while masked send their message once they are unmasked. -/
def Chip.pbaSend (b : Chip) : Chip :=
  if !b.ntc.msixEn || b.ntc.d3hot then b
  else
    (List.range 32).foldl (fun (c : Chip) v =>
      if bit c.ntc.pba v && !bit c.ntc.msixMask v then (c.modNtc (fun x => { x with pba := clrBit x.pba v })).emit (.msix v) else c) b
/-- A configuration write. -/
def Chip.pcieConfig (b : Chip) (busMaster d3hot msixEn : Bool) (mask : Nat) : Chip :=
  ((b.wb Reg.HIF_BUS_MASTER busMaster).modNtc (fun x =>
    { x with d3hot := d3hot, msixEn := msixEn, msixMask := mask % 2 ^ 32 })).pbaSend

/-- The host rings are disabled and their contents abandoned; the counters of the group return to zero. -/
def Chip.ringsOff (b : Chip) : Chip :=
  ((List.range 8).foldl (fun (c : Chip) r =>
    let c1 := (c.wb (Reg.HIF_RX_EN r) false).wb (Reg.HIF_TX_EN r) false
    c1.zeroCnt [Reg.HIF_RX_DONE_CNT r, Reg.HIF_RX_FAIL_CNT r, Reg.HIF_TX_DONE_CNT r, Reg.HIF_TX_FAIL_CNT r]) b).modHif
    (fun h => { h with rx := [], tx := [] })
/-- PCIE_HOT_RESET: 0 hot reset, 1 function-level reset, 2 PERST_N. -/
def Chip.pcieReset (b : Chip) (kind : Nat) : Chip :=
  if b.boot.off ≠ 0 ∨ 2 < kind then b
  else
    let b1 := if kind = 1 then b.ringsOff else b.ringsOff.pcieLink false 0 0
    let b2 := if b1.t Reg.NTC_EN ∧ ¬ b1.t Reg.NTC_LOC then b1.wb Reg.NTC_EN false else b1
    let b3 := b2.modNtc (fun x => { x with msixEn := false, msixMask := 2 ^ 32 - 1, pba := 0, d3hot := false })
    ((b3.wb Reg.HIF_BUS_MASTER false).xingDrop 9).raise Src.HIF N.PCIE_RESET (argB kind 0 0 0 0)

/-! ### Descriptor rings (R546, R547, R551) -/

def rxBase (r : Nat) : Nat := 0x280200 + 0x20 * r
def txBase (r : Nat) : Nat := 0x280400 + 0x20 * r
def ringEn (tx : Bool) (r : Nat) : Fld := if tx then Reg.HIF_TX_EN r else Reg.HIF_RX_EN r
def ringLog (tx : Bool) (r : Nat) : Fld := if tx then Reg.HIF_TX_SIZE_LOG2 r else Reg.HIF_RX_SIZE_LOG2 r
def ringTail (tx : Bool) (r : Nat) : Fld := if tx then Reg.HIF_TX_TAIL r else Reg.HIF_RX_TAIL r
def ringHead (tx : Bool) (r : Nat) : Fld := if tx then Reg.HIF_TX_HEAD r else Reg.HIF_RX_HEAD r
def Chip.ringSize (b : Chip) (tx : Bool) (r : Nat) : Nat := 2 ^ b.r (ringLog tx r)

/-- A write of the word that holds SIZE_LOG2 and EN. -/
def Chip.ringCtl (b : Chip) (tx : Bool) (r v : Nat) : Chip :=
  let n := bits v 0 4
  let on := b.t (ringEn tx r)
  if n < 6 ∨ 12 < n then b
  else
    let b1 := if !on then b.w (ringLog tx r) n else if n ≠ b.r (ringLog tx r) then b.locked else b
    let b2 := b1.wb (ringEn tx r) (bit v 8)
    if bit v 8 && !on then
      ((b2.w (ringHead tx r) 0).w (ringTail tx r) 0).modHif
        (fun h => if tx then { h with tx := kdel h.tx r } else { h with rx := kdel h.rx r })
    else b2

/-- Descriptors that a write of TAIL hands over. -/
def Chip.posted (b : Chip) (tx : Bool) (r tail : Nat) : Nat :=
  let n := b.ringSize tx r
  (tail % n + n - b.r (ringTail tx r) % n) % n

/-- Host software posts receive buffers: address and length of each, zeros where it wrote none. -/
def Chip.rxPost (b : Chip) (r tail : Nat) (descs : List (Nat × Nat)) : Chip :=
  let n := b.posted false r tail
  let new := (descs ++ List.replicate n (0, 0)).take n
  let b1 := b.w (Reg.HIF_RX_TAIL r) tail
  if b.t (Reg.HIF_RX_EN r) then b1.modHif (fun h => { h with rx := kput h.rx r (kgetD h.rx r [] ++ new) }) else b1

/-- A posted length that no buffer may have. -/
def badLen (n : Nat) : Bool := n == 0 || n % 64 != 0 || decide (16384 < n)
/-- RING_ERR, with the ring disabled. -/
def Chip.ringBad (b : Chip) (tx : Bool) (r code index : Nat) : Chip :=
  (b.wb (ringEn tx r) false).raise Src.HIF N.RING_ERR (argB (b2n tx) r code 0 index)
/-- How many of the posted descriptors an item of `n` octets takes: `.inl` the index of a bad one, `.inr none` when there are too few. -/
def fitDescs (l : List (Nat × Nat)) (n k : Nat) : Sum Nat (Option Nat) :=
  match l with
  | [] => .inr none
  | d :: t => if badLen d.2 then .inl k else if n ≤ d.2 then .inr (some (k + 1)) else fitDescs t (n - d.2) (k + 1)
/-- The descriptors written back for an item (R546). -/
def backDescs (q : Nat) (i : Item) (l : List (Nat × Nat)) (left : Nat) : List (List Nat) :=
  match l with
  | [] => []
  | d :: t =>
    let n := min left d.2
    let ts := i.ts.getD (0, 0, false)
    let flags := b2n (decide (n < left)) + 2 * b2n i.ts.isSome + 4 * b2n ts.2.2 + 8 * b2n i.aborted + 16 * b2n i.ecc + 32 * (i.prio % 8)
    (leBytes d.1 8 ++ leBytes d.2 2 ++ leBytes n 2 ++ leBytes q 2 ++ [i.src % 4, flags] ++ leBytes ts.1 6 ++ leBytes ts.2.1 4 ++
      List.replicate 6 0) :: backDescs q i t (left - n)

/-- The receive ring of a HOST queue (R551). -/
def Chip.ringOf (b : Chip) (q : Nat) : Nat := bits (b.r (Reg.HIF_HOST_RING_MAP (q / 8))) (4 * (q % 8)) 3
/-- HOST queues of a ring that present a closed item. -/
def Chip.ringQs (b : Chip) (r : Nat) : List Nat :=
  (List.range b.pat.queueCount).filter (fun q => (b.q q).consumer == CONS_HOST && b.ringOf q == r && !(b.q q).hasTaken noNode &&
    (b.presents q noNode).any (fun (i : Item) => i.closed))
/-- An item of a queue is written into posted buffers and released. -/
def Chip.deliverOf (b : Chip) (r q : Nat) : Chip :=
  match b.presents q noNode, kgetD b.hif.rx r [] with
  | some i, d :: t =>
    let size := b.ringSize false r
    let head := b.r (Reg.HIF_RX_HEAD r)
    match fitDescs (d :: t) i.len 0 with
    | .inl k => if badLen d.2 ∨ i.len ≤ d.2 * (size - 1) then b.ringBad false r BAD_LENGTH ((head + k) % size)
                else (b.dropRest q i.id).inc (Reg.HIF_RX_FAIL_CNT r)
    | .inr fit =>
      if d.2 * (size - 1) < i.len then (b.dropRest q i.id).inc (Reg.HIF_RX_FAIL_CNT r)
      else match fit with
        | none => b
        | some k =>
          let used := (d :: t).take k
          let b1 := (b.emit (.hostRx r i.data (backDescs q i used i.len))).w (Reg.HIF_RX_HEAD r) ((head + k) % size)
          let b2 := (b1.modHif (fun h => { h with rx := kput h.rx r ((d :: t).drop k) })).inc (Reg.HIF_RX_DONE_CNT r)
          (b2.releaseItem q i.id).modEvents (4 + r) k
  | _, _ => b
/-- HOST_RX_DELIVERY; which of the ring's queues comes next is not stated. -/
def Chip.deliver (b : Chip) (r : Nat) : Chip :=
  let qs := b.ringQs r
  if 7 < r ∨ ¬ b.t (Reg.HIF_RX_EN r) ∨ ¬ b.pcieUp ∨ qs.isEmpty then b
  else
    let (n, b1) := b.free 13
    b1.deliverOf r (qs.getD (n % qs.length) 0)

/-- A whole chain is judged and pushed (R547): the block after it and its STATUS. -/
def Chip.txChain (b : Chip) (l : List TxDesc) : Chip × Nat :=
  let d := l.headD { len := 0, queue := 0, prio := 0, last := true, data := [] }
  let n := (l.map (·.len)).sum
  if n = 0 ∨ 16383 < n ∨ 16 < l.length then (b, BAD_LENGTH)
  else if b.pat.queueCount ≤ d.queue ∨ (b.q d.queue).consumer ≠ CONS_SCHED then (b, BAD_ARG)
  else
    let data := (l.map (fun (x : TxDesc) => (x.data ++ List.replicate x.len 0).take x.len)).flatten
    let o := b.pushItem d.queue data (d.prio % 8) noNode false
    if o.code ≠ OK then (o.b, NO_RESOURCE) else (o.b.qChanged d.queue noNode, OK)
/-- STATUS is written into the first descriptor and HEAD advances past the chain. -/
def Chip.txDone (b : Chip) (r : Nat) (l : List TxDesc) : Chip :=
  let (b1, st) := b.txChain l
  let head := b1.r (Reg.HIF_TX_HEAD r)
  let b2 := ((b1.emit (.hostTx r head st)).w (Reg.HIF_TX_HEAD r) ((head + l.length) % b1.ringSize true r)).inc (Reg.HIF_TX_DONE_CNT r)
  (if st = OK then b2 else b2.inc (Reg.HIF_TX_FAIL_CNT r)).modEvents (12 + r) l.length
/-- Descriptors come one after the other; a chain ends with LAST. -/
def Chip.txRead (b : Chip) (r : Nat) (l : List TxDesc) : Chip :=
  match l with
  | [] => b
  | d :: t =>
    let chain := kgetD b.hif.tx r [] ++ [d]
    if d.last then (Chip.txDone (b.modHif (fun h => { h with tx := kdel h.tx r })) r chain).txRead r t
    else (b.modHif (fun h => { h with tx := kput h.tx r chain })).txRead r t
/-- Host software posts packets. -/
def Chip.txPost (b : Chip) (r tail : Nat) (descs : List TxDesc) : Chip :=
  let n := b.posted true r tail
  let none_ : TxDesc := { len := 0, queue := 0, prio := 0, last := false, data := [] }
  let b1 := b.w (Reg.HIF_TX_TAIL r) tail
  if b.t (Reg.HIF_TX_EN r) && b.pcieUp then b1.txRead r ((descs ++ List.replicate n none_).take n) else b1

/-! ### SPI frames (R539, R540) -/

def Chip.spiOut (b : Chip) (l : List Nat) : Chip := b.emit (.spi l)
/-- CORE runs. -/
def Chip.coreRuns (b : Chip) : Bool := b.boot.off == 0 && b.pstate != 4
/-- STATUS, which clears FRAME_ERR. -/
def Chip.spiStatus (b : Chip) : Chip :=
  let v := b2n b.coreRuns + 2 * b2n b.hif.spiErr + 4 * b2n b.hostIrq + 8 * b.r Reg.GLB_STATE
  (b.modHif (fun h => { h with spiErr := false })).spiOut [v]
/-- A frame error. -/
def Chip.spiBad (b : Chip) : Chip := (b.modHif (fun h => { h with spiErr := true })).inc Reg.HIF_SPI_FRAME_ERR

/-! ### The rows -/

/-- NOTICE_RING_ENABLE (R89, R551). -/
def execNoticeRingEnable (_rq : Requester) (value : Word) (s : State) : Host.Outcome State Fault Refusal :=
  s.on (fun b => b.gated 5 (fun c => c.ntcCtl value.toNat))
/-- INTERRUPT_HOLDOFF (R537). -/
def execInterruptHoldoff (vector : Nat) (s : State) : Host.Outcome State Fault Refusal := s.on (fun b => b.holdoff vector)
/-- PCIE_LINK_CHANGE (R534). -/
def execPcieLinkChange (up : Bool) (width speed : Nat) (s : State) : Host.Outcome State Fault Refusal := s.on (fun b => b.pcieLink up width speed)
/-- PCIE_CONFIG_WRITE (R534). -/
def execPcieConfigWrite (busMaster d3hot msixEn : Bool) (mask : Nat) (s : State) : Host.Outcome State Fault Refusal :=
  s.on (fun b => b.pcieConfig busMaster d3hot msixEn mask)
/-- PCIE_HOT_RESET (R535). -/
def execPcieHotReset (kind : Nat) (s : State) : Host.Outcome State Fault Refusal := s.on (fun b => b.pcieReset kind)
/-- TRST_N (R122): the JTAG group's crossings are reset. -/
def execTrstN (s : State) : Host.Outcome State Fault Refusal := s.on (fun b => b.xingDrop 0xB)
/-- RING_ENABLE (R551). -/
def execRingEnable (_rq : Requester) (tx : Bool) (ring : Nat) (value : Word) (s : State) : Host.Outcome State Fault Refusal :=
  s.on (fun b => if 7 < ring then b else b.gated 0x28 (fun c => c.ringCtl tx ring value.toNat))
/-- RX_RING_POST (R546). -/
def execRxRingPost (_rq : Requester) (ring tail : Nat) (descs : List (Nat × Nat)) (s : State) : Host.Outcome State Fault Refusal :=
  s.on (fun b => if 7 < ring then b else b.gated 0x28 (fun c => c.rxPost ring tail descs))
/-- HOST_RX_DELIVERY (R546). -/
def execHostRxDelivery (ring : Nat) (s : State) : Host.Outcome State Fault Refusal := s.on (fun b => b.deliver ring)
/-- TX_RING_POST (R547). -/
def execTxRingPost (_rq : Requester) (ring tail : Nat) (descs : List TxDesc) (s : State) : Host.Outcome State Fault Refusal :=
  s.on (fun b => if 7 < ring then b else b.gated 0x28 (fun c => c.txPost ring tail descs))
/-- SPI_STATUS (R539). -/
def execSpiStatus (s : State) : Host.Outcome State Fault Refusal := s.on Chip.spiStatus
/-- UNKNOWN_COMMAND_OCTET (R540). -/
def execUnknownCommandOctet (s : State) : Host.Outcome State Fault Refusal := s.on Chip.spiBad

end Sys2Proof.Machine
end

