-- ==== Sys2Proof/Machine/TimeOps.lean ====
section
/-!
DEFINITION. What the commands and events of TIM and TMR do to the block (R131 to R161). The effects of a discontinuity on the
other blocks follow in Machine/Hooks.lean.
-/
namespace Sys2Proof.Machine

/-- The offsets of the multi-word registers of TIM (R160). -/
def offINCR : Nat := 0x40020
def offSTEP : Nat := 0x40028
def offSET : Nat := 0x40030

/-- A write of INCR_LO (R28, R131). -/
def Chip.incrCommit (b : Chip) (rq : Requester) (v : Nat) : Chip :=
  let hi := (b.stagedAt rq (offINCR + 4)).getD (b.r Reg.TIM_INCR_HI) % 256
  let x := hi * 2 ^ 32 + v % 2 ^ 32
  let b1 := b.unstage rq [offINCR + 4]
  if 17162689315 ≤ x ∧ x ≤ 17197049053 then
    let b2 := (b1.w Reg.TIM_INCR_LO v).w Reg.TIM_INCR_HI hi
    Chip.servoCommit { b2 with tim := { b2.tim with pendIncr := some x } }
  else b1.inc Reg.TIM_INCR_REJ_CNT

/-- A write of STEP_FRAC (R28, R133): the upper word counts as 0 where it is not staged. The time it is judged by is the present one with the
steps that wait, without the increment of the tick to come (DESIGN CHOICE, log entry 112). -/
def Chip.stepCommit (b : Chip) (rq : Requester) (v : Nat) : Chip :=
  let s : Int := toS ((b.stagedAt rq (offSTEP + 4)).getD 0) 32 * 65536 + ((v % 65536 : Nat) : Int)
  let b1 := b.unstage rq [offSTEP + 4]
  let t : Int := (b.tim.now : Int) + stepU (b.tim.pendStep.getD 0 + s)
  if t < 0 ∨ (timeEnd : Int) ≤ t then b1.inc Reg.TIM_INCR_REJ_CNT
  else if s = 0 then b1.servoCommit
  else (b1.stepAdd s).servoCommit

/-- A write of SET_FRAC (R28, R134). -/
def Chip.setCommit (b : Chip) (rq : Requester) (v : Nat) : Chip :=
  let ns := (b.stagedAt rq (offSET + 4)).getD 0
  let sec := (b.stagedAt rq (offSET + 8)).getD 0 + (b.stagedAt rq (offSET + 12)).getD 0 % 65536 * 2 ^ 32
  let b1 := b.unstage rq [offSET + 4, offSET + 8, offSET + 12]
  if 999999999 < ns then b1.inc Reg.TIM_INCR_REJ_CNT
  else
    Chip.servoCommit { b1 with tim := { b1.tim with
      pendSet := some ((sec * 1000000000 + ns) * nsU + v % 65536 * 65536) } }

/-- A write of 1 to HOLDOVER_REQ (R138). -/
def Chip.holdoverReq (b : Chip) : Chip :=
  if b.t Reg.TIM_HOLDOVER then b.wb Reg.TIM_HOLDOVER_REQ true
  else (b.wb Reg.TIM_HOLDOVER_REQ true).holdover 1

/-- SERVO_WDOG stitches have passed without a servo commit (R138). -/
def Chip.holdoverTimeout (b : Chip) : Chip :=
  let lim := b.r Reg.TIM_SERVO_WDOG
  match b.tim.wdog with
  | some n => if lim ≠ 0 ∧ lim ≤ n ∧ ¬ b.t Reg.TIM_HOLDOVER then b.holdover 0 else b
  | none => b

/-- A timestamp record reaches a port's FIFO (R147 to R149); `w0` is its first word without the DISC flag. -/
def Chip.tsPush (b : Chip) (port : Nat) (w0 w1 w2 w3 : Nat) : Chip :=
  let q := kgetD b.tim.fifo port []
  if 64 ≤ q.length then
    let b1 := b.inc (Reg.TIM_TS_LOST port)
    if b1.t (Reg.TIM_TS_OVR port) then b1
    else (b1.wb (Reg.TIM_TS_OVR port) true).raise Src.TIM N.TS_OVERRUN (argB port 0 0 0 (b1.r (Reg.TIM_TS_LOST port)))
  else
    let d := if b.tim.fifoDisc.contains port then setBit w0 3 else w0
    let q1 := q ++ [[d, w1, w2, w3]]
    Chip.w { b with tim := { b.tim with fifo := kput b.tim.fifo port q1 } } (Reg.TIM_TS_DEPTH port) q1.length

/-- A read of TS_W0 (R149): the head record into the reader's latch set. -/
def Chip.tsPop (b : Chip) (rq : Requester) (port : Nat) : Chip × Nat :=
  let q := kgetD b.tim.fifo port []
  let rec0 := q.headD [0, 0, 0, 0]
  let off := 0x40110 + 0x40 * port
  let b1 := b.latchWords rq off rec0
  let b2 := { b1 with tim := { b1.tim with
    fifo := kput b1.tim.fifo port q.tail, fifoDisc := b1.tim.fifoDisc.filter (· != port) } }
  (b2.w (Reg.TIM_TS_DEPTH port) q.tail.length, rec0.headD 0)

/-- The samples a window's capture area holds, in units of 1,024 (R63, R232). -/
def windowMax : Nat := 256

/-- The arming of a trigger channel (R150, R151, R560). A refused arm records its code and starts nothing; a channel armed before stays so, but for
a single shot whose target has passed. A target equal to the network time of the arm has passed (DESIGN CHOICE, log entry 110). -/
def Chip.trigArm (b : Chip) (n : Nat) : Chip :=
  let p := b.r (Reg.TIM_TRG_PERIOD n)
  let len := b.r (Reg.TIM_TRG_WIDTH_LEN n)
  let refuse := fun (code : Nat) => b.w (Reg.TIM_TRG_CODE n) code
  let go : Chip :=
    let t := b.trigTarget n
    let armed := fun (t : Nat) =>
      let b1 := (b.wb (Reg.TIM_TRG_ARM n) true).w (Reg.TIM_TRG_CODE n) OK
      { b1 with tim := { b1.tim with trig := kput b1.tim.trig n t } }
    if b.tim.now < t * nsU then armed t
    else if p = 0 then b.trigDisarm n LATE
    else armed (t + cdiv (b.tim.now + stitchU - t * nsU) (p * nsU) * p)
  if n < 8 then
    if b.parked (if n < 4 then 0x18 else 0x19) then refuse BAD_ARG
    else if p % 4 ≠ 0 then refuse BAD_ARG
    else if p ≠ 0 ∧ p ≤ len * 4 then refuse BAD_ARG
    else go
  else if p % 4 ≠ 0 then refuse BAD_ARG
  else if len = 0 ∨ windowMax < len then refuse BAD_LENGTH
  else if !b.laneExists (b.r (Reg.TIM_TRG_LANE n)) then (b.structReject (Reg.TIM_TRG_ARM n).off).w (Reg.TIM_TRG_CODE n) BAD_ARG
  else go

/-- A write of a trigger channel's control word (R150, R583). -/
def Chip.trigCtrl (b : Chip) (n v : Nat) : Chip :=
  if 6 < bits v 4 4 ∨ (n < 8 ∧ bits v 16 16 = 0) then b
  else
    let b1 := ((b.w (Reg.TIM_TRG_POL n) (bits v 1 1)).w (Reg.TIM_TRG_LANE n) (bits v 4 4)).w (Reg.TIM_TRG_WIDTH_LEN n) (bits v 16 16)
    if bit v 0 then b1.trigArm n else b1

/-- The oldest window of a trigger channel ends: its samples stand in the channel's quarter of the capture area, from its start (R232). -/
def Chip.windowEnd (b : Chip) (n : Nat) (samples : List Nat) : Chip :=
  match b.rawCap.find? (fun e => e.chan == n) with
  | none => b
  | some e =>
    let x := (samples.take (e.len * 1024)).map (· % 2 ^ 32)
    { b with rawCap := b.rawCap.filter (fun w => w.lane != e.lane), rawMem := kput b.rawMem n (x ++ (kgetD b.rawMem n []).drop x.length) }

/-- A host write to a timer channel is taken only where the Pattern gives the channel to host software (R54, R71). -/
def Chip.hostTimer (b : Chip) (n off : Nat) (f : Chip → Chip) : Chip :=
  if b.t (Reg.TMR_HOST_OWNED n) then f b else b.structReject off

/-- ARM of a timer channel (R156). -/
def Chip.tmrArm (b : Chip) (n : Nat) : Chip :=
  let b1 := b.wb (Reg.TMR_DISC n) false
  match b1.r (Reg.TMR_MODE n) with
  | 1 => b1.wb (Reg.TMR_RUNNING n) true
  | 2 => (b1.w (Reg.TMR_COUNT n) (b1.r (Reg.TMR_START n))).wb (Reg.TMR_RUNNING n) true
  | _ => b1

/-- STOP of a timer channel (R156). -/
def Chip.tmrStop (b : Chip) (n : Nat) : Chip := b.wb (Reg.TMR_RUNNING n) false

/-- A write of COMPARE (R155). -/
def Chip.tmrCompare (b : Chip) (n v : Nat) : Chip := (b.w (Reg.TMR_COMPARE n) v).wb (Reg.TMR_CMP_ARMED n) true

/-- The source of a channel is a pin of the parked TEV group (R560). -/
def Chip.tevParked (b : Chip) (src : Nat) : Bool := decide (src < 8) && b.parked 0x1A

/-- A new level on the capture source, held for a number of TIME samples (R157). -/
def Chip.capLevel (b : Chip) (n : Nat) (level : Bool) (samples : Nat) : Chip :=
  let c := kgetD b.cap n {}
  if b.tevParked (b.r (Reg.TMR_CAP_SRC n)) then b
  else if samples < b.r (Reg.TMR_FILT_N n) ∨ level = c.lvl ∨ ¬ b.t (Reg.TMR_CAP_EN n) then b
  else Chip.capEdge { b with cap := kput b.cap n { c with lvl := level } } n level

/-- A read of CAPTURE (R158). -/
def Chip.capRead (b : Chip) (n : Nat) : Chip × Nat :=
  let v := b.r (Reg.TMR_CAPTURE n)
  if b.t (Reg.TMR_CAPTURED n) then ((b.w (Reg.TMR_CAPTURE n) 0).wb (Reg.TMR_CAPTURED n) false, v) else (b, v)

/-- The count of a channel clocked from the TIME tick reaches COMPARE (R155). -/
def Chip.tmrToMatch (b : Chip) (n : Nat) : Chip :=
  if b.t (Reg.TMR_RUNNING n) && b.t (Reg.TMR_CMP_ARMED n) && b.r (Reg.TMR_CLK n) == 0 then
    b.passTicks (reachIn (b.r (Reg.TMR_COUNT n)) (b.r (Reg.TMR_COMPARE n)))
  else b

/-- The count of a one-shot channel clocked from the TIME tick reaches END (R156). -/
def Chip.tmrToEnd (b : Chip) (n : Nat) : Chip :=
  if b.t (Reg.TMR_RUNNING n) && b.r (Reg.TMR_MODE n) == 2 && b.r (Reg.TMR_CLK n) == 0 then
    b.passTicks (reachIn (b.r (Reg.TMR_COUNT n)) (b.r (Reg.TMR_END n)))
  else b

/-- Network time reaches a trigger target (R150). -/
def Chip.trigToFire (b : Chip) (n : Nat) : Chip :=
  match kget b.tim.trig n with
  | some t => b.passTo (t * nsU)
  | none => b

end Sys2Proof.Machine
end

