-- ==== Sys2Proof/Machine/Eth.lean ====
section
/-!
DEFINITION. ETH: frames in and out of the two ports, PTP timestamps, and the sorting of ingress frames (R144 to R149, R391, R429, R548 to R550).
A frame here runs from its destination address to the octet before the FCS (log entry 26).
-/
namespace Sys2Proof.Machine

/-! ### Parsing (R144, R549) -/

/-- A parsed frame: the outer tag, the EtherType behind up to two tags, and where the payload starts. -/
structure EthIn where
  tci : Option Nat
  etype : Nat
  off : Nat
  deriving DecidableEq, Repr

def isTag (t : Nat) : Bool := t == 0x8100 || t == 0x88A8
def ethParse (f : List Nat) : EthIn :=
  let at_ := fun (o : Nat) => beNat (slice f o 2)
  if !isTag (at_ 12) then ⟨none, at_ 12, 14⟩
  else if !isTag (at_ 16) then ⟨some (at_ 14), at_ 16, 18⟩
  else ⟨some (at_ 14), at_ 20, 22⟩
/-- PCP of the outer tag, 0 when untagged (R410). -/
def EthIn.pcp (e : EthIn) : Nat := e.tci.getD 0 / 8192 % 8

/-- The UDP header of a packet: where it starts and whether the packet is IPv6. -/
def udpAt (f : List Nat) (e : EthIn) : Option (Nat × Bool) :=
  if e.etype = 0x86DD ∧ f.getD (e.off + 6) 0 = 17 then some (e.off + 40, true)
  else if e.etype = 0x0800 ∧ f.getD (e.off + 9) 0 = 17 then some (e.off + 4 * (f.getD e.off 0 % 16), false)
  else none
def udpPort (f : List Nat) (e : EthIn) : Option Nat := (udpAt f e).map (fun u => beNat (slice f (u.1 + 2) 2))
/-- A frame that PTP_Q takes. -/
def isPtp (f : List Nat) (e : EthIn) : Bool := e.etype == 0x88F7 || udpPort f e == some 319 || udpPort f e == some 320
/-- The PTP message of an event: Sync, Delay_Req, Pdelay_Req or Pdelay_Resp on a transport of R144. -/
def ptpEvent (f : List Nat) : Option Nat :=
  let e := ethParse f
  let at_ := if e.etype = 0x88F7 then some e.off else if udpPort f e = some 319 then (udpAt f e).map (fun u => u.1 + 8) else none
  at_.filter (fun o => decide (f.getD o 0 % 16 ≤ 3) && decide (o + 34 ≤ f.length))

/-! ### Timestamps (R145 to R148) -/

/-- A timestamp in ns, corrected by a signed latency. -/
def stampNs (t : Nat) (d : Int) : Nat := ((t : Int) + d).toNat
/-- The record of an event message in a port's FIFO. -/
def Chip.tsRecord (b : Chip) (p : Nat) (f : List Nat) (o ns dir one : Nat) : Chip :=
  let sec := ns / 1000000000
  b.tsPush p (1 + 2 * dir + 4 * one + f.getD o 0 % 16 * 2 ^ 8 + f.getD (o + 4) 0 * 2 ^ 16)
    (beNat (slice f (o + 30) 2) + sec % 2 ^ 16 * 2 ^ 16) (sec / 2 ^ 16 % 2 ^ 32) (ns % 1000000000)
/-- A Sync that the device completes in flight (R146). The timestamp's fraction reads zero (R144), so correctionField keeps its value. -/
def Chip.oneStep (b : Chip) (p : Nat) (f : List Nat) (o : Nat) : Bool :=
  b.t (Reg.TIM_ONE_STEP p) && f.getD o 0 % 16 == 0 && !bit (f.getD (o + 6) 0) 1
/-- One's complement of octets. -/
def notOctets (l : List Nat) : List Nat := l.map (fun x => 255 - x % 256)
/-- originTimestamp is written; the UDP checksum over IPv4 becomes zero, over IPv6 it is updated. -/
def syncFill (f : List Nat) (o ns : Nat) : List Nat :=
  let new := beBytes (ns / 1000000000) 6 ++ beBytes (ns % 1000000000) 4
  let g := splice f (o + 34) new
  match udpAt f (ethParse f) with
  | none => g
  | some (u, false) => splice g (u + 6) [0, 0]
  | some (u, true) =>
    let c := cksum (notOctets (slice f (u + 6) 2) ++ notOctets (slice f (o + 34) 10) ++ new)
    splice g (u + 6) (beBytes (if c = 0 then 65535 else c) 2)

/-! ### Egress (R429) -/

/-- A frame leaves a port, stamped where it is an event message. -/
def Chip.ethOut (b : Chip) (p : Nat) (f : List Nat) : Chip :=
  match ptpEvent f with
  | none => b.ethSend p f
  | some o =>
    let ns := stampNs b.nowNs (b.rs (Reg.TIM_EGR_LAT p))
    let one := b.oneStep p f o
    let b1 := b.ethSend p (if one then syncFill f o ns else f)
    (if b1.t (Reg.TIM_EGR_FIFO p) then b1.tsRecord p f o ns 1 (b2n one) else b1).srcEvent (19 + p)
/-- An item leaves a port of TMG. -/
def Chip.portOut (b : Chip) (p : Nat) (i : Item) : Chip := if p < 2 then b.ethOut p i.data else b.toAdapt { data := i.data }
/-- EGRESS_DEQUEUE. -/
def Chip.egress (b : Chip) (p : Nat) : Chip :=
  match b.dequeue p with
  | (b1, none) => b1
  | (b1, some (_, i)) => b1.portOut p i
/-- ITEM_CLOSE: the producer's last octets, and the close; an item that had been sent open leaves whole. -/
def Chip.evClose (b : Chip) (q id : Nat) (data : List Nat) (aborted : Bool) : Chip :=
  if b.pat.queueCount ≤ q then b
  else
    let b1 := ((b.writeItem q id data).closeItem q id aborted).qChanged q (b.itemNode q id)
    match b1.cutClose q id with
    | (b2, none) => b2
    | (b2, some i) => b2.portOut (b2.qPort q) i

/-! ### Ingress (R549) -/

/-- An IPv6 packet without the padding of its frame. -/
def ipv6Of (l : List Nat) : List Nat := l.take (40 + beNat (slice l 4 2))
/-- The VID of an ingress frame: untagged ingress takes PVID. -/
def Chip.vidOf (b : Chip) (p : Nat) (e : EthIn) : Nat := match e.tci with
  | some t => t % 4096
  | none => b.r (Reg.ETH_PVID p)
/-- A refused opening is counted. -/
def Chip.noBuf (o : Opened) (p : Nat) : Chip := if o.code = OK then o.b else o.b.inc (Reg.ETH_RX_NO_BUF p)
def Chip.mgmtAddr (b : Chip) : Nat := beNat (ofWords ((List.range 4).map (fun i => b.r (Reg.ETH_MGMT_ADDR i))))
/-- A packet for in-band management (R548). -/
def Chip.isMgmt (b : Chip) (f : List Nat) (e : EthIn) : Bool :=
  bit (b.r Reg.SVC_RUNNING) 4 && e.etype == 0x86DD && f.getD (e.off + 6) 0 == 17 && beNat (slice f (e.off + 24) 16) == b.mgmtAddr &&
    udpPort f e == some (b.r Reg.ETH_MGMT_PORT)
/-- It waits in a queue of 16. -/
def Chip.mgmtPut (b : Chip) (p : Nat) (f : List Nat) (e : EthIn) : Chip :=
  let pkt := ipv6Of (f.drop e.off)
  let n := beNat (slice pkt 44 2) - 8
  let r : MgmtReq := { port := p, src := ipSrc pkt, sport := beNat (slice pkt 40 2), mac := leNat (slice f 6 6), data := (pkt.drop 48).take n }
  if b.hif.mgmt.length < 16 then b.modHif (fun h => { h with mgmt := h.mgmt ++ [r] }) else b
/-- An IPv6 packet goes to FWD; its source is looked up where LEARN_EN is set (R381, R391). -/
def Chip.toFwd (b : Chip) (p : Nat) (f : List Nat) (e : EthIn) : Chip :=
  let pkt := ipv6Of (f.drop e.off)
  let mac := leNat (slice f 6 6)
  let b1 := Chip.noBuf (b.forward pkt p none (some (p, mac))) p
  if b1.t (if p = 0 then Reg.FWD_LEARN_EN0 else Reg.FWD_LEARN_EN1) then
    b1.learnLook { src := ipSrc pkt, port := p, mac := mac, vid := b1.vidOf p e, tagged := e.tci.isSome }
  else b1
/-- A frame into a queue of ETH. -/
def Chip.toEthQ (b : Chip) (q p : Nat) (f : List Nat) (e : EthIn) (ts : Option (Nat × Nat × Bool)) : Chip :=
  Chip.noBuf (b.pushSrc q (b.r (Reg.ETH_MAX_FRAME p)) f e.pcp p ts) p
/-- A PTP frame, with its timestamp where it is an event message (R145, R147). -/
def Chip.toPtp (b : Chip) (p : Nat) (f : List Nat) (e : EthIn) (sfd : Nat) : Chip :=
  match ptpEvent f with
  | none => b.toEthQ (b.r Reg.ETH_PTP_Q) p f e none
  | some o =>
    let ns := stampNs (sfd / nsU) (-(b.rs (Reg.TIM_ING_LAT p)))
    let b1 := b.toEthQ (b.r Reg.ETH_PTP_Q) p f e (some (ns / 1000000000, ns % 1000000000, b.tim.fifoDisc.contains p))
    (if b1.t (Reg.TIM_ING_FIFO p) then b1.tsRecord p f o ns 0 0 else b1).srcEvent (19 + p)
/-- A frame that has been accepted is sorted. -/
def Chip.ethSort (b : Chip) (p : Nat) (f : List Nat) (sfd : Nat) : Chip :=
  let e := ethParse f
  if b.isMgmt f e then b.mgmtPut p f e
  else if isPtp f e then b.toPtp p f e sfd
  else if e.etype = 0x86DD then b.toFwd p f e
  else b.toEthQ (b.r Reg.ETH_ETH_OTHER_Q) p f e none
/-- ETH_RX_FRAME. -/
def Chip.ethRx (b : Chip) (p : Nat) (f : List Nat) (fcsOk : Bool) (sfd : Nat) : Chip :=
  if 1 < p ∨ b.boot.off ≠ 0 ∨ ¬ (b.t (Reg.ETH_LINK p) && b.t (Reg.ETH_EN p) && !b.t (Reg.ETH_HELD p)) then b
  else if b.safe then b.inc (Reg.ETH_SAFE_DISCARD p)
  else
    let n := f.length + 4
    let b1 := (b.inc (Reg.ETH_RX_FRAMES p)).add (Reg.ETH_RX_OCTETS p) n
    if !fcsOk then b1.inc (Reg.ETH_RX_FCS_ERR p)
    else if b.r (Reg.ETH_MAX_FRAME p) < n then b1.inc (Reg.ETH_RX_TOO_LONG p)
    else if beNat (slice f 12 2) = 0x8808 then b1.inc (Reg.ETH_RX_CTRL p)
    else b1.ethSort p f sfd

/-! ### Links (R549, R550) -/

/-- The link of a port goes up or down; a port that is held or not enabled has none. -/
def Chip.ethLink (b : Chip) (p : Nat) (up : Bool) (speed : Nat) (an : Bool) : Chip :=
  let on := up && b.t (Reg.ETH_EN p) && !b.t (Reg.ETH_HELD p) && b.boot.off == 0
  let b1 := b.wb (Reg.ETH_LINK p) on
  let mode := if b.safe then 2 else b1.r (Reg.ETH_MODE p)
  let b2 := b1.wb (Reg.ETH_AN_DONE p) (on && an && b1.t (Reg.ETH_AN_EN p) && (mode == 2 || mode == 3))
  if on && mode == 3 then (b2.w (Reg.ETH_SGMII_SPEED p) (min 2 speed)).tmgPort p else b2.tmgPort p

/-- ETH_RX_FRAME (R549). -/
def execEthRxFrame (port : Nat) (frame : List Nat) (fcsOk : Bool) (sfd : Nat) (s : State) : Host.Outcome State Fault Refusal :=
  s.on (fun b => b.ethRx port frame fcsOk sfd)
/-- ETH_LINK_CHANGE (R549). -/
def execEthLinkChange (port : Nat) (up : Bool) (speed : Nat) (an : Bool) (s : State) : Host.Outcome State Fault Refusal :=
  s.on (fun b => if 1 < port then b else b.ethLink port up speed an)
/-- EGRESS_DEQUEUE (R429, R434). -/
def execEgressDequeue (port : Nat) (s : State) : Host.Outcome State Fault Refusal := s.on (fun b => if 2 < port then b else b.egress port)
/-- ITEM_CLOSE (R413, R432). -/
def execItemClose (queue id : Nat) (data : List Nat) (aborted : Bool) (s : State) : Host.Outcome State Fault Refusal :=
  s.on (fun b => b.evClose queue id data aborted)

end Sys2Proof.Machine
end

