-- ==== Sys2Proof/Machine/Boundary.lean ====
section
/-!
DEFINITION. The stitch: its boundary, what is frozen, reported and started there, the periodic work, and the close of its budget (R22 to R32,
R139, R142).
-/
namespace Sys2Proof.Machine

/-! ### The shadow bank (R29, R30) -/

/-- The source ID of the block whose counters a 64 KiB part publishes. -/
def pubSrc (part : Nat) : Option Nat :=
  match part with
  | 0x02 => some Src.PWR
  | 0x08 => some Src.RFC
  | 0x0A | 0x0B => some Src.RXP
  | 0x0C | 0x0D => some Src.TXP
  | 0x10 | 0x11 => some Src.MAC
  | 0x12 | 0x13 => some Src.SCH
  | 0x14 => some Src.SEC
  | 0x15 => some Src.KEY
  | 0x18 | 0x19 | 0x1A | 0x1B => some Src.FWD
  | 0x1C | 0x1D => some Src.QMG
  | 0x1E | 0x1F => some Src.TMG
  | 0x20 | 0x21 => some Src.ETH
  | 0x22 | 0x23 => some Src.SEA
  | 0x24 | 0x25 => some Src.UPD
  | 0x26 | 0x27 => some Src.SVC
  | _ => none
/-- The blocks in the order in which they prepare their banks, each with its tag where its table has one. -/
def pubTags : List (Nat × Option Fld) :=
  [(Src.PWR, some Reg.PWR_STATS_TAG), (Src.RFC, none), (Src.RXP, some Reg.RXP_STATS_TAG), (Src.TXP, some Reg.TXP_STATS_TAG),
   (Src.MAC, some Reg.MAC_STATS_TAG), (Src.SCH, some Reg.SCH_STATS_TAG), (Src.SEC, some Reg.SEC_STATS_TAG),
   (Src.KEY, some Reg.KEY_STATS_TAG), (Src.FWD, some Reg.FWD_STATS_TAG), (Src.QMG, some Reg.QMG_STATS_TAG),
   (Src.TMG, some Reg.TMG_STATS_TAG), (Src.ETH, none), (Src.SEA, some Reg.SEA_STATS_TAG), (Src.UPD, some Reg.UPD_STATS_TAG),
   (Src.SVC, some Reg.SVC_STATS_TAG)]
/-- The block that publishes the field under a key, none for a field that is read live: the three peaks, which are no counters of R234, R406 or
R427 but count from their last read. -/
def pubKey (k : Nat) : Option Nat :=
  if [Reg.RXP_ACTIVE_PEAK.key, Reg.QMG_SPILL_PEAK.key, Reg.FWD_LEARN_PEAK.key].contains k then none
  else if (Reg.fieldsAt (k / 32)).any (fun f => f.lo == k % 32 && f.acc == Acc.rc) then pubSrc (k / 32 / 0x10000) else none
/-- The bank and the tags after the boundary that ends a stitch; blocks in `late` keep theirs. -/
def Chip.publish (b : Chip) (ended : Nat) (late : List Nat) : Chip :=
  let fresh := b.regs.filter (fun e => (pubKey e.1).any (fun s => !late.contains s))
  let kept := b.bank.filter (fun e => (pubKey e.1).any late.contains)
  let b1 : Chip := { b with bank := kept.foldl (fun m e => kput m e.1 e.2) fresh }
  let b2 := pubTags.foldl (fun (c : Chip) e => match e.2 with
    | some f => if late.contains e.1 then c else c.w f ended
    | none => c) b1
  if late.contains Src.RXP then b2 else { b2 with rx := { b2.rx with chansPub := b2.rx.chans } }

/-! ### Notices raised at most once per stitch -/

/-- The argument of such a notice: the code, what distinguishes it, the count and the first item named. -/
def Chip.noteArg (b : Chip) (code disc n first : Nat) : Nat :=
  if code = N.TX_LATE then argB (disc / 256) (disc % 256) 0 0 n
  else if code = N.COEX_DENY ∨ code = N.DUTY_LIMIT ∨ code = N.POOL_EXHAUSTED then argB disc 0 0 0 n
  else if code = N.GATE_TOO_LONG then argB disc (kgetD b.tmg.tooLong disc 0) 0 0 n
  else if code = N.QUEUE_ECC then
    let q := b.eccFirst.getD (0, false)
    argB (q.1 % 256) (q.1 / 256) (b2n q.2) 0 n
  else if code = N.LEARN_OVERFLOW ∨ code = N.REASM_FULL ∨ code = N.MGMT_AUTH_FAIL then argW 0 n
  else if code = N.MOVED ∨ code = N.FLAP_HELD then
    argW (first % 2 ^ 32) (first / 2 ^ 32 % 2 + first / 2 ^ 33 % 2 * 2 ^ 8 + min 65535 n * 2 ^ 16)
  else if code = N.ENTRY_LOST then argB (first % 256) 0 0 0 (first / 256)
  else if code = N.KEY_ORPHANED_SET then argW first (min 65535 n + b2n (kget b.acc (code * 2 ^ 16 + 1)).isSome * 2 ^ 16)
  else if code = N.SEAL_KEY_FAIL then argW (first % 2 ^ 20) (min 65535 n + first / 2 ^ 20 * 2 ^ 16)
  else argW first n
/-- One of them. -/
def Chip.noteOut (b0 b : Chip) (e : Nat × Nat) : Chip :=
  let code := e.1 / 2 ^ 16
  let disc := e.1 % 2 ^ 16
  if code = N.BUDGET_SLIP ∨ (code = N.KEY_ORPHANED_SET ∧ disc ≠ 0) then b
  else b.raise (code / 256) code (b0.noteArg code disc e.2 (kgetD b0.mac.first code 0))
/-- TMR_EVENT of a channel (R159). -/
def Chip.tmrNote (b : Chip) (e : Nat × Nat) : Chip :=
  let v := andN e.2 (b.r (Reg.TMR_INT_EN e.1))
  if v = 0 ∨ ¬ b.t (Reg.TMR_HOST_OWNED e.1) then b else b.raise Src.TMR N.TMR_EVENT (argB e.1 v 0 0 (b.r (Reg.TMR_COUNT e.1)))
/-- The notices of the stitch that has ended; a channel on the stitch adds the stitch numbers that the boundary has advanced (R153). -/
def Chip.noteFlush (b : Chip) : Chip :=
  let b1 := b.acc.foldl (fun c e => Chip.noteOut b c e) b
  let b2 : Chip := { b1 with acc := [], eccFirst := none, mac := { b1.mac with first := [] }, tmg := { b1.tmg with tooLong := [] } }
  let b3 : Chip := { b2 with fwd := { b2.fwd with asked := [] } }
  let ch := b3.tmrAcc
  let n := if b3.tim.lastB < b3.tim.stitch then b3.tim.stitch - b3.tim.lastB else 1
  let b4 := Chip.clkAdd { b3 with tmrAcc := [], tim := { b3.tim with lastB := b3.tim.stitch } } 1 n
  ch.foldl Chip.tmrNote b4
/-- The stitch boundary as an event, and the slot and the superframe that start with it (R142, R154). -/
def Chip.stitchEvents (b : Chip) : Chip :=
  let ss := b.pat.slotStitches
  let b1 := b.srcEvent 16
  if ss = 0 ∨ b.tim.stitch % ss ≠ 0 then b1
  else
    let b2 := b1.srcEvent 17
    if b.tim.stitch / ss % max 1 b.sfSlots = 0 then b2.srcEvent 18 else b2

/-! ### The periodic work (R22, R23) -/

/-- Work codes (R24). -/
abbrev WORK.AGE : Nat := 1
abbrev WORK.MARK : Nat := 2
abbrev WORK.LAT : Nat := 3
abbrev WORK.KEY : Nat := 4
abbrev WORK.GATE : Nat := 5
abbrev WORK.STATS : Nat := 6
abbrev WORK.GUARD : Nat := 7
abbrev WORK.DARN : Nat := 8

/-- The items of a work in a stitch: the carried ones that run, the new ones that run, and those that the close of the budget will find undone. -/
structure Split where
  old : List Nat
  new : List Nat
  rest : List Nat
  deriving DecidableEq, Repr
/-- The items of a work, carried ones first. -/
def Chip.split (b : Chip) (x : StitchIn) (work : Nat) (new : List Nat) : Split :=
  let old := kgetD b.owed work []
  let n := old.length + new.length - kgetD x.left work 0
  ⟨old.take n, new.take (n - old.length), (old ++ new).drop n⟩
/-- What a work leaves is carried. -/
def Chip.carry (b : Chip) (code : Nat) (s : Split) : Chip :=
  { b with owed := if s.rest.isEmpty then kdel b.owed code else kput b.owed code s.rest }
/-- A work of an engine that has no other. -/
def Chip.work (b : Chip) (x : StitchIn) (code : Nat) (new : List Nat) (f : Chip → Nat → Chip) : Chip :=
  let s := b.split x code new
  (s.new.foldl f (s.old.foldl f b)).carry code s

/-- FWD: storage errors, the repair list at the start of the stitch (R399), what the last stitch carried over, then the sweep, the stash, the
filters and the Darner (R23). -/
def Chip.fwdWork (b : Chip) (x : StitchIn) : Chip :=
  let b1 := (x.fwdEcc.foldl Chip.fwdError b).repairAll
  let d := if b1.t Reg.FWD_DARNER_EN then b1.darnItems (b1.r Reg.FWD_DARNER_GROUP) (b1.r Reg.FWD_DARNER_TBL) b1.fwd.pos
    else ([], b1.r Reg.FWD_DARNER_TBL, b1.fwd.pos)
  let age := b1.split x WORK.AGE (b1.ageItems b1.tim.stitch)
  let darn := b1.split x WORK.DARN d.1
  let ageF := fun (c : Chip) (i : Nat) => c.ageOne i (x.hits.contains i)
  let darnF := fun (c : Chip) (i : Nat) => c.darnOne (i / 2 ^ 20) (i % 2 ^ 20)
  let b2 := darn.old.foldl darnF (age.old.foldl ageF b1)
  let b3 := (((age.new.foldl ageF b2).drain 0).drain 1).refilStep
  let b4 := ((darn.new.foldl darnF b3).carry WORK.AGE age).carry WORK.DARN darn
  ({ b4 with fwd := { b4.fwd with pos := d.2.2 } }.w Reg.FWD_DARNER_TBL d.2.1).w Reg.FWD_DARNER_POS d.2.2
/-- QMG: the marks and the summary bits. -/
def Chip.qmgWork (b : Chip) (x : StitchIn) : Chip :=
  let b1 := b.work x WORK.MARK (List.range b.pat.queueCount) (fun c q => if q < c.pat.queueCount then c.markEval q else c)
  (List.range b1.pat.queueGroups).foldl (fun (c : Chip) g => c.groupAny g) b1
/-- The latency window: a changed WIN_STITCHES acts from a window end, and at each end the statistics are to be kept (R442). -/
def Chip.winStitch (b : Chip) : Chip :=
  let w := b.r Reg.TMG_WIN_STITCHES
  let ends := decide (b.tim.stitch % w = 0)
  if w ≠ b.tmg.win then (if ends then { b with tmg := { b.tmg with win := w, lat := [], winDue := false } } else b)
  else if ends then { b with tmg := { b.tmg with winDue := true } } else b
/-- TMG: the samples and the lists that the last stitch carried over, then the samples of the stitch, the window, and the gate lists that are
being loaded. -/
def Chip.tmgWork (b : Chip) (x : StitchIn) : Chip :=
  let lat := Chip.split { b with owed := kput b.owed WORK.LAT (b.tmg.frozen.map (·.queue)) } x WORK.LAT (List.range b.pat.queueCount)
  let all := b.tmg.frozen ++ (List.range b.pat.queueCount).map b.latSample
  let old := all.take lat.old.length
  let new := (all.drop b.tmg.frozen.length).take lat.new.length
  let due := fun (c : Chip) => [0, 1].filter (fun p => (kget c.tmg.swap p).any (fun (s : GateSwap) => !s.loaded))
  let gate := b.split x WORK.GATE ((due b).filter (fun p => !(kgetD b.owed WORK.GATE []).contains p))
  let a := old.foldl Chip.latOne b
  let left := (all.drop old.length).take (b.tmg.frozen.length - old.length)
  let b1 := gate.old.foldl Chip.gateLoad (Chip.latClose { a with tmg := { a.tmg with frozen := left } } (b.tim.stitch - 1))
  let b2 := (new.foldl Chip.latOne { b1 with tmg := { b1.tmg with frozen := all.drop (old.length + new.length) } }).winStitch
  ((gate.new.foldl Chip.gateLoad b2).carry WORK.LAT lat).carry WORK.GATE gate
/-- Something marked ORPHANED still holds its key (R361). -/
def Key.marked (k : Key) : Bool := k.pockets.any (fun e => e.2.state == PS.ORPHANED && e.2.key.isSome) || k.cache.any (·.orphan)
/-- KEY: children whose re-wrapping was carried over, keys marked ORPHANED, promotions, grace periods, and the children that come new. -/
def Chip.keyWork (b : Chip) (x : StitchIn) : Chip :=
  let left := kgetD x.left WORK.KEY 0
  let old := kgetD b.owed WORK.KEY []
  let b0 := b.rewrapWork (b.key.rewrap.length - (old.length - left)) x.pockBad
  let b1 := if b0.key.orphanDue then b0.orphanZero else b0
  let b2 : Chip := { b1 with key := { b1.key with orphanDue := b1.key.marked } }
  let b3 := ((if b2.gap then b2 else b2.promoteAll x.pockBad).holdKeys b.key).rewrapWork left x.pockBad
  let b4 := (b3.key.pockets.map (·.1)).foldl (fun (c : Chip) p => c.retireEnd p (!x.pockBad.contains p)) b3
  { b4 with owed := if left = 0 ∨ b4.key.rewrap.isEmpty then kdel b4.owed WORK.KEY else kput b4.owed WORK.KEY b4.key.rewrap }
/-- SCH: the guard-allowance update, the placement and the next event. -/
def Chip.schWork (b : Chip) (x : StitchIn) : Chip :=
  let g := b.guardItems
  let b1 := b.work x WORK.GUARD g.1 (fun c n => if n < c.pat.nodeCount then c.evalNode n c.tim.stitch else c)
  let b2 := Chip.place { b1 with sch := { b1.sch with evalIdx := g.2 } }
  b2.w Reg.SCH_NEXT_EVENT_US (min b2.nextEvent 0xFFFFFFFF)
/-- The blocks whose statistics snapshot is still not done: carried over into the stitch that begins, and left undone in it too (R23, R30). A
carried snapshot runs first in the stitch, so that its bank and its tag are published with the boundary (log entry 76). -/
def Chip.statsLate (b : Chip) (x : StitchIn) : List Nat :=
  (kgetD b.owed WORK.STATS []).drop ((kgetD b.owed WORK.STATS []).length + pubTags.length - kgetD x.left WORK.STATS 0)
/-- The statistics snapshots that the close of the budget will find undone. -/
def Chip.statsWork (b : Chip) (x : StitchIn) : Chip :=
  Chip.work { b with owed := kput b.owed WORK.STATS (b.statsLate x) } x WORK.STATS
    ((pubTags.map (·.1)).filter (fun s => !(b.statsLate x).contains s)) (fun c _ => c)

/-! ### Slots (R142, R261, R488) -/

/-- Cells in which the device receives, of the slot in progress. -/
def Chip.rxCells (b : Chip) : Nat :=
  (b.sch.cur.filter (fun c => !c.off && !cDown c.word && (cType c.word == T.SHARED || cType c.word == T.ASSIGNED))).length
/-- A slot starts with the stitch; a handover's gap slot, and a superframe, may start with it. -/
def Chip.slotWork (b : Chip) : Chip :=
  let ss := max 1 b.pat.slotStitches
  let st := b.tim.stitch
  let slot := st / ss
  let b1 :=
    if st % ss ≠ 0 then b
    else
      let c : Chip := if b.role = 3 ∧ (b.sea.hand.any (fun h => h.1 == slot + 1)) then { b with gap := true } else b
      let c1 := c.slotStart slot
      let c2 := c1.lateWake c1.rxCells
      if slot % max 1 c2.sfSlots = 0 then c2.superStart.campTick else c2
  if (st + 1) % ss = 0 then b1.prefetch ((st + 1) / ss) else b1

/-! ### The boundary (R139) -/

/-- What the boundary measures (R102, R143, R174, R199, R524). -/
def Chip.readings (b : Chip) (x : StitchIn) : Chip :=
  let b1 := b.rcMeasured x.rcEst
  let b1 := match x.aonPer with
    | some p => if b1.r Reg.CKR_MAIN_SRC ≠ 0 then b1.modPwr (fun y => { y with aonPer := p }) else b1
    | none => b1
  let b2 := (b1.measure x).tjHigh
  (List.range (min 4 x.tj.length)).foldl (fun (c : Chip) g => c.calTrigger g (x.tj.getD g 0)) b2
/-- What the engines do at a boundary while they work. -/
def Chip.stitchWork (b : Chip) (x : StitchIn) : Chip :=
  let b1 := b.governor.trimStep.slotWork
  let b2 := (((b1.keyWork x).fwdWork x).qmgWork x).tmgWork x
  (((b2.schWork x).statsWork x).seaStitch).powerEval
/-- Stitches since the last servo commit, and in holdover (R138). -/
def Chip.wdogStitch (b : Chip) : Chip :=
  let b1 : Chip := { b with tim := { b.tim with wdog := b.tim.wdog.map (· + 1) } }
  if b1.t Reg.TIM_HOLDOVER then b1.w Reg.TIM_HOLDOVER_STITCHES (min (2 ^ 32 - 1) (b1.r Reg.TIM_HOLDOVER_STITCHES + 1)) else b1
/-- The next stitch begins. -/
def Chip.stitchNext (b : Chip) : Chip := { b with tim := { b.tim with stitch := b.tim.nextB, nextB := b.tim.nextB + 1 } }
/-- LOOKUP_STALL takes up the PKT cycles that the lookups of the stitch waited, a free number (R385; log entry 63). -/
def Chip.stallSettle (b : Chip) : Chip :=
  if !b.fwd.looked then b
  else
    let x := b.free 32
    Chip.add { x.2 with fwd := { x.2.fwd with looked := false } } Reg.FWD_LOOKUP_STALL x.1
/-- STITCH_BOUNDARY. -/
def Chip.boundary (b : Chip) (x : StitchIn) : Chip :=
  if !b.timeRuns then b
  else
    let b1 := b.toBoundary.settle.wdogStitch
    let b2 := x.floors.foldl (fun (c : Chip) e => c.floorTrack e.1 e.2.1 e.2.2) b1
    let b3 := (b2.stallSettle.publish b2.stitch32 (b2.statsLate x)).stitchNext.noteFlush.stitchEvents.actBoundary
    let b4 := b3.readings x
    (if b4.working then b4.stitchWork x else b4).settle

/-! ### The close of the budget (R23, R24, R479) -/

/-- The engine that does a work. -/
def workSrc (code : Nat) : Nat :=
  match code with
  | 1 | 8 => Src.FWD
  | 2 => Src.QMG
  | 3 | 5 => Src.TMG
  | 4 => Src.KEY
  | _ => Src.SCH
/-- BUDGET_SLIP of an engine. -/
def Chip.slip (b : Chip) (src work n : Nat) : Chip :=
  (b.inc Reg.GLB_SLIP_CNT).raise src N.BUDGET_SLIP (argB work 0 0 0 n)
/-- One for each engine that carries work over, of its first such work; what a snapshot counts as its units is not stated. -/
def Chip.slips (b : Chip) : Chip :=
  let own := (b.owed.filter (fun e => e.1 != WORK.STATS && !e.2.isEmpty)).foldl (fun (r : Chip × List Nat) e =>
    let s := workSrc e.1
    if r.2.contains s then r else (r.1.slip s e.1 e.2.length, s :: r.2)) (b, [])
  ((kgetD b.owed WORK.STATS []).foldl (fun (r : Chip × List Nat) s =>
    if r.2.contains s then r
    else
      let (n, c) := r.1.free 32
      (c.slip s WORK.STATS n, s :: r.2)) own).1
/-- BUDGET_CLOSE, once in a stitch. -/
def Chip.budgetClose (b : Chip) : Chip :=
  let k := N.BUDGET_SLIP * 2 ^ 16
  if !b.timeRuns || !b.working || (kget b.acc k).isSome then b else (b.slips.note k 1).mirrorSend

/-- STITCH_BOUNDARY (R139). -/
def execStitchBoundary (x : StitchIn) (s : State) : Host.Outcome State Fault Refusal := s.on (fun b => b.boundary x)
/-- BUDGET_CLOSE (R23). -/
def execBudgetClose (s : State) : Host.Outcome State Fault Refusal := s.on Chip.budgetClose

end Sys2Proof.Machine
end

