-- ==== Sys2Proof/Machine/MeshRows.lean ====
section
/-!
DEFINITION. One meaning for each row of SCH, MAC, SEC and KEY (R266 to R375).
-/
namespace Sys2Proof.Machine

/-- ALLOC (R272). -/
def execAlloc (irq : Bool) (s : State) : Host.Outcome State Fault Refusal :=
  s.on (fun b => b.wakeFor.cmd cbSCH irq (fun c => (c.named (c.arg cbSCH 0)).allocCmd))
/-- RECLAIM (R272). -/
def execReclaim (irq : Bool) (s : State) : Host.Outcome State Fault Refusal :=
  s.on (fun b => b.wakeFor.cmd cbSCH irq (fun c => (c.named (c.arg cbSCH 0)).reclaimCmd))
/-- READ_CELL (R272). -/
def execReadCell (irq : Bool) (s : State) : Host.Outcome State Fault Refusal :=
  s.on (fun b => b.wakeFor.cmd cbSCH irq (fun c => c.readCell))
/-- WRITE_CELL (R272). -/
def execWriteCell (irq : Bool) (s : State) : Host.Outcome State Fault Refusal :=
  s.on (fun b => b.wakeFor.cmd cbSCH irq (fun c => (c.named (cOwner (c.arg cbSCH 1))).writeCell))
/-- NODE_CELLS (R272). -/
def execNodeCells (irq : Bool) (s : State) : Host.Outcome State Fault Refusal :=
  s.on (fun b => b.wakeFor.cmd cbSCH irq (fun c => (c.named (c.arg cbSCH 0)).nodeCells))
/-- PAIR_SET (R272). -/
def execPairSet (irq : Bool) (s : State) : Host.Outcome State Fault Refusal :=
  s.on (fun b => (b.wakeFor.cmd cbSCH irq (fun c => c.pairSet)).pairRenew b)
/-- CONTEXT_FETCH (R295, R296). -/
def execContextFetch (node : Nat) (x : FetchIn) (s : State) : Host.Outcome State Fault Refusal :=
  s.on (fun b => b.fetch node x.ecc x.ctx)
/-- ACK_WAIT_TIMEOUT (R311). -/
def execAckWaitTimeout (node : Nat) (s : State) : Host.Outcome State Fault Refusal :=
  s.on (fun b => b.ackTimeout node)
/-- CSMA_BACKOFF_EXPIRY (R310). -/
def execCsmaBackoffExpiry (node : Nat) (x : CcaIn) (s : State) : Host.Outcome State Fault Refusal :=
  s.on (fun b => b.csmaExpiry node x.draw x.level)
/-- ADMIT (R300, R316, R317). -/
def execNodeAdmit (irq : Bool) (s : State) : Host.Outcome State Fault Refusal :=
  s.on (fun b => b.wakeFor.cmd cbMAC irq (fun c => c.admitCmd))
/-- READ_CTX of MAC (R318). -/
def execReadCtx (irq : Bool) (s : State) : Host.Outcome State Fault Refusal :=
  s.on (fun b => b.wakeFor.cmd cbMAC irq (fun c => c.macReadCtx))
/-- WRITE_CTX (R319). -/
def execWriteCtx (irq : Bool) (s : State) : Host.Outcome State Fault Refusal :=
  s.on (fun b => b.wakeFor.cmd cbMAC irq (fun c => c.writeCtx))
/-- SUSPEND (R297). -/
def execSuspend (irq : Bool) (s : State) : Host.Outcome State Fault Refusal :=
  s.on (fun b => b.wakeFor.cmd cbMAC irq (fun c => c.suspendCmd))
/-- RESUME (R297). -/
def execResume (irq : Bool) (s : State) : Host.Outcome State Fault Refusal :=
  s.on (fun b => b.wakeFor.cmd cbMAC irq (fun c => c.resumeCmd))
/-- RETIRE (R297). -/
def execRetire (irq : Bool) (s : State) : Host.Outcome State Fault Refusal :=
  s.on (fun b => b.wakeFor.cmd cbMAC irq (fun c => c.retireCmd))
/-- CLEAR (R297). -/
def execNodeClear (irq : Bool) (s : State) : Host.Outcome State Fault Refusal :=
  s.on (fun b => b.wakeFor.cmd cbMAC irq (fun c => c.clearCmd))
/-- FIND (R316). -/
def execNodeFind (irq : Bool) (s : State) : Host.Outcome State Fault Refusal :=
  s.on (fun b => b.wakeFor.cmd cbMAC irq (fun c => c.findCmd))
/-- RESET_LINK (R320). -/
def execResetLink (irq : Bool) (s : State) : Host.Outcome State Fault Refusal :=
  s.on (fun b => b.wakeFor.cmd cbMAC irq (fun c => c.resetLink))
/-- READ_COUNTER (R345). -/
def execReadCounter (irq : Bool) (s : State) : Host.Outcome State Fault Refusal :=
  s.on (fun b => b.cmd cbSEC irq (fun c => (c.named (c.arg cbSEC 0)).readCounter))
/-- MAP_WRITE (R345). -/
def execMapWrite (irq : Bool) (s : State) : Host.Outcome State Fault Refusal :=
  s.on (fun b => b.cmd cbSEC irq (fun c => c.mapWrite))
/-- MAP_READ (R345). -/
def execMapRead (irq : Bool) (s : State) : Host.Outcome State Fault Refusal :=
  s.on (fun b => b.cmd cbSEC irq (fun c => c.mapRead))
/-- SKIP_BLOCK (R345). -/
def execSkipBlock (irq mramOk : Bool) (s : State) : Host.Outcome State Fault Refusal :=
  s.on (fun b => (b.cmd cbSEC irq (fun c => (c.named (c.arg cbSEC 0)).skipBlock mramOk)).settle)
/-- LOAD (R372). -/
def execKeyLoad (irq mramOk : Bool) (s : State) : Host.Outcome State Fault Refusal :=
  s.on (fun b => b.cmd cbKEY irq (fun c => c.keyLoad mramOk))
/-- VERIFY (R372). -/
def execKeyVerify (irq : Bool) (s : State) : Host.Outcome State Fault Refusal :=
  s.on (fun b => b.cmd cbKEY irq (fun c => c.keyVerify))
/-- PROMOTE (R372): it stays BUSY until its boundary. -/
def execKeyPromote (irq : Bool) (s : State) : Host.Outcome State Fault Refusal :=
  s.on (fun b => b.command cbKEY irq (fun c => c.keyPromote))
/-- INVALIDATE (R361). -/
def execKeyInvalidate (irq : Bool) (s : State) : Host.Outcome State Fault Refusal :=
  s.on (fun b => b.cmd cbKEY irq (fun c => c.keyInvalidate))
/-- ORPHAN_ZEROISE (R361): due once the boundary after an INVALIDATE has come. -/
def execOrphanZeroise (s : State) : Host.Outcome State Fault Refusal :=
  s.on (fun b => if b.key.orphanDue then b.orphanZero else b)
/-- RETIRE_AT_REACHED (R355). -/
def execRetireAtReached (pocket : Nat) (s : State) : Host.Outcome State Fault Refusal :=
  s.on (fun b => b.retireEnd pocket true)
/-- ERASE (R372). -/
def execKeyErase (irq : Bool) (s : State) : Host.Outcome State Fault Refusal :=
  s.on (fun b => b.cmd cbKEY irq (fun c => c.keyErase))
/-- READ_POCKET (R372). -/
def execReadPocket (irq : Bool) (s : State) : Host.Outcome State Fault Refusal :=
  s.on (fun b => b.cmd cbKEY irq (fun c => c.readPocket))
/-- SET_NODE_EPOCH (R365). -/
def execSetNodeEpoch (irq : Bool) (s : State) : Host.Outcome State Fault Refusal :=
  s.on (fun b => b.cmd cbKEY irq (fun c => c.setNodeEpoch))
/-- REKEY_NODE (R366). -/
def execRekeyNode (irq : Bool) (s : State) : Host.Outcome State Fault Refusal :=
  s.on (fun b => b.cmd cbKEY irq (fun c => (c.named (c.arg cbKEY 0)).rekeyNode))
/-- DERIVE_CHECK (R372). -/
def execDeriveCheck (irq : Bool) (s : State) : Host.Outcome State Fault Refusal :=
  s.on (fun b => b.cmd cbKEY irq (fun c => (c.named (c.arg cbKEY 0)).deriveCheck))

end Sys2Proof.Machine
end

