-- ==== Sys2Proof/Machine/RadioRows.lean ====
section
/-!
DEFINITION. One meaning for each row of RFC, RXP and TXP (R168 to R257), but for the wake receiver.
-/
namespace Sys2Proof.Machine

/-- LOCK_DETECTED (R169). -/
def execLockDetected (g : Nat) (s : State) : Host.Outcome State Fault Refusal :=
  s.on (fun b => b.lockDetected g)
/-- LOCK_TIMEOUT (R169). -/
def execLockTimeout (g : Nat) (s : State) : Host.Outcome State Fault Refusal :=
  s.on (fun b => b.lockTimeout g)
/-- CAL_COMPLETE (R169, R179). -/
def execCalComplete (g : Nat) (m : CalMeas) (s : State) : Host.Outcome State Fault Refusal :=
  s.on (fun b => b.calComplete g m)
/-- CAL_FAIL (R179). -/
def execCalFail (g : Nat) (tj : Int) (s : State) : Host.Outcome State Fault Refusal :=
  s.on (fun b => b.calFail g tj)
/-- CAL (R193). -/
def execCal (irq : Bool) (s : State) : Host.Outcome State Fault Refusal :=
  s.on (fun b => b.wakeFor.cmd cbRFC irq (fun c => c.calCmd))
/-- CAL_CANCEL (R193). -/
def execCalCancel (irq : Bool) (s : State) : Host.Outcome State Fault Refusal :=
  s.on (fun b => b.wakeFor.cmd cbRFC irq (fun c => c.calCancelCmd))
/-- READ_CAL (R193). -/
def execReadCal (irq : Bool) (s : State) : Host.Outcome State Fault Refusal :=
  s.on (fun b => b.wakeFor.cmd cbRFC irq (fun c => c.readCal))
/-- COEX_REQ_ASSERT (R185): a frame that is to be sent, before its take point where LEAD_US is long (R245). -/
def execCoexReqAssert (id : Nat) (s : State) : Host.Outcome State Fault Refusal :=
  s.on (fun b => if (b.tf id).any (fun (f : TxF) => f.phase != TxPhase.air) then b.coexAssert id else b)
/-- COEX_GRANT_LOST (R187). -/
def execCoexGrantLost (set : Nat) (s : State) : Host.Outcome State Fault Refusal :=
  s.on (fun b => b.grantLost set)
/-- PREAMBLE_DETECTION (R204). -/
def execPreambleDetection (p : Preamble) (s : State) : Host.Outcome State Fault Refusal :=
  s.on (fun b => b.detect p)
/-- GAIN_STEP_DOWN (R209). -/
def execGainStepDown (lane : Nat) (peak : Int) (s : State) : Host.Outcome State Fault Refusal :=
  s.on (fun b => b.gainDown lane peak)
/-- GAIN_STEP_UP (R209). -/
def execGainStepUp (lane : Nat) (peak : Int) (s : State) : Host.Outcome State Fault Refusal :=
  s.on (fun b => b.gainUp lane peak)
/-- GAIN_STEP_EFFECT (R210). -/
def execGainStepEffect (lane : Nat) (s : State) : Host.Outcome State Fault Refusal :=
  s.on (fun b => b.gainEffect lane)
/-- PHR_DECODED (R223). -/
def execPhrDecoded (p : Phr) (s : State) : Host.Outcome State Fault Refusal :=
  s.on (fun b => b.phr p)
/-- SYNC_LOST (R231). -/
def execSyncLost (ctx : Nat) (s : State) : Host.Outcome State Fault Refusal :=
  s.on (fun b => b.endRx ctx CAUSE.SYNC_LOST)
/-- CAPTURE_SINR_LOSS (R220). -/
def execCaptureSinrLoss (ctx : Nat) (sinr : Int) (s : State) : Host.Outcome State Fault Refusal :=
  s.on (fun b => b.sinrEst ctx sinr)
/-- RECEPTION_END (R229). -/
def execReceptionEnd (r : RxEnd) (mramOk : Bool) (s : State) : Host.Outcome State Fault Refusal :=
  s.on (fun b => (b.rxEnd r mramOk).settle)
/-- STEER_WINDOW_END (R227). -/
def execSteerWindowEnd (s : State) : Host.Outcome State Fault Refusal :=
  s.on (fun b => b.steerEnd)
/-- LANE_EN_WRITE (R198): a lane outside the seven has no register. -/
def execLaneEnWrite (lane : Nat) (en : Bool) (s : State) : Host.Outcome State Fault Refusal :=
  s.on (fun b => if 6 < lane then b else b.gated 0xA (fun c => c.laneSet lane en))
/-- READ_CHAN (R233). -/
def execReadChan (irq : Bool) (s : State) : Host.Outcome State Fault Refusal :=
  s.on (fun b => b.wakeFor.cmd cbRXP irq (fun c => c.readChan))
/-- READ_CTX of RXP (R233). -/
def execRxpReadCtx (irq : Bool) (s : State) : Host.Outcome State Fault Refusal :=
  s.on (fun b => b.wakeFor.cmd cbRXP irq (fun c => c.rxReadCtx))
/-- KEY_POINT (R334). -/
def execKeyPoint (id : Nat) (mramOk : Bool) (s : State) : Host.Outcome State Fault Refusal :=
  s.on (fun b => (b.keyPoint id mramOk).settle)
/-- TAKE_POINT (R244). -/
def execTakePoint (id : Nat) (mramOk : Bool) (s : State) : Host.Outcome State Fault Refusal :=
  s.on (fun b => (b.takePoint id mramOk).settle)
/-- RX_TO_TX (R169, R245). -/
def execRxToTx (g : Nat) (s : State) : Host.Outcome State Fault Refusal :=
  s.on (fun b => b.rxToTx g)
/-- TRANSMIT_SETUP_POINT (R171). -/
def execTransmitSetupPoint (id : Nat) (granted : Bool) (s : State) : Host.Outcome State Fault Refusal :=
  s.on (fun b => (b.lateWake (b2n ((b.tf id).any (fun (f : TxF) => f.phase == TxPhase.taken)))).setupPoint id granted)
/-- FEM_EARLY (R167). -/
def execFemEarly (g : Nat) (s : State) : Host.Outcome State Fault Refusal :=
  s.on (fun b => b.femEarlyOn g)
/-- CARRIER_START (R245). -/
def execCarrierStart (id : Nat) (s : State) : Host.Outcome State Fault Refusal :=
  s.on (fun b => b.carrierStart id)
/-- TRANSMISSION_END (R256). -/
def execTransmissionEnd (id : Nat) (s : State) : Host.Outcome State Fault Refusal :=
  s.on (fun b => b.txEnd id)
/-- FEM_TAIL_RELEASE (R167). -/
def execFemTailRelease (g : Nat) (s : State) : Host.Outcome State Fault Refusal :=
  s.on (fun b => b.femRelease g)
/-- CARRIERS_APPLY (R241). -/
def execCarriersApply (chain : Nat) (s : State) : Host.Outcome State Fault Refusal :=
  s.on (fun b => b.carriersApply chain)
/-- DUTY_BUCKET_ROLL (R248). -/
def execDutyBucketRoll (s : State) : Host.Outcome State Fault Refusal :=
  s.on (fun b => b.dutyRoll)
/-- TONE (R257). -/
def execTone (irq : Bool) (s : State) : Host.Outcome State Fault Refusal :=
  s.on (fun b => b.wakeFor.cmd cbTXP irq (fun c => c.tone))
/-- TONE_STOP (R257). -/
def execToneStop (irq : Bool) (s : State) : Host.Outcome State Fault Refusal :=
  s.on (fun b => b.wakeFor.cmd cbTXP irq (fun c => c.toneStop))
/-- TONE_END (R257). -/
def execToneEnd (chain : Nat) (s : State) : Host.Outcome State Fault Refusal :=
  s.on (fun b => b.toneEnd chain)
/-- WAKE_CALL (R257): it stays BUSY until the call ends. -/
def execWakeCall (irq : Bool) (s : State) : Host.Outcome State Fault Refusal :=
  s.on (fun b => b.wakeFor.command cbTXP irq (fun c => c.wakeCall))
/-- WAKE_CALL_END (R257). -/
def execWakeCallEnd (s : State) : Host.Outcome State Fault Refusal :=
  s.on (fun b => b.wakeCallEnd)

end Sys2Proof.Machine
end

