-- ==== Sys2Proof/Machine/SeaRows.lean ====
section
/-!
DEFINITION. One meaning for each row of SEA (R469 to R492).
-/
namespace Sys2Proof.Machine

/-! ### Commands (R489) -/

def Chip.pairCmd (b : Chip) : Sum Chip CmdOut :=
  if !b.seamOn || !b.t Reg.SEA_BLOCK_LOCK then .inr (b.fail WRONG_STATE)
  else if b.pairKey.isNone then .inr (b.keyMissing.fail KEY_INVALID)
  else .inl (b.modSea (fun x => { x with hello := true, pairLeft := some 40 }))

def Chip.claimCmd (b : Chip) : Sum Chip CmdOut :=
  if !b.seamOn || !(b.role == 1 || b.isStandby) || b.t Reg.SEA_CLAIM_IN || within8 b.sea.actAge || b.sea.claim.isSome ||
      !(b.t Reg.SEA_BASED || bit (b.arg cbSEA 0) 0) then .inr (b.fail WRONG_STATE)
  else .inl (b.claimStart 3 true)

def Chip.handoverCmd (b : Chip) : Sum Chip CmdOut :=
  let ok := match b.sea.peer with
    | some p => p.role == 2 && p.mirror == 2
    | none => false
  if !b.mirrorOn || !ok || decide (4 < b.r Reg.SEA_LAG) || decide (b.sea.okRun < 8) || b.r Reg.SEA_PAIR_EPOCH == 2 ^ 32 - 1 then
    .inr (b.fail WRONG_STATE)
  else
    let s := cdiv (cdiv (b.nowNs + 250000) 250000 + 1) (max 1 b.pat.slotStitches) + 1
    let e := b.r Reg.SEA_PAIR_EPOCH + 1
    .inl ((b.modSea (fun x => { x with hand := some (s, e), hoSeen := false })).seamSend
      [{ kind := 12, body := leBytes s 8 ++ leBytes e 4 ++ [0, 0, 0, 0] }])

def Chip.resyncCmd (b : Chip) : CmdOut :=
  if !b.seamOn || !b.isStandby || !b.t Reg.SEA_PAIRED then b.fail WRONG_STATE else (b.setMirror 3).done []

/-! ### Pairing (R477) -/

/-- The first item of R59 that differs, by its number in PAIR_MISMATCH. -/
def Chip.pairDiff (b : Chip) (l : List Nat) : Option Nat :=
  if fldLE l 0 8 ≠ b.pat.pairId then some 0
  else if fldLE l 16 2 ≠ b.pat.slotStitches then some 1
  else if l.getD 18 0 ≠ b.pat.sfExp then some 2
  else if fldLE l 12 4 ≠ b.pat.weaveCells then some 3
  else if fldLE l 8 4 ≠ b.pat.nodeCount then some 4
  else if l.getD 19 0 = 0 then some 5
  else none

/-- A frame whose FCS or TAG fails, or that cannot be checked for want of the pair key, is discarded (R470). -/
def Chip.seamIn (b : Chip) (h : SeamHdr) (kind : Nat) (f : Chip → SeamRec → Chip) : Chip :=
  let r := seamRecord h
  if !b.seamOn || b.role == 4 || !b.t Reg.SEA_BLOCK_LOCK then b
  else if !b.tagOk h then b.inc Reg.SEA_TAG_FAIL
  else if r.kind = kind then f b r
  else b

/-- HELLO: the exchange, and the end of a PAIR command. -/
def Chip.helloIn (b : Chip) (l : List Nat) : Chip :=
  let busy := b.sea.pairLeft.isSome
  match b.pairDiff l with
  | some d =>
    let b1 := ((b.wb Reg.SEA_PAIRED false).modSea (fun x => { x with hello := false, pairLeft := none })).raise Src.SEA N.PAIR_MISMATCH (argB d 0 0 0 0)
    if busy then b1.cmdFinish cbSEA WRONG_STATE [] else b1
  | none =>
    let eui := slice l 32 8
    let b1 := ((b.wb Reg.SEA_PAIRED true).w Reg.SEA_PEER_EUI_HI (beNat (eui.take 4))).w Reg.SEA_PEER_EUI_LO (beNat (eui.drop 4))
    let b2 := (b1.learnEpoch (fldLE l 24 4)).raise Src.SEA N.PAIRED (leNat eui)
    let b3 := if b.sea.hello then b2 else b2.helloOut
    let b4 := b3.modSea (fun x => { x with hello := false, pairLeft := none, seqOut := 0, seqIn := 0, ackOut := seqNone, waiting := [], pass := none })
    if busy then b4.cmdFinish cbSEA OK [l.getD 20 0, b4.r Reg.SEA_PEER_EPOCH, b4.r Reg.SEA_PEER_EUI_LO, b4.r Reg.SEA_PEER_EUI_HI] else b4

/-! ### Heartbeats (R479, R480, R482, R485) -/

def Chip.beatIn (b : Chip) (l : List Nat) : Chip :=
  let p := readBeat l
  let own := b.r Reg.SEA_PAIR_EPOCH
  let fresh := !within8 b.sea.actAge
  let b1 := (b.learnEpoch p.epoch).w Reg.SEA_MISS_RUN 0
  let b2 := b1.modSea (fun x => { x with
    hb := true, peer := some p, seamDown := false, noMirror := false,
    actAge := if p.role = 3 then some 0 else x.actAge, lowAge := if p.epoch < own then some 0 else x.lowAge,
    hoSeen := x.hoSeen || (x.hand.isSome && p.hoReady) })
  let b3 := match b2.role, p.role with
    | 1, 3 => b2.hearActive
    | 3, 3 => b2.peerActive p.epoch (beNat p.eui) 6 fresh
    | 2, 3 => b2.modSea (fun x => { x with marks := x.marks ++ [(p.seq, 0)] })
    | 3, 2 =>
      if (p.mirror = 0 ∨ p.mirror = 3) ∧ b2.sea.waiting.isEmpty ∧ b2.sea.hand.isNone then
        b2.modSea (fun x => { x with bulk := true, snapOk := false })
      else b2
    | _, _ => b2
  (b3.lagShow (if b3.isStandby then b3.r Reg.SEA_MIRROR_SEQ else p.seq)).lagTest

/-! ### Records (R471, R478 to R481) -/

/-- A record of a sequenced frame, applied where the frame is the one expected and the device is a STANDBY. -/
def Chip.recIn (b : Chip) (h : SeamHdr) (kind : Nat) (f : Chip → SeamRec → Chip) : Chip := b.seamIn h kind (fun b r =>
  let seq := seamSeq h
  let b1 := b.seamAck (seamAckOf h)
  if seq = seqNone ∨ ¬ b1.t Reg.SEA_PAIRED then b1
  else if h.index = 0 then
    if seq ≠ b1.sea.seqIn then b1
    else
      let b2 := b1.modSea (fun x => { x with seqIn := seqNext seq, ackOut := seq })
      if b2.isStandby then f b2 r else b2
  else if seq = b1.sea.ackOut ∧ b1.isStandby then f b1 r
  else b1)

/-- A record has been applied: a change counts in MIRROR_SEQ, one of a pass in BULK_ITEMS. -/
def Chip.recCount (b : Chip) (bulk : Bool) : Chip :=
  let b1 := if bulk then b.inc Reg.SEA_BULK_ITEMS else b.w Reg.SEA_MIRROR_SEQ (b.r Reg.SEA_MIRROR_SEQ + 1)
  ((b1.inc Reg.SEA_REC_APPLIED).lagShow (b1.r Reg.SEA_MIRROR_SEQ)).lagTest

/-- A context of a STANDBY changes, and its address entries with it (R401). -/
def Chip.ctxApply (b : Chip) (n c : Nat) : Chip :=
  let old := b.node n
  let e := fun (x : Nat) => if cx x Cx.STATE = NS.EMPTY then none else some (cx x Cx.EUI64)
  let sh := fun (x : Nat) =>
    if cx x Cx.STATE = NS.EMPTY ∨ cx x Cx.STATE = NS.RETIRED ∨ cx x Cx.SHORT_ADDR = 0xFFFE then none else some (cx x Cx.SHORT_ADDR)
  let move := fun (b : Chip) (t : Nat) (o v : Option Nat) =>
    if o = v then b
    else
      let b1 := match o with
        | some k => b.removeOwn t k n
        | none => b
      match v with
      | some k => b1.nodeTake t k n
      | none => b1
  let b1 := b.setNs n (cx c Cx.STATE)
  let b2 := if e old = e c then b1 else b1.dropKeys n
  move (move (b2.putNode n c) 1 (e old) (e c)) 2 (sh old) (sh c)

/-- CONTEXT. -/
def Chip.contextIn (b : Chip) (n : Nat) (l : List Nat) (bulk : Bool) : Chip :=
  if b.pat.nodeCount ≤ n then b.recCount bulk else (b.ctxApply n (leNat (l.take 256))).recCount bulk

def putCells (b : Chip) (i : Nat) (l : List Nat) : Chip :=
  match l with
  | [] => b
  | w :: t => putCells (if i < b.pat.weaveCells then b.setCell i w else b) (i + 1) t
/-- CELLS. -/
def Chip.cellsIn (b : Chip) (i : Nat) (l : List Nat) (bulk : Bool) : Chip := (putCells b i (toWords l (l.length / 4))).recCount bulk

/-- A mirrored pocket as this device holds it: its fields as the record has them, its key wrapped again under the own copy of the parent. -/
def Chip.pocketHeld (b : Chip) (l key : List Nat) : Pocket :=
  let g := fun (i : Nat) => l.getD i 0
  let parent := fldLE l 4 2
  { state := bits (g 0) 0 3, verified := bit (g 0) 3, promoting := bit (g 0) 4, rewrap := bit (g 0) 5, typ := g 1 % 16, usage := fldLE l 2 2,
    parent := parent, partner := fldLE l 6 2, epoch := fldLE l 8 4,
    parentEpoch := if parent = 0xFFFF then 0 else ((b.pocket parent).map (·.epoch)).getD 0, stateStitch := fldLE l 16 4, retireAt := fldLE l 20 4,
    key := if key.isEmpty then none else some (.raw key),
    wrapped := if key.isEmpty then [] else ((b.wrapOctets parent).map (fun w => kwWrap w key)).getD [], test := b.t Reg.KEY_TEST_ROOT }
/-- POCKET: the key is unwrapped under the pair pocket; a record whose check fails is discarded, and the copy is STALE (R481). A WRAPPED of zeros
carries no key (log entry 10). -/
def Chip.pocketIn' (b : Chip) (p : Nat) (l : List Nat) (bulk : Bool) : Chip :=
  let st := bits (l.headD 0) 0 3
  let w := slice l 32 (keyLen (l.getD 1 0 % 16) + 8)
  if 4095 < p ∨ (b.t Reg.SEA_PAIR_PK_EN ∧ p = b.r Reg.SEA_PAIR_POCKET) then b.recCount bulk
  else if st = 0 ∨ 4 < st then (b.writePocket p none).recCount bulk
  else if allZero w then (b.writePocket p (some (b.pocketHeld l []))).recCount bulk
  else match b.pairKey.bind (fun k => kwUnwrap (keyOctets k) w) with
    | none => ((b.inc Reg.SEA_TAG_FAIL).setMirror 3).recCount bulk
    | some key => (b.writePocket p (some (b.pocketHeld l key))).recCount bulk

/-- CEILING (R342). -/
def Chip.ceilIn (b : Chip) (cid : Nat) (l : List Nat) (bulk : Bool) : Chip :=
  let e := fldLE l 0 4
  let c := fldLE l 4 4
  let v : Ceil := match kget b.sec.ceil cid with
    | some o => { epoch := e, ceiling := if o.epoch = e then max o.ceiling c else c }
    | none => { epoch := e, ceiling := c }
  Chip.recCount { b with sec := { b.sec with ceil := kput b.sec.ceil cid v } } bulk

/-- ROUTE: 0 seconds left stands for no route. -/
def Chip.routeIn (b : Chip) (n : Nat) (l : List Nat) (bulk : Bool) : Chip :=
  let left := fldLE l 4 4
  let st : RouteSt := { seq := some (l.headD 0), deadline := if left = 0 then none else some (b.nowNs + left * 1000000000) }
  let b1 := b.modSvc (fun s => { s with routes := kput s.routes n st })
  (b1.modSea (fun x => { x with pass := x.pass.map (fun p => (n :: p.1, p.2)) })).recCount bulk

/-- REG: 0 minutes left removes (R401, R457). -/
def Chip.regIn (b : Chip) (n : Nat) (l : List Nat) (bulk : Bool) : Chip :=
  let a := beNat (slice l 0 16)
  let mins := fldLE l 28 4
  if mins = 0 then (b.regDrop a).recCount bulk
  else
    let r : Regn := { addr := a, node := n, rovr := beNat (slice l 16 8), tid := l.getD 24 0, deadline := b.nowNs + mins * 60000000000 }
    let b1 := b.putRegs (r :: b.svc.regs.filter (fun y => y.addr != a))
    let b2 := b1.nodeTake 0 (addrKey a) n
    (b2.modSea (fun x => { x with pass := x.pass.map (fun p => (p.1, a :: p.2)) })).recCount bulk

/-- KEYSTATE: NODE_EPOCH and the owner table. -/
def Chip.keyStateIn (b : Chip) (l : List Nat) (bulk : Bool) : Chip :=
  let hs := ((List.range 4).map (fun i => slice l (4 + 32 * i) 32)).filter (fun h => !allZero h)
  ((Chip.w { b with key := { b.key with nodeEpoch := fldLE l 0 4 } } Reg.KEY_NODE_EPOCH (fldLE l 0 4)).setOwners hs).recCount bulk

def putCtxs (b : Chip) (l : List Nat) (k : Nat) : Chip :=
  match k with
  | 0 => b
  | j + 1 =>
    let x : CompCtx := { len := l.getD 1 0, valid := bit (l.getD 2 0) 0, prefix_ := slice l 16 16 }
    putCtxs (b.modSvc (fun s => { s with ctxs := kput s.ctxs (l.headD 0 % 16) x })) (l.drop 32) j
/-- CONFIG: pair beacons, compression contexts and the RPL configuration. -/
def Chip.configIn (b : Chip) (l : List Nat) (bulk : Bool) : Chip :=
  let w := fldLE l 0 4
  let b1 := putCtxs ((b.wb Reg.SCH_PAIR_EN (bit w 0)).w Reg.SCH_PAIR_COL (bits w 16 10)) (slice l 4 512) 16
  let r := slice l 516 32
  let g := fun (i : Nat) => r.getD i 0
  let rpl : Rpl := { b1.svc.rpl with inst := g 0, imin := g 1, doublings := g 2, redundancy := g 3, minRank := fldLE r 4 2,
                                     maxRank := fldLE r 6 2, life := g 8, unit := fldLE r 10 2, dodag := slice r 16 16,
                                     set := b1.svc.rpl.set || !allZero r }
  ((b1.modSvc (fun s => { s with rpl := rpl })).keepSvc).recCount bulk

/-- BULK_MARK (R480). -/
def Chip.bulkIn (b : Chip) (item : Nat) : Chip :=
  if item = 0 then
    let seq := (b.sea.peer.map (fun (p : Beat) => p.seq)).getD (b.r Reg.SEA_MIRROR_SEQ)
    let b1 := ((b.w Reg.SEA_BULK_ITEMS 0).w Reg.SEA_MIRROR_SEQ seq).w Reg.SEA_LAG 0
    (b1.modSea (fun x => { x with pass := some ([], []), marks := [], ended := false })).setMirror 1
  else match b.sea.pass with
    | none => b
    | some (rts, rgs) =>
      let b1 := b.modSvc (fun s => { s with routes := s.routes.filter (fun e => rts.contains e.1) })
      let b2 := ((b1.svc.regs.filter (fun r => !rgs.contains r.addr)).map (·.addr)).foldl Chip.regDrop b1
      let b3 := ((b2.wb Reg.SEA_BASED true).inc Reg.SEA_BULK_PASSES).modSea (fun x => { x with pass := none, ended := true })
      if b3.r Reg.SEA_MIRROR = 1 then b3.lagTest else b3.modSea (fun x => { x with ended := false })

/-! ### Handover (R488) -/

/-- The prefetch boundary of slot S: A hands over or keeps the district, B claims. -/
def Chip.handSwitch (b : Chip) : Chip :=
  match b.sea.hand with
  | none => b
  | some (s, e) =>
    let p := s * max 1 b.pat.slotStitches - 1
    if !b.seamOn || decide (b.tim.stitch < p) then b
    else if b.isStandby then (if b.sea.claim.isSome then b else b.claimStart 4 false)
    else if b.role ≠ 3 then b
    else
      let b0 := Chip.modSea { b with gap := false } (fun x => { x with hand := none })
      if b.sea.hoSeen ∧ b.r Reg.SEA_MISS_RUN < 8 then
        let b1 := ((b0.toStandby 2 4).wb Reg.SEA_BASED true).inc Reg.SEA_HANDOVERS
        b1.cmdFinish cbSEA OK [s % 2 ^ 32, e]
      else
        let b1 := if b.tim.stitch = p then
            let gone := b0.tx.frames.filter (fun f => f.2.phase == TxPhase.planned && decide (s * b0.slotNs ≤ f.2.t))
            (gone.foldl (fun c f => c.txDel f.1) b0).prefetch s
          else b0
        b1.cmdFinish cbSEA ABORTED []

/-! ### The rows -/

/-- PAIR (R489). -/
def execPair (irq : Bool) (s : State) : Host.Outcome State Fault Refusal :=
  s.on (fun b => b.command cbSEA irq Chip.pairCmd)
/-- CLAIM (R489). -/
def execClaim (irq : Bool) (s : State) : Host.Outcome State Fault Refusal :=
  s.on (fun b => b.command cbSEA irq Chip.claimCmd)
/-- HANDOVER (R488, R489). -/
def execHandover (irq : Bool) (s : State) : Host.Outcome State Fault Refusal :=
  s.on (fun b => b.command cbSEA irq Chip.handoverCmd)
/-- RESYNC (R480, R489). -/
def execResync (irq : Bool) (s : State) : Host.Outcome State Fault Refusal :=
  s.on (fun b => b.cmd cbSEA irq Chip.resyncCmd)
/-- HELLO received (R477). -/
def execHello (f : SeamOct) (e : SeamEnd) (s : State) : Host.Outcome State Fault Refusal :=
  s.on (fun b => (if b.seamOn && b.role != 4 then b.keyMissing else b).seamIn ⟨f, e⟩ 1 (fun c r => c.helloIn r.body))
/-- HEARTBEAT received (R482). -/
def execHeartbeat (f : SeamOct) (e : SeamEnd) (s : State) : Host.Outcome State Fault Refusal :=
  s.on (fun b => b.seamIn ⟨f, e⟩ 2 (fun c r => (c.seamAck (seamAckOf ⟨f, e⟩)).beatIn r.body))
/-- CONTEXT record (R478). -/
def execContextRecord (f : SeamOct) (tag : List Nat) (index : Nat) (s : State) : Host.Outcome State Fault Refusal :=
  s.on (fun b => b.recIn ⟨f, ⟨tag, index⟩⟩ 3 (fun c r => c.contextIn r.item r.body r.bulk))
/-- CELLS record (R478). -/
def execCellsRecord (f : SeamOct) (tag : List Nat) (index : Nat) (s : State) : Host.Outcome State Fault Refusal :=
  s.on (fun b => b.recIn ⟨f, ⟨tag, index⟩⟩ 4 (fun c r => c.cellsIn r.item r.body r.bulk))
/-- POCKET record (R481). -/
def execPocketRecord (fcsOk : Bool) (octets tag : List Nat) (index : Nat) (s : State) : Host.Outcome State Fault Refusal :=
  s.on (fun b => b.recIn ⟨⟨fcsOk, octets⟩, ⟨tag, index⟩⟩ 5 (fun c r => c.pocketIn' r.item r.body r.bulk))
/-- CEILING record (R342). -/
def execCeilingRecord (f : SeamOct) (tag : List Nat) (index : Nat) (s : State) : Host.Outcome State Fault Refusal :=
  s.on (fun b => b.recIn ⟨f, ⟨tag, index⟩⟩ 6 (fun c r => c.ceilIn r.item r.body r.bulk))
/-- ROUTE record (R470). -/
def execRouteRecord (f : SeamOct) (tag : List Nat) (index : Nat) (s : State) : Host.Outcome State Fault Refusal :=
  s.on (fun b => b.recIn ⟨f, ⟨tag, index⟩⟩ 7 (fun c r => c.routeIn r.item r.body r.bulk))
/-- REG record (R470). -/
def execRegRecord (f : SeamOct) (tag : List Nat) (index : Nat) (s : State) : Host.Outcome State Fault Refusal :=
  s.on (fun b => b.recIn ⟨f, ⟨tag, index⟩⟩ 8 (fun c r => c.regIn r.item r.body r.bulk))
/-- KEYSTATE record (R470). -/
def execKeystateRecord (f : SeamOct) (e : SeamEnd) (s : State) : Host.Outcome State Fault Refusal :=
  s.on (fun b => b.recIn ⟨f, e⟩ 9 (fun c r => c.keyStateIn r.body r.bulk))
/-- CONFIG record (R470). -/
def execConfigRecord (f : SeamOct) (e : SeamEnd) (s : State) : Host.Outcome State Fault Refusal :=
  s.on (fun b => b.recIn ⟨f, e⟩ 10 (fun c r => c.configIn r.body r.bulk))
/-- BULK_MARK record (R480). -/
def execBulkMarkRecord (f : SeamOct) (e : SeamEnd) (s : State) : Host.Outcome State Fault Refusal :=
  s.on (fun b => b.recIn ⟨f, e⟩ 11 (fun c r => c.bulkIn r.item))
/-- HANDOVER record (R488): a STANDBY holds it. -/
def execHandoverRecord (f : SeamOct) (e : SeamEnd) (s : State) : Host.Outcome State Fault Refusal :=
  s.on (fun b => b.recIn ⟨f, e⟩ 12 (fun c r => c.modSea (fun x => { x with hand := some (fldLE r.body 0 8, fldLE r.body 8 4) })))
/-- SEAM_RETRANSMIT (R471). -/
def execSeamRetransmit (s : State) : Host.Outcome State Fault Refusal := s.on Chip.seamResend
/-- SEAM_BLOCK_LOCK (R469, R477). -/
def execSeamBlockLock (up : Bool) (s : State) : Host.Outcome State Fault Refusal :=
  s.on (fun b =>
    let b1 := b.wb Reg.SEA_BLOCK_LOCK up
    if !up then (b1.wb Reg.SEA_PAIRED false).modSea (fun x => { x with pass := none })
    else if b1.seamOn && b1.role != 4 && b1.t Reg.SEA_AUTO_PAIR then b1.keyMissing.modSea (fun x => { x with hello := true })
    else b1)
/-- CLAIM_IN_SAMPLE (R484). -/
def execClaimInSample (s : State) : Host.Outcome State Fault Refusal := s.on Chip.claimSample
/-- CLAIM_RETRY (R484). -/
def execClaimRetry (s : State) : Host.Outcome State Fault Refusal := s.on Chip.claimAgain
/-- CLAIM_IN_CHANGE (R472, R485). -/
def execClaimInChange (level : Bool) (s : State) : Host.Outcome State Fault Refusal := s.on (fun b => b.claimIn level)
/-- LISTEN_TIMEOUT (R476). -/
def execListenTimeout (s : State) : Host.Outcome State Fault Refusal := s.on Chip.listenEnd
/-- SSYNC_EDGE (R473). -/
def execSsyncEdge (skew : Int) (s : State) : Host.Outcome State Fault Refusal := s.on (fun b => b.skewEdge skew)
/-- HANDOVER_SWITCH (R488). -/
def execHandoverSwitch (s : State) : Host.Outcome State Fault Refusal := s.on Chip.handSwitch

end Sys2Proof.Machine
end

