-- ==== Sys2Proof/Machine/TableRows.lean ====
section
/-!
DEFINITION. One meaning for each row of FWD, QMG and TMG (R376 to R444), but for the ends of egress.
-/
namespace Sys2Proof.Machine

/-- READ (R402). -/
def execFwdRead (irq : Bool) (s : State) : Host.Outcome State Fault Refusal :=
  s.on (fun b => b.cmd cbFWD irq (fun c => c.fwdRead))
/-- WRITE (R402, R403). -/
def execFwdWrite (irq : Bool) (s : State) : Host.Outcome State Fault Refusal :=
  s.on (fun b => b.cmd cbFWD irq (fun c => c.fwdWrite))
/-- INSERT (R386). -/
def execFwdInsert (irq : Bool) (s : State) : Host.Outcome State Fault Refusal :=
  s.on (fun b => b.cmd cbFWD irq (fun c => c.fwdInsert))
/-- DELETE (R402). -/
def execFwdDelete (irq : Bool) (s : State) : Host.Outcome State Fault Refusal :=
  s.on (fun b => b.cmd cbFWD irq (fun c => c.fwdDelete))
/-- SEARCH (R402). -/
def execFwdSearch (irq : Bool) (s : State) : Host.Outcome State Fault Refusal :=
  s.on (fun b => b.cmd cbFWD irq (fun c => c.fwdSearch))
/-- AGE_NOW (R402). -/
def execAgeNow (irq : Bool) (s : State) : Host.Outcome State Fault Refusal :=
  s.on (fun b => b.cmd cbFWD irq (fun c => c.ageNow))
/-- REHASH_STEP, START (R389). -/
def execRehashStart (irq : Bool) (s : State) : Host.Outcome State Fault Refusal :=
  s.on (fun b => b.cmd cbFWD irq (fun c => c.rehashStart))
/-- REHASH_STEP, MOVE (R389). -/
def execRehashMove (irq : Bool) (s : State) : Host.Outcome State Fault Refusal :=
  s.on (fun b => b.cmd cbFWD irq (fun c => c.rehashMove))
/-- REHASH_STEP, FINISH (R389). -/
def execRehashFinish (irq : Bool) (s : State) : Host.Outcome State Fault Refusal :=
  s.on (fun b => b.cmd cbFWD irq (fun c => c.rehashFinish))
/-- REHASH_STEP, REVERT (R389). -/
def execRehashRevert (irq : Bool) (s : State) : Host.Outcome State Fault Refusal :=
  s.on (fun b => b.cmd cbFWD irq (fun c => c.rehashRevert))
/-- REHASH_STEP, REFILTER (R390). -/
def execRefilter (irq : Bool) (s : State) : Host.Outcome State Fault Refusal :=
  s.on (fun b => b.cmd cbFWD irq (fun c => c.refilter))
/-- LEARN_APPLY (R393). -/
def execLearnApply (s : State) : Host.Outcome State Fault Refusal :=
  s.on (fun b => b.learnApply)
/-- ITEM_OPEN (R413). -/
def execItemOpen (queue size prio : Nat) (x : OpenedBy) (s : State) : Host.Outcome State Fault Refusal :=
  s.on (fun b => b.evOpen queue size prio x.node x.data)
/-- ITEM_TAKE (R416, R423). -/
def execItemTake (queue node ecc : Nat) (dram : Bool) (s : State) : Host.Outcome State Fault Refusal :=
  s.on (fun b => b.evTake queue node ecc dram)
/-- ITEM_RELEASE (R416). -/
def execItemRelease (queue id : Nat) (s : State) : Host.Outcome State Fault Refusal :=
  s.on (fun b => b.evRelease queue id)
/-- ITEM_RETURN (R416). -/
def execItemReturn (queue id : Nat) (s : State) : Host.Outcome State Fault Refusal :=
  s.on (fun b => b.evReturn queue id)
/-- FRONT_PUSH (R417). -/
def execFrontPush (queue node : Nat) (data : List Nat) (s : State) : Host.Outcome State Fault Refusal :=
  s.on (fun b => b.evFront queue node data)
/-- ITEM_DROP_REST (R419). -/
def execItemDropRest (queue id : Nat) (s : State) : Host.Outcome State Fault Refusal :=
  s.on (fun b => b.evDrop queue id)
/-- SPILL_READBACK (R411). -/
def execSpillReadback (queue : Nat) (s : State) : Host.Outcome State Fault Refusal :=
  s.on (fun b => if queue < b.pat.queueCount then b.spillBack queue else b)
/-- CONFIG_Q (R425). -/
def execConfigQ (irq : Bool) (s : State) : Host.Outcome State Fault Refusal :=
  s.on (fun b => b.cmd cbQMG irq (fun c => c.configCmd))
/-- READ_Q (R425). -/
def execReadQ (irq : Bool) (s : State) : Host.Outcome State Fault Refusal :=
  s.on (fun b => b.cmd cbQMG irq (fun c => c.readQ))
/-- DROP_REST (R425). -/
def execDropRest (irq : Bool) (s : State) : Host.Outcome State Fault Refusal :=
  s.on (fun b => b.cmd cbQMG irq (fun c => c.dropRestCmd))
/-- FLUSH (R425). -/
def execQFlush (irq : Bool) (s : State) : Host.Outcome State Fault Refusal :=
  s.on (fun b => b.cmd cbQMG irq (fun c => c.flushCmd))
/-- SET_GROUP (R425). -/
def execSetGroup (irq : Bool) (s : State) : Host.Outcome State Fault Refusal :=
  s.on (fun b => b.cmd cbQMG irq (fun c => c.setGroup))
/-- GATE_ENTRY_CHANGE (R436). -/
def execGateEntryChange (port : Nat) (s : State) : Host.Outcome State Fault Refusal :=
  s.on (fun b => (b.lateWake (b2n (decide (port < 2) && b.t (Reg.TMG_GATE_EN port)))).gateNext port)
/-- GATE_TAKEOVER (R439). -/
def execGateTakeover (port : Nat) (s : State) : Host.Outcome State Fault Refusal :=
  s.on (fun b => (b.lateWake (b2n (kget b.tmg.swap port).isSome)).gateTake port)
/-- LATENCY_WINDOW_END (R442). -/
def execLatencyWindowEnd (s : State) : Host.Outcome State Fault Refusal :=
  s.on (fun b => b.latClose b.tim.stitch)
/-- SET_CHILD (R443). -/
def execSetChild (irq : Bool) (s : State) : Host.Outcome State Fault Refusal :=
  s.on (fun b => b.cmd cbTMG irq (fun c => c.setChild))
/-- READ_CHILD (R443). -/
def execReadChild (irq : Bool) (s : State) : Host.Outcome State Fault Refusal :=
  s.on (fun b => b.cmd cbTMG irq (fun c => c.readChild))
/-- GATE_WRITE (R443). -/
def execGateWrite (irq : Bool) (s : State) : Host.Outcome State Fault Refusal :=
  s.on (fun b => b.cmd cbTMG irq (fun c => c.gateWrite))
/-- GATE_COMMIT (R443). -/
def execGateCommit (irq : Bool) (s : State) : Host.Outcome State Fault Refusal :=
  s.on (fun b => b.sooner (fun d => d.cmd cbTMG irq (fun c => c.gateCommit)))
/-- GATE_CANCEL (R443). -/
def execGateCancel (irq : Bool) (s : State) : Host.Outcome State Fault Refusal :=
  s.on (fun b => b.cmd cbTMG irq (fun c => c.gateCancel))
/-- GATE_READ (R443). -/
def execGateRead (irq : Bool) (s : State) : Host.Outcome State Fault Refusal :=
  s.on (fun b => b.cmd cbTMG irq (fun c => c.gateRead))
/-- READ_LAT (R443). -/
def execReadLat (irq : Bool) (s : State) : Host.Outcome State Fault Refusal :=
  s.on (fun b => b.cmd cbTMG irq (fun c => c.readLat))

end Sys2Proof.Machine
end

