-- ==== Sys2Proof/Machine/TimeRows.lean ====
section
/-!
DEFINITION. One meaning for each row of TIM and TMR (R130 to R161).
-/
namespace Sys2Proof.Machine

/-- INCR_COMMIT (R131). -/
def execIncrCommit (rq : Requester) (value : Word) (s : State) : Host.Outcome State Fault Refusal :=
  s.on (fun b => b.gated 4 (fun c => c.incrCommit rq value.toNat))
/-- INCR_APPLY (R131): the first tick after the commit. -/
def execIncrApply (s : State) : Host.Outcome State Fault Refusal :=
  s.on (fun b => if b.tim.pendIncr.isSome then b.oneTick.settle else b)
/-- STEP_COMMIT (R133). -/
def execStepCommit (rq : Requester) (value : Word) (s : State) : Host.Outcome State Fault Refusal :=
  s.on (fun b => b.gated 4 (fun c => c.stepCommit rq value.toNat))
/-- STEP_APPLY (R133). -/
def execStepApply (s : State) : Host.Outcome State Fault Refusal :=
  s.on (fun b => if b.tim.pendStep.isSome then b.oneTick.settle else b)
/-- SET_COMMIT (R134). -/
def execSetCommit (rq : Requester) (value : Word) (s : State) : Host.Outcome State Fault Refusal :=
  s.on (fun b => b.gated 4 (fun c => c.setCommit rq value.toNat))
/-- SET_APPLY (R134). -/
def execSetApply (s : State) : Host.Outcome State Fault Refusal :=
  s.on (fun b => if b.tim.pendSet.isSome then b.oneTick.settle else b)
/-- HOLDOVER_REQ (R138). -/
def execHoldoverReq (s : State) : Host.Outcome State Fault Refusal := s.on (fun b => b.gated 4 Chip.holdoverReq)
/-- HOLDOVER_TIMEOUT (R138). -/
def execHoldoverTimeout (s : State) : Host.Outcome State Fault Refusal := s.on Chip.holdoverTimeout
/-- TS_FIFO_POP (R149): a read of TS_W0. -/
def execTsFifoPop (rq : Requester) (port : Nat) (s : State) : Host.Outcome State Fault Refusal :=
  s.on (fun b =>
    if 1 < port then b
    else if !b.readable 4 then b.emit (.data rq [0, 0, 0, 0])
    else
      let r := b.tsPop rq port
      r.1.emit (.data rq (leBytes r.2 4)))
/-- TRIGGER_ARM (R150): a write of a trigger channel's control word. -/
def execTriggerArm (n : Nat) (value : Word) (s : State) : Host.Outcome State Fault Refusal :=
  s.on (fun b => b.gated 4 (fun c => if n < 12 then c.sooner (fun d => d.trigCtrl n value.toNat) else c))
/-- TRIGGER_FIRE (R150, R152): network time reaches the target. -/
def execTriggerFire (n : Nat) (s : State) : Host.Outcome State Fault Refusal := s.on (fun b => ((b.lateWake (b2n (kget b.tim.trig n).isSome)).trigToFire n).settle)
/-- RAW_CAPTURE_END (R232). -/
def execRawCaptureEnd (n : RawEnd) (s : State) : Host.Outcome State Fault Refusal := s.on (fun b => b.windowEnd n.n n.samples)

/-- TIMER_ARM (R156). -/
def execTimerArm (n : Nat) (s : State) : Host.Outcome State Fault Refusal :=
  s.on (fun b => b.gated 3 (fun c => if n < 64 then c.hostTimer n (Reg.TMR_ARM n).off (fun d => d.sooner (fun e => e.tmrArm n)) else c))
/-- TIMER_STOP (R156). -/
def execTimerStop (n : Nat) (s : State) : Host.Outcome State Fault Refusal :=
  s.on (fun b => b.gated 3 (fun c => if n < 64 then c.hostTimer n (Reg.TMR_STOP n).off (fun d => d.tmrStop n) else c))
/-- COUNT_WRITE (R161). -/
def execCountWrite (n : Nat) (value : Word) (s : State) : Host.Outcome State Fault Refusal :=
  s.on (fun b => b.gated 3 (fun c => if n < 64 then c.hostTimer n (Reg.TMR_COUNT n).off (fun d => d.sooner (fun e => e.w (Reg.TMR_COUNT n) value.toNat)) else c))
/-- COMPARE_WRITE (R155). -/
def execCompareWrite (n : Nat) (value : Word) (s : State) : Host.Outcome State Fault Refusal :=
  s.on (fun b => b.gated 3 (fun c => if n < 64 then c.hostTimer n (Reg.TMR_COMPARE n).off (fun d => d.sooner (fun e => e.tmrCompare n value.toNat)) else c))
/-- COMPARE_MATCH (R155): the count of a channel on the TIME tick reaches COMPARE. -/
def execCompareMatch (n : Nat) (s : State) : Host.Outcome State Fault Refusal := s.on (fun b => ((b.lateWake (b2n (b.t (Reg.TMR_RUNNING n) && b.t (Reg.TMR_CMP_ARMED n)))).tmrToMatch n).settle)
/-- ONESHOT_END (R156). -/
def execOneshotEnd (n : Nat) (s : State) : Host.Outcome State Fault Refusal := s.on (fun b => (b.tmrToEnd n).settle)
/-- CAPTURE_EDGE (R157). -/
def execCaptureEdge (n : Nat) (level : Bool) (samples : Nat) (s : State) : Host.Outcome State Fault Refusal :=
  s.on (fun b => if n < 64 ∧ b.timeRuns then b.capLevel n level samples else b)
/-- CAPTURE_READ (R158). -/
def execCaptureRead (rq : Requester) (n : Nat) (s : State) : Host.Outcome State Fault Refusal :=
  s.on (fun b =>
    if 63 < n then b
    else if !b.readable 3 then b.emit (.data rq [0, 0, 0, 0])
    else
      let r := b.capRead n
      r.1.emit (.data rq (leBytes r.2 4)))
/-- EVENT_INPUT_EDGE (R153, R154): a rising edge on a pin TEV0 to TEV7; the sources inside the device raise theirs in the step that makes them. -/
def execEventInputEdge (src : Nat) (s : State) : Host.Outcome State Fault Refusal :=
  s.on (fun b => if b.timeRuns && decide (src < 8) && !b.tevParked src then b.evtCount src else b)

end Sys2Proof.Machine
end

