-- ==== Sys2Proof/Machine/CmdMap.lean ====
section
/-!
DEFINITION. A CMD write by block and code: which row's meaning it runs (R531, R532). What a storage operation or a service does beyond the
block's own state is an operand of that row; a write that carries none draws a free value for it.
-/
namespace Sys2Proof.Machine

/-- The state after a meaning. -/
def State.after (s : State) (o : Host.Outcome State Fault Refusal) : State := match o with
  | .next t => t
  | _ => s
/-- An outcome the spec leaves open. -/
def State.coin (s : State) : Bool × State :=
  let r := s.b.free 1
  (r.1 == 1, { s with b := r.2 })
/-- Run a row with such an operand. -/
def State.withCoin (s : State) (f : Bool → State → Host.Outcome State Fault Refusal) : Host.Outcome State Fault Refusal :=
  f s.coin.1 s.coin.2

def cmdGlb (code : Nat) (irq : Bool) (s : State) : Option (Host.Outcome State Fault Refusal) :=
  match code with
  | 1 => some (execDiagStatus irq s)
  | 2 => some (execReadReport irq s)
  | 3 => some (execReadAttest irq s)
  | 4 => some (s.withCoin (fun k t => execLoadManifest irq k t))
  | 5 => some (execReboot irq s)
  | _ => none
def cmdRfc (code : Nat) (irq : Bool) (s : State) : Option (Host.Outcome State Fault Refusal) :=
  match code with
  | 1 => some (execCal irq s)
  | 2 => some (execCalCancel irq s)
  | 3 => some (execReadCal irq s)
  | _ => none
def cmdRxp (code : Nat) (irq : Bool) (s : State) : Option (Host.Outcome State Fault Refusal) :=
  match code with
  | 1 => some (execReadChan irq s)
  | 2 => some (execRxpReadCtx irq s)
  | _ => none
def cmdTxp (code : Nat) (irq : Bool) (s : State) : Option (Host.Outcome State Fault Refusal) :=
  match code with
  | 1 => some (execTone irq s)
  | 2 => some (execToneStop irq s)
  | 3 => some (execWakeCall irq s)
  | _ => none
def cmdMac (code : Nat) (irq : Bool) (s : State) : Option (Host.Outcome State Fault Refusal) :=
  match code with
  | 1 => some (execNodeAdmit irq s)
  | 2 => some (execReadCtx irq s)
  | 3 => some (execWriteCtx irq s)
  | 4 => some (execSuspend irq s)
  | 5 => some (execResume irq s)
  | 6 => some (execRetire irq s)
  | 7 => some (execNodeClear irq s)
  | 8 => some (execNodeFind irq s)
  | 9 => some (execResetLink irq s)
  | _ => none
def cmdSch (code : Nat) (irq : Bool) (s : State) : Option (Host.Outcome State Fault Refusal) :=
  match code with
  | 1 => some (execAlloc irq s)
  | 2 => some (execReclaim irq s)
  | 3 => some (execReadCell irq s)
  | 4 => some (execWriteCell irq s)
  | 5 => some (execNodeCells irq s)
  | 6 => some (execPairSet irq s)
  | _ => none
def cmdSec (code : Nat) (irq : Bool) (s : State) : Option (Host.Outcome State Fault Refusal) :=
  match code with
  | 1 => some (execReadCounter irq s)
  | 2 => some (execMapWrite irq s)
  | 3 => some (execMapRead irq s)
  | 4 => some (s.withCoin (fun k t => execSkipBlock irq k t))
  | _ => none
def cmdKey (code : Nat) (irq : Bool) (s : State) : Option (Host.Outcome State Fault Refusal) :=
  match code with
  | 1 => some (s.withCoin (fun k t => execKeyLoad irq k t))
  | 2 => some (execKeyVerify irq s)
  | 3 => some (execKeyPromote irq s)
  | 4 => some (execKeyInvalidate irq s)
  | 5 => some (execKeyErase irq s)
  | 6 => some (execReadPocket irq s)
  | 7 => some (execSetNodeEpoch irq s)
  | 8 => some (execRekeyNode irq s)
  | 9 => some (execDeriveCheck irq s)
  | _ => none
/-- REHASH_STEP by its ARG1 (R402). -/
def cmdRehash (op : Nat) (irq : Bool) (s : State) : Option (Host.Outcome State Fault Refusal) :=
  match op with
  | 0 => some (execRehashStart irq s)
  | 1 => some (execRehashMove irq s)
  | 2 => some (execRehashFinish irq s)
  | 3 => some (execRehashRevert irq s)
  | 4 => some (execRefilter irq s)
  | _ => none
def cmdFwd (code : Nat) (irq : Bool) (s : State) : Option (Host.Outcome State Fault Refusal) :=
  match code with
  | 1 => some (execFwdRead irq s)
  | 2 => some (execFwdWrite irq s)
  | 3 => some (execFwdInsert irq s)
  | 4 => some (execFwdDelete irq s)
  | 5 => some (execFwdSearch irq s)
  | 6 => some (execAgeNow irq s)
  | 7 => cmdRehash (s.b.arg cbFWD 1) irq s
  | _ => none
def cmdQmg (code : Nat) (irq : Bool) (s : State) : Option (Host.Outcome State Fault Refusal) :=
  match code with
  | 1 => some (execConfigQ irq s)
  | 2 => some (execReadQ irq s)
  | 3 => some (execDropRest irq s)
  | 4 => some (execQFlush irq s)
  | 5 => some (execSetGroup irq s)
  | _ => none
def cmdTmg (code : Nat) (irq : Bool) (s : State) : Option (Host.Outcome State Fault Refusal) :=
  match code with
  | 1 => some (execSetChild irq s)
  | 2 => some (execReadChild irq s)
  | 3 => some (execGateWrite irq s)
  | 4 => some (execGateCommit irq s)
  | 5 => some (execGateCancel irq s)
  | 6 => some (execGateRead irq s)
  | 7 => some (execReadLat irq s)
  | _ => none
def cmdSea (code : Nat) (irq : Bool) (s : State) : Option (Host.Outcome State Fault Refusal) :=
  match code with
  | 1 => some (execPair irq s)
  | 2 => some (execClaim irq s)
  | 3 => some (execHandover irq s)
  | 4 => some (execResync irq s)
  | _ => none
def cmdUpd (code : Nat) (irq : Bool) (s : State) : Option (Host.Outcome State Fault Refusal) :=
  match code with
  | 1 => some (s.withCoin (fun k t => execUpdInstall irq k t))
  | 2 => some (execUpdActivate irq s)
  | 3 => some (execUpdCancel irq s)
  | 4 => some (execReadBank irq s)
  | 5 => some (execReadPart irq s)
  | 6 => some (execUpdRevert irq s)
  | _ => none
/-- SUBMIT takes its operation from the request record (R462). -/
def cmdSvc (code : Nat) (irq : Bool) (s : State) : Option (Host.Outcome State Fault Refusal) :=
  match code with
  | 1 => some (s.withCoin (fun late t => t.withCoin (fun fin u => .next (u.svcSubmit irq none late fin))))
  | _ => none
def cmdDbg (code : Nat) (irq : Bool) (s : State) : Option (Host.Outcome State Fault Refusal) :=
  match code with
  | 1 => some (execDebugEnable irq s)
  | 2 => some (execDebugDisable irq s)
  | _ => none

/-- The meaning of a command code of the block at a base; none for an unassigned code. -/
def cmdOf (base code : Nat) (irq : Bool) (s : State) : Option (Host.Outcome State Fault Refusal) :=
  if base = cbGLB then cmdGlb code irq s
  else if base = cbRFC then cmdRfc code irq s
  else if base = cbRXP then cmdRxp code irq s
  else if base = cbTXP then cmdTxp code irq s
  else if base = cbMAC then cmdMac code irq s
  else if base = cbSCH then cmdSch code irq s
  else if base = cbSEC then cmdSec code irq s
  else if base = cbKEY then cmdKey code irq s
  else if base = cbFWD then cmdFwd code irq s
  else if base = cbQMG then cmdQmg code irq s
  else if base = cbTMG then cmdTmg code irq s
  else if base = cbSEA then cmdSea code irq s
  else if base = cbUPD then cmdUpd code irq s
  else if base = cbSVC then cmdSvc code irq s
  else if base = cbDBG then cmdDbg code irq s
  else none
/-- A command to RFC, RXP, TXP, MAC or SCH ends NAP and DROWSE (R517). -/
def wakes (base : Nat) : Bool := [cbRFC, cbRXP, cbTXP, cbMAC, cbSCH].contains base
/-- A CMD write (R532): a code of 0 is ignored, an unassigned code completes BAD_ARG. -/
def State.cmdWrite (s : State) (base v : Nat) : State :=
  let code := v % 256
  let irq := bit v 8
  if code = 0 then s
  else match cmdOf base code irq s with
    | some o => s.after o
    | none => { s with b := (if wakes base then s.b.wakeFor else s.b).cmd base irq (fun c => c.fail BAD_ARG) }

end Sys2Proof.Machine
end

