-- ==== Sys2Proof/Machine/RegRead.lean ====
section
/-!
DEFINITION. A register read by any requester: the fields of a word, the views that the block computes, latching, and what a read consumes (R9,
R10, R27, R29, R127, R149, R158, R531, R538).
-/
namespace Sys2Proof.Machine

/-! ### The fields of a word -/

/-- The command block whose registers hold an offset (R531). -/
def cbOf (off : Nat) : Option Nat := cbBases.find? (fun base => decide (base ≤ off ∧ off < base + 0x98))
/-- The fields of a word of a command block. -/
def cbFields (base k : Nat) : List Fld :=
  if k = 4 then [cbCODE base, cbSEQ base, cbDONE base, cbBUSY base]
  else if 0x10 ≤ k ∧ k < 0x50 then [cbARG base ((k - 0x10) / 4)]
  else if 0x50 ≤ k ∧ k < 0x90 then [cbRESULT base ((k - 0x50) / 4)]
  else if k = 0x90 then [cbREJECT base]
  else if k = 0x94 then [cbCOLLIDE base]
  else []
/-- PADCFG words exist for the groups of R559 alone, and an analog group has only FUNC (R562). -/
def padFields (off : Nat) : List Fld :=
  let id := (off - 0x400) / 4
  if !padIds.contains id then []
  else if padAnalog.contains id then [Reg.GLB_FUNC id]
  else [Reg.GLB_DRIVE id, Reg.GLB_PULL id, Reg.GLB_SLOW id, Reg.GLB_FUNC id]
/-- The fields of the word at an aligned offset; none at an unassigned offset (R9). -/
def fieldsOf (off : Nat) : List Fld :=
  match cbOf off with
  | some base => cbFields base (off - base)
  | none => if 0x400 ≤ off ∧ off < 0x500 then padFields off else Reg.fieldsAt off

/-! ### Views (R127, R130, R139, R234, R291) -/

/-- The source that QUAL_SEL names, by source code. -/
def Chip.qualSrc (b : Chip) : Nat := [2, 1, 3].getD (b.r Reg.CKR_QUAL_SEL) 2
/-- The crossing that XING_SEL names. -/
def Chip.xingShown (b : Chip) : Xing := kgetD b.clk.xing (b.r Reg.CKR_XING_SEL) {}
/-- The mean noise floor of a lane's channels. -/
def Chip.laneNoise (b : Chip) (l : Nat) : Int :=
  let n := b.laneChans l
  if b.laneExists l ∧ n ≠ 0 then ((List.range n).map (fun c => (kgetD b.rx.chans (128 * l + c) {}).floor)).sum / (n : Int) else 0
/-- Words that show what another part of the state holds. -/
def Chip.view (b : Chip) (f : Fld) : Nat :=
  let ns := b.tim.now / nsU
  let info := Config.crossingInfo (b.r Reg.CKR_XING_SEL)
  if f.off = 0x10010 then kgetD b.clk.coarse b.qualSrc 0
  else if f.off = 0x10014 then kgetD b.clk.fine b.qualSrc 0
  else if f.off = 0x10048 then (if f.lo = 0 then info.1 else if f.lo = 4 then info.2.1 else if f.lo = 8 then info.2.2.1 else info.2.2.2)
  else if f.off = 0x1004C then
    (if f.lo = 0 then b2n b.xingShown.ovr else if f.lo = 1 then b2n b.xingShown.pend else if f.lo = 2 then b2n b.xingShown.fly
     else b.xingShown.lost)
  else if f.off = 0x40010 then b.tim.now / 2 ^ 16 % 2 ^ 16
  else if f.off = 0x40014 then ns % 1000000000
  else if f.off = 0x40018 then ns / 1000000000
  else if f.off = 0x4001C then ns / 1000000000 / 2 ^ 32
  else if f.off = 0x40040 then b.tim.stitch
  else if f.off = 0x40044 then b.tim.stitch / 2 ^ 32
  else if f.off = 0x120140 then b.tim.stitch / max 1 b.pat.slotStitches
  else if f.off = 0x120148 then b.tim.stitch / max 1 b.pat.slotStitches % max 1 b.sfSlots
  else if f.key = Reg.WUR_LISTENING.key then b2n b.wurListens
  else if f.off = 0x120144 then b.tim.stitch / max 1 b.pat.slotStitches / 2 ^ 32
  else match idxAt f.off 0xA0208 0x20 7 with
    | some l => ofS (b.laneNoise l) 16
    | none => b.r f
/-- Fields whose values the spec leaves to the device or takes from a pin: the wake receiver's threshold, and a set's live grant
(R194). -/
def openFld (off : Nat) : List (Nat × Nat) :=
  if off = 0x9000C then [(8, 8)]
  else if (idxAt off 0x80404 0x10 3).isSome then [(1, 1)]
  else []
/-- The four lowest engine-owned timer channels, which the control processors' firmware uses for lifetimes, Trickle intervals, campaigns, and the
SAFE beacon and the watchdog (R55). -/
def Chip.firmChan (b : Chip) (n : Nat) : Bool :=
  (b.ready || b.safe) && !b.t (Reg.TMR_HOST_OWNED n) && decide (((List.range n).filter (fun m => !b.t (Reg.TMR_HOST_OWNED m))).length < 4)
/-- What a word of those channels shows is what firmware has last set: every bit but HOST_OWNED is a free value (log entry 81). -/
def firmFlds (k : Nat) : List (Nat × Nat) :=
  if k = 0 then [(0, 30)] else if k = 0x20 then [(0, 6), (7, 1)] else if k = 0x24 then [(0, 4)]
  else if 8 ≤ k ∧ k ≤ 0x1C then [(0, 32)] else []
/-- The channel of firmware that holds a word. -/
def Chip.firmAt (b : Chip) (off : Nat) : Option Nat := (idxAt (off / 0x40 * 0x40) 0x30000 0x40 64).filter b.firmChan
/-- The bits of a word that read free. -/
def Chip.openAt (b : Chip) (off : Nat) : List (Nat × Nat) := if (b.firmAt off).isSome then firmFlds (off % 0x40) else openFld off

/-! ### Reading a word -/

/-- Read one field into the word: a published RC counter by R29, any other RC field is cleared, WO reads zero (R10). A highest value since the last
read starts again at the present one (log entry 95). -/
def Chip.readFld (r : Chip × Nat) (f : Fld) : Chip × Nat :=
  let b := r.1
  let put := fun (v : Nat) => r.2 + v % 2 ^ f.w * 2 ^ f.lo
  if f.acc = Acc.wo then r
  else if f.acc = Acc.rc then
    (if (pubKey f.key).isSome then
      let v := kgetD b.bank f.key 0
      (Chip.w { b with bank := kdel b.bank f.key } f (b.r f - v), put v)
    else if f.key = Reg.RXP_ACTIVE_PEAK.key then (b.w f (b.r Reg.RXP_RXP_ACTIVE), put (b.r f))
    else if f.key = Reg.QMG_SPILL_PEAK.key then (b.w f (b.r Reg.QMG_SPILL_USED), put (b.r f))
    else if f.key = Reg.FWD_LEARN_PEAK.key then (b.w f b.fwd.learn.length, put (b.r f))
    else if f.off = 0x1004C then
      (b.modClk (fun k => { k with xing := kmod k.xing (b.r Reg.CKR_XING_SEL) (fun (x : Xing) => { x with lost := 0 }) }), put (b.view f))
    else (b.w f 0, put (b.r f)))
  else (b, put (b.view f))
/-- One word, with a free value in a field that the spec leaves open. -/
def Chip.readPlain (b : Chip) (off : Nat) : Chip × Nat :=
  (b.openAt off).foldl (fun r e =>
    let x := r.1.free e.2
    (x.2, putBits r.2 e.1 e.2 x.1)) ((fieldsOf off).foldl Chip.readFld (b, 0))

/-- The multi-word registers of R27 and R28: the lowest word's offset and the number of words. RW values over several words that no chapter puts
under R28 (MGMT_ADDR0-3, MAC_LO/HI, ring BASE_LO/HI, RING_BASE_LO/HI) are single words, each written at once (DESIGN CHOICE, log entry 83). -/
def groups : List (Nat × Nat) :=
  [(0x4, 2), (0xC, 2), (0x200, 2), (0x210, 8), (0x10010, 2), (0x40010, 4), (0x40020, 2), (0x40028, 2), (0x40030, 4), (0x40040, 2),
   (0x120140, 2), (0x180130, 5), (0x22010C, 2)] ++
  (List.range 12).map (fun n => (0x40200 + 0x20 * n, 3)) ++ (List.range 2).map (fun p => (0x1E0210 + 0x40 * p, 3)) ++
  (List.range 2).map (fun p => (0x40110 + 0x40 * p, 4))
/-- The multi-word register that holds a word. -/
def groupOf (off : Nat) : Option (Nat × Nat) := groups.find? (fun g => decide (g.1 ≤ off ∧ off < g.1 + 4 * g.2 ∧ (off - g.1) % 4 = 0))
/-- Offsets of a multi-word register's words above the lowest. -/
def upperOffs (g : Nat × Nat) : List Nat := (List.range (g.2 - 1)).map (fun i => g.1 + 4 + 4 * i)
/-- The words of a multi-word register. -/
def Chip.groupWords (b : Chip) (g : Nat × Nat) : List Nat := (List.range g.2).map (fun i => (b.readPlain (g.1 + 4 * i)).2)

/-- A read of one aligned word of the block's registers, with its effects. -/
def Chip.readWord (b : Chip) (rq : Requester) (off : Nat) : Chip × Nat :=
  if !b.readable (partOf off) then (b, 0)
  else if off = Reg.HIF_UART_DROP.off then b.uartSettle.readPlain off
  else if off = 0x300 then Chip.readPlain { b with ntc := { b.ntc with safeIrq := false } } off
  else match idxAt off 0x40110 0x40 2 with
    | some p => b.tsPop rq p
    | none => match idxAt off 0x3001C 0x40 64 with
      | some n => if b.firmChan n then b.readPlain off else b.capRead n
      | none => match groupOf off with
        | none => b.readPlain off
        | some g =>
          if off = g.1 then
            let l := b.groupWords g
            ((b.unstage rq (upperOffs g)).latchWords rq off l, l.headD 0)
          else match kget b.latch (lkey rq off) with
            | some v => (b, v)
            | none => (b, (b.readPlain off).2)

/-! ### Buffers -/

/-- The 4 KiB buffers: the diagnostic result buffer, the UPD chunk buffer, and the SVC request and response buffers (R95, R462, R507). -/
def isBuf (off : Nat) : Bool := [0x1, 0x241, 0x261, 0x262].contains (off / 0x1000)
/-- A read of one aligned word of the window. -/
def State.readWord (s : State) (rq : Requester) (off : Nat) : State × Nat :=
  if isBuf off then (s, if s.b.readable (partOf off) then leNat (s.mem.read off 4) else 0)
  else
    let r := s.b.readWord rq off
    ({ s with b := r.1 }, r.2)
/-- `n` words at ascending offsets, each read with its effects (R9). -/
def State.readWords (s : State) (rq : Requester) (off n : Nat) : State × List Nat :=
  match n with
  | 0 => (s, [])
  | k + 1 =>
    let r := s.readWord rq off
    let t := r.1.readWords rq (off + 4) k
    (t.1, r.2 :: t.2)
/-- The octets of a read of any length: every word it touches is read (R9). -/
def State.readOctets (s : State) (rq : Requester) (off n : Nat) : State × List Nat :=
  let first := off / 4 * 4
  let r := s.readWords rq first (if n = 0 then 0 else (off + n + 3) / 4 - off / 4)
  (r.1, slice (ofWords r.2) (off - first) n)
/-- The register window is 4 MiB (R9, R530). -/
def windowSize : Nat := 0x400000
/-- A read by a requester, its octets returned; outside the window there is nothing to read. -/
def State.regRead (s : State) (rq : Requester) (off octets : Nat) : Host.Outcome State Fault Refusal :=
  if windowSize < off + octets ∨ windowSize ≤ off then .fault .outsideWindow
  else
    let r := s.readOctets rq off octets
    .next { r.1 with b := r.1.b.emit (.data rq r.2) }

/-- LATCH_READ (R27). -/
def execLatchRead (rq : Requester) (off octets : Nat) (s : State) : Host.Outcome State Fault Refusal := s.regRead rq off octets
/-- RC_COUNTER_READ (R29). -/
def execRcCounterRead (rq : Requester) (off octets : Nat) (s : State) : Host.Outcome State Fault Refusal := s.regRead rq off octets
/-- GLB_STATE_READ (R538). -/
def execGlbStateRead (rq : Requester) (s : State) : Host.Outcome State Fault Refusal := s.regRead rq 0x300 4

end Sys2Proof.Machine
end

