-- ==== Sys2Proof/Machine/RegWrite.lean ====
section
/-!
DEFINITION. A register write by any requester (R8 to R12, R28, R71, R582, R583), and the accesses of the console and of SPI (R539 to R541).
-/
namespace Sys2Proof.Machine

/-! ### RWL fields (R10, R195, R258, R490, R550, R551, R582) -/

/-- The engine that owns a word's RWL fields runs. -/
def Chip.engineOn (b : Chip) (off : Nat) : Bool :=
  match partOf off with
  | 5 => b.t Reg.NTC_EN
  | 9 => b.t Reg.WUR_EN
  | 0xC => b.t (Reg.TXP_TX_EN ((off - 0xC0200) / 0x20 % 4))
  | 0x20 => b.t (Reg.ETH_EN ((off - 0x200100) / 0x40 % 2))
  | 0x22 => b.t Reg.SEA_PAIRED
  | 0x28 => if off < 0x280400 then b.t (Reg.HIF_RX_EN ((off - 0x280200) / 0x20 % 8)) else b.t (Reg.HIF_TX_EN ((off - 0x280400) / 0x20 % 8))
  | _ => false

/-! ### One field -/

/-- The part of a written value that is no reserved bit of a word whose field table gives it whole (R8, R234, R551). -/
def Chip.kept (b : Chip) (off v : Nat) : Nat :=
  if off = 0x50000 then v - v % 2 ^ 16
  else if 0x284000 ≤ off ∧ off < 0x285000 then andN v 0x77777777
  else if (idxAt off 0x280200 0x20 8).isSome ∨ (idxAt off 0x280400 0x20 8).isSome then v - v % 64
  else match idxAt off 0xA0400 4 28 with
    | some i => andN v (b.detMask (i / 4) (i % 4))
    | none => v
/-- A field takes the written value by its access code (R10). -/
def Chip.writeFld (v : Nat) (run : Bool) (b : Chip) (f : Fld) : Chip :=
  let x := bits v f.lo f.w
  match f.acc with
  | .rw => b.w f x
  | .rwl => if run then b else b.w f x
  | .w1c => b.w f (andNot (b.r f) x)
  | .w1s => b.w f (orN (b.r f) x)
  | _ => b
/-- The fields that a write sets. -/
def Fld.sets (f : Fld) : Bool := f.acc == Acc.rw || f.acc == Acc.rwl

/-! ### What follows a write -/

/-- What a written word starts in its own block. -/
def Chip.wordHook (old b : Chip) (off : Nat) : Chip :=
  match partOf off with
  | 2 => b.wakeSetting
  | 3 => match idxAt off 0x30000 0x40 64 with
    | some n => if b.r (Reg.TMR_MODE n) = 0 then b.tmrStop n else b
    | none => b
  | 8 => match idxAt off 0x80400 0x10 3 with
    | some s => if b.t (Reg.RFC_CX_EN s) then b else (b.wb (Reg.RFC_CX_REQ s) false).wb (Reg.RFC_CX_PRI s) false
    | none => b
  | 0xA => match idxAt off 0xA0204 0x20 7 with
    | some l => b.gainBound l
    | none => b
  | 0xC => match idxAt off 0xC0100 0x40 4 with
    | some c => (b.carriersApply c).clampOver
    | none => b
  | 0x12 => b.wakeSetting
  | 0x18 => if off = 0x180118 then (b.stashLvl 0).stashLvl 1 else b
  | 0x1E => match idxAt off 0x1E0200 0x40 2 with
    | some p => (b.gateShow p).tmgPort p
    | none => b
  | 0x20 => match idxAt off 0x200100 0x40 2 with
    | some p =>
      let b1 := (b.w (Reg.ETH_MODE p) (old.r (Reg.ETH_MODE p))).portMode p (b.r (Reg.ETH_MODE p))
      let b2 := b1.supplyOver p
      if b2.t (Reg.ETH_EN p) then b2 else ((b2.wb (Reg.ETH_LINK p) false).wb (Reg.ETH_AN_DONE p) false).tmgPort p
    | none => b
  | 0x22 =>
    if off = 0x220118 && b.t Reg.SEA_AUTO_PAIR && !old.t Reg.SEA_AUTO_PAIR && b.t Reg.SEA_BLOCK_LOCK && !b.t Reg.SEA_PAIRED && b.seamOn && b.role != 4 then
      { b with sea := { b.sea with hello := true } }
    else b
  | _ => b
/-- A write of a word with no row of its own: the structure first, then ranges and relations, then each field by its code. -/
def Chip.writePlain (b : Chip) (off v0 : Nat) : Chip :=
  let v := b.kept off v0
  let fs := fieldsOf off
  let sets := fs.filter Fld.sets
  let run := b.engineOn off
  let held := fs.any (fun f => f.acc == Acc.rwl && run && bits v f.lo f.w != b.r f)
  if (partOf off == 3 && (idxAt (off / 0x40 * 0x40) 0x30000 0x40 64).any (fun n => !b.t (Reg.TMR_HOST_OWNED n)) && !fs.isEmpty) ||
      sets.any (fun f => b.exceeds f (bits v f.lo f.w) && (off != 0x12012C || bits v f.lo f.w != b.r f)) then b.structReject off
  else if sets.any (fun f => !Fld.allows f (bits v f.lo f.w)) || b.breaks off v then
    (if (idxAt off 0x30000 0x40 64).isSome then b.inc Reg.TMR_TMR_REJ_CNT else b)
  else
    let b1 := fs.foldl (Chip.writeFld v run) (if held then b.locked else b)
    Chip.wordHook b b1 off

/-! ### One word -/

/-- A trigger channel's target words, committed by the lowest (R28, R150). -/
def Chip.targetCommit (b : Chip) (rq : Requester) (n v : Nat) : Chip :=
  let o := 0x40200 + 0x20 * n
  let lo := (b.stagedAt rq (o + 4)).getD (b.r (Reg.TIM_TRG_TGT_SEC_LO n))
  let hi := (b.stagedAt rq (o + 8)).getD (b.r (Reg.TIM_TRG_TGT_SEC_HI n))
  let b1 := b.unstage rq [o + 4, o + 8]
  if !Fld.allows (Reg.TIM_TRG_TGT_NS n) v then b1
  else ((b1.w (Reg.TIM_TRG_TGT_NS n) v).w (Reg.TIM_TRG_TGT_SEC_LO n) lo).w (Reg.TIM_TRG_TGT_SEC_HI n) hi
/-- The words of TIM (R28, R131 to R134, R138, R150). -/
def Chip.writeTim (b : Chip) (rq : Requester) (off v : Nat) : Chip :=
  if off = 0x40000 then (if bit v 0 then b.holdoverReq else b)
  else if off = 0x40020 then b.incrCommit rq v
  else if off = 0x40028 then b.stepCommit rq v
  else if off = 0x40030 then b.setCommit rq v
  else if [0x40024, 0x4002C, 0x40034, 0x40038, 0x4003C].contains off then b.stage rq off v
  else if 0x40200 ≤ off ∧ off < 0x40380 then
    let n := (off - 0x40200) / 0x20
    match off % 0x20 with
    | 0x0 => b.targetCommit rq n v
    | 0x4 | 0x8 => b.stage rq off v
    | 0x10 => b.trigCtrl n v
    | _ => b.writePlain off v
  else b.writePlain off v
/-- The words of a timer channel (R71, R155, R156, R161). ARM and STOP written 1 in one word arm the channel and then stop it (DESIGN CHOICE, log
entry 111). -/
def Chip.writeTmr (b : Chip) (off v : Nat) : Chip :=
  let n := (off - 0x30000) / 0x40
  if n < 64 then
    match off % 0x40 with
    | 0x4 => b.hostTimer n off (fun c =>
        let c1 := if bit v 0 then c.tmrArm n else c
        if bit v 1 then c1.tmrStop n else c1)
    | 0x8 => b.hostTimer n off (fun c => c.w (Reg.TMR_COUNT n) v)
    | 0xC => b.hostTimer n off (fun c => c.tmrCompare n v)
    | _ => b.writePlain off v
  else b.writePlain off v
/-- A crossing's OVR, cleared by writing 1 (R123). -/
def Chip.writeXing (b : Chip) (v : Nat) : Chip :=
  if bit v 0 then b.modClk (fun k => { k with xing := kmod k.xing (b.r Reg.CKR_XING_SEL) (fun (x : Xing) => { x with ovr := false }) }) else b
/-- Descriptors that a write of TAIL hands over and whose contents no operand gives: free values. -/
def Chip.freePairs (b : Chip) (n : Nat) : List (Nat × Nat) × Chip :=
  match n with
  | 0 => ([], b)
  | k + 1 =>
    let a := b.free 64
    let l := a.2.free 16
    let r := l.2.freePairs k
    ((a.1, l.1) :: r.1, r.2)
def Chip.freeOctets (b : Chip) (n : Nat) : List Nat × Chip :=
  ((List.range n).map (fun i => Config.freeValue (b.freeCtr + i) % 256), { b with freeCtr := b.freeCtr + n })
def Chip.freeDescs (b : Chip) (n : Nat) : List TxDesc × Chip :=
  match n with
  | 0 => ([], b)
  | k + 1 =>
    let a := b.free 16
    let q := a.2.free 13
    let p := q.2.free 3
    let e := p.2.free 1
    let d := e.2.freeOctets a.1
    let r := d.2.freeDescs k
    ({ len := a.1, queue := q.1, prio := p.1, last := e.1 == 1, data := d.1 } :: r.1, r.2)
/-- The words of the host rings (R546, R547, R551). -/
def Chip.writeHif (b : Chip) (off v : Nat) : Chip :=
  let tx := decide (0x280400 ≤ off)
  let r := (off - (if tx then 0x280400 else 0x280200)) / 0x20
  if 0x280200 ≤ off ∧ r < 8 then
    match off % 0x20 with
    | 0x8 => b.ringCtl tx r v
    | 0xC =>
      let tail := v % 4096
      if tx then
        let d := b.freeDescs (b.posted true r tail)
        d.2.txPost r tail d.1
      else
        let d := b.freePairs (b.posted false r tail)
        d.2.rxPost r tail d.1
    | _ => b.writePlain off v
  else b.writePlain off v
/-- A write of one aligned word that its block takes. -/
def Chip.writeWord (b : Chip) (rq : Requester) (off v : Nat) : Chip :=
  match partOf off with
  | 1 => if off = 0x10000 then b.srcCtrl v else if off = 0x10060 then b.groupResets v
      else if off = 0x1004C then b.writeXing v else b.writePlain off v
  | 3 => b.writeTmr off v
  | 4 => b.writeTim rq off v
  | 5 => if off = 0x50008 then b.ntcCtl v else b.writePlain off v
  | 0xA => match idxAt off 0xA0200 0x20 7 with
    | some l => b.laneSet l (bit v 0)
    | none => b.writePlain off v
  | 0x20 => if off = 0x200140 ∧ bit v 0 ∧ b.parked 2 then b.structReject off else b.writePlain off v
  | 0x28 => b.writeHif off v
  | _ => b.writePlain off v
/-- A write of one aligned word of the window: a command, a buffer, or a register of a block that takes it (R71, R88, R91, R532). -/
def State.writeWord (s : State) (rq : Requester) (off v : Nat) : State :=
  if cbBases.contains off then s.cmdWrite off v
  else if !s.b.writable (partOf off) then { s with b := s.b.locked }
  else if isBuf off then { s with mem := s.mem.write off (leBytes v 4) }
  else { s with b := (s.b.sooner (fun c => c.writeWord rq off v)).settle }
/-- Words at ascending offsets. -/
def State.writeWords (s : State) (rq : Requester) (off : Nat) (l : List Nat) : State :=
  match l with
  | [] => s
  | v :: t => (s.writeWord rq off v).writeWords rq (off + 4) t
/-- A write by a requester (R9): a narrower or unaligned one is discarded and counted; so is an aligned one wider than 32 bits, of which R9
does not speak (DESIGN CHOICE, log entry 82). -/
def State.regWrite (s : State) (rq : Requester) (off octets v : Nat) : Host.Outcome State Fault Refusal :=
  if windowSize ≤ off then .fault .outsideWindow
  else if off % 4 ≠ 0 ∨ octets ≠ 4 then .next { s with b := s.b.locked }
  else .next (s.writeWord rq off v)

/-- REGISTER_WRITE (R10). -/
def execRegisterWrite (rq : Requester) (off octets : Nat) (value : Word) (s : State) : Host.Outcome State Fault Refusal :=
  s.regWrite rq off octets value.toNat

/-! ### The console (R541) -/

/-- A line that reads or writes registers is taken in READY alone, where the console has its pins. -/
def Chip.lineTaken (b : Chip) : Bool := b.ready && !b.parked 8
/-- Drop the words that a console line has staged. -/
def Chip.lineEnd (b : Chip) : Chip := { b with staged := b.staged.filter (fun e => e.1 / 2 ^ 22 != Requester.code .cpu) }
/-- `rd`. -/
def State.conRead (s : State) (off n : Nat) : State :=
  if !s.b.lineTaken then { s with b := s.b.consoleErr }
  else if n = 0 ∨ 16 < n ∨ off % 4 ≠ 0 ∨ windowSize < off + 4 * n then { s with b := s.b.consoleErr }
  else
    let r := s.readWords .cpu off n
    { r.1 with b := r.1.b.lineEnd.console (.uartWords r.2) }
/-- `wr`. -/
def State.conWrite (s : State) (off v : Nat) : State :=
  if !s.b.lineTaken then { s with b := s.b.consoleErr }
  else if !s.b.t Reg.GLB_UART_WR_EN then { s with b := s.b.console (.uartErr DENIED) }
  else if off % 4 ≠ 0 ∨ windowSize ≤ off then { s with b := s.b.consoleErr }
  else
    let t := s.writeWord .cpu off v
    { t with b := t.b.lineEnd.console .uartOk }
/-- CONSOLE_RD (R541). -/
def execConsoleRd (off n : Nat) (s : State) : Host.Outcome State Fault Refusal := .next (s.conRead off n)
/-- CONSOLE_WR (R541). -/
def execConsoleWr (off : Nat) (value : Word) (s : State) : Host.Outcome State Fault Refusal := .next (s.conWrite off value.toNat)

/-! ### SPI frames (R539, R540) -/

/-- A READ frame: the ready octet, then words from ascending offsets; a burst past the window's end is a frame error. -/
def State.spiRead (s : State) (addr octets : Nat) : State :=
  let off := addr % 2 ^ 24 / 4 * 4
  let room := windowSize - off
  if !s.b.coreRuns then s
  else
    let r := s.readOctets .spi off (min octets room)
    let b1 := r.1.b.spiOut (0xA5 :: r.2)
    { r.1 with b := if room < octets then b1.spiBad else b1 }
/-- A WRITE frame: each whole word is written; a part of a word, words past the window's end, and words after the 1,024th are discarded. -/
def State.spiWrite (s : State) (addr : Nat) (data : List Nat) : State :=
  let off := addr % 2 ^ 24 / 4 * 4
  let room := (windowSize - off) / 4
  let n := data.length / 4
  let bad := decide (data.length % 4 ≠ 0 ∨ n = 0 ∨ 1024 < n ∨ room < n)
  if !s.b.coreRuns then s
  else
    let t := s.writeWords .spi off (toWords data (min (min n 1024) room))
    { t with b := if bad then t.b.spiBad else t.b }
/-- SPI_READ (R540). -/
def execSpiRead (addr octets : Nat) (s : State) : Host.Outcome State Fault Refusal := .next (s.spiRead addr octets)
/-- SPI_WRITE (R539). -/
def execSpiWrite (addr : Nat) (data : List Nat) (s : State) : Host.Outcome State Fault Refusal := .next (s.spiWrite addr data)

end Sys2Proof.Machine
end

