-- ==== Sys2Proof/Machine/Mgmt.lean ====
section
/-!
DEFINITION. In-band management: a request of the queue is judged, acted on through the control processors' latch set, and answered (R548).
-/
namespace Sys2Proof.Machine

def mgmtOp (r : MgmtReq) : Nat := fldLE r.data 0 2
def mgmtSeq (r : MgmtReq) : Nat := fldLE r.data 4 8
def mgmtLen (r : MgmtReq) : Nat := fldLE r.data 12 4
def mgmtBody (r : MgmtReq) : List Nat := slice r.data 16 (mgmtLen r)
/-- The truncated HMAC over header and body. -/
def mgmtMac (key : KeyT) (l : List Nat) : List Nat := (hmac (keyOctets key) l).take 16
/-- The key that a request verifies under, where it is to be acted on. -/
def Chip.mgmtKey (b : Chip) (r : MgmtReq) : Option KeyT :=
  match b.pocketKey (b.r Reg.ETH_MGMT_POCKET) 4 7 with
  | .inl _ => none
  | .inr k =>
    if mgmtLen r ≤ 1152 ∧ r.data.length = 32 + mgmtLen r ∧ mgmtMac k (r.data.take (16 + mgmtLen r)) = r.data.drop (16 + mgmtLen r) ∧
        b.nv.mgmtSeq < mgmtSeq r then some k else none
/-- An IPv6 packet of one UDP datagram. -/
def udpPacket (src dst sport dport : Nat) (l : List Nat) : List Nat :=
  let n := l.length + 8
  let pseudo := beBytes src 16 ++ beBytes dst 16 ++ beBytes n 4 ++ [0, 0, 0, 17]
  let c := cksum (pseudo ++ beBytes sport 2 ++ beBytes dport 2 ++ beBytes n 2 ++ [0, 0] ++ l)
  ipHead 17 n src dst ++ beBytes sport 2 ++ beBytes dport 2 ++ beBytes n 2 ++ beBytes (if c = 0 then 65535 else c) 2 ++ l
/-- The answer to a request leaves its ingress port. -/
def Chip.mgmtAnswer (b : Chip) (r : MgmtReq) (key : KeyT) (status : Nat) (body : List Nat) : Chip :=
  let head := r.data.take 2 ++ [status, 0] ++ slice r.data 4 8 ++ leBytes body.length 4 ++ body
  let pkt := udpPacket b.mgmtAddr r.src (b.r Reg.ETH_MGMT_PORT) r.sport (head ++ mgmtMac key head)
  let mac := b.r (Reg.ETH_MAC_LO r.port) + b.r (Reg.ETH_MAC_HI r.port) * 2 ^ 32
  b.ethSend r.port (leBytes r.mac 6 ++ beBytes mac 6 ++ [0x86, 0xDD] ++ pkt)
/-- A request that is not acted on. -/
def Chip.mgmtBad (b : Chip) : Chip := (b.inc Reg.ETH_MGMT_AUTH_FAIL).note (N.MGMT_AUTH_FAIL * 2 ^ 16) 1

/-- The state after an operation, its status and the body of its answer. -/
structure MgmtOut where
  s : State
  status : Nat
  body : List Nat := []

/-- Offset and count of READ and WRITE: in whole words inside the window. -/
def mgmtRange (l : List Nat) : Option Nat :=
  let off := fldLE l 0 4
  let n := fldLE l 4 4
  if l.length < 8 ∨ n = 0 ∨ 256 < n then some BAD_LENGTH
  else if off % 4 ≠ 0 ∨ windowSize < off + 4 * n then some BAD_ARG
  else none
/-- READ. -/
def State.opRead (s : State) (l : List Nat) : MgmtOut :=
  match mgmtRange l with
  | some c => ⟨s, c, []⟩
  | none =>
    let r := s.readWords .cpu (fldLE l 0 4) (fldLE l 4 4)
    ⟨r.1, OK, ofWords r.2⟩
/-- WRITE. -/
def State.opWrite (s : State) (l : List Nat) : MgmtOut :=
  match mgmtRange l with
  | some c => ⟨s, c, []⟩
  | none =>
    let n := fldLE l 4 4
    if l.length ≠ 8 + 4 * n then ⟨s, BAD_LENGTH, []⟩ else ⟨s.writeWords .cpu (fldLE l 0 4) (toWords (l.drop 8) n), OK, []⟩
/-- SUBMIT: what takes longer than a second is answered BUSY with a ticket (R464). -/
def State.opSubmit (s : State) (l : List Nat) (late : Bool) : MgmtOut :=
  if l.length < 16 ∨ l.length ≠ 16 + fldLE l 8 4 then ⟨s, BAD_LENGTH, []⟩
  else
    let k := s.coin
    let x := k.2.b.submit (fldLE l 0 2) l late k.1
    match x.resp with
    | some r => ⟨{ s with b := x.b }, respStatus r, r⟩
    | none =>
      let r := x.b.svc.running.getD []
      let t := x.b.svc.nextTicket
      let b1 := x.b.modSvc (fun v => { v with tickets := kput v.tickets t { resp := r, doneNs := x.b.nowNs }, running := s.b.svc.running,
                                              nextTicket := if t + 1 < 2 ^ 32 then t + 1 else 1 })
      ⟨{ s with b := b1 }, BUSY, respRec (fldLE r 0 2) BUSY (fldLE r 4 4) t []⟩
/-- The octets of a notice record (R542). -/
def noteOctets (n : Note) : List Nat := leBytes n.stitch 4 ++ [n.src, n.sev] ++ leBytes n.code 2 ++ leBytes n.arg 8
/-- NOTICES: records from a ring in DRAM. -/
def State.opNotices (s : State) (l : List Nat) : MgmtOut :=
  let b := s.b
  let n := fldLE l 0 4
  if l.length < 4 ∨ n = 0 ∨ 64 < n then ⟨s, BAD_LENGTH, []⟩
  else if !b.t Reg.NTC_LOC then ⟨s, WRONG_STATE, []⟩
  else
    let rd := b.r Reg.NTC_RD_IDX
    let k := min n ((b.r Reg.NTC_WR_IDX + 4096 - rd) % 4096)
    let recs := (List.range k).map (fun i => ((kget b.ntc.ring ((rd + i) % 4096)).map noteOctets).getD (List.replicate 16 0))
    ⟨{ s with b := b.w Reg.NTC_RD_IDX ((rd + k) % 4096) }, OK, recs.flatten⟩

/-- Serve the request at the front of the queue where its OP is one of a row's. -/
def State.mgmtServe (s : State) (mine : Nat → Bool) (f : State → List Nat → MgmtOut) : State :=
  match s.b.hif.mgmt with
  | [] => s
  | r :: rest =>
    if !mine (mgmtOp r) || !bit (s.b.r Reg.SVC_RUNNING) 4 then s
    else
      let b := s.b.modHif (fun h => { h with mgmt := rest })
      match b.mgmtKey r with
      | none => { s with b := b.mgmtBad }
      | some k =>
        let o := f { s with b := b.modNv (fun n => { n with mgmtSeq := mgmtSeq r }) } (mgmtBody r)
        { o.s with b := o.s.b.mgmtAnswer r k o.status o.body }

/-- MGMT_READ (R548); an OP that R548 does not name is answered BAD_ARG. -/
def execMgmtRead (s : State) : Host.Outcome State Fault Refusal :=
  .next (s.mgmtServe (fun op => op == 1 || op == 0 || decide (4 < op)) (fun t l =>
    if (s.b.hif.mgmt.head?.map mgmtOp) = some 1 then t.opRead l else ⟨t, BAD_ARG, []⟩))
/-- MGMT_WRITE (R548). -/
def execMgmtWrite (s : State) : Host.Outcome State Fault Refusal := .next (s.mgmtServe (· == 2) State.opWrite)
/-- MGMT_SUBMIT (R548). -/
def execMgmtSubmit (late : Bool) (s : State) : Host.Outcome State Fault Refusal := .next (s.mgmtServe (· == 3) (fun t l => t.opSubmit l late))
/-- MGMT_NOTICES (R548). -/
def execMgmtNotices (s : State) : Host.Outcome State Fault Refusal := .next (s.mgmtServe (· == 4) State.opNotices)

end Sys2Proof.Machine
end

