-- ==== Sys2Proof/Machine/Dispatch.lean ====
section
/-!
DEFINITION. The dispatch: one arm per command, each one direct call of its meaning.
-/
namespace Sys2Proof.Machine

def exec (i : Instr) (s : State) : Host.Outcome State Fault Refusal :=
  match i with
  | .registerWrite rq off octets value => Sys2Proof.Machine.execRegisterWrite rq off octets value s
  | .latchRead rq off octets => Sys2Proof.Machine.execLatchRead rq off octets s
  | .rcCounterRead rq off octets => Sys2Proof.Machine.execRcCounterRead rq off octets s
  | .stitchBoundary x => Sys2Proof.Machine.execStitchBoundary x s
  | .budgetClose => Sys2Proof.Machine.execBudgetClose s
  | .vinGood x => Sys2Proof.Machine.execVinGood x s
  | .rstNLow x => Sys2Proof.Machine.execRstNLow x s
  | .warmStart x => Sys2Proof.Machine.execWarmStart x s
  | .watchdogExpiry again => Sys2Proof.Machine.execWatchdogExpiry again s
  | .thermalTrip => Sys2Proof.Machine.execThermalTrip s
  | .safeBeaconPeriod => Sys2Proof.Machine.execSafeBeaconPeriod s
  | .diagStatus irq => Sys2Proof.Machine.execDiagStatus irq s
  | .readReport irq => Sys2Proof.Machine.execReadReport irq s
  | .readAttest irq => Sys2Proof.Machine.execReadAttest irq s
  | .loadManifest irq stored => Sys2Proof.Machine.execLoadManifest irq stored s
  | .reboot irq => Sys2Proof.Machine.execReboot irq s
  | .consoleStatus => Sys2Proof.Machine.execConsoleStatus s
  | .consoleReport => Sys2Proof.Machine.execConsoleReport s
  | .consoleReboot => Sys2Proof.Machine.execConsoleReboot s
  | .consoleRd off n => Sys2Proof.Machine.execConsoleRd off n s
  | .consoleWr off value => Sys2Proof.Machine.execConsoleWr off value s
  | .amplitudeGood src => Sys2Proof.Machine.execAmplitudeGood src s
  | .qualCoarseDone src count ms => Sys2Proof.Machine.execQualCoarseDone src count ms s
  | .qualFineDone src count ms => Sys2Proof.Machine.execQualFineDone src count ms s
  | .qualRetry src => Sys2Proof.Machine.execQualRetry src s
  | .clockStopped => Sys2Proof.Machine.execClockStopped s
  | .freqCheck count ms => Sys2Proof.Machine.execFreqCheck count ms s
  | .pllUnlock pll => Sys2Proof.Machine.execPllUnlock pll s
  | .pllLock pll ms => Sys2Proof.Machine.execPllLock pll ms s
  | .tcxoReturn => Sys2Proof.Machine.execTcxoReturn s
  | .srcCtrlWrite value => Sys2Proof.Machine.execSrcCtrlWrite value s
  | .groupReset value => Sys2Proof.Machine.execGroupReset value s
  | .groupResetRelease grp => Sys2Proof.Machine.execGroupResetRelease grp s
  | .domainWakeRequest xing => Sys2Proof.Machine.execDomainWakeRequest xing s
  | .incrCommit rq value => Sys2Proof.Machine.execIncrCommit rq value s
  | .incrApply => Sys2Proof.Machine.execIncrApply s
  | .stepCommit rq value => Sys2Proof.Machine.execStepCommit rq value s
  | .stepApply => Sys2Proof.Machine.execStepApply s
  | .setCommit rq value => Sys2Proof.Machine.execSetCommit rq value s
  | .setApply => Sys2Proof.Machine.execSetApply s
  | .holdoverReq => Sys2Proof.Machine.execHoldoverReq s
  | .holdoverTimeout => Sys2Proof.Machine.execHoldoverTimeout s
  | .tsFifoPop rq port => Sys2Proof.Machine.execTsFifoPop rq port s
  | .triggerArm n value => Sys2Proof.Machine.execTriggerArm n value s
  | .triggerFire n => Sys2Proof.Machine.execTriggerFire n s
  | .rawCaptureEnd n => Sys2Proof.Machine.execRawCaptureEnd n s
  | .timerArm n => Sys2Proof.Machine.execTimerArm n s
  | .timerStop n => Sys2Proof.Machine.execTimerStop n s
  | .countWrite n value => Sys2Proof.Machine.execCountWrite n value s
  | .compareWrite n value => Sys2Proof.Machine.execCompareWrite n value s
  | .compareMatch n => Sys2Proof.Machine.execCompareMatch n s
  | .oneshotEnd n => Sys2Proof.Machine.execOneshotEnd n s
  | .captureEdge n level samples => Sys2Proof.Machine.execCaptureEdge n level samples s
  | .captureRead rq n => Sys2Proof.Machine.execCaptureRead rq n s
  | .lockDetected g => Sys2Proof.Machine.execLockDetected g s
  | .lockTimeout g => Sys2Proof.Machine.execLockTimeout g s
  | .calComplete g m => Sys2Proof.Machine.execCalComplete g m s
  | .calFail g tj => Sys2Proof.Machine.execCalFail g tj s
  | .cal irq => Sys2Proof.Machine.execCal irq s
  | .calCancel irq => Sys2Proof.Machine.execCalCancel irq s
  | .readCal irq => Sys2Proof.Machine.execReadCal irq s
  | .coexReqAssert id => Sys2Proof.Machine.execCoexReqAssert id s
  | .coexGrantLost set => Sys2Proof.Machine.execCoexGrantLost set s
  | .wakePatternMatch rx x => Sys2Proof.Machine.execWakePatternMatch rx x s
  | .preambleDetection p => Sys2Proof.Machine.execPreambleDetection p s
  | .gainStepDown lane peak => Sys2Proof.Machine.execGainStepDown lane peak s
  | .gainStepUp lane peak => Sys2Proof.Machine.execGainStepUp lane peak s
  | .gainStepEffect lane => Sys2Proof.Machine.execGainStepEffect lane s
  | .phrDecoded p => Sys2Proof.Machine.execPhrDecoded p s
  | .syncLost ctx => Sys2Proof.Machine.execSyncLost ctx s
  | .captureSinrLoss ctx sinr => Sys2Proof.Machine.execCaptureSinrLoss ctx sinr s
  | .receptionEnd r mramOk => Sys2Proof.Machine.execReceptionEnd r mramOk s
  | .steerWindowEnd => Sys2Proof.Machine.execSteerWindowEnd s
  | .laneEnWrite lane en => Sys2Proof.Machine.execLaneEnWrite lane en s
  | .readChan irq => Sys2Proof.Machine.execReadChan irq s
  | .rxpReadCtx irq => Sys2Proof.Machine.execRxpReadCtx irq s
  | .keyPoint id mramOk => Sys2Proof.Machine.execKeyPoint id mramOk s
  | .takePoint id mramOk => Sys2Proof.Machine.execTakePoint id mramOk s
  | .rxToTx g => Sys2Proof.Machine.execRxToTx g s
  | .transmitSetupPoint id granted => Sys2Proof.Machine.execTransmitSetupPoint id granted s
  | .femEarly g => Sys2Proof.Machine.execFemEarly g s
  | .carrierStart id => Sys2Proof.Machine.execCarrierStart id s
  | .transmissionEnd id => Sys2Proof.Machine.execTransmissionEnd id s
  | .femTailRelease g => Sys2Proof.Machine.execFemTailRelease g s
  | .carriersApply chain => Sys2Proof.Machine.execCarriersApply chain s
  | .dutyBucketRoll => Sys2Proof.Machine.execDutyBucketRoll s
  | .tone irq => Sys2Proof.Machine.execTone irq s
  | .toneStop irq => Sys2Proof.Machine.execToneStop irq s
  | .toneEnd chain => Sys2Proof.Machine.execToneEnd chain s
  | .wakeCall irq => Sys2Proof.Machine.execWakeCall irq s
  | .wakeCallEnd => Sys2Proof.Machine.execWakeCallEnd s
  | .alloc irq => Sys2Proof.Machine.execAlloc irq s
  | .reclaim irq => Sys2Proof.Machine.execReclaim irq s
  | .readCell irq => Sys2Proof.Machine.execReadCell irq s
  | .writeCell irq => Sys2Proof.Machine.execWriteCell irq s
  | .nodeCells irq => Sys2Proof.Machine.execNodeCells irq s
  | .pairSet irq => Sys2Proof.Machine.execPairSet irq s
  | .contextFetch node x => Sys2Proof.Machine.execContextFetch node x s
  | .ackWaitTimeout node => Sys2Proof.Machine.execAckWaitTimeout node s
  | .csmaBackoffExpiry node x => Sys2Proof.Machine.execCsmaBackoffExpiry node x s
  | .nodeAdmit irq => Sys2Proof.Machine.execNodeAdmit irq s
  | .readCtx irq => Sys2Proof.Machine.execReadCtx irq s
  | .writeCtx irq => Sys2Proof.Machine.execWriteCtx irq s
  | .suspend irq => Sys2Proof.Machine.execSuspend irq s
  | .resume irq => Sys2Proof.Machine.execResume irq s
  | .retire irq => Sys2Proof.Machine.execRetire irq s
  | .nodeClear irq => Sys2Proof.Machine.execNodeClear irq s
  | .nodeFind irq => Sys2Proof.Machine.execNodeFind irq s
  | .resetLink irq => Sys2Proof.Machine.execResetLink irq s
  | .readCounter irq => Sys2Proof.Machine.execReadCounter irq s
  | .mapWrite irq => Sys2Proof.Machine.execMapWrite irq s
  | .mapRead irq => Sys2Proof.Machine.execMapRead irq s
  | .skipBlock irq mramOk => Sys2Proof.Machine.execSkipBlock irq mramOk s
  | .keyLoad irq mramOk => Sys2Proof.Machine.execKeyLoad irq mramOk s
  | .keyVerify irq => Sys2Proof.Machine.execKeyVerify irq s
  | .keyPromote irq => Sys2Proof.Machine.execKeyPromote irq s
  | .keyInvalidate irq => Sys2Proof.Machine.execKeyInvalidate irq s
  | .orphanZeroise => Sys2Proof.Machine.execOrphanZeroise s
  | .retireAtReached pocket => Sys2Proof.Machine.execRetireAtReached pocket s
  | .keyErase irq => Sys2Proof.Machine.execKeyErase irq s
  | .readPocket irq => Sys2Proof.Machine.execReadPocket irq s
  | .setNodeEpoch irq => Sys2Proof.Machine.execSetNodeEpoch irq s
  | .rekeyNode irq => Sys2Proof.Machine.execRekeyNode irq s
  | .deriveCheck irq => Sys2Proof.Machine.execDeriveCheck irq s
  | .fwdRead irq => Sys2Proof.Machine.execFwdRead irq s
  | .fwdWrite irq => Sys2Proof.Machine.execFwdWrite irq s
  | .fwdInsert irq => Sys2Proof.Machine.execFwdInsert irq s
  | .fwdDelete irq => Sys2Proof.Machine.execFwdDelete irq s
  | .fwdSearch irq => Sys2Proof.Machine.execFwdSearch irq s
  | .ageNow irq => Sys2Proof.Machine.execAgeNow irq s
  | .rehashStart irq => Sys2Proof.Machine.execRehashStart irq s
  | .rehashMove irq => Sys2Proof.Machine.execRehashMove irq s
  | .rehashFinish irq => Sys2Proof.Machine.execRehashFinish irq s
  | .rehashRevert irq => Sys2Proof.Machine.execRehashRevert irq s
  | .refilter irq => Sys2Proof.Machine.execRefilter irq s
  | .learnApply => Sys2Proof.Machine.execLearnApply s
  | .itemOpen queue size prio x => Sys2Proof.Machine.execItemOpen queue size prio x s
  | .itemClose queue id data aborted => Sys2Proof.Machine.execItemClose queue id data aborted s
  | .itemTake queue node ecc dram => Sys2Proof.Machine.execItemTake queue node ecc dram s
  | .itemRelease queue id => Sys2Proof.Machine.execItemRelease queue id s
  | .itemReturn queue id => Sys2Proof.Machine.execItemReturn queue id s
  | .frontPush queue node data => Sys2Proof.Machine.execFrontPush queue node data s
  | .itemDropRest queue id => Sys2Proof.Machine.execItemDropRest queue id s
  | .spillReadback queue => Sys2Proof.Machine.execSpillReadback queue s
  | .configQ irq => Sys2Proof.Machine.execConfigQ irq s
  | .readQ irq => Sys2Proof.Machine.execReadQ irq s
  | .dropRest irq => Sys2Proof.Machine.execDropRest irq s
  | .qFlush irq => Sys2Proof.Machine.execQFlush irq s
  | .setGroup irq => Sys2Proof.Machine.execSetGroup irq s
  | .egressDequeue port => Sys2Proof.Machine.execEgressDequeue port s
  | .gateEntryChange port => Sys2Proof.Machine.execGateEntryChange port s
  | .gateTakeover port => Sys2Proof.Machine.execGateTakeover port s
  | .latencyWindowEnd => Sys2Proof.Machine.execLatencyWindowEnd s
  | .setChild irq => Sys2Proof.Machine.execSetChild irq s
  | .readChild irq => Sys2Proof.Machine.execReadChild irq s
  | .gateWrite irq => Sys2Proof.Machine.execGateWrite irq s
  | .gateCommit irq => Sys2Proof.Machine.execGateCommit irq s
  | .gateCancel irq => Sys2Proof.Machine.execGateCancel irq s
  | .gateRead irq => Sys2Proof.Machine.execGateRead irq s
  | .readLat irq => Sys2Proof.Machine.execReadLat irq s
  | .svcCtrl irq late => Sys2Proof.Machine.execSvcCtrl irq late s
  | .svcCtxSet irq late => Sys2Proof.Machine.execSvcCtxSet irq late s
  | .svcCtxRead irq late => Sys2Proof.Machine.execSvcCtxRead irq late s
  | .rplCfg irq late => Sys2Proof.Machine.execRplCfg irq late s
  | .rplRoute irq late => Sys2Proof.Machine.execRplRoute irq late s
  | .rplRepair irq late => Sys2Proof.Machine.execRplRepair irq late s
  | .regRead irq late => Sys2Proof.Machine.execRegRead irq late s
  | .regRemove irq late => Sys2Proof.Machine.execRegRemove irq late s
  | .imgWrite irq late => Sys2Proof.Machine.execImgWrite irq late s
  | .imgClose irq late => Sys2Proof.Machine.execImgClose irq late s
  | .imgErase irq late => Sys2Proof.Machine.execImgErase irq late s
  | .campStart irq late => Sys2Proof.Machine.execCampStart irq late s
  | .campStatus irq late => Sys2Proof.Machine.execCampStatus irq late s
  | .campStop irq late => Sys2Proof.Machine.execCampStop irq late s
  | .campResult irq late => Sys2Proof.Machine.execCampResult irq late s
  | .svcPoll irq fin => Sys2Proof.Machine.execSvcPoll irq fin s
  | .mailboxTimeout => Sys2Proof.Machine.execMailboxTimeout s
  | .ticketExpiry ticket => Sys2Proof.Machine.execTicketExpiry ticket s
  | .dao => Sys2Proof.Machine.execDao s
  | .dis => Sys2Proof.Machine.execDis s
  | .trickleTimer => Sys2Proof.Machine.execTrickleTimer s
  | .routeLifetimeExpiry => Sys2Proof.Machine.execRouteLifetimeExpiry s
  | .neighborSolicitation => Sys2Proof.Machine.execNeighborSolicitation s
  | .edar => Sys2Proof.Machine.execEdar s
  | .registrationExpiry => Sys2Proof.Machine.execRegistrationExpiry s
  | .fragment => Sys2Proof.Machine.execFragment s
  | .reassemblyTimeout => Sys2Proof.Machine.execReassemblyTimeout s
  | .adaptationDownlink => Sys2Proof.Machine.execAdaptationDownlink s
  | .imgStatus => Sys2Proof.Machine.execImgStatus s
  | .campaignCollectEnd camp => Sys2Proof.Machine.execCampaignCollectEnd camp s
  | .pair irq => Sys2Proof.Machine.execPair irq s
  | .claim irq => Sys2Proof.Machine.execClaim irq s
  | .handover irq => Sys2Proof.Machine.execHandover irq s
  | .resync irq => Sys2Proof.Machine.execResync irq s
  | .hello f e => Sys2Proof.Machine.execHello f e s
  | .heartbeat f e => Sys2Proof.Machine.execHeartbeat f e s
  | .contextRecord f tag index => Sys2Proof.Machine.execContextRecord f tag index s
  | .cellsRecord f tag index => Sys2Proof.Machine.execCellsRecord f tag index s
  | .pocketRecord fcsOk octets tag index => Sys2Proof.Machine.execPocketRecord fcsOk octets tag index s
  | .ceilingRecord f tag index => Sys2Proof.Machine.execCeilingRecord f tag index s
  | .routeRecord f tag index => Sys2Proof.Machine.execRouteRecord f tag index s
  | .regRecord f tag index => Sys2Proof.Machine.execRegRecord f tag index s
  | .keystateRecord f e => Sys2Proof.Machine.execKeystateRecord f e s
  | .configRecord f e => Sys2Proof.Machine.execConfigRecord f e s
  | .bulkMarkRecord f e => Sys2Proof.Machine.execBulkMarkRecord f e s
  | .handoverRecord f e => Sys2Proof.Machine.execHandoverRecord f e s
  | .seamRetransmit => Sys2Proof.Machine.execSeamRetransmit s
  | .seamBlockLock up => Sys2Proof.Machine.execSeamBlockLock up s
  | .claimInSample => Sys2Proof.Machine.execClaimInSample s
  | .claimRetry => Sys2Proof.Machine.execClaimRetry s
  | .claimInChange level => Sys2Proof.Machine.execClaimInChange level s
  | .listenTimeout => Sys2Proof.Machine.execListenTimeout s
  | .ssyncEdge skew => Sys2Proof.Machine.execSsyncEdge skew s
  | .handoverSwitch => Sys2Proof.Machine.execHandoverSwitch s
  | .updInstall irq stored => Sys2Proof.Machine.execUpdInstall irq stored s
  | .updActivate irq => Sys2Proof.Machine.execUpdActivate irq s
  | .stagingComplete code => Sys2Proof.Machine.execStagingComplete code s
  | .pauseStart => Sys2Proof.Machine.execPauseStart s
  | .activationBoundary => Sys2Proof.Machine.execActivationBoundary s
  | .microcodeLoaded => Sys2Proof.Machine.execMicrocodeLoaded s
  | .imageAlive cpu => Sys2Proof.Machine.execImageAlive cpu s
  | .pauseEnd us => Sys2Proof.Machine.execPauseEnd us s
  | .activationTimeout ptype pindex us => Sys2Proof.Machine.execActivationTimeout ptype pindex us s
  | .updCancel irq => Sys2Proof.Machine.execUpdCancel irq s
  | .readBank irq => Sys2Proof.Machine.execReadBank irq s
  | .readPart irq => Sys2Proof.Machine.execReadPart irq s
  | .updRevert irq => Sys2Proof.Machine.execUpdRevert irq s
  | .plannedExit x => Sys2Proof.Machine.execPlannedExit x s
  | .dozeRestoreComplete bad => Sys2Proof.Machine.execDozeRestoreComplete bad s
  | .spiCsNWake x => Sys2Proof.Machine.execSpiCsNWake x s
  | .vinLostCondition vin vbak => Sys2Proof.Machine.execVinLostCondition vin vbak s
  | .vinGoodHold ms => Sys2Proof.Machine.execVinGoodHold ms s
  | .vbakGood mv => Sys2Proof.Machine.execVbakGood mv s
  | .vbakFall mv => Sys2Proof.Machine.execVbakFall mv s
  | .pcieHotReset kind => Sys2Proof.Machine.execPcieHotReset kind s
  | .trstN => Sys2Proof.Machine.execTrstN s
  | .spiRead addr octets => Sys2Proof.Machine.execSpiRead addr octets s
  | .spiWrite addr data => Sys2Proof.Machine.execSpiWrite addr data s
  | .spiStatus => Sys2Proof.Machine.execSpiStatus s
  | .glbStateRead rq => Sys2Proof.Machine.execGlbStateRead rq s
  | .interruptHoldoff vector => Sys2Proof.Machine.execInterruptHoldoff vector s
  | .noticeRingEnable rq value => Sys2Proof.Machine.execNoticeRingEnable rq value s
  | .ringEnable rq tx ring value => Sys2Proof.Machine.execRingEnable rq tx ring value s
  | .rxRingPost rq ring tail descs => Sys2Proof.Machine.execRxRingPost rq ring tail descs s
  | .hostRxDelivery ring => Sys2Proof.Machine.execHostRxDelivery ring s
  | .txRingPost rq ring tail descs => Sys2Proof.Machine.execTxRingPost rq ring tail descs s
  | .mgmtRead => Sys2Proof.Machine.execMgmtRead s
  | .mgmtWrite => Sys2Proof.Machine.execMgmtWrite s
  | .mgmtSubmit late => Sys2Proof.Machine.execMgmtSubmit late s
  | .mgmtNotices => Sys2Proof.Machine.execMgmtNotices s
  | .ethRxFrame port frame fcsOk sfd => Sys2Proof.Machine.execEthRxFrame port frame fcsOk sfd s
  | .ethLinkChange port up speed an => Sys2Proof.Machine.execEthLinkChange port up speed an s
  | .debugEnable irq => Sys2Proof.Machine.execDebugEnable irq s
  | .debugDisable irq => Sys2Proof.Machine.execDebugDisable irq s
  | .amplitudeFail src => Sys2Proof.Machine.execAmplitudeFail src s
  | .eventInputEdge src => Sys2Proof.Machine.execEventInputEdge src s
  | .pcieLinkChange up width speed => Sys2Proof.Machine.execPcieLinkChange up width speed s
  | .pcieConfigWrite busMaster d3hot msixEn mask => Sys2Proof.Machine.execPcieConfigWrite busMaster d3hot msixEn mask s
  | .unknownCommandOctet => Sys2Proof.Machine.execUnknownCommandOctet s
  | .consoleLineTooLong => Sys2Proof.Machine.execConsoleLineTooLong s

end Sys2Proof.Machine
end

