-- ==== Sys2Proof/Machine/Step.lean ====
section
/-!
DEFINITION. One step: the command at the front of the queue, or one TIME tick when no command waits.
-/
namespace Sys2Proof.Machine

/-- The state with the command that a word spells at the front of its queue. -/
def State.withFetchWord (s : State) (nbits w : Nat) : State :=
  match decodeTableWord nbits w with
  | some i => { s with pending := i :: s.pending }
  | none => s

/-- Take the command at the front of the queue and run it on the rest; on an empty queue let time pass (log entry 1). -/
def step (s : State) : Host.Outcome State Fault Refusal :=
  match s.pending with
  | [] => s.on Chip.idleStep
  | c :: rest => exec c { s with pending := rest }

end Sys2Proof.Machine
end

