-- ==== Sys2Proof/Safety.lean ====
section
/-!
DEFINITION. The terms in which claims are stated: a safe step, the invariant of the buffers, when a command block takes a command, and what it
shows once a command has completed.
-/
namespace Sys2Proof.Machine

/-- A step is safe when it answers a next state. -/
def Safe (s : State) : Prop := ∃ t, step s = .next t

/-- The window's buffers have their canonical form. -/
def State.Inv (s : State) : Prop := Memory.wf s.mem = true

/-- A command answers a next state with a property. -/
def Runs (i : Instr) (s : State) (p : State → Prop) : Prop := ∃ t, exec i s = .next t ∧ p t

/-- Nothing is left to do from the step before: no discontinuity and no pair beacon waits for its effects on the other blocks. Every step that
makes one also has it done. -/
def Chip.Quiet (b : Chip) : Prop := b.tim.jump = none ∧ b.sch.pairHeard = none

/-- The block at `base` takes a command: the device has started (R88), is not in SAFE (R91), LIMP does not hold the block (R119), and no command
is running (R532). GLB also answers in STARTING and in SAFE. -/
def Chip.takes (b : Chip) (base : Nat) : Bool :=
  (answersStarting base || !b.starting) && (base == cbGLB || !b.safe) && !(b.limp && heldInLimp base) && !b.t (cbBUSY base)

/-- The command block at `base` shows a completed command: CODE, DONE, BUSY clear, and the RESULT words, those not named reading 0 (R532). -/
def Chip.Completed (b : Chip) (base code : Nat) (results : List Nat) : Prop :=
  b.r (cbCODE base) = code ∧ b.r (cbDONE base) = 1 ∧ b.r (cbBUSY base) = 0 ∧
  ∀ j, j < 16 → b.r (cbRESULT base j) = results.getD j 0 % 2 ^ 32

/-- Two blocks that differ at most in their register store, the IRQ flags of running commands, the interrupt state and what was sent out. -/
def Chip.SameBut (b c : Chip) : Prop := c = { b with regs := c.regs, cmdIrq := c.cmdIrq, ntc := c.ntc, out := c.out }

/-- From the first block to the second nothing has changed but the command block at `base`, INT_PEND, the IRQ flags of running commands, the
interrupt state and what was sent out: a command has completed there and done nothing else. -/
def Chip.OnlyBlock (b c : Chip) (base : Nat) : Prop :=
  Chip.SameBut b c ∧
  ∀ f : Fld, f.key ≠ Reg.NTC_INT_PEND.key → (f.key < (base + 4) * 32 ∨ (base + 0x94) * 32 ≤ f.key) → c.r f = b.r f

/-- As OnlyBlock, but for the context cache and its counts: the command names a node, whose context is fetched (R295). -/
def Chip.OnlyNamed (b c : Chip) (base : Nat) : Prop :=
  c = { b with regs := c.regs, cmdIrq := c.cmdIrq, ntc := c.ntc, out := c.out, mac := { b.mac with cache := c.mac.cache } } ∧
  ∀ f : Fld, f.key ≠ Reg.NTC_INT_PEND.key → f.key ≠ Reg.MAC_CACHE_HIT.key → f.key ≠ Reg.MAC_CACHE_MISS.key → f.key ≠ Reg.MAC_CACHE_USED.key →
    f.key ≠ Reg.MAC_CACHE_PINNED.key → (f.key < (base + 4) * 32 ∨ (base + 0x94) * 32 ≤ f.key) → c.r f = b.r f

/-- From the first block to the second nothing has changed but the registers of a list, the notice block, the Seam's sending and what was sent
out. -/
def Chip.OnlyRegs (b c : Chip) (l : List Fld) : Prop :=
  c = { b with regs := c.regs, ntc := c.ntc, sea := c.sea, out := c.out } ∧
  ∀ f : Fld, (∀ g ∈ l, f.key ≠ g.key) → f.key < 0x50000 * 32 ∨ 0x60000 * 32 ≤ f.key → f.key < 0x220000 * 32 ∨ 0x230000 * 32 ≤ f.key → c.r f = b.r f

/-- From the first block to the second no queue but one has changed. -/
def Chip.OnlyQueue (b c : Chip) (q : Nat) : Prop := ∀ m, m ≠ q → c.q m = b.q m

/-- No gate runs on the queue's port, so the scheduler drops no item of it as too long (R437, R438). -/
def Chip.ungated (b : Chip) (q : Nat) : Bool := b.qParent q == 0xFFFF || decide (2 ≤ b.qPort q) || !b.t (Reg.TMG_GATE_EN (b.qPort q))

/-- From the first block to the second the items of a queue have become those of a list, but for any that the scheduler then drops because no window
of their class takes them (R438). -/
def Chip.Leaves (b c : Chip) (q : Nat) (l : List Item) : Prop := (∀ j ∈ (c.q q).items, j ∈ l) ∧ (b.ungated q = true → (c.q q).items = l)

/-- The registers that count the receptions in flight (R209, R216, R234). -/
def activeFlds : List Fld :=
  (List.range 7).map Reg.RXP_ACTIVE ++ (List.range 7).map Reg.RXP_HOLD ++
  [Reg.RXP_ACTIVE_L, Reg.RXP_ACTIVE_M, Reg.RXP_ACTIVE_H, Reg.RXP_RXP_ACTIVE, Reg.RXP_ACTIVE_PEAK]

/-- The registers that show the idle bank (R103, R127). -/
def idleFlds : List Fld := [Reg.CKR_IDLE_SRC, Reg.CKR_A0_LOCK, Reg.CKR_T0_LOCK, Reg.CKR_A1_LOCK, Reg.CKR_T1_LOCK]

/-- The commands of the command blocks, each with the base of its block and its IRQ flag (R531): SUBMIT, whose record the mailbox reads, and
SKIP_BLOCK, whose new ceiling goes to the partner in the same step, have statements of their own. -/
def cmdBlock (i : Instr) : Option (Nat × Bool) :=
  match i with
  | .diagStatus irq => some (cbGLB, irq)
  | .readReport irq => some (cbGLB, irq)
  | .readAttest irq => some (cbGLB, irq)
  | .loadManifest irq _ => some (cbGLB, irq)
  | .reboot irq => some (cbGLB, irq)
  | .debugEnable irq => some (cbDBG, irq)
  | .debugDisable irq => some (cbDBG, irq)
  | .alloc irq => some (cbSCH, irq)
  | .reclaim irq => some (cbSCH, irq)
  | .readCell irq => some (cbSCH, irq)
  | .writeCell irq => some (cbSCH, irq)
  | .nodeCells irq => some (cbSCH, irq)
  | .pairSet irq => some (cbSCH, irq)
  | .nodeAdmit irq => some (cbMAC, irq)
  | .readCtx irq => some (cbMAC, irq)
  | .writeCtx irq => some (cbMAC, irq)
  | .suspend irq => some (cbMAC, irq)
  | .resume irq => some (cbMAC, irq)
  | .retire irq => some (cbMAC, irq)
  | .nodeClear irq => some (cbMAC, irq)
  | .nodeFind irq => some (cbMAC, irq)
  | .resetLink irq => some (cbMAC, irq)
  | .readCounter irq => some (cbSEC, irq)
  | .mapWrite irq => some (cbSEC, irq)
  | .mapRead irq => some (cbSEC, irq)
  | .keyLoad irq _ => some (cbKEY, irq)
  | .keyVerify irq => some (cbKEY, irq)
  | .keyPromote irq => some (cbKEY, irq)
  | .keyInvalidate irq => some (cbKEY, irq)
  | .keyErase irq => some (cbKEY, irq)
  | .readPocket irq => some (cbKEY, irq)
  | .setNodeEpoch irq => some (cbKEY, irq)
  | .rekeyNode irq => some (cbKEY, irq)
  | .deriveCheck irq => some (cbKEY, irq)
  | .cal irq => some (cbRFC, irq)
  | .calCancel irq => some (cbRFC, irq)
  | .readCal irq => some (cbRFC, irq)
  | .readChan irq => some (cbRXP, irq)
  | .rxpReadCtx irq => some (cbRXP, irq)
  | .tone irq => some (cbTXP, irq)
  | .toneStop irq => some (cbTXP, irq)
  | .wakeCall irq => some (cbTXP, irq)
  | .pair irq => some (cbSEA, irq)
  | .claim irq => some (cbSEA, irq)
  | .handover irq => some (cbSEA, irq)
  | .resync irq => some (cbSEA, irq)
  | .fwdRead irq => some (cbFWD, irq)
  | .fwdWrite irq => some (cbFWD, irq)
  | .fwdInsert irq => some (cbFWD, irq)
  | .fwdDelete irq => some (cbFWD, irq)
  | .fwdSearch irq => some (cbFWD, irq)
  | .ageNow irq => some (cbFWD, irq)
  | .rehashStart irq => some (cbFWD, irq)
  | .rehashMove irq => some (cbFWD, irq)
  | .rehashFinish irq => some (cbFWD, irq)
  | .rehashRevert irq => some (cbFWD, irq)
  | .refilter irq => some (cbFWD, irq)
  | .configQ irq => some (cbQMG, irq)
  | .readQ irq => some (cbQMG, irq)
  | .dropRest irq => some (cbQMG, irq)
  | .qFlush irq => some (cbQMG, irq)
  | .setGroup irq => some (cbQMG, irq)
  | .setChild irq => some (cbTMG, irq)
  | .readChild irq => some (cbTMG, irq)
  | .gateWrite irq => some (cbTMG, irq)
  | .gateCommit irq => some (cbTMG, irq)
  | .gateCancel irq => some (cbTMG, irq)
  | .gateRead irq => some (cbTMG, irq)
  | .readLat irq => some (cbTMG, irq)
  | .updInstall irq _ => some (cbUPD, irq)
  | .updActivate irq => some (cbUPD, irq)
  | .updCancel irq => some (cbUPD, irq)
  | .readBank irq => some (cbUPD, irq)
  | .readPart irq => some (cbUPD, irq)
  | .updRevert irq => some (cbUPD, irq)
  | _ => none

/-- SAFE as it has been entered (R90): its item and cause code show, every chain is muted, port 1 is held, and neither a power state nor a warm
start is under way. -/
def Chip.InSafe (b : Chip) (item code : Nat) : Prop :=
  b.r Reg.GLB_STATE = 2 ∧ b.r Reg.GLB_SAFE_ITEM = item ∧ b.r Reg.GLB_SAFE_CODE = code ∧ (∀ g, g < 4 → b.t (Reg.RFC_MUTED g) = true) ∧
  b.t (Reg.ETH_HELD 1) = true ∧ b.r Reg.PWR_PSTATE = 0 ∧ b.boot.warm = none

/-- The power state is none of the two that a command to a radio or mesh block ends (R517). -/
def Chip.Awake (b : Chip) : Prop := b.pstate ≠ 2 ∧ b.pstate ≠ 3

/-- SVC takes a SUBMIT (R462): it has started, is not in SAFE and runs no command, and the request record holds as many octets as it says, with the
body `l`. -/
def State.Sends (s : State) (l : List Nat) : Prop :=
  s.b.starting = false ∧ s.b.safe = false ∧ s.b.t (cbBUSY cbSVC) = false ∧ 16 ≤ s.b.arg cbSVC 0 ∧ s.b.arg cbSVC 0 ≤ 4096 ∧
  s.b.arg cbSVC 0 = fldLE (s.mem.read reqBuf (s.b.arg cbSVC 0)) 8 4 + 16 ∧ l = (s.mem.read reqBuf (s.b.arg cbSVC 0)).drop 16

/-- It takes one of an operation that passes the checks that come before it (R465). -/
def State.Asks (s : State) (op : Nat) (l : List Nat) : Prop := s.Sends l ∧ s.b.opCheck op = none

/-- The mailbox operations but POLL, each with its row (R465). -/
def mailRows (irq late : Bool) : List (Nat × Instr) :=
  [(0x01, .svcCtrl irq late), (0x02, .svcCtxSet irq late), (0x03, .svcCtxRead irq late), (0x10, .rplCfg irq late), (0x11, .rplRoute irq late),
   (0x12, .rplRepair irq late), (0x20, .regRead irq late), (0x21, .regRemove irq late), (0x30, .imgWrite irq late), (0x31, .imgClose irq late),
   (0x32, .imgErase irq late), (0x38, .campStart irq late), (0x39, .campStatus irq late), (0x3A, .campStop irq late), (0x3B, .campResult irq late)]

/-- The SUBMIT has completed in its own step with a response of a status and a body: the record stands in the response buffer with the request's tag,
and the command shows its length (R462, R463). -/
def State.Answers (s t : State) (op status : Nat) (body : List Nat) : Prop :=
  t.mem = s.mem.write rspBuf (respRec op status (fldLE (s.mem.read reqBuf (s.b.arg cbSVC 0)) 4 4) 0 body) ∧
  t.b.Completed cbSVC status [16 + body.length]

/-- It has answered so, and beyond that the block is the one given, but for its command block. -/
def State.Replies (s t : State) (x : Chip) (op status : Nat) (body : List Nat) : Prop :=
  s.Answers t op status body ∧ Chip.OnlyBlock x t.b cbSVC

/-- The block with another state of the services. -/
def Chip.withSvc (b : Chip) (v : Svc) : Chip := { b with svc := v }

/-- The rows of the records that a sequenced frame carries, by their kinds (R470). -/
def seamRows (h : SeamHdr) : List (Nat × Instr) :=
  [(3, .contextRecord h.toSeamOct h.tag h.index), (4, .cellsRecord h.toSeamOct h.tag h.index), (5, .pocketRecord h.fcsOk h.octets h.tag h.index), (6, .ceilingRecord h.toSeamOct h.tag h.index), (7, .routeRecord h.toSeamOct h.tag h.index), (8, .regRecord h.toSeamOct h.tag h.index), (9, .keystateRecord h.toSeamOct h.toSeamEnd),
   (10, .configRecord h.toSeamOct h.toSeamEnd), (11, .bulkMarkRecord h.toSeamOct h.toSeamEnd), (12, .handoverRecord h.toSeamOct h.toSeamEnd)]

/-- A STANDBY takes the records of a frame (R470, R471): it works in a TWIN, paired, over a Seam in lock; the FCS and the TAG agree under the
Seam key, and the record is the first of the frame next in sequence, or a further one of the frame just begun. -/
def Chip.SeamTakes (b : Chip) (h : SeamHdr) : Prop :=
  b.seamOn = true ∧ b.isStandby = true ∧ b.t Reg.SEA_PAIRED = true ∧ b.t Reg.SEA_BLOCK_LOCK = true ∧ b.tagOk h = true ∧ seamSeq h ≠ seqNone ∧
  ((h.index = 0 ∧ seamSeq h = b.sea.seqIn) ∨ (h.index ≠ 0 ∧ seamSeq h = b.sea.ackOut ∧ b.sea.seqIn = seqNext (seamSeq h)))

/-- From the first block to the second a record of a frame has been applied (R471, R479, R480): its number is acknowledged, and the record counts. -/
def Chip.Applied (b c : Chip) (h : SeamHdr) : Prop :=
  c.sea.seqIn = seqNext (seamSeq h) ∧ c.sea.ackOut = seamSeq h ∧ c.r Reg.SEA_REC_APPLIED = satAdd 32 (b.r Reg.SEA_REC_APPLIED) 1 ∧
  c.r Reg.SEA_BULK_ITEMS = (if (seamRecord h).bulk then satAdd 32 (b.r Reg.SEA_BULK_ITEMS) 1 else b.r Reg.SEA_BULK_ITEMS) ∧
  c.r Reg.SEA_MIRROR_SEQ = (if (seamRecord h).bulk then b.r Reg.SEA_MIRROR_SEQ else (b.r Reg.SEA_MIRROR_SEQ + 1) % 2 ^ 32)

end Sys2Proof.Machine
end

