-- ==== Sys2Proof/Certificates/Slice0/Obligations.lean ====
section
/-!
DEFINITION. The statements for the provers. Each says what it formalises in its docstring and cites the rules of the spec. `Runs i s p` says that
the command i on the state s answers a next state with p.
-/
open Sys2Proof Sys2Proof.Machine

/-- For every command c, state s and queue rest, the step of s with c in front of rest answers what exec answers for c on s with the queue rest. (95_what_each_step_holds.md) -/
def Obligations.StepRunsTheFrontCommand : Prop :=
  ∀ (c : Instr) (s : State) (rest : List Instr), step { s with pending := c :: rest } = exec c { s with pending := rest }

/-- With an empty queue the step answers a next state in which only the block has moved, by one idle TIME tick and what it makes due. That time passes on an empty queue is the model's choice (log entry 1). (05_time_and_timers.md, 95_what_each_step_holds.md) -/
def Obligations.EmptyQueueLetsTimePass : Prop :=
  ∀ s : State, s.pending = [] → step s = .next { s with b := s.b.idleStep }

/-- State.reset has an empty queue and empty buffers, every register field reads the reset value its table gives (where no table gives one, the value that the log names), GLB_STATE shows STARTING (R88) and no command block is busy. (03_startup_and_safe.md, 20_host_interfaces.md) -/
def Obligations.ResetState : Prop :=
  State.reset.pending = [] ∧ State.reset.mem = [] ∧ (∀ f : Fld, State.reset.b.r f = f.rst) ∧ State.reset.b.starting = true ∧
  (∀ base ∈ cbBases, State.reset.b.r (cbBUSY base) = 0 ∧ State.reset.b.r (cbDONE base) = 0)

/-- State.reset meets the invariant of the buffers that every step keeps. (20_host_interfaces.md) -/
def Obligations.ResetBuffersCanonical : Prop :=
  State.reset.Inv

/-- For every state whose buffers are listed by strictly rising offset with no octet at its default value, every step that answers a next state gives a state whose buffers are so listed: the buffers written by register writes, READ_ATTEST, SUBMIT and in-band management keep their one form. (03_startup_and_safe.md, 16_mesh_services.md, 18_device_update.md, 20_host_interfaces.md) -/
def Obligations.StepKeepsBuffersCanonical : Prop :=
  ∀ s t : State, s.Inv → step s = .next t → t.Inv

/-- Whatever the command and the state, a next state has the queue it was run with: register writes that start a command run its meaning at once and queue nothing. (20_host_interfaces.md, 95_what_each_step_holds.md) -/
def Obligations.ExecKeepsTheQueue : Prop :=
  ∀ (i : Instr) (s t : State), exec i s = .next t → t.pending = s.pending

/-- A command of a command block other than READ_ATTEST leaves every octet of the window's buffers as it was. (03_startup_and_safe.md, 20_host_interfaces.md) -/
def Obligations.BlockCommandsKeepBuffers : Prop :=
  ∀ (i : Instr) (s : State) (base : Nat) (irq : Bool), cmdBlock i = some (base, irq) →
    i ≠ .readAttest irq → Runs i s (fun t => ∀ a, t.mem.get a = s.mem.get a)

/-- In SAFE, with the block not BUSY, a command of a block other than GLB completes with CODE DENIED, DONE set, BUSY clear and the RESULT words reading 0, its REJECT_CNT increments by one, saturating, and nothing changes but the block, the interrupt state and what was sent (R91). (03_startup_and_safe.md) -/
def Obligations.CommandsInSafeAreDenied : Prop :=
  ∀ (i : Instr) (s : State) (base : Nat) (irq : Bool), cmdBlock i = some (base, irq) → base ≠ cbGLB → s.b.Awake → s.b.safe = true →
    s.b.t (cbBUSY base) = false →
    Runs i s (fun t => t.mem = s.mem ∧ t.b.Completed base DENIED [] ∧ t.b.r (cbREJECT base) = satAdd 32 (s.b.r (cbREJECT base)) 1 ∧
      Chip.OnlyBlock s.b t.b base)

/-- Where a block answers and its BUSY is set, a command to it changes nothing but its COLLIDE_CNT, which increments by one (R532). CANCEL of the update block is the one exception, which its own statement covers. (20_host_interfaces.md) -/
def Obligations.CommandsWhileBusyCollide : Prop :=
  ∀ (i : Instr) (s : State) (base : Nat) (irq : Bool), cmdBlock i = some (base, irq) → i ≠ .updCancel irq → s.b.Awake → s.b.starting = false →
    s.b.t (cbBUSY base) = true → exec i s = .next { s with b := s.b.w (cbCOLLIDE base) (satAdd 32 (s.b.r (cbCOLLIDE base)) 1) }

/-- Until READY or SAFE a command to a block other than GLB changes nothing but the GLB locked-write counter, which increments by one, saturating (R88). (03_startup_and_safe.md) -/
def Obligations.CommandsWhileStartingAreDiscarded : Prop :=
  ∀ (i : Instr) (s : State) (base : Nat) (irq : Bool), cmdBlock i = some (base, irq) → base ≠ cbGLB → i ≠ .updCancel irq → s.b.Awake →
    s.b.starting = true →
    exec i s = .next { s with b := s.b.w Reg.GLB_LOCKED_WR_CNT (satAdd 32 (s.b.r Reg.GLB_LOCKED_WR_CNT) 1) }

/-- In READY and LIMP, with the block not BUSY, a command of a block whose domain LIMP holds completes WRONG_STATE, its REJECT_CNT increments by one, and nothing changes but the block, the interrupt state and what was sent (R119, R193, R233, R257, R272, R316). (06_rf_front_end.md, 07_receive_path.md, 08_transmit_path.md, 09_mesh_schedule.md, 10_nodes_and_mac.md) -/
def Obligations.CommandsHeldInLimp : Prop :=
  ∀ (i : Instr) (s : State) (base : Nat) (irq : Bool), cmdBlock i = some (base, irq) → heldInLimp base = true → s.b.Awake → s.b.ready = true →
    s.b.limp = true → s.b.t (cbBUSY base) = false →
    Runs i s (fun t => t.mem = s.mem ∧ t.b.Completed base WRONG_STATE [] ∧
      t.b.r (cbREJECT base) = satAdd 32 (s.b.r (cbREJECT base)) 1 ∧ Chip.OnlyBlock s.b t.b base)

/-- Where GLB takes a command: DIAG_STATUS answers STATE, STEP and the root bits, SAFE_ITEM and SAFE_CODE, the reset causes and BOOT_COUNT; READ_REPORT answers the stored report, WRONG_STATE while there is none. READ_ATTEST, after start, without a root completes KEY_INVALID; with one it writes the statement, which begins with its magic and holds the nonce of ARG0 to ARG7 in octets 32 to 63, to the result buffer, answers its length, and advances the counter of signatures (the model's). REBOOT, after start and at most 145 degrees by PWR_TJ_MAX (the model's choice of reading, log entry 77), makes a warm start due with cause REBOOT_CMD; with ARG0 bit 0 and a verified load it also swaps the markings of the sets, and with none it completes WRONG_STATE with no effect. LOAD_MANIFEST out of SAFE completes WRONG_STATE; in SAFE, with flash, the first chunk of at most 4,096 octets that is not the last is written into the bank not in use, starts a load and answers its length. But for what is named, only the command block, INT_PEND, the interrupt state and the output change (R95, R96, R97, R370). (03_startup_and_safe.md, 12_key_store.md) -/
def Obligations.DiagnosticCommandsAnswer : Prop :=
  ∀ (s : State) (irq : Bool), s.b.takes cbGLB = true →
    Runs (.diagStatus irq) s (fun t => t.mem = s.mem ∧ Chip.OnlyBlock s.b t.b cbGLB ∧ t.b.Completed cbGLB OK
      [s.b.r Reg.GLB_STATE + s.b.r Reg.GLB_STEP * 2 ^ 4 + s.b.r Reg.GLB_TEST_ROOT * 2 ^ 8 + s.b.r Reg.GLB_ROOT_OK * 2 ^ 9,
       s.b.r Reg.GLB_SAFE_ITEM + s.b.r Reg.GLB_SAFE_CODE * 2 ^ 8, s.b.causeWord, s.b.r Reg.GLB_BOOT_COUNT]) ∧
    (s.b.boot.report ≠ [] → Runs (.readReport irq) s (fun t => t.mem = s.mem ∧ Chip.OnlyBlock s.b t.b cbGLB ∧
      t.b.Completed cbGLB OK (toWords s.b.boot.report 16))) ∧
    (s.b.boot.report = [] → Runs (.readReport irq) s (fun t => t.mem = s.mem ∧ Chip.OnlyBlock s.b t.b cbGLB ∧ t.b.Completed cbGLB WRONG_STATE [])) ∧
    (s.b.starting = false →
      (s.b.boot.rootBad = true → Runs (.readAttest irq) s (fun t => t.mem = s.mem ∧ Chip.OnlyBlock s.b t.b cbGLB ∧ t.b.Completed cbGLB KEY_INVALID [])) ∧
      (∀ st : List Nat, s.b.boot.rootBad = false → st = s.b.statement s.b.freeCtr → Runs (.readAttest irq) s (fun t =>
        st.take 4 = [0x54, 0x41, 0x59, 0x4B] ∧ slice st 32 32 = ofWords ((List.range 8).map (s.b.arg cbGLB)) ∧ t.mem = s.mem.write 0x1000 st ∧
        Chip.OnlyBlock { s.b with freeCtr := s.b.freeCtr + 1 } t.b cbGLB ∧ t.b.Completed cbGLB OK [st.length])) ∧
      (s.b.rs Reg.PWR_TJ_MAX ≤ 145 →
        (bit (s.b.arg cbGLB 0) 0 = false → Runs (.reboot irq) s (fun t => t.mem = s.mem ∧ t.b.Completed cbGLB OK [] ∧
          Chip.OnlyBlock { s.b with boot := { s.b.boot with warm := some 3 } } t.b cbGLB)) ∧
        (bit (s.b.arg cbGLB 0) 0 = true →
          (s.b.boot.loaded = true → Runs (.reboot irq) s (fun t => t.mem = s.mem ∧ t.b.Completed cbGLB OK [] ∧
            t.b.boot = { s.b.boot with warm := some 3 } ∧ t.b.nv = s.b.nv.swap 2 1 true)) ∧
          (s.b.boot.loaded = false → Runs (.reboot irq) s (fun t => t.mem = s.mem ∧ Chip.OnlyBlock s.b t.b cbGLB ∧
            t.b.Completed cbGLB WRONG_STATE []))))) ∧
    (∀ stored : Bool,
      (s.b.safe = false → Runs (.loadManifest irq stored) s (fun t => t.mem = s.mem ∧ Chip.OnlyBlock s.b t.b cbGLB ∧
        t.b.Completed cbGLB WRONG_STATE [s.b.boot.load.getD 0])) ∧
      (∀ n, s.b.safe = true → n = s.b.arg cbGLB 2 → s.b.boot.flashMib ≠ 0 → bit (s.b.arg cbGLB 3) 0 = true → bit (s.b.arg cbGLB 3) 1 = false →
        s.b.arg cbGLB 1 = 0 → 1 ≤ n → n ≤ 4096 → n ≤ s.b.arg cbGLB 0 → s.b.arg cbGLB 0 ≤ s.b.bankMib * 2 ^ 20 →
        Runs (.loadManifest irq stored) s (fun t => t.mem = s.mem ∧ t.b.boot = { s.b.boot with load := some n, loaded := false } ∧
          (t.b.nv.bank s.b.nv.otherBank).data = s.mem.read 0x1000 n ∧ t.b.nv.bank s.b.nv.curBank = s.b.nv.bank s.b.nv.curBank ∧
          t.b.Completed cbGLB OK [n])))

/-- With the console's pin group not reserved: a status line prints STATE, STEP, SAFE_ITEM, SAFE_CODE and BOOT_COUNT; report prints the stored report once the device has started and holds one, else the error WRONG_STATE; reboot, once started and with PWR_TJ_MAX at most 145 (the model's choice of reading, log entry 77), makes a warm start with cause REBOOT_CMD due and prints OK; a line that is too long prints the length error. Nothing else changes. With the group reserved none of the four has an effect. (03_startup_and_safe.md, 20_host_interfaces.md) -/
def Obligations.ConsoleAnswers : Prop :=
  ∀ s : State,
    (s.b.parked 8 = false →
      exec .consoleStatus s = .next { s with b := s.b.emit (.uartStatus (s.b.r Reg.GLB_STATE) (s.b.r Reg.GLB_STEP) (s.b.r Reg.GLB_SAFE_ITEM)
        (s.b.r Reg.GLB_SAFE_CODE) (s.b.r Reg.GLB_BOOT_COUNT)) } ∧
      exec .consoleLineTooLong s = .next { s with b := s.b.emit .uartErrLen } ∧
      (s.b.starting = false → s.b.boot.report ≠ [] → exec .consoleReport s = .next { s with b := s.b.emit (.uartReport s.b.boot.report) }) ∧
      (s.b.starting = true ∨ s.b.boot.report = [] → exec .consoleReport s = .next { s with b := s.b.emit (.uartErr WRONG_STATE) }) ∧
      (s.b.starting = false → s.b.rs Reg.PWR_TJ_MAX ≤ 145 →
        exec .consoleReboot s = .next { s with b := Chip.emit { s.b with boot := { s.b.boot with warm := some 3 } } .uartOk })) ∧
    (s.b.parked 8 = true → exec .consoleStatus s = .next s ∧ exec .consoleLineTooLong s = .next s ∧ exec .consoleReport s = .next s ∧
      exec .consoleReboot s = .next s)

/-- Where DBG takes a command, in READY: ENABLE with the key word, the strap high and DEBUG_REQ clear sets DEBUG_REQ and makes a warm start with cause DEBUG due; DISABLE with DEBUG_REQ set clears it and makes one due. Both complete OK. ENABLE without the key word completes BAD_ARG, and with it, but without the strap or with DEBUG_REQ set, WRONG_STATE, as DISABLE does with DEBUG_REQ clear; then nothing is due. But for what is named, only the command block, INT_PEND, the interrupt state and the output change (R553). (20_host_interfaces.md) -/
def Obligations.DebugCommandsRestart : Prop :=
  ∀ (s : State) (irq : Bool), s.b.takes cbDBG = true → s.b.ready = true →
    (s.b.arg cbDBG 0 = 0x44424745 →
      (s.b.t Reg.DBG_STRAP = true → s.b.t Reg.DBG_REQ = false → Runs (.debugEnable irq) s (fun t => t.mem = s.mem ∧ t.b.Completed cbDBG OK [] ∧
        Chip.OnlyBlock (Chip.wb { s.b with boot := { s.b.boot with warm := some 5 } } Reg.DBG_REQ true) t.b cbDBG)) ∧
      (s.b.t Reg.DBG_STRAP = false ∨ s.b.t Reg.DBG_REQ = true → Runs (.debugEnable irq) s (fun t => t.mem = s.mem ∧ t.b.Completed cbDBG WRONG_STATE [] ∧
        Chip.OnlyBlock s.b t.b cbDBG))) ∧
    (s.b.arg cbDBG 0 ≠ 0x44424745 → Runs (.debugEnable irq) s (fun t => t.mem = s.mem ∧ t.b.Completed cbDBG BAD_ARG [] ∧
      Chip.OnlyBlock s.b t.b cbDBG)) ∧
    (s.b.t Reg.DBG_REQ = true → Runs (.debugDisable irq) s (fun t => t.mem = s.mem ∧ t.b.Completed cbDBG OK [] ∧
      Chip.OnlyBlock (Chip.wb { s.b with boot := { s.b.boot with warm := some 5 } } Reg.DBG_REQ false) t.b cbDBG)) ∧
    (s.b.t Reg.DBG_REQ = false → Runs (.debugDisable irq) s (fun t => t.mem = s.mem ∧ t.b.Completed cbDBG WRONG_STATE [] ∧
      Chip.OnlyBlock s.b t.b cbDBG))

/-- In READY an expiry of the watchdog that is not a second one within the time makes a warm start with cause WATCHDOG due and nothing else; a second one enters SAFE with item WATCHDOG. Out of READY an expiry changes nothing. The thermal trip enters SAFE with item THERMAL on a powered device that is not in SAFE, and changes nothing in SAFE or without supply. In SAFE so entered the cause code is ABORTED, every chain is muted, Ethernet port 1 is held, the power state is 0 and no warm start is due. In SAFE a beacon period advances SAFE_BEACON_SEQ, saturating, asserts HOST_IRQ_N by its own cause, leaves the CRITICAL source pending, prints the UART line with item, code, BOOT_COUNT and the new sequence number where the console's pins are not reserved, and sends one frame on Ethernet port 0 where its link is up and it is not held; only registers, the interrupt state and the output change, and of the registers only that count, those of NTC and port 0's transmit counters. Out of SAFE a beacon period changes nothing (R90, R92, R94, R98). (03_startup_and_safe.md, 19_power_and_thermal.md) -/
def Obligations.SafeIsEntered : Prop :=
  ∀ s : State,
    (∀ again : Bool,
      (s.b.ready = true → (again && s.b.boot.wdog) = false →
        exec (.watchdogExpiry again) s = .next { s with b := { s.b with boot := { s.b.boot with warm := some 4, wdog := true } } }) ∧
      (s.b.ready = true → (again && s.b.boot.wdog) = true → Runs (.watchdogExpiry again) s (fun t => t.mem = s.mem ∧ t.b.InSafe 0x10 ABORTED)) ∧
      (s.b.ready = false → exec (.watchdogExpiry again) s = .next s)) ∧
    (s.b.boot.off = 0 → s.b.safe = false → Runs .thermalTrip s (fun t => t.mem = s.mem ∧ t.b.InSafe 0x0F ABORTED)) ∧
    (s.b.boot.off ≠ 0 ∨ s.b.safe = true → exec .thermalTrip s = .next s) ∧
    (∀ q, s.b.safe = true → q = satAdd 32 (s.b.r Reg.GLB_SAFE_BEACON_SEQ) 1 → Runs .safeBeaconPeriod s (fun t => t.mem = s.mem ∧
      t.b = { s.b with regs := t.b.regs, ntc := t.b.ntc, out := t.b.out } ∧ t.b.r Reg.GLB_SAFE_BEACON_SEQ = q ∧ t.b.ntc.safeIrq = true ∧
      bit (t.b.r Reg.NTC_INT_PEND) 1 = true ∧
      (s.b.parked 8 = false → Out.uartBeacon (s.b.r Reg.GLB_SAFE_ITEM) (s.b.r Reg.GLB_SAFE_CODE) (s.b.r Reg.GLB_BOOT_COUNT) q ∈ t.b.out) ∧
      (s.b.t (Reg.ETH_LINK 0) = true → s.b.t (Reg.ETH_HELD 0) = false → t.b.out.head? = some (.eth 0 (ethPad (s.b.noticeFrame 0 ⟨s.b.stitch32, Src.GLB, sevOf N.SAFE_BEACON, N.SAFE_BEACON,
          argB (s.b.r Reg.GLB_SAFE_ITEM) (s.b.r Reg.GLB_SAFE_CODE) (q % 256) (q / 256 % 256) (s.b.r Reg.GLB_BOOT_COUNT)⟩))) ∧
        t.b.r (Reg.ETH_TX_FRAMES 0) = satAdd 32 (s.b.r (Reg.ETH_TX_FRAMES 0)) 1) ∧
      ∀ f : Fld, f.key ≠ Reg.GLB_SAFE_BEACON_SEQ.key → (f.key < 0x50000 * 32 ∨ 0x60000 * 32 ≤ f.key) → f.key ≠ (Reg.ETH_TX_FRAMES 0).key →
        f.key ≠ (Reg.ETH_TX_OCTETS 0).key → t.b.r f = s.b.r f)) ∧
    (s.b.safe = false → exec .safeBeaconPeriod s = .next s)

/-- For an enabled XO, TCXO or LF source: amplitude reached starts the COARSE check; an amplitude timeout fails the source; a COARSE count within limits goes on to the FINE check where a FINE reference is qualified, and, the main source being a crystal, qualifies the source without FINE where none is; one out of limits fails it; a FINE count within limits qualifies it (LF then clocks AON); one out of limits fails LF, and for XO or TCXO, with the TCXO the main source and no switch waiting, sets DISAGREE and fails the XO, the TCXO staying the main source (that it is trusted without FINE is the model's choice, log entry 72); after a failure the retry starts again. A measurement in any other state, or of a source that is off, changes nothing of the source. The counts are kept; of the registers only those of the source, of the idle bank, AON_SRC and DISAGREE, and of the rest only the clock state, the notice block, the Seam's sending and the output change (R105, R106, R108). (04_clocks_resets_crossings.md) -/
def Obligations.QualificationMoves : Prop :=
  ∀ (s : State) (src : Nat), src = 1 ∨ src = 2 ∨ src = 3 →
    (s.b.t (enFld src) = false → exec (.amplitudeGood src) s = .next s ∧ exec (.amplitudeFail src) s = .next s ∧ exec (.qualRetry src) s = .next s ∧
      (s.b.Quiet → ∀ count ms, Runs (.qualCoarseDone src count ms) s (fun t => t.mem = s.mem ∧ Chip.OnlyRegs s.b t.b []) ∧
        Runs (.qualFineDone src count ms) s (fun t => t.mem = s.mem ∧ Chip.OnlyRegs s.b t.b []))) ∧
    (s.b.t (enFld src) = true →
      (s.b.qst src = 1 → exec (.amplitudeGood src) s = .next { s with b := s.b.w (qstFld src) 2 }) ∧
      (s.b.qst src = 1 → Runs (.amplitudeFail src) s (fun t => t.mem = s.mem ∧ t.b.qst src = 6 ∧ t.b.r (failFld src) = 1 ∧
        Chip.OnlyRegs s.b t.b [qstFld src, failFld src])) ∧
      (s.b.qst src ≠ 1 → exec (.amplitudeGood src) s = .next s ∧ exec (.amplitudeFail src) s = .next s) ∧
      (s.b.qst src = 6 → exec (.qualRetry src) s = .next { s with b := s.b.w (qstFld src) 1 }) ∧
      (s.b.qst src ≠ 6 → exec (.qualRetry src) s = .next s) ∧
      (s.b.Quiet → ∀ count ms,
        (s.b.qst src = 2 →
          (s.b.coarseOk src count = true → s.b.fineRef src ≠ 0 → s.b.srcOk (s.b.fineRef src) = true →
            Runs (.qualCoarseDone src count ms) s (fun t => t.mem = s.mem ∧ t.b.qst src = 3 ∧ kget t.b.clk.coarse src = some (count % 2 ^ 21) ∧
              Chip.OnlyRegs { s.b with clk := t.b.clk } t.b [qstFld src])) ∧
          (s.b.coarseOk src count = true → ¬ (s.b.fineRef src ≠ 0 ∧ s.b.srcOk (s.b.fineRef src) = true) → s.b.r Reg.CKR_MAIN_SRC ≠ 0 →
            Runs (.qualCoarseDone src count ms) s (fun t => t.mem = s.mem ∧ t.b.qst src = 5 ∧ kget t.b.clk.coarse src = some (count % 2 ^ 21) ∧
              Chip.OnlyRegs { s.b with clk := t.b.clk } t.b (qstFld src :: Reg.CKR_AON_SRC :: idleFlds))) ∧
          (s.b.coarseOk src count = false → Runs (.qualCoarseDone src count ms) s (fun t => t.mem = s.mem ∧ t.b.qst src = 6 ∧
            t.b.r (failFld src) = 1 ∧ kget t.b.clk.coarse src = some (count % 2 ^ 21) ∧
            Chip.OnlyRegs { s.b with clk := t.b.clk } t.b [qstFld src, failFld src]))) ∧
        (s.b.qst src = 3 →
          (fineOk src count = true → (src = 3 ∨ s.b.r Reg.CKR_MAIN_SRC ≠ 0) →
            Runs (.qualFineDone src count ms) s (fun t => t.mem = s.mem ∧ t.b.qst src = 4 ∧ (src = 3 → t.b.r Reg.CKR_AON_SRC = 0) ∧
              kget t.b.clk.fine src = some (count % 2 ^ 21) ∧
              Chip.OnlyRegs { s.b with clk := t.b.clk } t.b (qstFld src :: Reg.CKR_AON_SRC :: idleFlds))) ∧
          (fineOk src count = false → src = 3 → Runs (.qualFineDone src count ms) s (fun t => t.mem = s.mem ∧ t.b.qst src = 6 ∧
            t.b.r (failFld src) = 1 ∧ kget t.b.clk.fine src = some (count % 2 ^ 21) ∧
            Chip.OnlyRegs { s.b with clk := t.b.clk } t.b [qstFld src, failFld src])) ∧
          (fineOk src count = false → src ≠ 3 → s.b.r Reg.CKR_MAIN_SRC = 2 → (src = 1 → s.b.srcOk 2 = true) → s.b.clk.sw = none →
            Runs (.qualFineDone src count ms) s (fun t => t.mem = s.mem ∧ t.b.qst 1 = 6 ∧ t.b.r Reg.CKR_XO_FAIL = 1 ∧ t.b.r Reg.CKR_DISAGREE = 1 ∧
              t.b.r Reg.CKR_MAIN_SRC = 2))) ∧
        (s.b.qst src ≠ 2 → Runs (.qualCoarseDone src count ms) s (fun t => t.mem = s.mem ∧ Chip.OnlyRegs s.b t.b [])) ∧
        (s.b.qst src ≠ 3 → Runs (.qualFineDone src count ms) s (fun t => t.mem = s.mem ∧ Chip.OnlyRegs s.b t.b []))))

/-- A crystal main source that stops, with the idle bank not locked, is marked FAILED and starts a forced switch that stops the domains. A frequency check within limits keeps its count and changes no register. Loss of a PLL of the idle bank clears its lock bit; where an orderly switch waits for that bank, its source fails and, the main source being good, the switch ends on the present bank as a forced one, counted. A PLL's lock sets its bit. A TCXO that has stayed qualified starts an orderly return. SRC_CTRL with the enables unchanged takes pin and return mode; a reserved pin discards it. GROUP_RESET of one group not busy sets its busy bit, clears its counters and, but for the UART, discards what its crossings hold, ETH0 and ETH1 losing their link, the Seam its lock and pairing; of a busy one it does nothing; the release clears the bit. An event at an event crossing into a running domain crosses at once; else it is held in flight, then pending, then lost and counted. A value at a hold-and-flag crossing arrives where the destination runs, else is held, the latest behind it. In DOZE, at the first point of its entry, an event or a value for a domain that is gated makes the device leave DOZE. A crossing that does not exist takes nothing (R33, R103, R110 to R113, R118, R122 to R125, R127, R129). (04_clocks_resets_crossings.md) -/
def Obligations.ClockMonitorAndBanks : Prop :=
  ∀ s : State, s.b.Quiet →
    (∀ bad : Nat, s.b.r Reg.CKR_MAIN_SRC = 1 ∨ s.b.r Reg.CKR_MAIN_SRC = 2 → s.b.r Reg.CKR_MAIN_SRC = bad → s.b.idleLocked = false →
      Runs .clockStopped s (fun t => t.mem = s.mem ∧ t.b.qst bad = 6 ∧ t.b.r (failFld bad) = 1 ∧ t.b.r Reg.CKR_DOMAIN_STATE = 0x155 ∧
        t.b.r Reg.CKR_MAIN_SRC = bad ∧ t.b.clk.sw.any (fun x => x.2) = true)) ∧
    (∀ count ms, s.b.r Reg.CKR_MAIN_SRC ≠ 0 → s.b.coarseOk (s.b.r Reg.CKR_MAIN_SRC) count = true →
      Runs (.freqCheck count ms) s (fun t => t.mem = s.mem ∧ kget t.b.clk.coarse (s.b.r Reg.CKR_MAIN_SRC) = some (count % 2 ^ 21) ∧
        t.b.r Reg.CKR_MAIN_SRC = s.b.r Reg.CKR_MAIN_SRC ∧ Chip.OnlyRegs { s.b with clk := t.b.clk } t.b [])) ∧
    (∀ pll, pll < 4 → s.b.t (pllFld pll) = true → pll / 2 ≠ s.b.r Reg.CKR_ACTIVE_BANK →
      (s.b.clk.sw = none → Runs (.pllUnlock pll) s (fun t => t.mem = s.mem ∧ t.b.r (pllFld pll) = 0 ∧ Chip.OnlyRegs s.b t.b [pllFld pll])) ∧
      (∀ x : Nat, s.b.clk.sw = some (x, false) → x = 1 ∨ x = 2 → s.b.r Reg.CKR_MAIN_SRC ≠ 0 → s.b.r Reg.CKR_MAIN_SRC ≠ x →
        s.b.srcOk (s.b.r Reg.CKR_MAIN_SRC) = true → Runs (.pllUnlock pll) s (fun t => t.mem = s.mem ∧ t.b.r (pllFld pll) = 0 ∧ t.b.qst x = 6 ∧
          t.b.r (failFld x) = 1 ∧ t.b.clk.sw = none ∧ t.b.r Reg.CKR_FORCED_CNT = satAdd 32 (s.b.r Reg.CKR_FORCED_CNT) 1 ∧ t.b.r Reg.CKR_MAIN_SRC = s.b.r Reg.CKR_MAIN_SRC))) ∧
    (∀ pll ms, pll < 4 → s.b.t (pllFld pll) = false → ¬ (pll % 2 = 1 ∧ s.b.bankSrc (pll / 2) = 0) → s.b.clk.sw = none →
      Runs (.pllLock pll ms) s (fun t => t.mem = s.mem ∧ t.b.r (pllFld pll) = 1 ∧ Chip.OnlyRegs s.b t.b [pllFld pll])) ∧
    (s.b.r Reg.CKR_MAIN_SRC = 1 → s.b.srcOk 2 = true → s.b.clk.sw = none → s.b.t Reg.CKR_RETURN_AUTO = true → s.b.r Reg.CKR_IDLE_SRC ≠ 2 →
      Runs .tcxoReturn s (fun t => t.mem = s.mem ∧ t.b.clk.sw = some (2, false) ∧ t.b.r Reg.CKR_IDLE_SRC = 2 ∧
        Chip.OnlyRegs { s.b with clk := t.b.clk } t.b idleFlds)) ∧
    (∀ grp, exec (.groupResetRelease grp) s = .next { s with b := s.b.w Reg.CKR_GRP_BUSY (clrBit (s.b.r Reg.CKR_GRP_BUSY) grp) }) ∧
    (∀ (id v : Nat) (wk : WakeIn) (x : Xing), x = kgetD s.b.clk.xing id {} →
      (Config.crossingCount ≤ id → exec (.domainWakeRequest ⟨id, v, wk⟩) s = .next s) ∧
      (id < Config.crossingCount → xingHold id = false →
        (s.b.domainRuns (xingDst id) = true → exec (.domainWakeRequest ⟨id, v, wk⟩) s = .next s) ∧
        (s.b.domainRuns (xingDst id) = false → s.b.pstate ≠ 4 →
          (x.fly = false → exec (.domainWakeRequest ⟨id, v, wk⟩) s = .next { s with b := s.b.xingPut id { x with fly := true } }) ∧
          (x.fly = true → x.pend = false → exec (.domainWakeRequest ⟨id, v, wk⟩) s = .next { s with b := s.b.xingPut id { x with pend := true } }) ∧
          (x.fly = true → x.pend = true → Runs (.domainWakeRequest ⟨id, v, wk⟩) s (fun t => t.mem = s.mem ∧
            kget t.b.clk.xing id = some { x with ovr := true, lost := satAdd 16 x.lost 1 } ∧
            Chip.OnlyRegs { s.b with clk := t.b.clk } t.b [Reg.CKR_XING_OVR])))) ∧
      (id < Config.crossingCount → xingHold id = true → s.b.domainRuns (xingDst id) = true ∨ s.b.pstate ≠ 4 →
        exec (.domainWakeRequest ⟨id, v, wk⟩) s = .next { s with b := s.b.xingPut id (if s.b.domainRuns (xingDst id) then { x with got := some v }
          else if x.fly then { x with pend := true, next := v } else { x with fly := true, held := v }) }) ∧
      (id < Config.crossingCount → s.b.domainRuns (xingDst id) = false → s.b.pstate = 4 → wk.stage = 0 → s.b.Quiet →
        Runs (.domainWakeRequest ⟨id, v, wk⟩) s (fun t => t.mem = s.mem ∧ t.b.r Reg.PWR_PSTATE = 0))) ∧
    (∀ v : Word, s.b.writable 1 = true →
      (bits v.toNat 4 2 = 3 → Runs (.srcCtrlWrite v) s (fun t => t.mem = s.mem ∧ Chip.OnlyRegs s.b t.b [])) ∧
      (bits v.toNat 4 2 ≠ 3 → bit v.toNat 0 = s.b.t Reg.CKR_TCXO_EN → bit v.toNat 1 = s.b.t Reg.CKR_XO_EN →
        bit v.toNat 2 = s.b.t Reg.CKR_LF_EN → (bit v.toNat 1 && s.b.parked 0x1C) = false → (bit v.toNat 2 && s.b.parked 0x1D) = false →
        Runs (.srcCtrlWrite v) s (fun t => t.mem = s.mem ∧ t.b.r Reg.CKR_PIN_SRC = bits v.toNat 4 2 ∧ t.b.r Reg.CKR_RETURN_AUTO = b2n (bit v.toNat 8) ∧
          Chip.OnlyRegs { s.b with overrides := t.b.overrides } t.b [Reg.CKR_PIN_SRC, Reg.CKR_RETURN_AUTO]))) ∧
    (∀ (v : Word) (g : Nat), s.b.writable 1 = true → g < 4 → v.toNat = 2 ^ g →
      (bit (s.b.r Reg.CKR_GRP_BUSY) g = true → exec (.groupReset v) s = .next s) ∧
      (bit (s.b.r Reg.CKR_GRP_BUSY) g = false → Runs (.groupReset v) s (fun t => t.mem = s.mem ∧ bit (t.b.r Reg.CKR_GRP_BUSY) g = true ∧
        (g ≤ 1 → (∀ f ∈ ethCounters g, t.b.r f = 0) ∧ t.b.t (Reg.ETH_LINK g) = false) ∧
        (g = 2 → (∀ f ∈ seaCounters, t.b.r f = 0) ∧ t.b.t Reg.SEA_BLOCK_LOCK = false ∧ t.b.t Reg.SEA_PAIRED = false) ∧
        (g ≤ 2 → ∀ e ∈ t.b.clk.xing, (Config.crossingInfo e.1).1 = 6 + g ∨ xingDst e.1 = 6 + g → e.2 = {}) ∧
        (g = 3 → t.b.r Reg.HIF_UART_DROP = 0))))

/-- Where TIM takes a write: an INCR commit in range shows in INCR, waits for the next tick, restarts the servo watchdog and ends holdover; one out of range is counted in INCR_REJ_CNT and changes nothing of time or INCR. A STEP commit that is not 0 and whose result is in the range of network time adds to the pending step, restarts the watchdog and ends holdover; one whose result is out of that range is counted and changes nothing of time. Each takes the staged word, and leaves every register but those, the notice block and the Seam's sending, the output and every other part of the state. Where TIM takes no write, each changes only the count of locked writes (R88, R91, R131, R133, R138). (05_time_and_timers.md) -/
def Obligations.TimeCommits : Prop :=
  ∀ (s : State) (rq : Requester) (v : Word),
    (s.b.writable 4 = false → exec (.incrCommit rq v) s = .next { s with b := s.b.inc Reg.GLB_LOCKED_WR_CNT } ∧
      exec (.stepCommit rq v) s = .next { s with b := s.b.inc Reg.GLB_LOCKED_WR_CNT }) ∧
    (s.b.writable 4 = true →
      (∀ hi x : Nat, hi = (s.b.stagedAt rq 0x40024).getD (s.b.r Reg.TIM_INCR_HI) % 256 → x = hi * 2 ^ 32 + v.toNat →
        (17162689315 ≤ x ∧ x ≤ 17197049053 → Runs (.incrCommit rq v) s (fun t => t.mem = s.mem ∧ t.b.r Reg.TIM_INCR_LO = v.toNat ∧
          t.b.r Reg.TIM_INCR_HI = hi ∧ t.b.t Reg.TIM_HOLDOVER = false ∧
          Chip.OnlyRegs { s.b with staged := kdel s.b.staged (lkey rq 0x40024)
                                   tim := { s.b.tim with pendIncr := some x, wdog := s.b.tim.wdog.map (fun _ => 0) } } t.b
            [Reg.TIM_INCR_LO, Reg.TIM_INCR_HI, Reg.TIM_HOLDOVER, Reg.TIM_HOLDOVER_REQ])) ∧
        (x < 17162689315 ∨ 17197049053 < x → exec (.incrCommit rq v) s = .next { s with b := Chip.inc { s.b with staged := kdel s.b.staged (lkey rq 0x40024) } Reg.TIM_INCR_REJ_CNT })) ∧
      (∀ st tt : Int, st = toS ((s.b.stagedAt rq 0x4002C).getD 0) 32 * 65536 + ((v.toNat % 65536 : Nat) : Int) →
        tt = (s.b.tim.now : Int) + stepU (s.b.tim.pendStep.getD 0 + st) →
        (st ≠ 0 → 0 ≤ tt → tt < (timeEnd : Int) → Runs (.stepCommit rq v) s (fun t => t.mem = s.mem ∧ t.b.t Reg.TIM_HOLDOVER = false ∧
          Chip.OnlyRegs { s.b with staged := kdel s.b.staged (lkey rq 0x4002C)
                                   tim := { s.b.tim with pendStep := some (s.b.tim.pendStep.getD 0 + st), wdog := s.b.tim.wdog.map (fun _ => 0) } } t.b
            [Reg.TIM_HOLDOVER, Reg.TIM_HOLDOVER_REQ])) ∧
        (tt < 0 ∨ (timeEnd : Int) ≤ tt → exec (.stepCommit rq v) s = .next { s with b := Chip.inc { s.b with staged := kdel s.b.staged (lkey rq 0x4002C) } Reg.TIM_INCR_REJ_CNT })))

/-- In the running TIME domain, where no SET waits, no boundary is due and the tick comes before the next boundary or adds a step: the tick with a pending INCR, a pending step within STEP_LIMIT, or both, adds INCR, the new one where it waits, and the step to network time; the new INCR is then in force, nothing stays pending, and a step other than 0 sets STEPPED (R131, R133, R139). (05_time_and_timers.md) -/
def Obligations.TimeApplies : Prop :=
  ∀ (s : State) (inc : Nat) (st : Int), s.b.Quiet → s.b.timeRuns = true → s.b.tickFree = true → s.b.tim.pendSet = none →
    inc = s.b.tim.pendIncr.getD s.b.tim.incr → st = s.b.tim.pendStep.getD 0 → st.natAbs ≤ s.b.r Reg.TIM_STEP_LIMIT * 65536 →
    (s.b.tim.pendIncr.isSome = true → Runs .incrApply s (fun t => t.mem = s.mem ∧ t.b.tim.incr = inc ∧ t.b.tickClean = true ∧
      t.b.tim.now = (((s.b.tim.now + inc : Nat) : Int) + stepU st).toNat % timeEnd ∧ (st ≠ 0 → t.b.t Reg.TIM_STEPPED = true))) ∧
    (s.b.tim.pendStep.isSome = true → Runs .stepApply s (fun t => t.mem = s.mem ∧ t.b.tim.incr = inc ∧ t.b.tickClean = true ∧
      t.b.tim.now = (((s.b.tim.now + inc : Nat) : Int) + stepU st).toNat % timeEnd ∧ (st ≠ 0 → t.b.t Reg.TIM_STEPPED = true)))

/-- Where TIM takes a write, a SET commit with nanoseconds up to 999,999,999 makes the written seconds, nanoseconds and fraction wait for the next tick, and one above is discarded and counted in INCR_REJ_CNT, leaving time as it was. In the running TIME domain, where no boundary is due at the present tick, the next tick loads that time, discards a STEP committed or staged but not applied, and is a discontinuity: DISC sets and DISC_CNT rises by one, saturating (R134). (R134) -/
def Obligations.SetIsADiscontinuity : Prop :=
  ∀ s : State,
    (∀ (rq : Requester) (v : Word) (ns sec : Nat), s.b.writable 4 = true → ns = (s.b.stagedAt rq 0x40034).getD 0 →
      sec = (s.b.stagedAt rq 0x40038).getD 0 + (s.b.stagedAt rq 0x4003C).getD 0 % 65536 * 2 ^ 32 →
      (ns ≤ 999999999 → Runs (.setCommit rq v) s (fun t => t.mem = s.mem ∧ t.b.t Reg.TIM_HOLDOVER = false ∧
        Chip.OnlyRegs { s.b with staged := t.b.staged
                                 tim := { s.b.tim with pendSet := some ((sec * 1000000000 + ns) * nsU + v.toNat % 65536 * 65536)
                                                       wdog := s.b.tim.wdog.map (fun _ => 0) } } t.b [Reg.TIM_HOLDOVER, Reg.TIM_HOLDOVER_REQ])) ∧
      (999999999 < ns → Runs (.setCommit rq v) s (fun t => t.mem = s.mem ∧ t.b.tim = s.b.tim ∧
        t.b.r Reg.TIM_INCR_REJ_CNT = satAdd 32 (s.b.r Reg.TIM_INCR_REJ_CNT) 1 ∧
        Chip.OnlyRegs { s.b with staged := t.b.staged } t.b [Reg.TIM_INCR_REJ_CNT]))) ∧
    (∀ tt, s.b.Quiet → s.b.timeRuns = true → s.b.boundaryDue = false → s.b.tim.pendSet = some tt →
      Runs .setApply s (fun t => t.mem = s.mem ∧ t.b.tim.now = tt ∧ t.b.tim.pendSet = none ∧ t.b.tim.pendStep = none ∧
        (∀ rq, t.b.stagedAt rq 0x4002C = none) ∧ t.b.t Reg.TIM_DISC = true ∧ t.b.r Reg.TIM_DISC_CNT = satAdd 32 (s.b.r Reg.TIM_DISC_CNT) 1))

/-- Out of holdover, a write of 1 to HOLDOVER_REQ where TIM takes it, and SERVO_WDOG stitches without a servo commit where SERVO_WDOG is not 0, set HOLDOVER and clear HOLDOVER_STITCHES; the request shows in HOLDOVER_REQ. Time and every other register outside the notice block stay. In holdover the request only shows; a timeout in holdover, with SERVO_WDOG 0 or before its stitches changes nothing (R138). (05_time_and_timers.md) -/
def Obligations.HoldoverIsEntered : Prop :=
  ∀ s : State,
    (s.b.t Reg.TIM_HOLDOVER = false →
      (s.b.writable 4 = true → Runs .holdoverReq s (fun t => t.mem = s.mem ∧ t.b.r Reg.TIM_HOLDOVER = 1 ∧ t.b.r Reg.TIM_HOLDOVER_REQ = 1 ∧
        t.b.r Reg.TIM_HOLDOVER_STITCHES = 0 ∧ t.b.tim = s.b.tim ∧
        Chip.OnlyRegs s.b t.b [Reg.TIM_HOLDOVER, Reg.TIM_HOLDOVER_REQ, Reg.TIM_HOLDOVER_STITCHES])) ∧
      (∀ n, s.b.tim.wdog = some n → s.b.r Reg.TIM_SERVO_WDOG ≠ 0 → s.b.r Reg.TIM_SERVO_WDOG ≤ n →
        Runs .holdoverTimeout s (fun t => t.mem = s.mem ∧ t.b.r Reg.TIM_HOLDOVER = 1 ∧ t.b.r Reg.TIM_HOLDOVER_STITCHES = 0 ∧ t.b.tim = s.b.tim ∧
          Chip.OnlyRegs s.b t.b [Reg.TIM_HOLDOVER, Reg.TIM_HOLDOVER_STITCHES]))) ∧
    (s.b.t Reg.TIM_HOLDOVER = true → s.b.writable 4 = true → exec .holdoverReq s = .next { s with b := s.b.w Reg.TIM_HOLDOVER_REQ 1 }) ∧
    (s.b.t Reg.TIM_HOLDOVER = true ∨ s.b.r Reg.TIM_SERVO_WDOG = 0 ∨ (∀ n, s.b.tim.wdog = some n → n < s.b.r Reg.TIM_SERVO_WDOG) →
      exec .holdoverTimeout s = .next s)

/-- Where TIM answers reads, a read of TS_W0 of a port whose FIFO holds a record answers its first word, latches the other three for the requester, takes the record out and shows the new depth; with an empty FIFO it answers 0. Every other register, but for the Seam's and the notice block, and every other part of the state stay. Where TIM answers no reads it answers 0 and changes nothing else (R88, R91, R149). (05_time_and_timers.md) -/
def Obligations.TimestampsArePopped : Prop :=
  ∀ (s : State) (rq : Requester) (port : Nat), port < 2 →
    (s.b.readable 4 = false → exec (.tsFifoPop rq port) s = .next { s with b := s.b.emit (.data rq [0, 0, 0, 0]) }) ∧
    (s.b.readable 4 = true →
      (kgetD s.b.tim.fifo port [] = [] → Runs (.tsFifoPop rq port) s (fun t => t.mem = s.mem ∧ t.b.r (Reg.TIM_TS_DEPTH port) = 0 ∧
        t.b.out = .data rq [0, 0, 0, 0] :: s.b.out ∧
        Chip.OnlyRegs { s.b with tim := t.b.tim, latch := t.b.latch } t.b [Reg.TIM_TS_DEPTH port])) ∧
      (∀ (w0 w1 w2 w3 : Nat) (q : List (List Nat)), kgetD s.b.tim.fifo port [] = [w0, w1, w2, w3] :: q → q.length < 64 →
        Runs (.tsFifoPop rq port) s (fun t => t.mem = s.mem ∧ kgetD t.b.tim.fifo port [] = q ∧ t.b.r (Reg.TIM_TS_DEPTH port) = q.length ∧
          t.b.out = .data rq (leBytes w0 4) :: s.b.out ∧ kget t.b.latch (lkey rq (0x40114 + 0x40 * port)) = some (w1 % 2 ^ 32) ∧
          kget t.b.latch (lkey rq (0x40118 + 0x40 * port)) = some (w2 % 2 ^ 32) ∧ kget t.b.latch (lkey rq (0x4011C + 0x40 * port)) = some (w3 % 2 ^ 32) ∧
          Chip.OnlyRegs { s.b with tim := t.b.tim, latch := t.b.latch } t.b [Reg.TIM_TS_DEPTH port])))

/-- Where TIM takes a write, in a power state that a write does not end: a control word that arms a pin channel whose group is not reserved, with a width, no period and a target in the future, arms it on that target with code OK; so does one of a window channel on a lane that exists with a length of 1 to 256; of the registers only the channel's own change. With no boundary before it, network time reaching the target of an armed channel with no period adds one to its FIRE_CNT, sets FIRED and disarms it. The end of a channel's oldest raw window frees its lane and puts the window's samples at the start of the channel's capture area; with no window nothing changes. How the area is written where fewer samples come is the model's choice (log entry 97) (R150, R151, R152, R232). (05_time_and_timers.md, 07_receive_path.md) -/
def Obligations.TriggersArmAndFire : Prop :=
  ∀ (s : State) (n : Nat),
    (∀ v : Word, s.b.writable 4 = true → s.b.Awake → n < 12 → bits v.toNat 4 4 ≤ 6 → bit v.toNat 0 = true → 1 ≤ bits v.toNat 16 16 →
      (n < 8 → s.b.parked (if n < 4 then 0x18 else 0x19) = false) → (8 ≤ n → bits v.toNat 16 16 ≤ 256 ∧ s.b.laneExists (bits v.toNat 4 4) = true) →
      s.b.r (Reg.TIM_TRG_PERIOD n) = 0 → s.b.tim.now < s.b.trigTarget n * nsU →
      Runs (.triggerArm n v) s (fun t => t.mem = s.mem ∧ t.b.r (Reg.TIM_TRG_ARM n) = 1 ∧ t.b.r (Reg.TIM_TRG_CODE n) = OK ∧
        kget t.b.tim.trig n = some (s.b.trigTarget n) ∧ t.b.r (Reg.TIM_TRG_POL n) = bits v.toNat 1 1 ∧ t.b.r (Reg.TIM_TRG_LANE n) = bits v.toNat 4 4 ∧
        t.b.r (Reg.TIM_TRG_WIDTH_LEN n) = bits v.toNat 16 16 ∧
        Chip.OnlyRegs { s.b with tim := { s.b.tim with trig := kput s.b.tim.trig n (s.b.trigTarget n) } } t.b
          [Reg.TIM_TRG_POL n, Reg.TIM_TRG_LANE n, Reg.TIM_TRG_WIDTH_LEN n, Reg.TIM_TRG_ARM n, Reg.TIM_TRG_CODE n])) ∧
    (∀ tg, s.b.Quiet → n < 12 → s.b.timeRuns = true → s.b.tickClean = true → kget s.b.tim.trig n = some tg → s.b.r (Reg.TIM_TRG_PERIOD n) = 0 →
      s.b.tim.incr ≠ 0 → s.b.beforeBoundary (s.b.ticksTo (tg * nsU)) = true → s.b.tim.nextB * stitchU ≤ timeEnd →
      Runs (.triggerFire n) s (fun t => t.mem = s.mem ∧ tg * nsU ≤ t.b.tim.now ∧ kget t.b.tim.trig n = none ∧ t.b.r (Reg.TIM_TRG_ARM n) = 0 ∧
        t.b.r (Reg.TIM_TRG_FIRED n) = 1 ∧ t.b.r (Reg.TIM_TRG_FIRE_CNT n) = (s.b.r (Reg.TIM_TRG_FIRE_CNT n) + 1) % 2 ^ 16)) ∧
    (∀ samples : List Nat,
      (s.b.rawCap.find? (fun e => e.chan == n) = none → exec (.rawCaptureEnd ⟨n, samples⟩) s = .next s) ∧
      (∀ (e : RawWin) (x : List Nat) (ws : List RawWin), s.b.rawCap.find? (fun e => e.chan == n) = some e →
        x = (samples.take (e.len * 1024)).map (· % 2 ^ 32) → ws = s.b.rawCap.filter (fun w => w.lane != e.lane) →
        exec (.rawCaptureEnd ⟨n, samples⟩) s = .next { s with b := { s.b with rawCap := ws, rawMem := kput s.b.rawMem n (x ++ (kgetD s.b.rawMem n []).drop x.length) } }))

/-- Where TMR takes a write, in a power state that a write does not end, and the channel is host-owned: ARM clears DISC and, in mode 1, starts the channel, in mode 2 loads COUNT from START and starts it, in mode 0 does no more; STOP stops it; COUNT and COMPARE take the written value, and a write of COMPARE arms the compare. Nothing else changes. On a channel that host software does not own each is discarded as a structure rejection: STRUCT_REJECT_CNT rises by one, STRUCT_REJECT_LAST names the register, and no register outside those two, the notice block and the Seam's changes (R54, R71, R155, R156, R161). (05_time_and_timers.md) -/
def Obligations.TimerChannelsAreWritten : Prop :=
  ∀ (s : State) (n : Nat) (v : Word), s.b.writable 3 = true → n < 64 →
    (s.b.t (Reg.TMR_HOST_OWNED n) = true → s.b.Awake →
      (s.b.r (Reg.TMR_MODE n) = 0 → exec (.timerArm n) s = .next { s with b := s.b.w (Reg.TMR_DISC n) 0 }) ∧
      (s.b.r (Reg.TMR_MODE n) = 1 →
        exec (.timerArm n) s = .next { s with b := (s.b.w (Reg.TMR_DISC n) 0).w (Reg.TMR_RUNNING n) 1 }) ∧
      (s.b.r (Reg.TMR_MODE n) = 2 →
        exec (.timerArm n) s = .next { s with b := ((s.b.w (Reg.TMR_DISC n) 0).w (Reg.TMR_COUNT n) (s.b.r (Reg.TMR_START n))).w (Reg.TMR_RUNNING n) 1 }) ∧
      exec (.timerStop n) s = .next { s with b := s.b.w (Reg.TMR_RUNNING n) 0 } ∧
      exec (.countWrite n v) s = .next { s with b := s.b.w (Reg.TMR_COUNT n) v.toNat } ∧
      exec (.compareWrite n v) s = .next { s with b := (s.b.w (Reg.TMR_COMPARE n) v.toNat).w (Reg.TMR_CMP_ARMED n) 1 }) ∧
    (s.b.t (Reg.TMR_HOST_OWNED n) = false → ∀ (i : Instr) (off : Nat),
      (i = .timerArm n ∧ off = (Reg.TMR_ARM n).off) ∨ (i = .timerStop n ∧ off = (Reg.TMR_STOP n).off) ∨ (i = .countWrite n v ∧ off = (Reg.TMR_COUNT n).off) ∨
        (i = .compareWrite n v ∧ off = (Reg.TMR_COMPARE n).off) →
      Runs i s (fun t => t.mem = s.mem ∧ t.b.r Reg.GLB_STRUCT_REJECT_CNT = satAdd 32 (s.b.r Reg.GLB_STRUCT_REJECT_CNT) 1 ∧
        t.b.r Reg.GLB_STRUCT_REJECT_LAST = off ∧ Chip.OnlyRegs s.b t.b [Reg.GLB_STRUCT_REJECT_CNT, Reg.GLB_STRUCT_REJECT_LAST]))

/-- In the running TIME domain, with the instant before the next boundary: the count of a tick-clocked continuous channel with an armed compare and no interval reaches it, sets MATCH and disarms the compare; the count of a tick-clocked one-shot with no armed compare reaches END, sets ENDED and stops the channel. An edge on a pin TEV0 to TEV7 whose group is not reserved adds one to the count of a running continuous channel with no armed compare whose event input it is, and leaves the count of every channel with another clock or event input, network time, and all but the timer channels' registers; a source that is no such pin counts nothing (R153 to R156). (05_time_and_timers.md) -/
def Obligations.TimerChannelsCount : Prop :=
  ∀ (s : State) (n : Nat), n < 64 → s.b.timeRuns = true → s.b.t (Reg.TMR_RUNNING n) = true →
    (s.b.Quiet → s.b.tickClean = true → s.b.t (Reg.TMR_CMP_ARMED n) = true → s.b.r (Reg.TMR_CLK n) = 0 → s.b.r (Reg.TMR_MODE n) = 1 →
      s.b.r (Reg.TMR_INTERVAL n) = 0 → s.b.beforeBoundary (reachIn (s.b.r (Reg.TMR_COUNT n)) (s.b.r (Reg.TMR_COMPARE n))) = true →
      Runs (.compareMatch n) s (fun t => t.mem = s.mem ∧ t.b.t (Reg.TMR_MATCH n) = true ∧ t.b.r (Reg.TMR_CMP_ARMED n) = 0 ∧
        t.b.r (Reg.TMR_COUNT n) = (s.b.r (Reg.TMR_COUNT n) + reachIn (s.b.r (Reg.TMR_COUNT n)) (s.b.r (Reg.TMR_COMPARE n))) % 2 ^ 32)) ∧
    (s.b.Quiet → s.b.tickClean = true → s.b.t (Reg.TMR_CMP_ARMED n) = false → s.b.r (Reg.TMR_CLK n) = 0 → s.b.r (Reg.TMR_MODE n) = 2 →
      s.b.beforeBoundary (reachIn (s.b.r (Reg.TMR_COUNT n)) (s.b.r (Reg.TMR_END n))) = true →
      Runs (.oneshotEnd n) s (fun t => t.mem = s.mem ∧ t.b.t (Reg.TMR_ENDED n) = true ∧ t.b.r (Reg.TMR_RUNNING n) = 0 ∧
        t.b.r (Reg.TMR_COUNT n) = (s.b.r (Reg.TMR_COUNT n) + reachIn (s.b.r (Reg.TMR_COUNT n)) (s.b.r (Reg.TMR_END n))) % 2 ^ 32)) ∧
    (∀ src, (8 ≤ src ∨ s.b.tevParked src = true → exec (.eventInputEdge src) s = .next s) ∧
      (src < 8 → s.b.tevParked src = false → s.b.r (Reg.TMR_CLK n) = 2 → s.b.r (Reg.TMR_EVT_SRC n) = src → s.b.t (Reg.TMR_CMP_ARMED n) = false →
        s.b.r (Reg.TMR_MODE n) = 1 →
        Runs (.eventInputEdge src) s (fun t => t.mem = s.mem ∧ t.b.r (Reg.TMR_COUNT n) = (s.b.r (Reg.TMR_COUNT n) + 1) % 2 ^ 32 ∧
          t.b = { s.b with regs := t.b.regs, tmrAcc := t.b.tmrAcc } ∧
          (∀ m, m < 64 → ¬ (s.b.r (Reg.TMR_CLK m) = 2 ∧ s.b.r (Reg.TMR_EVT_SRC m) = src) → t.b.r (Reg.TMR_COUNT m) = s.b.r (Reg.TMR_COUNT m)) ∧
          ∀ f : Fld, f.key < 0x30000 * 32 ∨ 0x40000 * 32 ≤ f.key → t.b.r f = s.b.r f)))

/-- In the running TIME domain a rising level that outlasts the filter on the enabled capture source of a channel, its pin group not reserved, the selected edges taking in rising ones and the prescaler being due, stores the count of a channel with an empty capture that captures the count, and sets CAPTURED; where a capture stands, it is lost: OVR sets and CAPTURE stays. Where TMR answers reads, a read of a captured value answers it and clears CAPTURE and CAPTURED; of a channel that has captured nothing it answers CAPTURE and changes nothing else. Every other register but the Seam's and the notice block stays (R157, R158). (05_time_and_timers.md) -/
def Obligations.CapturesAreStoredAndRead : Prop :=
  ∀ (s : State) (n : Nat), n < 64 →
    (∀ samples, s.b.timeRuns = true → s.b.tevParked (s.b.r (Reg.TMR_CAP_SRC n)) = false → s.b.r (Reg.TMR_FILT_N n) ≤ samples →
      (kgetD s.b.cap n {}).lvl = false → s.b.t (Reg.TMR_CAP_EN n) = true → s.b.r (Reg.TMR_CAP_EDGE n) ≠ 1 →
      s.b.r (Reg.TMR_PRESC n) ≤ (kgetD s.b.cap n {}).edges →
      (s.b.t (Reg.TMR_CAPTURED n) = false → s.b.t (Reg.TMR_CAP_WHAT n) = false →
        Runs (.captureEdge n true samples) s (fun t => t.mem = s.mem ∧ t.b.r (Reg.TMR_CAPTURE n) = s.b.r (Reg.TMR_COUNT n) % 2 ^ 32 ∧
          t.b.r (Reg.TMR_CAPTURED n) = 1 ∧ (kgetD t.b.cap n {}).lvl = true ∧ (kgetD t.b.cap n {}).edges = 0 ∧
          Chip.OnlyRegs { s.b with cap := t.b.cap, tmrAcc := t.b.tmrAcc } t.b [Reg.TMR_CAPTURE n, Reg.TMR_CAPTURED n])) ∧
      (s.b.t (Reg.TMR_CAPTURED n) = true →
        Runs (.captureEdge n true samples) s (fun t => t.mem = s.mem ∧ t.b.t (Reg.TMR_OVR n) = true ∧ (kgetD t.b.cap n {}).edges = 0 ∧
          Chip.OnlyRegs { s.b with cap := t.b.cap, tmrAcc := t.b.tmrAcc } t.b [Reg.TMR_OVR n]))) ∧
    (∀ rq, s.b.readable 3 = true →
      (s.b.t (Reg.TMR_CAPTURED n) = true → Runs (.captureRead rq n) s (fun t => t.mem = s.mem ∧
        t.b.out = .data rq (leBytes (s.b.r (Reg.TMR_CAPTURE n)) 4) :: s.b.out ∧ t.b.r (Reg.TMR_CAPTURE n) = 0 ∧ t.b.r (Reg.TMR_CAPTURED n) = 0 ∧
        Chip.OnlyRegs s.b t.b [Reg.TMR_CAPTURE n, Reg.TMR_CAPTURED n])) ∧
      (s.b.t (Reg.TMR_CAPTURED n) = false → exec (.captureRead rq n) s = .next { s with b := s.b.emit (.data rq (leBytes (s.b.r (Reg.TMR_CAPTURE n)) 4)) }))

/-- In LOCK a lock moves a group to SYNTH and, where the power state asks for RX, on to RX; a lock timeout, with no frame planned, counts in LOCK_FAIL_CNT and starts a calibration with trigger 3. In CAL, where the power state asks for RX, a completed calibration stores its temperature, stitch, codes and status OK, makes the stored calibration valid, counts in CAL_CNT, clears CAL_FAILED and goes on to RX; with no frame planned, a first failed run counts in CAL_CNT and stays in CAL, its failure kept, and a second one counts, leaves the group in STANDBY with CAL_FAILED set and its stored calibration invalid. Apart from the lock timeout, whose calibration ends receptions, nothing else changes but what the group records of itself, the registers named (with the temperature register), the notice block, the Seam's sending and the output. In any other state of the group each of the four changes nothing (R169, R170, R179, R181). (06_rf_front_end.md) -/
def Obligations.RadioGroupsMove : Prop :=
  ∀ (s : State) (g : Nat), g < 4 →
    (s.b.rfs g = RFS.LOCK →
      (s.b.rfTarget g = RFS.RX → Runs (.lockDetected g) s (fun t => t.mem = s.mem ∧ t.b.rfs g = RFS.RX ∧
        Chip.OnlyRegs { s.b with rf := t.b.rf } t.b [Reg.RFC_STATE g])) ∧
      (s.b.rfTarget g = RFS.SYNTH → Runs (.lockDetected g) s (fun t => t.mem = s.mem ∧ t.b.rfs g = RFS.SYNTH ∧
        Chip.OnlyRegs { s.b with rf := t.b.rf } t.b [Reg.RFC_STATE g])) ∧
      (s.b.tx.frames = [] → Runs (.lockTimeout g) s (fun t => t.mem = s.mem ∧ t.b.rfs g = RFS.CAL ∧ (t.b.grp g).trigger = 3 ∧
        t.b.r (Reg.RFC_LOCK_FAIL_CNT g) = satAdd (Reg.RFC_LOCK_FAIL_CNT g).w (s.b.r (Reg.RFC_LOCK_FAIL_CNT g)) 1))) ∧
    (s.b.rfs g ≠ RFS.LOCK → exec (.lockDetected g) s = .next s ∧ exec (.lockTimeout g) s = .next s) ∧
    (s.b.rfs g = RFS.CAL →
      (∀ m : CalMeas, s.b.rfTarget g = RFS.RX → Runs (.calComplete g m) s (fun t => t.mem = s.mem ∧ t.b.rfs g = RFS.RX ∧
        t.b.r (Reg.RFC_CAL_FAILED g) = 0 ∧ (t.b.grp g).valid = true ∧
        (t.b.grp g).cal = some { tj := m.tj, stitch := s.b.stitch32, vco := m.vco, gain := m.gain, frac := m.frac, dc := m.dc, status := OK } ∧
        t.b.r (Reg.RFC_CAL_CNT g) = satAdd (Reg.RFC_CAL_CNT g).w (s.b.r (Reg.RFC_CAL_CNT g)) 1 ∧
        Chip.OnlyRegs { s.b with rf := t.b.rf } t.b [Reg.RFC_STATE g, Reg.RFC_CAL_CNT g, Reg.RFC_TJ g, Reg.RFC_CAL_FAILED g])) ∧
      (∀ tj : Int, s.b.tx.frames = [] → (s.b.grp g).failed1 = false →
        Runs (.calFail g tj) s (fun t => t.mem = s.mem ∧ t.b.rfs g = RFS.CAL ∧ (t.b.grp g).failed1 = true ∧
          t.b.r (Reg.RFC_CAL_CNT g) = satAdd (Reg.RFC_CAL_CNT g).w (s.b.r (Reg.RFC_CAL_CNT g)) 1 ∧
          Chip.OnlyRegs { s.b with rf := t.b.rf } t.b [Reg.RFC_CAL_CNT g])) ∧
      (∀ tj : Int, s.b.tx.frames = [] → (s.b.grp g).failed1 = true →
        Runs (.calFail g tj) s (fun t => t.mem = s.mem ∧ t.b.rfs g = RFS.STANDBY ∧ t.b.r (Reg.RFC_CAL_FAILED g) = 1 ∧ (t.b.grp g).valid = false ∧
          t.b.r (Reg.RFC_CAL_CNT g) = satAdd (Reg.RFC_CAL_CNT g).w (s.b.r (Reg.RFC_CAL_CNT g)) 1 ∧
          Chip.OnlyRegs { s.b with rf := t.b.rf, freeCtr := s.b.freeCtr + 2 } t.b [Reg.RFC_STATE g, Reg.RFC_CAL_CNT g, Reg.RFC_CAL_FAILED g]))) ∧
    (s.b.rfs g ≠ RFS.CAL → (∀ m, exec (.calComplete g m) s = .next s) ∧ ∀ tj, exec (.calFail g tj) s = .next s)

/-- Where RFC takes a command in READY: CAL of a nonempty set of present groups that are not in CAL makes a calibration pending in each and answers the set; CAL_CANCEL of groups with a calibration pending by command alone clears CAL_PENDING, CAL_FORCED and CAL_WAIT of each and answers the set; READ_CAL answers the temperature, stitch, codes and status of the last calibration and does nothing else (R193). (06_rf_front_end.md) -/
def Obligations.CalibrationCommands : Prop :=
  ∀ (s : State) (irq : Bool), s.b.Awake → s.b.takes cbRFC = true → s.b.ready = true →
    ((∃ g, g < 4 ∧ bit (s.b.arg cbRFC 0) g = true) →
      ((∀ g, g < 4 → bit (s.b.arg cbRFC 0) g = true → s.b.groupPresent g = true ∧ s.b.rfs g ≠ RFS.CAL) →
        Runs (.cal irq) s (fun t => t.mem = s.mem ∧ t.b.Completed cbRFC OK [s.b.arg cbRFC 0 % 16] ∧
          ∀ g, g < 4 → bit (s.b.arg cbRFC 0) g = true → t.b.t (Reg.RFC_CAL_PENDING g) = true ∧ (t.b.grp g).pendCmd = true)) ∧
      ((∀ g, g < 4 → bit (s.b.arg cbRFC 0) g = true → s.b.t (Reg.RFC_CAL_PENDING g) = true ∧ (s.b.grp g).pendTemp = false ∧ (s.b.grp g).pendCmd = true) →
        Runs (.calCancel irq) s (fun t => t.mem = s.mem ∧ t.b.Completed cbRFC OK [s.b.arg cbRFC 0 % 16] ∧
          ∀ g, g < 4 → bit (s.b.arg cbRFC 0) g = true → t.b.r (Reg.RFC_CAL_PENDING g) = 0 ∧ t.b.r (Reg.RFC_CAL_FORCED g) = 0 ∧
            t.b.r (Reg.RFC_CAL_WAIT g) = 0 ∧ (t.b.grp g).pendCmd = false))) ∧
    (∀ c : CalRes, s.b.arg cbRFC 0 ≤ 3 → (s.b.grp (s.b.arg cbRFC 0)).cal = some c →
      Runs (.readCal irq) s (fun t => t.mem = s.mem ∧ Chip.OnlyBlock s.b t.b cbRFC ∧
        t.b.Completed cbRFC OK [ofS c.tj 32, c.stitch, c.vco, c.gain, c.status]))

/-- For a planned frame that is not on air, on a chain of an enabled set, the request sets COEX_REQ, and COEX_PRI where the set's PRI_CLASS has the frame's class or COEX_PRI was set; the frame notes that it has asked, and nothing else changes. For a frame on air, of a set that is not enabled, or that is not there, nothing changes. A grant withdrawn clears GRANT; with the set enabled, a carrier of it on air and ABORT_ON_LOSS clear, GRANT_LOST_CNT also rises by one; nothing else changes, and with the set not enabled or no carrier of it on air nothing but GRANT changes (R184, R185, R187). (06_rf_front_end.md) -/
def Obligations.CoexistencePins : Prop :=
  ∀ s : State,
    (∀ (id : Nat) (f : TxF), s.b.tf id = some f → f.phase ≠ .air → s.b.t (Reg.RFC_CX_EN (coexSet f.chain)) = true →
      exec (.coexReqAssert id) s = .next { s with b := Chip.txPut ((s.b.w (Reg.RFC_CX_REQ (coexSet f.chain)) 1).w (Reg.RFC_CX_PRI (coexSet f.chain))
        (b2n (s.b.t (Reg.RFC_CX_PRI (coexSet f.chain)) || bit (s.b.r (Reg.RFC_CX_PRI_CLASS (coexSet f.chain))) f.cls))) id { f with req := true } }) ∧
    (∀ id, (∀ f : TxF, s.b.tf id = some f → f.phase = .air ∨ s.b.t (Reg.RFC_CX_EN (coexSet f.chain)) = false) →
      exec (.coexReqAssert id) s = .next s) ∧
    (∀ set air, air = s.b.tx.frames.any (fun e => coexSet e.2.chain == set && e.2.phase == TxPhase.air) →
      (s.b.t (Reg.RFC_CX_EN set) = true → s.b.t (Reg.RFC_CX_ABORT_ON_LOSS set) = false → air = true →
        exec (.coexGrantLost set) s = .next { s with b := (s.b.w (Reg.RFC_CX_GRANT set) 0).inc (Reg.RFC_CX_GRANT_LOST_CNT set) }) ∧
      (s.b.t (Reg.RFC_CX_EN set) = false ∨ air = false → exec (.coexGrantLost set) s = .next { s with b := s.b.w (Reg.RFC_CX_GRANT set) 0 }))

/-- In READY out of LIMP, a keyed frame at its take point: where every check of R244 passes and the group is in SYNTH, RX or TX, it is taken, with the lowest of its power bounds in steps of 0.5 dB, the shift of R251 or, for the payload of a train, its own, and its airtime is added to the chain's present bucket. A frame without item whose first failing check is its channel, header, mode or MCS is gone: of an acknowledgement ACK_DROPPED of its chain rises by one, of a beacon MODE_REJ. At its key point a planned beacon that needs no seal and fits its cell is keyed, with its octets and the device's sequence number, which moves on by one modulo 256 (R240, R244, R248, R251, R334). (08_transmit_path.md) -/
def Obligations.FramesAreTaken : Prop :=
  ∀ (s : State) (id : Nat) (ok : Bool) (f : TxF), s.b.Quiet → s.b.working = true → s.b.tf id = some f →
    (f.phase = .keyed → s.b.headCheck id f = none → 3 ≤ s.b.rfs f.chain → s.b.rfs f.chain ≤ 5 →
      Runs (.takePoint id ok) s (fun t => t.mem = s.mem ∧ t.b.tf id = some { f with
        phase := .taken, power := s.b.carrierPower f.chain f.power, bucket := s.b.tx.bucket, shift := if f.keepsShift then f.shift else (s.b.precomp f).1 } ∧
        kgetD t.b.tx.duty (dutyKey f.chain s.b.tx.bucket) 0 = kgetD s.b.tx.duty (dutyKey f.chain s.b.tx.bucket) 0 + f.airUs)) ∧
    (f.phase = .keyed → f.item = none → s.b.headCheck id f = some BAD_ARG →
      (f.src = .ack → Runs (.takePoint id ok) s (fun t => t.mem = s.mem ∧ t.b.tf id = none ∧
        t.b.r (Reg.TXP_ACK_DROPPED f.chain) = satAdd (Reg.TXP_ACK_DROPPED f.chain).w (s.b.r (Reg.TXP_ACK_DROPPED f.chain)) 1)) ∧
      (∀ col, f.src = .beacon col ∨ f.src = .pairBeacon → Runs (.takePoint id ok) s (fun t => t.mem = s.mem ∧ t.b.tf id = none ∧
        t.b.r (Reg.TXP_MODE_REJ f.chain) = satAdd (Reg.TXP_MODE_REJ f.chain).w (s.b.r (Reg.TXP_MODE_REJ f.chain)) 1))) ∧
    (∀ col, f.phase = .planned → f.src = .beacon col → s.b.sealKey .beacon = (s.b, .inr none) →
      (s.b.headOf f (s.b.beaconFrame (laneBand f.lane) f.t false) .beacon).endNs ≤
        s.b.lastEnd (s.b.headOf f (s.b.beaconFrame (laneBand f.lane) f.t false) .beacon) →
      Runs (.keyPoint id ok) s (fun t => t.mem = s.mem ∧ t.b.mac.seq = (s.b.mac.seq + 1) % 256 ∧ ∃ g : TxF, t.b.tf id = some g ∧
        g.phase = .keyed ∧ g.seq = s.b.mac.seq ∧ g.psdu = fillFrame (s.b.beaconFrame (laneBand f.lane) f.t false) s.b.mac.seq none))

/-- A group in RX with a frame taken starts to leave RX, and else nothing changes; with no reception under way the pins of a present group that is not muted then drive RX in EARLY_MASK and TX outside. At the setup point of a taken frame on a group in SYNTH, with its set not enabled or the grant present, the group goes to TX and the frame is set up; in TX the frame joins; with an enabled set and no grant a frame without item that is no train and no call fails, DENIED_CNT of the set counting, the group staying. The carrier of a set-up acknowledgement that was not held starts: it is on air, secured under its key where it has one, sent out and counted in MAC's ACK_SENT, and TC_LAST records the correction it carries. The end of an acknowledgement on air without the pending bit counts it and its airtime; as the last frame of a group in TX it takes the group back to RX where the power state asks for it. FEM_EARLY in TX gives the TX pins, elsewhere nothing; the tail release ends the hold (R165 to R167, R169, R171, R186, R245, R256). (06_rf_front_end.md, 08_transmit_path.md) -/
def Obligations.GroupsTurnToTransmit : Prop :=
  ∀ (s : State) (id g : Nat) (f : TxF), g < 4 →
    (s.b.rfs g = RFS.RX → s.b.tf id = some f → f.chain = g → f.phase = .taken →
      Runs (.rxToTx g) s (fun t => t.mem = s.mem ∧ (t.b.grp g).leaving = true ∧ t.b.rfs g = RFS.RX ∧
        (s.b.rx.ctxs = [] → s.b.groupPresent g = true → s.b.t (Reg.RFC_MUTED g) = false →
          t.b.femPins g = orN (andN (s.b.r (Reg.RFC_FEM_EARLY_MASK g)) (bits (s.b.r (Reg.RFC_FEM_FEM_MAP g)) 16 4))
            (andNot (bits (s.b.r (Reg.RFC_FEM_FEM_MAP g)) 20 4) (s.b.r (Reg.RFC_FEM_EARLY_MASK g)))))) ∧
    (s.b.rfs g ≠ RFS.RX ∨ (∀ e ∈ s.b.chainTx g, e.2.phase ≠ .taken) → exec (.rxToTx g) s = .next s) ∧
    (∀ granted, s.b.tf id = some f → f.chain = g → f.phase = .taken →
      (s.b.rfs g = RFS.SYNTH → (s.b.t (Reg.RFC_CX_EN (coexSet g)) = true → granted = true) →
        Runs (.transmitSetupPoint id granted) s (fun t => t.mem = s.mem ∧ t.b.rfs g = RFS.TX ∧ (t.b.grp g).txFrom = RFS.SYNTH ∧
          t.b.tf id = some { f with phase := .setup } ∧
          Chip.OnlyRegs { s.b with rf := t.b.rf, tx := t.b.tx } t.b [Reg.RFC_STATE g, Reg.RFC_CX_GRANT (coexSet g), Reg.PWR_LATE_WAKE])) ∧
      (s.b.rfs g = RFS.SYNTH → s.b.t (Reg.RFC_CX_EN (coexSet g)) = true → granted = false → f.item = none → f.src ≠ .call → (∀ c, f.src ≠ .wake c) →
        Runs (.transmitSetupPoint id granted) s (fun t => t.mem = s.mem ∧ t.b.rfs g = RFS.SYNTH ∧ t.b.tf id = none ∧
          t.b.r (Reg.RFC_CX_DENIED_CNT (coexSet g)) = satAdd (Reg.RFC_CX_DENIED_CNT (coexSet g)).w (s.b.r (Reg.RFC_CX_DENIED_CNT (coexSet g))) 1)) ∧
      (s.b.rfs g = RFS.TX → Runs (.transmitSetupPoint id granted) s (fun t => t.mem = s.mem ∧ t.b.tf id = some { f with phase := .setup } ∧
        Chip.OnlyRegs { s.b with tx := t.b.tx } t.b [Reg.PWR_LATE_WAKE]))) ∧
    (s.b.rfs g = RFS.TX → Runs (.femEarly g) s (fun t => t.mem = s.mem ∧ (t.b.grp g).femEarly = true ∧ Chip.OnlyRegs { s.b with rf := t.b.rf } t.b [] ∧
      (s.b.groupPresent g = true → s.b.t (Reg.RFC_MUTED g) = false → t.b.femPins g = bits (s.b.r (Reg.RFC_FEM_FEM_MAP g)) 20 4))) ∧
    (s.b.rfs g ≠ RFS.TX → exec (.femEarly g) s = .next s) ∧
    Runs (.femTailRelease g) s (fun t => t.mem = s.mem ∧ (t.b.grp g).femHold = false ∧ Chip.OnlyRegs { s.b with rf := t.b.rf } t.b []) ∧
    (∀ a : TxF, s.b.tf id = some f → f.phase = .setup → f.src = .ack → f.held = false → f.reach ≠ 1 →
      a = { f with
              phase := .air
              psdu := (match f.sealed with | some x => ccmSeal (keyOctets x.key) Config.deviceEui f.psdu | none => f.psdu)
              ackUs := s.b.ackWaitUs (laneBand f.lane) f.modeBit f.mcs f.fec f.preamble } →
      Runs (.carrierStart id) s (fun t => t.mem = s.mem ∧ t.b.tf id = some a ∧ t.b.out = .air a :: s.b.out ∧
        t.b.r Reg.MAC_ACK_SENT = satAdd Reg.MAC_ACK_SENT.w (s.b.r Reg.MAC_ACK_SENT) 1 ∧
        (f.tc = none → Chip.OnlyRegs { s.b with tx := t.b.tx } t.b (Reg.MAC_ACK_SENT :: (List.range 4).map Reg.TXP_ON_AIR)) ∧
        (∀ x : Int, f.tc = some x → t.b.nds f.node Cx.TC_LAST = clampI (-2047) 2047 x ∧
          Chip.OnlyRegs { s.b with tx := t.b.tx, mac := t.b.mac } t.b (Reg.MAC_ACK_SENT :: Reg.MAC_TC_CLAMP :: (List.range 4).map Reg.TXP_ON_AIR)))) ∧
    (s.b.tf id = some f → f.phase = .air → f.src = .ack → f.pendBit = false → f.chain = g →
      Runs (.transmissionEnd id) s (fun t => t.mem = s.mem ∧ t.b.tf id = none ∧
        t.b.r (Reg.TXP_ACKS_OK g) = satAdd (Reg.TXP_ACKS_OK g).w (s.b.r (Reg.TXP_ACKS_OK g)) 1 ∧
        t.b.r (Reg.TXP_AIRTIME_US g) = satAdd (Reg.TXP_AIRTIME_US g).w (s.b.r (Reg.TXP_AIRTIME_US g)) f.airUs ∧
        (s.b.rfs g = RFS.TX → s.b.tx.frames = [(id, f)] → s.b.rfTarget g = RFS.RX → t.b.rfs g = RFS.RX)))

/-- On a chain with no carrier on air the written CARRIERS, within the governor's clamp, is in force and CARRIER_CAP shows its cap; with one on air nothing changes. A bucket roll moves to the next bucket and clears it for every chain, the frames staying. A tone whose duration has passed is off; a tone that still lasts stays, and with none nothing changes. Of the registers only CARRIER_CAP, DUTY_USED and TONE_ON change, and of the rest only the state of TXP (R239, R241, R248, R257). (08_transmit_path.md) -/
def Obligations.CarriersAndDuty : Prop :=
  ∀ (s : State) (c : Nat), c < 4 →
    (s.b.airNow c = 0 → Runs (.carriersApply c) s (fun t => t.mem = s.mem ∧ t.b.carriers c = min (s.b.r (Reg.TXP_CARRIERS c)) s.b.clampTo ∧
      t.b.r (Reg.TXP_CARRIER_CAP c) = carrierCap (min (s.b.r (Reg.TXP_CARRIERS c)) s.b.clampTo) ∧
      Chip.OnlyRegs { s.b with tx := { s.b.tx with carriers := t.b.tx.carriers } } t.b [Reg.TXP_CARRIER_CAP c])) ∧
    (s.b.airNow c ≠ 0 → exec (.carriersApply c) s = .next s) ∧
    Runs .dutyBucketRoll s (fun t => t.mem = s.mem ∧ kgetD t.b.tx.duty (dutyKey c (s.b.tx.bucket + 1)) 0 = 0 ∧
      Chip.OnlyRegs { s.b with tx := { s.b.tx with bucket := s.b.tx.bucket + 1, duty := t.b.tx.duty } } t.b ((List.range 4).map Reg.TXP_DUTY_USED)) ∧
    (kget s.b.tx.tones c = none → exec (.toneEnd c) s = .next s) ∧
    (∀ tn : Tone, kget s.b.tx.tones c = some tn →
      (tn.start + tn.dur * 1000 ≤ s.b.nowNs → Runs (.toneEnd c) s (fun t => t.mem = s.mem ∧ kget t.b.tx.tones c = none ∧ t.b.r (Reg.TXP_TONE_ON c) = 0 ∧
        Chip.OnlyRegs { s.b with tx := { s.b.tx with tones := kdel s.b.tx.tones c } } t.b [Reg.TXP_TONE_ON c])) ∧
      (s.b.nowNs < tn.start + tn.dur * 1000 → exec (.toneEnd c) s = .next s))

/-- Where TXP takes a command, in READY and in a power state that the command does not end: TONE on a chain that exists, in test mode, with an offset in range, a legal duration and no tone starts one and answers the stitch; TONE_STOP ends a tone and answers the time it has lasted in µs, at most its duration; WAKE_CALL on a legal channel of a chain that can send, with a legal pattern length and number of repeats and a start at least 160 µs ahead, at ARG7 or, for 0, the second stitch from now, plans the call with its pattern, preamble, rate and airtime and leaves the block BUSY. But for that, the command block, INT_PEND, the interrupt state and the output nothing changes. The end of a call on air completes WAKE_CALL OK with its start stitch and airtime and counts both; where no call is on air WAKE_CALL_END changes nothing (R255, R257). (08_transmit_path.md) -/
def Obligations.TonesAndWakeCalls : Prop :=
  ∀ (s : State) (irq : Bool),
    (s.b.Awake → s.b.takes cbTXP = true → s.b.ready = true →
      (∀ c, c = s.b.arg cbTXP 0 → c ≤ 3 → s.b.chainExists c = true → (toS (s.b.arg cbTXP 1) 32).natAbs ≤ chainRange c → s.b.arg cbTXP 3 ≠ 0 →
        s.b.arg cbTXP 3 ≤ 10000000 → s.b.t (Reg.TXP_TEST c) = true → s.b.t (Reg.TXP_TONE_ON c) = false →
        Runs (.tone irq) s (fun t => t.mem = s.mem ∧ t.b.r (Reg.TXP_TONE_ON c) = 1 ∧ t.b.Completed cbTXP OK [s.b.stitch32] ∧
          kget t.b.tx.tones c = some { start := s.b.nowNs, dur := s.b.arg cbTXP 3, offset := toS (s.b.arg cbTXP 1) 32, power := toS (s.b.arg cbTXP 2) 32 } ∧
          Chip.OnlyBlock (Chip.w { s.b with tx := { s.b.tx with tones := t.b.tx.tones } } (Reg.TXP_TONE_ON c) 1) t.b cbTXP)) ∧
      (∀ (c : Nat) (tn : Tone), c = s.b.arg cbTXP 0 → c ≤ 3 → kget s.b.tx.tones c = some tn →
        Runs (.toneStop irq) s (fun t => t.mem = s.mem ∧ kget t.b.tx.tones c = none ∧ t.b.r (Reg.TXP_TONE_ON c) = 0 ∧
          t.b.Completed cbTXP OK [min tn.dur ((s.b.nowNs - tn.start) / 1000)] ∧
          Chip.OnlyBlock (Chip.w { s.b with tx := { s.b.tx with tones := t.b.tx.tones } } (Reg.TXP_TONE_ON c) 0) t.b cbTXP)) ∧
      (∀ lane start ahead at_ : Nat, lane = s.b.arg cbTXP 0 → lane ≤ 6 → s.b.chanOk lane (s.b.arg cbTXP 1) = true → s.b.rxOnly lane (s.b.arg cbTXP 1) = false →
        1 ≤ s.b.arg cbTXP 5 → s.b.arg cbTXP 5 ≤ 64 → 8 ≤ s.b.arg cbTXP 2 → s.b.arg cbTXP 2 ≤ 64 → s.b.canSend (laneGroup lane) = true →
        start = s.b.arg cbTXP 7 → ahead = (start + (2 ^ 32 - s.b.stitch32)) % 2 ^ 32 →
        at_ = (if start = 0 then s.b.tim.stitch + (if s.b.nowNs % 250000 = 0 then 2 else 3)
          else if ahead < 2 ^ 31 then s.b.tim.stitch + ahead else s.b.tim.stitch + ahead - 2 ^ 32) → s.b.nowNs + 160000 ≤ at_ * 250000 →
        Runs (.wakeCall irq) s (fun t => t.mem = s.mem ∧ t.b.r (cbBUSY cbTXP) = 1 ∧ t.b.tx.call = some s.b.tx.nextId ∧
          Chip.OnlyBlock { s.b with tx := t.b.tx } t.b cbTXP ∧
          ∃ f : TxF, t.b.tf s.b.tx.nextId = some f ∧ f.src = .call ∧ f.lane = lane ∧ f.chan = s.b.arg cbTXP 1 ∧ f.phase = .keyed ∧ f.t = at_ * 250000 ∧
            f.power = toS (s.b.arg cbTXP 6) 32 ∧ f.patLen = s.b.arg cbTXP 2 ∧ f.pattern = (s.b.arg cbTXP 3 + s.b.arg cbTXP 4 * 2 ^ 32) % 2 ^ s.b.arg cbTXP 2 ∧
            f.pre = s.b.r (Reg.TXP_WAKE_PRE (laneGroup lane)) ∧ f.rate = s.b.r (Reg.TXP_WAKE_RATE (laneGroup lane)) ∧ f.reps = s.b.arg cbTXP 5 ∧
            f.airUs = s.b.callUs (laneGroup lane) (s.b.arg cbTXP 2) (s.b.arg cbTXP 5)))) ∧
    (∀ (id : Nat) (f : TxF), s.b.tx.call = some id → s.b.tf id = some f → f.phase = .air →
      Runs .wakeCallEnd s (fun t => t.mem = s.mem ∧ t.b.tx.call = none ∧ t.b.tf id = none ∧ t.b.Completed cbTXP OK [f.t / 250000, f.airUs] ∧
        t.b.r (Reg.TXP_FRAMES_OK f.chain) = satAdd (Reg.TXP_FRAMES_OK f.chain).w (s.b.r (Reg.TXP_FRAMES_OK f.chain)) 1 ∧
        t.b.r (Reg.TXP_AIRTIME_US f.chain) = satAdd (Reg.TXP_AIRTIME_US f.chain).w (s.b.r (Reg.TXP_AIRTIME_US f.chain)) f.airUs)) ∧
    (s.b.tx.call = none → exec .wakeCallEnd s = .next s) ∧
    (∀ id, s.b.tx.call = some id → (∀ f, s.b.tf id = some f → f.phase ≠ .air) → exec .wakeCallEnd s = .next s)

/-- A preamble that one lane has found, that its detector may declare and that meets no reception in flight raises DET_CNT of its lane. Where its band's pool or FLOAT has a free context, and it is scheduled or more than MIN_FREE_SCHED contexts are free, the first of them holds the detection. Where it is not scheduled, and none is free or no more than MIN_FREE_SCHED, NO_DEMOD rises and no context changes. Of the registers only those counts and the numbers of active receptions change, of the rest only the state of RXP, the counts of the stitch's notices, the notice block, the Seam's sending and the output. A preamble that the detector may not declare changes nothing (R203 to R205, R214, R215). That the lowest number is drawn is the model's choice (log entry 12). (07_receive_path.md) -/
def Obligations.DetectionsTakeContexts : Prop :=
  ∀ (s : State) (p : Preamble), p.other = none →
    (s.b.detects p = false → exec (.preambleDetection p) s = .next s) ∧
    (p.overlaps = false → p.lane < 7 → s.b.detects p = true →
      (∀ (i : Nat) (fl : Bool) (l : List (Nat × Bool)), s.b.freeFor (laneBand p.lane) = (i, fl) :: l →
        (s.b.detClass p.lane p.chan p.sfdNs = 0 ∨ s.b.minFree (laneBand p.lane) < l.length + 1) →
        Runs (.preambleDetection p) s (fun t => t.mem = s.mem ∧ kget t.b.rx.ctxs i = some (s.b.newCtx p fl) ∧
          t.b.r (Reg.RXP_DET_CNT p.lane) = satAdd 32 (s.b.r (Reg.RXP_DET_CNT p.lane)) 1 ∧
          Chip.OnlyRegs { s.b with rx := t.b.rx } t.b (Reg.RXP_DET_CNT p.lane :: activeFlds))) ∧
      ((s.b.freeFor (laneBand p.lane)).length ≤ s.b.minFree (laneBand p.lane) → s.b.detClass p.lane p.chan p.sfdNs ≠ 0 →
        Runs (.preambleDetection p) s (fun t => t.mem = s.mem ∧ t.b.rx.ctxs = s.b.rx.ctxs ∧
          t.b.r (Reg.RXP_DET_CNT p.lane) = satAdd 32 (s.b.r (Reg.RXP_DET_CNT p.lane)) 1 ∧
          t.b.r (Reg.RXP_NO_DEMOD p.lane) = satAdd 32 (s.b.r (Reg.RXP_NO_DEMOD p.lane)) 1 ∧
          Chip.OnlyRegs { s.b with rx := t.b.rx, acc := t.b.acc } t.b [Reg.RXP_DET_CNT p.lane, Reg.RXP_NO_DEMOD p.lane])))

/-- On a receiving lane, a peak above the headroom with the gain above GAIN_MIN decides one step down, and with the gain at GAIN_MIN or below counts in GAIN_CLAMP. On one with no reception, a peak more than 12 dB below the headroom with the gain below GAIN_MAX decides one step up, and with the gain at GAIN_MAX or above counts in GAIN_CLAMP and changes nothing else. Other peaks, and any on a lane that does not receive, change nothing. A decided step that takes effect on a lane with no raw-sample window shows in GAIN and is counted in GAIN_STEP, and none waits on the lane any more; where none waits nothing changes. Of the registers only those named change, of the rest only the state of RXP (R208 to R210). (07_receive_path.md) -/
def Obligations.LaneGainMoves : Prop :=
  ∀ (s : State) (l : Nat), l < 7 →
    (∀ peak head : Int, head = -4 * (s.b.r (Reg.RXP_HEADROOM l) : Int) →
      (s.b.laneOn l = true → head < peak → s.b.r (Reg.RXP_GAIN_MIN l) < s.b.gainTo l →
        exec (.gainStepDown l peak) s = .next { s with b := { s.b with rx := { s.b.rx with marks := kput s.b.rx.marks l (s.b.gainTo l - 1) } } }) ∧
      (s.b.laneOn l = true → head < peak → s.b.gainTo l ≤ s.b.r (Reg.RXP_GAIN_MIN l) →
        Runs (.gainStepDown l peak) s (fun t => t.mem = s.mem ∧ t.b.r (Reg.RXP_GAIN_CLAMP l) = satAdd 32 (s.b.r (Reg.RXP_GAIN_CLAMP l)) 1 ∧
          t.b.rx.marks = s.b.rx.marks ∧ Chip.OnlyRegs { s.b with rx := t.b.rx } t.b [Reg.RXP_GAIN_CLAMP l])) ∧
      (s.b.laneOn l = false ∨ peak ≤ head → exec (.gainStepDown l peak) s = .next s)) ∧
    (∀ peak head : Int, head = -4 * ((s.b.r (Reg.RXP_HEADROOM l) : Int) + 12) →
      (s.b.laneOn l = true → s.b.r (Reg.RXP_ACTIVE l) = 0 → peak < head → s.b.gainTo l < s.b.r (Reg.RXP_GAIN_MAX l) →
        exec (.gainStepUp l peak) s = .next { s with b := { s.b with rx := { s.b.rx with marks := kput s.b.rx.marks l (s.b.gainTo l + 1) } } }) ∧
      (s.b.laneOn l = true → s.b.r (Reg.RXP_ACTIVE l) = 0 → peak < head → s.b.r (Reg.RXP_GAIN_MAX l) ≤ s.b.gainTo l →
        exec (.gainStepUp l peak) s = .next { s with b := s.b.inc (Reg.RXP_GAIN_CLAMP l) }) ∧
      (s.b.laneOn l = false ∨ s.b.r (Reg.RXP_ACTIVE l) ≠ 0 ∨ head ≤ peak → exec (.gainStepUp l peak) s = .next s)) ∧
    (kget s.b.rx.marks l = none → exec (.gainStepEffect l) s = .next s) ∧
    (∀ g, kget s.b.rx.marks l = some g → g < 12 → (∀ e ∈ s.b.rawCap, e.lane ≠ l) →
      Runs (.gainStepEffect l) s (fun t => t.mem = s.mem ∧ t.b.r (Reg.RXP_GAIN l) = g ∧ kget t.b.rx.marks l = none ∧
        t.b.r (Reg.RXP_GAIN_STEP l) = satAdd 32 (s.b.r (Reg.RXP_GAIN_STEP l)) (dist g (s.b.r (Reg.RXP_GAIN l))) ∧
        Chip.OnlyRegs { s.b with rx := t.b.rx } t.b [Reg.RXP_GAIN l, Reg.RXP_GAIN_STEP l]))

/-- For a reception in flight with no item, judged under the settings that stood when its frame started (the model takes those of log entry 92, the rule naming no list): a PHR that passes every check, with the lane's queue an AIR_RX queue that has room, opens an item of the PSDU length and 64 octets, and the context goes on with it, with the length, the MCS and the level of the PHR; one that fails a check frees the context and raises that check's counter of the lane. A PHR for a context that is free, or whose item is open, changes nothing (R25, R223, R224, R229). (07_receive_path.md) -/
def Obligations.PhrIsJudged : Prop :=
  ∀ (s : State) (p : Phr),
    (kget s.b.rx.ctxs p.ctx = none → exec (.phrDecoded p) s = .next s) ∧
    (∀ x : Ctx, kget s.b.rx.ctxs p.ctx = some x → x.item ≠ none → exec (.phrDecoded p) s = .next s) ∧
    (∀ (x : Ctx) (c : Chip), kget s.b.rx.ctxs p.ctx = some x → x.item = none → x.lane < 7 → c = s.b.setAll (rxSettings x.lane) x.set →
      (∀ f, c.phrCheck x p = some f →
        Runs (.phrDecoded p) s (fun t => t.mem = s.mem ∧ kget t.b.rx.ctxs p.ctx = none ∧
          t.b.r (f x.lane) = satAdd 32 (s.b.r (f x.lane)) 1)) ∧
      (∀ (q : Nat) (o : Opened), c.phrCheck x p = none → q = c.r (Reg.RXP_RX_QUEUE x.lane) → s.b.pwr.restoring = false → (s.b.q q).consumer = CONS_AIR →
        o = c.openItem q (p.len + 64) (rxPrio x.cls) noNode false → o.code = OK →
        Runs (.phrDecoded p) s (fun t => t.mem = s.mem ∧ ∃ y : Ctx, kget t.b.rx.ctxs p.ctx = some y ∧ y.item = some (q, o.id) ∧ y.len = p.len ∧
          y.mcs = p.mcs ∧ y.rssi = p.rssi ∧ y.lane = x.lane ∧ y.chan = x.chan)))

/-- A reception without an item that loses synchronisation is freed and counted SYNC_LOST. A SINR estimate below the threshold, of a cancelled reception without an item, ends it with CAPTURE_LOST as the fourth in a row; an earlier one is only counted, and one at or above the threshold starts the count again; every estimate is kept where it is the lowest. Of the registers only the counter and the numbers of active receptions change, of the rest only the state of RXP; estimates of other receptions, and events of free contexts, change nothing. A reception with an item whose FCS fails, or whose code the band has not selected, is freed and counted FCS_ERR. One with a good FCS, of a reserved frame type, is freed and counted FRAME_OK, and then FTYPE_ERR by MAC (R220, R225, R229 to R231). (07_receive_path.md) -/
def Obligations.ReceptionsEnd : Prop :=
  ∀ (s : State) (i : Nat),
    (kget s.b.rx.ctxs i = none → exec (.syncLost i) s = .next s ∧ (∀ sinr, exec (.captureSinrLoss i sinr) s = .next s)) ∧
    (∀ x : Ctx, kget s.b.rx.ctxs i = some x → x.lane < 7 →
      (x.item = none → Runs (.syncLost i) s (fun t => t.mem = s.mem ∧ kget t.b.rx.ctxs i = none ∧
        t.b.r (Reg.RXP_SYNC_LOST x.lane) = satAdd 32 (s.b.r (Reg.RXP_SYNC_LOST x.lane)) 1 ∧
        Chip.OnlyRegs { s.b with rx := t.b.rx } t.b (Reg.RXP_SYNC_LOST x.lane :: activeFlds))) ∧
      (∀ (sinr lim : Int) (y : Ctx), lim = 4 * sinrMin x.band x.modeBit x.mcs x.fec → y = { x with worst := some (min sinr (x.worst.getD sinr)) } →
        (x.stage ≠ .cancelling → Runs (.captureSinrLoss i sinr) s (fun t => t.mem = s.mem ∧ kget t.b.rx.ctxs i = some y ∧
          t.b = { s.b with rx := { s.b.rx with ctxs := t.b.rx.ctxs } })) ∧
        (x.stage = .cancelling → lim ≤ sinr → Runs (.captureSinrLoss i sinr) s (fun t => t.mem = s.mem ∧ kget t.b.rx.ctxs i = some { y with low := 0 } ∧
          t.b = { s.b with rx := { s.b.rx with ctxs := t.b.rx.ctxs } })) ∧
        (x.stage = .cancelling → sinr < lim → x.low < 3 → Runs (.captureSinrLoss i sinr) s (fun t => t.mem = s.mem ∧
          kget t.b.rx.ctxs i = some { y with low := x.low + 1 } ∧ t.b = { s.b with rx := { s.b.rx with ctxs := t.b.rx.ctxs } })) ∧
        (x.stage = .cancelling → sinr < lim → 3 ≤ x.low → x.item = none → Runs (.captureSinrLoss i sinr) s (fun t => t.mem = s.mem ∧
          kget t.b.rx.ctxs i = none ∧ t.b.r (Reg.RXP_CAPTURE_LOST x.lane) = satAdd 32 (s.b.r (Reg.RXP_CAPTURE_LOST x.lane)) 1 ∧
          Chip.OnlyRegs { s.b with rx := t.b.rx } t.b (Reg.RXP_CAPTURE_LOST x.lane :: activeFlds)))) ∧
      (∀ (r : RxEnd) (ok : Bool) (q id : Nat), s.b.Quiet → r.ctx = i → x.item = some (q, id) →
        (r.fcsOk = false ∨ x.codeOk = false → Runs (.receptionEnd r ok) s (fun t => t.mem = s.mem ∧ kget t.b.rx.ctxs i = none ∧
          t.b.r (Reg.RXP_FCS_ERR x.lane) = satAdd 32 (s.b.r (Reg.RXP_FCS_ERR x.lane)) 1)) ∧
        (r.fcsOk = true → x.codeOk = true → 4 ≤ (readFrame r.psdu).ftype → Runs (.receptionEnd r ok) s (fun t => t.mem = s.mem ∧
          kget t.b.rx.ctxs i = none ∧ t.b.r (Reg.RXP_FRAME_OK x.lane) = satAdd 32 (s.b.r (Reg.RXP_FRAME_OK x.lane)) 1 ∧
          t.b.r Reg.MAC_FTYPE_ERR = satAdd 32 (s.b.r Reg.MAC_FTYPE_ERR) 1))))

/-- Where RXP takes a write: setting LANE_EN of a lane of the Pattern shows, and of the rest only the overrides noted for the governor change; clearing it shows, and no reception stays on the lane. With steering enabled, the end of a window with at least the minimum frames and nodes, of which some lie within REF_REJECT of the median, sets TARGET to their mean within TARGET_LIMIT; with too few frames or nodes TARGET stays. Either shows the frames and nodes and starts an empty window. With steering off the window only starts empty. But for the registers named, the counts of clamps, the state of RXP, the notice block, the Seam's sending and the output nothing changes in a steering window or where a lane is enabled. That the median of an even number is the mean of the two middle values is the model's choice (log entry 13) (R198, R227, R228). (07_receive_path.md) -/
def Obligations.LanesAndSteering : Prop :=
  ∀ s : State,
    (∀ l, l < 7 → s.b.writable 0xA = true →
      (s.b.laneExists l = true → Runs (.laneEnWrite l true) s (fun t => t.mem = s.mem ∧ t.b.r (Reg.RXP_LANE_EN l) = 1 ∧
        Chip.OnlyRegs { s.b with overrides := t.b.overrides } t.b [Reg.RXP_LANE_EN l, Reg.PWR_CLAMP_CNT])) ∧
      Runs (.laneEnWrite l false) s (fun t => t.mem = s.mem ∧ t.b.r (Reg.RXP_LANE_EN l) = 0 ∧
        ∀ (i : Nat) (x : Ctx), kget t.b.rx.ctxs i = some x → x.lane ≠ l)) ∧
    (s.b.t Reg.RXP_STEER_EN = false → exec .steerWindowEnd s = .next { s with b := { s.b with rx := { s.b.rx with refs := [] } } }) ∧
    (∀ (v rest : List Int) (lim : Int) (nodes : Nat), s.b.t Reg.RXP_STEER_EN = true → v = s.b.rx.refs.map (·.2) →
      nodes = (distinct (s.b.rx.refs.map (·.1))).length →
      rest = v.filter (fun x => decide ((x - median v).natAbs ≤ s.b.r Reg.RXP_REF_REJECT)) → lim = (s.b.r Reg.RXP_TARGET_LIMIT : Int) →
      (s.b.r Reg.RXP_REF_MIN_FRAMES ≤ v.length → s.b.r Reg.RXP_REF_MIN_NODES ≤ nodes → rest ≠ [] →
        Runs .steerWindowEnd s (fun t => t.mem = s.mem ∧ t.b.rx.refs = [] ∧ t.b.r Reg.RXP_REF_FRAMES = min 65535 v.length ∧
          t.b.r Reg.RXP_REF_NODES = min 65535 nodes ∧ t.b.r Reg.RXP_TARGET = ofS (clampI (-lim) lim (rest.sum / (rest.length : Int))) 24 ∧
          Chip.OnlyRegs { s.b with rx := t.b.rx } t.b [Reg.RXP_REF_FRAMES, Reg.RXP_REF_NODES, Reg.RXP_TARGET])) ∧
      (v.length < s.b.r Reg.RXP_REF_MIN_FRAMES ∨ nodes < s.b.r Reg.RXP_REF_MIN_NODES →
        Runs .steerWindowEnd s (fun t => t.mem = s.mem ∧ t.b.rx.refs = [] ∧ t.b.r Reg.RXP_REF_FRAMES = min 65535 v.length ∧
          t.b.r Reg.RXP_REF_NODES = min 65535 nodes ∧ t.b.rx.starved = true ∧
          Chip.OnlyRegs { s.b with rx := t.b.rx } t.b [Reg.RXP_REF_FRAMES, Reg.RXP_REF_NODES])))

/-- Where RXP takes a command: READ_CHAN of a channel that exists answers noise, the counts of detections, good frames, FCS and length failures and the level, of the last snapshot, with its tag; READ_CTX of a context below 256 answers its stage, lane, channel, mode octet, class, stitch and partner, zeros and no partner where it is free. Of a channel that does not exist, or a number above 255, each completes BAD_ARG. Nothing else changes (R233). (07_receive_path.md) -/
def Obligations.ReceiverIsRead : Prop :=
  ∀ (s : State) (irq : Bool), s.b.Awake → s.b.takes cbRXP = true →
    (∀ (l c : Nat) (x : ChanStat), l = s.b.arg cbRXP 0 → c = s.b.arg cbRXP 1 → s.b.chanOk l c = true → x = kgetD s.b.rx.chansPub (chanKey l c) {} →
      Runs (.readChan irq) s (fun t => t.mem = s.mem ∧ Chip.OnlyBlock s.b t.b cbRXP ∧
        t.b.Completed cbRXP OK [ofS x.floor 32, x.det, x.ok, x.fcs, x.len, ofS x.rssi 32, s.b.r Reg.RXP_STATS_TAG])) ∧
    (s.b.chanOk (s.b.arg cbRXP 0) (s.b.arg cbRXP 1) = false →
      Runs (.readChan irq) s (fun t => t.mem = s.mem ∧ Chip.OnlyBlock s.b t.b cbRXP ∧ t.b.Completed cbRXP BAD_ARG [])) ∧
    (255 < s.b.arg cbRXP 0 → Runs (.rxpReadCtx irq) s (fun t => t.mem = s.mem ∧ Chip.OnlyBlock s.b t.b cbRXP ∧ t.b.Completed cbRXP BAD_ARG [])) ∧
    (s.b.arg cbRXP 0 ≤ 255 →
      (kget s.b.rx.ctxs (s.b.arg cbRXP 0) = none → Runs (.rxpReadCtx irq) s (fun t => t.mem = s.mem ∧ Chip.OnlyBlock s.b t.b cbRXP ∧
        t.b.Completed cbRXP OK [0, 0, 0, 0, 0, 0, 0xFFFF])) ∧
      (∀ (x : Ctx) (st : Nat), kget s.b.rx.ctxs (s.b.arg cbRXP 0) = some x →
        (x.stage = .sync ∧ st = 1) ∨ (x.stage = .stream ∧ st = 2) ∨ (x.stage = .cancelling ∧ st = 3) → Runs (.rxpReadCtx irq) s (fun t => t.mem = s.mem ∧
        Chip.OnlyBlock s.b t.b cbRXP ∧ t.b.Completed cbRXP OK [st, x.lane, x.chan, x.oct2, x.cls, x.stitch, x.partner.getD 0xFFFF])))

/-- Where SCH takes a command: READ_CELL answers the cell, its row and its column; NODE_CELLS answers the counts of an owner's cells. In a serving role and outside a gap slot: WRITE_CELL of FREE, or of a valid word at a free place, writes that cell alone and answers the old word; RECLAIM frees the owner's cells of the masked types, PINNED ones only by force, and no other, and answers how many; with a role in the Pattern PAIR_SET turns the pair beacon off, or on at a column that can send and whose group has no cell; an ALLOC whose arguments pass places the series where the search finds room, counts ALLOC_OK and answers it, and where there is no room places nothing, counts ALLOC_FAIL and completes NO_RESOURCE; the next search starts one slot later. A pair beacon not yet taken goes with PAIR_SET off; a command that names a node fetches its context. A cell index beyond the Pattern, of READ_CELL and WRITE_CELL, completes BAD_ARG and counts in STRUCT_REJECT_CNT (R71, R266 to R273, R277, R295). (09_mesh_schedule.md) -/
def Obligations.WeaveCommands : Prop :=
  ∀ (s : State) (irq : Bool), s.b.Awake → s.b.takes cbSCH = true →
    (s.b.arg cbSCH 0 < s.b.pat.weaveCells → Runs (.readCell irq) s (fun t => t.mem = s.mem ∧ Chip.OnlyBlock s.b t.b cbSCH ∧
      t.b.Completed cbSCH OK [s.b.cell (s.b.arg cbSCH 0), s.b.rowOf (s.b.arg cbSCH 0), s.b.colOf (s.b.arg cbSCH 0)])) ∧
    (∀ i : Instr, s.b.pat.weaveCells ≤ s.b.arg cbSCH 0 → i = .readCell irq ∨ i = .writeCell irq → Runs i s (fun t => t.mem = s.mem ∧
      t.b.Completed cbSCH BAD_ARG [] ∧ t.b.r Reg.GLB_STRUCT_REJECT_CNT = satAdd 32 (s.b.r Reg.GLB_STRUCT_REJECT_CNT) 1 ∧ t.b.sch = s.b.sch)) ∧
    (∀ (o : Nat) (l : List Nat), o = s.b.arg cbSCH 0 → (o = nodeNone ∨ o < s.b.pat.nodeCount) →
      l = (s.b.sch.cells.filter (fun e => cOwner e.2 == o)).map (·.2) →
      Runs (.nodeCells irq) s (fun t => t.mem = s.mem ∧ Chip.OnlyNamed s.b t.b cbSCH ∧
        t.b.Completed cbSCH OK [l.length, (l.filter (fun w => cLane w != 7 && !cDown w)).length,
          (l.filter (fun w => cLane w != 7 && cDown w)).length, (l.filter (fun w => cLane w == 7)).length, (l.filter cHeld).length])) ∧
    (s.b.isStandby = false → s.b.gap = false →
      (∀ i w : Nat, i = s.b.arg cbSCH 0 → w = s.b.arg cbSCH 1 → i < s.b.pat.weaveCells →
        (w = freeCell ∨ (s.b.colOf i < 640 ∧ s.b.colOk (s.b.colOf i) = true ∧ s.b.cellValid (s.b.colOf i) w = true ∧ s.b.cell i = freeCell ∧
          s.b.ownerCheck (cOwner w) = none ∧ s.b.mayPlace (s.b.rowOf i) (s.b.colOf i) w = true)) →
        Runs (.writeCell irq) s (fun t => t.mem = s.mem ∧ t.b.Completed cbSCH OK [s.b.cell i] ∧ t.b.cell i = w ∧
          (∀ j, j ≠ i → t.b.cell j = s.b.cell j) ∧ Chip.OnlyNamed (s.b.setCell i w) t.b cbSCH)) ∧
      (∀ (o : Nat) (p : Nat → Bool), o = s.b.arg cbSCH 0 → (o = nodeNone ∨ o < s.b.pat.nodeCount) →
        p = (fun w => cOwner w == o && bit (bits (s.b.arg cbSCH 1) 0 6) (cType w) && (bit (s.b.arg cbSCH 2) 0 || !cPinned w)) →
        Runs (.reclaim irq) s (fun t => t.mem = s.mem ∧ t.b.Completed cbSCH OK [(s.b.sch.cells.filter (fun e => p e.2)).length] ∧
          (∀ i, t.b.cell i = if s.b.sch.cells.any (fun e => e.1 == i && p e.2) then freeCell else s.b.cell i) ∧
          Chip.OnlyNamed (s.b.freeCells p).1 t.b cbSCH)) ∧
      (s.b.pat.roleCfg ≠ 0 →
        (bit (s.b.arg cbSCH 0) 0 = false → Runs (.pairSet irq) s (fun t => t.mem = s.mem ∧ t.b.sch = s.b.sch ∧ t.b.r Reg.SCH_PAIR_EN = 0 ∧
          (s.b.t Reg.SCH_PAIR_EN = true → t.b.tx.frames.all (fun e => e.2.src != .pairBeacon || (e.2.phase != .planned && e.2.phase != .keyed)) = true) ∧
          t.b.r Reg.SCH_PAIR_COL = s.b.r Reg.SCH_PAIR_COL ∧ t.b.Completed cbSCH OK [0])) ∧
        (∀ c, c = s.b.arg cbSCH 1 → bit (s.b.arg cbSCH 0) 0 = true → s.b.colOk c = true → s.b.rxOnly (colLane c) (colChan c) = false →
          s.b.sch.cells.any (fun e => cLane e.2 != 7 && laneGroup (cLane e.2) == laneGroup (colLane c)) = false →
          Runs (.pairSet irq) s (fun t => t.mem = s.mem ∧ t.b.sch = s.b.sch ∧ t.b.r Reg.SCH_PAIR_EN = 1 ∧ t.b.r Reg.SCH_PAIR_COL = c ∧
            t.b.Completed cbSCH OK [1]))) ∧
      (∀ (o ty n sp st col : Nat) (down : Bool) (f : Nat → Nat) (fit : Option (Nat × Nat)), o = s.b.arg cbSCH 0 → ty = bits (s.b.arg cbSCH 1) 0 3 →
        down = bit (s.b.arg cbSCH 1) 4 → n = s.b.arg cbSCH 2 → sp = s.b.arg cbSCH 3 → st = s.b.arg cbSCH 5 → col = s.b.arg cbSCH 6 →
        s.b.ownerCheck o = none → 1 ≤ n → n ≤ 4096 → 1 ≤ sp → n * sp ≤ s.b.sfSlots → ty ≠ 0 →
        f = (fun c => mkCell o ty down (if s.b.devEnd o ty then colLane c else 7) (bits (s.b.arg cbSCH 1) 8 3)) →
        s.b.cellValid 0 (f 0) = true → (st = 0xFFFFFFFF ∨ st < s.b.sfSlots) → (col = 0xFFFFFFFF ∨ s.b.colOk col = true) →
        fit = s.b.fitAt (if st = 0xFFFFFFFF then s.b.sch.allocStart else st) n sp f
          (s.b.permitted (bits (s.b.arg cbSCH 4) 0 3) (bits (s.b.arg cbSCH 4) 8 7) col) sp →
        (fit = none → Runs (.alloc irq) s (fun t => t.mem = s.mem ∧ t.b.sch.cells = s.b.sch.cells ∧ t.b.Completed cbSCH NO_RESOURCE [] ∧
          t.b.sch.allocStart = (s.b.sch.allocStart + 1) % max 1 s.b.sfSlots ∧
          t.b.r Reg.SCH_ALLOC_FAIL = satAdd 32 (s.b.r Reg.SCH_ALLOC_FAIL) 1)) ∧
        (∀ r c : Nat, fit = some (r, c) → Runs (.alloc irq) s (fun t => t.mem = s.mem ∧
          t.b.r Reg.SCH_ALLOC_OK = satAdd 32 (s.b.r Reg.SCH_ALLOC_OK) 1 ∧ t.b.Completed cbSCH OK [n, r * s.b.cols + c, c, r] ∧
          t.b.sch.allocStart = (s.b.sch.allocStart + 1) % max 1 s.b.sfSlots ∧
          ∀ i, t.b.cell i = if (seriesRows r n sp s.b.sfSlots).any (fun x => x * s.b.cols + c == i) then f c else s.b.cell i))))

/-- Where MAC takes a command in a serving role, outside a gap slot, for a node index of the Pattern: ADMIT of an EMPTY index, whose arguments and install pocket pass and whose addresses resolve to no other node and find room in the table, slots with uncorrectable errors masked, writes the context of its arguments, ADMITTED, and answers its rung, every other context staying; SUSPEND of a node in states 1 to 5 leaves it SUSPENDED, with no unpinned cell and no pending rekey, and answers the cells freed; RESUME leaves a SUSPENDED node ADMITTED, or, joined before, LOST, then, with no fallback by train or call, with every cell held; RETIRE of a node that is neither EMPTY nor RETIRED leaves it RETIRED with no cell, and answers first the cells freed; CLEAR empties a RETIRED node's context and cache place, every other context staying (R297, R316, R317). (10_nodes_and_mac.md, 09_mesh_schedule.md) -/
def Obligations.NodesComeAndGo : Prop :=
  ∀ (s : State) (irq : Bool) (n : Nat), s.b.Awake → s.b.takes cbMAC = true → n = s.b.arg cbMAC 0 → n < s.b.pat.nodeCount →
    s.b.isStandby = false → s.b.gap = false →
    (∀ (c : Nat) (k : KeyT) (x : Chip), c = s.b.admitCtx → cx c Cx.BAND ≠ 3 → reachOk c = true → (cx c Cx.WAKE_LEN = 0 ∨ 8 ≤ cx c Cx.WAKE_LEN) → cx c Cx.WAKE_LEN ≤ 64 → cx c Cx.SAMPLE_MS ≤ 2000 →
      cx c Cx.KEY_INDEX ≠ 0 → s.b.modeMaskOk (cx c Cx.BAND) (cx c Cx.MODE_MASK) = true → cx c Cx.DL_QUEUE < s.b.pat.queueCount →
      s.b.ns n = NS.EMPTY → s.b.pocketKey (cx c Cx.INSTALL_POCKET) 1 0 = .inr k →
      x = (if cx c Cx.SHORT_ADDR = 0xFFFE then (s.b.cmdAccept cbMAC irq).touch 0 (1 + 256 * cx c Cx.EUI64)
        else ((s.b.cmdAccept cbMAC irq).touch 0 (1 + 256 * cx c Cx.EUI64)).touch 0 (2 + 256 * cx c Cx.SHORT_ADDR)) →
      x.namesOther 1 (cx c Cx.EUI64) n = false → (x.nodeName 1 (cx c Cx.EUI64) n).2 = OK →
      (cx c Cx.SHORT_ADDR = 0xFFFE ∨ (x.namesOther 2 (cx c Cx.SHORT_ADDR) n = false ∧
        ((x.nodeName 1 (cx c Cx.EUI64) n).1.nodeName 2 (cx c Cx.SHORT_ADDR) n).2 = OK)) →
      Runs (.nodeAdmit irq) s (fun t => t.mem = s.mem ∧ t.b.ns n = NS.ADMITTED ∧ t.b.node n = cxPut c Cx.DL_COUNT (t.b.nd n Cx.DL_COUNT) ∧
        (∀ m, m ≠ n → t.b.node m = s.b.node m) ∧
        t.b.Completed cbMAC OK [cx c Cx.TX_MODE_BIT + cx c Cx.TX_MCS * 16])) ∧
    (1 ≤ s.b.ns n → s.b.ns n ≤ 5 → Runs (.suspend irq) s (fun t => t.mem = s.mem ∧ t.b.ns n = NS.SUSPENDED ∧
      kget t.b.key.rekeys n = none ∧ (∀ i w : Nat, kget t.b.sch.cells i = some w → cOwner w = n → cType w ≤ 5 → cPinned w = true) ∧
      t.b.Completed cbMAC OK [(s.b.sch.cells.filter (fun e => cOwner e.2 == n && bit 0x3F (cType e.2) && !cPinned e.2)).length])) ∧
    (s.b.ns n = NS.SUSPENDED →
      (s.b.nd n Cx.JOINED = 0 → Runs (.resume irq) s (fun t => t.mem = s.mem ∧ t.b.ns n = NS.ADMITTED ∧ t.b.Completed cbMAC OK [1])) ∧
      (s.b.nd n Cx.JOINED = 1 → Runs (.resume irq) s (fun t => t.mem = s.mem ∧ t.b.ns n = NS.LOST ∧ t.b.Completed cbMAC OK [5] ∧
        (s.b.nd n Cx.FALLBACK = 0 → ∀ i w : Nat, kget t.b.sch.cells i = some w → cOwner w = n → cHeld w = true)))) ∧
    (s.b.ns n ≠ NS.EMPTY → s.b.ns n ≠ NS.RETIRED → Runs (.retire irq) s (fun t => t.mem = s.mem ∧ t.b.ns n = NS.RETIRED ∧
      (∀ i w : Nat, kget t.b.sch.cells i = some w → cType w ≤ 5 → cOwner w ≠ n) ∧ ∃ j, t.b.Completed cbMAC OK
        [(s.b.sch.cells.filter (fun e => cOwner e.2 == n && bit 0x3F (cType e.2))).length, j])) ∧
    (s.b.ns n = NS.RETIRED → Runs (.nodeClear irq) s (fun t => t.mem = s.mem ∧ t.b.node n = 0 ∧ n ∉ t.b.mac.cache ∧
      (∀ m, m ≠ n → t.b.node m = s.b.node m) ∧ t.b.Completed cbMAC OK []))

/-- Where MAC takes RESET_LINK for a SYNCED, DRIFTING or LOST node, in a serving role and outside a gap slot, it completes OK; CFO_PPB, RSSI_AVG, SINR_AVG, UP_RUN and DOWN_RUN read 0, the mode bit and the MCS are those of the first rung of the node's ladder, and every other field of the context and every other node's context is as before. (R320) -/
def Obligations.ResetLinkRestartsTheLadder : Prop :=
  ∀ (s : State) (irq : Bool) (n : Nat), s.b.Awake → s.b.takes cbMAC = true → n = s.b.arg cbMAC 0 → n < s.b.pat.nodeCount →
    s.b.isStandby = false → s.b.gap = false → s.b.linked n = true →
    Runs (.resetLink irq) s (fun t => t.mem = s.mem ∧ t.b.Completed cbMAC OK [] ∧
      t.b.nd n Cx.CFO_PPB = 0 ∧ t.b.nd n Cx.RSSI_AVG = 0 ∧ t.b.nd n Cx.SINR_AVG = 0 ∧ t.b.nd n Cx.UP_RUN = 0 ∧ t.b.nd n Cx.DOWN_RUN = 0 ∧
      (∀ r l, s.b.ladder (s.b.node n) = r :: l → t.b.nd n Cx.TX_MODE_BIT = r.1 ∧ t.b.nd n Cx.TX_MCS = r.2) ∧
      (∀ f : CxF, (∀ g ∈ [Cx.CFO_PPB, Cx.RSSI_AVG, Cx.SINR_AVG, Cx.UP_RUN, Cx.DOWN_RUN, Cx.TX_MODE_BIT, Cx.TX_MCS],
        f.pos + f.w ≤ g.pos ∨ g.pos + g.w ≤ f.pos) → t.b.nd n f = s.b.nd n f) ∧
      ∀ m, m ≠ n → t.b.node m = s.b.node m)

/-- Where MAC takes a command: READ_CTX with quarter 0 latches and answers the first 16 words of the context, zeros of an EMPTY one, quarters 1 to 3 answer those of the latch; WRITE_CTX of aligned words within the context, in a serving role, whose checks pass, gives every host field the written words cover its new value, every other host field keeps its own, and the state stays; FIND of a known address answers the node and its state, of an unknown one NOT_FOUND, and does nothing else but mask slots it reads that have uncorrectable errors. In READY out of LIMP a fetch of a node that is not EMPTY counts a hit or a miss and changes no context; after a hit, and after a miss where the cache has room or a context to evict, the node is cached; a storage error on a miss empties the context and counts CTX_ECC; the reception that a fetch is for holds the node. Any other fetch changes nothing (R295, R296, R316, R318, R319). (10_nodes_and_mac.md) -/
def Obligations.NodeContextsAreReadAndWritten : Prop :=
  ∀ s : State,
    (∀ (irq : Bool) (n k w : Nat), s.b.Awake → s.b.takes cbMAC = true → n = s.b.arg cbMAC 0 → k = s.b.arg cbMAC 1 → n < s.b.pat.nodeCount →
      w = (if s.b.ns n = NS.EMPTY then 0 else s.b.node n) →
      (k = 0 → Runs (.readCtx irq) s (fun t => t.mem = s.mem ∧ t.b.mac.nodes = s.b.mac.nodes ∧ t.b.mac.latch = w ∧
        t.b.Completed cbMAC OK ((List.range 16).map (fun i => bits w (32 * i) 32)))) ∧
      (1 ≤ k → k ≤ 3 → Runs (.readCtx irq) s (fun t => t.mem = s.mem ∧ t.b.mac.nodes = s.b.mac.nodes ∧ t.b.mac.latch = s.b.mac.latch ∧
        t.b.Completed cbMAC OK ((List.range 16).map (fun i => bits s.b.mac.latch (512 * k + 32 * i) 32)))) ∧
      (∀ (cnt raw c : Nat), cnt = s.b.arg cbMAC 2 → k % 4 = 0 → 1 ≤ cnt → cnt ≤ 13 → k + 4 * cnt ≤ 256 → s.b.isStandby = false → s.b.gap = false →
        s.b.ns n ≠ NS.EMPTY → s.b.ns n ≠ NS.RETIRED →
        raw = putBits (s.b.node n) (8 * k) (32 * cnt) (leNat (ofWords (((s.b.args cbMAC).drop 3).take cnt))) →
        c = Cx.hostFields.foldl (fun a f => cxPut a f (cx raw f)) (s.b.node n) → s.b.writeOver (8 * k) (8 * k + 32 * cnt) c = false →
          s.b.writeOk n (8 * k) (8 * k + 32 * cnt) c = true →
        Runs (.writeCtx irq) s (fun t => t.mem = s.mem ∧ t.b.Completed cbMAC OK [cnt] ∧ t.b.ns n = s.b.ns n ∧
          ∀ f ∈ Cx.hostFields, t.b.nd n f = cx raw f))) ∧
    (∀ (irq : Bool) (key i e : Nat) (x : Chip), s.b.Awake → s.b.takes cbMAC = true → s.b.arg cbMAC 0 ≤ 1 →
      key = (if s.b.arg cbMAC 0 = 0 then 1 + 256 * rev8 (s.b.arg cbMAC 1 + s.b.arg cbMAC 2 * 2 ^ 32) else 2 + 256 * bits (s.b.arg cbMAC 1) 0 16) →
      x = (s.b.cmdAccept cbMAC irq).touch 0 key →
      (x.findEnt 0 key = some (i, e) → s.b.ns (eNode 0 e) ≠ NS.EMPTY →
        Runs (.nodeFind irq) s (fun t => t.mem = s.mem ∧ Chip.OnlyBlock x t.b cbMAC ∧ t.b.Completed cbMAC OK [eNode 0 e, s.b.ns (eNode 0 e)])) ∧
      (x.findEnt 0 key = none →
        Runs (.nodeFind irq) s (fun t => t.mem = s.mem ∧ Chip.OnlyBlock x t.b cbMAC ∧ t.b.Completed cbMAC NOT_FOUND []))) ∧
    (∀ n ecc rec, s.b.pat.nodeCount ≤ n ∨ s.b.ns n = NS.EMPTY ∨ s.b.working = false → exec (.contextFetch n ⟨ecc, rec⟩) s = .next s) ∧
    (∀ (n : Nat) (rec : Option Nat) (rx : Rx), n < s.b.pat.nodeCount → s.b.ns n ≠ NS.EMPTY → s.b.working = true →
      rx = (match rec with | some k => { s.b.rx with ctxs := kmod s.b.rx.ctxs k (fun (x : Ctx) => { x with node := some n }) } | none => s.b.rx) →
      (∀ ecc, n ∈ s.b.mac.cache → Runs (.contextFetch n ⟨ecc, rec⟩) s (fun t => t.mem = s.mem ∧ n ∈ t.b.mac.cache ∧
        t.b.r Reg.MAC_CACHE_HIT = satAdd 32 (s.b.r Reg.MAC_CACHE_HIT) 1 ∧
        Chip.OnlyRegs { s.b with mac := { s.b.mac with cache := t.b.mac.cache }, rx := rx } t.b [Reg.MAC_CACHE_HIT])) ∧
      (n ∉ s.b.mac.cache → Runs (.contextFetch n ⟨false, rec⟩) s (fun t => t.mem = s.mem ∧
        (s.b.mac.cache.length < s.b.pat.ctxCache ∨ (s.b.mac.cache.reverse.find? s.b.evictable).isSome = true → n ∈ t.b.mac.cache) ∧
        t.b.r Reg.MAC_CACHE_MISS = satAdd 32 (s.b.r Reg.MAC_CACHE_MISS) 1 ∧
        Chip.OnlyRegs { s.b with mac := { s.b.mac with cache := t.b.mac.cache }, rx := rx } t.b [Reg.MAC_CACHE_MISS, Reg.MAC_CACHE_USED, Reg.MAC_CACHE_PINNED])) ∧
      (n ∉ s.b.mac.cache → Runs (.contextFetch n ⟨true, rec⟩) s (fun t => t.mem = s.mem ∧ t.b.node n = 0 ∧ n ∉ t.b.mac.cache ∧
        t.b.r Reg.MAC_CTX_ECC = satAdd 32 (s.b.r Reg.MAC_CTX_ECC) 1)))

/-- When the acknowledgement a node owes does not come, the wait ends and TX_NOACK rises; below MAX_RETRIES, RETRY_NOW rises (unless nothing is left in the node's list), and at MAX_RETRIES the frame is discarded, DROP_RETRY and TX_DROPPED rise. The wait of an emptied context only ends. At the end of a CSMA backoff, whose length is the drawn number of units, with nothing that may go the procedure ends; else the channel is judged over CCA_US after it: a busy one (a reception on it, or energy CCA_ED above the floor) takes another backoff from the take point, with NB one more and BE one more up to its bound, and beyond the last backoff the procedure fails and CSMA_FAIL rises; on a free channel the frame is planned to start 160 µs on, where the group's phase there is SHARED or IDLE and the frame ends in time, and else the procedure starts again in the first slot for it, or ends where a superframe has none (log entry 124). A draw of 2^BE or more, no wait, or no procedure changes nothing (R310, R311). (10_nodes_and_mac.md) -/
def Obligations.SendsAreTriedAgain : Prop :=
  ∀ (s : State) (n : Nat),
    (kget s.b.mac.waits n = none → exec (.ackWaitTimeout n) s = .next s) ∧
    (∀ draw level, kget s.b.mac.csma n = none → exec (.csmaBackoffExpiry n ⟨draw, level⟩) s = .next s) ∧
    (∀ w : AckWait, kget s.b.mac.waits n = some w → s.b.ns n = NS.EMPTY → Runs (.ackWaitTimeout n) s (fun t => t.mem = s.mem ∧
      kget t.b.mac.waits n = none)) ∧
    (∀ w : AckWait, kget s.b.mac.waits n = some w → s.b.ns n ≠ NS.EMPTY →
      (s.b.nd n Cx.RETRY_NOW < s.b.nd n Cx.MAX_RETRIES → Runs (.ackWaitTimeout n) s (fun t => t.mem = s.mem ∧ kget t.b.mac.waits n = none ∧
        t.b.nd n Cx.TX_NOACK = satAdd 32 (s.b.nd n Cx.TX_NOACK) 1 ∧
        (t.b.nd n Cx.RETRY_NOW = s.b.nd n Cx.RETRY_NOW + 1 ∨ t.b.nd n Cx.DL_COUNT = 0))) ∧
      (s.b.nd n Cx.MAX_RETRIES ≤ s.b.nd n Cx.RETRY_NOW → Runs (.ackWaitTimeout n) s (fun t => t.mem = s.mem ∧ kget t.b.mac.waits n = none ∧
        t.b.nd n Cx.RETRY_NOW = 0 ∧ t.b.nd n Cx.TX_NOACK = satAdd 32 (s.b.nd n Cx.TX_NOACK) 1 ∧
        t.b.nd n Cx.TX_DROPPED = satAdd 16 (s.b.nd n Cx.TX_DROPPED) 1 ∧
        t.b.r Reg.MAC_DROP_RETRY = satAdd 32 (s.b.r Reg.MAC_DROP_RETRY) 1))) ∧
    (∀ (x : Csma) (draw : Nat) (level : Int), kget s.b.mac.csma n = some x →
      (2 ^ x.be ≤ draw → exec (.csmaBackoffExpiry n ⟨draw, level⟩) s = .next s) ∧
      (draw < 2 ^ x.be →
        (s.b.headItem n = none ∨ s.b.mayFollow n = false ∨ (kget s.b.mac.waits n).isSome = true →
          Runs (.csmaBackoffExpiry n ⟨draw, level⟩) s (fun t => t.mem = s.mem ∧ t.b.regs = s.b.regs ∧ t.b.tx = s.b.tx ∧ kget t.b.mac.csma n = none)) ∧
        (∀ (i : Item) (m take : Nat) (f h : TxF) (ph : Nat), s.b.headItem n = some i → s.b.mayFollow n = true → kget s.b.mac.waits n = none →
          m = s.b.nd n Cx.TX_MODE_BIT → take = x.from_ + draw * s.b.backoffNs (laneBand x.lane) m + ccaNs (laneBand x.lane) m →
          f = { src := .follow, lane := x.lane, chan := x.chan, kind := 5, node := n, t := take + 160000, fcs2 := fcs2At (laneBand x.lane) } →
          h = s.b.headOf (s.b.inRung f n) i.psdu (s.b.sealKindOf n i.psdu) → ph = s.b.phaseAt (laneGroup x.lane) f.t →
          (s.b.chanBusy x.lane x.chan level = true →
            (x.nb + 1 ≤ s.b.r Reg.MAC_MAX_BACKOFFS → Runs (.csmaBackoffExpiry n ⟨draw, level⟩) s (fun t => t.mem = s.mem ∧ t.b.regs = s.b.regs ∧
              kget t.b.mac.csma n = some { x with nb := x.nb + 1, be := min (x.be + 1) (s.b.r Reg.MAC_MAX_BE), from_ := take })) ∧
            (s.b.r Reg.MAC_MAX_BACKOFFS < x.nb + 1 → Runs (.csmaBackoffExpiry n ⟨draw, level⟩) s (fun t => t.mem = s.mem ∧
              kget t.b.mac.csma n = none ∧ t.b.r Reg.MAC_CSMA_FAIL = satAdd 32 (s.b.r Reg.MAC_CSMA_FAIL) 1))) ∧
          (s.b.chanBusy x.lane x.chan level = false →
            ((ph = 1 ∨ ph = 3) → h.endNs ≤ s.b.lastEnd f → Runs (.csmaBackoffExpiry n ⟨draw, level⟩) s (fun t => t.mem = s.mem ∧
              t.b.regs = s.b.regs ∧ kget t.b.mac.csma n = none ∧ t.b.tf s.b.tx.nextId = some f ∧ t.b.tx.nextId = s.b.tx.nextId + 1)) ∧
            (¬ ((ph = 1 ∨ ph = 3) ∧ h.endNs ≤ s.b.lastEnd f) → Runs (.csmaBackoffExpiry n ⟨draw, level⟩) s (fun t => t.mem = s.mem ∧
              t.b.regs = s.b.regs ∧ t.b.tx = s.b.tx ∧ kget t.b.mac.csma n = (s.b.sharedSlot h (s.b.slotAt f.t) s.b.sfSlots).map
                (fun z => { x with nb := 0, be := s.b.r Reg.MAC_MIN_BE, from_ := z * s.b.slotNs })))))))

/-- Where SEC takes a command: READ_COUNTER of a valid ID with a ceiling answers the next counter value, the ceiling, its epoch and the parity, and fetches the context of a node the ID names; MAP_READ answers an entry's words, zeros for one never written; neither changes anything else. MAP_WRITE of an entry with a mode, an index and a source in range, which, being valid, no other valid entry equals, writes that entry alone, shows the number of valid ones, answers the old word and changes nothing else. SKIP_BLOCK out of STANDBY and outside a gap slot leaves the reservation's state and answers the first value of the block that the reservation finds, NO_RESOURCE where none is left and ECC_FAULT where MRAM does not commit it (R295, R329, R340, R345). (11_security_engine.md) -/
def Obligations.CountersAndKeyMap : Prop :=
  ∀ (s : State) (irq : Bool), s.b.takes cbSEC = true →
    (∀ (i : Nat) (c : Ceil), i = s.b.arg cbSEC 0 → s.b.cidOk i = true → kget s.b.sec.ceil i = some c →
      Runs (.readCounter irq) s (fun t => t.mem = s.mem ∧ Chip.OnlyNamed s.b t.b cbSEC ∧
        t.b.Completed cbSEC OK [s.b.nextFc i, c.ceiling, c.epoch, s.b.r Reg.SEC_PARITY])) ∧
    (∀ i, i = s.b.arg cbSEC 0 → i ≤ 31 →
      (kget s.b.sec.map i = none → Runs (.mapRead irq) s (fun t => t.mem = s.mem ∧ Chip.OnlyBlock s.b t.b cbSEC ∧ t.b.Completed cbSEC OK [0, 0, 0])) ∧
      (∀ e, kget s.b.sec.map i = some e → Runs (.mapRead irq) s (fun t => t.mem = s.mem ∧ Chip.OnlyBlock s.b t.b cbSEC ∧
        t.b.Completed cbSEC OK [e.word, e.source % 2 ^ 32, e.source / 2 ^ 32])) ∧
      (∀ (w : Nat) (e : MapEnt), w = s.b.arg cbSEC 1 →
        e = { valid := bit w 31, mode := bits w 0 2, index := bits w 8 8, pocket := bits w 16 12, source := s.b.arg cbSEC 2 + s.b.arg cbSEC 3 * 2 ^ 32 } →
        e.mode ≠ 0 → e.index ≠ 0 → e.source < 2 ^ (if e.mode = 1 then 0 else if e.mode = 2 then 32 else 64) →
        (e.valid = true → ∀ x ∈ s.b.sec.map, x.1 ≠ i → x.2.valid = true → ¬ (x.2.mode = e.mode ∧ x.2.source = e.source ∧ x.2.index = e.index)) →
        Runs (.mapWrite irq) s (fun t => t.mem = s.mem ∧ t.b.sec = { s.b.sec with map := kput s.b.sec.map i e } ∧
          Chip.OnlyBlock (Chip.w { s.b with sec := t.b.sec } Reg.SEC_MAP_USED (t.b.sec.map.filter (fun x => x.2.valid)).length) t.b cbSEC ∧
          t.b.r Reg.SEC_MAP_USED = (t.b.sec.map.filter (fun x => x.2.valid)).length % 2 ^ Reg.SEC_MAP_USED.w ∧
          (kget s.b.sec.map i = none → t.b.Completed cbSEC OK [0]) ∧ ∀ x, kget s.b.sec.map i = some x → t.b.Completed cbSEC OK [x.word]))) ∧
    (∀ (i : Nat) (ok : Bool) (b1 : Chip) (r : Resv), i = s.b.arg cbSEC 0 → s.b.Quiet → s.b.cidOk i = true → s.b.isStandby = false → s.b.gap = false →
      ((s.b.cmdAccept cbSEC irq).named i).advance i (s.b.cidEpoch i) ok = (b1, r) →
      Runs (.skipBlock irq ok) s (fun t => t.mem = s.mem ∧ t.b.sec = b1.sec ∧ (∀ v, r = .block v → t.b.Completed cbSEC OK [v]) ∧
        (r = .exhausted → t.b.Completed cbSEC NO_RESOURCE []) ∧ (r = .failed → t.b.Completed cbSEC ECC_FAULT [])))

/-- Where KEY takes a command, in a serving role outside a gap slot: LOAD of clear or generated material under no parent and replacing nothing, of a pocket that is EMPTY and an epoch above its counter's, writes a BASTED pocket with the arguments' type, usage and epoch and their octets or a key of a value that the spec leaves free, and answers its KCV; where MRAM does not commit it, it counts COMMIT_FAIL and completes ECC_FAULT; VERIFY of a BASTED pocket marks it verified where the KCV agrees, else counts VERIFY_FAIL and completes AUTH_FAIL; PROMOTE of a verified BASTED pocket with no partner or an ACTIVE one, not yet in line, and as a master with room among the masters and an epoch of its own, stays BUSY, sets PROMOTING and waits for the boundary; ERASE of a BASTED pocket, whose promotion it ends, or of a zeroised ORPHANED one, empties it. Each leaves every other pocket, and all but the registers, the key store, the notice block and the output. READ_POCKET answers the first 32 octets of the record and GEN, each field in its place, and changes nothing else (R350, R352 to R359, R372). (12_key_store.md) -/
def Obligations.PocketsAreLoadedAndPromoted : Prop :=
  ∀ (s : State) (irq : Bool) (p : Nat), s.b.takes cbKEY = true → p = s.b.arg cbKEY 0 → p ≤ 4095 →
    (s.b.isStandby = false → s.b.gap = false →
      (∀ (a1 typ usage : Nat) (l : List Nat), a1 = s.b.arg cbKEY 1 → typ = bits a1 0 4 → usage = bits a1 16 16 → bits a1 4 2 = 0 → 1 ≤ typ → typ ≤ 4 →
        andNot usage (usageMask typ) = 0 → bits (s.b.arg cbKEY 2) 0 16 = 0xFFFF → bits (s.b.arg cbKEY 2) 16 16 = 0xFFFF → s.b.pocket p = none →
        (∀ c, kget s.b.sec.ceil (131072 + p) = some c → c.epoch < s.b.arg cbKEY 3) → l = s.b.argKey (keyLen typ) → keyInRange typ l = true →
        Runs (.keyLoad irq true) s (fun t => t.mem = s.mem ∧
          t.b.pocket p = some { state := PS.BASTED, typ := typ, usage := usage, parent := 0xFFFF, epoch := s.b.arg cbKEY 3, stateStitch := s.b.stitch32,
                                key := some (.raw l), wrapped := kwWrap (kek (s.b.t Reg.KEY_TEST_ROOT)) l, test := s.b.t Reg.KEY_TEST_ROOT } ∧
          (∀ q, q ≠ p → t.b.pocket q = s.b.pocket q) ∧ Chip.SameBut { s.b with key := t.b.key } t.b ∧
          t.b.Completed cbKEY OK [keyCheck typ l % 2 ^ 32, keyCheck typ l / 2 ^ 32 % 2 ^ 32]) ∧
        Runs (.keyLoad irq false) s (fun t => t.mem = s.mem ∧ Chip.OnlyBlock (s.b.inc Reg.KEY_COMMIT_FAIL) t.b cbKEY ∧
          t.b.Completed cbKEY ECC_FAULT [])) ∧
      (∀ (a1 typ usage v : Nat) (k : KeyT), a1 = s.b.arg cbKEY 1 → typ = bits a1 0 4 → usage = bits a1 16 16 → bits a1 4 2 = 2 → 1 ≤ typ → typ ≤ 4 →
        andNot usage (usageMask typ) = 0 → bits (s.b.arg cbKEY 2) 0 16 = 0xFFFF → bits (s.b.arg cbKEY 2) 16 16 = 0xFFFF → s.b.pocket p = none →
        (∀ c, kget s.b.sec.ceil (131072 + p) = some c → c.epoch < s.b.arg cbKEY 3) →
        k = (if typ = 3 then .scalar (Config.freeValue s.b.freeCtr % 2 ^ 32) else .made (Config.freeValue s.b.freeCtr % 2 ^ 32) (keyLen typ)) → v = keyCheck typ (keyOctets k) →
        Runs (.keyLoad irq true) s (fun t => t.mem = s.mem ∧
          t.b.pocket p = some { state := PS.BASTED, typ := typ, usage := usage, parent := 0xFFFF, epoch := s.b.arg cbKEY 3, stateStitch := s.b.stitch32,
                                key := some k, wrapped := kwWrap (kek (s.b.t Reg.KEY_TEST_ROOT)) (keyOctets k), test := s.b.t Reg.KEY_TEST_ROOT } ∧
          (∀ q, q ≠ p → t.b.pocket q = s.b.pocket q) ∧ Chip.SameBut { s.b with key := t.b.key, freeCtr := s.b.freeCtr + 1 } t.b ∧
          t.b.Completed cbKEY OK [v % 2 ^ 32, v / 2 ^ 32 % 2 ^ 32])) ∧
      (∀ x, s.b.pocket p = some x → x.state = PS.BASTED →
        (x.kcv = s.b.arg cbKEY 1 + s.b.arg cbKEY 2 * 2 ^ 32 → Runs (.keyVerify irq) s (fun t => t.mem = s.mem ∧
          t.b.pocket p = some { x with verified := true } ∧ (∀ q, q ≠ p → t.b.pocket q = s.b.pocket q) ∧
          Chip.SameBut { s.b with key := t.b.key } t.b ∧ t.b.Completed cbKEY OK [])) ∧
        (x.kcv ≠ s.b.arg cbKEY 1 + s.b.arg cbKEY 2 * 2 ^ 32 → Runs (.keyVerify irq) s (fun t => t.mem = s.mem ∧
          Chip.OnlyBlock (s.b.inc Reg.KEY_VERIFY_FAIL) t.b cbKEY ∧ t.b.Completed cbKEY AUTH_FAIL [])) ∧
        (∀ ms, ms = s.b.key.pockets.filter (fun e => bit e.2.usage 1 && (e.2.state == 2 || s.b.key.waiting.contains e.1)) →
          x.verified = true → (x.partner = 0xFFFF ∨ s.b.pocketIn x.partner PS.ACTIVE = true) → p ∉ s.b.key.waiting →
          (bit x.usage 1 = true → ms.length < 4 ∧ ∀ e ∈ ms, e.2.epoch ≠ x.epoch) →
          Runs (.keyPromote irq) s (fun t => t.mem = s.mem ∧ t.b.pocket p = some { x with promoting := true } ∧
            (∀ q, q ≠ p → t.b.pocket q = s.b.pocket q) ∧ Chip.SameBut { s.b with key := t.b.key } t.b ∧
            t.b.key.waiting = s.b.key.waiting ++ [p] ∧ t.b.key.cmd = some p ∧ t.b.r (cbBUSY cbKEY) = 1 ∧ t.b.r (cbCODE cbKEY) = BUSY))) ∧
      (∀ x, s.b.pocket p = some x → x.state = PS.BASTED ∨ (x.state = PS.ORPHANED ∧ x.key = none) →
        Runs (.keyErase irq) s (fun t => t.mem = s.mem ∧ t.b.pocket p = none ∧ (∀ q, q ≠ p → t.b.pocket q = s.b.pocket q) ∧
          p ∉ (if x.state = PS.BASTED then t.b.key.waiting else []) ∧ Chip.SameBut { s.b with key := t.b.key } t.b ∧ t.b.Completed cbKEY OK []))) ∧
    (s.b.pocket p = none → Runs (.readPocket irq) s (fun t => t.mem = s.mem ∧ Chip.OnlyBlock s.b t.b cbKEY ∧
      t.b.Completed cbKEY OK [0, 0, 0, 0, 0, 0, 0, 0, s.b.pocketGen p])) ∧
    (∀ x, s.b.pocket p = some x → Runs (.readPocket irq) s (fun t => t.mem = s.mem ∧ Chip.OnlyBlock s.b t.b cbKEY ∧
      t.b.Completed cbKEY OK (toWords (x.octets x.parentEpoch x.wrapped (s.b.pocketGen p)) 8 ++ [s.b.pocketGen p]))) ∧
    (∀ x, s.b.pocket p = some x → x.state < 8 → x.typ < 256 → x.usage < 2 ^ 16 → x.parent < 2 ^ 16 → x.partner < 2 ^ 16 → x.epoch < 2 ^ 32 →
      x.parentEpoch < 2 ^ 32 → x.stateStitch < 2 ^ 32 → x.retireAt < 2 ^ 32 → Runs (.readPocket irq) s (fun t =>
      t.b.Completed cbKEY OK [x.state + 8 * b2n x.verified + 16 * b2n x.promoting + 32 * b2n x.rewrap + x.typ * 256 + x.usage * 65536,
        x.parent + x.partner * 65536, x.epoch, x.parentEpoch, x.stateStitch, x.retireAt, x.kcv % 2 ^ 32, x.kcv / 2 ^ 32 % 2 ^ 32, s.b.pocketGen p]))

/-- INVALIDATE, where KEY takes it in a serving role outside a gap slot and no earlier one is due, of a pocket that is not ORPHANED, leaves that pocket and every pocket whose chain of parents reaches it ORPHANED, and keeps the state and the key of every pocket that is neither there nor BASTED. Once due, zeroising leaves no ORPHANED pocket with a key and no cached key marked. With none due it changes nothing. A RETIRED pocket whose RETIRE_AT is reached and whose epoch no child names is emptied and counted, every other pocket staying; a pocket in another state, or not yet there, stays, and nothing else changes (R355, R361, R585). (12_key_store.md, 11_security_engine.md) -/
def Obligations.KeysEnd : Prop :=
  ∀ s : State,
    (∀ (irq : Bool) (p : Nat) (x : Pocket), s.b.takes cbKEY = true → s.b.isStandby = false → s.b.gap = false → p = s.b.arg cbKEY 0 → p ≤ 4095 →
      s.b.pocket p = some x → x.state ≠ PS.ORPHANED → s.b.key.orphanDue = false →
      Runs (.keyInvalidate irq) s (fun t => t.mem = s.mem ∧ (∃ n m, t.b.Completed cbKEY OK [n, m]) ∧
        (∀ (q : Nat) (y : Pocket), s.b.pocket q = some y → (q = p ∨ chainMeets s.b.key.pockets [p] q 4096 = true) →
          ∃ z, t.b.pocket q = some z ∧ z.state = PS.ORPHANED) ∧
        (∀ (q : Nat) (y : Pocket), s.b.pocket q = some y → q ≠ p → chainMeets s.b.key.pockets [p] q 4096 = false →
          (∀ e ∈ s.b.key.pockets, e.1 = q → e.2.state ≠ PS.BASTED) → ∃ z, t.b.pocket q = some z ∧ z.state = y.state ∧ z.key = y.key))) ∧
    (s.b.key.orphanDue = true → Runs .orphanZeroise s (fun t => t.mem = s.mem ∧ t.b.key.orphanDue = false ∧
      (∀ (q : Nat) (y : Pocket), t.b.pocket q = some y → y.state = PS.ORPHANED → y.key = none) ∧ ∀ e ∈ t.b.key.cache, e.orphan = false)) ∧
    (s.b.key.orphanDue = false → exec .orphanZeroise s = .next s) ∧
    (∀ p, (∀ x, s.b.pocket p = some x → x.state ≠ PS.RETIRED ∨ retireReached s.b.stitch32 x.retireAt = false) → exec (.retireAtReached p) s = .next s) ∧
    (∀ (p : Nat) (x : Pocket), s.b.pocket p = some x → x.state = PS.RETIRED → retireReached s.b.stitch32 x.retireAt = true →
      (∀ e ∈ s.b.key.pockets, ¬ (e.2.parent = x.partner ∧ e.2.parentEpoch = x.epoch)) →
      Runs (.retireAtReached p) s (fun t => t.mem = s.mem ∧ t.b.pocket p = none ∧ (∀ q, q ≠ p → t.b.pocket q = s.b.pocket q) ∧
        t.b.r Reg.KEY_ZEROISE_CNT = satAdd 32 (s.b.r Reg.KEY_ZEROISE_CNT) 1))

/-- Where KEY takes a command: SET_NODE_EPOCH, in a serving role, of a value above NODE_EPOCH that an ACTIVE master serves, sets NODE_EPOCH to it and answers the master's pocket; REKEY_NODE of a linked node behind NODE_EPOCH, with no rekey pending, whose new link key is found and whose downlink queue takes the key-update frame, leaves a pending rekey with that epoch, index and item, every pocket staying; DERIVE_CHECK of a node answers the KCV of the link key at an epoch, counts DERIVE_CNT, fetches the node's context and changes nothing else but the command block, INT_PEND, the interrupt state and the output, as SET_NODE_EPOCH does besides NODE_EPOCH (R362 to R366, R372). (12_key_store.md) -/
def Obligations.NodeKeysMove : Prop :=
  ∀ (s : State) (irq : Bool), s.b.takes cbKEY = true →
    (s.b.isStandby = false → s.b.gap = false →
      (∀ (p : Nat) (x : Pocket), s.b.r Reg.KEY_NODE_EPOCH < s.b.arg cbKEY 0 → s.b.master (s.b.arg cbKEY 0) false = some (p, x) →
        Runs (.setNodeEpoch irq) s (fun t => t.mem = s.mem ∧ t.b.key = { s.b.key with nodeEpoch := s.b.arg cbKEY 0 } ∧
          t.b.r Reg.KEY_NODE_EPOCH = s.b.arg cbKEY 0 % 2 ^ 32 ∧ t.b.Completed cbKEY OK [p] ∧
          Chip.OnlyBlock (Chip.w { s.b with key := t.b.key } Reg.KEY_NODE_EPOCH (s.b.arg cbKEY 0)) t.b cbKEY)) ∧
      (∀ (n ix e : Nat) (b1 : Chip) (k : KeyT) (o : Opened), n = s.b.arg cbKEY 0 → ix = s.b.arg cbKEY 1 → e = s.b.r Reg.KEY_NODE_EPOCH →
        n < s.b.pat.nodeCount → 1 ≤ ix → ix ≤ 255 → ix ≠ s.b.r Reg.MAC_KEY_INDEX_JOIN → s.b.linked n = true → s.b.nd n Cx.KEY_EPOCH < e →
        kget s.b.key.rekeys n = none → s.b.key.rekeys.length < 1024 → s.b.nd n Cx.DL_QUEUE < s.b.pat.queueCount →
        (s.b.q (s.b.nd n Cx.DL_QUEUE)).consumer = CONS_NODE → ((s.b.cmdAccept cbKEY irq).named n).linkKey n e = (b1, .inr k) →
        o = b1.dlPush n (b1.nodeFrame n (b1.joinResp n e ix k) []) 7 true → o.code = OK →
        Runs (.rekeyNode irq) s (fun t => t.mem = s.mem ∧ kget t.b.key.rekeys n = some { epoch := e, index := ix, item := o.id } ∧
          t.b.key.pockets = s.b.key.pockets ∧ t.b.Completed cbKEY OK []))) ∧
    (∀ (n e p : Nat) (x : Pocket) (k : KeyT) (v : Nat), n = s.b.arg cbKEY 0 → e = s.b.arg cbKEY 1 → n < s.b.pat.nodeCount → s.b.ns n ≠ NS.EMPTY →
      s.b.master e false = some (p, x) → x.key = some k → v = keyCheck 1 (keyOctets (.link k (s.b.eui n) e)) →
      Runs (.deriveCheck irq) s (fun t => t.mem = s.mem ∧ Chip.OnlyNamed (s.b.inc Reg.KEY_DERIVE_CNT) t.b cbKEY ∧ t.b.r Reg.KEY_DERIVE_CNT = satAdd 32 (s.b.r Reg.KEY_DERIVE_CNT) 1 ∧
        t.b.Completed cbKEY OK [v % 2 ^ 32, v / 2 ^ 32 % 2 ^ 32]))

/-- Where FWD takes a command on a table that exists and has no slot at fault: READ answers the octets at an index with its flag; SEARCH of one table answers the entry of a key; both change nothing else. WRITE of an invalid entry frees its index, WRITE of one that passes the checks, at an index of its buckets or of the stash, stands there; INSERT of a new key with a free slot in its buckets stands in the first of them, with no move; DELETE frees the index of a key. No other index of the table changes. WRITE and INSERT of a valid entry that names a prefix length, queue or node beyond the Pattern complete BAD_ARG, count in STRUCT_REJECT_CNT and change no table. AGE_NOW of an entry that is not STATIC clears HIT where it is set, else removes the entry and counts AGED. Of the rest only the registers, the tables' state, the notice block and the output change (R71, R377, R386, R396, R402, R403). (13_forwarding_tables.md) -/
def Obligations.TablesAreReadAndWritten : Prop :=
  ∀ (s : State) (irq : Bool) (tb i : Nat), s.b.takes cbFWD = true → s.b.argTab = some tb → (s.b.tab tb).bad = [] →
    (i = s.b.arg cbFWD 1 → i < s.b.tabSize tb + 16 →
      Runs (.fwdRead irq) s (fun t => t.mem = s.mem ∧ Chip.OnlyBlock s.b t.b cbFWD ∧ t.b.Completed cbFWD OK
        (entWords (kgetD (s.b.tab tb).ents i 0) ++ [if (s.b.tab tb).masked.contains i then 2 else b2n (kget (s.b.tab tb).ents i).isSome])) ∧
      (eValid tb s.b.argEnt = false → Runs (.fwdWrite irq) s (fun t => t.mem = s.mem ∧
        t.b.Completed cbFWD OK (entWords ((kget (s.b.tab tb).ents i).getD 0)) ∧ Chip.SameBut { s.b with fwd := t.b.fwd } t.b ∧
        ∀ j, kget (t.b.tab tb).ents j = if j = i then none else kget (s.b.tab tb).ents j)) ∧
      (∀ (e key : Nat) (c : Nat × Nat), e = s.b.argEnt → key = eKey tb e → c = s.b.cands tb (s.b.r (tgtFld tb)) key → eValid tb e = true → s.b.entOk tb e = true →
        ((bucketIdx c.1 ++ bucketIdx c.2).contains i = true ∨ s.b.tabSize tb ≤ i) → (∀ p, s.b.findEnt tb key = some p → p.1 = i) →
        (∀ j ∈ bucketIdx c.1 ++ bucketIdx c.2, (s.b.tab tb).masked.contains j = false) →
        Runs (.fwdWrite irq) s (fun t => t.mem = s.mem ∧ t.b.Completed cbFWD OK (entWords ((kget (s.b.tab tb).ents i).getD 0)) ∧
          Chip.SameBut { s.b with fwd := t.b.fwd } t.b ∧
          ∀ j, kget (t.b.tab tb).ents j = if j = i then some (putBits e (genBit tb) 1 (s.b.r (tgtFld tb))) else kget (s.b.tab tb).ents j))) ∧
    (∀ (e key : Nat) (c : Nat × Nat), e = s.b.argEnt → key = eKey tb e → c = s.b.cands tb (s.b.r (tgtFld tb)) key → eValid tb e = true → s.b.entOk tb e = true →
      s.b.findEnt tb key = none → (∀ j ∈ bucketIdx c.1 ++ bucketIdx c.2, (s.b.tab tb).masked.contains j = false) →
      (s.b.freeSlot tb (s.b.tab tb).ents c.1).or (s.b.freeSlot tb (s.b.tab tb).ents c.2) = some i →
      Runs (.fwdInsert irq) s (fun t => t.mem = s.mem ∧ t.b.Completed cbFWD OK [i, 0] ∧ Chip.SameBut { s.b with fwd := t.b.fwd } t.b ∧
        ∀ j, kget (t.b.tab tb).ents j = if j = i then some (putBits e (genBit tb) 1 (s.b.r (tgtFld tb))) else kget (s.b.tab tb).ents j)) ∧
    (∀ w : Instr, eValid tb s.b.argEnt = true → s.b.entOver tb s.b.argEnt = true →
      (w = .fwdWrite irq ∧ s.b.arg cbFWD 1 < s.b.tabSize tb + 16) ∨ w = .fwdInsert irq →
      Runs w s (fun t => t.mem = s.mem ∧ t.b.Completed cbFWD BAD_ARG [] ∧ Chip.SameBut s.b t.b ∧
        t.b.r Reg.GLB_STRUCT_REJECT_CNT = satAdd 32 (s.b.r Reg.GLB_STRUCT_REJECT_CNT) 1)) ∧
    (∀ key e : Nat, s.b.argKey' tb = some key → s.b.findEnt tb key = some (i, e) →
      (bit (s.b.arg cbFWD 1) 0 = false → Runs (.fwdSearch irq) s (fun t => t.mem = s.mem ∧ Chip.OnlyBlock s.b t.b cbFWD ∧
        t.b.Completed cbFWD OK ([i + tb * 2 ^ 31] ++ entWords e ++ [0, 0]))) ∧
      Runs (.fwdDelete irq) s (fun t => t.mem = s.mem ∧ t.b.Completed cbFWD OK [i] ∧ Chip.SameBut { s.b with fwd := t.b.fwd } t.b ∧
        ∀ j, kget (t.b.tab tb).ents j = if j = i then none else kget (s.b.tab tb).ents j) ∧
      (tb = 0 → eStatic e = false →
        (eHit e = true → Runs (.ageNow irq) s (fun t => t.mem = s.mem ∧ t.b.Completed cbFWD OK [0] ∧ Chip.SameBut { s.b with fwd := t.b.fwd } t.b ∧
          ∀ j, kget (t.b.tab tb).ents j = if j = i then some (clrBit e 4) else kget (s.b.tab tb).ents j)) ∧
        (eHit e = false → Runs (.ageNow irq) s (fun t => t.mem = s.mem ∧ t.b.Completed cbFWD OK [1] ∧ Chip.SameBut { s.b with fwd := t.b.fwd } t.b ∧
          t.b.r Reg.FWD_AGED = satAdd 32 (s.b.r Reg.FWD_AGED) 1 ∧
          ∀ j, kget (t.b.tab tb).ents j = if j = i then none else kget (s.b.tab tb).ents j))))

/-- Where FWD takes a command on a table that exists: START, outside a rehash, writes the other seed set, makes it the target and begins at bucket 0, and no entry moves; MOVE of one bucket advances the cursor and keeps the target; FINISH with nothing left ends the rehash; REVERT makes the other set the target again from bucket 0; REFILTER of the prefix table starts a rebuild of every permitted length. Each answers what is left and the cursor, and changes nothing but the registers, the tables' state named, the notice block and the output. With no prefix table in the Pattern a command on it completes BAD_ARG and counts in STRUCT_REJECT_CNT (R71, R376). The first learn request waiting is taken out, and slots its search reads that are at fault are masked (R384): for a LEARNED entry of its port, its next hop is written and MAC_CHANGE counted; of another port, within MOVE_HOLD of the last move, only FLAP is counted, and later the entry is rewritten and MOVED counted; for an entry that is STATIC or not LEARNED only LEARN_CONFLICT is counted; for an unknown source with no place under LEARN_LIMIT, only LEARN_LIMIT_HIT rises; with one, and a slot that takes it, it is installed and LEARN_INSTALL counted. With none waiting nothing changes (R389, R390, R393). (13_forwarding_tables.md) -/
def Obligations.TablesRehashAndLearn : Prop :=
  ∀ s : State,
    (∀ (irq : Bool) (tb : Nat), s.b.takes cbFWD = true → s.b.argTab = some tb →
      (s.b.t (rhFld tb) = false → Runs (.rehashStart irq) s (fun t => t.mem = s.mem ∧ t.b.fwd = s.b.fwd ∧ t.b.r (rhFld tb) = 1 ∧
        t.b.r (tgtFld tb) = 1 - s.b.r (tgtFld tb) ∧ t.b.r (seedFld tb (1 - s.b.r (tgtFld tb)) 0) = s.b.arg cbFWD 2 % 2 ^ 32 ∧
        t.b.r (seedFld tb (1 - s.b.r (tgtFld tb)) 1) = s.b.arg cbFWD 3 % 2 ^ 32 ∧ t.b.Completed cbFWD OK [t.b.r (leftFld tb), 0] ∧ Chip.SameBut s.b t.b)) ∧
      (s.b.t (rhFld tb) = true →
        (s.b.arg cbFWD 2 = 1 → Runs (.rehashMove irq) s (fun t => t.mem = s.mem ∧ t.b.t (rhFld tb) = true ∧ t.b.r (tgtFld tb) = s.b.r (tgtFld tb) ∧
          t.b.r (cursorFld tb) = (if s.b.r (cursorFld tb) + 1 < s.b.tabNB tb then s.b.r (cursorFld tb) + 1 else 0) % 2 ^ (cursorFld tb).w ∧
          t.b.Completed cbFWD OK [t.b.r (leftFld tb), t.b.r (cursorFld tb)] ∧ Chip.SameBut { s.b with fwd := t.b.fwd } t.b)) ∧
        (s.b.r (leftFld tb) = 0 → Runs (.rehashFinish irq) s (fun t => t.mem = s.mem ∧ t.b.fwd = s.b.fwd ∧ t.b.r (rhFld tb) = 0 ∧
          t.b.r (tgtFld tb) = s.b.r (tgtFld tb) ∧ t.b.Completed cbFWD OK [0, s.b.r (cursorFld tb)] ∧ Chip.SameBut s.b t.b)) ∧
        Runs (.rehashRevert irq) s (fun t => t.mem = s.mem ∧ t.b.fwd = s.b.fwd ∧ t.b.t (rhFld tb) = true ∧
          t.b.r (tgtFld tb) = 1 - s.b.r (tgtFld tb) ∧ t.b.Completed cbFWD OK [t.b.r (leftFld tb), 0] ∧ Chip.SameBut s.b t.b)) ∧
      (tb = 1 → s.b.t (rhFld tb) = false → Runs (.refilter irq) s (fun t => t.mem = s.mem ∧ t.b.fwd = { s.b.fwd with refil := s.b.lens } ∧
        t.b.r Reg.FWD_REFILTERING = b2n (!s.b.lens.isEmpty) ∧ t.b.Completed cbFWD OK [s.b.r (leftFld tb), s.b.r (cursorFld tb)] ∧ Chip.SameBut { s.b with fwd := t.b.fwd } t.b))) ∧
    (∀ (irq : Bool) (i : Instr), s.b.takes cbFWD = true → s.b.arg cbFWD 0 = 1 → s.b.pat.lpmPrefixes = 0 →
      i ∈ [Instr.fwdRead irq, .fwdWrite irq, .fwdInsert irq, .fwdDelete irq, .fwdSearch irq, .rehashStart irq, .rehashMove irq, .rehashFinish irq,
        .rehashRevert irq, .refilter irq] → Runs i s (fun t => t.mem = s.mem ∧ t.b.fwd = s.b.fwd ∧ t.b.Completed cbFWD BAD_ARG [] ∧
          t.b.r Reg.GLB_STRUCT_REJECT_CNT = satAdd 32 (s.b.r Reg.GLB_STRUCT_REJECT_CNT) 1)) ∧
    (s.b.fwd.learn = [] → exec .learnApply s = .next s) ∧
    (∀ (r : LearnReq) (l : List LearnReq) (x : Chip), s.b.fwd.learn = r :: l →
      x = (Chip.w { s.b with fwd := { s.b.fwd with learn := l } } Reg.FWD_LEARN_DEPTH l.length).touch 0 (256 * addrKey r.src) →
      (∀ (i e age : Nat), x.findEnt 0 (256 * addrKey r.src) = some (i, e) → age = (s.b.stitch32 + (2 ^ 32 - eMove e)) % 2 ^ 32 →
        (eStatic e = true ∨ eLearned e = false → Runs .learnApply s (fun t => t.mem = s.mem ∧ t.b.fwd = x.fwd ∧
          t.b.r Reg.FWD_LEARN_CONFLICT = satAdd 32 (s.b.r Reg.FWD_LEARN_CONFLICT) 1)) ∧
        (eStatic e = false → eLearned e = true → ePort 0 e ≠ r.port → age < s.b.r Reg.FWD_MOVE_HOLD →
          Runs .learnApply s (fun t => t.mem = s.mem ∧ t.b.fwd = x.fwd ∧
            t.b.r Reg.FWD_FLAP = satAdd 32 (s.b.r Reg.FWD_FLAP) 1)) ∧
        (eStatic e = false → eLearned e = true → ePort 0 e ≠ r.port → s.b.r Reg.FWD_MOVE_HOLD ≤ age →
          Runs .learnApply s (fun t => t.mem = s.mem ∧ t.b.fwd.learn = l ∧ t.b.r Reg.FWD_MOVED = satAdd 32 (s.b.r Reg.FWD_MOVED) 1 ∧
            ∀ j, kget (t.b.tab 0).ents j = if j = i then
              some (putBits (putBits (learnPut e r) 32 13 (s.b.learnQueue r.port)) 96 32 s.b.stitch32) else kget (s.b.tab 0).ents j))) ∧
      (∀ i e : Nat, x.findEnt 0 (256 * addrKey r.src) = some (i, e) → eStatic e = false → eLearned e = true → ePort 0 e = r.port →
        Runs .learnApply s (fun t => t.mem = s.mem ∧ t.b.fwd.learn = l ∧ t.b.r Reg.FWD_MAC_CHANGE = satAdd 32 (s.b.r Reg.FWD_MAC_CHANGE) 1 ∧
          ∀ j, kget (t.b.tab 0).ents j = if j = i then some (learnPut e r) else kget (s.b.tab 0).ents j)) ∧
      (x.findEnt 0 (256 * addrKey r.src) = none →
        (s.b.r Reg.FWD_LEARN_LIMIT ≤ s.b.r Reg.FWD_LEARNED_USED → Runs .learnApply s (fun t => t.mem = s.mem ∧ t.b.fwd = x.fwd ∧
          t.b.r Reg.FWD_LEARN_LIMIT_HIT = satAdd 32 (s.b.r Reg.FWD_LEARN_LIMIT_HIT) 1)) ∧
        (∀ (b1 : Chip) (i m : Nat), s.b.r Reg.FWD_LEARNED_USED < s.b.r Reg.FWD_LEARN_LIMIT → x.insert 0 (x.learnEnt r) false = (b1, .placed i m) →
          Runs .learnApply s (fun t => t.mem = s.mem ∧ t.b.fwd.learn = l ∧ (t.b.tab 0).ents = (b1.tab 0).ents ∧
            t.b.r Reg.FWD_LEARN_INSTALL = satAdd 32 (s.b.r Reg.FWD_LEARN_INSTALL) 1))))

/-- For a queue the Pattern has: an opening that QMG accepts puts an open item of the declared size, with the octets written as it opens, at the queue's end and counts PUSH_OK, more octets than declared closing it ABORTED; a refused one changes no queue and counts PUSH_TOO_LONG or PUSH_FULL; one for a node whose state bars it, or bound for the mesh on a STANDBY, changes no queue and counts DL_DISCARD or STBY_DL_DROP. A close within the declared size appends the octets and closes the item, one beyond it cuts it off ABORTED and counts PUSH_OVERRUN; an item that had been sent open is then released. A take with none taken marks the item the order presents, an uncorrectable data word marks it ECC, an uncorrectable tag word drops it instead; with one taken or none presented nothing changes. Release and DROP_REST of a taken item remove it, return puts it first, no longer taken; each is counted, and of an item not taken nothing changes. MAC's push to the front of a node's list adds a closed front item with its transmit header; a barred one, or one for a queue that is no NODE queue, is discarded and counted. A read-back moves a cell of up to eight words from the spill region to the head ring, where there is one and room, and words waiting in the tail ring may follow. Where gates run on its port, the scheduler may also drop items too long for every window of their class (R438). In all but the close of an item sent open, no other queue changes; for a queue beyond the Pattern nothing does (R299, R411, R413, R416 to R419, R423, R432, R482). (14_queues.md) -/
def Obligations.ItemsMoveThroughQueues : Prop :=
  ∀ (s : State) (q : Nat),
    (s.b.pat.queueCount ≤ q → ∀ (a b c : Nat) (l : List Nat) (x : Bool), exec (.itemOpen q a b ⟨c, l⟩) s = .next s ∧ exec (.itemClose q a l x) s = .next s ∧
      exec (.itemTake q a b x) s = .next s ∧ exec (.frontPush q a l) s = .next s ∧ exec (.spillReadback q) s = .next s) ∧
    (q < s.b.pat.queueCount →
    (∀ (size prio node : Nat) (bars : Bool) (l : List Nat) (i : Item), i = { id := s.b.nextItem, size := size, prio := prio % 8, node := (if (s.b.q q).consumer = CONS_NODE then node else noNode), openNs := s.b.nowNs } → bars = ((s.b.q q).consumer == CONS_NODE && decide (node < s.b.pat.nodeCount) && s.b.dlBars node false) →
      (bars = true → exec (.itemOpen q size prio ⟨node, l⟩) s = .next { s with b := s.b.inc Reg.MAC_DL_DISCARD }) ∧
      (bars = false → s.b.r Reg.SEA_ROLE = 2 → s.b.meshBound q = true → Runs (.itemOpen q size prio ⟨node, l⟩) s (fun t => t.mem = s.mem ∧
        Chip.OnlyQueue s.b t.b q ∧ Chip.Leaves s.b t.b q (s.b.q q).items ∧ t.b.r Reg.SEA_STBY_DL_DROP = satAdd 32 (s.b.r Reg.SEA_STBY_DL_DROP) 1)) ∧
      (bars = false → ¬ (s.b.r Reg.SEA_ROLE = 2 ∧ s.b.meshBound q = true) →
        ((s.b.q q).judge size = none →
          Runs (.itemOpen q size prio ⟨node, []⟩) s (fun t => t.mem = s.mem ∧ t.b.nextItem = s.b.nextItem + 1 ∧
            t.b.r Reg.QMG_PUSH_OK = satAdd 32 (s.b.r Reg.QMG_PUSH_OK) 1 ∧ Chip.OnlyQueue s.b t.b q ∧ Chip.Leaves s.b t.b q ((s.b.q q).items ++ [i])) ∧
          (s.b.nextItem ≠ 0 → (s.b.q q).find s.b.nextItem = none → l ≠ [] →
            (l.length ≤ size → Runs (.itemOpen q size prio ⟨node, l⟩) s (fun t => t.mem = s.mem ∧ Chip.OnlyQueue s.b t.b q ∧
              Chip.Leaves s.b t.b q ((s.b.q q).items ++ [{ i with data := l }]))) ∧
            (size < l.length → Runs (.itemOpen q size prio ⟨node, l⟩) s (fun t => t.mem = s.mem ∧ Chip.OnlyQueue s.b t.b q ∧
              t.b.r Reg.QMG_PUSH_OVERRUN = satAdd 32 (s.b.r Reg.QMG_PUSH_OVERRUN) 1 ∧
              Chip.Leaves s.b t.b q ((s.b.q q).items ++ [{ i with data := l.take size, closed := true, aborted := true }]))))) ∧
        ((s.b.q q).judge size = some BAD_LENGTH → Runs (.itemOpen q size prio ⟨node, l⟩) s (fun t => t.mem = s.mem ∧
          Chip.OnlyQueue s.b t.b q ∧ Chip.Leaves s.b t.b q (s.b.q q).items ∧
          t.b.r Reg.QMG_PUSH_TOO_LONG = satAdd 32 (s.b.r Reg.QMG_PUSH_TOO_LONG) 1)) ∧
        ((s.b.q q).judge size = some NO_RESOURCE → Runs (.itemOpen q size prio ⟨node, l⟩) s (fun t => t.mem = s.mem ∧
          Chip.OnlyQueue s.b t.b q ∧ Chip.Leaves s.b t.b q (s.b.q q).items ∧
          t.b.r Reg.QMG_PUSH_FULL = satAdd 32 (s.b.r Reg.QMG_PUSH_FULL) 1)))) ∧
    (∀ (id : Nat) (i : Item) (l : List Nat) (ab : Bool), (s.b.q q).find id = some i → i.closed = false →
      ((∀ e ∈ s.b.tmg.cut, ¬ (e.1 = q ∧ e.2.1 = id)) →
        (i.len + l.length ≤ i.size → Runs (.itemClose q id l ab) s (fun t => t.mem = s.mem ∧ Chip.OnlyQueue s.b t.b q ∧
          Chip.Leaves s.b t.b q ((s.b.q q).items.map (fun j => if j.id = id then { i with data := i.data ++ l, closed := true, aborted := i.aborted || ab } else j)))) ∧
        (i.size < i.len + l.length → Runs (.itemClose q id l ab) s (fun t => t.mem = s.mem ∧ Chip.OnlyQueue s.b t.b q ∧
          t.b.r Reg.QMG_PUSH_OVERRUN = satAdd 32 (s.b.r Reg.QMG_PUSH_OVERRUN) 1 ∧
          Chip.Leaves s.b t.b q ((s.b.q q).items.map (fun j => if j.id = id then { i with data := i.data ++ l.take (i.size - i.len), closed := true, aborted := true } else j))))) ∧
      ((∃ e ∈ s.b.tmg.cut, e.1 = q ∧ e.2.1 = id) → Runs (.itemClose q id l ab) s (fun t => t.mem = s.mem ∧
        Chip.Leaves s.b t.b q ((s.b.q q).items.filter (·.id != id)) ∧ (s.b.ungated q = true → t.b.r Reg.QMG_RELEASED = satAdd 32 (s.b.r Reg.QMG_RELEASED) 1)))) ∧
    (∀ (node ecc : Nat) (dram : Bool), (s.b.q q).hasTaken node = true ∨ s.b.presents q node = none → exec (.itemTake q node ecc dram) s = .next s) ∧
    (∀ (node : Nat) (i : Item) (dram : Bool), (s.b.q q).hasTaken node = false → s.b.presents q node = some i →
      (∀ ecc, ecc ≠ 2 → ecc ≠ 3 → Runs (.itemTake q node ecc dram) s (fun t => t.mem = s.mem ∧ Chip.OnlyQueue s.b t.b q ∧
        Chip.Leaves s.b t.b q ((s.b.q q).items.map (fun j => if j.id = i.id then { j with taken := true } else j)))) ∧
      Runs (.itemTake q node 2 dram) s (fun t => t.mem = s.mem ∧ Chip.OnlyQueue s.b t.b q ∧
        Chip.Leaves s.b t.b q ((s.b.q q).items.map (fun j => if j.id = i.id then { j with taken := true, ecc := true } else j))) ∧
      Runs (.itemTake q node 3 dram) s (fun t => t.mem = s.mem ∧ Chip.Leaves s.b t.b q ((s.b.q q).items.filter (·.id != i.id)) ∧
        Chip.OnlyQueue s.b t.b q ∧ (s.b.ungated q = true → t.b.r Reg.QMG_RELEASED = satAdd 32 (s.b.r Reg.QMG_RELEASED) 1))) ∧
    (∀ id, s.b.isTaken q id = false → exec (.itemRelease q id) s = .next s ∧ exec (.itemReturn q id) s = .next s ∧
      exec (.itemDropRest q id) s = .next s) ∧
    (∀ id, s.b.isTaken q id = true →
      Runs (.itemRelease q id) s (fun t => t.mem = s.mem ∧ Chip.Leaves s.b t.b q ((s.b.q q).items.filter (·.id != id)) ∧
        Chip.OnlyQueue s.b t.b q ∧ (s.b.ungated q = true → t.b.r Reg.QMG_RELEASED = satAdd 32 (s.b.r Reg.QMG_RELEASED) 1)) ∧
      (∀ i, (s.b.q q).find id = some i → Runs (.itemReturn q id) s (fun t => t.mem = s.mem ∧ t.b.r Reg.QMG_RETURNED = satAdd 32 (s.b.r Reg.QMG_RETURNED) 1 ∧
        Chip.OnlyQueue s.b t.b q ∧ Chip.Leaves s.b t.b q ({ i with taken := false } :: (s.b.q q).items.filter (·.id != id)))) ∧
      Runs (.itemDropRest q id) s (fun t => t.mem = s.mem ∧ Chip.Leaves s.b t.b q ((s.b.q q).items.filter (·.id != id)) ∧
        Chip.OnlyQueue s.b t.b q ∧ (s.b.ungated q = true → t.b.r Reg.QMG_DROP_REST_CNT = satAdd 32 (s.b.r Reg.QMG_DROP_REST_CNT) 1))) ∧
    (∀ (node : Nat) (l : List Nat), (s.b.q q).consumer ≠ CONS_NODE → node < s.b.pat.nodeCount → exec (.frontPush q node l) s =
      .next { s with b := s.b.inc Reg.MAC_DL_DISCARD }) ∧
    (∀ (node : Nat) (l : List Nat) (bars : Bool), (s.b.q q).consumer = CONS_NODE → node < s.b.pat.nodeCount →
      bars = s.b.dlBars node (s.b.sealKindOf node l == .join node) →
      (bars = true → exec (.frontPush q node l) s = .next { s with b := s.b.inc Reg.MAC_DL_DISCARD }) ∧
      (bars = false → s.b.r Reg.SEA_ROLE ≠ 2 → (s.b.q q).judge (s.b.txHeader node l ++ l).length = none → (s.b.q q).find s.b.nextItem = none → s.b.nextItem ≠ 0 →
        Runs (.frontPush q node l) s (fun t => t.mem = s.mem ∧ Chip.OnlyQueue s.b t.b q ∧ (t.b.q q).items = (s.b.q q).items ++
          [{ id := s.b.nextItem, size := (s.b.txHeader node l ++ l).length, data := s.b.txHeader node l ++ l, prio := 7, closed := true, front := true,
             node := node, openNs := s.b.nowNs }]))) ∧
    ((s.b.q q).spillW = 0 ∨ 32 < (s.b.q q).headW + 8 → exec (.spillReadback q) s = .next s) ∧
    ((s.b.q q).spillW ≠ 0 → (s.b.q q).headW + 8 ≤ 32 → Runs (.spillReadback q) s (fun t => t.mem = s.mem ∧ (t.b.q q).items = (s.b.q q).items ∧
      Chip.OnlyQueue s.b t.b q ∧ (s.b.q q).headW + min 8 (s.b.q q).spillW ≤ (t.b.q q).headW ∧
      (t.b.q q).headW + (t.b.q q).spillW + (t.b.q q).tailW = (s.b.q q).headW + (s.b.q q).spillW + (s.b.q q).tailW ∧
      ((s.b.q q).tailW < 8 → (t.b.q q).spillW = (s.b.q q).spillW - min 8 (s.b.q q).spillW ∧ (t.b.q q).tailW = (s.b.q q).tailW))))

/-- Where QMG takes a command: CONFIG_Q within the ranges and the Pattern's spill region, the consumer fitting the queue's place and either unchanged or new to an empty queue, and then not NODE or AIR_RX in a group in priority order, sets the queue's six settings, keeps its items (but for any too long for every window of a gated class, R438) and answers the spill units left; READ_Q answers settings, depth, the state of the marks and changes nothing else; DROP_REST of a HOST queue with a taken item removes it and answers its length, of one with none completes WRONG_STATE and changes nothing else; FLUSH leaves only items that are taken or open, answers the count and adds it to FLUSHED; SET_GROUP of a group of empty queues, none a NODE or AIR_RX queue for priority order, sets its order. No other queue changes. A queue or group beyond the Pattern completes BAD_ARG, changes no queue and counts in STRUCT_REJECT_CNT (R71, R412 to R414, R419, R424, R425). (14_queues.md) -/
def Obligations.QueuesAreConfigured : Prop :=
  ∀ (s : State) (irq : Bool) (n : Nat), s.b.takes cbQMG = true → n = s.b.arg cbQMG 0 →
    (n < s.b.pat.queueCount →
      (∀ cons item spill hi lo : Nat, cons = bits (s.b.arg cbQMG 1) 0 2 → item = s.b.arg cbQMG 2 → spill = s.b.arg cbQMG 3 → hi = s.b.arg cbQMG 4 →
        lo = s.b.arg cbQMG 5 → 1 ≤ item → item ≤ 65535 → spill ≤ 65536 → hi ≤ 1048575 → lo ≤ 1048575 → (cons = CONS_SCHED ↔ s.b.qParent n ≠ 0xFFFF) →
        s.b.spillReserved - (s.b.q n).spillLimit + spill ≤ s.b.pat.spillMib * 256 →
        (cons = (s.b.q n).consumer ∨ ((s.b.q n).items = [] ∧ (s.b.qPrio n = true → cons ≠ CONS_NODE ∧ cons ≠ CONS_AIR))) →
        Runs (.configQ irq) s (fun t => t.mem = s.mem ∧ (t.b.q n).consumer = cons ∧ (t.b.q n).ct = bits (s.b.arg cbQMG 1) 8 8 ∧
          (t.b.q n).itemLimit = item ∧ (t.b.q n).spillLimit = spill ∧ (t.b.q n).high = hi ∧ (t.b.q n).low = lo ∧ Chip.Leaves s.b t.b n (s.b.q n).items ∧
          Chip.OnlyQueue s.b t.b n ∧ Chip.SameBut { s.b with queues := t.b.queues, tmg := t.b.tmg, acc := t.b.acc } t.b ∧
          t.b.Completed cbQMG OK [s.b.pat.spillMib * 256 - (s.b.spillReserved - (s.b.q n).spillLimit + spill)])) ∧
      Runs (.readQ irq) s (fun t => t.mem = s.mem ∧ Chip.OnlyBlock s.b t.b cbQMG ∧ t.b.Completed cbQMG OK
        [(s.b.q n).consumer + (s.b.q n).ct * 2 ^ 8 + b2n (s.b.qPrio n) * 2 ^ 16, (s.b.q n).items.length, (s.b.q n).octets,
         ((s.b.q n).items.filter (·.taken)).length, (s.b.q n).spillUnits, (s.b.q n).itemLimit, (s.b.q n).spillLimit, (s.b.q n).high, (s.b.q n).low,
         b2n (bit (s.b.r (Reg.QMG_HI_STICKY (n / 32))) (n % 32)) + 2 * b2n (s.b.q n).hiLvl +
           4 * b2n (bit (s.b.r (Reg.QMG_LO_STICKY (n / 32))) (n % 32)) + 8 * b2n (s.b.q n).loLvl]) ∧
      ((s.b.q n).consumer = CONS_HOST → (s.b.q n).items.find? (·.taken) = none → Runs (.dropRest irq) s (fun t => t.mem = s.mem ∧
        Chip.OnlyBlock s.b t.b cbQMG ∧ t.b.Completed cbQMG WRONG_STATE [])) ∧
      (∀ i, (s.b.q n).consumer = CONS_HOST → (s.b.q n).items.find? (·.taken) = some i → Runs (.dropRest irq) s (fun t => t.mem = s.mem ∧
        (t.b.q n).items = (s.b.q n).items.filter (·.id != i.id) ∧ Chip.OnlyQueue s.b t.b n ∧ t.b.Completed cbQMG OK [i.len])) ∧
      Runs (.qFlush irq) s (fun t => t.mem = s.mem ∧ Chip.OnlyQueue s.b t.b n ∧
        t.b.r Reg.QMG_FLUSHED = satAdd 32 (s.b.r Reg.QMG_FLUSHED) ((s.b.q n).items.filter (fun j => !(j.taken || !j.closed))).length ∧
        (∀ j ∈ (t.b.q n).items, j ∈ (s.b.q n).items ∧ (j.taken = true ∨ j.closed = false)) ∧
        (((s.b.q n).items.map (·.id)).Nodup → s.b.ungated n = true → (t.b.q n).items = (s.b.q n).items.filter (fun j => j.taken || !j.closed)) ∧
        t.b.Completed cbQMG OK [((s.b.q n).items.filter (fun j => !(j.taken || !j.closed))).length])) ∧
    (∀ m, m = s.b.arg cbQMG 1 → n < s.b.pat.queueGroups → m ≤ 1 → (∀ q ∈ s.b.groupQs n, (s.b.q q).items = []) →
      (m = 1 → ∀ q ∈ s.b.groupQs n, (s.b.q q).consumer ≠ CONS_NODE ∧ (s.b.q q).consumer ≠ CONS_AIR) →
      Runs (.setGroup irq) s (fun t => t.mem = s.mem ∧ Chip.SameBut s.b t.b ∧ t.b.r (Reg.QMG_G_MODE n) = m ∧ t.b.Completed cbQMG OK [])) ∧
    (∀ w : Instr, (s.b.pat.queueCount ≤ n ∧ (w = .configQ irq ∨ w = .readQ irq ∨ w = .dropRest irq ∨ w = .qFlush irq)) ∨
      (s.b.pat.queueGroups ≤ n ∧ w = .setGroup irq) → Runs w s (fun t => t.mem = s.mem ∧ t.b.Completed cbQMG BAD_ARG [] ∧ Chip.SameBut s.b t.b ∧
        t.b.r Reg.GLB_STRUCT_REJECT_CNT = satAdd 32 (s.b.r Reg.GLB_STRUCT_REJECT_CNT) 1))

/-- A port that can accept one and is sending none takes its root's staged item, judged anew where gates run: a closed one without error leaves its queue and ITEMS_SENT rises; an open one is sent open, marked taken; one with ECC set is dropped unsent; with nothing staged nothing is sent, and with a port closed, busy or beyond 2 nothing changes. An entry's end shows the gates in force at the time reached. Once the takeover instant is reached a loaded list takes over, one still loading is marked late; not reached, or with no list staged, at most LATE_WAKE counts. The end of a latency window keeps its statistics with the stitch; with none due, or samples still to be taken, nothing changes. Where TMG takes a command: SET_CHILD sets quantum and class and answers the old quantum; GATE_WRITE writes admin entries; GATE_COMMIT, outside NAP and DROWSE, stages them and sets SWITCH_PEND; GATE_CANCEL withdraws; each changes nothing else but TMG's state, registers, the notice block and the output; READ_CHILD, GATE_READ and READ_LAT answer and change nothing else, but that READ_CHILD where gates run judges its port's queues anew (R429 to R443, R516). (15_traffic_manager.md) -/
def Obligations.SchedulerAndGates : Prop :=
  ∀ s : State,
    (∀ (p m k q id : Nat) (i : Item) (x : Chip), x = s.b.rejudge p → p ≤ 2 → q < 8192 → s.b.portRoot p = some m → s.b.portOpen p = true →
      s.b.sending p = false → kget x.tmg.staged m = some (k, q, id) → (x.q q).find id = some i →
      (i.ecc = false → i.closed = true → Runs (.egressDequeue p) s (fun t => t.mem = s.mem ∧ Chip.OnlyQueue x t.b q ∧
        Chip.Leaves x t.b q ((x.q q).items.filter (·.id != id)) ∧ t.b.r (Reg.TMG_ITEMS_SENT p) = satAdd 32 (x.r (Reg.TMG_ITEMS_SENT p)) 1)) ∧
      (i.ecc = false → i.closed = false → Runs (.egressDequeue p) s (fun t => t.mem = s.mem ∧ Chip.OnlyQueue x t.b q ∧
        t.b.tmg.cut = (q, id, x.charged p i) :: x.tmg.cut ∧ t.b.r (Reg.TMG_ITEMS_SENT p) = satAdd 32 (x.r (Reg.TMG_ITEMS_SENT p)) 1 ∧
        Chip.Leaves x t.b q ((x.q q).items.map (fun j => if j.id = id then { j with taken := true } else j)))) ∧
      (i.ecc = true → Runs (.egressDequeue p) s (fun t => t.mem = s.mem ∧ Chip.OnlyQueue x t.b q ∧ t.b.out = s.b.out ∧
        Chip.Leaves x t.b q ((x.q q).items.filter (·.id != id))))) ∧
    (∀ p, 2 < p ∨ s.b.portRoot p = none ∨ s.b.portOpen p = false ∨ s.b.sending p = true → exec (.egressDequeue p) s = .next s) ∧
    (∀ p m, p ≤ 2 → s.b.portRoot p = some m → s.b.portOpen p = true → s.b.sending p = false → kget (s.b.rejudge p).tmg.staged m = none →
      exec (.egressDequeue p) s = .next { s with b := s.b.rejudge p }) ∧
    (∀ p, 2 ≤ p → s.b.pwr.busyTo ≤ s.b.nowNs → exec (.gateEntryChange p) s = .next s) ∧
    (∀ p, p < 2 → Runs (.gateEntryChange p) s (fun t => t.mem = s.mem ∧ t.b.gates p = s.b.gates p ∧
      t.b.r (Reg.TMG_GATE_STATE p) =
      (if s.b.t (Reg.TMG_GATE_EN p) then gateOf ((s.b.gates p).entries.getD ((s.b.gates p).pos t.b.nowNs).1 0) else 0xFF)) ∧
      (kget s.b.tmg.swap p = none → s.b.pwr.busyTo ≤ s.b.nowNs → exec (.gateTakeover p) s = .next s) ∧
      (∀ (x : GateSwap) (b0 b1 : Chip), kget s.b.tmg.swap p = some x → b0 = s.b.lateWake 1 →
        b1 = (if s.b.nowNs < x.takeover then b0.passTo (x.takeover * nsU) else b0) →
        (b1.nowNs < x.takeover → exec (.gateTakeover p) s = .next { s with b := b0 }) ∧
        (x.takeover ≤ b1.nowNs → x.loaded = true → Runs (.gateTakeover p) s (fun t => t.mem = s.mem ∧ t.b.gates p = x.list ∧
          kget t.b.tmg.swap p = none ∧ t.b.r (Reg.TMG_SWITCH_PEND p) = 0 ∧
          t.b.r (Reg.TMG_GATE_SWITCHES p) = satAdd 32 (b1.r (Reg.TMG_GATE_SWITCHES p)) 1)) ∧
        (x.takeover ≤ b1.nowNs → x.loaded = false → exec (.gateTakeover p) s = .next { s with b :=
          { b1 with tmg := { b1.tmg with swap := kput b1.tmg.swap p { x with late := true } } } }))) ∧
    (s.b.tmg.winDue = false ∨ s.b.tmg.frozen ≠ [] → exec .latencyWindowEnd s = .next s) ∧
    (s.b.tmg.winDue = true → s.b.tmg.frozen = [] → Runs .latencyWindowEnd s (fun t => t.mem = s.mem ∧ t.b.regs = s.b.regs ∧ t.b.tmg.lat = [] ∧ t.b.tmg.winDue = false ∧
      ∀ (q : Nat) (w : LatWin), (q, w) ∈ s.b.tmg.lat → (∀ e ∈ s.b.tmg.lat, e.1 = q → e.2 = w) → kget t.b.tmg.last q = some (s.b.stitch32, w))) ∧
    (∀ (irq : Bool) (p : Nat), s.b.takes cbTMG = true → p = s.b.arg cbTMG 0 →
      (∀ k, s.b.argChild = some k → 64 ≤ s.b.arg cbTMG 2 → s.b.arg cbTMG 2 ≤ 65535 → (k < 0x10000 → s.b.qParent k ≠ 0xFFFF) →
        Runs (.setChild irq) s (fun t => t.mem = s.mem ∧ (t.b.child k).quantum = s.b.arg cbTMG 2 ∧
          (t.b.child k).cls = (if k < 0x10000 then bits (s.b.arg cbTMG 3) 0 3 else (s.b.child k).cls) ∧ Chip.SameBut { s.b with tmg := t.b.tmg, queues := t.b.queues, acc := t.b.acc } t.b ∧
          t.b.Completed cbTMG OK [(s.b.child k).quantum])) ∧
      (∀ (k m : Nat) (x : Chip) (l : List Nat), s.b.argChild = some k → m = s.b.parentOf k →
        x = (if m = 0xFFFF then s.b.cmdAccept cbTMG irq else (s.b.cmdAccept cbTMG irq).rejudge (s.b.nodePort m)) → l = kgetD x.tmg.active m [] →
        Runs (.readChild irq) s (fun t => t.mem = s.mem ∧ Chip.OnlyBlock x t.b cbTMG ∧ t.b.Completed cbTMG OK [(x.child k).quantum, (x.child k).deficit,
          b2n (l.contains k) + 2 * b2n (l.head? == some k && x.tmg.turn.contains m) + 4 * b2n ((kget x.tmg.staged m).map (·.1) == some k),
          (x.child k).cls])) ∧
      (∀ (first n : Nat) (w : List Nat), first = s.b.arg cbTMG 1 → n = s.b.arg cbTMG 2 → w = ((s.b.args cbTMG).drop 3).take n → p < 2 → first ≤ 255 →
        1 ≤ n → n ≤ 12 → first + n ≤ 256 → (∀ e ∈ w, intervalNs e ≠ 0) → s.b.t (Reg.TMG_SWITCH_PEND p) = false →
        Runs (.gateWrite irq) s (fun t => t.mem = s.mem ∧ t.b.Completed cbTMG OK [n] ∧ Chip.SameBut { s.b with tmg := t.b.tmg } t.b ∧ t.b.tmg.oper = s.b.tmg.oper ∧
          ∀ j, t.b.adminEntry p j = if first ≤ j ∧ j < first + n then w.getD (j - first) 0 else s.b.adminEntry p j)) ∧
      (∀ (len cyc base tk : Nat), s.b.Awake → p < 2 → len = s.b.arg cbTMG 1 → cyc = s.b.arg cbTMG 2 → 1000 ≤ cyc → cyc ≤ 1000000000 → s.b.arg cbTMG 3 ≤ 999999999 →
        1 ≤ len → len ≤ 256 → s.b.t (Reg.TMG_SWITCH_PEND p) = false →
        base = (s.b.arg cbTMG 4 + s.b.arg cbTMG 5 % 2 ^ 16 * 2 ^ 32) * 1000000000 + s.b.arg cbTMG 3 →
        tk = (if s.b.nowNs < base then base else base + cdiv (s.b.nowNs + 500000 - base) cyc * cyc) →
        Runs (.gateCommit irq) s (fun t => t.mem = s.mem ∧ t.b.r (Reg.TMG_SWITCH_PEND p) = 1 ∧ kget t.b.tmg.swap p =
          some { list := { entries := (List.range len).map (s.b.adminEntry p), cycle := cyc, base := base }, takeover := tk, loaded := false } ∧
          Chip.SameBut { s.b with tmg := t.b.tmg } t.b ∧ t.b.Completed cbTMG OK [tk % 1000000000, tk / 1000000000 % 2 ^ 32, tk / 1000000000 / 2 ^ 32])) ∧
      (p < 2 → s.b.t (Reg.TMG_SWITCH_PEND p) = true → Runs (.gateCancel irq) s (fun t => t.mem = s.mem ∧ kget t.b.tmg.swap p = none ∧
        t.b.r (Reg.TMG_SWITCH_PEND p) = 0 ∧ t.b.gates p = s.b.gates p ∧ Chip.SameBut { s.b with tmg := t.b.tmg } t.b ∧ t.b.Completed cbTMG OK [])) ∧
      (p < 2 → s.b.arg cbTMG 1 = 0 → s.b.arg cbTMG 2 ≤ 255 → Runs (.gateRead irq) s (fun t => t.mem = s.mem ∧ Chip.OnlyBlock s.b t.b cbTMG ∧
        t.b.Completed cbTMG OK [(s.b.gates p).entries.getD (s.b.arg cbTMG 2) 0, (s.b.gates p).entries.length, (s.b.gates p).cycle])) ∧
      (p < 2 → s.b.arg cbTMG 1 = 1 → s.b.arg cbTMG 2 ≤ 255 → Runs (.gateRead irq) s (fun t => t.mem = s.mem ∧ Chip.OnlyBlock s.b t.b cbTMG ∧
        t.b.Completed cbTMG OK [s.b.adminEntry p (s.b.arg cbTMG 2), ((kget s.b.tmg.swap p).map (·.list.entries.length)).getD 0,
          ((kget s.b.tmg.swap p).map (·.list.cycle)).getD 0])) ∧
      (∀ (st : Nat) (w : LatWin) (f : Stat → List Nat), p < s.b.pat.queueCount → kget s.b.tmg.last p = some (st, w) →
        f = (fun x => [x.mn, x.mx, x.sum / w.n]) → Runs (.readLat irq) s (fun t => t.mem = s.mem ∧ Chip.OnlyBlock s.b t.b cbTMG ∧
          t.b.Completed cbTMG OK ([st, w.n] ++ f w.depth ++ f w.items ++ f w.soj))))

/-- A SUBMIT whose record is sound and whose operation may run answers in its own step, the record in the response buffer. SVC_CTRL starts or stops services (a stop of adaptation stops those that need it); CTX_SET and CTX_READ write and read a compression context; RPL_CFG sets the stopped root's instance, RPL_ROUTE answers a node's path, RPL_REPAIR raises the version; REG_READ and REG_REMOVE answer and remove a registration; IMG_WRITE appends to a slot, IMG_CLOSE closes one whose hash agrees (else AUTH_FAIL), IMG_ERASE empties one; CAMP_START with arguments in range, a closed slot, images RUNNING, a BROADCAST cell of the band and a frame that fits starts a campaign, CAMP_STATUS and CAMP_RESULT answer it, CAMP_STOP ends it ABORTED; POLL answers a ticket and, once its operation has finished, ends it, and answers NOT_FOUND without one. What the operation does not name is unchanged but for the command block. An operation that the checks before it refuse answers their code, a record of the wrong length completes BAD_LENGTH, and neither changes anything else; an operation that needs more than a second has the same effect, keeps its response and leaves the command BUSY, and with eight tickets open answers NO_RESOURCE. A SUBMIT that runs for a second answers BUSY with a new ticket, with none running nothing changes; a ticket ends 60 s after its completion, and not before (R446, R448, R453 to R465). (16_mesh_services.md) -/
def Obligations.MailboxOperationsAnswer : Prop :=
  ∀ (s : State) (irq : Bool) (l : List Nat),
    (∀ (op : Nat) (w : Instr) (late : Bool), (op, w) ∈ mailRows irq late →
      (∀ c, s.Sends l → s.b.opCheck op = some c → Runs w s (fun t => s.Replies t s.b op c [])) ∧
      (s.b.starting = false → s.b.safe = false → s.b.t (cbBUSY cbSVC) = false → (s.b.arg cbSVC 0 < 16 ∨ 4096 < s.b.arg cbSVC 0 ∨
          s.b.arg cbSVC 0 ≠ fldLE (s.mem.read reqBuf (s.b.arg cbSVC 0)) 8 4 + 16) →
        Runs w s (fun t => t.mem = s.mem ∧ Chip.OnlyBlock s.b t.b cbSVC ∧ t.b.Completed cbSVC BAD_LENGTH [])) ∧
      (late = true → s.Asks op l → 8 ≤ s.b.svc.tickets.length → Runs w s (fun t => s.Replies t s.b op NO_RESOURCE [])) ∧
      (∀ o, late = true → s.Asks op l → s.b.svc.tickets.length < 8 → o = s.b.opRun op l → Runs w s (fun t => t.mem = s.mem ∧ t.b.t (cbBUSY cbSVC) = true ∧
        Chip.OnlyBlock (o.b.withSvc { o.b.svc with running := some (respRec op o.status (fldLE (s.mem.read reqBuf (s.b.arg cbSVC 0)) 4 4) 0 o.body) }) t.b cbSVC)) ∧
      (∀ o, late = false → s.Asks op l → o = s.b.opRun op l → Runs w s (fun t => s.Replies t o.b op o.status o.body))) ∧
    (∀ m v : Nat, s.Asks 0x01 l → m = fldLE l 4 4 → 8 ≤ l.length → andNot m s.b.pat.svcMask = 0 →
      ((l.headD 0 = 1 ∧ v = orN (s.b.r Reg.SVC_RUNNING) m ∧ (bit m 1 = true ∨ bit m 2 = true → bit v 0 = true)) ∨
        (l.headD 0 = 0 ∧ v = andNot (s.b.r Reg.SVC_RUNNING) (if bit m 0 then orN m 6 else m))) →
      Runs (.svcCtrl irq false) s (fun t => t.b.r Reg.SVC_RUNNING = v % 2 ^ 5 ∧ s.Replies t (s.b.setRunning v) 0x01 OK (leBytes (v % 2 ^ 5) 4))) ∧
    (∀ i, s.Asks 0x02 l → i = l.headD 0 → 32 ≤ l.length → i ≤ 15 → l.getD 1 0 ≤ 128 →
      Runs (.svcCtxSet irq false) s (fun t => s.Replies t (s.b.withSvc { s.b.svc with ctxs := kput s.b.svc.ctxs i (
        { len := l.getD 1 0, valid := bit (l.getD 2 0) 0, prefix_ := slice l 16 16 } : CompCtx) }).keepSvc 0x02 OK [])) ∧
    (∀ x, s.Asks 0x03 l → l ≠ [] → l.headD 0 ≤ 15 → x = kgetD s.b.svc.ctxs (l.headD 0) { len := 0, valid := false, prefix_ := List.replicate 16 0 } →
      Runs (.svcCtxRead irq false) s (fun t => s.Replies t s.b 0x03 OK ([l.headD 0, x.len, b2n x.valid] ++ List.replicate 13 0 ++ x.prefix_))) ∧
    (s.Asks 0x10 l → 32 ≤ l.length → 6 ≤ l.getD 1 0 → l.getD 1 0 ≤ 20 → 1 ≤ l.getD 2 0 → l.getD 2 0 ≤ 20 → l.getD 3 0 ≤ 15 → s.b.svcOn 1 = false →
      Runs (.rplCfg irq false) s (fun t => s.Replies t (s.b.withSvc { s.b.svc with rpl :=
        { s.b.svc.rpl with
            inst := l.getD 0 0, imin := l.getD 1 0, doublings := l.getD 2 0, redundancy := l.getD 3 0, minRank := fldLE l 4 2, maxRank := fldLE l 6 2,
            life := l.getD 8 0, unit := fldLE l 10 2, dodag := slice l 16 16, set := true, grown := 0, due := [] } }).keepSvc 0x10 OK [])) ∧
    (∀ n p, s.Asks 0x11 l → 4 ≤ l.length → n = fldLE l 0 4 → n < s.b.pat.nodeCount → s.b.routePath n = some p →
      Runs (.rplRoute irq false) s (fun t => Chip.OnlyNamed s.b t.b cbSVC ∧ s.Answers t 0x11 OK ([p.length, 0, 0, 0] ++ p.flatMap (fun n => leBytes n 4)))) ∧
    (∀ v, s.Asks 0x12 l → s.b.svcOn 1 = true → v = (s.b.svc.rpl.version + 1) % 256 → Runs (.rplRepair irq false) s (fun t =>
      s.Replies t (s.b.withSvc { s.b.svc with rpl := { s.b.svc.rpl with version := v, grown := 0 } }).keepSvc 0x12 OK [v])) ∧
    (∀ r, s.Asks 0x20 l → s.b.svc.regs.find? (fun r => r.addr == beNat (slice l 0 16)) = some r →
      Runs (.regRead irq false) s (fun t => s.Replies t s.b 0x20 OK
        (leBytes r.node 4 ++ beBytes r.rovr 8 ++ [r.tid, 0, 0, 0] ++ leBytes ((r.deadline - s.b.nowNs) / 60000000000) 4))) ∧
    (∀ a, s.Asks 0x21 l → a = beNat (slice l 0 16) → s.b.svc.regs.any (fun r => r.addr == a) = true → Runs (.regRemove irq false) s (fun t =>
      t.b.svc = { s.b.svc with regs := s.b.svc.regs.filter (fun r => r.addr != a) } ∧ s.Replies t (s.b.regDrop a) 0x21 OK [])) ∧
    (∀ (i size n : Nat) (old : ImgSlot), s.Asks 0x30 l → i = l.headD 0 → size = fldLE l 4 4 → n = fldLE l 12 4 →
      old = (if bit (l.getD 1 0) 0 then { size := size, data := [] } else kgetD s.b.svc.slots i { size := size, data := [] }) →
      16 ≤ l.length → i ≤ 7 → 1 ≤ n → n ≤ 4064 → l.length = 16 + n → fldLE l 8 4 + n ≤ size → size ≤ s.b.slotOctets →
      fldLE l 8 4 = old.data.length → old.size = size → s.b.slotBusy i = false →
      Runs (.imgWrite irq false) s (fun t => s.Replies t (s.b.withSvc { s.b.svc with slots := kput s.b.svc.slots i { size := size, data := old.data ++ l.drop 16 } })
        0x30 OK (leBytes (old.data.length + n) 4))) ∧
    (∀ (i : Nat) (x : ImgSlot), s.Asks 0x31 l → i = l.headD 0 → 48 ≤ l.length → i ≤ 7 → kget s.b.svc.slots i = some x → s.b.slotBusy i = false →
      x.data.length = x.size →
      (sha256 x.data = slice l 16 32 → Runs (.imgClose irq false) s (fun t => s.Replies t (s.b.withSvc { s.b.svc with slots := (kput s.b.svc.slots i
          { size := x.size, data := x.data, closed := true, imageId := fldLE l 4 4, version := fldLE l 8 4 }) }) 0x31 OK [])) ∧
      (sha256 x.data ≠ slice l 16 32 → Runs (.imgClose irq false) s (fun t => s.Replies t s.b 0x31 AUTH_FAIL []))) ∧
    (s.Asks 0x32 l → l ≠ [] → l.headD 0 ≤ 7 → s.b.slotBusy (l.headD 0) = false → Runs (.imgErase irq false) s (fun t =>
      s.Replies t (s.b.withSvc { s.b.svc with slots := kdel s.b.svc.slots (l.headD 0) }) 0x32 OK [])) ∧
    (∀ (k i d m mcs blk rounds sf cnt len total : Nat) (x : ImgSlot) (targets : List Nat), s.Asks 0x38 l →
      k = l.getD 0 0 → i = l.getD 1 0 → d = l.getD 2 0 → m = l.getD 3 0 → mcs = l.getD 4 0 → blk = fldLE l 6 2 → rounds = l.getD 8 0 → sf = l.getD 9 0 → cnt = fldLE l 10 2 → l.length = 16 + 4 * cnt →
      k ≤ 3 → i ≤ 7 → d ≤ 2 → s.b.modeOn d m = true → mcsOk d m mcs = true → 64 ≤ blk → blk ≤ 1024 → blk % 16 = 0 → 1 ≤ rounds → rounds ≤ 32 → 1 ≤ sf →
      sf ≤ 16 → cnt ≤ 1016 → (∀ j, j < cnt → fldLE l (16 + 4 * j) 4 < s.b.pat.nodeCount) →
      (∀ c : Camp, kget s.b.svc.camps k = some c → c.on = false) → kget s.b.svc.slots i = some x → x.closed = true → s.b.svcOn 3 = true → s.b.bcastCell d = true →
      len = blk + 37 + fcsLen d + micLen (s.b.sealLevel .bcast).1 → s.b.r Reg.SCH_TX_OFFSET_US + airUs d m mcs false 8 len + 100 ≤ s.b.slotUs →
      len ≤ (if d = 2 then 127 else s.b.pat.maxPsdu) → total = cdiv x.size blk →
      targets = (if cnt = 0 then (s.b.mac.nodes.filter (fun e => cx e.2 Cx.BAND == d && (cx e.2 Cx.STATE == 3 || cx e.2 Cx.STATE == 4))).map (·.1)
        else (List.range cnt).map (fun j => fldLE l (16 + 4 * j) 4)) →
      Runs (.campStart irq false) s (fun t => s.Replies t (s.b.putCamp k
        { phase := 1, slot := i, band := d, mode := m, mcs := mcs, block := blk, maxRounds := rounds, statusSf := sf, round := 1, status := 0,
          targets := targets.map (fun n => (n, 0)), left := List.range total, setSize := total }) 0x38 OK (leBytes total 2 ++ [0, 0] ++ leBytes targets.length 4))) ∧
    (∀ k, k = l.headD 0 → k ≤ 3 →
      (s.Asks 0x39 l → l ≠ [] → kget s.b.svc.camps k = none → Runs (.campStatus irq false) s (fun t => s.Replies t s.b 0x39 OK (List.replicate 18 0))) ∧
      (∀ c : Camp, kget s.b.svc.camps k = some c →
        (s.Asks 0x39 l → l ≠ [] → Runs (.campStatus irq false) s (fun t => s.Replies t s.b 0x39 OK ([c.phase, c.round, c.status, 0] ++
          leBytes (c.targets.filter (fun y => y.2 == 1)).length 4 ++ leBytes (c.targets.filter (fun y => y.2 == 2)).length 4 ++
          leBytes (c.targets.filter (fun y => y.2 == 0 || y.2 == 3)).length 4 ++ leBytes c.setSize 2))) ∧
        (s.Asks 0x3A l → l ≠ [] → c.on = true → Runs (.campStop irq false) s (fun t => s.Replies t (s.b.campEnd k ABORTED) 0x3A OK [] ∧
          kget t.b.svc.camps k = some { c with phase := 3, status := ABORTED })) ∧
        (s.Asks 0x3B l → 8 ≤ l.length → fldLE l 4 4 % 1024 = 0 → c.phase ≠ 0 → Runs (.campResult irq false) s (fun t =>
          s.Replies t s.b 0x3B OK (packStates c.targets (fldLE l 4 4)))))) ∧
    (∀ (req : List Nat) (k : Nat) (x : Ticket), s.Asks 0xF0 l → req = s.mem.read reqBuf (s.b.arg cbSVC 0) → k = fldLE req 12 4 →
      kget s.b.svc.tickets k = some x →
      Runs (.svcPoll irq true) s (fun t => Chip.OnlyBlock (s.b.withSvc { s.b.svc with tickets := kdel s.b.svc.tickets k }) t.b cbSVC ∧
        t.mem = s.mem.write rspBuf (respRec 0xF0 (respStatus x.resp) (fldLE req 4 4) k (x.resp.drop 16)) ∧
        t.b.Completed cbSVC (respStatus x.resp % 2 ^ 8) [16 + (x.resp.drop 16).length]) ∧
      Runs (.svcPoll irq false) s (fun t => Chip.OnlyBlock s.b t.b cbSVC ∧ t.mem = s.mem.write rspBuf (respRec 0xF0 BUSY (fldLE req 4 4) k []) ∧
        t.b.Completed cbSVC BUSY [16])) ∧
    (∀ fin : Bool, s.Asks 0xF0 l → kget s.b.svc.tickets (fldLE (s.mem.read reqBuf (s.b.arg cbSVC 0)) 12 4) = none →
      Runs (.svcPoll irq fin) s (fun t => s.Replies t s.b 0xF0 NOT_FOUND [])) ∧
    (s.b.svc.running = none → exec .mailboxTimeout s = .next s) ∧
    (∀ r, s.b.svc.running = some r → Runs .mailboxTimeout s (fun t => Chip.OnlyBlock (s.b.withSvc { s.b.svc with
          running := none
          tickets := kput s.b.svc.tickets s.b.svc.nextTicket { resp := r, doneNs := s.b.nowNs }
          nextTicket := if s.b.svc.nextTicket + 1 < 2 ^ 32 then s.b.svc.nextTicket + 1 else 1 }) t.b cbSVC ∧
      t.mem = s.mem.write rspBuf (respRec (fldLE r 0 2) BUSY (fldLE r 4 4) s.b.svc.nextTicket []) ∧ t.b.Completed cbSVC BUSY [16])) ∧
    (∀ (k : Nat) (x : Ticket), kget s.b.svc.tickets k = some x → x.doneNs + 60000000000 ≤ s.b.nowNs → Runs (.ticketExpiry k) s (fun t => t.mem = s.mem ∧
      t.b = s.b.withSvc { s.b.svc with tickets := kdel s.b.svc.tickets k })) ∧
    (∀ k : Nat, (∀ x : Ticket, kget s.b.svc.tickets k = some x → s.b.nowNs < x.doneNs + 60000000000) → exec (.ticketExpiry k) s = .next s)

/-- With its service RUNNING, each takes its first message: a DAO that is new, has a lifetime and makes no loop keeps the route and the node's parent; a multicast DIS restarts Trickle, a unicast one is answered with a DIO; a new registration of a linked node within the limit is kept and answered with status 0; a node's report merges the blocks it misses or marks it DONE or FAILED, one of no campaign is ignored. A Trickle interval's end makes a DIO due in each band; routes (whose nodes lose their parent), registrations and reassemblies whose time has passed end and are counted, no others. A fragment beyond its datagram and a first one that does not decompress are errors, one of a new datagram opens a context, one that completes its datagram sends the packet on. The first downlink packet goes to its node as a frame where it fits, as fragments where not; above 2,047 octets it is too big, answered to the port it came from, and without a route it is counted. A campaign's collection with nodes pending takes another round, with the blocks merged or the last one, else the campaign ends OK. With no message, fragment or packet waiting, no collection at its end, no time passed, or the service stopped or (Trickle, routes) the device not serving, nothing changes; a message that reaches a stopped service is only taken out (R450 to R461). (16_mesh_services.md) -/
def Obligations.ServicesWork : Prop :=
  ∀ s : State,
    (∀ (v : Nat) (w : Instr), (v, w) ∈ [(1, Instr.dao), (1, .dis), (2, .neighborSolicitation), (2, .edar), (3, .imgStatus)] →
      s.b.svc.intake.find? (fun x => x.svc == v) = none → exec w s = .next s) ∧
    (∀ (v : Nat) (x : Intake) (w : Instr), s.b.svc.intake.find? (fun x => x.svc == v) = some x → s.b.svcOn v = false →
      ((v, w) = (1, Instr.dao) ∧ icmpCode x.data = 2) ∨ ((v, w) = (1, Instr.dis) ∧ icmpCode x.data = 0) ∨
        ((v, w) = (2, Instr.neighborSolicitation) ∧ icmpType x.data = 135) ∨ ((v, w) = (2, Instr.edar) ∧ icmpType x.data = 157) →
      exec w s = .next { s with b := s.b.withSvc { s.b.svc with intake := s.b.svc.intake.erase x } }) ∧
    (s.b.svcOn 1 = false ∨ s.b.svc.rpl.set = false ∨ s.b.serves = false → exec .trickleTimer s = .next s) ∧
    (s.b.serves = false → exec .routeLifetimeExpiry s = .next s) ∧ (s.b.svc.frags = [] → exec .fragment s = .next s) ∧
    (s.b.adapt = [] ∨ s.b.svcOn 0 = false → exec .adaptationDownlink s = .next s) ∧
    (∀ k, (∀ c : Camp, kget s.b.svc.camps k = some c → c.phase ≠ 2 ∨ c.collect ≠ 0) → exec (.campaignCollectEnd k) s = .next s) ∧
    (∀ (x : Intake) (base : List Nat) (opts : List (Nat × List Nat)) (e : Nat × List Nat) (tr : List Nat) (more : List (List Nat)) (n p seq : Nat) (route : RouteSt),
      s.b.svc.intake.find? (fun x => x.svc == 1) = some x → icmpCode x.data = 2 → s.b.svcOn 1 = true → base = slice x.data 44 4 →
      opts = rplOptions (x.data.drop (48 + if bit (base.getD 1 0) 6 then 16 else 0)) 64 → opts.find? (fun e => e.1 == 5) = some e →
      s.b.addrNode (beNat (slice e.2 2 16)) = some n → (opts.filter (fun e => e.1 == 6)).map (·.2) = tr :: more → s.b.transitParent tr = some p →
      n < 2 ^ 17 → p < 2 ^ 17 → seq = base.getD 3 0 → ((kgetD s.b.svc.routes n {}).seq.all (fun y => lollipopNewer seq y)) = true → tr.getD 3 0 ≠ 0 →
      s.b.above n p (s.b.mac.nodes.length + 2) = false → route = { seq := some seq, deadline := some (s.b.nowNs + tr.getD 3 0 * s.b.svc.rpl.unit * 1000000000) } →
      Runs .dao s (fun t => t.mem = s.mem ∧ t.b.svc.intake = s.b.svc.intake.erase x ∧ t.b.nd n Cx.PARENT = p ∧
        t.b.svc.routes = kput s.b.svc.routes n route ∧ t.b.r Reg.SVC_DAO_OK = satAdd 32 (s.b.r Reg.SVC_DAO_OK) 1 ∧
        (more = [] → bit (base.getD 1 0) 7 = false → t.b = ((s.b.withSvc { s.b.svc with
          intake := s.b.svc.intake.erase x, routes := kput s.b.svc.routes n route }).setParent n p).inc Reg.SVC_DAO_OK))) ∧
    (∀ (x : Intake) (b0 : Chip), s.b.svc.intake.find? (fun x => x.svc == 1) = some x → icmpCode x.data = 0 → s.b.svcOn 1 = true →
      b0 = s.b.withSvc { s.b.svc with intake := s.b.svc.intake.erase x } →
      (ipDst x.data = allRpl → Runs .dis s (fun t => t.mem = s.mem ∧ t.b = b0.withSvc { b0.svc with rpl := { s.b.svc.rpl with grown := 0 } })) ∧
      (ipDst x.data ≠ allRpl → Runs .dis s (fun t => t.mem = s.mem ∧
        t.b = (if s.b.svc.rpl.set ∧ s.b.serves then b0.adaptTo x.node (s.b.dio (ipSrc x.data)) none else b0)))) ∧
    (s.b.svcOn 1 = true → s.b.svc.rpl.set = true → s.b.serves = true → Runs .trickleTimer s (fun t => t.mem = s.mem ∧
      t.b = s.b.withSvc { s.b.svc with rpl := { s.b.svc.rpl with
        due := [0, 1, 2].filter (fun d => (bandLanes d).any s.b.laneExists), grown := min s.b.svc.rpl.doublings (s.b.svc.rpl.grown + 1) } })) ∧
    (∀ gone : List Nat, s.b.serves = true →
      gone = (s.b.svc.routes.filter (fun e => e.2.deadline.any (fun d => decide (d ≤ s.b.nowNs)))).map (·.1) →
      (gone = [] → exec .routeLifetimeExpiry s = .next s) ∧
      Runs .routeLifetimeExpiry s (fun t => t.mem = s.mem ∧ t.b.r Reg.SVC_ROUTE_EXPIRED = satAdd 32 (s.b.r Reg.SVC_ROUTE_EXPIRED) gone.length ∧
        (∀ n, n ∈ gone → n < 2 ^ 17 → t.b.nd n Cx.PARENT = nodeNone) ∧ (∀ n, n ∉ gone → kget t.b.svc.routes n = kget s.b.svc.routes n) ∧
        ∀ (n d : Nat) (r : RouteSt), kget t.b.svc.routes n = some r → r.deadline = some d → s.b.nowNs < d)) ∧
    (∀ (x : Intake) (o : List Nat) (a rovr n life tid c : Nat) (r : Regn) (b0 b1 b2 : Chip), s.b.svc.intake.find? (fun x => x.svc == 2) = some x →
      s.b.svcOn 2 = true → s.b.linkedEui rovr = some n → s.b.svc.regs.find? (fun r => r.addr == a) = none →
      (s.b.svc.regs.filter (fun r => r.node == n)).length < s.b.r Reg.SVC_REG_MAX_PER_NODE → b0 = s.b.withSvc { s.b.svc with intake := s.b.svc.intake.erase x } →
      b0.nodeEntry 0 (addrKey a) n = (b1, c) → c = OK ∨ c = EXISTS → life ≠ 0 →
      r = { addr := a, node := n, rovr := rovr, tid := tid, deadline := s.b.nowNs + life * 60000000000 } → b2 = (b1.putRegs (r :: s.b.svc.regs)).inc Reg.SVC_REG_OK →
      (icmpType x.data = 135 → earo x.data = some o → o.length = 14 → a = beNat (slice x.data 48 16) → rovr = beNat (slice o 6 8) → life = beNat (slice o 4 2) →
        tid = o.getD 3 0 → Runs .neighborSolicitation s (fun t => t.mem = s.mem ∧ t.b.svc.regs = r :: s.b.svc.regs ∧
          t.b = b2.tell x.node (icmp (ipDst x.data) (ipSrc x.data) 136 0 ([0xC0, 0, 0, 0] ++ slice x.data 48 16 ++ [33, 2, 0] ++ o.drop 1)))) ∧
      (icmpType x.data = 157 → icmpCode x.data % 16 = 1 → a = beNat (slice x.data 56 16) → rovr = beNat (slice x.data 48 8) → life = beNat (slice x.data 46 2) →
        tid = x.data.getD 45 0 → Runs .edar s (fun t => t.mem = s.mem ∧ t.b.svc.regs = r :: s.b.svc.regs ∧
          t.b = b2.tell ((b2.addrNode (ipSrc x.data)).getD x.node) (icmp (ipDst x.data) (ipSrc x.data) 158 (icmpCode x.data) ([0] ++ x.data.drop 45))))) ∧
    (∀ gone : List Regn, gone = s.b.svc.regs.filter (fun r => decide (r.deadline ≤ s.b.nowNs)) → (gone = [] → exec .registrationExpiry s = .next s) ∧
      Runs .registrationExpiry s (fun t => t.mem = s.mem ∧ t.b.r Reg.SVC_REG_EXPIRED = satAdd 32 (s.b.r Reg.SVC_REG_EXPIRED) gone.length ∧
        t.b.svc.regs = s.b.svc.regs.filter (fun r => gone.all (fun g => g.addr != r.addr)))) ∧
    Runs .reassemblyTimeout s (fun t => t.mem = s.mem ∧ t.b.svc.reasm = s.b.svc.reasm.filter (fun r => decide (s.b.nowNs < r.deadline)) ∧
      t.b.r Reg.SVC_REASM_TIMEOUT = satAdd 32 (s.b.r Reg.SVC_REASM_TIMEOUT) (s.b.svc.reasm.length - t.b.svc.reasm.length) ∧
      Chip.OnlyRegs (s.b.withSvc { s.b.svc with reasm := t.b.svc.reasm }) t.b [Reg.SVC_REASM_USED, Reg.SVC_REASM_TIMEOUT]) ∧
    (∀ (m : MeshIn) (l d : List Nat) (fx : List Fix) (rest : List MeshIn) (size tag off : Nat) (b0 : Chip), s.b.svc.frags = m :: rest → l = m.data →
      size = beNat (l.take 2) % 2048 → size ≠ 0 → tag = beNat (slice l 2 2) → b0 = s.b.withSvc { s.b.svc with frags := rest } →
      (l.headD 0 / 8 = 24 → s.b.decomp m (l.drop 4) = none → Runs .fragment s (fun t => t.mem = s.mem ∧ t.b = b0.inc Reg.SVC_DECOMP_ERR)) ∧
      ((l.headD 0 / 8 = 24 ∧ s.b.decomp m (l.drop 4) = some (d, fx) ∧ off = 0) ∨ (l.headD 0 / 8 ≠ 24 ∧ (d, fx) = (l.drop 5, []) ∧ off = 8 * l.getD 4 0) →
        (size < off + d.length → Runs .fragment s (fun t => t.mem = s.mem ∧
          t.b = (b0.putReasm (s.b.svc.reasm.filter (fun r => !(r.eui == s.b.eui m.node && r.size == size && r.tag == tag)))).inc Reg.SVC_REASM_ERR)) ∧
        (off + d.length ≤ size → (off ≠ 0 ∨ d.length < size) → s.b.svc.reasm.length < 4096 →
          (∀ r ∈ s.b.svc.reasm, ¬ (r.eui = s.b.eui m.node ∧ r.size = size ∧ r.tag = tag)) →
          Runs .fragment s (fun t => t.mem = s.mem ∧ t.b = b0.putReasm (
            { eui := s.b.eui m.node, size := size, tag := tag, parts := [(off, d)], fixes := fx,
              deadline := s.b.nowNs + s.b.r Reg.SVC_REASM_TIMEOUT_S * 1000000000 } :: s.b.svc.reasm))) ∧
        (∀ (r : Reasm) (whole : List Nat), s.b.svc.reasm = [r] → r.eui = s.b.eui m.node → r.size = size → r.tag = tag → off + d.length ≤ size →
          (∀ e ∈ r.parts, e.1 + e.2.length ≤ off ∨ off + d.length ≤ e.1) → d ≠ [] → whole = joinParts ((off, d) :: r.parts) 0 (r.parts.length + 2) →
          size ≤ whole.length → Runs .fragment s (fun t => t.mem = s.mem ∧
            t.b = ((b0.putReasm []).inc Reg.SVC_REASM_OK).meshPacket m.node (settleFixes whole (r.fixes ++ fx)))))) ∧
    (∀ (a : AdaptIn) (l : List AdaptIn) (n : Nat) (b1 : Chip), s.b.adapt = a :: l → s.b.svcOn 0 = true → a.node = some n →
      b1 = Chip.touch { s.b with adapt := l } 0 (256 * addrKey (ipDst a.data)) →
      (2047 < a.data.length → Runs .adaptationDownlink s (fun t => t.mem = s.mem ∧
        (a.port = none → t.b = b1.inc Reg.SVC_TOO_BIG) ∧
        (∀ p eui, a.port = some (p, eui) → t.b = (b1.inc Reg.SVC_TOO_BIG).ethSend p (leBytes eui 6 ++ s.b.station p ++ [0x86, 0xDD] ++
          icmp (if s.b.svc.rpl.set then s.b.dodag else linkLocal Config.deviceEui) (ipSrc a.data) 2 0 (beBytes 1280 4 ++ a.data.take 1232))))) ∧
      (a.data.length ≤ 2047 → s.b.routePath n = none → Runs .adaptationDownlink s (fun t => t.mem = s.mem ∧
        t.b = (b1.inc Reg.SVC_NO_ROUTE).noteFirst N.NO_ROUTE n 1)) ∧
      (∀ (c : List Nat) (fs : List (List Nat)), a.data.length ≤ 2047 → s.b.routePath n = some [n] →
        c = packIp s.b.compCtxs (shortIid (s.b.r Reg.MAC_SHORT_ADDR)) (linkIid (s.b.nodeDst n).1 (s.b.nodeDst n).2) a.data →
        (s.b.frameOver n + c.length ≤ s.b.fragPsdu (s.b.nd n Cx.BAND) → Runs .adaptationDownlink s (fun t => t.mem = s.mem ∧
          t.b = (b1.dlPush n (b1.nodeFrame n [] c) (ipPrio a.data) false).b)) ∧
        (s.b.fragPsdu (s.b.nd n Cx.BAND) < s.b.frameOver n + c.length →
          fs = fragments a.data.length s.b.svc.fragTag (s.b.fragPsdu (s.b.nd n Cx.BAND) - s.b.frameOver n) c → Runs .adaptationDownlink s (fun t => t.mem = s.mem ∧
          t.b = fs.foldl (fun c f => (c.dlPush n (c.nodeFrame n [] f) (ipPrio a.data) false).b)
            (b1.withSvc { s.b.svc with fragTag := (s.b.svc.fragTag + 1) % 65536 }))))) ∧
    (∀ (x : Intake) (b0 : Chip) (mine : Nat × Camp → Bool), s.b.svc.intake.find? (fun x => x.svc == 3) = some x →
      b0 = s.b.withSvc { s.b.svc with intake := s.b.svc.intake.erase x } →
      mine = (fun e => e.2.on && (s.b.campSlot e.2).imageId == fldLE x.data 0 4 && (s.b.campSlot e.2).version == fldLE x.data 4 4 &&
        e.2.targets.any (fun y => y.1 == x.node)) →
      (s.b.svc.camps.find? mine = none → Runs .imgStatus s (fun t => t.mem = s.mem ∧ t.b = b0.inc Reg.SVC_IMG_IGNORED)) ∧
      (∀ (k : Nat) (c : Camp), s.b.svc.camps.find? mine = some (k, c) →
        (c.phase ≠ 2 ∨ 3 < x.data.getD 8 0 → Runs .imgStatus s (fun t => t.mem = s.mem ∧ t.b = b0)) ∧
        (c.phase = 2 → x.data.getD 8 0 = 0 → Runs .imgStatus s (fun t => t.mem = s.mem ∧
          t.b = b0.putCamp k { c with next := (missing x.data (c.blocks (s.b.campSlot c).size)).foldl (fun a n => insertNat n a) c.next })) ∧
        (c.phase = 2 → 1 ≤ x.data.getD 8 0 → x.data.getD 8 0 ≤ 3 → Runs .imgStatus s (fun t => t.mem = s.mem ∧ t.b = b0.putCamp k
          { c with targets := c.targets.map (fun y => if y.1 = x.node then (y.1, if x.data.getD 8 0 = 1 then 1 else 2) else y) })))) ∧
    (∀ (k : Nat) (c : Camp), kget s.b.svc.camps k = some c → c.phase = 2 → c.collect = 0 →
      (c.targets.any (fun y => y.2 == 0) = true → c.round < c.maxRounds → Runs (.campaignCollectEnd k) s (fun t => t.mem = s.mem ∧
        ∀ l, l = (if c.next.isEmpty then [c.blocks (s.b.campSlot c).size - 1] else c.next) →
          t.b = s.b.putCamp k { c with phase := 1, round := c.round + 1, left := l, setSize := l.length, next := [] })) ∧
      ((c.targets.any (fun y => y.2 == 0) = false ∨ c.maxRounds ≤ c.round) → Runs (.campaignCollectEnd k) s (fun t => t.mem = s.mem ∧ t.b = s.b.campEnd k OK ∧
        kget t.b.svc.camps k = some { c with phase := 3, status := OK, targets := c.targets.map (fun y => (y.1, if y.2 = 0 then 3 else y.2)) })))

/-- With the Seam side off, OUT or not in lock a frame changes nothing; one whose FCS or TAG fails, or without the pair key, is discarded and counted. A record of an unpaired device or another number than the expected is only acknowledged; of the number expected, a device that is no STANDBY keeps and acknowledges the number alone. A STANDBY applies each record of the frame: CONTEXT sets a node's context, CELLS its cells and no other, POCKET a pocket, whose key the pair pocket unwraps, or empties it, and one that does not unwrap is counted and makes MIRROR STALE, CEILING a counter's ceiling (never lowering it in one epoch), ROUTE a route with its seconds left, REG a registration, or removes it with 0 minutes left, KEYSTATE the node epoch and the owner table, CONFIG the pair beacons, the compression contexts and the RPL settings; each but BULK_MARK and HANDOVER counts in REC_APPLIED, and in MIRROR_SEQ or, in a pass, in BULK_ITEMS. BULK_MARK 0 begins a pass and 1 ends it, removing the routes and registrations it has not carried, without a pass it changes nothing else; a HANDOVER is held. A HELLO that fits pairs and ends a PAIR command OK, one that does not ends it WRONG_STATE; a HEARTBEAT is the stitch's and its partner is shown (R470, R471, R477 to R482, R488). (17_twin_operation.md) -/
def Obligations.SeamRecordsApply : Prop :=
  ∀ (s : State) (h : SeamHdr) (r : SeamRec) (l : List Nat), r = seamRecord h → l = r.body →
    (∀ (k : Nat) (w : Instr), (k, w) ∈ (2, Instr.heartbeat h.toSeamOct h.toSeamEnd) :: seamRows h →
      (s.b.seamOn = false ∨ s.b.role = 4 ∨ s.b.t Reg.SEA_BLOCK_LOCK = false → exec w s = .next s) ∧
      (s.b.seamOn = true → s.b.role ≠ 4 → s.b.t Reg.SEA_BLOCK_LOCK = true → s.b.tagOk h = false →
        exec w s = .next { s with b := s.b.inc Reg.SEA_TAG_FAIL })) ∧
    (∀ (k : Nat) (w : Instr) (b1 : Chip), (k, w) ∈ seamRows h → r.kind = k → b1 = s.b.seamAck (seamAckOf h) → s.b.seamOn = true → s.b.role ≠ 4 →
      s.b.t Reg.SEA_BLOCK_LOCK = true → s.b.tagOk h = true →
      (s.b.t Reg.SEA_PAIRED = false ∨ seamSeq h = seqNone ∨ (h.index = 0 ∧ seamSeq h ≠ s.b.sea.seqIn) ∨
          (h.index ≠ 0 ∧ (seamSeq h ≠ s.b.sea.ackOut ∨ s.b.isStandby = false)) → exec w s = .next { s with b := b1 }) ∧
      (s.b.t Reg.SEA_PAIRED = true → seamSeq h ≠ seqNone → h.index = 0 → seamSeq h = s.b.sea.seqIn → s.b.isStandby = false →
        exec w s = .next { s with b := { b1 with sea := { b1.sea with seqIn := seqNext (seamSeq h), ackOut := seamSeq h } } })) ∧
    (s.b.seamOn = true → s.b.role ≠ 4 → s.b.t Reg.SEA_BLOCK_LOCK = true → s.b.tagOk h = true →
      (r.kind = 1 → s.b.pairDiff l = none → Runs (.hello h.toSeamOct h.toSeamEnd) s (fun t => t.mem = s.mem ∧ t.b.t Reg.SEA_PAIRED = true ∧
        t.b.r Reg.SEA_PEER_EUI_HI = beNat ((slice l 32 8).take 4) % 2 ^ 32 ∧ t.b.r Reg.SEA_PEER_EUI_LO = beNat ((slice l 32 8).drop 4) % 2 ^ 32 ∧
        t.b.r Reg.SEA_PEER_EPOCH = max (fldLE l 24 4) (s.b.r Reg.SEA_PEER_EPOCH) % 2 ^ 32 ∧ t.b.sea.pairLeft = none ∧ t.b.sea.hello = false ∧
        t.b.sea.seqOut = 0 ∧ t.b.sea.seqIn = 0 ∧ t.b.sea.ackOut = seqNone ∧
        (s.b.sea.pairLeft ≠ none → t.b.Completed cbSEA OK [l.getD 20 0, t.b.r Reg.SEA_PEER_EPOCH, t.b.r Reg.SEA_PEER_EUI_LO, t.b.r Reg.SEA_PEER_EUI_HI]))) ∧
      (r.kind = 1 → s.b.pairDiff l ≠ none → Runs (.hello h.toSeamOct h.toSeamEnd) s (fun t => t.mem = s.mem ∧ t.b.t Reg.SEA_PAIRED = false ∧ t.b.sea.pairLeft = none ∧
        t.b.sea.hello = false ∧ (s.b.sea.pairLeft ≠ none → t.b.Completed cbSEA WRONG_STATE []))) ∧
      (r.kind = 2 → Runs (.heartbeat h.toSeamOct h.toSeamEnd) s (fun t => t.mem = s.mem ∧ t.b.sea.hb = true ∧ t.b.sea.peer = some (readBeat l) ∧ t.b.r Reg.SEA_MISS_RUN = 0 ∧
        t.b.r Reg.SEA_PEER_EPOCH = max (fldLE l 8 4) (s.b.r Reg.SEA_PEER_EPOCH) % 2 ^ 32))) ∧
    (s.b.SeamTakes h →
      (r.kind = 3 → r.item < s.b.pat.nodeCount → Runs (.contextRecord h.toSeamOct h.tag h.index) s (fun t => t.mem = s.mem ∧ t.b.node r.item = leNat (l.take 256) ∧ s.b.Applied t.b h)) ∧
      (r.kind = 4 → Runs (.cellsRecord h.toSeamOct h.tag h.index) s (fun t => t.mem = s.mem ∧ s.b.Applied t.b h ∧
        (∀ j, j < l.length / 4 → r.item + j < s.b.pat.weaveCells → t.b.cell (r.item + j) = (toWords l (l.length / 4)).getD j 0) ∧
        ∀ m, m < r.item ∨ r.item + l.length / 4 ≤ m ∨ s.b.pat.weaveCells ≤ m → t.b.cell m = s.b.cell m)) ∧
      (∀ (p st typ : Nat) (w : List Nat), r.kind = 5 → p = r.item → st = bits (l.headD 0) 0 3 → typ = l.getD 1 0 % 16 → w = slice l 32 (keyLen typ + 8) →
        (4095 < p ∨ (s.b.t Reg.SEA_PAIR_PK_EN = true ∧ p = s.b.r Reg.SEA_PAIR_POCKET) → Runs (.pocketRecord h.fcsOk h.octets h.tag h.index) s (fun t => t.mem = s.mem ∧
          t.b.key = s.b.key ∧ s.b.Applied t.b h)) ∧
        (p ≤ 4095 → ¬ (s.b.t Reg.SEA_PAIR_PK_EN = true ∧ p = s.b.r Reg.SEA_PAIR_POCKET) →
          (st = 0 ∨ 4 < st → Runs (.pocketRecord h.fcsOk h.octets h.tag h.index) s (fun t => t.mem = s.mem ∧ t.b.pocket p = none ∧ s.b.Applied t.b h)) ∧
          (1 ≤ st → st ≤ 4 → allZero w = false → s.b.pairKey.bind (fun k => kwUnwrap (keyOctets k) w) = none → Runs (.pocketRecord h.fcsOk h.octets h.tag h.index) s (fun t => t.mem = s.mem ∧
            t.b.key = s.b.key ∧ t.b.r Reg.SEA_TAG_FAIL = satAdd 32 (s.b.r Reg.SEA_TAG_FAIL) 1 ∧ t.b.r Reg.SEA_MIRROR = 3 ∧ s.b.Applied t.b h)) ∧
          (∀ k : List Nat, 1 ≤ st → st ≤ 4 →
            (allZero w = true ∧ k = []) ∨ (allZero w = false ∧ s.b.pairKey.bind (fun k => kwUnwrap (keyOctets k) w) = some k) →
            Runs (.pocketRecord h.fcsOk h.octets h.tag h.index) s (fun t => t.mem = s.mem ∧ s.b.Applied t.b h ∧ ∃ x : Pocket,
              t.b.pocket p = some x ∧ x.state = st ∧ x.typ = typ ∧ x.usage = fldLE l 2 2 ∧ x.parent = fldLE l 4 2 ∧ x.partner = fldLE l 6 2 ∧
              x.epoch = fldLE l 8 4 ∧ x.stateStitch = fldLE l 16 4 ∧ x.retireAt = fldLE l 20 4 ∧ x.key = (if k.isEmpty then none else some (.raw k)) ∧
              x.wrapped = (if k.isEmpty then [] else ((s.b.wrapOctets (fldLE l 4 2)).map (fun w => kwWrap w k)).getD []))))) ∧
      (∀ c : Nat, r.kind = 6 → c = (match kget s.b.sec.ceil r.item with
          | some o => if o.epoch = fldLE l 0 4 then max o.ceiling (fldLE l 4 4) else fldLE l 4 4
          | none => fldLE l 4 4) →
        Runs (.ceilingRecord h.toSeamOct h.tag h.index) s (fun t => t.mem = s.mem ∧ t.b.sec.ceil = kput s.b.sec.ceil r.item { epoch := fldLE l 0 4, ceiling := c } ∧ s.b.Applied t.b h)) ∧
      (r.kind = 7 → Runs (.routeRecord h.toSeamOct h.tag h.index) s (fun t => t.mem = s.mem ∧ s.b.Applied t.b h ∧ t.b.svc.routes = kput s.b.svc.routes r.item
        { seq := some (l.headD 0), deadline := if fldLE l 4 4 = 0 then none else some (s.b.nowNs + fldLE l 4 4 * 1000000000) })) ∧
      (∀ a : Nat, r.kind = 8 → a = beNat (slice l 0 16) → Runs (.regRecord h.toSeamOct h.tag h.index) s (fun t => t.mem = s.mem ∧ s.b.Applied t.b h ∧ t.b.svc.regs =
        (if fldLE l 28 4 = 0 then [] else [Regn.mk a r.item (beNat (slice l 16 8)) (l.getD 24 0)
          (s.b.nowNs + fldLE l 28 4 * 60000000000)]) ++ s.b.svc.regs.filter (fun r => r.addr != a))) ∧
      (r.kind = 9 → Runs (.keystateRecord h.toSeamOct h.toSeamEnd) s (fun t => t.mem = s.mem ∧ s.b.Applied t.b h ∧ t.b.key.nodeEpoch = fldLE l 0 4 ∧
        t.b.r Reg.KEY_NODE_EPOCH = fldLE l 0 4 % 2 ^ 32 ∧
        t.b.key.owners = ((List.range 4).map (fun i => slice l (4 + 32 * i) 32)).filter (fun h => !allZero h) ∧ t.b.key.pockets = s.b.key.pockets)) ∧
      (r.kind = 10 → Runs (.configRecord h.toSeamOct h.toSeamEnd) s (fun t => t.mem = s.mem ∧ s.b.Applied t.b h ∧ t.b.t Reg.SCH_PAIR_EN = bit (fldLE l 0 4) 0 ∧
        t.b.r Reg.SCH_PAIR_COL = bits (fldLE l 0 4) 16 10 ∧ t.b.svc.ctxs = (putCtxs s.b (slice l 4 512) 16).svc.ctxs ∧ t.b.svc.rpl.inst = l.getD 516 0 ∧
        t.b.svc.rpl.imin = l.getD 517 0 ∧ t.b.svc.rpl.dodag = slice (slice l 516 32) 16 16)) ∧
      (r.kind = 11 → r.item = 0 → Runs (.bulkMarkRecord h.toSeamOct h.toSeamEnd) s (fun t => t.mem = s.mem ∧ t.b.sea.seqIn = seqNext (seamSeq h) ∧ t.b.sea.ackOut = seamSeq h ∧
        t.b.r Reg.SEA_MIRROR = 1 ∧ t.b.r Reg.SEA_BULK_ITEMS = 0 ∧ t.b.sea.pass = some ([], []))) ∧
      (∀ rts rgs : List Nat, r.kind = 11 → r.item ≠ 0 → s.b.sea.pass = some (rts, rgs) → Runs (.bulkMarkRecord h.toSeamOct h.toSeamEnd) s (fun t => t.mem = s.mem ∧
        t.b.sea.seqIn = seqNext (seamSeq h) ∧ t.b.sea.ackOut = seamSeq h ∧ t.b.sea.pass = none ∧ t.b.t Reg.SEA_BASED = true ∧
        t.b.r Reg.SEA_BULK_PASSES = satAdd 32 (s.b.r Reg.SEA_BULK_PASSES) 1 ∧
        t.b.svc.routes = s.b.svc.routes.filter (fun e => rts.contains e.1) ∧ ∀ r, r ∈ t.b.svc.regs ↔ r ∈ s.b.svc.regs ∧ rgs.contains r.addr = true)) ∧
      (r.kind = 11 → r.item ≠ 0 → s.b.sea.pass = none → Runs (.bulkMarkRecord h.toSeamOct h.toSeamEnd) s (fun t => t.mem = s.mem ∧ t.b = { s.b with sea := t.b.sea } ∧
        t.b.sea.pass = none ∧ t.b.sea.seqIn = seqNext (seamSeq h) ∧ t.b.sea.ackOut = seamSeq h)) ∧
      (r.kind = 12 → Runs (.handoverRecord h.toSeamOct h.toSeamEnd) s (fun t => t.mem = s.mem ∧ t.b = { s.b with sea := t.b.sea } ∧ t.b.sea.seqIn = seqNext (seamSeq h) ∧
        t.b.sea.ackOut = seamSeq h ∧ t.b.sea.hand = some (fldLE l 0 8, fldLE l 8 4))))

/-- Where the Seam side is off, SEA's commands complete WRONG_STATE and the Seam's timed events change nothing. Else, where SEA takes a command: without lock (PAIR), with CLAIM_IN high or in ROLE ACTIVE or OUT (CLAIM), without the mirror's conditions (HANDOVER) and in another ROLE or unpaired (RESYNC) it completes WRONG_STATE, PAIR without the pair key KEY_INVALID; where its conditions hold: PAIR runs with HELLO for 40 stitches; CLAIM runs with CLAIM_OUT driven; HANDOVER runs, its record with slot and new epoch sent in a sequenced frame; RESYNC of a paired STANDBY makes MIRROR STALE and completes OK. A claim sampled with CLAIM_IN high is released and counts lost, one of CLAIM completes ABORTED, another is kept to be tried again after 1 or 4 stitches; with it low the device becomes ACTIVE at the epoch above both known ones; at the highest epoch CLAIM completes NO_RESOURCE. An abandoned claim is driven again where it may, else dropped. A rising CLAIM_IN sends a LISTEN device to STANDBY. The listen timer's end claims where it may. Frames two stitches old go out again. Loss of block lock unpairs; lock begins HELLO, where AUTO_PAIR is set. A pulse of the partner gives SKEW_NS, and the 16th in a row above the limit alarms. At the boundary of a handover's slot the STANDBY claims and the ACTIVE that has seen HO_READY becomes STANDBY and counts HANDOVERS, one that has not keeps its ROLE and ends the command ABORTED. An event with nothing to do changes nothing (R471 to R489). (17_twin_operation.md) -/
def Obligations.SeamCommandsAndClaims : Prop :=
  ∀ s : State,
    (s.b.seamOn = false →
      (∀ (irq : Bool) (w : Instr), s.b.takes cbSEA = true → w ∈ [.pair irq, .claim irq, .handover irq, .resync irq] → Runs w s (fun t =>
        t.mem = s.mem ∧ Chip.OnlyBlock s.b t.b cbSEA ∧ t.b.Completed cbSEA WRONG_STATE [])) ∧
      (∀ (w : Instr) (k : Int), w ∈ [.claimRetry, .listenTimeout, .seamRetransmit, .ssyncEdge k, .handoverSwitch] → exec w s = .next s)) ∧
    (s.b.seamOn = true →
    (∀ irq : Bool, s.b.takes cbSEA = true →
      (s.b.t Reg.SEA_BLOCK_LOCK = true → s.b.pairKey.isSome = true → Runs (.pair irq) s (fun t => t.mem = s.mem ∧ t.b.t (cbBUSY cbSEA) = true ∧
        t.b.sea = { s.b.sea with hello := true, pairLeft := some 40 })) ∧
      (s.b.t Reg.SEA_BLOCK_LOCK = true → s.b.pairKey = none → Runs (.pair irq) s (fun t => t.mem = s.mem ∧ t.b.Completed cbSEA KEY_INVALID [])) ∧
      (∀ w : Instr, (w = .pair irq ∧ s.b.t Reg.SEA_BLOCK_LOCK = false) ∨ (w = .claim irq ∧ (s.b.t Reg.SEA_CLAIM_IN = true ∨ s.b.role = 3 ∨ s.b.role = 4)) ∨
          (w = .handover irq ∧ (s.b.mirrorOn = false ∨ 4 < s.b.r Reg.SEA_LAG ∨ s.b.sea.okRun < 8)) ∨
          (w = .resync irq ∧ (s.b.role ≠ 2 ∨ s.b.t Reg.SEA_PAIRED = false)) → Runs w s (fun t =>
        t.mem = s.mem ∧ Chip.OnlyBlock s.b t.b cbSEA ∧ t.b.Completed cbSEA WRONG_STATE [])) ∧
      (s.b.role = 1 ∨ s.b.role = 2 → s.b.t Reg.SEA_CLAIM_IN = false → within8 s.b.sea.actAge = false → s.b.sea.claim = none →
        (s.b.t Reg.SEA_BASED = true ∨ bit (s.b.arg cbSEA 0) 0 = true) → Runs (.claim irq) s (fun t => t.mem = s.mem ∧ t.b.t (cbBUSY cbSEA) = true ∧
          t.b.t Reg.SEA_CLAIM_OUT = true ∧ t.b.sea = { s.b.sea with claim := some (3, true), retry := none })) ∧
      (∀ (p : Beat) (slot e : Nat) (k : List Nat), s.b.mirrorOn = true → s.b.sea.peer = some p → p.role = 2 → p.mirror = 2 → s.b.r Reg.SEA_LAG ≤ 4 → 8 ≤ s.b.sea.okRun →
        s.b.r Reg.SEA_PAIR_EPOCH ≠ 2 ^ 32 - 1 → slot = cdiv (cdiv (s.b.nowNs + 250000) 250000 + 1) (max 1 s.b.pat.slotStitches) + 1 → e = s.b.r Reg.SEA_PAIR_EPOCH + 1 → s.b.seamKey = some k →
        Runs (.handover irq) s (fun t => t.mem = s.mem ∧ t.b.t (cbBUSY cbSEA) = true ∧ t.b.sea.hand = some (slot, e) ∧ t.b.sea.hoSeen = false ∧
          t.b.sea.seqOut = seqNext s.b.sea.seqOut ∧ t.b.out.head? = some (.seam (seamFrame k s.b.sea.seqOut s.b.sea.ackOut s.b.stitch32
            [{ kind := 12, body := leBytes slot 8 ++ leBytes e 4 ++ [0, 0, 0, 0] }])))) ∧
      (s.b.role = 2 → s.b.t Reg.SEA_PAIRED = true → Runs (.resync irq) s (fun t => t.mem = s.mem ∧ t.b.sea = { s.b.sea with ended := false } ∧ t.b.r Reg.SEA_MIRROR = 3 ∧
        t.b.Completed cbSEA OK []))) ∧
    (s.b.sea.claim = none → exec .claimInSample s = .next s) ∧
    (∀ (cause e : Nat) (cmd : Bool), s.b.sea.claim = some (cause, cmd) → e = max (s.b.r Reg.SEA_PAIR_EPOCH) (s.b.r Reg.SEA_PEER_EPOCH) + 1 →
      (s.b.t Reg.SEA_CLAIM_IN = true → Runs .claimInSample s (fun t => t.mem = s.mem ∧ t.b.t Reg.SEA_CLAIM_OUT = false ∧ t.b.sea.claim = none ∧
        t.b.role = s.b.role ∧ t.b.r Reg.SEA_CLAIMS_LOST = satAdd 32 (s.b.r Reg.SEA_CLAIMS_LOST) 1 ∧ (cmd = true → t.b.Completed cbSEA ABORTED []) ∧
        (cmd = false → t.b.sea = { s.b.sea with claim := none, retry := some (if s.b.ownEui < s.b.peerEui then 1 else 4, cause) }))) ∧
      (e < 2 ^ 32 → s.b.t Reg.SEA_CLAIM_IN = false →
        Runs .claimInSample s (fun t => t.mem = s.mem ∧ t.b.role = 3 ∧ t.b.r Reg.SEA_PAIR_EPOCH = e ∧ t.b.nv.pairEpoch = e ∧ t.b.nv.stbyRec = false ∧
          t.b.r Reg.SEC_PARITY = 1 + e % 2 ∧ t.b.r Reg.SEA_MIRROR = 0 ∧ t.b.sea.claim = none ∧ (cause ≠ 4 → t.b.sec.live = []) ∧
          t.b.r Reg.SEA_CLAIMS = satAdd 32 (s.b.r Reg.SEA_CLAIMS) 1 ∧ (cmd = true → t.b.Completed cbSEA OK [e, s.b.servedFrom % 2 ^ 32]))) ∧
      (2 ^ 32 ≤ e → s.b.t Reg.SEA_CLAIM_IN = false → Runs .claimInSample s (fun t => t.mem = s.mem ∧ t.b.role = s.b.role ∧
        t.b.t Reg.SEA_CLAIM_OUT = false ∧ t.b.sea = { s.b.sea with claim := none } ∧ (cmd = true → t.b.Completed cbSEA NO_RESOURCE [])))) ∧
    ((∀ c, s.b.sea.retry ≠ some (0, c)) → exec .claimRetry s = .next s) ∧ (s.b.sea.listen ≠ some 0 ∨ s.b.role ≠ 1 → exec .listenTimeout s = .next s) ∧
    (s.b.t Reg.SEA_BLOCK_LOCK = false → exec .seamRetransmit s = .next s) ∧ (∀ k, s.b.sea.edge.isSome = true → exec (.ssyncEdge k) s = .next s) ∧
    ((∀ slot e : Nat, s.b.sea.hand = some (slot, e) → s.b.tim.stitch < slot * max 1 s.b.pat.slotStitches - 1) → exec .handoverSwitch s = .next s) ∧
    (∀ cause, s.b.sea.retry = some (0, cause) →
      (s.b.claimOk cause = true → Runs .claimRetry s (fun t => t.mem = s.mem ∧ t.b.t Reg.SEA_CLAIM_OUT = true ∧
        t.b.sea = { s.b.sea with claim := some (cause, false), retry := none })) ∧
      (s.b.claimOk cause = false → Runs .claimRetry s (fun t => t.mem = s.mem ∧ t.b = { s.b with sea := { s.b.sea with retry := none, hand := if cause = 4 then none else s.b.sea.hand } }))) ∧
    (s.b.t Reg.SEA_CLAIM_IN = false → s.b.role = 1 → s.b.pairKey.isSome = true → Runs (.claimInChange true) s (fun t => t.mem = s.mem ∧
      t.b.t Reg.SEA_CLAIM_IN = true ∧ t.b.sea = { s.b.sea with toStandby := true })) ∧
    exec (.claimInChange false) s = .next { s with b := s.b.wb Reg.SEA_CLAIM_IN false } ∧
    (s.b.t Reg.SEA_CLAIM_IN = true → exec (.claimInChange true) s = .next { s with b := s.b.wb Reg.SEA_CLAIM_IN true }) ∧
    (s.b.sea.listen = some 0 → s.b.role = 1 → Runs .listenTimeout s (fun t => t.mem = s.mem ∧ t.b.sea.listen = none ∧
      (s.b.claimOk 1 = true → t.b.sea.claim = some (1, false) ∧ t.b.t Reg.SEA_CLAIM_OUT = true) ∧ (s.b.claimOk 1 = false → t.b.sea.claim = s.b.sea.claim))) ∧
    (∀ l : List SeamF, s.b.t Reg.SEA_BLOCK_LOCK = true → l = s.b.sea.waiting.dropWhile (fun f => decide (f.age < 2)) → Runs .seamRetransmit s (fun t =>
      t.mem = s.mem ∧ t.b.r Reg.SEA_RETRANSMIT = satAdd 32 (s.b.r Reg.SEA_RETRANSMIT) l.length ∧
      (∀ k, s.b.seamKey = some k →
        t.b.out = (l.map (fun f => Out.seam (seamFrame k f.seq s.b.sea.ackOut s.b.stitch32 f.recs))).reverse ++ s.b.out) ∧
      (s.b.seamKey = none → t.b.out = s.b.out))) ∧
    Runs (.seamBlockLock false) s (fun t => t.mem = s.mem ∧ t.b = ((s.b.wb Reg.SEA_BLOCK_LOCK false).wb Reg.SEA_PAIRED false).modSea (fun x => { x with pass := none })) ∧
    (s.b.role ≠ 4 → s.b.t Reg.SEA_AUTO_PAIR = true → Runs (.seamBlockLock true) s (fun t => t.mem = s.mem ∧ t.b.t Reg.SEA_BLOCK_LOCK = true ∧
      t.b.sea.hello = true)) ∧
    (s.b.role = 4 ∨ s.b.t Reg.SEA_AUTO_PAIR = false → exec (.seamBlockLock true) s = .next { s with b := s.b.wb Reg.SEA_BLOCK_LOCK true }) ∧
    (∀ skew : Int, s.b.sea.edge = none →
      (skew.natAbs ≤ s.b.r Reg.SEA_SKEW_LIMIT_NS → Runs (.ssyncEdge skew) s (fun t => t.mem = s.mem ∧ t.b = (s.b.ws Reg.SEA_SKEW_NS skew).modSea
        (fun x => { x with edge := some skew, above := 0, within := min 16 (x.within + 1) }))) ∧
      (s.b.r Reg.SEA_SKEW_LIMIT_NS < skew.natAbs →
        (s.b.sea.above < 15 → Runs (.ssyncEdge skew) s (fun t => t.mem = s.mem ∧ t.b.rs Reg.SEA_SKEW_NS = toS (ofS skew 32) 32 ∧
          t.b.sea.above = s.b.sea.above + 1 ∧ t.b.r Reg.SEA_SKEW_ALARMS = s.b.r Reg.SEA_SKEW_ALARMS)) ∧
        (15 ≤ s.b.sea.above → 16 ≤ s.b.sea.within → Runs (.ssyncEdge skew) s (fun t => t.mem = s.mem ∧ t.b.sea.within = 0 ∧
          t.b.r Reg.SEA_SKEW_ALARMS = satAdd 32 (s.b.r Reg.SEA_SKEW_ALARMS) 1)) ∧
        (15 ≤ s.b.sea.above → s.b.sea.within < 16 → Runs (.ssyncEdge skew) s (fun t => t.mem = s.mem ∧ t.b.sea.above = 16 ∧
          t.b.r Reg.SEA_SKEW_ALARMS = s.b.r Reg.SEA_SKEW_ALARMS)))) ∧
    (∀ slot e : Nat, s.b.sea.hand = some (slot, e) → slot * max 1 s.b.pat.slotStitches - 1 ≤ s.b.tim.stitch →
      (s.b.role = 2 → s.b.sea.claim = none → Runs .handoverSwitch s (fun t => t.mem = s.mem ∧ t.b.t Reg.SEA_CLAIM_OUT = true ∧
        t.b.sea = { s.b.sea with claim := some (4, false), retry := none })) ∧
      (s.b.role = 3 → s.b.pat.queueCount ≤ 8192 → s.b.sea.hoSeen = true → s.b.r Reg.SEA_MISS_RUN < 8 → Runs .handoverSwitch s (fun t => t.mem = s.mem ∧
        t.b.role = 2 ∧ t.b.r Reg.SEA_MIRROR = 2 ∧ t.b.t Reg.SEA_BASED = true ∧ t.b.gap = false ∧ t.b.sea.hand = none ∧
        t.b.r Reg.SEA_HANDOVERS = satAdd 32 (s.b.r Reg.SEA_HANDOVERS) 1 ∧ t.b.Completed cbSEA OK [slot % 2 ^ 32, e])) ∧
      (s.b.role = 3 → s.b.sea.hoSeen = false ∨ 8 ≤ s.b.r Reg.SEA_MISS_RUN → Runs .handoverSwitch s (fun t => t.mem = s.mem ∧ t.b.role = 3 ∧
        t.b.gap = false ∧ t.b.sea.hand = none ∧ t.b.r Reg.SEA_HANDOVERS = s.b.r Reg.SEA_HANDOVERS ∧ t.b.Completed cbSEA ABORTED []))))

/-- Where UPD takes a command: a chunk of INSTALL that passes its checks is appended to the bank that is not CURRENT, PHASE shows INSTALLING and the octets so far, and after the last one the bundle is judged, PHASE is IDLE and LAST_RESULT is the code; one that fails answers its code and loads nothing; ACTIVATE whose checks pass begins STAGING and stays BUSY, its conditions not met it completes WRONG_STATE and counts ACT_FAIL, with a context above the new structure WRONG_STATE, with a migration missing VERSION_MISMATCH; READ_BANK and READ_PART answer and change nothing else; REVERT makes the other set CURRENT, a warm start being due, or completes WRONG_STATE. CANCEL in STAGING or WAITING ends the activation ABORTED and completes OK; in PAUSED, and with no activation, it answers WRONG_STATE. Staging that ends OK plans the pause, or ends NO_RESOURCE where there is no window, else ends the activation with its code. At t0 the pause begins: chains muted, cells stopped. At the boundary the other bank and its Pattern become CURRENT with TRIAL set. Microcode and images report; with all up, service resumes, TRIAL clears and ACTIVATE completes OK with its results. At 40 ms without that, the set before comes back, the activated one INVALID. Out of its phase each of these events changes nothing (R64, R498, R501 to R507). (18_device_update.md) -/
def Obligations.UpdatesInstallAndActivate : Prop :=
  ∀ s : State,
    (∀ irq : Bool, s.b.takes cbUPD = true → s.b.starting = false →
      (∀ (stored : Bool) (chunk : List Nat) (n o : Nat), s.b.chunkBad cbUPD s.b.upd.load = none → s.b.ready = true → s.b.r Reg.UPD_PHASE ≤ 1 →
        bit (s.b.arg cbUPD 3) 1 = false → n = s.b.arg cbUPD 1 + s.b.arg cbUPD 2 → chunk = s.mem.read 0x241000 (min 4096 (s.b.arg cbUPD 2)) →
        o = s.b.nv.otherBank → Runs (.updInstall irq stored) s (fun t => t.mem = s.mem ∧ t.b.Completed cbUPD OK [n, 0xFF] ∧ t.b.r Reg.UPD_PHASE = 1 ∧
          t.b.r Reg.UPD_INSTALL_OCTETS = n % 2 ^ 32 ∧ t.b.upd.load = some n ∧ t.b.r Reg.UPD_LAST_RESULT = OK ∧
          (t.b.nv.bank o).data = (if bit (s.b.arg cbUPD 3) 0 then [] else (s.b.nv.bank o).data) ++ chunk ∧ t.b.nv.bank s.b.nv.curBank = s.b.nv.bank s.b.nv.curBank)) ∧
      (∀ stored : Bool, s.b.chunkBad cbUPD s.b.upd.load = none → s.b.ready = true → s.b.r Reg.UPD_PHASE ≤ 1 → bit (s.b.arg cbUPD 3) 1 = true →
        Runs (.updInstall irq stored) s (fun t => t.mem = s.mem ∧ t.b.upd.load = none ∧ t.b.r Reg.UPD_PHASE = 0 ∧
          t.b.r Reg.UPD_INSTALL_OCTETS = (s.b.arg cbUPD 1 + s.b.arg cbUPD 2) % 2 ^ 32 ∧
          ∃ code entry, t.b.r Reg.UPD_LAST_RESULT = code ∧ t.b.Completed cbUPD code [s.b.arg cbUPD 1 + s.b.arg cbUPD 2, entry])) ∧
      (∀ (stored : Bool) (c : Nat), s.b.chunkBad cbUPD s.b.upd.load = some c ∨
          (s.b.chunkBad cbUPD s.b.upd.load = none ∧ (s.b.ready = false ∨ 1 < s.b.r Reg.UPD_PHASE) ∧ c = WRONG_STATE) →
        Runs (.updInstall irq stored) s (fun t => t.mem = s.mem ∧ Chip.SameBut s.b t.b ∧ t.b.r Reg.UPD_LAST_RESULT = c ∧
          t.b.Completed cbUPD c [s.b.r Reg.UPD_INSTALL_OCTETS, 0xFF])) ∧
      (s.b.limp = true ∨ s.b.ready = false ∨ s.b.r Reg.UPD_PHASE ≠ 0 ∨ (s.b.nv.bank s.b.nv.otherBank).st ≠ 2 ∨ (s.b.nv.copy s.b.nv.otherCopy).st ≠ 1 →
        Runs (.updActivate irq) s (fun t => t.mem = s.mem ∧ Chip.SameBut s.b t.b ∧ t.b.r Reg.UPD_ACT_FAIL = satAdd 32 (s.b.r Reg.UPD_ACT_FAIL) 1 ∧
          t.b.r Reg.UPD_LAST_RESULT = WRONG_STATE ∧ t.b.Completed cbUPD WRONG_STATE [])) ∧
      (∀ (high : Bool) (c : Nat), s.b.limp = false → s.b.ready = true → s.b.r Reg.UPD_PHASE = 0 → (s.b.nv.bank s.b.nv.otherBank).st = 2 →
        (s.b.nv.copy s.b.nv.otherCopy).st = 1 →
        high = s.b.mac.nodes.any (fun e => cx e.2 Cx.STATE != 0 && decide ((s.b.nv.patOf s.b.nv.otherCopy).nodeCount ≤ e.1)) →
        (high = true ∧ c = WRONG_STATE) ∨ (high = false ∧ c = VERSION_MISMATCH ∧
          s.b.nv.migrated (s.b.nv.ver s.b.nv.curBank) (s.b.nv.bank s.b.nv.otherBank).manifest = none) →
        Runs (.updActivate irq) s (fun t => t.mem = s.mem ∧ Chip.SameBut { s.b with upd := {} } t.b ∧ t.b.r Reg.UPD_PHASE = 0 ∧
          t.b.r Reg.UPD_ACT_FAIL = satAdd 32 (s.b.r Reg.UPD_ACT_FAIL) 1 ∧ t.b.r Reg.UPD_LAST_RESULT = c ∧ t.b.Completed cbUPD c [])) ∧
      (∀ l : List SetRec, s.b.limp = false → s.b.ready = true → s.b.r Reg.UPD_PHASE = 0 → (s.b.nv.bank s.b.nv.otherBank).st = 2 →
        (s.b.nv.copy s.b.nv.otherCopy).st = 1 → (∀ e ∈ s.b.mac.nodes, cx e.2 Cx.STATE = 0 ∨ e.1 < (s.b.nv.patOf s.b.nv.otherCopy).nodeCount) →
        s.b.nv.migrated (s.b.nv.ver s.b.nv.curBank) (s.b.nv.bank s.b.nv.otherBank).manifest = some l →
        Runs (.updActivate irq) s (fun t => t.mem = s.mem ∧ t.b.t (cbBUSY cbUPD) = true ∧ t.b.r Reg.UPD_PHASE = 2 ∧ t.b.nv = s.b.nv ∧
          t.b.upd = { staged := l, earliest := s.b.earliest (s.b.arg cbUPD 0), allowSkip := bit (s.b.arg cbUPD 1) 0 } ∧
          t.b.r Reg.UPD_RECORDS_MIGRATED = satAdd 32 (s.b.r Reg.UPD_RECORDS_MIGRATED) l.length)) ∧
      (∀ a : BankArea, s.b.arg cbUPD 0 ≤ 1 → a = s.b.nv.bank (s.b.arg cbUPD 0) →
        Runs (.readBank irq) s (fun t => t.mem = s.mem ∧ Chip.OnlyBlock s.b t.b cbUPD ∧
          t.b.Completed cbUPD OK [a.st, manVer a.manifest, manCount a.manifest, fldLE a.manifest 20 4]) ∧
        (∀ p : PartEnt, a.st = 2 ∨ a.st = 3 → s.b.arg cbUPD 1 ≤ 16 → s.b.arg cbUPD 1 < manCount a.manifest → p = manPart a.manifest (s.b.arg cbUPD 1) →
          Runs (.readPart irq) s (fun t => t.mem = s.mem ∧ Chip.OnlyBlock s.b t.b cbUPD ∧
            t.b.Completed cbUPD OK ([p.type + p.index * 256 + p.setVer * 65536, p.ver, p.len] ++ (List.range 8).map (fun j => fldLE p.hash (4 * j) 4))))) ∧
      (s.b.ready = true → s.b.r Reg.UPD_PHASE = 0 → (s.b.nv.bank s.b.nv.otherBank).st = 2 → (s.b.nv.copy s.b.nv.otherCopy).st = 1 →
        (s.b.nv.copy s.b.nv.otherCopy).hash = manPattern (s.b.nv.bank s.b.nv.otherBank).manifest → Runs (.updRevert irq) s (fun t => t.mem = s.mem ∧
          t.b.t (cbBUSY cbUPD) = true ∧ t.b.nv = s.b.nv.swap 2 1 false ∧ t.b.boot = { s.b.boot with warm := some 6 } ∧
          t.b.r Reg.UPD_REVERTS = satAdd 32 (s.b.r Reg.UPD_REVERTS) 1 ∧ t.b.r Reg.UPD_LAST_RESULT = OK)) ∧
      (s.b.ready = false ∨ s.b.r Reg.UPD_PHASE ≠ 0 ∨ (s.b.nv.bank s.b.nv.otherBank).st ≠ 2 ∨ (s.b.nv.copy s.b.nv.otherCopy).st ≠ 1 ∨
          (s.b.nv.copy s.b.nv.otherCopy).hash ≠ manPattern (s.b.nv.bank s.b.nv.otherBank).manifest →
        Runs (.updRevert irq) s (fun t => t.mem = s.mem ∧ Chip.OnlyBlock s.b t.b cbUPD ∧ t.b.Completed cbUPD WRONG_STATE [])) ∧
      Runs (.updCancel irq) s (fun t => t.mem = s.mem ∧ Chip.OnlyBlock s.b t.b cbUPD ∧ t.b.Completed cbUPD WRONG_STATE [])) ∧
    (∀ irq : Bool, s.b.t (cbBUSY cbUPD) = true → s.b.r Reg.UPD_PHASE = 4 → Runs (.updCancel irq) s (fun t => t.mem = s.mem ∧ Chip.OnlyBlock s.b t.b cbUPD ∧
      t.b.t (cbBUSY cbUPD) = true ∧ t.b.r (cbCODE cbUPD) = WRONG_STATE)) ∧
    (∀ (irq : Bool) (ph : Nat), s.b.t (cbBUSY cbUPD) = true → ph = s.b.r Reg.UPD_PHASE → ph = 2 ∨ ph = 3 → Runs (.updCancel irq) s (fun t => t.mem = s.mem ∧
      t.b.Completed cbUPD OK [ph] ∧ t.b.r Reg.UPD_PHASE = 0 ∧ t.b.upd = {} ∧ t.b.nv = s.b.nv ∧ t.b.r Reg.UPD_LAST_RESULT = ABORTED)) ∧
    (∀ code, s.b.r Reg.UPD_PHASE ≠ 2 ∨ 0x15 < code → exec (.stagingComplete code) s = .next s) ∧
    (s.b.r Reg.UPD_PHASE ≠ 3 ∨ s.b.tim.stitch < s.b.upd.t0 → exec .pauseStart s = .next s) ∧
    (s.b.r Reg.UPD_PHASE ≠ 4 ∨ s.b.upd.boundary.isSome = true ∨ s.b.tim.stitch < s.b.upd.t0 → exec .activationBoundary s = .next s) ∧
    (s.b.upd.boundary = none ∨ s.b.upd.micro = true → exec .microcodeLoaded s = .next s) ∧
    (∀ cpu, s.b.upd.boundary = none ∨ 7 < cpu → exec (.imageAlive cpu) s = .next s) ∧
    (∀ us, s.b.setUp = false → exec (.pauseEnd us) s = .next s) ∧
    (∀ ptype pindex us, us < 40000 ∨ s.b.r Reg.UPD_PHASE ≠ 4 ∨ s.b.setUp = true ∨ s.b.upd.boundary = none →
      exec (.activationTimeout ptype pindex us) s = .next s) ∧
    (s.b.r Reg.UPD_PHASE = 2 →
      (s.b.pickPause (cdiv (max s.b.upd.earliest (cdiv (s.b.nowNs + 500000) 250000)) (max 1 s.b.pat.slotStitches)) = none → Runs (.stagingComplete OK) s (fun t =>
        t.mem = s.mem ∧ t.b.r Reg.UPD_PHASE = 0 ∧ t.b.upd = {} ∧ t.b.nv = s.b.nv ∧ t.b.r Reg.UPD_LAST_RESULT = NO_RESOURCE ∧
        t.b.Completed cbUPD NO_RESOURCE [])) ∧
      (∀ code, code ≠ OK → code < 0x16 → Runs (.stagingComplete code) s (fun t => t.mem = s.mem ∧ t.b.r Reg.UPD_PHASE = 0 ∧ t.b.upd = {} ∧ t.b.nv = s.b.nv ∧
        t.b.r Reg.UPD_LAST_RESULT = code ∧ t.b.Completed cbUPD code [])) ∧
      (∀ slot n, s.b.pickPause (cdiv (max s.b.upd.earliest (cdiv (s.b.nowNs + 500000) 250000)) (max 1 s.b.pat.slotStitches)) = some (slot, n) →
        Runs (.stagingComplete OK) s (fun t => t.mem = s.mem ∧ t.b.r Reg.UPD_PHASE = 3 ∧ t.b.nv = s.b.nv ∧
          t.b.upd = { s.b.upd with t0 := slot * s.b.pat.slotStitches, skipped := n } ∧ t.b.r Reg.UPD_PAUSE_STITCH = slot * s.b.pat.slotStitches % 2 ^ 32))) ∧
    (s.b.r Reg.UPD_PHASE = 3 → s.b.upd.t0 ≤ s.b.tim.stitch → Runs .pauseStart s (fun t => t.mem = s.mem ∧ t.b.upd = { s.b.upd with paused := true } ∧
      (∀ g, g < 4 → t.b.t (Reg.RFC_MUTED g) = true) ∧ (∀ c ∈ t.b.sch.cur ++ t.b.sch.nxt, c.off = true) ∧ t.b.mac.csma = [] ∧
      (s.b.tx.frames = [] → t.b.r Reg.UPD_PHASE = 4))) ∧
    (s.b.r Reg.UPD_PHASE = 4 → s.b.upd.boundary = none → s.b.upd.t0 ≤ s.b.tim.stitch → Runs .activationBoundary s (fun t => t.mem = s.mem ∧
      t.b.nv.curBank = s.b.nv.otherBank ∧ t.b.nv.curCopy = s.b.nv.otherCopy ∧ t.b.nv.trial = true ∧ t.b.r Reg.GLB_LOADED_BANK = s.b.nv.otherBank ∧
      (t.b.nv.bank s.b.nv.otherBank).st = 3 ∧ t.b.pat = s.b.nv.patOf s.b.nv.otherCopy ∧
      t.b.upd.boundary = some (max s.b.tim.stitch (s.b.upd.t0 + 1)))) ∧
    (∀ bd, s.b.upd.boundary = some bd →
      (s.b.upd.micro = false → Runs .microcodeLoaded s (fun t => t.mem = s.mem ∧ t.b.upd = { s.b.upd with micro := true } ∧
        (s.b.upd.cal = [] → t.b = { s.b with upd := { s.b.upd with micro := true } }))) ∧
      (∀ cpu, cpu ≤ 7 → Runs (.imageAlive cpu) s (fun t => t.mem = s.mem ∧
        t.b = { s.b with upd := { s.b.upd with alive := cpu :: s.b.upd.alive.filter (· != cpu) } })) ∧
      (∀ us, s.b.setUp = true → Runs (.pauseEnd us) s (fun t => t.mem = s.mem ∧ t.b.r Reg.UPD_PHASE = 0 ∧ t.b.upd = {} ∧
        t.b.nv = { s.b.nv with trial := false } ∧ (∀ g, g < 4 → t.b.t (Reg.RFC_MUTED g) = false) ∧ t.b.r Reg.UPD_LAST_RESULT = OK ∧
        t.b.Completed cbUPD OK [s.b.upd.t0, bd, us, s.b.upd.skipped, s.b.nv.ver s.b.nv.curBank])) ∧
      (∀ ptype pindex us, s.b.r Reg.UPD_PHASE = 4 → s.b.setUp = false → 40000 ≤ us → Runs (.activationTimeout ptype pindex us) s (fun t => t.mem = s.mem ∧
        t.b.nv = s.b.nv.swap 4 3 false ∧ t.b.boot = { s.b.boot with warm := some 6 } ∧ t.b.r Reg.UPD_LAST_RESULT = ABORTED ∧
        t.b.r Reg.UPD_ACT_FAIL = satAdd 32 (s.b.r Reg.UPD_ACT_FAIL) 1 ∧ t.b.r Reg.UPD_REVERTS = satAdd 32 (s.b.r Reg.UPD_REVERTS) 1)))

/-- VIN good on a device without supply, RST_N low and a warm start that is due each start the device, the buffers cleared: BOOT_COUNT counts, RESET_CAUSE names the cause, and where no helper copy passes its CRC or BCH decoding fails (no test root being asked for) the start ends in SAFE with item ROOT and KEY_INVALID. On battery RST_N and a warm start remove the supplies. VIN good on battery ends a power state other than DOZE. VIN lost runs on from a good battery, with ports held and links down, else is a brown-out; VIN good for 10 ms ends it; VBAK's comparator sets and clears VBAK_GOOD, its fall on battery removes the supplies. The planned exit and SPI end a power state with their cause (DOZE still before its shutdown aborts). The end of a DOZE restore clears it, a warm start being due where a CPU, WEAVE or TMG granule is bad. A NOTE pattern that matches sets its flag and counts; a WAKE pattern also ends a DOZE before its shutdown, with cause 1. A boundary begins the next stitch where the engines do not work, and completes in every state; the close of the budget is marked once a stitch and counts a slip for an engine that carries work over. An event with nothing to do changes nothing (R23, R75 to R79, R98, R139, R190, R512 to R523). (03_startup_and_safe.md, 04_clocks_resets_crossings.md, 19_power_and_thermal.md, 05_time_and_timers.md, 06_rf_front_end.md, 01_architecture.md) -/
def Obligations.SuppliesStartsAndPower : Prop :=
  ∀ s : State,
    (∀ x : StartIn,
      (s.b.boot.off ≠ 0 → Runs (.vinGood x) s (fun t => t.mem = [] ∧ t.b.nv.boot = satAdd 32 s.b.nv.boot 1 ∧ t.b.r Reg.GLB_BOOT_COUNT = t.b.nv.boot % 2 ^ 32 ∧
        (s.b.boot.off = 2 → t.b.t Reg.GLB_POR = true) ∧
        (s.b.helperUsed x = none ∨ x.bch = none → x.strap = false → t.b.safe = true ∧ t.b.r Reg.GLB_SAFE_ITEM = 2 ∧ t.b.r Reg.GLB_SAFE_CODE = KEY_INVALID))) ∧
      (s.b.boot.off = 0 → s.b.t Reg.PWR_BATTERY = true → s.b.pstate ≠ 4 → s.b.Quiet → Runs (.vinGood x) s (fun t => t.mem = s.mem ∧
        t.b.t Reg.PWR_VIN_GOOD = true ∧ t.b.pstate = 0 ∧ t.b.t Reg.PWR_BATTERY = true)) ∧
      (s.b.boot.off = 0 → s.b.t Reg.PWR_BATTERY = false → Runs (.rstNLow x) s (fun t => t.mem = [] ∧ t.b.nv.boot = satAdd 32 s.b.nv.boot 1 ∧
        t.b.t Reg.GLB_PIN = true ∧
        (s.b.helperUsed x = none ∨ x.bch = none → x.strap = false → t.b.safe = true ∧ t.b.r Reg.GLB_SAFE_ITEM = 2 ∧ t.b.r Reg.GLB_SAFE_CODE = KEY_INVALID))) ∧
      (∀ c, s.b.boot.warm = some c → s.b.boot.off = 0 → s.b.t Reg.PWR_BATTERY = false → Runs (.warmStart x) s (fun t => t.mem = [] ∧
        t.b.nv.boot = satAdd 32 s.b.nv.boot 1 ∧ t.b.t (causeFlag c) = true ∧
        (s.b.helperUsed x = none ∨ x.bch = none → s.b.t Reg.DBG_STRAP = false → t.b.safe = true ∧ t.b.r Reg.GLB_SAFE_ITEM = 2 ∧ t.b.r Reg.GLB_SAFE_CODE = KEY_INVALID)))) ∧
    (∀ x : StartIn,
      (s.b.boot.off = 0 → s.b.t Reg.PWR_BATTERY = false → exec (.vinGood x) s = .next s) ∧ (s.b.boot.off ≠ 0 → exec (.rstNLow x) s = .next s) ∧
      (s.b.boot.warm = none ∨ s.b.boot.off ≠ 0 → exec (.warmStart x) s = .next s) ∧
      (∀ w : Instr, s.b.boot.off = 0 → s.b.t Reg.PWR_BATTERY = true → w = .rstNLow x ∨ (w = .warmStart x ∧ s.b.boot.warm ≠ none) → Runs w s (fun t =>
        t.mem = [] ∧ t.b.boot.off = 1 ∧ t.b.t Reg.GLB_BROWNOUT = true ∧ t.b.t Reg.PWR_VIN_GOOD = false ∧ t.b.mac.nodes = [] ∧ t.b.nv = s.b.nv))) ∧
    (∀ vin vbak, s.b.boot.off ≠ 0 ∨ s.b.t Reg.PWR_VIN_GOOD = false → exec (.vinLostCondition vin vbak) s = .next s) ∧
    (∀ ms, s.b.t Reg.PWR_BATTERY = false ∨ s.b.t Reg.PWR_VIN_GOOD = false → exec (.vinGoodHold ms) s = .next s) ∧
    (∀ x : WakeIn, (s.b.pstate ≠ 4 → exec (.spiCsNWake x) s = .next s) ∧
      (s.b.Quiet → s.b.mirrorOn = false → (s.b.pwr.exitAt = none → exec (.plannedExit x) s = .next s) ∧
        ∀ rx, s.b.wurListens = false → exec (.wakePatternMatch rx x) s = .next s)) ∧
    (∀ bad, s.b.pwr.restoring = false → exec (.dozeRestoreComplete bad) s = .next s) ∧
    (∀ x : StitchIn, (s.b.timeRuns = false → exec (.stitchBoundary x) s = .next s) ∧ Runs (.stitchBoundary x) s (fun t => t.mem = s.mem)) ∧
    (s.b.timeRuns = false ∨ s.b.working = false ∨ kget s.b.acc (N.BUDGET_SLIP * 2 ^ 16) ≠ none → exec .budgetClose s = .next s) ∧
    (∀ vin vbak, s.b.boot.off = 0 → s.b.t Reg.PWR_VIN_GOOD = true →
      (s.b.ready = true → s.b.t Reg.PWR_BATT_EN = true → s.b.t Reg.PWR_VBAK_GOOD = true → Runs (.vinLostCondition vin vbak) s (fun t => t.mem = s.mem ∧
        t.b.t Reg.PWR_VIN_GOOD = false ∧ t.b.t Reg.PWR_BATTERY = true ∧ t.b.r Reg.PWR_BATT_ENTRIES = satAdd 32 (s.b.r Reg.PWR_BATT_ENTRIES) 1 ∧
        t.b.boot.off = 0 ∧ t.b.t (Reg.ETH_HELD 0) = true ∧ t.b.t (Reg.ETH_HELD 1) = true ∧ t.b.t (Reg.ETH_LINK 0) = false ∧ t.b.t (Reg.ETH_LINK 1) = false ∧
        t.b.t Reg.SEA_BLOCK_LOCK = false ∧ t.b.t Reg.HIF_LINK_UP = false)) ∧
      (s.b.ready = false ∨ s.b.t Reg.PWR_BATT_EN = false ∨ s.b.t Reg.PWR_VBAK_GOOD = false → Runs (.vinLostCondition vin vbak) s (fun t => t.mem = s.mem ∧ t.b.boot.off = 1 ∧ t.b.t Reg.PWR_VIN_GOOD = false ∧
        t.b.t Reg.GLB_BROWNOUT = true ∧ t.b.mac.nodes = [] ∧ t.b.nv = s.b.nv))) ∧
    (∀ ms, s.b.t Reg.PWR_BATTERY = true → s.b.t Reg.PWR_VIN_GOOD = true → Runs (.vinGoodHold ms) s (fun t => t.mem = s.mem ∧ t.b.t Reg.PWR_BATTERY = false ∧
      (s.b.limp = false → t.b.t (Reg.ETH_HELD 0) = false ∧ t.b.t (Reg.ETH_HELD 1) = false))) ∧
    (∀ mv, Runs (.vbakGood mv) s (fun t => t.mem = s.mem ∧ t.b = (s.b.w Reg.PWR_VBAK_MV mv).wb Reg.PWR_VBAK_GOOD true)) ∧
    (∀ mv, (s.b.boot.off ≠ 0 → Runs (.vbakFall mv) s (fun t => t.mem = s.mem ∧ t.b = (s.b.w Reg.PWR_VBAK_MV mv).wb Reg.PWR_VBAK_GOOD false)) ∧
      (s.b.boot.off = 0 → s.b.t Reg.PWR_BATTERY = false → Runs (.vbakFall mv) s (fun t => t.mem = s.mem ∧ t.b.t Reg.PWR_VBAK_GOOD = false ∧ t.b.boot = s.b.boot)) ∧
      (s.b.boot.off = 0 → s.b.t Reg.PWR_BATTERY = true → Runs (.vbakFall mv) s (fun t => t.mem = s.mem ∧ t.b.boot.off = 2))) ∧
    (∀ (x : WakeIn) (u : Nat) (b1 : Chip), s.b.pwr.exitAt = some u → s.b.pstate ≠ 4 → b1 = s.b.passTo (u * nsU) → u ≤ b1.nowNs → 1 ≤ b1.pstate → b1.pstate ≤ 3 → b1.Quiet →
      Runs (.plannedExit x) s (fun t => t.mem = s.mem ∧ t.b.pstate = 0 ∧ t.b.r Reg.PWR_WAKE_CAUSE = 0 ∧ t.b.pwr.exitAt = none)) ∧
    (∀ x : WakeIn, s.b.pstate = 4 → x.stage = 0 → s.b.Quiet → Runs (.spiCsNWake x) s (fun t => t.mem = s.mem ∧ t.b.pstate = 0 ∧ t.b.r Reg.PWR_WAKE_CAUSE = 3 ∧
      t.b.pwr.exitAt = none ∧ t.b.r Reg.PWR_DOZE_ABORT = satAdd 32 (s.b.r Reg.PWR_DOZE_ABORT) 1)) ∧
    (∀ bad : List (Nat × Nat), s.b.pwr.restoring = true → Runs (.dozeRestoreComplete bad) s (fun t => t.mem = s.mem ∧
      t.b.pwr = { s.b.pwr with restoring := false } ∧ (bad = [] → t.b = { s.b with pwr := { s.b.pwr with restoring := false } }) ∧
      ((∃ e ∈ bad, e.1 = 6 ∨ e.1 = 8 ∨ e.1 = 9) → t.b.boot = { s.b.boot with warm := some 4 }))) ∧
    (∀ (rx : Nat) (x : WakeIn), s.b.wurListens = true → s.b.r Reg.WUR_A_ACT = 2 → s.b.r Reg.WUR_B_ACT = 0 → s.b.Quiet →
      s.b.wurMatches rx (s.b.r Reg.WUR_PAT_A) (s.b.t Reg.WUR_A_LEN) = true → Runs (.wakePatternMatch rx x) s (fun t => t.mem = s.mem ∧
        t.b.t Reg.WUR_MATCH_A = true ∧ t.b.r Reg.WUR_MATCH_CNT_A = satAdd 32 (s.b.r Reg.WUR_MATCH_CNT_A) 1 ∧ t.b.pstate = s.b.pstate)) ∧
    (∀ (rx : Nat) (x : WakeIn), s.b.wurListens = true → s.b.r Reg.WUR_A_ACT = 1 → s.b.r Reg.WUR_B_ACT = 0 → s.b.Quiet → s.b.pstate = 4 → x.stage = 0 →
      s.b.wurMatches rx (s.b.r Reg.WUR_PAT_A) (s.b.t Reg.WUR_A_LEN) = true → Runs (.wakePatternMatch rx x) s (fun t => t.mem = s.mem ∧
        t.b.t Reg.WUR_MATCH_A = true ∧ t.b.r Reg.WUR_MATCH_CNT_A = satAdd 32 (s.b.r Reg.WUR_MATCH_CNT_A) 1 ∧ t.b.pstate = 0 ∧
        t.b.r Reg.PWR_WAKE_CAUSE = 1)) ∧
    (∀ x : StitchIn, s.b.timeRuns = true → s.b.tickClean = true → s.b.Quiet → s.b.working = false → s.b.r Reg.UPD_PHASE ≠ 4 → (∀ e ∈ s.b.tim.trig, e.1 < 12) →
      Runs (.stitchBoundary x) s (fun t => t.mem = s.mem ∧ t.b.tim.stitch = s.b.tim.nextB ∧ t.b.tim.nextB = s.b.tim.nextB + 1 ∧
        t.b.r Reg.PWR_VIN_MV = x.vinMv % 2 ^ 16 ∧ t.b.r Reg.PWR_VBAK_MV = x.vbakMv % 2 ^ 16)) ∧
    (s.b.timeRuns = true → s.b.working = true → kget s.b.acc (N.BUDGET_SLIP * 2 ^ 16) = none → s.b.mirrorOn = false →
      (s.b.owed = [] → Runs .budgetClose s (fun t => t.mem = s.mem ∧ t.b = s.b.note (N.BUDGET_SLIP * 2 ^ 16) 1)) ∧
      (∀ w l, s.b.owed = [(w, l)] → w ≠ WORK.STATS → l ≠ [] → Runs .budgetClose s (fun t => t.mem = s.mem ∧ t.b.owed = [(w, l)] ∧
        t.b.r Reg.GLB_SLIP_CNT = satAdd 32 (s.b.r Reg.GLB_SLIP_CNT) 1)))

/-- In READY a word written to the SVC request buffer stands there, by a register write, SPI, console or management WRITE; its read returns it. A narrow write counts as locked; SEA's listen word takes a value in range. A multi-word register's lowest read latches the upper word, which a later read returns; a published counter's read returns the bank's value, clears it there and takes it off the live count; a read of GLB_STATE ends the SAFE interrupt. SPI STATUS clears FRAME_ERR, an unknown octet sets it. Management requests that do not verify are counted; those that do are answered, the malformed with their code, a SUBMIT of over a second BUSY with a ticket; with none waiting for a row nothing changes. Enabling the notice ring empties the early buffer; while starting, or with LOC in SAFE, the write is counted as locked. A holdoff fires its source. Enabling a ring resets it, an enabled ring keeps its size; posted buffers wait, a delivery writes an item and advances HEAD, a bad buffer disables the ring, too long an item is dropped, too few buffers wait (which queue of several comes next is the model's free value); a transmit chain is pushed, or fails with its status. A PCIe reset disables rings and vectors; TRST_N drops JTAG's events; links and configuration show; Ethernet frames are counted and sorted, in SAFE discarded. Rings above 7, ports above 1 and links that are down do nothing (R9, R27, R29, R534 to R551). (20_host_interfaces.md, 00_scope.md, 01_architecture.md) -/
def Obligations.HostsReadWriteAndRing : Prop :=
  ∀ s : State,
    (∀ (rq : Requester) (i off : Nat) (v : Word) (w : Nat), s.b.ready = true → i < 1024 → off = 0x261000 + 4 * i → w = leNat (s.mem.read off 4) →
      Runs (.registerWrite rq off 4 v) s (fun t => t.b = s.b ∧ t.mem = s.mem.write off (leBytes v.toNat 4)) ∧
      Runs (.registerWrite rq off 2 v) s (fun t => t.mem = s.mem ∧ t.b = s.b.inc Reg.GLB_LOCKED_WR_CNT) ∧
      (s.b.coreRuns = true → Runs (.spiRead off 4) s (fun t => t.mem = s.mem ∧ t.b = s.b.emit (.spi (0xA5 :: leBytes w 4))) ∧
        ∀ data : List Nat, data.length = 4 → Runs (.spiWrite off data) s (fun t => t.b = s.b ∧ t.mem = s.mem.write off (leBytes (fldLE data 0 4) 4))) ∧
      (s.b.parked 8 = false → Runs (.consoleRd off 1) s (fun t => t.mem = s.mem ∧ t.b.out = .uartWords [w] :: s.b.out) ∧
        (s.b.t Reg.GLB_UART_WR_EN = true → Runs (.consoleWr off v) s (fun t => t.mem = s.mem.write off (leBytes v.toNat 4) ∧ t.b.out = .uartOk :: s.b.out)))) ∧
    (∀ (rq : Requester) (v : Word), s.b.ready = true → s.b.Awake → s.b.Quiet → 400 ≤ v.toNat % 2 ^ 16 → Runs (.registerWrite rq 0x220118 4 v) s (fun t => t.mem = s.mem ∧
      t.b.r Reg.SEA_LISTEN_STITCHES = v.toNat % 2 ^ 16 ∧ t.b.t Reg.SEA_AUTO_PAIR = bit v.toNat 16 ∧ t.b.t Reg.SEA_AUTO_CLAIM = bit v.toNat 17)) ∧
    (∀ rq : Requester,
      (s.b.ready = true → s.b.limp = false → Runs (.latchRead rq 0x40040 4) s (fun t => t.mem = s.mem ∧ t.b.out = .data rq (leBytes (s.b.tim.stitch % 2 ^ 32) 4) :: s.b.out ∧
          kget t.b.latch (lkey rq 0x40044) = some (s.b.tim.stitch / 2 ^ 32 % 2 ^ 32)) ∧
        ∀ u, kget s.b.latch (lkey rq 0x40044) = some u → Runs (.latchRead rq 0x40044 4) s (fun t => t.mem = s.mem ∧ t.b = s.b.emit (.data rq (leBytes u 4)))) ∧
      (∀ n, s.b.ready = true → n = kgetD s.b.bank Reg.SEA_TAG_FAIL.key 0 → Runs (.rcCounterRead rq 0x220208 4) s (fun t => t.mem = s.mem ∧
        t.b.out = .data rq (leBytes (n % 2 ^ 32) 4) :: s.b.out ∧ t.b.bank = kdel s.b.bank Reg.SEA_TAG_FAIL.key ∧
        t.b.r Reg.SEA_TAG_FAIL = s.b.r Reg.SEA_TAG_FAIL - n)) ∧
      Runs (.glbStateRead rq) s (fun t => t.mem = s.mem ∧ t.b.ntc = { s.b.ntc with safeIrq := false } ∧ ∃ l, t.b.out = .data rq l :: s.b.out ∧ l.length = 4 ∧
        l.headD 0 % 4 = s.b.r Reg.GLB_STATE)) ∧
    Runs .spiStatus s (fun t => t.mem = s.mem ∧ t.b.hif = { s.b.hif with spiErr := false } ∧ t.b.out =
      .spi [b2n s.b.coreRuns + 2 * b2n s.b.hif.spiErr + 4 * b2n s.b.hostIrq + 8 * s.b.r Reg.GLB_STATE] :: s.b.out) ∧
    Runs .unknownCommandOctet s (fun t => t.mem = s.mem ∧ t.b.hif = { s.b.hif with spiErr := true } ∧
      t.b.r Reg.HIF_SPI_FRAME_ERR = satAdd 32 (s.b.r Reg.HIF_SPI_FRAME_ERR) 1) ∧
    (∀ (op : Nat) (i : Instr), (op, i) ∈ [(1, Instr.mgmtRead), (2, .mgmtWrite), (3, .mgmtSubmit false), (3, .mgmtSubmit true), (4, .mgmtNotices)] →
      (s.b.hif.mgmt = [] ∨ bit (s.b.r Reg.SVC_RUNNING) 4 = false ∨ ∃ r ∈ s.b.hif.mgmt.head?, mgmtOp r ≤ 4 ∧ mgmtOp r ≠ op ∧ mgmtOp r ≠ 0) →
      exec i s = .next s) ∧
    (∀ (r : MgmtReq) (rest : List MgmtReq) (b0 b1 : Chip) (l : List Nat), s.b.hif.mgmt = r :: rest → bit (s.b.r Reg.SVC_RUNNING) 4 = true → s.b.ready = true →
      b0 = { s.b with hif := { s.b.hif with mgmt := rest } } → b1 = { b0 with nv := { b0.nv with mgmtSeq := mgmtSeq r } } → l = mgmtBody r →
      (mgmtOp r = 1 → Runs .mgmtRead s (fun t => t.mem = s.mem ∧ (b0.mgmtKey r = none → t.b = b0.mgmtBad) ∧
        (∀ k c, b0.mgmtKey r = some k → mgmtRange l = some c → t.b = b1.mgmtAnswer r k c []) ∧
        ∀ k i, b0.mgmtKey r = some k → i < 1024 → fldLE l 0 4 = 0x261000 + 4 * i → fldLE l 4 4 = 1 → 8 ≤ l.length →
          t.b = b1.mgmtAnswer r k OK (leBytes (leNat (s.mem.read (0x261000 + 4 * i) 4)) 4))) ∧
      (mgmtOp r = 0 ∨ 4 < mgmtOp r → Runs .mgmtRead s (fun t => t.mem = s.mem ∧ (b0.mgmtKey r = none → t.b = b0.mgmtBad) ∧
        ∀ k, b0.mgmtKey r = some k → t.b = b1.mgmtAnswer r k BAD_ARG [])) ∧
      (mgmtOp r = 2 → Runs .mgmtWrite s (fun t => (b0.mgmtKey r = none → t.mem = s.mem ∧ t.b = b0.mgmtBad) ∧
        (∀ k c, b0.mgmtKey r = some k → mgmtRange l = some c → t.mem = s.mem ∧ t.b = b1.mgmtAnswer r k c []) ∧
        ∀ k i, b0.mgmtKey r = some k → i < 1024 → fldLE l 0 4 = 0x261000 + 4 * i → fldLE l 4 4 = 1 → l.length = 12 →
          t.mem = s.mem.write (0x261000 + 4 * i) (leBytes (fldLE l 8 4) 4) ∧ t.b = b1.mgmtAnswer r k OK [])) ∧
      (mgmtOp r = 3 → ∀ late, Runs (.mgmtSubmit late) s (fun t => t.mem = s.mem ∧ (b0.mgmtKey r = none → t.b = b0.mgmtBad) ∧
        (∀ k, b0.mgmtKey r = some k → l.length < 16 ∨ l.length ≠ 16 + fldLE l 8 4 → t.b = b1.mgmtAnswer r k BAD_LENGTH []) ∧
        ∀ (k : KeyT) (b2 : Chip) (o : OpOut), b0.mgmtKey r = some k → 16 ≤ l.length → l.length = 16 + fldLE l 8 4 → b2 = { b1 with freeCtr := b1.freeCtr + 1 } →
          fldLE l 0 2 ≠ 0xF0 → b2.opCheck (fldLE l 0 2) = none → o = b2.opRun (fldLE l 0 2) (l.drop 16) →
          (late = false → t.b = o.b.mgmtAnswer r k o.status (respRec (fldLE l 0 2) o.status (fldLE l 4 4) 0 o.body)) ∧
          (late = true → 8 ≤ s.b.svc.tickets.length → t.b = b2.mgmtAnswer r k NO_RESOURCE (respRec (fldLE l 0 2) NO_RESOURCE (fldLE l 4 4) 0 [])) ∧
          (late = true → s.b.svc.tickets.length < 8 → ∃ (v : Svc) (n : Nat), n = o.b.svc.nextTicket ∧
            v.tickets = kput o.b.svc.tickets n { resp := respRec (fldLE l 0 2) o.status (fldLE l 4 4) 0 o.body, doneNs := o.b.nowNs } ∧
            t.b = Chip.mgmtAnswer { o.b with svc := v } r k BUSY (respRec (fldLE l 0 2) BUSY (fldLE l 4 4) n [])))) ∧
      (mgmtOp r = 4 → Runs .mgmtNotices s (fun t => t.mem = s.mem ∧ (b0.mgmtKey r = none → t.b = b0.mgmtBad) ∧
        (∀ (k : KeyT) (n : Nat), b0.mgmtKey r = some k → n = fldLE l 0 4 → (l.length < 4 ∨ n = 0 ∨ 64 < n → t.b = b1.mgmtAnswer r k BAD_LENGTH []) ∧
          (4 ≤ l.length → 1 ≤ n → n ≤ 64 → s.b.t Reg.NTC_LOC = false → t.b = b1.mgmtAnswer r k WRONG_STATE [])) ∧
        ∀ (k : KeyT) (n : Nat), b0.mgmtKey r = some k → n = fldLE l 0 4 → 4 ≤ l.length → 1 ≤ n → n ≤ 64 → s.b.t Reg.NTC_LOC = true → r.port < 2 →
          t.b.nv.mgmtSeq = mgmtSeq r ∧ t.b.r Reg.NTC_RD_IDX = (s.b.r Reg.NTC_RD_IDX +
            min n ((s.b.r Reg.NTC_WR_IDX + 4096 - s.b.r Reg.NTC_RD_IDX) % 4096)) % 4096))) ∧
    (∀ (rq : Requester) (v : Word), s.b.starting = false → s.b.safe = false → s.b.t Reg.NTC_EN = false → bit v.toNat 0 = true → Runs (.noticeRingEnable rq v) s (fun t =>
      t.mem = s.mem ∧ t.b.t Reg.NTC_EN = true ∧ t.b.t Reg.NTC_LOC = bit v.toNat 1 ∧ t.b.r Reg.NTC_MIN_SEV = bits v.toNat 4 2 ∧ t.b.ntc.early = [] ∧
      t.b.ntc.earlyLost = 0)) ∧
    (∀ (rq : Requester) (v : Word), s.b.starting = true ∨ (s.b.safe = true ∧ bit v.toNat 1 = true) → Runs (.noticeRingEnable rq v) s (fun t =>
      t.mem = s.mem ∧ t.b = s.b.inc Reg.GLB_LOCKED_WR_CNT)) ∧
    (∀ (rq : Requester) (v : Word), s.b.starting = false → s.b.safe = false → s.b.t Reg.NTC_EN = true → bit v.toNat 1 = s.b.t Reg.NTC_LOC →
      Runs (.noticeRingEnable rq v) s (fun t => t.mem = s.mem ∧ t.b = (s.b.w Reg.NTC_MIN_SEV (bits v.toNat 4 2)).wb Reg.NTC_EN (bit v.toNat 0))) ∧
    (∀ v, moderated v = true → kgetD s.b.ntc.mod v 0 ≠ 0 → Runs (.interruptHoldoff v) s (fun t => t.mem = s.mem ∧ kgetD t.b.ntc.mod v 0 = 0 ∧
      bit (t.b.r Reg.NTC_INT_PEND) v = true ∧ Chip.OnlyRegs s.b t.b [])) ∧
    (∀ v, moderated v = false ∨ kgetD s.b.ntc.mod v 0 = 0 → exec (.interruptHoldoff v) s = .next s) ∧
    (∀ (rq : Requester) (tx : Bool) (r tail : Nat) (v : Word) (ds : List (Nat × Nat)) (ts : List TxDesc), 7 < r →
      exec (.ringEnable rq tx r v) s = .next s ∧ exec (.rxRingPost rq r tail ds) s = .next s ∧ exec (.hostRxDelivery r) s = .next s ∧
      exec (.txRingPost rq r tail ts) s = .next s) ∧
    (∀ (rq : Requester) (r : Nat), r < 8 →
      (∀ (tx : Bool) (v : Word), 6 ≤ bits v.toNat 0 4 → bits v.toNat 0 4 ≤ 12 → s.b.t (ringEn tx r) = false → bit v.toNat 8 = true →
        Runs (.ringEnable rq tx r v) s (fun t => t.mem = s.mem ∧ t.b.t (ringEn tx r) = true ∧ t.b.r (ringLog tx r) = bits v.toNat 0 4 ∧
          t.b.r (ringHead tx r) = 0 ∧ t.b.r (ringTail tx r) = 0 ∧ Chip.OnlyRegs { s.b with hif := t.b.hif } t.b [ringEn tx r, ringLog tx r, ringHead tx r, ringTail tx r])) ∧
      (∀ (tx : Bool) (v : Word) (n : Nat), n = bits v.toNat 0 4 →
        (n < 6 ∨ 12 < n → exec (.ringEnable rq tx r v) s = .next s) ∧
        (6 ≤ n → n ≤ 12 → s.b.t (ringEn tx r) = false → bit v.toNat 8 = false → Runs (.ringEnable rq tx r v) s (fun t => t.mem = s.mem ∧
          t.b = (s.b.w (ringLog tx r) n).wb (ringEn tx r) false)) ∧
        (6 ≤ n → n ≤ 12 → s.b.t (ringEn tx r) = true → Runs (.ringEnable rq tx r v) s (fun t => t.mem = s.mem ∧
          t.b.t (ringEn tx r) = bit v.toNat 8 ∧ t.b.r (ringLog tx r) = s.b.r (ringLog tx r) ∧ t.b.r Reg.GLB_LOCKED_WR_CNT =
            (if n = s.b.r (ringLog tx r) then s.b.r Reg.GLB_LOCKED_WR_CNT else satAdd 32 (s.b.r Reg.GLB_LOCKED_WR_CNT) 1) ∧
          Chip.OnlyRegs s.b t.b [ringEn tx r, Reg.GLB_LOCKED_WR_CNT]))) ∧
      (∀ (tail n : Nat) (ds : List (Nat × Nat)), n = s.b.posted false r tail →
        (s.b.t (Reg.HIF_RX_EN r) = false → Runs (.rxRingPost rq r tail ds) s (fun t => t.mem = s.mem ∧ t.b = s.b.w (Reg.HIF_RX_TAIL r) tail)) ∧
        (s.b.t (Reg.HIF_RX_EN r) = true → Runs (.rxRingPost rq r tail ds) s (fun t =>
          t.mem = s.mem ∧ t.b.r (Reg.HIF_RX_TAIL r) = tail % 2 ^ 12 ∧ t.b = { s.b.w (Reg.HIF_RX_TAIL r) tail with
            hif := { s.b.hif with rx := kput s.b.hif.rx r (kgetD s.b.hif.rx r [] ++ (ds ++ List.replicate n (0, 0)).take n) } }))) ∧
      (s.b.t (Reg.HIF_RX_EN r) = false ∨ s.b.pcieUp = false ∨ s.b.ringQs r = [] → exec (.hostRxDelivery r) s = .next s) ∧
      (∀ (q : Nat) (b1 : Chip), s.b.t (Reg.HIF_RX_EN r) = true → s.b.pcieUp = true → s.b.ringQs r = [q] → b1 = { s.b with freeCtr := s.b.freeCtr + 1 } →
        (kgetD s.b.hif.rx r [] = [] → Runs (.hostRxDelivery r) s (fun t => t.mem = s.mem ∧ t.b = b1)) ∧
        ∀ (i : Item) (d : Nat × Nat) (l : List (Nat × Nat)), s.b.presents q noNode = some i → kgetD s.b.hif.rx r [] = d :: l →
          (badLen d.2 = true → Runs (.hostRxDelivery r) s (fun t => t.mem = s.mem ∧
            t.b = b1.ringBad false r BAD_LENGTH (s.b.r (Reg.HIF_RX_HEAD r) % s.b.ringSize false r))) ∧
          (badLen d.2 = false → d.2 * (s.b.ringSize false r - 1) < i.len → Runs (.hostRxDelivery r) s (fun t => t.mem = s.mem ∧
            t.b = (b1.dropRest q i.id).inc (Reg.HIF_RX_FAIL_CNT r))) ∧
          (badLen d.2 = false → i.len ≤ d.2 * (s.b.ringSize false r - 1) → fitDescs (d :: l) i.len 0 = .inr none →
            Runs (.hostRxDelivery r) s (fun t => t.mem = s.mem ∧ t.b = b1))) ∧
      (∀ (q : Nat) (i : Item) (d : Nat × Nat) (l : List (Nat × Nat)), s.b.t (Reg.HIF_RX_EN r) = true → s.b.pcieUp = true → s.b.pat.queueCount ≤ 8192 →
        s.b.ringQs r = [q] → s.b.presents q noNode = some i → kgetD s.b.hif.rx r [] = d :: l → badLen d.2 = false → i.len ≤ d.2 →
        i.len ≤ d.2 * (s.b.ringSize false r - 1) → Runs (.hostRxDelivery r) s (fun t => t.mem = s.mem ∧
          t.b.r (Reg.HIF_RX_HEAD r) = (s.b.r (Reg.HIF_RX_HEAD r) + 1) % s.b.ringSize false r % 2 ^ 12 ∧
          t.b.r (Reg.HIF_RX_DONE_CNT r) = satAdd 32 (s.b.r (Reg.HIF_RX_DONE_CNT r)) 1 ∧ kgetD t.b.hif.rx r [] = l ∧
          (t.b.q q).items = ((s.b.q q).drop i.id).items ∧ Out.hostRx r i.data (backDescs q i [d] i.len) ∈ t.b.out)) ∧
      (∀ (tail : Nat) (ds : List TxDesc), s.b.t (Reg.HIF_TX_EN r) = false ∨ s.b.pcieUp = false ∨ s.b.posted true r tail = 0 →
        Runs (.txRingPost rq r tail ds) s (fun t => t.mem = s.mem ∧ t.b = s.b.w (Reg.HIF_TX_TAIL r) tail)) ∧
      (∀ (tail : Nat) (d : TxDesc), s.b.t (Reg.HIF_TX_EN r) = true → s.b.pcieUp = true → s.b.posted true r tail = 1 → d.last = false →
        Runs (.txRingPost rq r tail [d]) s (fun t => t.mem = s.mem ∧ t.b = { s.b.w (Reg.HIF_TX_TAIL r) tail with
          hif := { s.b.hif with tx := kput s.b.hif.tx r (kgetD s.b.hif.tx r [] ++ [d]) } })) ∧
      (∀ (tail st : Nat) (d : TxDesc) (b2 b3 : Chip), s.b.t (Reg.HIF_TX_EN r) = true → s.b.pcieUp = true → s.b.posted true r tail = 1 → d.last = true →
        b2 = (s.b.w (Reg.HIF_TX_TAIL r) tail).modHif (fun h => { h with tx := kdel h.tx r }) → b2.txChain (kgetD s.b.hif.tx r [] ++ [d]) = (b3, st) →
        Runs (.txRingPost rq r tail [d]) s (fun t => t.mem = s.mem ∧
          t.b.r (Reg.HIF_TX_HEAD r) = (b3.r (Reg.HIF_TX_HEAD r) + (kgetD s.b.hif.tx r []).length + 1) % b3.ringSize true r % 2 ^ 12 ∧
          t.b.r (Reg.HIF_TX_FAIL_CNT r) = (if st = OK then b3.r (Reg.HIF_TX_FAIL_CNT r) else satAdd 32 (b3.r (Reg.HIF_TX_FAIL_CNT r)) 1) ∧
          t.b.r (Reg.HIF_TX_DONE_CNT r) = satAdd 32 (b3.r (Reg.HIF_TX_DONE_CNT r)) 1 ∧ t.b.queues = b3.queues ∧
          Out.hostTx r (b3.r (Reg.HIF_TX_HEAD r)) st ∈ t.b.out))) ∧
    (∀ kind, s.b.boot.off = 0 → kind ≤ 2 → Runs (.pcieHotReset kind) s (fun t => t.mem = s.mem ∧ t.b.t Reg.HIF_BUS_MASTER = false ∧
      t.b.hif = { s.b.hif with rx := [], tx := [] } ∧ t.b.ntc.msixEn = false ∧ t.b.ntc.msixMask = 2 ^ 32 - 1 ∧ t.b.ntc.pba = 0 ∧ t.b.ntc.d3hot = false ∧
      (∀ r, r < 8 → t.b.t (Reg.HIF_RX_EN r) = false ∧ t.b.t (Reg.HIF_TX_EN r) = false ∧ t.b.r (Reg.HIF_RX_DONE_CNT r) = 0 ∧
        t.b.r (Reg.HIF_RX_FAIL_CNT r) = 0 ∧ t.b.r (Reg.HIF_TX_DONE_CNT r) = 0 ∧ t.b.r (Reg.HIF_TX_FAIL_CNT r) = 0) ∧
      (∀ e ∈ t.b.clk.xing, (Config.crossingInfo e.1).1 = 9 ∨ xingDst e.1 = 9 → e.2 = {}) ∧
      t.b.t Reg.HIF_LINK_UP = (kind == 1 && s.b.t Reg.HIF_LINK_UP) ∧ t.b.t Reg.NTC_EN = (s.b.t Reg.NTC_EN && s.b.t Reg.NTC_LOC))) ∧
    (∀ kind, s.b.boot.off ≠ 0 ∨ 2 < kind → exec (.pcieHotReset kind) s = .next s) ∧
    Runs .trstN s (fun t => t.mem = s.mem ∧ t.b = { s.b with clk := { s.b.clk with xing := t.b.clk.xing } } ∧
      ∀ e ∈ t.b.clk.xing, (Config.crossingInfo e.1).1 = 0xB ∨ xingDst e.1 = 0xB → e.2 = {}) ∧
    (∀ up width speed, s.b.boot.off ≠ 0 → exec (.pcieLinkChange up width speed) s = .next s) ∧
    (∀ width speed, s.b.boot.off = 0 →
      (s.b.parked 5 = true → Runs (.pcieLinkChange true width speed) s (fun t => t.mem = s.mem ∧ t.b.t Reg.HIF_LINK_UP = false ∧
        t.b.r Reg.HIF_WIDTH = 0 ∧ t.b.r Reg.HIF_SPEED = 0)) ∧
      (s.b.parked 5 = false → Runs (.pcieLinkChange true width speed) s (fun t => t.mem = s.mem ∧ t.b.t Reg.HIF_LINK_UP = true ∧
        t.b.r Reg.HIF_WIDTH = width % 4 ∧ t.b.r Reg.HIF_SPEED = speed % 8)) ∧
      Runs (.pcieLinkChange false width speed) s (fun t => t.mem = s.mem ∧ t.b.t Reg.HIF_LINK_UP = false ∧ t.b.r Reg.HIF_WIDTH = 0 ∧ t.b.r Reg.HIF_SPEED = 0)) ∧
    (∀ bm d3 en mask, Runs (.pcieConfigWrite bm d3 en mask) s (fun t => t.mem = s.mem ∧ t.b.t Reg.HIF_BUS_MASTER = bm ∧ t.b.ntc.d3hot = d3 ∧ t.b.ntc.msixEn = en ∧
      t.b.ntc.msixMask = mask % 2 ^ 32 ∧ (en = true → d3 = false → ∀ v, v < 32 → bit s.b.ntc.pba v = true → bit mask v = false →
        bit t.b.ntc.pba v = false ∧ Out.msix v ∈ t.b.out))) ∧
    (∀ (p sfd speed : Nat) (f : List Nat) (ok up an : Bool), 1 < p → exec (.ethLinkChange p up speed an) s = .next s ∧
      exec (.ethRxFrame p f ok sfd) s = .next s) ∧
    (∀ p, p ≤ 1 →
      (∀ (up an : Bool) (speed : Nat), Runs (.ethLinkChange p up speed an) s (fun t => t.mem = s.mem ∧
        t.b.t (Reg.ETH_LINK p) = (up && s.b.t (Reg.ETH_EN p) && !s.b.t (Reg.ETH_HELD p) && s.b.boot.off == 0))) ∧
      (∀ (f : List Nat) (ok : Bool) (sfd : Nat),
        (s.b.boot.off ≠ 0 ∨ s.b.t (Reg.ETH_LINK p) = false ∨ s.b.t (Reg.ETH_EN p) = false ∨ s.b.t (Reg.ETH_HELD p) = true →
          exec (.ethRxFrame p f ok sfd) s = .next s) ∧
        (s.b.boot.off = 0 → s.b.t (Reg.ETH_LINK p) = true → s.b.t (Reg.ETH_EN p) = true → s.b.t (Reg.ETH_HELD p) = false → s.b.safe = true →
          Runs (.ethRxFrame p f ok sfd) s (fun t => t.mem = s.mem ∧ t.b = s.b.inc (Reg.ETH_SAFE_DISCARD p)))) ∧
      (∀ (f : List Nat) (sfd ty : Nat) (b1 : Chip), s.b.boot.off = 0 → s.b.t (Reg.ETH_LINK p) = true → s.b.t (Reg.ETH_EN p) = true → s.b.t (Reg.ETH_HELD p) = false →
        s.b.safe = false → ty = beNat (slice f 12 2) → b1 = (s.b.inc (Reg.ETH_RX_FRAMES p)).add (Reg.ETH_RX_OCTETS p) (f.length + 4) →
        Runs (.ethRxFrame p f false sfd) s (fun t => t.mem = s.mem ∧ t.b = b1.inc (Reg.ETH_RX_FCS_ERR p)) ∧
        (s.b.r (Reg.ETH_MAX_FRAME p) < f.length + 4 → Runs (.ethRxFrame p f true sfd) s (fun t => t.mem = s.mem ∧ t.b = b1.inc (Reg.ETH_RX_TOO_LONG p))) ∧
        (f.length + 4 ≤ s.b.r (Reg.ETH_MAX_FRAME p) → ty = 0x8808 → Runs (.ethRxFrame p f true sfd) s (fun t => t.mem = s.mem ∧
          t.b = b1.inc (Reg.ETH_RX_CTRL p))) ∧
        (f.length + 4 ≤ s.b.r (Reg.ETH_MAX_FRAME p) → ty ≠ 0x8808 → Runs (.ethRxFrame p f true sfd) s (fun t => t.mem = s.mem ∧
          t.b = b1.ethSort p f sfd)) ∧
        (∀ (b2 : Chip) (id code : Nat), f.length + 4 ≤ s.b.r (Reg.ETH_MAX_FRAME p) → ty ∉ [0x8808, 0x8100, 0x88A8, 0x86DD, 0x0800, 0x88F7] →
          b1.pushSrc (b1.r Reg.ETH_ETH_OTHER_Q) (b1.r (Reg.ETH_MAX_FRAME p)) f 0 p none = ⟨b2, id, code⟩ →
          Runs (.ethRxFrame p f true sfd) s (fun t => t.mem = s.mem ∧ t.b = if code = OK then b2 else b2.inc (Reg.ETH_RX_NO_BUF p)))))
end

