-- ==== Sys2Proof/Laws/Map.lean ====
section
/-!
SUPPORT. The laws of the sparse tables and of the buffers' octets: reading after writing, and the canonical form.
-/
namespace Sys2Proof

variable {α : Type}

@[simp] theorem kget_nil (k : Nat) : kget ([] : KV α) k = none := rfl

theorem kget_cons (j : Nat) (v : α) (t : KV α) (k : Nat) :
    kget ((j, v) :: t) k = if j = k then some v else kget t k := rfl

/-- Reading an entry after an entry has been put. -/
theorem kget_kput (m : KV α) (k j : Nat) (v : α) : kget (kput m k v) j = if k = j then some v else kget m j := by
  fun_induction kput m k v <;> grind [kget]

/-- Reading an entry after an entry has been removed. -/
theorem kget_kdel (m : KV α) (k j : Nat) : kget (kdel m k) j = if k = j then none else kget m j := by
  fun_induction kdel m k <;> grind [kget]

@[simp] theorem kget_kput_same (m : KV α) (k : Nat) (v : α) : kget (kput m k v) k = some v := by simp [kget_kput]
@[simp] theorem kget_kdel_same (m : KV α) (k : Nat) : kget (kdel m k) k = none := by simp [kget_kdel]

/-- Reading an entry after one has been changed in place. -/
theorem kget_kmod (m : KV α) (k j : Nat) (f : α → α) :
    kget (kmod m k f) j = if k = j then (kget m j).map f else kget m j := by
  fun_induction kmod m k f <;> grind [kget]

/-- Reading with a default after a write that keeps the default unlisted. -/
theorem kgetD_kset [DecidableEq α] (d : α) (m : KV α) (k j : Nat) (v : α) :
    kgetD (kset d m k v) j d = if k = j then v else kgetD m j d := by
  grind [kset, kgetD, kget_kdel, kget_kput]

theorem kgetD_kset_same [DecidableEq α] (d : α) (m : KV α) (k : Nat) (v : α) :
    kgetD (kset d m k v) k d = v := by simp [kgetD_kset]

/-- Reading under another key, whatever the two defaults are. -/
theorem kgetD_kset_ne [DecidableEq α] (d e : α) (m : KV α) {k j : Nat} (v : α) (h : k ≠ j) :
    kgetD (kset d m k v) j e = kgetD m j e := by
  grind [kset, kgetD, kget_kdel, kget_kput]

/-! ### The canonical form -/

theorem kwfFrom_mono {lo lo' : Nat} {m : KV α} (h : lo' ≤ lo) (w : kwfFrom lo m = true) : kwfFrom lo' m = true := by
  cases m <;> grind [kwfFrom]

theorem kwfFrom_tail {lo j : Nat} {v : α} {t : KV α} (w : kwfFrom lo ((j, v) :: t) = true) : kwfFrom lo t = true := by
  have h : lo ≤ j ∧ kwfFrom (j + 1) t = true := by simpa [kwfFrom] using w
  exact kwfFrom_mono (Nat.le_succ_of_le h.1) h.2

theorem kwfFrom_kput {lo : Nat} {m : KV α} (k : Nat) (v : α) (w : kwfFrom lo m = true) (h : lo ≤ k) :
    kwfFrom lo (kput m k v) = true := by
  fun_induction kput m k v generalizing lo <;> grind [kwfFrom]

theorem kwfFrom_kdel {lo : Nat} {m : KV α} (k : Nat) (w : kwfFrom lo m = true) : kwfFrom lo (kdel m k) = true := by
  fun_induction kdel m k generalizing lo <;> grind [kwfFrom, kwfFrom_tail]

theorem kput_all {m : KV α} {p : Nat × α → Bool} (k : Nat) (v : α) (h : m.all p = true) (hv : p (k, v) = true) :
    (kput m k v).all p = true := by
  fun_induction kput m k v <;> grind

theorem kdel_all {m : KV α} {p : Nat × α → Bool} (k : Nat) (h : m.all p = true) : (kdel m k).all p = true := by
  fun_induction kdel m k <;> grind

end Sys2Proof

namespace Sys2Proof.Machine

/-! ### The window's buffers -/

/-- Writing one octet keeps the canonical form. -/
theorem Memory.put_wf {m : Memory} (a : Nat) (v : BitVec 8) (h : Memory.wf m = true) : Memory.wf (Memory.put m a v) = true := by
  simp only [Memory.wf, Bool.and_eq_true, kwf] at h ⊢
  unfold Memory.put kset
  split
  · exact ⟨kwfFrom_kdel a h.1, kdel_all a h.2⟩
  · rename_i hv
    exact ⟨kwfFrom_kput a v h.1 (Nat.zero_le _), kput_all a v h.2 (by simpa using hv)⟩

/-- Writing octets keeps the canonical form. -/
theorem Memory.write_wf {m : Memory} (a : Nat) (l : List Nat) (h : Memory.wf m = true) : Memory.wf (Memory.write m a l) = true := by
  fun_induction Memory.write m a l <;> simp_all [Memory.put_wf]

/-- One octet reads back what was put there, and every other octet what it held. -/
theorem Memory.get_put (m : Memory) (a c : Nat) (v : BitVec 8) :
    Memory.get (Memory.put m a v) c = if a = c then v else Memory.get m c := by
  simp only [Memory.get, Memory.put, kgetD_kset]

/-- The octets that a write leaves behind. -/
theorem Memory.get_write (m : Memory) (a c : Nat) (l : List Nat) :
    Memory.get (Memory.write m a l) c = if a ≤ c ∧ c < a + l.length then BitVec.ofNat 8 (l.getD (c - a) 0) else Memory.get m c := by
  fun_induction Memory.write m a l <;> grind [Memory.get_put]

/-- An octet below the octets written keeps its value. -/
theorem Memory.get_write_lt (m : Memory) (a c : Nat) (l : List Nat) (h : c < a) : Memory.get (Memory.write m a l) c = Memory.get m c := by
  simp [Memory.get_write, Nat.not_le.mpr h]

end Sys2Proof.Machine
end

