-- ==== Sys2Proof/Laws/State.lean ====
section
/-!
SUPPORT. One lemma per field of the block and per update that every meaning shares: what the update leaves as it was.
-/
namespace Sys2Proof.Machine

/-! ### The state -/
@[simp] theorem State.on_eq (s : State) (f : Chip → Chip) : s.on f = .next { s with b := f s.b } := rfl

/-! ### One normal form: every register update is a `Chip.w` -/
@[simp] theorem Chip.wb_eq (b : Chip) (f : Fld) (v : Bool) : b.wb f v = b.w f (b2n v) := rfl
@[simp] theorem Chip.add_eq (b : Chip) (f : Fld) (n : Nat) : b.add f n = b.w f (satAdd f.w (b.r f) n) := rfl
@[simp] theorem Chip.inc_eq (b : Chip) (f : Fld) : b.inc f = b.w f (satAdd f.w (b.r f) 1) := rfl
@[simp] theorem Chip.sub_eq (b : Chip) (f : Fld) (n : Nat) : b.sub f n = b.w f (b.r f - n) := rfl
@[simp] theorem Chip.ws_eq (b : Chip) (f : Fld) (i : Int) : b.ws f i = b.w f (ofS i f.w) := rfl


/-! ### Writing a register -/
@[simp] theorem Chip.w_bank (b : Chip) (f : Fld) (v : Nat) : (b.w f v).bank = b.bank := rfl
@[simp] theorem Chip.w_latch (b : Chip) (f : Fld) (v : Nat) : (b.w f v).latch = b.latch := rfl
@[simp] theorem Chip.w_staged (b : Chip) (f : Fld) (v : Nat) : (b.w f v).staged = b.staged := rfl
@[simp] theorem Chip.w_cmdIrq (b : Chip) (f : Fld) (v : Nat) : (b.w f v).cmdIrq = b.cmdIrq := rfl
@[simp] theorem Chip.w_acc (b : Chip) (f : Fld) (v : Nat) : (b.w f v).acc = b.acc := rfl
@[simp] theorem Chip.w_overrides (b : Chip) (f : Fld) (v : Nat) : (b.w f v).overrides = b.overrides := rfl
@[simp] theorem Chip.w_pat (b : Chip) (f : Fld) (v : Nat) : (b.w f v).pat = b.pat := rfl
@[simp] theorem Chip.w_ntc (b : Chip) (f : Fld) (v : Nat) : (b.w f v).ntc = b.ntc := rfl
@[simp] theorem Chip.w_clk (b : Chip) (f : Fld) (v : Nat) : (b.w f v).clk = b.clk := rfl
@[simp] theorem Chip.w_tim (b : Chip) (f : Fld) (v : Nat) : (b.w f v).tim = b.tim := rfl
@[simp] theorem Chip.w_cap (b : Chip) (f : Fld) (v : Nat) : (b.w f v).cap = b.cap := rfl
@[simp] theorem Chip.w_rawCap (b : Chip) (f : Fld) (v : Nat) : (b.w f v).rawCap = b.rawCap := rfl
@[simp] theorem Chip.w_rawMem (b : Chip) (f : Fld) (v : Nat) : (b.w f v).rawMem = b.rawMem := rfl
@[simp] theorem Chip.w_tmrAcc (b : Chip) (f : Fld) (v : Nat) : (b.w f v).tmrAcc = b.tmrAcc := rfl
@[simp] theorem Chip.w_queues (b : Chip) (f : Fld) (v : Nat) : (b.w f v).queues = b.queues := rfl
@[simp] theorem Chip.w_nextItem (b : Chip) (f : Fld) (v : Nat) : (b.w f v).nextItem = b.nextItem := rfl
@[simp] theorem Chip.w_eccFirst (b : Chip) (f : Fld) (v : Nat) : (b.w f v).eccFirst = b.eccFirst := rfl
@[simp] theorem Chip.w_tmg (b : Chip) (f : Fld) (v : Nat) : (b.w f v).tmg = b.tmg := rfl
@[simp] theorem Chip.w_adapt (b : Chip) (f : Fld) (v : Nat) : (b.w f v).adapt = b.adapt := rfl
@[simp] theorem Chip.w_rf (b : Chip) (f : Fld) (v : Nat) : (b.w f v).rf = b.rf := rfl
@[simp] theorem Chip.w_rx (b : Chip) (f : Fld) (v : Nat) : (b.w f v).rx = b.rx := rfl
@[simp] theorem Chip.w_tx (b : Chip) (f : Fld) (v : Nat) : (b.w f v).tx = b.tx := rfl
@[simp] theorem Chip.w_sch (b : Chip) (f : Fld) (v : Nat) : (b.w f v).sch = b.sch := rfl
@[simp] theorem Chip.w_mac (b : Chip) (f : Fld) (v : Nat) : (b.w f v).mac = b.mac := rfl
@[simp] theorem Chip.w_sec (b : Chip) (f : Fld) (v : Nat) : (b.w f v).sec = b.sec := rfl
@[simp] theorem Chip.w_key (b : Chip) (f : Fld) (v : Nat) : (b.w f v).key = b.key := rfl
@[simp] theorem Chip.w_fwd (b : Chip) (f : Fld) (v : Nat) : (b.w f v).fwd = b.fwd := rfl
@[simp] theorem Chip.w_svc (b : Chip) (f : Fld) (v : Nat) : (b.w f v).svc = b.svc := rfl
@[simp] theorem Chip.w_nv (b : Chip) (f : Fld) (v : Nat) : (b.w f v).nv = b.nv := rfl
@[simp] theorem Chip.w_boot (b : Chip) (f : Fld) (v : Nat) : (b.w f v).boot = b.boot := rfl
@[simp] theorem Chip.w_upd (b : Chip) (f : Fld) (v : Nat) : (b.w f v).upd = b.upd := rfl
@[simp] theorem Chip.w_pwr (b : Chip) (f : Fld) (v : Nat) : (b.w f v).pwr = b.pwr := rfl
@[simp] theorem Chip.w_hif (b : Chip) (f : Fld) (v : Nat) : (b.w f v).hif = b.hif := rfl
@[simp] theorem Chip.w_sea (b : Chip) (f : Fld) (v : Nat) : (b.w f v).sea = b.sea := rfl
@[simp] theorem Chip.w_owed (b : Chip) (f : Fld) (v : Nat) : (b.w f v).owed = b.owed := rfl
@[simp] theorem Chip.w_gap (b : Chip) (f : Fld) (v : Nat) : (b.w f v).gap = b.gap := rfl
@[simp] theorem Chip.w_freeCtr (b : Chip) (f : Fld) (v : Nat) : (b.w f v).freeCtr = b.freeCtr := rfl
@[simp] theorem Chip.w_out (b : Chip) (f : Fld) (v : Nat) : (b.w f v).out = b.out := rfl

/-! ### Output -/
@[simp] theorem Chip.emit_regs (b : Chip) (o : Out) : (b.emit o).regs = b.regs := rfl
@[simp] theorem Chip.emit_bank (b : Chip) (o : Out) : (b.emit o).bank = b.bank := rfl
@[simp] theorem Chip.emit_latch (b : Chip) (o : Out) : (b.emit o).latch = b.latch := rfl
@[simp] theorem Chip.emit_staged (b : Chip) (o : Out) : (b.emit o).staged = b.staged := rfl
@[simp] theorem Chip.emit_cmdIrq (b : Chip) (o : Out) : (b.emit o).cmdIrq = b.cmdIrq := rfl
@[simp] theorem Chip.emit_acc (b : Chip) (o : Out) : (b.emit o).acc = b.acc := rfl
@[simp] theorem Chip.emit_overrides (b : Chip) (o : Out) : (b.emit o).overrides = b.overrides := rfl
@[simp] theorem Chip.emit_pat (b : Chip) (o : Out) : (b.emit o).pat = b.pat := rfl
@[simp] theorem Chip.emit_ntc (b : Chip) (o : Out) : (b.emit o).ntc = b.ntc := rfl
@[simp] theorem Chip.emit_clk (b : Chip) (o : Out) : (b.emit o).clk = b.clk := rfl
@[simp] theorem Chip.emit_tim (b : Chip) (o : Out) : (b.emit o).tim = b.tim := rfl
@[simp] theorem Chip.emit_cap (b : Chip) (o : Out) : (b.emit o).cap = b.cap := rfl
@[simp] theorem Chip.emit_rawCap (b : Chip) (o : Out) : (b.emit o).rawCap = b.rawCap := rfl
@[simp] theorem Chip.emit_rawMem (b : Chip) (o : Out) : (b.emit o).rawMem = b.rawMem := rfl
@[simp] theorem Chip.emit_tmrAcc (b : Chip) (o : Out) : (b.emit o).tmrAcc = b.tmrAcc := rfl
@[simp] theorem Chip.emit_queues (b : Chip) (o : Out) : (b.emit o).queues = b.queues := rfl
@[simp] theorem Chip.emit_nextItem (b : Chip) (o : Out) : (b.emit o).nextItem = b.nextItem := rfl
@[simp] theorem Chip.emit_eccFirst (b : Chip) (o : Out) : (b.emit o).eccFirst = b.eccFirst := rfl
@[simp] theorem Chip.emit_tmg (b : Chip) (o : Out) : (b.emit o).tmg = b.tmg := rfl
@[simp] theorem Chip.emit_adapt (b : Chip) (o : Out) : (b.emit o).adapt = b.adapt := rfl
@[simp] theorem Chip.emit_rf (b : Chip) (o : Out) : (b.emit o).rf = b.rf := rfl
@[simp] theorem Chip.emit_rx (b : Chip) (o : Out) : (b.emit o).rx = b.rx := rfl
@[simp] theorem Chip.emit_tx (b : Chip) (o : Out) : (b.emit o).tx = b.tx := rfl
@[simp] theorem Chip.emit_sch (b : Chip) (o : Out) : (b.emit o).sch = b.sch := rfl
@[simp] theorem Chip.emit_mac (b : Chip) (o : Out) : (b.emit o).mac = b.mac := rfl
@[simp] theorem Chip.emit_sec (b : Chip) (o : Out) : (b.emit o).sec = b.sec := rfl
@[simp] theorem Chip.emit_key (b : Chip) (o : Out) : (b.emit o).key = b.key := rfl
@[simp] theorem Chip.emit_fwd (b : Chip) (o : Out) : (b.emit o).fwd = b.fwd := rfl
@[simp] theorem Chip.emit_svc (b : Chip) (o : Out) : (b.emit o).svc = b.svc := rfl
@[simp] theorem Chip.emit_nv (b : Chip) (o : Out) : (b.emit o).nv = b.nv := rfl
@[simp] theorem Chip.emit_boot (b : Chip) (o : Out) : (b.emit o).boot = b.boot := rfl
@[simp] theorem Chip.emit_upd (b : Chip) (o : Out) : (b.emit o).upd = b.upd := rfl
@[simp] theorem Chip.emit_pwr (b : Chip) (o : Out) : (b.emit o).pwr = b.pwr := rfl
@[simp] theorem Chip.emit_hif (b : Chip) (o : Out) : (b.emit o).hif = b.hif := rfl
@[simp] theorem Chip.emit_sea (b : Chip) (o : Out) : (b.emit o).sea = b.sea := rfl
@[simp] theorem Chip.emit_owed (b : Chip) (o : Out) : (b.emit o).owed = b.owed := rfl
@[simp] theorem Chip.emit_gap (b : Chip) (o : Out) : (b.emit o).gap = b.gap := rfl
@[simp] theorem Chip.emit_freeCtr (b : Chip) (o : Out) : (b.emit o).freeCtr = b.freeCtr := rfl

/-! ### Accepting a command -/
@[simp] theorem Chip.cmdAccept_bank (b : Chip) (base : Nat) (irq : Bool) : (b.cmdAccept base irq).bank = b.bank := rfl
@[simp] theorem Chip.cmdAccept_latch (b : Chip) (base : Nat) (irq : Bool) : (b.cmdAccept base irq).latch = b.latch := rfl
@[simp] theorem Chip.cmdAccept_staged (b : Chip) (base : Nat) (irq : Bool) : (b.cmdAccept base irq).staged = b.staged := rfl
@[simp] theorem Chip.cmdAccept_acc (b : Chip) (base : Nat) (irq : Bool) : (b.cmdAccept base irq).acc = b.acc := rfl
@[simp] theorem Chip.cmdAccept_overrides (b : Chip) (base : Nat) (irq : Bool) : (b.cmdAccept base irq).overrides = b.overrides := rfl
@[simp] theorem Chip.cmdAccept_pat (b : Chip) (base : Nat) (irq : Bool) : (b.cmdAccept base irq).pat = b.pat := rfl
@[simp] theorem Chip.cmdAccept_ntc (b : Chip) (base : Nat) (irq : Bool) : (b.cmdAccept base irq).ntc = b.ntc := rfl
@[simp] theorem Chip.cmdAccept_clk (b : Chip) (base : Nat) (irq : Bool) : (b.cmdAccept base irq).clk = b.clk := rfl
@[simp] theorem Chip.cmdAccept_tim (b : Chip) (base : Nat) (irq : Bool) : (b.cmdAccept base irq).tim = b.tim := rfl
@[simp] theorem Chip.cmdAccept_cap (b : Chip) (base : Nat) (irq : Bool) : (b.cmdAccept base irq).cap = b.cap := rfl
@[simp] theorem Chip.cmdAccept_rawCap (b : Chip) (base : Nat) (irq : Bool) : (b.cmdAccept base irq).rawCap = b.rawCap := rfl
@[simp] theorem Chip.cmdAccept_rawMem (b : Chip) (base : Nat) (irq : Bool) : (b.cmdAccept base irq).rawMem = b.rawMem := rfl
@[simp] theorem Chip.cmdAccept_tmrAcc (b : Chip) (base : Nat) (irq : Bool) : (b.cmdAccept base irq).tmrAcc = b.tmrAcc := rfl
@[simp] theorem Chip.cmdAccept_queues (b : Chip) (base : Nat) (irq : Bool) : (b.cmdAccept base irq).queues = b.queues := rfl
@[simp] theorem Chip.cmdAccept_nextItem (b : Chip) (base : Nat) (irq : Bool) : (b.cmdAccept base irq).nextItem = b.nextItem := rfl
@[simp] theorem Chip.cmdAccept_eccFirst (b : Chip) (base : Nat) (irq : Bool) : (b.cmdAccept base irq).eccFirst = b.eccFirst := rfl
@[simp] theorem Chip.cmdAccept_tmg (b : Chip) (base : Nat) (irq : Bool) : (b.cmdAccept base irq).tmg = b.tmg := rfl
@[simp] theorem Chip.cmdAccept_adapt (b : Chip) (base : Nat) (irq : Bool) : (b.cmdAccept base irq).adapt = b.adapt := rfl
@[simp] theorem Chip.cmdAccept_rf (b : Chip) (base : Nat) (irq : Bool) : (b.cmdAccept base irq).rf = b.rf := rfl
@[simp] theorem Chip.cmdAccept_rx (b : Chip) (base : Nat) (irq : Bool) : (b.cmdAccept base irq).rx = b.rx := rfl
@[simp] theorem Chip.cmdAccept_tx (b : Chip) (base : Nat) (irq : Bool) : (b.cmdAccept base irq).tx = b.tx := rfl
@[simp] theorem Chip.cmdAccept_sch (b : Chip) (base : Nat) (irq : Bool) : (b.cmdAccept base irq).sch = b.sch := rfl
@[simp] theorem Chip.cmdAccept_mac (b : Chip) (base : Nat) (irq : Bool) : (b.cmdAccept base irq).mac = b.mac := rfl
@[simp] theorem Chip.cmdAccept_sec (b : Chip) (base : Nat) (irq : Bool) : (b.cmdAccept base irq).sec = b.sec := rfl
@[simp] theorem Chip.cmdAccept_key (b : Chip) (base : Nat) (irq : Bool) : (b.cmdAccept base irq).key = b.key := rfl
@[simp] theorem Chip.cmdAccept_fwd (b : Chip) (base : Nat) (irq : Bool) : (b.cmdAccept base irq).fwd = b.fwd := rfl
@[simp] theorem Chip.cmdAccept_svc (b : Chip) (base : Nat) (irq : Bool) : (b.cmdAccept base irq).svc = b.svc := rfl
@[simp] theorem Chip.cmdAccept_nv (b : Chip) (base : Nat) (irq : Bool) : (b.cmdAccept base irq).nv = b.nv := rfl
@[simp] theorem Chip.cmdAccept_boot (b : Chip) (base : Nat) (irq : Bool) : (b.cmdAccept base irq).boot = b.boot := rfl
@[simp] theorem Chip.cmdAccept_upd (b : Chip) (base : Nat) (irq : Bool) : (b.cmdAccept base irq).upd = b.upd := rfl
@[simp] theorem Chip.cmdAccept_pwr (b : Chip) (base : Nat) (irq : Bool) : (b.cmdAccept base irq).pwr = b.pwr := rfl
@[simp] theorem Chip.cmdAccept_hif (b : Chip) (base : Nat) (irq : Bool) : (b.cmdAccept base irq).hif = b.hif := rfl
@[simp] theorem Chip.cmdAccept_sea (b : Chip) (base : Nat) (irq : Bool) : (b.cmdAccept base irq).sea = b.sea := rfl
@[simp] theorem Chip.cmdAccept_owed (b : Chip) (base : Nat) (irq : Bool) : (b.cmdAccept base irq).owed = b.owed := rfl
@[simp] theorem Chip.cmdAccept_gap (b : Chip) (base : Nat) (irq : Bool) : (b.cmdAccept base irq).gap = b.gap := rfl
@[simp] theorem Chip.cmdAccept_freeCtr (b : Chip) (base : Nat) (irq : Bool) : (b.cmdAccept base irq).freeCtr = b.freeCtr := rfl
@[simp] theorem Chip.cmdAccept_out (b : Chip) (base : Nat) (irq : Bool) : (b.cmdAccept base irq).out = b.out := rfl

/-! ### Counting towards a notice -/
@[simp] theorem Chip.note_regs (b : Chip) (k n : Nat) : (b.note k n).regs = b.regs := rfl
@[simp] theorem Chip.note_bank (b : Chip) (k n : Nat) : (b.note k n).bank = b.bank := rfl
@[simp] theorem Chip.note_latch (b : Chip) (k n : Nat) : (b.note k n).latch = b.latch := rfl
@[simp] theorem Chip.note_staged (b : Chip) (k n : Nat) : (b.note k n).staged = b.staged := rfl
@[simp] theorem Chip.note_cmdIrq (b : Chip) (k n : Nat) : (b.note k n).cmdIrq = b.cmdIrq := rfl
@[simp] theorem Chip.note_overrides (b : Chip) (k n : Nat) : (b.note k n).overrides = b.overrides := rfl
@[simp] theorem Chip.note_pat (b : Chip) (k n : Nat) : (b.note k n).pat = b.pat := rfl
@[simp] theorem Chip.note_ntc (b : Chip) (k n : Nat) : (b.note k n).ntc = b.ntc := rfl
@[simp] theorem Chip.note_clk (b : Chip) (k n : Nat) : (b.note k n).clk = b.clk := rfl
@[simp] theorem Chip.note_tim (b : Chip) (k n : Nat) : (b.note k n).tim = b.tim := rfl
@[simp] theorem Chip.note_cap (b : Chip) (k n : Nat) : (b.note k n).cap = b.cap := rfl
@[simp] theorem Chip.note_rawCap (b : Chip) (k n : Nat) : (b.note k n).rawCap = b.rawCap := rfl
@[simp] theorem Chip.note_rawMem (b : Chip) (k n : Nat) : (b.note k n).rawMem = b.rawMem := rfl
@[simp] theorem Chip.note_tmrAcc (b : Chip) (k n : Nat) : (b.note k n).tmrAcc = b.tmrAcc := rfl
@[simp] theorem Chip.note_queues (b : Chip) (k n : Nat) : (b.note k n).queues = b.queues := rfl
@[simp] theorem Chip.note_nextItem (b : Chip) (k n : Nat) : (b.note k n).nextItem = b.nextItem := rfl
@[simp] theorem Chip.note_eccFirst (b : Chip) (k n : Nat) : (b.note k n).eccFirst = b.eccFirst := rfl
@[simp] theorem Chip.note_tmg (b : Chip) (k n : Nat) : (b.note k n).tmg = b.tmg := rfl
@[simp] theorem Chip.note_adapt (b : Chip) (k n : Nat) : (b.note k n).adapt = b.adapt := rfl
@[simp] theorem Chip.note_rf (b : Chip) (k n : Nat) : (b.note k n).rf = b.rf := rfl
@[simp] theorem Chip.note_rx (b : Chip) (k n : Nat) : (b.note k n).rx = b.rx := rfl
@[simp] theorem Chip.note_tx (b : Chip) (k n : Nat) : (b.note k n).tx = b.tx := rfl
@[simp] theorem Chip.note_sch (b : Chip) (k n : Nat) : (b.note k n).sch = b.sch := rfl
@[simp] theorem Chip.note_mac (b : Chip) (k n : Nat) : (b.note k n).mac = b.mac := rfl
@[simp] theorem Chip.note_sec (b : Chip) (k n : Nat) : (b.note k n).sec = b.sec := rfl
@[simp] theorem Chip.note_key (b : Chip) (k n : Nat) : (b.note k n).key = b.key := rfl
@[simp] theorem Chip.note_fwd (b : Chip) (k n : Nat) : (b.note k n).fwd = b.fwd := rfl
@[simp] theorem Chip.note_svc (b : Chip) (k n : Nat) : (b.note k n).svc = b.svc := rfl
@[simp] theorem Chip.note_nv (b : Chip) (k n : Nat) : (b.note k n).nv = b.nv := rfl
@[simp] theorem Chip.note_boot (b : Chip) (k n : Nat) : (b.note k n).boot = b.boot := rfl
@[simp] theorem Chip.note_upd (b : Chip) (k n : Nat) : (b.note k n).upd = b.upd := rfl
@[simp] theorem Chip.note_pwr (b : Chip) (k n : Nat) : (b.note k n).pwr = b.pwr := rfl
@[simp] theorem Chip.note_hif (b : Chip) (k n : Nat) : (b.note k n).hif = b.hif := rfl
@[simp] theorem Chip.note_sea (b : Chip) (k n : Nat) : (b.note k n).sea = b.sea := rfl
@[simp] theorem Chip.note_owed (b : Chip) (k n : Nat) : (b.note k n).owed = b.owed := rfl
@[simp] theorem Chip.note_gap (b : Chip) (k n : Nat) : (b.note k n).gap = b.gap := rfl
@[simp] theorem Chip.note_freeCtr (b : Chip) (k n : Nat) : (b.note k n).freeCtr = b.freeCtr := rfl
@[simp] theorem Chip.note_out (b : Chip) (k n : Nat) : (b.note k n).out = b.out := rfl

/-! ### Latching a word -/
@[simp] theorem Chip.latchPut_regs (b : Chip) (rq : Requester) (off v : Nat) : (b.latchPut rq off v).regs = b.regs := rfl
@[simp] theorem Chip.latchPut_bank (b : Chip) (rq : Requester) (off v : Nat) : (b.latchPut rq off v).bank = b.bank := rfl
@[simp] theorem Chip.latchPut_staged (b : Chip) (rq : Requester) (off v : Nat) : (b.latchPut rq off v).staged = b.staged := rfl
@[simp] theorem Chip.latchPut_cmdIrq (b : Chip) (rq : Requester) (off v : Nat) : (b.latchPut rq off v).cmdIrq = b.cmdIrq := rfl
@[simp] theorem Chip.latchPut_acc (b : Chip) (rq : Requester) (off v : Nat) : (b.latchPut rq off v).acc = b.acc := rfl
@[simp] theorem Chip.latchPut_overrides (b : Chip) (rq : Requester) (off v : Nat) : (b.latchPut rq off v).overrides = b.overrides := rfl
@[simp] theorem Chip.latchPut_pat (b : Chip) (rq : Requester) (off v : Nat) : (b.latchPut rq off v).pat = b.pat := rfl
@[simp] theorem Chip.latchPut_ntc (b : Chip) (rq : Requester) (off v : Nat) : (b.latchPut rq off v).ntc = b.ntc := rfl
@[simp] theorem Chip.latchPut_clk (b : Chip) (rq : Requester) (off v : Nat) : (b.latchPut rq off v).clk = b.clk := rfl
@[simp] theorem Chip.latchPut_tim (b : Chip) (rq : Requester) (off v : Nat) : (b.latchPut rq off v).tim = b.tim := rfl
@[simp] theorem Chip.latchPut_cap (b : Chip) (rq : Requester) (off v : Nat) : (b.latchPut rq off v).cap = b.cap := rfl
@[simp] theorem Chip.latchPut_rawCap (b : Chip) (rq : Requester) (off v : Nat) : (b.latchPut rq off v).rawCap = b.rawCap := rfl
@[simp] theorem Chip.latchPut_rawMem (b : Chip) (rq : Requester) (off v : Nat) : (b.latchPut rq off v).rawMem = b.rawMem := rfl
@[simp] theorem Chip.latchPut_tmrAcc (b : Chip) (rq : Requester) (off v : Nat) : (b.latchPut rq off v).tmrAcc = b.tmrAcc := rfl
@[simp] theorem Chip.latchPut_queues (b : Chip) (rq : Requester) (off v : Nat) : (b.latchPut rq off v).queues = b.queues := rfl
@[simp] theorem Chip.latchPut_nextItem (b : Chip) (rq : Requester) (off v : Nat) : (b.latchPut rq off v).nextItem = b.nextItem := rfl
@[simp] theorem Chip.latchPut_eccFirst (b : Chip) (rq : Requester) (off v : Nat) : (b.latchPut rq off v).eccFirst = b.eccFirst := rfl
@[simp] theorem Chip.latchPut_tmg (b : Chip) (rq : Requester) (off v : Nat) : (b.latchPut rq off v).tmg = b.tmg := rfl
@[simp] theorem Chip.latchPut_adapt (b : Chip) (rq : Requester) (off v : Nat) : (b.latchPut rq off v).adapt = b.adapt := rfl
@[simp] theorem Chip.latchPut_rf (b : Chip) (rq : Requester) (off v : Nat) : (b.latchPut rq off v).rf = b.rf := rfl
@[simp] theorem Chip.latchPut_rx (b : Chip) (rq : Requester) (off v : Nat) : (b.latchPut rq off v).rx = b.rx := rfl
@[simp] theorem Chip.latchPut_tx (b : Chip) (rq : Requester) (off v : Nat) : (b.latchPut rq off v).tx = b.tx := rfl
@[simp] theorem Chip.latchPut_sch (b : Chip) (rq : Requester) (off v : Nat) : (b.latchPut rq off v).sch = b.sch := rfl
@[simp] theorem Chip.latchPut_mac (b : Chip) (rq : Requester) (off v : Nat) : (b.latchPut rq off v).mac = b.mac := rfl
@[simp] theorem Chip.latchPut_sec (b : Chip) (rq : Requester) (off v : Nat) : (b.latchPut rq off v).sec = b.sec := rfl
@[simp] theorem Chip.latchPut_key (b : Chip) (rq : Requester) (off v : Nat) : (b.latchPut rq off v).key = b.key := rfl
@[simp] theorem Chip.latchPut_fwd (b : Chip) (rq : Requester) (off v : Nat) : (b.latchPut rq off v).fwd = b.fwd := rfl
@[simp] theorem Chip.latchPut_svc (b : Chip) (rq : Requester) (off v : Nat) : (b.latchPut rq off v).svc = b.svc := rfl
@[simp] theorem Chip.latchPut_nv (b : Chip) (rq : Requester) (off v : Nat) : (b.latchPut rq off v).nv = b.nv := rfl
@[simp] theorem Chip.latchPut_boot (b : Chip) (rq : Requester) (off v : Nat) : (b.latchPut rq off v).boot = b.boot := rfl
@[simp] theorem Chip.latchPut_upd (b : Chip) (rq : Requester) (off v : Nat) : (b.latchPut rq off v).upd = b.upd := rfl
@[simp] theorem Chip.latchPut_pwr (b : Chip) (rq : Requester) (off v : Nat) : (b.latchPut rq off v).pwr = b.pwr := rfl
@[simp] theorem Chip.latchPut_hif (b : Chip) (rq : Requester) (off v : Nat) : (b.latchPut rq off v).hif = b.hif := rfl
@[simp] theorem Chip.latchPut_sea (b : Chip) (rq : Requester) (off v : Nat) : (b.latchPut rq off v).sea = b.sea := rfl
@[simp] theorem Chip.latchPut_owed (b : Chip) (rq : Requester) (off v : Nat) : (b.latchPut rq off v).owed = b.owed := rfl
@[simp] theorem Chip.latchPut_gap (b : Chip) (rq : Requester) (off v : Nat) : (b.latchPut rq off v).gap = b.gap := rfl
@[simp] theorem Chip.latchPut_freeCtr (b : Chip) (rq : Requester) (off v : Nat) : (b.latchPut rq off v).freeCtr = b.freeCtr := rfl
@[simp] theorem Chip.latchPut_out (b : Chip) (rq : Requester) (off v : Nat) : (b.latchPut rq off v).out = b.out := rfl

/-! ### Staging a word -/
@[simp] theorem Chip.stage_regs (b : Chip) (rq : Requester) (off v : Nat) : (b.stage rq off v).regs = b.regs := rfl
@[simp] theorem Chip.stage_bank (b : Chip) (rq : Requester) (off v : Nat) : (b.stage rq off v).bank = b.bank := rfl
@[simp] theorem Chip.stage_latch (b : Chip) (rq : Requester) (off v : Nat) : (b.stage rq off v).latch = b.latch := rfl
@[simp] theorem Chip.stage_cmdIrq (b : Chip) (rq : Requester) (off v : Nat) : (b.stage rq off v).cmdIrq = b.cmdIrq := rfl
@[simp] theorem Chip.stage_acc (b : Chip) (rq : Requester) (off v : Nat) : (b.stage rq off v).acc = b.acc := rfl
@[simp] theorem Chip.stage_overrides (b : Chip) (rq : Requester) (off v : Nat) : (b.stage rq off v).overrides = b.overrides := rfl
@[simp] theorem Chip.stage_pat (b : Chip) (rq : Requester) (off v : Nat) : (b.stage rq off v).pat = b.pat := rfl
@[simp] theorem Chip.stage_ntc (b : Chip) (rq : Requester) (off v : Nat) : (b.stage rq off v).ntc = b.ntc := rfl
@[simp] theorem Chip.stage_clk (b : Chip) (rq : Requester) (off v : Nat) : (b.stage rq off v).clk = b.clk := rfl
@[simp] theorem Chip.stage_tim (b : Chip) (rq : Requester) (off v : Nat) : (b.stage rq off v).tim = b.tim := rfl
@[simp] theorem Chip.stage_cap (b : Chip) (rq : Requester) (off v : Nat) : (b.stage rq off v).cap = b.cap := rfl
@[simp] theorem Chip.stage_rawCap (b : Chip) (rq : Requester) (off v : Nat) : (b.stage rq off v).rawCap = b.rawCap := rfl
@[simp] theorem Chip.stage_rawMem (b : Chip) (rq : Requester) (off v : Nat) : (b.stage rq off v).rawMem = b.rawMem := rfl
@[simp] theorem Chip.stage_tmrAcc (b : Chip) (rq : Requester) (off v : Nat) : (b.stage rq off v).tmrAcc = b.tmrAcc := rfl
@[simp] theorem Chip.stage_queues (b : Chip) (rq : Requester) (off v : Nat) : (b.stage rq off v).queues = b.queues := rfl
@[simp] theorem Chip.stage_nextItem (b : Chip) (rq : Requester) (off v : Nat) : (b.stage rq off v).nextItem = b.nextItem := rfl
@[simp] theorem Chip.stage_eccFirst (b : Chip) (rq : Requester) (off v : Nat) : (b.stage rq off v).eccFirst = b.eccFirst := rfl
@[simp] theorem Chip.stage_tmg (b : Chip) (rq : Requester) (off v : Nat) : (b.stage rq off v).tmg = b.tmg := rfl
@[simp] theorem Chip.stage_adapt (b : Chip) (rq : Requester) (off v : Nat) : (b.stage rq off v).adapt = b.adapt := rfl
@[simp] theorem Chip.stage_rf (b : Chip) (rq : Requester) (off v : Nat) : (b.stage rq off v).rf = b.rf := rfl
@[simp] theorem Chip.stage_rx (b : Chip) (rq : Requester) (off v : Nat) : (b.stage rq off v).rx = b.rx := rfl
@[simp] theorem Chip.stage_tx (b : Chip) (rq : Requester) (off v : Nat) : (b.stage rq off v).tx = b.tx := rfl
@[simp] theorem Chip.stage_sch (b : Chip) (rq : Requester) (off v : Nat) : (b.stage rq off v).sch = b.sch := rfl
@[simp] theorem Chip.stage_mac (b : Chip) (rq : Requester) (off v : Nat) : (b.stage rq off v).mac = b.mac := rfl
@[simp] theorem Chip.stage_sec (b : Chip) (rq : Requester) (off v : Nat) : (b.stage rq off v).sec = b.sec := rfl
@[simp] theorem Chip.stage_key (b : Chip) (rq : Requester) (off v : Nat) : (b.stage rq off v).key = b.key := rfl
@[simp] theorem Chip.stage_fwd (b : Chip) (rq : Requester) (off v : Nat) : (b.stage rq off v).fwd = b.fwd := rfl
@[simp] theorem Chip.stage_svc (b : Chip) (rq : Requester) (off v : Nat) : (b.stage rq off v).svc = b.svc := rfl
@[simp] theorem Chip.stage_nv (b : Chip) (rq : Requester) (off v : Nat) : (b.stage rq off v).nv = b.nv := rfl
@[simp] theorem Chip.stage_boot (b : Chip) (rq : Requester) (off v : Nat) : (b.stage rq off v).boot = b.boot := rfl
@[simp] theorem Chip.stage_upd (b : Chip) (rq : Requester) (off v : Nat) : (b.stage rq off v).upd = b.upd := rfl
@[simp] theorem Chip.stage_pwr (b : Chip) (rq : Requester) (off v : Nat) : (b.stage rq off v).pwr = b.pwr := rfl
@[simp] theorem Chip.stage_hif (b : Chip) (rq : Requester) (off v : Nat) : (b.stage rq off v).hif = b.hif := rfl
@[simp] theorem Chip.stage_sea (b : Chip) (rq : Requester) (off v : Nat) : (b.stage rq off v).sea = b.sea := rfl
@[simp] theorem Chip.stage_owed (b : Chip) (rq : Requester) (off v : Nat) : (b.stage rq off v).owed = b.owed := rfl
@[simp] theorem Chip.stage_gap (b : Chip) (rq : Requester) (off v : Nat) : (b.stage rq off v).gap = b.gap := rfl
@[simp] theorem Chip.stage_freeCtr (b : Chip) (rq : Requester) (off v : Nat) : (b.stage rq off v).freeCtr = b.freeCtr := rfl
@[simp] theorem Chip.stage_out (b : Chip) (rq : Requester) (off v : Nat) : (b.stage rq off v).out = b.out := rfl

/-! ### Dropping staged words -/
@[simp] theorem Chip.unstage_regs (b : Chip) (rq : Requester) (offs : List Nat) : (b.unstage rq offs).regs = b.regs := rfl
@[simp] theorem Chip.unstage_bank (b : Chip) (rq : Requester) (offs : List Nat) : (b.unstage rq offs).bank = b.bank := rfl
@[simp] theorem Chip.unstage_latch (b : Chip) (rq : Requester) (offs : List Nat) : (b.unstage rq offs).latch = b.latch := rfl
@[simp] theorem Chip.unstage_cmdIrq (b : Chip) (rq : Requester) (offs : List Nat) : (b.unstage rq offs).cmdIrq = b.cmdIrq := rfl
@[simp] theorem Chip.unstage_acc (b : Chip) (rq : Requester) (offs : List Nat) : (b.unstage rq offs).acc = b.acc := rfl
@[simp] theorem Chip.unstage_overrides (b : Chip) (rq : Requester) (offs : List Nat) : (b.unstage rq offs).overrides = b.overrides := rfl
@[simp] theorem Chip.unstage_pat (b : Chip) (rq : Requester) (offs : List Nat) : (b.unstage rq offs).pat = b.pat := rfl
@[simp] theorem Chip.unstage_ntc (b : Chip) (rq : Requester) (offs : List Nat) : (b.unstage rq offs).ntc = b.ntc := rfl
@[simp] theorem Chip.unstage_clk (b : Chip) (rq : Requester) (offs : List Nat) : (b.unstage rq offs).clk = b.clk := rfl
@[simp] theorem Chip.unstage_tim (b : Chip) (rq : Requester) (offs : List Nat) : (b.unstage rq offs).tim = b.tim := rfl
@[simp] theorem Chip.unstage_cap (b : Chip) (rq : Requester) (offs : List Nat) : (b.unstage rq offs).cap = b.cap := rfl
@[simp] theorem Chip.unstage_rawCap (b : Chip) (rq : Requester) (offs : List Nat) : (b.unstage rq offs).rawCap = b.rawCap := rfl
@[simp] theorem Chip.unstage_rawMem (b : Chip) (rq : Requester) (offs : List Nat) : (b.unstage rq offs).rawMem = b.rawMem := rfl
@[simp] theorem Chip.unstage_tmrAcc (b : Chip) (rq : Requester) (offs : List Nat) : (b.unstage rq offs).tmrAcc = b.tmrAcc := rfl
@[simp] theorem Chip.unstage_queues (b : Chip) (rq : Requester) (offs : List Nat) : (b.unstage rq offs).queues = b.queues := rfl
@[simp] theorem Chip.unstage_nextItem (b : Chip) (rq : Requester) (offs : List Nat) : (b.unstage rq offs).nextItem = b.nextItem := rfl
@[simp] theorem Chip.unstage_eccFirst (b : Chip) (rq : Requester) (offs : List Nat) : (b.unstage rq offs).eccFirst = b.eccFirst := rfl
@[simp] theorem Chip.unstage_tmg (b : Chip) (rq : Requester) (offs : List Nat) : (b.unstage rq offs).tmg = b.tmg := rfl
@[simp] theorem Chip.unstage_adapt (b : Chip) (rq : Requester) (offs : List Nat) : (b.unstage rq offs).adapt = b.adapt := rfl
@[simp] theorem Chip.unstage_rf (b : Chip) (rq : Requester) (offs : List Nat) : (b.unstage rq offs).rf = b.rf := rfl
@[simp] theorem Chip.unstage_rx (b : Chip) (rq : Requester) (offs : List Nat) : (b.unstage rq offs).rx = b.rx := rfl
@[simp] theorem Chip.unstage_tx (b : Chip) (rq : Requester) (offs : List Nat) : (b.unstage rq offs).tx = b.tx := rfl
@[simp] theorem Chip.unstage_sch (b : Chip) (rq : Requester) (offs : List Nat) : (b.unstage rq offs).sch = b.sch := rfl
@[simp] theorem Chip.unstage_mac (b : Chip) (rq : Requester) (offs : List Nat) : (b.unstage rq offs).mac = b.mac := rfl
@[simp] theorem Chip.unstage_sec (b : Chip) (rq : Requester) (offs : List Nat) : (b.unstage rq offs).sec = b.sec := rfl
@[simp] theorem Chip.unstage_key (b : Chip) (rq : Requester) (offs : List Nat) : (b.unstage rq offs).key = b.key := rfl
@[simp] theorem Chip.unstage_fwd (b : Chip) (rq : Requester) (offs : List Nat) : (b.unstage rq offs).fwd = b.fwd := rfl
@[simp] theorem Chip.unstage_svc (b : Chip) (rq : Requester) (offs : List Nat) : (b.unstage rq offs).svc = b.svc := rfl
@[simp] theorem Chip.unstage_nv (b : Chip) (rq : Requester) (offs : List Nat) : (b.unstage rq offs).nv = b.nv := rfl
@[simp] theorem Chip.unstage_boot (b : Chip) (rq : Requester) (offs : List Nat) : (b.unstage rq offs).boot = b.boot := rfl
@[simp] theorem Chip.unstage_upd (b : Chip) (rq : Requester) (offs : List Nat) : (b.unstage rq offs).upd = b.upd := rfl
@[simp] theorem Chip.unstage_pwr (b : Chip) (rq : Requester) (offs : List Nat) : (b.unstage rq offs).pwr = b.pwr := rfl
@[simp] theorem Chip.unstage_hif (b : Chip) (rq : Requester) (offs : List Nat) : (b.unstage rq offs).hif = b.hif := rfl
@[simp] theorem Chip.unstage_sea (b : Chip) (rq : Requester) (offs : List Nat) : (b.unstage rq offs).sea = b.sea := rfl
@[simp] theorem Chip.unstage_owed (b : Chip) (rq : Requester) (offs : List Nat) : (b.unstage rq offs).owed = b.owed := rfl
@[simp] theorem Chip.unstage_gap (b : Chip) (rq : Requester) (offs : List Nat) : (b.unstage rq offs).gap = b.gap := rfl
@[simp] theorem Chip.unstage_freeCtr (b : Chip) (rq : Requester) (offs : List Nat) : (b.unstage rq offs).freeCtr = b.freeCtr := rfl
@[simp] theorem Chip.unstage_out (b : Chip) (rq : Requester) (offs : List Nat) : (b.unstage rq offs).out = b.out := rfl

/-! ### Writing RESULT words -/
/-- Writing the results changes the register store alone. -/
theorem Chip.putResults_only (b : Chip) (base i : Nat) (l : List Nat) :
    b.putResults base i l = { b with regs := (b.putResults base i l).regs } := by
  fun_induction Chip.putResults b base i l <;> grind [Chip.w]
@[simp] theorem Chip.putResults_bank (b : Chip) (base i : Nat) (l : List Nat) : (b.putResults base i l).bank = b.bank := by rw [Chip.putResults_only]
@[simp] theorem Chip.putResults_latch (b : Chip) (base i : Nat) (l : List Nat) : (b.putResults base i l).latch = b.latch := by rw [Chip.putResults_only]
@[simp] theorem Chip.putResults_staged (b : Chip) (base i : Nat) (l : List Nat) : (b.putResults base i l).staged = b.staged := by rw [Chip.putResults_only]
@[simp] theorem Chip.putResults_cmdIrq (b : Chip) (base i : Nat) (l : List Nat) : (b.putResults base i l).cmdIrq = b.cmdIrq := by rw [Chip.putResults_only]
@[simp] theorem Chip.putResults_acc (b : Chip) (base i : Nat) (l : List Nat) : (b.putResults base i l).acc = b.acc := by rw [Chip.putResults_only]
@[simp] theorem Chip.putResults_overrides (b : Chip) (base i : Nat) (l : List Nat) : (b.putResults base i l).overrides = b.overrides := by rw [Chip.putResults_only]
@[simp] theorem Chip.putResults_pat (b : Chip) (base i : Nat) (l : List Nat) : (b.putResults base i l).pat = b.pat := by rw [Chip.putResults_only]
@[simp] theorem Chip.putResults_ntc (b : Chip) (base i : Nat) (l : List Nat) : (b.putResults base i l).ntc = b.ntc := by rw [Chip.putResults_only]
@[simp] theorem Chip.putResults_clk (b : Chip) (base i : Nat) (l : List Nat) : (b.putResults base i l).clk = b.clk := by rw [Chip.putResults_only]
@[simp] theorem Chip.putResults_tim (b : Chip) (base i : Nat) (l : List Nat) : (b.putResults base i l).tim = b.tim := by rw [Chip.putResults_only]
@[simp] theorem Chip.putResults_cap (b : Chip) (base i : Nat) (l : List Nat) : (b.putResults base i l).cap = b.cap := by rw [Chip.putResults_only]
@[simp] theorem Chip.putResults_rawCap (b : Chip) (base i : Nat) (l : List Nat) : (b.putResults base i l).rawCap = b.rawCap := by rw [Chip.putResults_only]
@[simp] theorem Chip.putResults_rawMem (b : Chip) (base i : Nat) (l : List Nat) : (b.putResults base i l).rawMem = b.rawMem := by rw [Chip.putResults_only]
@[simp] theorem Chip.putResults_tmrAcc (b : Chip) (base i : Nat) (l : List Nat) : (b.putResults base i l).tmrAcc = b.tmrAcc := by rw [Chip.putResults_only]
@[simp] theorem Chip.putResults_queues (b : Chip) (base i : Nat) (l : List Nat) : (b.putResults base i l).queues = b.queues := by rw [Chip.putResults_only]
@[simp] theorem Chip.putResults_nextItem (b : Chip) (base i : Nat) (l : List Nat) : (b.putResults base i l).nextItem = b.nextItem := by rw [Chip.putResults_only]
@[simp] theorem Chip.putResults_eccFirst (b : Chip) (base i : Nat) (l : List Nat) : (b.putResults base i l).eccFirst = b.eccFirst := by rw [Chip.putResults_only]
@[simp] theorem Chip.putResults_tmg (b : Chip) (base i : Nat) (l : List Nat) : (b.putResults base i l).tmg = b.tmg := by rw [Chip.putResults_only]
@[simp] theorem Chip.putResults_adapt (b : Chip) (base i : Nat) (l : List Nat) : (b.putResults base i l).adapt = b.adapt := by rw [Chip.putResults_only]
@[simp] theorem Chip.putResults_rf (b : Chip) (base i : Nat) (l : List Nat) : (b.putResults base i l).rf = b.rf := by rw [Chip.putResults_only]
@[simp] theorem Chip.putResults_rx (b : Chip) (base i : Nat) (l : List Nat) : (b.putResults base i l).rx = b.rx := by rw [Chip.putResults_only]
@[simp] theorem Chip.putResults_tx (b : Chip) (base i : Nat) (l : List Nat) : (b.putResults base i l).tx = b.tx := by rw [Chip.putResults_only]
@[simp] theorem Chip.putResults_sch (b : Chip) (base i : Nat) (l : List Nat) : (b.putResults base i l).sch = b.sch := by rw [Chip.putResults_only]
@[simp] theorem Chip.putResults_mac (b : Chip) (base i : Nat) (l : List Nat) : (b.putResults base i l).mac = b.mac := by rw [Chip.putResults_only]
@[simp] theorem Chip.putResults_sec (b : Chip) (base i : Nat) (l : List Nat) : (b.putResults base i l).sec = b.sec := by rw [Chip.putResults_only]
@[simp] theorem Chip.putResults_key (b : Chip) (base i : Nat) (l : List Nat) : (b.putResults base i l).key = b.key := by rw [Chip.putResults_only]
@[simp] theorem Chip.putResults_fwd (b : Chip) (base i : Nat) (l : List Nat) : (b.putResults base i l).fwd = b.fwd := by rw [Chip.putResults_only]
@[simp] theorem Chip.putResults_svc (b : Chip) (base i : Nat) (l : List Nat) : (b.putResults base i l).svc = b.svc := by rw [Chip.putResults_only]
@[simp] theorem Chip.putResults_nv (b : Chip) (base i : Nat) (l : List Nat) : (b.putResults base i l).nv = b.nv := by rw [Chip.putResults_only]
@[simp] theorem Chip.putResults_boot (b : Chip) (base i : Nat) (l : List Nat) : (b.putResults base i l).boot = b.boot := by rw [Chip.putResults_only]
@[simp] theorem Chip.putResults_upd (b : Chip) (base i : Nat) (l : List Nat) : (b.putResults base i l).upd = b.upd := by rw [Chip.putResults_only]
@[simp] theorem Chip.putResults_pwr (b : Chip) (base i : Nat) (l : List Nat) : (b.putResults base i l).pwr = b.pwr := by rw [Chip.putResults_only]
@[simp] theorem Chip.putResults_hif (b : Chip) (base i : Nat) (l : List Nat) : (b.putResults base i l).hif = b.hif := by rw [Chip.putResults_only]
@[simp] theorem Chip.putResults_sea (b : Chip) (base i : Nat) (l : List Nat) : (b.putResults base i l).sea = b.sea := by rw [Chip.putResults_only]
@[simp] theorem Chip.putResults_owed (b : Chip) (base i : Nat) (l : List Nat) : (b.putResults base i l).owed = b.owed := by rw [Chip.putResults_only]
@[simp] theorem Chip.putResults_gap (b : Chip) (base i : Nat) (l : List Nat) : (b.putResults base i l).gap = b.gap := by rw [Chip.putResults_only]
@[simp] theorem Chip.putResults_freeCtr (b : Chip) (base i : Nat) (l : List Nat) : (b.putResults base i l).freeCtr = b.freeCtr := by rw [Chip.putResults_only]
@[simp] theorem Chip.putResults_out (b : Chip) (base i : Nat) (l : List Nat) : (b.putResults base i l).out = b.out := by rw [Chip.putResults_only]

/-! ### Firing an interrupt source -/
@[simp] theorem Chip.fire_bank (b : Chip) (v : Nat) : (b.fire v).bank = b.bank := by
  unfold Chip.fire; (repeat' split) <;> rfl
@[simp] theorem Chip.fire_latch (b : Chip) (v : Nat) : (b.fire v).latch = b.latch := by
  unfold Chip.fire; (repeat' split) <;> rfl
@[simp] theorem Chip.fire_staged (b : Chip) (v : Nat) : (b.fire v).staged = b.staged := by
  unfold Chip.fire; (repeat' split) <;> rfl
@[simp] theorem Chip.fire_cmdIrq (b : Chip) (v : Nat) : (b.fire v).cmdIrq = b.cmdIrq := by
  unfold Chip.fire; (repeat' split) <;> rfl
@[simp] theorem Chip.fire_acc (b : Chip) (v : Nat) : (b.fire v).acc = b.acc := by
  unfold Chip.fire; (repeat' split) <;> rfl
@[simp] theorem Chip.fire_overrides (b : Chip) (v : Nat) : (b.fire v).overrides = b.overrides := by
  unfold Chip.fire; (repeat' split) <;> rfl
@[simp] theorem Chip.fire_pat (b : Chip) (v : Nat) : (b.fire v).pat = b.pat := by
  unfold Chip.fire; (repeat' split) <;> rfl
@[simp] theorem Chip.fire_clk (b : Chip) (v : Nat) : (b.fire v).clk = b.clk := by
  unfold Chip.fire; (repeat' split) <;> rfl
@[simp] theorem Chip.fire_tim (b : Chip) (v : Nat) : (b.fire v).tim = b.tim := by
  unfold Chip.fire; (repeat' split) <;> rfl
@[simp] theorem Chip.fire_cap (b : Chip) (v : Nat) : (b.fire v).cap = b.cap := by
  unfold Chip.fire; (repeat' split) <;> rfl
@[simp] theorem Chip.fire_rawCap (b : Chip) (v : Nat) : (b.fire v).rawCap = b.rawCap := by
  unfold Chip.fire; (repeat' split) <;> rfl
@[simp] theorem Chip.fire_rawMem (b : Chip) (v : Nat) : (b.fire v).rawMem = b.rawMem := by
  unfold Chip.fire; (repeat' split) <;> rfl
@[simp] theorem Chip.fire_tmrAcc (b : Chip) (v : Nat) : (b.fire v).tmrAcc = b.tmrAcc := by
  unfold Chip.fire; (repeat' split) <;> rfl
@[simp] theorem Chip.fire_queues (b : Chip) (v : Nat) : (b.fire v).queues = b.queues := by
  unfold Chip.fire; (repeat' split) <;> rfl
@[simp] theorem Chip.fire_nextItem (b : Chip) (v : Nat) : (b.fire v).nextItem = b.nextItem := by
  unfold Chip.fire; (repeat' split) <;> rfl
@[simp] theorem Chip.fire_eccFirst (b : Chip) (v : Nat) : (b.fire v).eccFirst = b.eccFirst := by
  unfold Chip.fire; (repeat' split) <;> rfl
@[simp] theorem Chip.fire_tmg (b : Chip) (v : Nat) : (b.fire v).tmg = b.tmg := by
  unfold Chip.fire; (repeat' split) <;> rfl
@[simp] theorem Chip.fire_adapt (b : Chip) (v : Nat) : (b.fire v).adapt = b.adapt := by
  unfold Chip.fire; (repeat' split) <;> rfl
@[simp] theorem Chip.fire_rf (b : Chip) (v : Nat) : (b.fire v).rf = b.rf := by
  unfold Chip.fire; (repeat' split) <;> rfl
@[simp] theorem Chip.fire_rx (b : Chip) (v : Nat) : (b.fire v).rx = b.rx := by
  unfold Chip.fire; (repeat' split) <;> rfl
@[simp] theorem Chip.fire_tx (b : Chip) (v : Nat) : (b.fire v).tx = b.tx := by
  unfold Chip.fire; (repeat' split) <;> rfl
@[simp] theorem Chip.fire_sch (b : Chip) (v : Nat) : (b.fire v).sch = b.sch := by
  unfold Chip.fire; (repeat' split) <;> rfl
@[simp] theorem Chip.fire_mac (b : Chip) (v : Nat) : (b.fire v).mac = b.mac := by
  unfold Chip.fire; (repeat' split) <;> rfl
@[simp] theorem Chip.fire_sec (b : Chip) (v : Nat) : (b.fire v).sec = b.sec := by
  unfold Chip.fire; (repeat' split) <;> rfl
@[simp] theorem Chip.fire_key (b : Chip) (v : Nat) : (b.fire v).key = b.key := by
  unfold Chip.fire; (repeat' split) <;> rfl
@[simp] theorem Chip.fire_fwd (b : Chip) (v : Nat) : (b.fire v).fwd = b.fwd := by
  unfold Chip.fire; (repeat' split) <;> rfl
@[simp] theorem Chip.fire_svc (b : Chip) (v : Nat) : (b.fire v).svc = b.svc := by
  unfold Chip.fire; (repeat' split) <;> rfl
@[simp] theorem Chip.fire_nv (b : Chip) (v : Nat) : (b.fire v).nv = b.nv := by
  unfold Chip.fire; (repeat' split) <;> rfl
@[simp] theorem Chip.fire_boot (b : Chip) (v : Nat) : (b.fire v).boot = b.boot := by
  unfold Chip.fire; (repeat' split) <;> rfl
@[simp] theorem Chip.fire_upd (b : Chip) (v : Nat) : (b.fire v).upd = b.upd := by
  unfold Chip.fire; (repeat' split) <;> rfl
@[simp] theorem Chip.fire_pwr (b : Chip) (v : Nat) : (b.fire v).pwr = b.pwr := by
  unfold Chip.fire; (repeat' split) <;> rfl
@[simp] theorem Chip.fire_hif (b : Chip) (v : Nat) : (b.fire v).hif = b.hif := by
  unfold Chip.fire; (repeat' split) <;> rfl
@[simp] theorem Chip.fire_sea (b : Chip) (v : Nat) : (b.fire v).sea = b.sea := by
  unfold Chip.fire; (repeat' split) <;> rfl
@[simp] theorem Chip.fire_owed (b : Chip) (v : Nat) : (b.fire v).owed = b.owed := by
  unfold Chip.fire; (repeat' split) <;> rfl
@[simp] theorem Chip.fire_gap (b : Chip) (v : Nat) : (b.fire v).gap = b.gap := by
  unfold Chip.fire; (repeat' split) <;> rfl
@[simp] theorem Chip.fire_freeCtr (b : Chip) (v : Nat) : (b.fire v).freeCtr = b.freeCtr := by
  unfold Chip.fire; (repeat' split) <;> rfl

/-! ### Completing a command -/
@[simp] theorem Chip.cmdFinish_bank (b : Chip) (base code : Nat) (l : List Nat) : (b.cmdFinish base code l).bank = b.bank := by
  unfold Chip.cmdFinish; (repeat' split) <;> simp
@[simp] theorem Chip.cmdFinish_latch (b : Chip) (base code : Nat) (l : List Nat) : (b.cmdFinish base code l).latch = b.latch := by
  unfold Chip.cmdFinish; (repeat' split) <;> simp
@[simp] theorem Chip.cmdFinish_staged (b : Chip) (base code : Nat) (l : List Nat) : (b.cmdFinish base code l).staged = b.staged := by
  unfold Chip.cmdFinish; (repeat' split) <;> simp
@[simp] theorem Chip.cmdFinish_acc (b : Chip) (base code : Nat) (l : List Nat) : (b.cmdFinish base code l).acc = b.acc := by
  unfold Chip.cmdFinish; (repeat' split) <;> simp
@[simp] theorem Chip.cmdFinish_overrides (b : Chip) (base code : Nat) (l : List Nat) : (b.cmdFinish base code l).overrides = b.overrides := by
  unfold Chip.cmdFinish; (repeat' split) <;> simp
@[simp] theorem Chip.cmdFinish_pat (b : Chip) (base code : Nat) (l : List Nat) : (b.cmdFinish base code l).pat = b.pat := by
  unfold Chip.cmdFinish; (repeat' split) <;> simp
@[simp] theorem Chip.cmdFinish_clk (b : Chip) (base code : Nat) (l : List Nat) : (b.cmdFinish base code l).clk = b.clk := by
  unfold Chip.cmdFinish; (repeat' split) <;> simp
@[simp] theorem Chip.cmdFinish_tim (b : Chip) (base code : Nat) (l : List Nat) : (b.cmdFinish base code l).tim = b.tim := by
  unfold Chip.cmdFinish; (repeat' split) <;> simp
@[simp] theorem Chip.cmdFinish_cap (b : Chip) (base code : Nat) (l : List Nat) : (b.cmdFinish base code l).cap = b.cap := by
  unfold Chip.cmdFinish; (repeat' split) <;> simp
@[simp] theorem Chip.cmdFinish_rawCap (b : Chip) (base code : Nat) (l : List Nat) : (b.cmdFinish base code l).rawCap = b.rawCap := by
  unfold Chip.cmdFinish; (repeat' split) <;> simp
@[simp] theorem Chip.cmdFinish_rawMem (b : Chip) (base code : Nat) (l : List Nat) : (b.cmdFinish base code l).rawMem = b.rawMem := by
  unfold Chip.cmdFinish; (repeat' split) <;> simp
@[simp] theorem Chip.cmdFinish_tmrAcc (b : Chip) (base code : Nat) (l : List Nat) : (b.cmdFinish base code l).tmrAcc = b.tmrAcc := by
  unfold Chip.cmdFinish; (repeat' split) <;> simp
@[simp] theorem Chip.cmdFinish_queues (b : Chip) (base code : Nat) (l : List Nat) : (b.cmdFinish base code l).queues = b.queues := by
  unfold Chip.cmdFinish; (repeat' split) <;> simp
@[simp] theorem Chip.cmdFinish_nextItem (b : Chip) (base code : Nat) (l : List Nat) : (b.cmdFinish base code l).nextItem = b.nextItem := by
  unfold Chip.cmdFinish; (repeat' split) <;> simp
@[simp] theorem Chip.cmdFinish_eccFirst (b : Chip) (base code : Nat) (l : List Nat) : (b.cmdFinish base code l).eccFirst = b.eccFirst := by
  unfold Chip.cmdFinish; (repeat' split) <;> simp
@[simp] theorem Chip.cmdFinish_tmg (b : Chip) (base code : Nat) (l : List Nat) : (b.cmdFinish base code l).tmg = b.tmg := by
  unfold Chip.cmdFinish; (repeat' split) <;> simp
@[simp] theorem Chip.cmdFinish_adapt (b : Chip) (base code : Nat) (l : List Nat) : (b.cmdFinish base code l).adapt = b.adapt := by
  unfold Chip.cmdFinish; (repeat' split) <;> simp
@[simp] theorem Chip.cmdFinish_rf (b : Chip) (base code : Nat) (l : List Nat) : (b.cmdFinish base code l).rf = b.rf := by
  unfold Chip.cmdFinish; (repeat' split) <;> simp
@[simp] theorem Chip.cmdFinish_rx (b : Chip) (base code : Nat) (l : List Nat) : (b.cmdFinish base code l).rx = b.rx := by
  unfold Chip.cmdFinish; (repeat' split) <;> simp
@[simp] theorem Chip.cmdFinish_tx (b : Chip) (base code : Nat) (l : List Nat) : (b.cmdFinish base code l).tx = b.tx := by
  unfold Chip.cmdFinish; (repeat' split) <;> simp
@[simp] theorem Chip.cmdFinish_sch (b : Chip) (base code : Nat) (l : List Nat) : (b.cmdFinish base code l).sch = b.sch := by
  unfold Chip.cmdFinish; (repeat' split) <;> simp
@[simp] theorem Chip.cmdFinish_mac (b : Chip) (base code : Nat) (l : List Nat) : (b.cmdFinish base code l).mac = b.mac := by
  unfold Chip.cmdFinish; (repeat' split) <;> simp
@[simp] theorem Chip.cmdFinish_sec (b : Chip) (base code : Nat) (l : List Nat) : (b.cmdFinish base code l).sec = b.sec := by
  unfold Chip.cmdFinish; (repeat' split) <;> simp
@[simp] theorem Chip.cmdFinish_key (b : Chip) (base code : Nat) (l : List Nat) : (b.cmdFinish base code l).key = b.key := by
  unfold Chip.cmdFinish; (repeat' split) <;> simp
@[simp] theorem Chip.cmdFinish_fwd (b : Chip) (base code : Nat) (l : List Nat) : (b.cmdFinish base code l).fwd = b.fwd := by
  unfold Chip.cmdFinish; (repeat' split) <;> simp
@[simp] theorem Chip.cmdFinish_svc (b : Chip) (base code : Nat) (l : List Nat) : (b.cmdFinish base code l).svc = b.svc := by
  unfold Chip.cmdFinish; (repeat' split) <;> simp
@[simp] theorem Chip.cmdFinish_nv (b : Chip) (base code : Nat) (l : List Nat) : (b.cmdFinish base code l).nv = b.nv := by
  unfold Chip.cmdFinish; (repeat' split) <;> simp
@[simp] theorem Chip.cmdFinish_boot (b : Chip) (base code : Nat) (l : List Nat) : (b.cmdFinish base code l).boot = b.boot := by
  unfold Chip.cmdFinish; (repeat' split) <;> simp
@[simp] theorem Chip.cmdFinish_upd (b : Chip) (base code : Nat) (l : List Nat) : (b.cmdFinish base code l).upd = b.upd := by
  unfold Chip.cmdFinish; (repeat' split) <;> simp
@[simp] theorem Chip.cmdFinish_pwr (b : Chip) (base code : Nat) (l : List Nat) : (b.cmdFinish base code l).pwr = b.pwr := by
  unfold Chip.cmdFinish; (repeat' split) <;> simp
@[simp] theorem Chip.cmdFinish_hif (b : Chip) (base code : Nat) (l : List Nat) : (b.cmdFinish base code l).hif = b.hif := by
  unfold Chip.cmdFinish; (repeat' split) <;> simp
@[simp] theorem Chip.cmdFinish_sea (b : Chip) (base code : Nat) (l : List Nat) : (b.cmdFinish base code l).sea = b.sea := by
  unfold Chip.cmdFinish; (repeat' split) <;> simp
@[simp] theorem Chip.cmdFinish_owed (b : Chip) (base code : Nat) (l : List Nat) : (b.cmdFinish base code l).owed = b.owed := by
  unfold Chip.cmdFinish; (repeat' split) <;> simp
@[simp] theorem Chip.cmdFinish_gap (b : Chip) (base code : Nat) (l : List Nat) : (b.cmdFinish base code l).gap = b.gap := by
  unfold Chip.cmdFinish; (repeat' split) <;> simp
@[simp] theorem Chip.cmdFinish_freeCtr (b : Chip) (base code : Nat) (l : List Nat) : (b.cmdFinish base code l).freeCtr = b.freeCtr := by
  unfold Chip.cmdFinish; (repeat' split) <;> simp

end Sys2Proof.Machine
end

