-- ==== Sys2Proof/Laws/Regs.lean ====
section
/-!
SUPPORT. The laws of the registers: what a register holds after a write, after a command has been accepted and after one has completed.
-/
namespace Sys2Proof.Machine

/-- A register just written holds the value cut to its width. -/
@[simp] theorem Chip.r_w_same (b : Chip) (f : Fld) (v : Nat) : (b.w f v).r f = v % 2 ^ f.w := kgetD_kset_same _ _ _ _

/-- Writing one register leaves every other. -/
theorem Chip.r_w_ne (b : Chip) (f g : Fld) (v : Nat) (h : f.key ≠ g.key) : (b.w f v).r g = b.r g := kgetD_kset_ne _ _ _ _ h

/-- Reading any register of the same reset value after a write. -/
theorem Chip.r_w (b : Chip) (f : Fld) (v : Nat) (g : Fld) :
    (b.w f v).r g = if f = g then v % 2 ^ f.w else if f.key = g.key then (b.w f v).r g else b.r g := by
  split
  · subst_vars; simp
  · split
    · rfl
    · exact Chip.r_w_ne _ _ _ _ ‹_›

/-- Registers depend on the register store alone. -/
theorem Chip.r_congr {b c : Chip} (h : b.regs = c.regs) (f : Fld) : b.r f = c.r f := by unfold Chip.r; rw [h]

@[simp] theorem Chip.r_emit (b : Chip) (o : Out) (f : Fld) : (b.emit o).r f = b.r f := rfl
@[simp] theorem Chip.r_note (b : Chip) (k n : Nat) (f : Fld) : (b.note k n).r f = b.r f := rfl
@[simp] theorem Chip.r_latchPut (b : Chip) (rq : Requester) (off v : Nat) (f : Fld) : (b.latchPut rq off v).r f = b.r f := rfl
@[simp] theorem Chip.r_stage (b : Chip) (rq : Requester) (off v : Nat) (f : Fld) : (b.stage rq off v).r f = b.r f := rfl
@[simp] theorem Chip.r_unstage (b : Chip) (rq : Requester) (l : List Nat) (f : Fld) : (b.unstage rq l).r f = b.r f := rfl

/-! ### The command block -/

/-- Accepting a command writes four registers. -/
theorem Chip.cmdAccept_stat (b : Chip) (base : Nat) (irq : Bool) (f : Fld) :
    (b.cmdAccept base irq).r f =
      ((((b.w (cbSEQ base) (b.r (cbSEQ base) + 1)).w (cbBUSY base) 1).w (cbDONE base) 0).w (cbCODE base) BUSY).r f := rfl

/-- The registers that accepting a command writes. -/
theorem Chip.cmdAccept_seq (b : Chip) (base : Nat) (irq : Bool) :
    (b.cmdAccept base irq).r (cbSEQ base) = (b.r (cbSEQ base) + 1) % 256 := by
  rw [Chip.cmdAccept_stat]
  rw [Chip.r_w_ne _ _ _ _ (by simp [Fld.key, cbCODE, cbSEQ]), Chip.r_w_ne _ _ _ _ (by simp [Fld.key, cbDONE, cbSEQ]),
    Chip.r_w_ne _ _ _ _ (by simp [Fld.key, cbBUSY, cbSEQ]), Chip.r_w_same]
  rfl

theorem Chip.cmdAccept_busy (b : Chip) (base : Nat) (irq : Bool) : (b.cmdAccept base irq).r (cbBUSY base) = 1 := by
  rw [Chip.cmdAccept_stat]
  rw [Chip.r_w_ne _ _ _ _ (by simp [Fld.key, cbCODE, cbBUSY]), Chip.r_w_ne _ _ _ _ (by simp [Fld.key, cbDONE, cbBUSY]), Chip.r_w_same]
  rfl

theorem Chip.cmdAccept_done (b : Chip) (base : Nat) (irq : Bool) : (b.cmdAccept base irq).r (cbDONE base) = 0 := by
  rw [Chip.cmdAccept_stat]
  rw [Chip.r_w_ne _ _ _ _ (by simp [Fld.key, cbCODE, cbDONE]), Chip.r_w_same]
  rfl

theorem Chip.cmdAccept_code (b : Chip) (base : Nat) (irq : Bool) : (b.cmdAccept base irq).r (cbCODE base) = BUSY := by
  rw [Chip.cmdAccept_stat, Chip.r_w_same]
  rfl

/-- Accepting a command leaves every register outside its STATUS word. -/
theorem Chip.cmdAccept_r (b : Chip) (base : Nat) (irq : Bool) (f : Fld) (h : f.key < (base + 4) * 32 ∨ (base + 4) * 32 + 32 ≤ f.key) :
    (b.cmdAccept base irq).r f = b.r f := by
  rw [Chip.cmdAccept_stat]
  rw [Chip.r_w_ne, Chip.r_w_ne, Chip.r_w_ne, Chip.r_w_ne] <;> intro e <;> simp only [Fld.key, cbSEQ, cbBUSY, cbDONE, cbCODE] at h e <;> omega

/-- Accepting a command leaves its arguments. -/
@[simp] theorem Chip.cmdAccept_arg (b : Chip) (base i : Nat) (irq : Bool) : (b.cmdAccept base irq).arg base i = b.arg base i :=
  Chip.cmdAccept_r _ _ _ _ (by simp only [Fld.key, cbARG]; omega)

@[simp] theorem Chip.cmdAccept_args (b : Chip) (base : Nat) (irq : Bool) : (b.cmdAccept base irq).args base = b.args base := by
  unfold Chip.args
  exact List.map_congr_left (fun i _ => Chip.cmdAccept_arg b base i irq)

theorem Chip.putResults_r (b : Chip) (base i : Nat) (l : List Nat) (f : Fld)
    (h : ∀ j, i ≤ j → j < i + l.length → f.key ≠ (cbRESULT base j).key) : (b.putResults base i l).r f = b.r f := by
  fun_induction Chip.putResults b base i l <;> grind [Chip.r_w_ne]

theorem Chip.putResults_result (b : Chip) (base i : Nat) (l : List Nat) (j : Nat) (hi : i ≤ j) (h : j < i + l.length) :
    (b.putResults base i l).r (cbRESULT base j) = l.getD (j - i) 0 % 2 ^ 32 := by
  fun_induction Chip.putResults b base i l with
  | case1 => grind
  | case2 b i v t ih =>
    rcases Nat.eq_or_lt_of_le hi with rfl | hlt
    · rw [Chip.putResults_r _ _ _ _ _ (by grind [Fld.key, cbRESULT]), Chip.r_w_same]
      simp [cbRESULT]
    · grind

/-- Firing a source writes INT_PEND and no other register. -/
theorem Chip.fire_r (b : Chip) (v : Nat) (f : Fld) (h : f.key ≠ Reg.NTC_INT_PEND.key) : (b.fire v).r f = b.r f := by
  unfold Chip.fire
  (repeat' split) <;> first
    | rfl
    | exact Chip.r_w_ne _ _ _ _ (Ne.symm h)
theorem Chip.fire_regs_congr {b c : Chip} (h : b.regs = c.regs) (v : Nat) (f : Fld) (hf : f.key ≠ Reg.NTC_INT_PEND.key) :
    (b.fire v).r f = c.r f := by rw [Chip.fire_r _ _ _ hf, Chip.r_congr h]

/-- The registers before the interrupt of a completion. -/
def Chip.finished (b : Chip) (base code : Nat) (l : List Nat) : Chip :=
  let b2 := (((b.putResults base 0 ((l ++ List.replicate 16 0).take 16)).w (cbCODE base) code).w (cbDONE base) 1).w (cbBUSY base) 0
  if code = WRONG_STATE ∨ code = DENIED then b2.inc (cbREJECT base) else b2

/-- Completion writes the block's registers, and besides them INT_PEND alone. -/
theorem Chip.cmdFinish_stat (b : Chip) (base code : Nat) (l : List Nat) (f : Fld) (hf : f.key ≠ Reg.NTC_INT_PEND.key) :
    (b.cmdFinish base code l).r f = (b.finished base code l).r f := by
  unfold Chip.cmdFinish
  simp only []
  split
  · exact Chip.fire_regs_congr rfl 2 f hf
  · rfl

/-- Completion leaves every register outside the block's STATUS, RESULT and REJECT words but INT_PEND. -/
theorem Chip.cmdFinish_r (b : Chip) (base code : Nat) (l : List Nat) (f : Fld) (hf : f.key ≠ Reg.NTC_INT_PEND.key)
    (h : f.key < (base + 4) * 32 ∨ (base + 0x94) * 32 ≤ f.key ∨ ((base + 8) * 32 ≤ f.key ∧ f.key < (base + 0x50) * 32)) :
    (b.cmdFinish base code l).r f = b.r f := by
  rw [Chip.cmdFinish_stat _ _ _ _ _ hf]
  have hp : (b.putResults base 0 ((l ++ List.replicate 16 0).take 16)).r f = b.r f := by
    refine Chip.putResults_r _ _ _ _ _ (fun j _ hj => ?_)
    have : j < 16 := by simp at hj; omega
    intro e
    simp only [Fld.key, cbRESULT] at e
    unfold Fld.key at h
    omega
  unfold Chip.finished
  simp only []
  have hk : f.key = f.off * 32 + f.lo := rfl
  split <;> (try simp only [Chip.inc_eq]) <;> (repeat rw [Chip.r_w_ne]) <;> first
    | exact hp
    | (intro e; simp only [Fld.key, cbREJECT, cbBUSY, cbDONE, cbCODE] at e; omega)

/-- Of those registers, all but the reject counter are written the same way whatever the code. -/
theorem Chip.finished_r (b : Chip) (base code : Nat) (l : List Nat) (f : Fld) (h : (cbREJECT base).key ≠ f.key) :
    (b.finished base code l).r f =
      ((((b.putResults base 0 ((l ++ List.replicate 16 0).take 16)).w (cbCODE base) code).w (cbDONE base) 1).w (cbBUSY base) 0).r f := by
  unfold Chip.finished
  simp only []
  split
  · exact Chip.r_w_ne _ _ _ _ h
  · rfl

/-- After a completion the block is not BUSY, DONE is set, CODE holds the code and the RESULT words the results (R532). -/
theorem Chip.cmdFinish_busy (b : Chip) (base code : Nat) (l : List Nat) (h : (cbBUSY base).key ≠ Reg.NTC_INT_PEND.key) :
    (b.cmdFinish base code l).r (cbBUSY base) = 0 := by
  rw [Chip.cmdFinish_stat _ _ _ _ _ h, Chip.finished_r _ _ _ _ _ (by simp only [Fld.key, cbREJECT, cbBUSY]; omega), Chip.r_w_same]
  rfl

theorem Chip.cmdFinish_done (b : Chip) (base code : Nat) (l : List Nat) (h : (cbDONE base).key ≠ Reg.NTC_INT_PEND.key) :
    (b.cmdFinish base code l).r (cbDONE base) = 1 := by
  rw [Chip.cmdFinish_stat _ _ _ _ _ h, Chip.finished_r _ _ _ _ _ (by simp only [Fld.key, cbREJECT, cbDONE]; omega),
    Chip.r_w_ne _ _ _ _ (by simp only [Fld.key, cbBUSY, cbDONE]; omega), Chip.r_w_same]
  rfl

theorem Chip.cmdFinish_code (b : Chip) (base code : Nat) (l : List Nat) (h : (cbCODE base).key ≠ Reg.NTC_INT_PEND.key) :
    (b.cmdFinish base code l).r (cbCODE base) = code % 256 := by
  rw [Chip.cmdFinish_stat _ _ _ _ _ h, Chip.finished_r _ _ _ _ _ (by simp only [Fld.key, cbREJECT, cbCODE]; omega),
    Chip.r_w_ne _ _ _ _ (by simp only [Fld.key, cbBUSY, cbCODE]; omega),
    Chip.r_w_ne _ _ _ _ (by simp only [Fld.key, cbDONE, cbCODE]; omega), Chip.r_w_same]
  rfl

theorem Chip.cmdFinish_result (b : Chip) (base code : Nat) (l : List Nat) (j : Nat) (hj : j < 16)
    (h : (cbRESULT base j).key ≠ Reg.NTC_INT_PEND.key) :
    (b.cmdFinish base code l).r (cbRESULT base j) = l.getD j 0 % 2 ^ 32 := by
  rw [Chip.cmdFinish_stat _ _ _ _ _ h, Chip.finished_r _ _ _ _ _ (by simp only [Fld.key, cbREJECT, cbRESULT]; omega),
    Chip.r_w_ne _ _ _ _ (by simp only [Fld.key, cbBUSY, cbRESULT]; omega),
    Chip.r_w_ne _ _ _ _ (by simp only [Fld.key, cbDONE, cbRESULT]; omega),
    Chip.r_w_ne _ _ _ _ (by simp only [Fld.key, cbCODE, cbRESULT]; omega),
    Chip.putResults_result _ _ _ _ _ (Nat.zero_le _) (by simp; omega)]
  grind

end Sys2Proof.Machine
end

