-- ==== Sys2Proof/Laws/Command.lean ====
section
/-!
SUPPORT. What the common command block does with a command, said once: it runs, completes and shows its results.
-/
namespace Sys2Proof.Machine

/-- A command block away from INT_PEND. -/
theorem Chip.cmdFinish_completed (b : Chip) (base code : Nat) (l : List Nat) (hb : base + 0x94 < 0x50000 ∨ 0x50040 ≤ base) (hc : code < 256) :
    (b.cmdFinish base code l).Completed base code l := by
  have hk : ∀ f : Fld, base ≤ f.off → f.off < base + 0x94 → f.lo < 32 → f.key ≠ Reg.NTC_INT_PEND.key := by
    intro f h1 h2 h3 e
    simp only [Fld.key, Reg.NTC_INT_PEND] at e
    omega
  refine ⟨?_, ?_, ?_, fun j hj => ?_⟩
  · rw [Chip.cmdFinish_code _ _ _ _ (hk _ (by simp [cbCODE]) (by simp [cbCODE]) (by simp [cbCODE])), Nat.mod_eq_of_lt hc]
  · exact Chip.cmdFinish_done _ _ _ _ (hk _ (by simp [cbDONE]) (by simp [cbDONE]) (by simp [cbDONE]))
  · exact Chip.cmdFinish_busy _ _ _ _ (hk _ (by simp [cbBUSY]) (by simp [cbBUSY]) (by simp [cbBUSY]))
  · exact Chip.cmdFinish_result _ _ _ _ _ hj (hk _ (by simp [cbRESULT]; omega) (by simp [cbRESULT]; omega) (by simp [cbRESULT]))

/-- A block that takes a command runs it on the block after acceptance. -/
theorem Chip.command_takes {b : Chip} {base : Nat} (irq : Bool) (f : Chip → Sum Chip CmdOut) (h : b.takes base = true) :
    b.command base irq f =
      match f (b.cmdAccept base irq) with
      | .inl c => c
      | .inr o => o.b.cmdFinish base o.code o.results := by
  simp only [Chip.command]
  cases f (b.cmdAccept base irq) <;> grind [Chip.takes]

theorem Chip.cmd_takes {b : Chip} {base : Nat} (irq : Bool) (f : Chip → CmdOut) (h : b.takes base = true) :
    b.cmd base irq f = (f (b.cmdAccept base irq)).b.cmdFinish base (f (b.cmdAccept base irq)).code (f (b.cmdAccept base irq)).results := by
  rw [Chip.cmd, Chip.command_takes _ _ h]

/-- What a command block of the map shows after a command that answered: its code and its results. -/
theorem Chip.cmd_completed {b : Chip} {base code : Nat} {irq : Bool} {f : Chip → CmdOut} {l : List Nat} (h : b.takes base = true)
    (hb : base + 0x94 < 0x50000 ∨ 0x50040 ≤ base) (hc : code < 256)
    (h1 : (f (b.cmdAccept base irq)).code = code) (h2 : (f (b.cmdAccept base irq)).results = l) :
    (b.cmd base irq f).Completed base code l := by
  subst h1 h2
  rw [Chip.cmd_takes _ _ h]
  exact Chip.cmdFinish_completed _ _ _ _ hb hc

/-! ### A completion changes the command block alone -/

theorem Chip.SameBut.trans {b c d : Chip} (h1 : Chip.SameBut b c) (h2 : Chip.SameBut c d) : Chip.SameBut b d := by
  unfold Chip.SameBut at *
  rw [h1] at h2
  exact h2

theorem Chip.SameBut.w (b : Chip) (f : Fld) (v : Nat) : Chip.SameBut b (b.w f v) := rfl

theorem Chip.SameBut.putResults (b : Chip) (base i : Nat) (l : List Nat) : Chip.SameBut b (b.putResults base i l) := by
  fun_induction Chip.putResults b base i l <;> grind [Chip.SameBut, Chip.w]

theorem Chip.SameBut.fire (b : Chip) (v : Nat) : Chip.SameBut b (b.fire v) := by
  unfold Chip.fire
  (repeat' split) <;> rfl

theorem Chip.SameBut.accept (b : Chip) (base : Nat) (irq : Bool) : Chip.SameBut b (b.cmdAccept base irq) := rfl

theorem Chip.SameBut.finished (b : Chip) (base code : Nat) (l : List Nat) : Chip.SameBut b (b.finished base code l) := by
  unfold Chip.finished
  simp only []
  split
  all_goals
    refine Chip.SameBut.trans (Chip.SameBut.putResults b base 0 ((l ++ List.replicate 16 0).take 16)) ?_
    rfl

theorem Chip.SameBut.finish (b : Chip) (base code : Nat) (l : List Nat) : Chip.SameBut b (b.cmdFinish base code l) := by
  have h : Chip.SameBut b { b.finished base code l with cmdIrq := (b.finished base code l).cmdIrq.filter (· != base) } :=
    Chip.SameBut.trans (Chip.SameBut.finished b base code l) rfl
  unfold Chip.cmdFinish
  simp only []
  split
  · exact Chip.SameBut.trans h (Chip.SameBut.fire _ 2)
  · exact h

/-- A command whose own chapter changes nothing leaves everything but its command block. -/
theorem Chip.cmd_only {b : Chip} {base : Nat} {irq : Bool} {f : Chip → CmdOut} (h : b.takes base = true)
    (h1 : (f (b.cmdAccept base irq)).b = b.cmdAccept base irq) : Chip.OnlyBlock b (b.cmd base irq f) base := by
  rw [Chip.cmd_takes _ _ h, h1]
  refine ⟨Chip.SameBut.trans (Chip.SameBut.accept b base irq) (Chip.SameBut.finish _ _ _ _), fun g h2 h3 => ?_⟩
  rw [Chip.cmdFinish_r _ _ _ _ _ h2 (by omega), Chip.cmdAccept_r _ _ _ _ (by omega)]

end Sys2Proof.Machine
end

