-- ==== Sys2Proof/Laws/Exec.lean ====
section
/-!
SUPPORT. Which meaning each command has: one lemma per row of the table.
-/
namespace Sys2Proof.Machine

theorem exec_registerWrite {rq} {off} {octets} {value} (s : State) : exec (.registerWrite rq off octets value) s = execRegisterWrite rq off octets value s := rfl
theorem exec_latchRead {rq} {off} {octets} (s : State) : exec (.latchRead rq off octets) s = execLatchRead rq off octets s := rfl
theorem exec_rcCounterRead {rq} {off} {octets} (s : State) : exec (.rcCounterRead rq off octets) s = execRcCounterRead rq off octets s := rfl
theorem exec_stitchBoundary {x} (s : State) : exec (.stitchBoundary x) s = execStitchBoundary x s := rfl
theorem exec_budgetClose (s : State) : exec (.budgetClose) s = execBudgetClose s := rfl
theorem exec_vinGood {x} (s : State) : exec (.vinGood x) s = execVinGood x s := rfl
theorem exec_rstNLow {x} (s : State) : exec (.rstNLow x) s = execRstNLow x s := rfl
theorem exec_warmStart {x} (s : State) : exec (.warmStart x) s = execWarmStart x s := rfl
theorem exec_watchdogExpiry {again} (s : State) : exec (.watchdogExpiry again) s = execWatchdogExpiry again s := rfl
theorem exec_thermalTrip (s : State) : exec (.thermalTrip) s = execThermalTrip s := rfl
theorem exec_safeBeaconPeriod (s : State) : exec (.safeBeaconPeriod) s = execSafeBeaconPeriod s := rfl
theorem exec_diagStatus {irq} (s : State) : exec (.diagStatus irq) s = execDiagStatus irq s := rfl
theorem exec_readReport {irq} (s : State) : exec (.readReport irq) s = execReadReport irq s := rfl
theorem exec_readAttest {irq} (s : State) : exec (.readAttest irq) s = execReadAttest irq s := rfl
theorem exec_loadManifest {irq} {stored} (s : State) : exec (.loadManifest irq stored) s = execLoadManifest irq stored s := rfl
theorem exec_reboot {irq} (s : State) : exec (.reboot irq) s = execReboot irq s := rfl
theorem exec_consoleStatus (s : State) : exec (.consoleStatus) s = execConsoleStatus s := rfl
theorem exec_consoleReport (s : State) : exec (.consoleReport) s = execConsoleReport s := rfl
theorem exec_consoleReboot (s : State) : exec (.consoleReboot) s = execConsoleReboot s := rfl
theorem exec_consoleRd {off} {n} (s : State) : exec (.consoleRd off n) s = execConsoleRd off n s := rfl
theorem exec_consoleWr {off} {value} (s : State) : exec (.consoleWr off value) s = execConsoleWr off value s := rfl
theorem exec_amplitudeGood {src} (s : State) : exec (.amplitudeGood src) s = execAmplitudeGood src s := rfl
theorem exec_qualCoarseDone {src} {count} {ms} (s : State) : exec (.qualCoarseDone src count ms) s = execQualCoarseDone src count ms s := rfl
theorem exec_qualFineDone {src} {count} {ms} (s : State) : exec (.qualFineDone src count ms) s = execQualFineDone src count ms s := rfl
theorem exec_qualRetry {src} (s : State) : exec (.qualRetry src) s = execQualRetry src s := rfl
theorem exec_clockStopped (s : State) : exec (.clockStopped) s = execClockStopped s := rfl
theorem exec_freqCheck {count} {ms} (s : State) : exec (.freqCheck count ms) s = execFreqCheck count ms s := rfl
theorem exec_pllUnlock {pll} (s : State) : exec (.pllUnlock pll) s = execPllUnlock pll s := rfl
theorem exec_pllLock {pll} {ms} (s : State) : exec (.pllLock pll ms) s = execPllLock pll ms s := rfl
theorem exec_tcxoReturn (s : State) : exec (.tcxoReturn) s = execTcxoReturn s := rfl
theorem exec_srcCtrlWrite {value} (s : State) : exec (.srcCtrlWrite value) s = execSrcCtrlWrite value s := rfl
theorem exec_groupReset {value} (s : State) : exec (.groupReset value) s = execGroupReset value s := rfl
theorem exec_groupResetRelease {grp} (s : State) : exec (.groupResetRelease grp) s = execGroupResetRelease grp s := rfl
theorem exec_domainWakeRequest {xing} (s : State) : exec (.domainWakeRequest xing) s = execDomainWakeRequest xing s := rfl
theorem exec_incrCommit {rq} {value} (s : State) : exec (.incrCommit rq value) s = execIncrCommit rq value s := rfl
theorem exec_incrApply (s : State) : exec (.incrApply) s = execIncrApply s := rfl
theorem exec_stepCommit {rq} {value} (s : State) : exec (.stepCommit rq value) s = execStepCommit rq value s := rfl
theorem exec_stepApply (s : State) : exec (.stepApply) s = execStepApply s := rfl
theorem exec_setCommit {rq} {value} (s : State) : exec (.setCommit rq value) s = execSetCommit rq value s := rfl
theorem exec_setApply (s : State) : exec (.setApply) s = execSetApply s := rfl
theorem exec_holdoverReq (s : State) : exec (.holdoverReq) s = execHoldoverReq s := rfl
theorem exec_holdoverTimeout (s : State) : exec (.holdoverTimeout) s = execHoldoverTimeout s := rfl
theorem exec_tsFifoPop {rq} {port} (s : State) : exec (.tsFifoPop rq port) s = execTsFifoPop rq port s := rfl
theorem exec_triggerArm {n} {value} (s : State) : exec (.triggerArm n value) s = execTriggerArm n value s := rfl
theorem exec_triggerFire {n} (s : State) : exec (.triggerFire n) s = execTriggerFire n s := rfl
theorem exec_rawCaptureEnd {n} (s : State) : exec (.rawCaptureEnd n) s = execRawCaptureEnd n s := rfl
theorem exec_timerArm {n} (s : State) : exec (.timerArm n) s = execTimerArm n s := rfl
theorem exec_timerStop {n} (s : State) : exec (.timerStop n) s = execTimerStop n s := rfl
theorem exec_countWrite {n} {value} (s : State) : exec (.countWrite n value) s = execCountWrite n value s := rfl
theorem exec_compareWrite {n} {value} (s : State) : exec (.compareWrite n value) s = execCompareWrite n value s := rfl
theorem exec_compareMatch {n} (s : State) : exec (.compareMatch n) s = execCompareMatch n s := rfl
theorem exec_oneshotEnd {n} (s : State) : exec (.oneshotEnd n) s = execOneshotEnd n s := rfl
theorem exec_captureEdge {n} {level} {samples} (s : State) : exec (.captureEdge n level samples) s = execCaptureEdge n level samples s := rfl
theorem exec_captureRead {rq} {n} (s : State) : exec (.captureRead rq n) s = execCaptureRead rq n s := rfl
theorem exec_lockDetected {g} (s : State) : exec (.lockDetected g) s = execLockDetected g s := rfl
theorem exec_lockTimeout {g} (s : State) : exec (.lockTimeout g) s = execLockTimeout g s := rfl
theorem exec_calComplete {g} {m} (s : State) : exec (.calComplete g m) s = execCalComplete g m s := rfl
theorem exec_calFail {g} {tj} (s : State) : exec (.calFail g tj) s = execCalFail g tj s := rfl
theorem exec_cal {irq} (s : State) : exec (.cal irq) s = execCal irq s := rfl
theorem exec_calCancel {irq} (s : State) : exec (.calCancel irq) s = execCalCancel irq s := rfl
theorem exec_readCal {irq} (s : State) : exec (.readCal irq) s = execReadCal irq s := rfl
theorem exec_coexReqAssert {id} (s : State) : exec (.coexReqAssert id) s = execCoexReqAssert id s := rfl
theorem exec_coexGrantLost {set} (s : State) : exec (.coexGrantLost set) s = execCoexGrantLost set s := rfl
theorem exec_wakePatternMatch {rx} {x} (s : State) : exec (.wakePatternMatch rx x) s = execWakePatternMatch rx x s := rfl
theorem exec_preambleDetection {p} (s : State) : exec (.preambleDetection p) s = execPreambleDetection p s := rfl
theorem exec_gainStepDown {lane} {peak} (s : State) : exec (.gainStepDown lane peak) s = execGainStepDown lane peak s := rfl
theorem exec_gainStepUp {lane} {peak} (s : State) : exec (.gainStepUp lane peak) s = execGainStepUp lane peak s := rfl
theorem exec_gainStepEffect {lane} (s : State) : exec (.gainStepEffect lane) s = execGainStepEffect lane s := rfl
theorem exec_phrDecoded {p} (s : State) : exec (.phrDecoded p) s = execPhrDecoded p s := rfl
theorem exec_syncLost {ctx} (s : State) : exec (.syncLost ctx) s = execSyncLost ctx s := rfl
theorem exec_captureSinrLoss {ctx} {sinr} (s : State) : exec (.captureSinrLoss ctx sinr) s = execCaptureSinrLoss ctx sinr s := rfl
theorem exec_receptionEnd {r} {mramOk} (s : State) : exec (.receptionEnd r mramOk) s = execReceptionEnd r mramOk s := rfl
theorem exec_steerWindowEnd (s : State) : exec (.steerWindowEnd) s = execSteerWindowEnd s := rfl
theorem exec_laneEnWrite {lane} {en} (s : State) : exec (.laneEnWrite lane en) s = execLaneEnWrite lane en s := rfl
theorem exec_readChan {irq} (s : State) : exec (.readChan irq) s = execReadChan irq s := rfl
theorem exec_rxpReadCtx {irq} (s : State) : exec (.rxpReadCtx irq) s = execRxpReadCtx irq s := rfl
theorem exec_keyPoint {id} {mramOk} (s : State) : exec (.keyPoint id mramOk) s = execKeyPoint id mramOk s := rfl
theorem exec_takePoint {id} {mramOk} (s : State) : exec (.takePoint id mramOk) s = execTakePoint id mramOk s := rfl
theorem exec_rxToTx {g} (s : State) : exec (.rxToTx g) s = execRxToTx g s := rfl
theorem exec_transmitSetupPoint {id} {granted} (s : State) : exec (.transmitSetupPoint id granted) s = execTransmitSetupPoint id granted s := rfl
theorem exec_femEarly {g} (s : State) : exec (.femEarly g) s = execFemEarly g s := rfl
theorem exec_carrierStart {id} (s : State) : exec (.carrierStart id) s = execCarrierStart id s := rfl
theorem exec_transmissionEnd {id} (s : State) : exec (.transmissionEnd id) s = execTransmissionEnd id s := rfl
theorem exec_femTailRelease {g} (s : State) : exec (.femTailRelease g) s = execFemTailRelease g s := rfl
theorem exec_carriersApply {chain} (s : State) : exec (.carriersApply chain) s = execCarriersApply chain s := rfl
theorem exec_dutyBucketRoll (s : State) : exec (.dutyBucketRoll) s = execDutyBucketRoll s := rfl
theorem exec_tone {irq} (s : State) : exec (.tone irq) s = execTone irq s := rfl
theorem exec_toneStop {irq} (s : State) : exec (.toneStop irq) s = execToneStop irq s := rfl
theorem exec_toneEnd {chain} (s : State) : exec (.toneEnd chain) s = execToneEnd chain s := rfl
theorem exec_wakeCall {irq} (s : State) : exec (.wakeCall irq) s = execWakeCall irq s := rfl
theorem exec_wakeCallEnd (s : State) : exec (.wakeCallEnd) s = execWakeCallEnd s := rfl
theorem exec_alloc {irq} (s : State) : exec (.alloc irq) s = execAlloc irq s := rfl
theorem exec_reclaim {irq} (s : State) : exec (.reclaim irq) s = execReclaim irq s := rfl
theorem exec_readCell {irq} (s : State) : exec (.readCell irq) s = execReadCell irq s := rfl
theorem exec_writeCell {irq} (s : State) : exec (.writeCell irq) s = execWriteCell irq s := rfl
theorem exec_nodeCells {irq} (s : State) : exec (.nodeCells irq) s = execNodeCells irq s := rfl
theorem exec_pairSet {irq} (s : State) : exec (.pairSet irq) s = execPairSet irq s := rfl
theorem exec_contextFetch {node} {x} (s : State) : exec (.contextFetch node x) s = execContextFetch node x s := rfl
theorem exec_ackWaitTimeout {node} (s : State) : exec (.ackWaitTimeout node) s = execAckWaitTimeout node s := rfl
theorem exec_csmaBackoffExpiry {node} {x} (s : State) : exec (.csmaBackoffExpiry node x) s = execCsmaBackoffExpiry node x s := rfl
theorem exec_nodeAdmit {irq} (s : State) : exec (.nodeAdmit irq) s = execNodeAdmit irq s := rfl
theorem exec_readCtx {irq} (s : State) : exec (.readCtx irq) s = execReadCtx irq s := rfl
theorem exec_writeCtx {irq} (s : State) : exec (.writeCtx irq) s = execWriteCtx irq s := rfl
theorem exec_suspend {irq} (s : State) : exec (.suspend irq) s = execSuspend irq s := rfl
theorem exec_resume {irq} (s : State) : exec (.resume irq) s = execResume irq s := rfl
theorem exec_retire {irq} (s : State) : exec (.retire irq) s = execRetire irq s := rfl
theorem exec_nodeClear {irq} (s : State) : exec (.nodeClear irq) s = execNodeClear irq s := rfl
theorem exec_nodeFind {irq} (s : State) : exec (.nodeFind irq) s = execNodeFind irq s := rfl
theorem exec_resetLink {irq} (s : State) : exec (.resetLink irq) s = execResetLink irq s := rfl
theorem exec_readCounter {irq} (s : State) : exec (.readCounter irq) s = execReadCounter irq s := rfl
theorem exec_mapWrite {irq} (s : State) : exec (.mapWrite irq) s = execMapWrite irq s := rfl
theorem exec_mapRead {irq} (s : State) : exec (.mapRead irq) s = execMapRead irq s := rfl
theorem exec_skipBlock {irq} {mramOk} (s : State) : exec (.skipBlock irq mramOk) s = execSkipBlock irq mramOk s := rfl
theorem exec_keyLoad {irq} {mramOk} (s : State) : exec (.keyLoad irq mramOk) s = execKeyLoad irq mramOk s := rfl
theorem exec_keyVerify {irq} (s : State) : exec (.keyVerify irq) s = execKeyVerify irq s := rfl
theorem exec_keyPromote {irq} (s : State) : exec (.keyPromote irq) s = execKeyPromote irq s := rfl
theorem exec_keyInvalidate {irq} (s : State) : exec (.keyInvalidate irq) s = execKeyInvalidate irq s := rfl
theorem exec_orphanZeroise (s : State) : exec (.orphanZeroise) s = execOrphanZeroise s := rfl
theorem exec_retireAtReached {pocket} (s : State) : exec (.retireAtReached pocket) s = execRetireAtReached pocket s := rfl
theorem exec_keyErase {irq} (s : State) : exec (.keyErase irq) s = execKeyErase irq s := rfl
theorem exec_readPocket {irq} (s : State) : exec (.readPocket irq) s = execReadPocket irq s := rfl
theorem exec_setNodeEpoch {irq} (s : State) : exec (.setNodeEpoch irq) s = execSetNodeEpoch irq s := rfl
theorem exec_rekeyNode {irq} (s : State) : exec (.rekeyNode irq) s = execRekeyNode irq s := rfl
theorem exec_deriveCheck {irq} (s : State) : exec (.deriveCheck irq) s = execDeriveCheck irq s := rfl
theorem exec_fwdRead {irq} (s : State) : exec (.fwdRead irq) s = execFwdRead irq s := rfl
theorem exec_fwdWrite {irq} (s : State) : exec (.fwdWrite irq) s = execFwdWrite irq s := rfl
theorem exec_fwdInsert {irq} (s : State) : exec (.fwdInsert irq) s = execFwdInsert irq s := rfl
theorem exec_fwdDelete {irq} (s : State) : exec (.fwdDelete irq) s = execFwdDelete irq s := rfl
theorem exec_fwdSearch {irq} (s : State) : exec (.fwdSearch irq) s = execFwdSearch irq s := rfl
theorem exec_ageNow {irq} (s : State) : exec (.ageNow irq) s = execAgeNow irq s := rfl
theorem exec_rehashStart {irq} (s : State) : exec (.rehashStart irq) s = execRehashStart irq s := rfl
theorem exec_rehashMove {irq} (s : State) : exec (.rehashMove irq) s = execRehashMove irq s := rfl
theorem exec_rehashFinish {irq} (s : State) : exec (.rehashFinish irq) s = execRehashFinish irq s := rfl
theorem exec_rehashRevert {irq} (s : State) : exec (.rehashRevert irq) s = execRehashRevert irq s := rfl
theorem exec_refilter {irq} (s : State) : exec (.refilter irq) s = execRefilter irq s := rfl
theorem exec_learnApply (s : State) : exec (.learnApply) s = execLearnApply s := rfl
theorem exec_itemOpen {queue} {size} {prio} {x} (s : State) : exec (.itemOpen queue size prio x) s = execItemOpen queue size prio x s := rfl
theorem exec_itemClose {queue} {id} {data} {aborted} (s : State) : exec (.itemClose queue id data aborted) s = execItemClose queue id data aborted s := rfl
theorem exec_itemTake {queue} {node} {ecc} {dram} (s : State) : exec (.itemTake queue node ecc dram) s = execItemTake queue node ecc dram s := rfl
theorem exec_itemRelease {queue} {id} (s : State) : exec (.itemRelease queue id) s = execItemRelease queue id s := rfl
theorem exec_itemReturn {queue} {id} (s : State) : exec (.itemReturn queue id) s = execItemReturn queue id s := rfl
theorem exec_frontPush {queue} {node} {data} (s : State) : exec (.frontPush queue node data) s = execFrontPush queue node data s := rfl
theorem exec_itemDropRest {queue} {id} (s : State) : exec (.itemDropRest queue id) s = execItemDropRest queue id s := rfl
theorem exec_spillReadback {queue} (s : State) : exec (.spillReadback queue) s = execSpillReadback queue s := rfl
theorem exec_configQ {irq} (s : State) : exec (.configQ irq) s = execConfigQ irq s := rfl
theorem exec_readQ {irq} (s : State) : exec (.readQ irq) s = execReadQ irq s := rfl
theorem exec_dropRest {irq} (s : State) : exec (.dropRest irq) s = execDropRest irq s := rfl
theorem exec_qFlush {irq} (s : State) : exec (.qFlush irq) s = execQFlush irq s := rfl
theorem exec_setGroup {irq} (s : State) : exec (.setGroup irq) s = execSetGroup irq s := rfl
theorem exec_egressDequeue {port} (s : State) : exec (.egressDequeue port) s = execEgressDequeue port s := rfl
theorem exec_gateEntryChange {port} (s : State) : exec (.gateEntryChange port) s = execGateEntryChange port s := rfl
theorem exec_gateTakeover {port} (s : State) : exec (.gateTakeover port) s = execGateTakeover port s := rfl
theorem exec_latencyWindowEnd (s : State) : exec (.latencyWindowEnd) s = execLatencyWindowEnd s := rfl
theorem exec_setChild {irq} (s : State) : exec (.setChild irq) s = execSetChild irq s := rfl
theorem exec_readChild {irq} (s : State) : exec (.readChild irq) s = execReadChild irq s := rfl
theorem exec_gateWrite {irq} (s : State) : exec (.gateWrite irq) s = execGateWrite irq s := rfl
theorem exec_gateCommit {irq} (s : State) : exec (.gateCommit irq) s = execGateCommit irq s := rfl
theorem exec_gateCancel {irq} (s : State) : exec (.gateCancel irq) s = execGateCancel irq s := rfl
theorem exec_gateRead {irq} (s : State) : exec (.gateRead irq) s = execGateRead irq s := rfl
theorem exec_readLat {irq} (s : State) : exec (.readLat irq) s = execReadLat irq s := rfl
theorem exec_svcCtrl {irq} {late} (s : State) : exec (.svcCtrl irq late) s = execSvcCtrl irq late s := rfl
theorem exec_svcCtxSet {irq} {late} (s : State) : exec (.svcCtxSet irq late) s = execSvcCtxSet irq late s := rfl
theorem exec_svcCtxRead {irq} {late} (s : State) : exec (.svcCtxRead irq late) s = execSvcCtxRead irq late s := rfl
theorem exec_rplCfg {irq} {late} (s : State) : exec (.rplCfg irq late) s = execRplCfg irq late s := rfl
theorem exec_rplRoute {irq} {late} (s : State) : exec (.rplRoute irq late) s = execRplRoute irq late s := rfl
theorem exec_rplRepair {irq} {late} (s : State) : exec (.rplRepair irq late) s = execRplRepair irq late s := rfl
theorem exec_regRead {irq} {late} (s : State) : exec (.regRead irq late) s = execRegRead irq late s := rfl
theorem exec_regRemove {irq} {late} (s : State) : exec (.regRemove irq late) s = execRegRemove irq late s := rfl
theorem exec_imgWrite {irq} {late} (s : State) : exec (.imgWrite irq late) s = execImgWrite irq late s := rfl
theorem exec_imgClose {irq} {late} (s : State) : exec (.imgClose irq late) s = execImgClose irq late s := rfl
theorem exec_imgErase {irq} {late} (s : State) : exec (.imgErase irq late) s = execImgErase irq late s := rfl
theorem exec_campStart {irq} {late} (s : State) : exec (.campStart irq late) s = execCampStart irq late s := rfl
theorem exec_campStatus {irq} {late} (s : State) : exec (.campStatus irq late) s = execCampStatus irq late s := rfl
theorem exec_campStop {irq} {late} (s : State) : exec (.campStop irq late) s = execCampStop irq late s := rfl
theorem exec_campResult {irq} {late} (s : State) : exec (.campResult irq late) s = execCampResult irq late s := rfl
theorem exec_svcPoll {irq} {fin} (s : State) : exec (.svcPoll irq fin) s = execSvcPoll irq fin s := rfl
theorem exec_mailboxTimeout (s : State) : exec (.mailboxTimeout) s = execMailboxTimeout s := rfl
theorem exec_ticketExpiry {ticket} (s : State) : exec (.ticketExpiry ticket) s = execTicketExpiry ticket s := rfl
theorem exec_dao (s : State) : exec (.dao) s = execDao s := rfl
theorem exec_dis (s : State) : exec (.dis) s = execDis s := rfl
theorem exec_trickleTimer (s : State) : exec (.trickleTimer) s = execTrickleTimer s := rfl
theorem exec_routeLifetimeExpiry (s : State) : exec (.routeLifetimeExpiry) s = execRouteLifetimeExpiry s := rfl
theorem exec_neighborSolicitation (s : State) : exec (.neighborSolicitation) s = execNeighborSolicitation s := rfl
theorem exec_edar (s : State) : exec (.edar) s = execEdar s := rfl
theorem exec_registrationExpiry (s : State) : exec (.registrationExpiry) s = execRegistrationExpiry s := rfl
theorem exec_fragment (s : State) : exec (.fragment) s = execFragment s := rfl
theorem exec_reassemblyTimeout (s : State) : exec (.reassemblyTimeout) s = execReassemblyTimeout s := rfl
theorem exec_adaptationDownlink (s : State) : exec (.adaptationDownlink) s = execAdaptationDownlink s := rfl
theorem exec_imgStatus (s : State) : exec (.imgStatus) s = execImgStatus s := rfl
theorem exec_campaignCollectEnd {camp} (s : State) : exec (.campaignCollectEnd camp) s = execCampaignCollectEnd camp s := rfl
theorem exec_pair {irq} (s : State) : exec (.pair irq) s = execPair irq s := rfl
theorem exec_claim {irq} (s : State) : exec (.claim irq) s = execClaim irq s := rfl
theorem exec_handover {irq} (s : State) : exec (.handover irq) s = execHandover irq s := rfl
theorem exec_resync {irq} (s : State) : exec (.resync irq) s = execResync irq s := rfl
theorem exec_hello {f} {e} (s : State) : exec (.hello f e) s = execHello f e s := rfl
theorem exec_heartbeat {f} {e} (s : State) : exec (.heartbeat f e) s = execHeartbeat f e s := rfl
theorem exec_contextRecord {f} {tag} {index} (s : State) : exec (.contextRecord f tag index) s = execContextRecord f tag index s := rfl
theorem exec_cellsRecord {f} {tag} {index} (s : State) : exec (.cellsRecord f tag index) s = execCellsRecord f tag index s := rfl
theorem exec_pocketRecord {fcsOk} {octets} {tag} {index} (s : State) : exec (.pocketRecord fcsOk octets tag index) s = execPocketRecord fcsOk octets tag index s := rfl
theorem exec_ceilingRecord {f} {tag} {index} (s : State) : exec (.ceilingRecord f tag index) s = execCeilingRecord f tag index s := rfl
theorem exec_routeRecord {f} {tag} {index} (s : State) : exec (.routeRecord f tag index) s = execRouteRecord f tag index s := rfl
theorem exec_regRecord {f} {tag} {index} (s : State) : exec (.regRecord f tag index) s = execRegRecord f tag index s := rfl
theorem exec_keystateRecord {f} {e} (s : State) : exec (.keystateRecord f e) s = execKeystateRecord f e s := rfl
theorem exec_configRecord {f} {e} (s : State) : exec (.configRecord f e) s = execConfigRecord f e s := rfl
theorem exec_bulkMarkRecord {f} {e} (s : State) : exec (.bulkMarkRecord f e) s = execBulkMarkRecord f e s := rfl
theorem exec_handoverRecord {f} {e} (s : State) : exec (.handoverRecord f e) s = execHandoverRecord f e s := rfl
theorem exec_seamRetransmit (s : State) : exec (.seamRetransmit) s = execSeamRetransmit s := rfl
theorem exec_seamBlockLock {up} (s : State) : exec (.seamBlockLock up) s = execSeamBlockLock up s := rfl
theorem exec_claimInSample (s : State) : exec (.claimInSample) s = execClaimInSample s := rfl
theorem exec_claimRetry (s : State) : exec (.claimRetry) s = execClaimRetry s := rfl
theorem exec_claimInChange {level} (s : State) : exec (.claimInChange level) s = execClaimInChange level s := rfl
theorem exec_listenTimeout (s : State) : exec (.listenTimeout) s = execListenTimeout s := rfl
theorem exec_ssyncEdge {skew} (s : State) : exec (.ssyncEdge skew) s = execSsyncEdge skew s := rfl
theorem exec_handoverSwitch (s : State) : exec (.handoverSwitch) s = execHandoverSwitch s := rfl
theorem exec_updInstall {irq} {stored} (s : State) : exec (.updInstall irq stored) s = execUpdInstall irq stored s := rfl
theorem exec_updActivate {irq} (s : State) : exec (.updActivate irq) s = execUpdActivate irq s := rfl
theorem exec_stagingComplete {code} (s : State) : exec (.stagingComplete code) s = execStagingComplete code s := rfl
theorem exec_pauseStart (s : State) : exec (.pauseStart) s = execPauseStart s := rfl
theorem exec_activationBoundary (s : State) : exec (.activationBoundary) s = execActivationBoundary s := rfl
theorem exec_microcodeLoaded (s : State) : exec (.microcodeLoaded) s = execMicrocodeLoaded s := rfl
theorem exec_imageAlive {cpu} (s : State) : exec (.imageAlive cpu) s = execImageAlive cpu s := rfl
theorem exec_pauseEnd {us} (s : State) : exec (.pauseEnd us) s = execPauseEnd us s := rfl
theorem exec_activationTimeout {ptype} {pindex} {us} (s : State) : exec (.activationTimeout ptype pindex us) s = execActivationTimeout ptype pindex us s := rfl
theorem exec_updCancel {irq} (s : State) : exec (.updCancel irq) s = execUpdCancel irq s := rfl
theorem exec_readBank {irq} (s : State) : exec (.readBank irq) s = execReadBank irq s := rfl
theorem exec_readPart {irq} (s : State) : exec (.readPart irq) s = execReadPart irq s := rfl
theorem exec_updRevert {irq} (s : State) : exec (.updRevert irq) s = execUpdRevert irq s := rfl
theorem exec_plannedExit {x} (s : State) : exec (.plannedExit x) s = execPlannedExit x s := rfl
theorem exec_dozeRestoreComplete {bad} (s : State) : exec (.dozeRestoreComplete bad) s = execDozeRestoreComplete bad s := rfl
theorem exec_spiCsNWake {x} (s : State) : exec (.spiCsNWake x) s = execSpiCsNWake x s := rfl
theorem exec_vinLostCondition {vin} {vbak} (s : State) : exec (.vinLostCondition vin vbak) s = execVinLostCondition vin vbak s := rfl
theorem exec_vinGoodHold {ms} (s : State) : exec (.vinGoodHold ms) s = execVinGoodHold ms s := rfl
theorem exec_vbakGood {mv} (s : State) : exec (.vbakGood mv) s = execVbakGood mv s := rfl
theorem exec_vbakFall {mv} (s : State) : exec (.vbakFall mv) s = execVbakFall mv s := rfl
theorem exec_pcieHotReset {kind} (s : State) : exec (.pcieHotReset kind) s = execPcieHotReset kind s := rfl
theorem exec_trstN (s : State) : exec (.trstN) s = execTrstN s := rfl
theorem exec_spiRead {addr} {octets} (s : State) : exec (.spiRead addr octets) s = execSpiRead addr octets s := rfl
theorem exec_spiWrite {addr} {data} (s : State) : exec (.spiWrite addr data) s = execSpiWrite addr data s := rfl
theorem exec_spiStatus (s : State) : exec (.spiStatus) s = execSpiStatus s := rfl
theorem exec_glbStateRead {rq} (s : State) : exec (.glbStateRead rq) s = execGlbStateRead rq s := rfl
theorem exec_interruptHoldoff {vector} (s : State) : exec (.interruptHoldoff vector) s = execInterruptHoldoff vector s := rfl
theorem exec_noticeRingEnable {rq} {value} (s : State) : exec (.noticeRingEnable rq value) s = execNoticeRingEnable rq value s := rfl
theorem exec_ringEnable {rq} {tx} {ring} {value} (s : State) : exec (.ringEnable rq tx ring value) s = execRingEnable rq tx ring value s := rfl
theorem exec_rxRingPost {rq} {ring} {tail} {descs} (s : State) : exec (.rxRingPost rq ring tail descs) s = execRxRingPost rq ring tail descs s := rfl
theorem exec_hostRxDelivery {ring} (s : State) : exec (.hostRxDelivery ring) s = execHostRxDelivery ring s := rfl
theorem exec_txRingPost {rq} {ring} {tail} {descs} (s : State) : exec (.txRingPost rq ring tail descs) s = execTxRingPost rq ring tail descs s := rfl
theorem exec_mgmtRead (s : State) : exec (.mgmtRead) s = execMgmtRead s := rfl
theorem exec_mgmtWrite (s : State) : exec (.mgmtWrite) s = execMgmtWrite s := rfl
theorem exec_mgmtSubmit {late} (s : State) : exec (.mgmtSubmit late) s = execMgmtSubmit late s := rfl
theorem exec_mgmtNotices (s : State) : exec (.mgmtNotices) s = execMgmtNotices s := rfl
theorem exec_ethRxFrame {port} {frame} {fcsOk} {sfd} (s : State) : exec (.ethRxFrame port frame fcsOk sfd) s = execEthRxFrame port frame fcsOk sfd s := rfl
theorem exec_ethLinkChange {port} {up} {speed} {an} (s : State) : exec (.ethLinkChange port up speed an) s = execEthLinkChange port up speed an s := rfl
theorem exec_debugEnable {irq} (s : State) : exec (.debugEnable irq) s = execDebugEnable irq s := rfl
theorem exec_debugDisable {irq} (s : State) : exec (.debugDisable irq) s = execDebugDisable irq s := rfl
theorem exec_amplitudeFail {src} (s : State) : exec (.amplitudeFail src) s = execAmplitudeFail src s := rfl
theorem exec_eventInputEdge {src} (s : State) : exec (.eventInputEdge src) s = execEventInputEdge src s := rfl
theorem exec_pcieLinkChange {up} {width} {speed} (s : State) : exec (.pcieLinkChange up width speed) s = execPcieLinkChange up width speed s := rfl
theorem exec_pcieConfigWrite {busMaster} {d3hot} {msixEn} {mask} (s : State) : exec (.pcieConfigWrite busMaster d3hot msixEn mask) s = execPcieConfigWrite busMaster d3hot msixEn mask s := rfl
theorem exec_unknownCommandOctet (s : State) : exec (.unknownCommandOctet) s = execUnknownCommandOctet s := rfl
theorem exec_consoleLineTooLong (s : State) : exec (.consoleLineTooLong) s = execConsoleLineTooLong s := rfl

/-- A meaning that acts on the block alone answers a next state. -/
theorem Runs.on {i : Instr} {s : State} {p : State → Prop} {f : Chip → Chip} (h : exec i s = s.on f) (hp : p { s with b := f s.b }) : Runs i s p :=
  ⟨_, h, hp⟩

/-- A command that its block takes and that answers: the block after it shows the code and the results, and has completed over what the command
left. -/
theorem Runs.cmd {i : Instr} {s : State} {p : State → Prop} {b : Chip} {base : Nat} {irq : Bool} {f : Chip → CmdOut} {c : Chip} {code : Nat}
    {l : List Nat} (hx : exec i s = .next { s with b := b.cmd base irq f }) (h : b.takes base = true)
    (hb : base + 0x94 < 0x50000 ∨ 0x50040 ≤ base) (hc : code < 256) (hf : f (b.cmdAccept base irq) = ⟨c, code, l⟩)
    (hp : ∀ d : Chip, d = c.cmdFinish base code l → d.Completed base code l → p { s with b := d }) : Runs i s p := by
  refine ⟨_, hx, hp _ ?_ ?_⟩
  · rw [Chip.cmd_takes _ _ h, hf]
  · exact Chip.cmd_completed h hb hc (by rw [hf]) (by rw [hf])

/-- A command that only answers leaves everything but its command block. -/
theorem Chip.answer_only (b : Chip) (base code : Nat) (irq : Bool) (l : List Nat) :
    Chip.OnlyBlock b ((b.cmdAccept base irq).cmdFinish base code l) base := by
  refine ⟨Chip.SameBut.trans (Chip.SameBut.accept b base irq) (Chip.SameBut.finish _ _ _ _), fun g h2 h3 => ?_⟩
  rw [Chip.cmdFinish_r _ _ _ _ _ h2 (by omega), Chip.cmdAccept_r _ _ _ _ (by omega)]

end Sys2Proof.Machine
end

