-- ==== Sys2Proof/Laws/Notices.lean ====
section
/-!
SUPPORT. What raising a notice leaves as it was: every register outside the notice block, and every part of the state but the registers, the
interrupt state and what was sent out (R542 to R545).
-/
namespace Sys2Proof.Machine

/-- Two blocks agree outside the notice block: NTC's registers, its ring and the output. -/
def Chip.NoticeOnly (b c : Chip) : Prop :=
  c = { b with regs := c.regs, ntc := c.ntc, out := c.out } ∧
  ∀ f : Fld, f.key < 0x50000 * 32 ∨ 0x60000 * 32 ≤ f.key → c.r f = b.r f

theorem Chip.NoticeOnly.rfl' (b : Chip) : Chip.NoticeOnly b b := ⟨rfl, fun _ _ => rfl⟩

theorem Chip.NoticeOnly.trans {b c d : Chip} (h1 : Chip.NoticeOnly b c) (h2 : Chip.NoticeOnly c d) : Chip.NoticeOnly b d := by
  refine ⟨?_, fun f hf => (h2.2 f hf).trans (h1.2 f hf)⟩
  have e1 := h1.1
  have e2 := h2.1
  rw [e1] at e2
  exact e2

theorem Chip.NoticeOnly.w (b : Chip) (f : Fld) (v : Nat) (h : 0x50000 * 32 ≤ f.key) (h' : f.key < 0x60000 * 32) :
    Chip.NoticeOnly b (b.w f v) :=
  ⟨rfl, fun _ hg => Chip.r_w_ne _ _ _ _ (by omega)⟩

theorem Chip.NoticeOnly.ntc (b : Chip) (x : Ntc) : Chip.NoticeOnly b { b with ntc := x } := ⟨rfl, fun _ _ => rfl⟩

theorem Chip.NoticeOnly.emit (b : Chip) (o : Out) : Chip.NoticeOnly b (b.emit o) := ⟨rfl, fun _ _ => rfl⟩

theorem Chip.NoticeOnly.uartSend (b : Chip) (n : Note) : Chip.NoticeOnly b (b.uartSend n) := ⟨rfl, fun _ _ => rfl⟩

theorem Chip.NoticeOnly.fire (b : Chip) (v : Nat) : Chip.NoticeOnly b (b.fire v) := by
  refine ⟨?_, fun f hf => Chip.fire_r _ _ _ (by simp only [Fld.key, Reg.NTC_INT_PEND]; simp only [Fld.key] at hf; omega)⟩
  unfold Chip.fire
  (repeat' split) <;> rfl

theorem Chip.NoticeOnly.modEvent (b : Chip) (v : Nat) : Chip.NoticeOnly b (b.modEvent v) := by
  unfold Chip.modEvent
  simp only []
  split
  · exact Chip.NoticeOnly.trans (Chip.NoticeOnly.ntc b _) (Chip.NoticeOnly.fire _ v)
  · exact Chip.NoticeOnly.ntc b _

theorem Chip.NoticeOnly.ringEnd (b : Chip) (n : Note) : Chip.NoticeOnly b
    (let b4 := if n.sev = 3 then b.fire 1 else b
     if b4.t Reg.GLB_UART_LOG && b4.r (Reg.GLB_FUNC 8) != 1 then b4.uartSend n else b4) := by
  simp only []
  (repeat' split) <;> first
    | exact Chip.NoticeOnly.trans (Chip.NoticeOnly.fire b 1) (Chip.NoticeOnly.uartSend _ _)
    | exact Chip.NoticeOnly.fire b 1
    | exact Chip.NoticeOnly.uartSend b _
    | exact Chip.NoticeOnly.rfl' b

theorem Chip.NoticeOnly.ringPut (b : Chip) (n : Note) : Chip.NoticeOnly b (b.ringPut n) :=
  Chip.NoticeOnly.trans (Chip.NoticeOnly.ntc b _)
    (Chip.NoticeOnly.trans (Chip.NoticeOnly.w _ Reg.NTC_WR_IDX _ (by decide) (by decide))
      (Chip.NoticeOnly.trans (Chip.NoticeOnly.modEvent _ 0) (Chip.NoticeOnly.ringEnd _ n)))

theorem Chip.NoticeOnly.ringLose (b : Chip) : Chip.NoticeOnly b b.ringLose :=
  Chip.NoticeOnly.trans (Chip.NoticeOnly.w b Reg.NTC_LOST_CNT _ (by decide) (by decide)) (Chip.NoticeOnly.ntc _ _)

theorem Chip.NoticeOnly.toRingEnd (b : Chip) (n : Note) : Chip.NoticeOnly b (if b.ringFull then b.ringLose else b.ringPut n) := by
  split
  · exact Chip.NoticeOnly.ringLose b
  · exact Chip.NoticeOnly.ringPut b n

theorem Chip.NoticeOnly.toRing (b : Chip) (n : Note) : Chip.NoticeOnly b (b.toRing n) := by
  unfold Chip.toRing
  simp only []
  split
  · exact Chip.NoticeOnly.w b Reg.NTC_FILTERED _ (by decide) (by decide)
  · split
    · exact Chip.NoticeOnly.ringLose b
    · split
      · exact Chip.NoticeOnly.ringPut b n
      · exact Chip.NoticeOnly.trans (Chip.NoticeOnly.ringPut b _)
          (Chip.NoticeOnly.trans (Chip.NoticeOnly.ntc _ _) (Chip.NoticeOnly.toRingEnd _ n))

theorem Chip.NoticeOnly.toEarly (b : Chip) (n : Note) : Chip.NoticeOnly b (b.toEarly n) := by
  unfold Chip.toEarly
  (repeat' split)
  · exact Chip.NoticeOnly.rfl' b
  · exact Chip.NoticeOnly.ntc b _
  · exact Chip.NoticeOnly.ntc b _

/-- Raising a notice changes the notice block alone. -/
theorem Chip.NoticeOnly.raise (b : Chip) (src code arg : Nat) : Chip.NoticeOnly b (b.raise src code arg) := by
  unfold Chip.raise
  simp only []
  split
  · exact Chip.NoticeOnly.toRing b _
  · exact Chip.NoticeOnly.toEarly b _

/-- Raising a notice leaves every register outside the notice block. -/
theorem Chip.raise_r (b : Chip) (src code arg : Nat) (f : Fld) (h : f.key < 0x50000 * 32 ∨ 0x60000 * 32 ≤ f.key) :
    (b.raise src code arg).r f = b.r f := (Chip.NoticeOnly.raise b src code arg).2 f h


/-! ### The parts that raising a notice leaves -/
@[simp] theorem Chip.raise_bank (b : Chip) (src code arg : Nat) : (b.raise src code arg).bank = b.bank := by
  rw [(Chip.NoticeOnly.raise b src code arg).1]
@[simp] theorem Chip.raise_latch (b : Chip) (src code arg : Nat) : (b.raise src code arg).latch = b.latch := by
  rw [(Chip.NoticeOnly.raise b src code arg).1]
@[simp] theorem Chip.raise_staged (b : Chip) (src code arg : Nat) : (b.raise src code arg).staged = b.staged := by
  rw [(Chip.NoticeOnly.raise b src code arg).1]
@[simp] theorem Chip.raise_cmdIrq (b : Chip) (src code arg : Nat) : (b.raise src code arg).cmdIrq = b.cmdIrq := by
  rw [(Chip.NoticeOnly.raise b src code arg).1]
@[simp] theorem Chip.raise_acc (b : Chip) (src code arg : Nat) : (b.raise src code arg).acc = b.acc := by
  rw [(Chip.NoticeOnly.raise b src code arg).1]
@[simp] theorem Chip.raise_overrides (b : Chip) (src code arg : Nat) : (b.raise src code arg).overrides = b.overrides := by
  rw [(Chip.NoticeOnly.raise b src code arg).1]
@[simp] theorem Chip.raise_pat (b : Chip) (src code arg : Nat) : (b.raise src code arg).pat = b.pat := by
  rw [(Chip.NoticeOnly.raise b src code arg).1]
@[simp] theorem Chip.raise_clk (b : Chip) (src code arg : Nat) : (b.raise src code arg).clk = b.clk := by
  rw [(Chip.NoticeOnly.raise b src code arg).1]
@[simp] theorem Chip.raise_tim (b : Chip) (src code arg : Nat) : (b.raise src code arg).tim = b.tim := by
  rw [(Chip.NoticeOnly.raise b src code arg).1]
@[simp] theorem Chip.raise_cap (b : Chip) (src code arg : Nat) : (b.raise src code arg).cap = b.cap := by
  rw [(Chip.NoticeOnly.raise b src code arg).1]
@[simp] theorem Chip.raise_rawCap (b : Chip) (src code arg : Nat) : (b.raise src code arg).rawCap = b.rawCap := by
  rw [(Chip.NoticeOnly.raise b src code arg).1]
@[simp] theorem Chip.raise_rawMem (b : Chip) (src code arg : Nat) : (b.raise src code arg).rawMem = b.rawMem := by
  rw [(Chip.NoticeOnly.raise b src code arg).1]
@[simp] theorem Chip.raise_tmrAcc (b : Chip) (src code arg : Nat) : (b.raise src code arg).tmrAcc = b.tmrAcc := by
  rw [(Chip.NoticeOnly.raise b src code arg).1]
@[simp] theorem Chip.raise_queues (b : Chip) (src code arg : Nat) : (b.raise src code arg).queues = b.queues := by
  rw [(Chip.NoticeOnly.raise b src code arg).1]
@[simp] theorem Chip.raise_nextItem (b : Chip) (src code arg : Nat) : (b.raise src code arg).nextItem = b.nextItem := by
  rw [(Chip.NoticeOnly.raise b src code arg).1]
@[simp] theorem Chip.raise_eccFirst (b : Chip) (src code arg : Nat) : (b.raise src code arg).eccFirst = b.eccFirst := by
  rw [(Chip.NoticeOnly.raise b src code arg).1]
@[simp] theorem Chip.raise_tmg (b : Chip) (src code arg : Nat) : (b.raise src code arg).tmg = b.tmg := by
  rw [(Chip.NoticeOnly.raise b src code arg).1]
@[simp] theorem Chip.raise_adapt (b : Chip) (src code arg : Nat) : (b.raise src code arg).adapt = b.adapt := by
  rw [(Chip.NoticeOnly.raise b src code arg).1]
@[simp] theorem Chip.raise_rf (b : Chip) (src code arg : Nat) : (b.raise src code arg).rf = b.rf := by
  rw [(Chip.NoticeOnly.raise b src code arg).1]
@[simp] theorem Chip.raise_rx (b : Chip) (src code arg : Nat) : (b.raise src code arg).rx = b.rx := by
  rw [(Chip.NoticeOnly.raise b src code arg).1]
@[simp] theorem Chip.raise_tx (b : Chip) (src code arg : Nat) : (b.raise src code arg).tx = b.tx := by
  rw [(Chip.NoticeOnly.raise b src code arg).1]
@[simp] theorem Chip.raise_sch (b : Chip) (src code arg : Nat) : (b.raise src code arg).sch = b.sch := by
  rw [(Chip.NoticeOnly.raise b src code arg).1]
@[simp] theorem Chip.raise_mac (b : Chip) (src code arg : Nat) : (b.raise src code arg).mac = b.mac := by
  rw [(Chip.NoticeOnly.raise b src code arg).1]
@[simp] theorem Chip.raise_sec (b : Chip) (src code arg : Nat) : (b.raise src code arg).sec = b.sec := by
  rw [(Chip.NoticeOnly.raise b src code arg).1]
@[simp] theorem Chip.raise_key (b : Chip) (src code arg : Nat) : (b.raise src code arg).key = b.key := by
  rw [(Chip.NoticeOnly.raise b src code arg).1]
@[simp] theorem Chip.raise_fwd (b : Chip) (src code arg : Nat) : (b.raise src code arg).fwd = b.fwd := by
  rw [(Chip.NoticeOnly.raise b src code arg).1]
@[simp] theorem Chip.raise_svc (b : Chip) (src code arg : Nat) : (b.raise src code arg).svc = b.svc := by
  rw [(Chip.NoticeOnly.raise b src code arg).1]
@[simp] theorem Chip.raise_nv (b : Chip) (src code arg : Nat) : (b.raise src code arg).nv = b.nv := by
  rw [(Chip.NoticeOnly.raise b src code arg).1]
@[simp] theorem Chip.raise_boot (b : Chip) (src code arg : Nat) : (b.raise src code arg).boot = b.boot := by
  rw [(Chip.NoticeOnly.raise b src code arg).1]
@[simp] theorem Chip.raise_upd (b : Chip) (src code arg : Nat) : (b.raise src code arg).upd = b.upd := by
  rw [(Chip.NoticeOnly.raise b src code arg).1]
@[simp] theorem Chip.raise_pwr (b : Chip) (src code arg : Nat) : (b.raise src code arg).pwr = b.pwr := by
  rw [(Chip.NoticeOnly.raise b src code arg).1]
@[simp] theorem Chip.raise_hif (b : Chip) (src code arg : Nat) : (b.raise src code arg).hif = b.hif := by
  rw [(Chip.NoticeOnly.raise b src code arg).1]
@[simp] theorem Chip.raise_sea (b : Chip) (src code arg : Nat) : (b.raise src code arg).sea = b.sea := by
  rw [(Chip.NoticeOnly.raise b src code arg).1]
@[simp] theorem Chip.raise_owed (b : Chip) (src code arg : Nat) : (b.raise src code arg).owed = b.owed := by
  rw [(Chip.NoticeOnly.raise b src code arg).1]
@[simp] theorem Chip.raise_gap (b : Chip) (src code arg : Nat) : (b.raise src code arg).gap = b.gap := by
  rw [(Chip.NoticeOnly.raise b src code arg).1]
@[simp] theorem Chip.raise_freeCtr (b : Chip) (src code arg : Nat) : (b.raise src code arg).freeCtr = b.freeCtr := by
  rw [(Chip.NoticeOnly.raise b src code arg).1]

end Sys2Proof.Machine
end

