-- ==== Sys2Proof/Laws/Settle.lean ====
section
/-!
SUPPORT. What the end of a step leaves as it was, where no discontinuity and no pair beacon is waiting: it only sends ceilings to the partner (R340,
R479).
-/
namespace Sys2Proof.Machine

/-- Two blocks agree outside the Seam block: its registers, its state and the output. -/
def Chip.SeamOnly (b c : Chip) : Prop :=
  c = { b with regs := c.regs, sea := c.sea, out := c.out } ∧
  ∀ f : Fld, f.key < 0x220000 * 32 ∨ 0x230000 * 32 ≤ f.key → c.r f = b.r f

theorem Chip.SeamOnly.rfl' (b : Chip) : Chip.SeamOnly b b := ⟨rfl, fun _ _ => rfl⟩

theorem Chip.SeamOnly.trans {b c d : Chip} (h1 : Chip.SeamOnly b c) (h2 : Chip.SeamOnly c d) : Chip.SeamOnly b d := by
  refine ⟨?_, fun f hf => (h2.2 f hf).trans (h1.2 f hf)⟩
  have e1 := h1.1
  have e2 := h2.1
  rw [e1] at e2
  exact e2

theorem Chip.SeamOnly.w (b : Chip) (f : Fld) (v : Nat) (h : 0x220000 * 32 ≤ f.key) (h' : f.key < 0x230000 * 32) :
    Chip.SeamOnly b (b.w f v) :=
  ⟨rfl, fun _ hg => Chip.r_w_ne _ _ _ _ (by omega)⟩

theorem Chip.SeamOnly.sea (b : Chip) (x : Sea) : Chip.SeamOnly b { b with sea := x } := ⟨rfl, fun _ _ => rfl⟩
theorem Chip.SeamOnly.emit (b : Chip) (o : Out) : Chip.SeamOnly b (b.emit o) := ⟨rfl, fun _ _ => rfl⟩

theorem Chip.SeamOnly.seamOut (b : Chip) (seq : Nat) (l : List SeamRec) : Chip.SeamOnly b (b.seamOut seq l) := by
  unfold Chip.seamOut
  split
  · exact Chip.SeamOnly.emit _ _
  · exact Chip.SeamOnly.rfl' _

theorem Chip.SeamOnly.seamSend (b : Chip) (l : List SeamRec) : Chip.SeamOnly b (b.seamSend l) :=
  Chip.SeamOnly.trans (Chip.SeamOnly.sea b _) (Chip.SeamOnly.seamOut _ _ _)

theorem Chip.SeamOnly.foldl {α : Type} (f : Chip → α → Chip) (hf : ∀ c x, Chip.SeamOnly c (f c x)) (l : List α) (b : Chip) :
    Chip.SeamOnly b (l.foldl f b) :=
  List.foldlRecOn l f (Chip.SeamOnly.rfl' b) fun _ h x _ => h.trans (hf _ x)

theorem Chip.SeamOnly.seamSendAll (b : Chip) (l : List SeamRec) : Chip.SeamOnly b (b.seamSendAll l) :=
  Chip.SeamOnly.foldl _ Chip.SeamOnly.seamSend _ b

/-- Sending ceilings changes the Seam block alone. -/
theorem Chip.SeamOnly.ceilSend (b : Chip) : Chip.SeamOnly b b.ceilSend := by
  unfold Chip.ceilSend
  simp only []
  split
  · exact Chip.SeamOnly.rfl' b
  · exact Chip.SeamOnly.trans (Chip.SeamOnly.trans (Chip.SeamOnly.sea b _) (Chip.SeamOnly.seamSendAll _ _))
      (Chip.SeamOnly.trans (Chip.SeamOnly.w _ _ _ (by decide) (by decide)) (Chip.SeamOnly.w _ _ _ (by decide) (by decide)))

theorem Chip.settle_quiet {b : Chip} (h : b.Quiet) : b.settle = b.ceilSend := by
  unfold Chip.settle Chip.jumpAct
  rw [h.1]
  unfold Chip.pairHeardAct
  simp only [h.2]

theorem Chip.settle_r {b : Chip} (h : b.Quiet) (f : Fld) (hf : f.key < 0x220000 * 32 ∨ 0x230000 * 32 ≤ f.key) :
    b.settle.r f = b.r f := by
  rw [Chip.settle_quiet h]
  exact (Chip.SeamOnly.ceilSend b).2 f hf

theorem Chip.settle_bank {b : Chip} (h : b.Quiet) : b.settle.bank = b.bank := by
  rw [Chip.settle_quiet h, (Chip.SeamOnly.ceilSend b).1]
theorem Chip.settle_latch {b : Chip} (h : b.Quiet) : b.settle.latch = b.latch := by
  rw [Chip.settle_quiet h, (Chip.SeamOnly.ceilSend b).1]
theorem Chip.settle_staged {b : Chip} (h : b.Quiet) : b.settle.staged = b.staged := by
  rw [Chip.settle_quiet h, (Chip.SeamOnly.ceilSend b).1]
theorem Chip.settle_cmdIrq {b : Chip} (h : b.Quiet) : b.settle.cmdIrq = b.cmdIrq := by
  rw [Chip.settle_quiet h, (Chip.SeamOnly.ceilSend b).1]
theorem Chip.settle_acc {b : Chip} (h : b.Quiet) : b.settle.acc = b.acc := by
  rw [Chip.settle_quiet h, (Chip.SeamOnly.ceilSend b).1]
theorem Chip.settle_overrides {b : Chip} (h : b.Quiet) : b.settle.overrides = b.overrides := by
  rw [Chip.settle_quiet h, (Chip.SeamOnly.ceilSend b).1]
theorem Chip.settle_pat {b : Chip} (h : b.Quiet) : b.settle.pat = b.pat := by
  rw [Chip.settle_quiet h, (Chip.SeamOnly.ceilSend b).1]
theorem Chip.settle_ntc {b : Chip} (h : b.Quiet) : b.settle.ntc = b.ntc := by
  rw [Chip.settle_quiet h, (Chip.SeamOnly.ceilSend b).1]
theorem Chip.settle_clk {b : Chip} (h : b.Quiet) : b.settle.clk = b.clk := by
  rw [Chip.settle_quiet h, (Chip.SeamOnly.ceilSend b).1]
theorem Chip.settle_tim {b : Chip} (h : b.Quiet) : b.settle.tim = b.tim := by
  rw [Chip.settle_quiet h, (Chip.SeamOnly.ceilSend b).1]
theorem Chip.settle_cap {b : Chip} (h : b.Quiet) : b.settle.cap = b.cap := by
  rw [Chip.settle_quiet h, (Chip.SeamOnly.ceilSend b).1]
theorem Chip.settle_rawCap {b : Chip} (h : b.Quiet) : b.settle.rawCap = b.rawCap := by
  rw [Chip.settle_quiet h, (Chip.SeamOnly.ceilSend b).1]
theorem Chip.settle_rawMem {b : Chip} (h : b.Quiet) : b.settle.rawMem = b.rawMem := by
  rw [Chip.settle_quiet h, (Chip.SeamOnly.ceilSend b).1]
theorem Chip.settle_tmrAcc {b : Chip} (h : b.Quiet) : b.settle.tmrAcc = b.tmrAcc := by
  rw [Chip.settle_quiet h, (Chip.SeamOnly.ceilSend b).1]
theorem Chip.settle_queues {b : Chip} (h : b.Quiet) : b.settle.queues = b.queues := by
  rw [Chip.settle_quiet h, (Chip.SeamOnly.ceilSend b).1]
theorem Chip.settle_nextItem {b : Chip} (h : b.Quiet) : b.settle.nextItem = b.nextItem := by
  rw [Chip.settle_quiet h, (Chip.SeamOnly.ceilSend b).1]
theorem Chip.settle_eccFirst {b : Chip} (h : b.Quiet) : b.settle.eccFirst = b.eccFirst := by
  rw [Chip.settle_quiet h, (Chip.SeamOnly.ceilSend b).1]
theorem Chip.settle_tmg {b : Chip} (h : b.Quiet) : b.settle.tmg = b.tmg := by
  rw [Chip.settle_quiet h, (Chip.SeamOnly.ceilSend b).1]
theorem Chip.settle_adapt {b : Chip} (h : b.Quiet) : b.settle.adapt = b.adapt := by
  rw [Chip.settle_quiet h, (Chip.SeamOnly.ceilSend b).1]
theorem Chip.settle_rf {b : Chip} (h : b.Quiet) : b.settle.rf = b.rf := by
  rw [Chip.settle_quiet h, (Chip.SeamOnly.ceilSend b).1]
theorem Chip.settle_rx {b : Chip} (h : b.Quiet) : b.settle.rx = b.rx := by
  rw [Chip.settle_quiet h, (Chip.SeamOnly.ceilSend b).1]
theorem Chip.settle_tx {b : Chip} (h : b.Quiet) : b.settle.tx = b.tx := by
  rw [Chip.settle_quiet h, (Chip.SeamOnly.ceilSend b).1]
theorem Chip.settle_sch {b : Chip} (h : b.Quiet) : b.settle.sch = b.sch := by
  rw [Chip.settle_quiet h, (Chip.SeamOnly.ceilSend b).1]
theorem Chip.settle_mac {b : Chip} (h : b.Quiet) : b.settle.mac = b.mac := by
  rw [Chip.settle_quiet h, (Chip.SeamOnly.ceilSend b).1]
theorem Chip.settle_sec {b : Chip} (h : b.Quiet) : b.settle.sec = b.sec := by
  rw [Chip.settle_quiet h, (Chip.SeamOnly.ceilSend b).1]
theorem Chip.settle_key {b : Chip} (h : b.Quiet) : b.settle.key = b.key := by
  rw [Chip.settle_quiet h, (Chip.SeamOnly.ceilSend b).1]
theorem Chip.settle_fwd {b : Chip} (h : b.Quiet) : b.settle.fwd = b.fwd := by
  rw [Chip.settle_quiet h, (Chip.SeamOnly.ceilSend b).1]
theorem Chip.settle_svc {b : Chip} (h : b.Quiet) : b.settle.svc = b.svc := by
  rw [Chip.settle_quiet h, (Chip.SeamOnly.ceilSend b).1]
theorem Chip.settle_nv {b : Chip} (h : b.Quiet) : b.settle.nv = b.nv := by
  rw [Chip.settle_quiet h, (Chip.SeamOnly.ceilSend b).1]
theorem Chip.settle_boot {b : Chip} (h : b.Quiet) : b.settle.boot = b.boot := by
  rw [Chip.settle_quiet h, (Chip.SeamOnly.ceilSend b).1]
theorem Chip.settle_upd {b : Chip} (h : b.Quiet) : b.settle.upd = b.upd := by
  rw [Chip.settle_quiet h, (Chip.SeamOnly.ceilSend b).1]
theorem Chip.settle_pwr {b : Chip} (h : b.Quiet) : b.settle.pwr = b.pwr := by
  rw [Chip.settle_quiet h, (Chip.SeamOnly.ceilSend b).1]
theorem Chip.settle_hif {b : Chip} (h : b.Quiet) : b.settle.hif = b.hif := by
  rw [Chip.settle_quiet h, (Chip.SeamOnly.ceilSend b).1]
theorem Chip.settle_owed {b : Chip} (h : b.Quiet) : b.settle.owed = b.owed := by
  rw [Chip.settle_quiet h, (Chip.SeamOnly.ceilSend b).1]
theorem Chip.settle_gap {b : Chip} (h : b.Quiet) : b.settle.gap = b.gap := by
  rw [Chip.settle_quiet h, (Chip.SeamOnly.ceilSend b).1]
theorem Chip.settle_freeCtr {b : Chip} (h : b.Quiet) : b.settle.freeCtr = b.freeCtr := by
  rw [Chip.settle_quiet h, (Chip.SeamOnly.ceilSend b).1]

end Sys2Proof.Machine
end

