-- ==== Sys2Proof/WellFormed.lean ====
section
/-!
DEFINITION. Operands that the spec's own numbering allows: which ports, lanes, groups, channels, rings, queues and octets there are (R9, R45, R122,
R148, R150, R161, R162, R197, R408, R536, R549, R551). A sender sends well-formed commands; a meaning also answers every other operand.
-/
namespace Sys2Proof

/-- A number among the first `n`. -/
def below (n x : Nat) : Bool := decide (x < n)
/-- An access of at least one octet inside the 4 MiB window (R9). -/
def inWindow (off octets : Nat) : Bool := decide (1 ≤ octets ∧ off + octets ≤ 0x400000)
/-- A clock source: 1 XO, 2 TCXO, 3 LF (R106). -/
def isSource (src : Nat) : Bool := decide (1 ≤ src ∧ src ≤ 3)
/-- A list of octets. -/
def octetsOnly (l : List Nat) : Bool := l.all (fun x => decide (x < 256))
/-- What a boundary measures names lanes that exist; eight sensors, those of the four groups first (R174, R524). -/
def StitchIn.fits (x : StitchIn) : Bool := x.floors.all (fun e => below 7 e.1) && decide (x.tj.length ≤ 8)
/-- A start names groups and masks that exist (R81, R162). -/
def StartIn.fits (x : StartIn) : Bool :=
  below 2048 x.loopPass && x.cals.all (fun e => below 4 e.1) && x.iq.all (fun e => below 4 e.1)
/-- A DOZE entry had come to one of its stages (R513). -/
def WakeIn.fits (x : WakeIn) : Bool := below 3 x.stage && decide (x.tj.length ≤ 8)
/-- A transmit descriptor's fields (R547). -/
def TxDesc.fits (d : TxDesc) : Bool := below 65536 d.len && below 65536 d.queue && below 8 d.prio && octetsOnly d.data
/-- The octets of a Seam frame of at most 9,018, and its 8-octet TAG (R470). -/
def SeamHdr.fits (h : SeamHdr) : Bool :=
  octetsOnly h.octets && octetsOnly h.tag && decide (h.octets.length ≤ 8992) && decide (h.tag.length = 8)

/-- The command's operands are in range. -/
def Instr.wellFormed (i : Instr) : Bool :=
  match i with
  | .registerWrite _ off octets _ => inWindow off octets
  | .latchRead _ off octets => inWindow off octets
  | .rcCounterRead _ off octets => inWindow off octets
  | .stitchBoundary x => x.fits
  | .budgetClose => true
  | .vinGood x => x.fits
  | .rstNLow x => x.fits
  | .warmStart x => x.fits
  | .watchdogExpiry _ => true
  | .thermalTrip => true
  | .safeBeaconPeriod => true
  | .diagStatus _ => true
  | .readReport _ => true
  | .readAttest _ => true
  | .loadManifest _ _ => true
  | .reboot _ => true
  | .consoleStatus => true
  | .consoleReport => true
  | .consoleReboot => true
  | .consoleRd off n => below 0x400000 off && decide (1 ≤ n ∧ n ≤ 16)
  | .consoleWr off _ => below 0x400000 off
  | .amplitudeGood src => isSource src
  | .qualCoarseDone src count _ => isSource src && below (2 ^ 21) count
  | .qualFineDone src count _ => isSource src && below (2 ^ 21) count
  | .qualRetry src => isSource src
  | .clockStopped => true
  | .freqCheck count _ => below (2 ^ 21) count
  | .pllUnlock pll => below 4 pll
  | .pllLock pll _ => below 4 pll
  | .tcxoReturn => true
  | .srcCtrlWrite _ => true
  | .groupReset _ => true
  | .groupResetRelease grp => below 4 grp
  | .domainWakeRequest x => below 256 x.xing && below (2 ^ 32) x.value && x.wake.fits
  | .incrCommit _ _ => true
  | .incrApply => true
  | .stepCommit _ _ => true
  | .stepApply => true
  | .setCommit _ _ => true
  | .setApply => true
  | .holdoverReq => true
  | .holdoverTimeout => true
  | .tsFifoPop _ port => below 2 port
  | .triggerArm n _ => below 12 n
  | .triggerFire n => below 12 n
  | .rawCaptureEnd x => decide (8 ≤ x.n ∧ x.n < 12) && x.samples.all (below (2 ^ 32))
  | .timerArm n => below 64 n
  | .timerStop n => below 64 n
  | .countWrite n _ => below 64 n
  | .compareWrite n _ => below 64 n
  | .compareMatch n => below 64 n
  | .oneshotEnd n => below 64 n
  | .captureEdge n _ _ => below 64 n
  | .captureRead _ n => below 64 n
  | .lockDetected g => below 4 g
  | .lockTimeout g => below 4 g
  | .calComplete g _ => below 4 g
  | .calFail g _ => below 4 g
  | .cal _ => true
  | .calCancel _ => true
  | .readCal _ => true
  | .coexReqAssert _ => true
  | .coexGrantLost set => below 3 set
  | .wakePatternMatch rx x => below (2 ^ 32) rx && x.fits
  | .preambleDetection p => below 7 p.lane
  | .gainStepDown lane _ => below 7 lane
  | .gainStepUp lane _ => below 7 lane
  | .gainStepEffect lane => below 7 lane
  | .phrDecoded p => below 256 p.ctx && below 2048 p.len && below 8 p.mcs
  | .syncLost ctx => below 256 ctx
  | .captureSinrLoss ctx _ => below 256 ctx
  | .receptionEnd r _ => below 256 r.ctx && octetsOnly r.psdu
  | .steerWindowEnd => true
  | .laneEnWrite lane _ => below 7 lane
  | .readChan _ => true
  | .rxpReadCtx _ => true
  | .keyPoint _ _ => true
  | .takePoint _ _ => true
  | .rxToTx g => below 4 g
  | .transmitSetupPoint _ _ => true
  | .femEarly g => below 4 g
  | .carrierStart _ => true
  | .transmissionEnd _ => true
  | .femTailRelease g => below 4 g
  | .carriersApply chain => below 4 chain
  | .dutyBucketRoll => true
  | .tone _ => true
  | .toneStop _ => true
  | .toneEnd chain => below 4 chain
  | .wakeCall _ => true
  | .wakeCallEnd => true
  | .alloc _ => true
  | .reclaim _ => true
  | .readCell _ => true
  | .writeCell _ => true
  | .nodeCells _ => true
  | .pairSet _ => true
  | .contextFetch node _ => below 131072 node
  | .ackWaitTimeout node => below 131072 node
  | .csmaBackoffExpiry node _ => below 131072 node
  | .nodeAdmit _ => true
  | .readCtx _ => true
  | .writeCtx _ => true
  | .suspend _ => true
  | .resume _ => true
  | .retire _ => true
  | .nodeClear _ => true
  | .nodeFind _ => true
  | .resetLink _ => true
  | .readCounter _ => true
  | .mapWrite _ => true
  | .mapRead _ => true
  | .skipBlock _ _ => true
  | .keyLoad _ _ => true
  | .keyVerify _ => true
  | .keyPromote _ => true
  | .keyInvalidate _ => true
  | .orphanZeroise => true
  | .retireAtReached pocket => below 4096 pocket
  | .keyErase _ => true
  | .readPocket _ => true
  | .setNodeEpoch _ => true
  | .rekeyNode _ => true
  | .deriveCheck _ => true
  | .fwdRead _ => true
  | .fwdWrite _ => true
  | .fwdInsert _ => true
  | .fwdDelete _ => true
  | .fwdSearch _ => true
  | .ageNow _ => true
  | .rehashStart _ => true
  | .rehashMove _ => true
  | .rehashFinish _ => true
  | .rehashRevert _ => true
  | .refilter _ => true
  | .learnApply => true
  | .itemOpen queue _ prio x => below 8192 queue && below 8 prio && below 131072 x.node && octetsOnly x.data
  | .itemClose queue _ data _ => below 8192 queue && octetsOnly data
  | .itemTake queue node ecc _ => below 8192 queue && below 131072 node && below 4 ecc
  | .itemRelease queue _ => below 8192 queue
  | .itemReturn queue _ => below 8192 queue
  | .frontPush queue node data => below 8192 queue && below 131072 node && octetsOnly data
  | .itemDropRest queue _ => below 8192 queue
  | .spillReadback queue => below 8192 queue
  | .configQ _ => true
  | .readQ _ => true
  | .dropRest _ => true
  | .qFlush _ => true
  | .setGroup _ => true
  | .egressDequeue port => below 3 port
  | .gateEntryChange port => below 2 port
  | .gateTakeover port => below 2 port
  | .latencyWindowEnd => true
  | .setChild _ => true
  | .readChild _ => true
  | .gateWrite _ => true
  | .gateCommit _ => true
  | .gateCancel _ => true
  | .gateRead _ => true
  | .readLat _ => true
  | .svcCtrl _ _ => true
  | .svcCtxSet _ _ => true
  | .svcCtxRead _ _ => true
  | .rplCfg _ _ => true
  | .rplRoute _ _ => true
  | .rplRepair _ _ => true
  | .regRead _ _ => true
  | .regRemove _ _ => true
  | .imgWrite _ _ => true
  | .imgClose _ _ => true
  | .imgErase _ _ => true
  | .campStart _ _ => true
  | .campStatus _ _ => true
  | .campStop _ _ => true
  | .campResult _ _ => true
  | .svcPoll _ _ => true
  | .mailboxTimeout => true
  | .ticketExpiry _ => true
  | .dao => true
  | .dis => true
  | .trickleTimer => true
  | .routeLifetimeExpiry => true
  | .neighborSolicitation => true
  | .edar => true
  | .registrationExpiry => true
  | .fragment => true
  | .reassemblyTimeout => true
  | .adaptationDownlink => true
  | .imgStatus => true
  | .campaignCollectEnd camp => below 4 camp
  | .pair _ => true
  | .claim _ => true
  | .handover _ => true
  | .resync _ => true
  | .hello f e => SeamHdr.fits ⟨f, e⟩
  | .heartbeat f e => SeamHdr.fits ⟨f, e⟩
  | .contextRecord f tag index => SeamHdr.fits ⟨f, ⟨tag, index⟩⟩
  | .cellsRecord f tag index => SeamHdr.fits ⟨f, ⟨tag, index⟩⟩
  | .pocketRecord fcsOk octets tag index => SeamHdr.fits ⟨⟨fcsOk, octets⟩, ⟨tag, index⟩⟩
  | .ceilingRecord f tag index => SeamHdr.fits ⟨f, ⟨tag, index⟩⟩
  | .routeRecord f tag index => SeamHdr.fits ⟨f, ⟨tag, index⟩⟩
  | .regRecord f tag index => SeamHdr.fits ⟨f, ⟨tag, index⟩⟩
  | .keystateRecord f e => SeamHdr.fits ⟨f, e⟩
  | .configRecord f e => SeamHdr.fits ⟨f, e⟩
  | .bulkMarkRecord f e => SeamHdr.fits ⟨f, e⟩
  | .handoverRecord f e => SeamHdr.fits ⟨f, e⟩
  | .seamRetransmit => true
  | .seamBlockLock _ => true
  | .claimInSample => true
  | .claimRetry => true
  | .claimInChange _ => true
  | .listenTimeout => true
  | .ssyncEdge _ => true
  | .handoverSwitch => true
  | .updInstall _ _ => true
  | .updActivate _ => true
  | .stagingComplete code => below 0x16 code
  | .pauseStart => true
  | .activationBoundary => true
  | .microcodeLoaded => true
  | .imageAlive cpu => below 8 cpu
  | .pauseEnd _ => true
  | .activationTimeout ptype pindex _ => below 256 ptype && below 256 pindex
  | .updCancel _ => true
  | .readBank _ => true
  | .readPart _ => true
  | .updRevert _ => true
  | .plannedExit x => x.fits
  | .dozeRestoreComplete _ => true
  | .spiCsNWake x => x.fits
  | .vinLostCondition _ _ => true
  | .vinGoodHold _ => true
  | .vbakGood _ => true
  | .vbakFall _ => true
  | .pcieHotReset kind => below 3 kind
  | .trstN => true
  | .spiRead addr _ => below (2 ^ 24) addr
  | .spiWrite addr data => below (2 ^ 24) addr && octetsOnly data
  | .spiStatus => true
  | .glbStateRead _ => true
  | .interruptHoldoff vector => below 32 vector
  | .noticeRingEnable _ _ => true
  | .ringEnable _ _ ring _ => below 8 ring
  | .rxRingPost _ ring tail _ => below 8 ring && below 4096 tail
  | .hostRxDelivery ring => below 8 ring
  | .txRingPost _ ring tail descs => below 8 ring && below 4096 tail && descs.all TxDesc.fits
  | .mgmtRead => true
  | .mgmtWrite => true
  | .mgmtSubmit _ => true
  | .mgmtNotices => true
  | .ethRxFrame port frame _ _ => below 2 port && octetsOnly frame
  | .ethLinkChange port _ speed _ => below 2 port && below 3 speed
  | .debugEnable _ => true
  | .debugDisable _ => true
  | .amplitudeFail src => isSource src
  | .eventInputEdge src => below 21 src
  | .pcieLinkChange _ width speed => below 4 width && below 4 speed
  | .pcieConfigWrite _ _ _ mask => below (2 ^ 32) mask
  | .unknownCommandOctet => true
  | .consoleLineTooLong => true

end Sys2Proof
end

