-- ==== Sys2Proof/Tests/Slice0.lean ====
section
/-!
SUPPORT. Tests of the model's own: the ill-formed terms that WellFormed refuses, one-step tests with values worked out from the spec, the words of a few
command codes, and for every statement with hypotheses a state and operands that meet them.
-/
namespace Sys2Proof.Tests
open Sys2Proof Sys2Proof.Machine

set_option Elab.async false

/-- The reset state with register fields written. -/
def st (l : List (Fld × Nat)) : State := { State.reset with b := l.foldl (fun b e => b.w e.1 e.2) State.reset.b }
/-- The same in READY, out of LIMP, with every domain running from the TCXO. -/
def rdy (l : List (Fld × Nat)) : State :=
  st ([(Reg.GLB_STATE, 1), (Reg.CKR_LIMP, 0), (Reg.CKR_DOMAIN_STATE, 0), (Reg.CKR_MAIN_SRC, 2)] ++ l)
/-- The same in SAFE. -/
def saf (l : List (Fld × Nat)) : State := st ((Reg.GLB_STATE, 2) :: l)

/-! ### WellFormed: an ill-formed term for each check -/

theorem test_wf_window : (Instr.registerWrite .pcie 0x400000 4 0).wellFormed = false := by decide
theorem test_wf_source : (Instr.amplitudeGood 4).wellFormed = false := by decide
theorem test_wf_count : (Instr.qualCoarseDone 1 (2 ^ 21) 0).wellFormed = false := by decide
theorem test_wf_console : (Instr.consoleRd 0 17).wellFormed = false := by decide
theorem test_wf_pll : (Instr.pllLock 4 0).wellFormed = false := by decide
theorem test_wf_group : (Instr.groupResetRelease 4).wellFormed = false := by decide
theorem test_wf_crossing : (Instr.domainWakeRequest ⟨256, 0, {}⟩).wellFormed = false := by decide
theorem test_wf_port : (Instr.tsFifoPop .spi 2).wellFormed = false := by decide
theorem test_wf_trigger : (Instr.triggerArm 12 0).wellFormed = false := by decide
theorem test_wf_raw : (Instr.rawCaptureEnd ⟨7, []⟩).wellFormed = false := by decide
theorem test_wf_timer : (Instr.timerArm 64).wellFormed = false := by decide
theorem test_wf_floor : (Instr.stitchBoundary { floors := [(7, 0, 0)] }).wellFormed = false := by decide
theorem test_wf_sensors : (Instr.stitchBoundary { tj := List.replicate 9 25 }).wellFormed = false := by decide
theorem test_wf_loop : (Instr.vinGood { loopPass := 2048 }).wellFormed = false := by decide
theorem test_wf_cal : (Instr.rstNLow { cals := [(4, { tj := 25, vco := 0, gain := 0 })] }).wellFormed = false := by decide
theorem test_wf_iq : (Instr.warmStart { iq := [(4, {})] }).wellFormed = false := by decide
theorem test_wf_stage : (Instr.plannedExit { stage := 3 }).wellFormed = false := by decide
theorem test_wf_wake : (Instr.wakePatternMatch (2 ^ 32) {}).wellFormed = false := by decide
theorem test_wf_lane : (Instr.gainStepEffect 7).wellFormed = false := by decide
theorem test_wf_grp : (Instr.rxToTx 4).wellFormed = false := by decide
theorem test_wf_set : (Instr.coexGrantLost 3).wellFormed = false := by decide
theorem test_wf_phr_ctx : (Instr.phrDecoded { ctx := 256, len := 0 }).wellFormed = false := by decide
theorem test_wf_phr_len : (Instr.phrDecoded { ctx := 0, len := 2048 }).wellFormed = false := by decide
theorem test_wf_phr_mcs : (Instr.phrDecoded { ctx := 0, len := 0, mcs := 8 }).wellFormed = false := by decide
theorem test_wf_octets : (Instr.receptionEnd { ctx := 0, fcsOk := true, psdu := [256], octets := 1, endNs := 0 } false).wellFormed = false := by decide
theorem test_wf_chain : (Instr.toneEnd 4).wellFormed = false := by decide
theorem test_wf_node : (Instr.contextFetch 131072 ⟨false, none⟩).wellFormed = false := by decide
theorem test_wf_pocket : (Instr.retireAtReached 4096).wellFormed = false := by decide
theorem test_wf_queue : (Instr.spillReadback 8192).wellFormed = false := by decide
theorem test_wf_prio : (Instr.itemOpen 0 0 8 ⟨0, []⟩).wellFormed = false := by decide
theorem test_wf_ecc : (Instr.itemTake 0 0 4 false).wellFormed = false := by decide
theorem test_wf_egress : (Instr.egressDequeue 3).wellFormed = false := by decide
theorem test_wf_campaign : (Instr.campaignCollectEnd 4).wellFormed = false := by decide
theorem test_wf_seam : (Instr.heartbeat ⟨true, [256]⟩ ⟨List.replicate 8 0, 0⟩).wellFormed = false := by decide
theorem test_wf_mark : (Instr.bulkMarkRecord ⟨true, []⟩ ⟨[], 0⟩).wellFormed = false := by decide
theorem test_wf_code : (Instr.stagingComplete 0x16).wellFormed = false := by decide
theorem test_wf_cpu : (Instr.imageAlive 8).wellFormed = false := by decide
theorem test_wf_part : (Instr.activationTimeout 256 0 0).wellFormed = false := by decide
theorem test_wf_pcie : (Instr.pcieHotReset 3).wellFormed = false := by decide
theorem test_wf_spi : (Instr.spiRead (2 ^ 24) 4).wellFormed = false := by decide
theorem test_wf_vector : (Instr.interruptHoldoff 32).wellFormed = false := by decide
theorem test_wf_ring : (Instr.hostRxDelivery 8).wellFormed = false := by decide
theorem test_wf_tail : (Instr.rxRingPost .pcie 0 4096 []).wellFormed = false := by decide
theorem test_wf_desc : (Instr.txRingPost .pcie 0 0 [{ len := 65536, queue := 0, prio := 0, last := true, data := [] }]).wellFormed = false := by decide
theorem test_wf_speed : (Instr.ethLinkChange 0 true 3 false).wellFormed = false := by decide
theorem test_wf_event : (Instr.eventInputEdge 21).wellFormed = false := by decide
theorem test_wf_link : (Instr.pcieLinkChange true 4 0).wellFormed = false := by decide
theorem test_wf_mask : (Instr.pcieConfigWrite false false false (2 ^ 32)).wellFormed = false := by decide
theorem test_wf_ok : (Instr.registerWrite .pcie 0x3FFFFC 4 0).wellFormed = true := by decide

/-! ### The generic statements -/

theorem wit_emptyQueue : State.reset.pending = [] := rfl
theorem wit_inv : State.reset.Inv ∧ ∃ t, step State.reset = .next t := ⟨rfl, _, rfl⟩
theorem wit_execKeeps : ∃ t, exec .consoleLineTooLong State.reset = .next t := ⟨_, rfl⟩
theorem wit_blockCommand : cmdBlock (.readCtx true) = some (cbMAC, true) ∧ Instr.readCtx true ≠ .readAttest true := by decide
theorem wit_safeDenied : cmdBlock (.readQ false) = some (cbQMG, false) ∧ cbQMG ≠ cbGLB ∧ (saf []).b.Awake ∧ (saf []).b.safe = true ∧
    (saf []).b.t (cbBUSY cbQMG) = false := by
  refine ⟨rfl, by decide, ⟨by decide, by decide⟩, by decide⟩
theorem wit_busy : cmdBlock (.diagStatus true) = some (cbGLB, true) ∧ Instr.diagStatus true ≠ .updCancel true ∧ (rdy [(cbBUSY cbGLB, 1)]).b.Awake ∧
    (rdy [(cbBUSY cbGLB, 1)]).b.starting = false ∧ (rdy [(cbBUSY cbGLB, 1)]).b.t (cbBUSY cbGLB) = true := by
  refine ⟨rfl, by decide, ⟨by decide, by decide⟩, by decide⟩
theorem wit_starting : cmdBlock (.readBank false) = some (cbUPD, false) ∧ cbUPD ≠ cbGLB ∧ Instr.readBank false ≠ .updCancel false ∧
    State.reset.b.Awake ∧ State.reset.b.starting = true := by
  refine ⟨rfl, by decide, by decide, ⟨by decide, by decide⟩, by decide⟩
theorem wit_limp : cmdBlock (.cal true) = some (cbRFC, true) ∧ heldInLimp cbRFC = true ∧ (rdy [(Reg.CKR_LIMP, 1)]).b.Awake ∧
    (rdy [(Reg.CKR_LIMP, 1)]).b.ready = true ∧ (rdy [(Reg.CKR_LIMP, 1)]).b.limp = true ∧ (rdy [(Reg.CKR_LIMP, 1)]).b.t (cbBUSY cbRFC) = false := by
  refine ⟨rfl, by decide, ⟨by decide, by decide⟩, by decide⟩

/-! ### GLB, the console, DBG, SAFE -/

/-- A state with its block changed. -/
def chip (s : State) (f : Chip → Chip) : State := { s with b := f s.b }

theorem wit_diag : (rdy []).b.takes cbGLB = true ∧ (rdy []).b.starting = false ∧ (rdy []).b.boot.rootBad = false ∧ (rdy []).b.rs Reg.PWR_TJ_MAX ≤ 145 ∧
    bit ((rdy []).b.arg cbGLB 0) 0 = false := by decide
theorem wit_diag_report : (chip (rdy []) (fun b => { b with boot := { b.boot with report := [1] } })).b.takes cbGLB = true ∧
    (chip (rdy []) (fun b => { b with boot := { b.boot with report := [1] } })).b.boot.report ≠ [] := by decide
/-- SAFE with 64 MiB of flash and the arguments of a first chunk of 4,096 octets. -/
def loadable : State := chip (saf [(cbARG cbGLB 0, 8192), (cbARG cbGLB 2, 4096), (cbARG cbGLB 3, 1)]) (fun b => { b with boot := { b.boot with flashMib := 64 } })
theorem wit_diag_load : loadable.b.takes cbGLB = true ∧ loadable.b.safe = true ∧ loadable.b.boot.flashMib ≠ 0 ∧ bit (loadable.b.arg cbGLB 3) 0 = true ∧
    bit (loadable.b.arg cbGLB 3) 1 = false ∧ loadable.b.arg cbGLB 1 = 0 ∧ 1 ≤ loadable.b.arg cbGLB 2 ∧ loadable.b.arg cbGLB 2 ≤ 4096 ∧
    loadable.b.arg cbGLB 2 ≤ loadable.b.arg cbGLB 0 ∧ loadable.b.arg cbGLB 0 ≤ loadable.b.bankMib * 2 ^ 20 := by decide
theorem wit_console : (chip (rdy []) (fun b => { b with boot := { b.boot with report := [1] } })).b.parked 8 = false ∧
    (chip (rdy []) (fun b => { b with boot := { b.boot with report := [1] } })).b.starting = false ∧
    (chip (rdy []) (fun b => { b with boot := { b.boot with report := [1] } })).b.boot.report ≠ [] ∧ (rdy []).b.rs Reg.PWR_TJ_MAX ≤ 145 := by decide
theorem wit_debug_on : (rdy [(cbARG cbDBG 0, 0x44424745), (Reg.DBG_STRAP, 1)]).b.takes cbDBG = true ∧
    (rdy [(cbARG cbDBG 0, 0x44424745), (Reg.DBG_STRAP, 1)]).b.ready = true ∧ (rdy [(cbARG cbDBG 0, 0x44424745), (Reg.DBG_STRAP, 1)]).b.arg cbDBG 0 = 0x44424745 ∧
    (rdy [(cbARG cbDBG 0, 0x44424745), (Reg.DBG_STRAP, 1)]).b.t Reg.DBG_STRAP = true ∧ (rdy [(cbARG cbDBG 0, 0x44424745), (Reg.DBG_STRAP, 1)]).b.t Reg.DBG_REQ = false := by
  decide
theorem wit_debug_off : (rdy [(Reg.DBG_REQ, 1)]).b.takes cbDBG = true ∧ (rdy [(Reg.DBG_REQ, 1)]).b.ready = true ∧ (rdy [(Reg.DBG_REQ, 1)]).b.t Reg.DBG_REQ = true := by
  decide
theorem wit_safe : (chip (rdy []) (fun b => { b with boot := { b.boot with off := 0, wdog := true } })).b.ready = true ∧
    (chip (rdy []) (fun b => { b with boot := { b.boot with off := 0, wdog := true } })).b.boot.wdog = true ∧
    (chip (rdy []) (fun b => { b with boot := { b.boot with off := 0, wdog := true } })).b.boot.off = 0 ∧
    (chip (rdy []) (fun b => { b with boot := { b.boot with off := 0, wdog := true } })).b.safe = false ∧ (saf []).b.safe = true := by decide
/-- READY without a root, REBOOT asked for with ARG0 bit 0; a load verified or not. -/
def rebooting (loaded : Bool) : State := chip (rdy [(cbARG cbGLB 0, 1)]) (fun b => { b with boot := { b.boot with rootBad := true, loaded := loaded } })
theorem wit_diag_swap : (rebooting true).b.takes cbGLB = true ∧ (rebooting true).b.starting = false ∧ (rebooting true).b.boot.rootBad = true ∧
    (rebooting true).b.rs Reg.PWR_TJ_MAX ≤ 145 ∧ bit ((rebooting true).b.arg cbGLB 0) 0 = true ∧ (rebooting true).b.boot.loaded = true ∧
    (rebooting false).b.boot.loaded = false ∧ (rebooting true).b.safe = false := by decide
theorem wit_console_held : (rdy [(Reg.GLB_FUNC 8, 1)]).b.parked 8 = true ∧ State.reset.b.starting = true := by decide
theorem wit_debug_refused : (rdy [(cbARG cbDBG 0, 0x44424745)]).b.t Reg.DBG_STRAP = false ∧ (rdy [(cbARG cbDBG 0, 0x44424745), (Reg.DBG_REQ, 1)]).b.t Reg.DBG_REQ = true ∧
    (rdy []).b.arg cbDBG 0 ≠ 0x44424745 ∧ (rdy []).b.t Reg.DBG_REQ = false ∧ (rdy []).b.ready = true := by decide
/-- SAFE with the link of port 0 up and the beacon's count at its bound. -/
def beaconingSafe : State := saf [(Reg.ETH_LINK 0, 1), (Reg.ETH_HELD 0, 0), (Reg.GLB_SAFE_BEACON_SEQ, 0xFFFFFFFF)]
theorem wit_safe_beacon : beaconingSafe.b.safe = true ∧ beaconingSafe.b.parked 8 = false ∧ beaconingSafe.b.t (Reg.ETH_LINK 0) = true ∧
    beaconingSafe.b.t (Reg.ETH_HELD 0) = false ∧ satAdd 32 (beaconingSafe.b.r Reg.GLB_SAFE_BEACON_SEQ) 1 = 0xFFFFFFFF ∧ State.reset.b.boot.off ≠ 0 ∧
    State.reset.b.ready = false := by decide

/-! ### Clocks -/

theorem quiet_of_st (l : List (Fld × Nat)) : (st l).b.Quiet := by
  have h : ∀ (l : List (Fld × Nat)) (b : Chip), b.Quiet → (l.foldl (fun b e => b.w e.1 e.2) b).Quiet := by
    intro l
    induction l with
    | nil => exact fun _ h => h
    | cons e t ih => exact fun b h => ih _ h
  exact h l _ ⟨rfl, rfl⟩
/-- Enabled sources in a qualification state; the RC clocks the domains. -/
def qual (q : Nat) : State := st [(Reg.CKR_XO_EN, 1), (Reg.CKR_LF_EN, 1), (Reg.CKR_XO_QST, q), (Reg.CKR_LF_QST, q)]
theorem wit_qual : (qual 1).b.t (enFld 1) = true ∧ (qual 1).b.qst 1 = 1 ∧ (qual 6).b.qst 1 = 6 ∧ (qual 6).b.t (enFld 1) = true ∧ (qual 2).b.qst 1 = 2 ∧
    (qual 3).b.t (enFld 3) = true ∧ (qual 3).b.qst 3 = 3 := by decide
/-- Every source on; TCXO and XO qualified; the main source and other fields as given. -/
def clocked (l : List (Fld × Nat)) : State :=
  rdy ([(Reg.CKR_TCXO_EN, 1), (Reg.CKR_XO_EN, 1), (Reg.CKR_LF_EN, 1), (Reg.CKR_TCXO_QST, 4), (Reg.CKR_XO_QST, 4)] ++ l)
/-- The RC measured at 4 MHz (its trim is a free value). -/
def rc4 (s : State) : State := chip s (fun b => { b with regs := kput b.regs Reg.CKR_RC_EST.key 4000000 })
theorem wit_qual_off : (st [(Reg.CKR_XO_EN, 0)]).b.t (enFld 1) = false := by decide
theorem wit_coarse : (rc4 (clocked [(Reg.CKR_XO_QST, 2)])).b.coarseOk 1 10240 = true ∧ (clocked [(Reg.CKR_XO_QST, 2)]).b.fineRef 1 ≠ 0 ∧
    (clocked [(Reg.CKR_XO_QST, 2)]).b.srcOk ((clocked [(Reg.CKR_XO_QST, 2)]).b.fineRef 1) = true ∧ (rc4 (clocked [])).b.coarseOk 1 0 = false ∧
    (clocked [(Reg.CKR_XO_QST, 2), (Reg.CKR_TCXO_QST, 6)]).b.srcOk ((clocked [(Reg.CKR_XO_QST, 2), (Reg.CKR_TCXO_QST, 6)]).b.fineRef 1) = false ∧
    (clocked [(Reg.CKR_XO_QST, 2)]).b.r Reg.CKR_MAIN_SRC ≠ 0 := by decide +kernel
theorem wit_disagree : (clocked [(Reg.CKR_XO_QST, 3)]).b.qst 1 = 3 ∧ fineOk 1 65522 = false ∧ fineOk 1 65523 = true ∧ fineOk 3 1249749 = false ∧ fineOk 3 1250250 = true ∧
    (clocked [(Reg.CKR_XO_QST, 3)]).b.r Reg.CKR_MAIN_SRC = 2 ∧ (clocked [(Reg.CKR_XO_QST, 3)]).b.srcOk 2 = true ∧
    (clocked [(Reg.CKR_XO_QST, 3)]).b.clk.sw = none := by decide +kernel
theorem wit_trip : (clocked []).b.r Reg.CKR_MAIN_SRC = 2 ∧ (clocked []).b.idleLocked = false ∧ (rc4 (clocked [])).b.coarseOk 2 10240 = true := by decide +kernel
/-- A switch waits for the idle bank, one of whose PLLs is locked. -/
def clkSwitching (x : Nat) (l : List (Fld × Nat)) : State :=
  chip (clocked ((Reg.CKR_A1_LOCK, 1) :: l)) (fun b => { b with clk := { b.clk with sw := some (x, false) } })
theorem wit_unlock : (clkSwitching 1 []).b.t (pllFld 2) = true ∧ 2 / 2 ≠ (clkSwitching 1 []).b.r Reg.CKR_ACTIVE_BANK ∧ (clkSwitching 1 []).b.clk.sw = some (1, false) ∧
    (clkSwitching 1 []).b.r Reg.CKR_MAIN_SRC = 2 ∧ (clkSwitching 1 []).b.srcOk 2 = true ∧ (clocked [(Reg.CKR_A1_LOCK, 1)]).b.clk.sw = none ∧
    (clocked []).b.t (pllFld 2) = false ∧ (clocked []).b.t (pllFld 3) = false ∧ (clocked []).b.bankSrc 0 ≠ 0 := by decide +kernel
theorem wit_return : (clocked [(Reg.CKR_MAIN_SRC, 1), (Reg.CKR_RETURN_AUTO, 1), (Reg.CKR_IDLE_SRC, 0)]).b.r Reg.CKR_MAIN_SRC = 1 ∧
    (clocked [(Reg.CKR_MAIN_SRC, 1), (Reg.CKR_RETURN_AUTO, 1), (Reg.CKR_IDLE_SRC, 0)]).b.srcOk 2 = true ∧
    (clocked [(Reg.CKR_MAIN_SRC, 1), (Reg.CKR_RETURN_AUTO, 1), (Reg.CKR_IDLE_SRC, 0)]).b.t Reg.CKR_RETURN_AUTO = true ∧
    (clocked [(Reg.CKR_MAIN_SRC, 1), (Reg.CKR_RETURN_AUTO, 1), (Reg.CKR_IDLE_SRC, 0)]).b.r Reg.CKR_IDLE_SRC ≠ 2 := by decide
theorem wit_src_ctrl : (clocked []).b.writable 1 = true ∧ bits (0x37 : Word).toNat 4 2 = 3 ∧ bits (0x117 : Word).toNat 4 2 = 1 ∧
    bit (0x117 : Word).toNat 0 = (clocked []).b.t Reg.CKR_TCXO_EN ∧ bit (0x117 : Word).toNat 1 = (clocked []).b.t Reg.CKR_XO_EN ∧
    bit (0x117 : Word).toNat 2 = (clocked []).b.t Reg.CKR_LF_EN ∧ (clocked []).b.parked 0x1C = false ∧ (clocked []).b.parked 0x1D = false := by decide
theorem wit_group_reset : (8 : Word).toNat = 2 ^ 3 ∧ bit ((clocked [(Reg.CKR_GRP_BUSY, 8)]).b.r Reg.CKR_GRP_BUSY) 3 = true ∧
    bit ((clocked [(Reg.CKR_GRP_BUSY, 7)]).b.r Reg.CKR_GRP_BUSY) 3 = false := by decide
theorem wit_crossing : Config.crossingCount ≤ Config.crossingCount ∧ (clocked [(Reg.CKR_DOMAIN_STATE, 0x155)]).b.domainRuns 1 = false ∧
    (clocked []).b.domainRuns 1 = true ∧ (clocked [(Reg.CKR_DOMAIN_STATE, 0x155), (Reg.PWR_PSTATE, 4)]).b.domainRuns 1 = false ∧
    (clocked [(Reg.CKR_DOMAIN_STATE, 0x155), (Reg.PWR_PSTATE, 4)]).b.domainRuns 6 = false ∧
    (clocked [(Reg.CKR_DOMAIN_STATE, 0x155), (Reg.PWR_PSTATE, 4)]).b.pstate = 4 := ⟨Nat.le_refl _, by decide⟩
theorem wit_clock_quiet (l : List (Fld × Nat)) : (clocked l).b.Quiet := quiet_of_st _

/-! ### Time and timers -/

/-- READY with time running at 100 ns into stitch 0. -/
def timed (l : List (Fld × Nat)) : State :=
  chip (rdy l) (fun b => { b with tim := { b.tim with started := true, now := 100 * nsU }, boot := { b.boot with off := 0 } })
/-- The same with a word staged by the PCIe host. -/
def staging (l : List (Nat × Nat)) : State := chip (timed []) (fun b => l.foldl (fun b e => b.stage .pcie e.1 e.2) b)

theorem wit_incr : (staging [(0x40024, 4)]).b.writable 4 = true ∧ ((staging [(0x40024, 4)]).b.stagedAt .pcie 0x40024).getD 0 % 256 = 4 ∧
    17162689315 ≤ 4 * 2 ^ 32 + (0x0 : Word).toNat ∧ 4 * 2 ^ 32 + (0x0 : Word).toNat ≤ 17197049053 ∧
    5 * 2 ^ 32 + (0 : Word).toNat > 17197049053 := by decide
theorem wit_incr_edges : 3 * 2 ^ 32 + (4277787427 : Word).toNat = 17162689315 ∧ 4 * 2 ^ 32 + (17179869 : Word).toNat = 17197049053 ∧
    3 * 2 ^ 32 + (4277787426 : Word).toNat < 17162689315 := by decide
theorem wit_step : toS (((staging [(0x4002C, 5)]).b.stagedAt .pcie 0x4002C).getD 0) 32 * 65536 + (((3 : Word).toNat % 65536 : Nat) : Int) = 327683 ∧
    (0 : Int) ≤ ((staging [(0x4002C, 5)]).b.tim.now : Int) + stepU ((staging [(0x4002C, 5)]).b.tim.pendStep.getD 0 + 327683) ∧
    ((staging [(0x4002C, 5)]).b.tim.now : Int) + stepU ((staging [(0x4002C, 5)]).b.tim.pendStep.getD 0 + 327683) < (timeEnd : Int) := by decide
/-- Time running with the core changed. -/
def core (l : List (Fld × Nat)) (f : Tim → Tim) : State := chip (timed l) (fun b => { b with tim := f b.tim })
theorem wit_apply_incr : (core [] (fun t => { t with pendIncr := some 17162689315 })).b.timeRuns = true ∧
    (core [] (fun t => { t with pendIncr := some 17162689315 })).b.tickFree = true ∧
    (core [] (fun t => { t with pendIncr := some 17162689315 })).b.tim.pendSet = none ∧ (core [] (fun t => { t with pendIncr := some 17162689315 })).b.Quiet := by
  refine ⟨by decide, by decide, rfl, rfl, rfl⟩
theorem wit_apply_step : (core [] (fun t => { t with pendStep := some 65536000 })).b.timeRuns = true ∧
    (core [] (fun t => { t with pendStep := some 65536000 })).b.tickFree = true ∧ (core [] (fun t => { t with pendStep := some 65536000 })).b.Quiet ∧
    (65536000 : Int).natAbs ≤ (core [] (fun t => { t with pendStep := some 65536000 })).b.r Reg.TIM_STEP_LIMIT * 65536 := by
  refine ⟨by decide, by decide, ⟨rfl, rfl⟩, by decide⟩
theorem wit_set : (staging [(0x40034, 999999999), (0x40038, 7)]).b.writable 4 = true ∧
    ((staging [(0x40034, 999999999), (0x40038, 7)]).b.stagedAt .pcie 0x40034).getD 0 = 999999999 ∧
    ((staging [(0x40034, 1000000000)]).b.stagedAt .pcie 0x40034).getD 0 = 1000000000 := by decide
theorem wit_set_apply : (core [] (fun t => { t with pendSet := some (9 * stitchU) })).b.Quiet ∧
    (core [] (fun t => { t with pendSet := some (9 * stitchU) })).b.timeRuns = true ∧
    (core [] (fun t => { t with pendSet := some (9 * stitchU) })).b.tim.pendSet = some (9 * stitchU) := by refine ⟨⟨rfl, rfl⟩, by decide, rfl⟩
theorem wit_holdover : (core [] (fun t => { t with wdog := some 4000 })).b.t Reg.TIM_HOLDOVER = false ∧
    (core [] (fun t => { t with wdog := some 4000 })).b.writable 4 = true ∧
    (core [] (fun t => { t with wdog := some 4000 })).b.r Reg.TIM_SERVO_WDOG = 4000 := by decide
theorem wit_pop : (core [] (fun t => { t with fifo := [(1, [[0x123, 2, 3, 4], [5, 6, 7, 8]])] })).b.readable 4 = true ∧
    kgetD (core [] (fun t => { t with fifo := [(1, [[0x123, 2, 3, 4], [5, 6, 7, 8]])] })).b.tim.fifo 1 [] = [[0x123, 2, 3, 4], [5, 6, 7, 8]] := by decide
/-- A pin channel and a window channel with a target of 1,000 ns. -/
def trig : State := chip (timed [(Reg.TIM_TRG_TGT_NS 0, 1000), (Reg.TIM_TRG_TGT_NS 11, 1000)]) (fun b => { b with pat := { b.pat with lanes := 1 } })
theorem wit_trigger_pin : trig.b.writable 4 = true ∧ trig.b.Awake ∧ bits (0x00010001 : Word).toNat 4 4 ≤ 6 ∧ bit (0x00010001 : Word).toNat 0 = true ∧
    1 ≤ bits (0x00010001 : Word).toNat 16 16 ∧ trig.b.parked 0x18 = false ∧ trig.b.r (Reg.TIM_TRG_PERIOD 0) = 0 ∧
    trig.b.tim.now < trig.b.trigTarget 0 * nsU := by
  refine ⟨by decide, ⟨by decide, by decide⟩, by decide⟩
theorem wit_trigger_window : bits (0x01000001 : Word).toNat 16 16 = 256 ∧ trig.b.laneExists (bits (0x01000001 : Word).toNat 4 4) = true ∧
    trig.b.r (Reg.TIM_TRG_PERIOD 11) = 0 ∧ trig.b.tim.now < trig.b.trigTarget 11 * nsU := by decide
theorem wit_fire : (chip trig (fun b => { b with tim := { b.tim with trig := [(0, 1000)] } })).b.Quiet ∧
    (chip trig (fun b => { b with tim := { b.tim with trig := [(0, 1000)] } })).b.timeRuns = true ∧
    (chip trig (fun b => { b with tim := { b.tim with trig := [(0, 1000)] } })).b.tickClean = true ∧
    (chip trig (fun b => { b with tim := { b.tim with trig := [(0, 1000)] } })).b.tim.incr ≠ 0 ∧
    (chip trig (fun b => { b with tim := { b.tim with trig := [(0, 1000)] } })).b.beforeBoundary
      ((chip trig (fun b => { b with tim := { b.tim with trig := [(0, 1000)] } })).b.ticksTo (1000 * nsU)) = true ∧
    trig.b.tim.nextB * stitchU ≤ timeEnd := by refine ⟨⟨rfl, rfl⟩, by decide⟩
/-- A host-owned timer channel. -/
def tmr (mode clk : Nat) (l : List (Fld × Nat)) : State :=
  timed ([(Reg.TMR_HOST_OWNED 63, 1), (Reg.TMR_MODE 63, mode), (Reg.TMR_CLK 63, clk), (Reg.TMR_RUNNING 63, 1)] ++ l)
theorem wit_timer : (tmr 1 0 []).b.writable 3 = true ∧ (tmr 1 0 []).b.t (Reg.TMR_HOST_OWNED 63) = true ∧ (tmr 1 0 []).b.Awake ∧
    (tmr 1 0 []).b.r (Reg.TMR_MODE 63) = 1 ∧ (tmr 2 0 []).b.r (Reg.TMR_MODE 63) = 2 := by
  refine ⟨by decide, by decide, ⟨by decide, by decide⟩, by decide⟩
theorem wit_match : (tmr 1 0 [(Reg.TMR_CMP_ARMED 63, 1), (Reg.TMR_COMPARE 63, 9)]).b.timeRuns = true ∧
    (tmr 1 0 [(Reg.TMR_CMP_ARMED 63, 1), (Reg.TMR_COMPARE 63, 9)]).b.t (Reg.TMR_RUNNING 63) = true ∧
    (tmr 1 0 [(Reg.TMR_CMP_ARMED 63, 1), (Reg.TMR_COMPARE 63, 9)]).b.tickClean = true ∧
    (tmr 1 0 [(Reg.TMR_CMP_ARMED 63, 1), (Reg.TMR_COMPARE 63, 9)]).b.t (Reg.TMR_CMP_ARMED 63) = true ∧
    (tmr 1 0 [(Reg.TMR_CMP_ARMED 63, 1), (Reg.TMR_COMPARE 63, 9)]).b.beforeBoundary (reachIn 0 9) = true ∧
    (tmr 1 0 [(Reg.TMR_CMP_ARMED 63, 1), (Reg.TMR_COMPARE 63, 9)]).b.Quiet := by
  refine ⟨by decide, by decide, by decide, by decide, by decide, ⟨rfl, rfl⟩⟩
theorem wit_oneshot : (tmr 2 0 [(Reg.TMR_END 63, 9)]).b.tickClean = true ∧ (tmr 2 0 [(Reg.TMR_END 63, 9)]).b.t (Reg.TMR_CMP_ARMED 63) = false ∧
    (tmr 2 0 [(Reg.TMR_END 63, 9)]).b.r (Reg.TMR_MODE 63) = 2 ∧ (tmr 2 0 [(Reg.TMR_END 63, 9)]).b.beforeBoundary (reachIn 0 9) = true := by decide
theorem wit_event : (tmr 1 2 [(Reg.TMR_EVT_SRC 63, 3)]).b.timeRuns = true ∧ (tmr 1 2 [(Reg.TMR_EVT_SRC 63, 3)]).b.tevParked 3 = false ∧
    (tmr 1 2 [(Reg.TMR_EVT_SRC 63, 3)]).b.r (Reg.TMR_CLK 63) = 2 ∧ (tmr 1 2 [(Reg.TMR_EVT_SRC 63, 3)]).b.r (Reg.TMR_EVT_SRC 63) = 3 ∧
    (tmr 1 2 [(Reg.TMR_EVT_SRC 63, 3)]).b.t (Reg.TMR_CMP_ARMED 63) = false := by decide
theorem wit_capture : (tmr 1 0 [(Reg.TMR_CAP_EN 63, 1), (Reg.TMR_COUNT 63, 77)]).b.timeRuns = true ∧
    (tmr 1 0 [(Reg.TMR_CAP_EN 63, 1), (Reg.TMR_COUNT 63, 77)]).b.tevParked ((tmr 1 0 [(Reg.TMR_CAP_EN 63, 1)]).b.r (Reg.TMR_CAP_SRC 63)) = false ∧
    (tmr 1 0 [(Reg.TMR_CAP_EN 63, 1), (Reg.TMR_COUNT 63, 77)]).b.r (Reg.TMR_FILT_N 63) ≤ 1 ∧
    (kgetD (tmr 1 0 [(Reg.TMR_CAP_EN 63, 1), (Reg.TMR_COUNT 63, 77)]).b.cap 63 {}).lvl = false ∧
    (tmr 1 0 [(Reg.TMR_CAP_EN 63, 1), (Reg.TMR_COUNT 63, 77)]).b.t (Reg.TMR_CAP_EN 63) = true ∧
    (tmr 1 0 [(Reg.TMR_CAP_EN 63, 1), (Reg.TMR_COUNT 63, 77)]).b.r (Reg.TMR_CAP_EDGE 63) ≠ 1 ∧
    (tmr 1 0 [(Reg.TMR_CAP_EN 63, 1), (Reg.TMR_COUNT 63, 77)]).b.r (Reg.TMR_PRESC 63) ≤ 0 ∧
    (tmr 1 0 [(Reg.TMR_CAP_EN 63, 1), (Reg.TMR_COUNT 63, 77)]).b.t (Reg.TMR_CAPTURED 63) = false ∧
    (tmr 1 0 [(Reg.TMR_CAP_EN 63, 1), (Reg.TMR_COUNT 63, 77)]).b.t (Reg.TMR_CAP_WHAT 63) = false := by decide
theorem wit_capture_read : (tmr 1 0 [(Reg.TMR_CAPTURED 63, 1)]).b.readable 3 = true ∧ (tmr 1 0 [(Reg.TMR_CAPTURED 63, 1)]).b.t (Reg.TMR_CAPTURED 63) = true := by
  decide
theorem wit_time_locked : (st []).b.writable 4 = false ∧ (rdy [(Reg.GLB_STATE, 2)]).b.writable 4 = false ∧ (st []).b.readable 4 = false ∧
    (timed [(Reg.TIM_HOLDOVER, 1)]).b.t Reg.TIM_HOLDOVER = true ∧ (timed [(Reg.TIM_HOLDOVER, 1)]).b.writable 4 = true := by decide
/-- A STEP of -2^31 ns takes network time below 0. -/
theorem wit_step_below : ((staging [(0x4002C, 2 ^ 31)]).b.tim.now : Int) + stepU ((staging [(0x4002C, 2 ^ 31)]).b.tim.pendStep.getD 0 +
    (toS (((staging [(0x4002C, 2 ^ 31)]).b.stagedAt .pcie 0x4002C).getD 0) 32 * 65536)) < 0 := by decide
theorem wit_set_due : (core [] (fun t => { t with pendSet := some (9 * stitchU) })).b.boundaryDue = false := by decide
theorem wit_fifo_empty : kgetD (core [] id).b.tim.fifo 0 [] = [] ∧ (core [] id).b.readable 4 = true := by decide
def window (x : List RawWin) : State := chip (timed []) (fun b => { b with rawCap := x, rawMem := [(11, [1, 2, 3])] })
theorem wit_raw : (window [⟨11, 5, 256⟩, ⟨11, 6, 1⟩]).b.rawCap.find? (fun e => e.chan == 11) = some ⟨11, 5, 256⟩ ∧
    (window []).b.rawCap.find? (fun e => e.chan == 11) = none := by decide
theorem wit_timer_other : (tmr 0 0 []).b.r (Reg.TMR_MODE 63) = 0 ∧ (tmr 0 0 [(Reg.TMR_HOST_OWNED 63, 0)]).b.t (Reg.TMR_HOST_OWNED 63) = false ∧
    (tmr 0 0 []).b.writable 3 = true := by decide
theorem wit_event_parked : (timed [(Reg.GLB_FUNC 0x1A, 1)]).b.tevParked 7 = true ∧ 8 ≤ 8 := by decide
theorem wit_capture_lost : (tmr 1 0 [(Reg.TMR_CAP_EN 63, 1), (Reg.TMR_CAPTURED 63, 1)]).b.t (Reg.TMR_CAPTURED 63) = true ∧
    (tmr 1 0 [(Reg.TMR_CAP_EN 63, 1), (Reg.TMR_CAPTURED 63, 1)]).b.t (Reg.TMR_CAP_EN 63) = true ∧ (tmr 1 0 []).b.t (Reg.TMR_CAPTURED 63) = false := by decide

/-! ### The radio -/

/-- READY with every lane and chain enabled. -/
def radio (l : List (Fld × Nat)) (f : Chip → Chip) : State :=
  chip (timed l) (fun b => f { b with pat := { b.pat with lanes := 0x7F, chains := 0xF } })
def gst (v : Nat) (l : List (Fld × Nat)) : List (Fld × Nat) := (Reg.RFC_STATE 3, v) :: l
theorem wit_lock : (radio (gst 2 []) id).b.rfs 3 = RFS.LOCK ∧ (radio (gst 2 []) id).b.rfTarget 3 = RFS.RX ∧ (radio (gst 2 []) id).b.tx.frames = [] ∧
    (radio (gst 2 [(Reg.PWR_PSTATE, 2)]) id).b.rfTarget 3 = RFS.SYNTH := by decide
theorem wit_cal_end : (radio (gst 6 []) id).b.rfs 3 = RFS.CAL ∧ (radio (gst 6 []) id).b.rfTarget 3 = RFS.RX ∧ (radio (gst 6 []) id).b.tx.frames = [] ∧
    ((radio (gst 6 []) id).b.grp 3).failed1 = false ∧ ((radio (gst 6 []) (fun b => b.modGrp 3 (fun x => { x with failed1 := true }))).b.grp 3).failed1 = true := by
  decide
/-- RFC asked for groups 0 and 3. -/
def calAsk : State := radio [(cbARG cbRFC 0, 9)] id
theorem wit_cal : calAsk.b.Awake ∧ calAsk.b.takes cbRFC = true ∧ calAsk.b.ready = true ∧ bit (calAsk.b.arg cbRFC 0) 3 = true ∧
    (∀ g, g < 4 → bit (calAsk.b.arg cbRFC 0) g = true → calAsk.b.groupPresent g = true ∧ calAsk.b.rfs g ≠ RFS.CAL) := by
  refine ⟨⟨by decide, by decide⟩, by decide⟩
theorem wit_cal_cancel : ∀ g, g < 4 → bit ((radio [(cbARG cbRFC 0, 8), (Reg.RFC_CAL_PENDING 3, 1)] (fun b => b.modGrp 3 (fun x => { x with pendCmd := true }))).b.arg cbRFC 0) g = true →
    (radio [(cbARG cbRFC 0, 8), (Reg.RFC_CAL_PENDING 3, 1)] (fun b => b.modGrp 3 (fun x => { x with pendCmd := true }))).b.t (Reg.RFC_CAL_PENDING g) = true ∧
    ((radio [(cbARG cbRFC 0, 8), (Reg.RFC_CAL_PENDING 3, 1)] (fun b => b.modGrp 3 (fun x => { x with pendCmd := true }))).b.grp g).pendTemp = false ∧
    ((radio [(cbARG cbRFC 0, 8), (Reg.RFC_CAL_PENDING 3, 1)] (fun b => b.modGrp 3 (fun x => { x with pendCmd := true }))).b.grp g).pendCmd = true := by decide
theorem wit_read_cal : ((radio [(cbARG cbRFC 0, 3)] (fun b => b.modGrp 3 (fun x => { x with cal := some ⟨25, 1, 2, 3, 0, [-5], 0⟩ }))).b.grp 3).cal = some ⟨25, 1, 2, 3, 0, [-5], 0⟩ ∧
    (radio [(cbARG cbRFC 0, 3)] id).b.arg cbRFC 0 = 3 := by decide
/-- An acknowledgement of lane 5 in a phase. -/
def ackF (ph : TxPhase) : TxF := { src := .ack, lane := 5, chan := 2, kind := 0, t := 1000000, phase := ph, airUs := 500, len := 5 }
def onChain (ph : TxPhase) (l : List (Fld × Nat)) : State := radio l (fun b => b.txPut 7 (ackF ph))
theorem wit_coex : (onChain .air [(Reg.RFC_CX_EN 2, 1)]).b.tf 7 = some (ackF .air) ∧ (ackF .air).granted = true ∧ coexSet (ackF .air).chain = 2 ∧
    (onChain .air [(Reg.RFC_CX_EN 2, 1)]).b.t (Reg.RFC_CX_EN 2) = true ∧ (onChain .air [(Reg.RFC_CX_EN 2, 1)]).b.t (Reg.RFC_CX_ABORT_ON_LOSS 2) = false ∧
    (onChain .air [(Reg.RFC_CX_EN 2, 1)]).b.tx.frames.any (fun e => coexSet e.2.chain == 2 && e.2.phase == TxPhase.air) = true := by decide
theorem wit_taken_bad : (onChain .keyed []).b.working = true ∧ (onChain .keyed []).b.tf 7 = some (ackF .keyed) ∧
    (onChain .keyed []).b.headCheck 7 (ackF .keyed) = some BAD_ARG := by decide
theorem wit_turn : (onChain .taken (gst 4 [])).b.rfs 3 = RFS.RX ∧ (onChain .taken (gst 4 [])).b.tf 7 = some (ackF .taken) ∧ (ackF .taken).chain = 3 ∧
    (onChain .taken (gst 3 [])).b.rfs 3 = RFS.SYNTH ∧ (onChain .setup (gst 5 [])).b.rfs 3 = RFS.TX ∧ (onChain .setup (gst 5 [])).b.tf 7 = some (ackF .setup) ∧
    (onChain .air []).b.tf 7 = some (ackF .air) ∧ (onChain .air []).b.rfs 3 ≠ RFS.TX := by decide
theorem wit_carriers : (onChain .taken []).b.airNow 3 = 0 ∧
    kget (radio [] (fun b => { b with tx := { b.tx with tones := [(3, ⟨0, 0, 0, 0⟩)] } })).b.tx.tones 3 = some ⟨0, 0, 0, 0⟩ := by decide
/-- TXP with the arguments of a tone on chain 0 in test mode. -/
def toneAsk : State := radio [(cbARG cbTXP 3, 10000000), (Reg.TXP_TEST 0, 1)] id
theorem wit_tone : toneAsk.b.takes cbTXP = true ∧ toneAsk.b.Awake ∧ toneAsk.b.arg cbTXP 0 = 0 ∧ toneAsk.b.chainExists 0 = true ∧
    (toS (toneAsk.b.arg cbTXP 1) 32).natAbs ≤ chainRange 0 ∧ toneAsk.b.arg cbTXP 3 ≠ 0 ∧ toneAsk.b.arg cbTXP 3 ≤ 10000000 ∧
    toneAsk.b.t (Reg.TXP_TEST 0) = true ∧ toneAsk.b.t (Reg.TXP_TONE_ON 0) = false := by
  refine ⟨by decide, ⟨by decide, by decide⟩, by decide⟩
theorem wit_call_end : (chip (onChain .air []) (fun b => { b with tx := { b.tx with call := some 7 } })).b.tx.call = some 7 ∧
    (chip (onChain .air []) (fun b => { b with tx := { b.tx with call := some 7 } })).b.tf 7 = some (ackF .air) := by decide
/-- An acknowledgement that passes every check. -/
def good : State := radio [(Reg.TXP_TX_EN 3, 1)] (fun b => { b with pat := { b.pat with modesH := 0xFF, maxPsdu := 2047 }, tx := { b.tx with frames := [(7, ackF .keyed)] } })
theorem wit_taken : good.b.Quiet ∧ good.b.working = true ∧ good.b.tf 7 = some (ackF .keyed) ∧ good.b.headCheck 7 (ackF .keyed) = none ∧
    good.b.r (Reg.RFC_STATE 3) ≠ 2 ∧ good.b.r (Reg.RFC_STATE 3) ≠ 6 := by
  refine ⟨⟨rfl, rfl⟩, by decide⟩
/-- A beacon planned for the slot at 25 ms, of slots of 10 ms. -/
def beaconF : TxF := { src := .beacon 0, lane := 5, chan := 2, kind := 2, t := 25000000 }
def beaconing : State := radio [] (fun b => { b with pat := { b.pat with slotStitches := 40, sfExp := 4, modesH := 0xFF }, tx := { b.tx with frames := [(7, beaconF)] } })
theorem wit_beacon_key : beaconing.b.sealKey .beacon = (beaconing.b, .inr none) := rfl
theorem wit_beacon_fits : (beaconing.b.headOf beaconF (beaconing.b.beaconFrame (laneBand beaconF.lane) beaconF.t false) .beacon).endNs ≤
    beaconing.b.lastEnd (beaconing.b.headOf beaconF (beaconing.b.beaconFrame (laneBand beaconF.lane) beaconF.t false) .beacon) := by decide
/-- TXP asked for a wake call of 8 bits on lane 5. -/
def callAsk : State := radio [(cbARG cbTXP 0, 5), (cbARG cbTXP 1, 2), (cbARG cbTXP 2, 8), (cbARG cbTXP 5, 64), (Reg.TXP_TX_EN 3, 1)] id
theorem wit_wake_call : callAsk.b.takes cbTXP = true ∧ callAsk.b.chanOk 5 (callAsk.b.arg cbTXP 1) = true ∧ callAsk.b.rxOnly 5 (callAsk.b.arg cbTXP 1) = false ∧
    callAsk.b.canSend (laneGroup 5) = true ∧ callAsk.b.arg cbTXP 7 = 0 ∧
    callAsk.b.nowNs + 160000 ≤ (callAsk.b.tim.stitch + (if callAsk.b.nowNs % 250000 = 0 then 2 else 3)) * 250000 := by decide
theorem wit_cal_again : (radio (gst 6 []) id).b.rfs 3 ≠ RFS.LOCK ∧ (radio (gst 2 []) id).b.rfs 3 ≠ RFS.CAL := by decide
theorem wit_coex_none : (onChain .air []).b.tf 0 = none ∧ (ackF .keyed).phase ≠ .air ∧ (onChain .keyed []).b.t (Reg.RFC_CX_EN 2) = false := by decide
theorem wit_taken_ok : 3 ≤ (chip good (fun b => b.w (Reg.RFC_STATE 3) 3)).b.rfs 3 ∧ (chip good (fun b => b.w (Reg.RFC_STATE 3) 5)).b.rfs 3 ≤ 5 ∧
    (chip good (fun b => b.w (Reg.RFC_STATE 3) 3)).b.headCheck 7 (ackF .keyed) = none := by decide
def noChannel : State := chip beaconing (fun b => b.txPut 7 { beaconF with phase := .keyed, chan := 9999 })
theorem wit_taken_beacon : noChannel.b.tf 7 = some { beaconF with phase := .keyed, chan := 9999 } ∧ noChannel.b.working = true ∧
    noChannel.b.headCheck 7 { beaconF with phase := .keyed, chan := 9999 } = some BAD_ARG := by decide
theorem wit_turn_denied : (onChain .taken (gst 3 [(Reg.RFC_CX_EN 2, 1)])).b.t (Reg.RFC_CX_EN (coexSet 3)) = true ∧ (ackF .taken).item = none ∧
    (ackF .taken).src ≠ .call ∧ (onChain .taken (gst 3 [(Reg.RFC_CX_EN 2, 1)])).b.rfs 3 = RFS.SYNTH ∧ (onChain .taken (gst 5 [])).b.rfs 3 = RFS.TX ∧
    (ackF .setup).held = false ∧ (ackF .air).pendBit = false ∧ (onChain .taken []).b.groupPresent 3 = true ∧
    (onChain .taken []).b.t (Reg.RFC_MUTED 3) = false := by decide
theorem wit_carriers_busy : (onChain .air []).b.airNow 3 ≠ 0 ∧ kget (onChain .air []).b.tx.tones 3 = none ∧
    (0 : Nat) + 0 * 1000 ≤ (radio [] id).b.nowNs ∧ (radio [] id).b.nowNs < 0 + 1 * 1000 := by decide
theorem wit_call_none : (onChain .air []).b.tx.call = none ∧ (chip (onChain .keyed []) (fun b => { b with tx := { b.tx with call := some 7 } })).b.tf 7 = some (ackF .keyed) := by
  decide
theorem wit_ack_correction : (chip (onChain .setup []) (fun b => b.txPut 7 { ackF .setup with tc := some 3000 })).b.tf 7 = some { ackF .setup with tc := some 3000 } ∧
    (ackF .setup).src = TxSrc.ack ∧ (ackF .setup).held = false ∧ (ackF .setup).reach ≠ 1 ∧ (ackF .setup).tc = none := by decide

/-! ### The receive path -/

/-- Lane 5 in RX, enabled, with one demodulator context for Band H. -/
def rxing (l : List (Fld × Nat)) (f : Chip → Chip) : State :=
  radio ([(Reg.RFC_STATE 3, 4), (Reg.RXP_LANE_EN 5, 1), (Reg.RXP_DET_EN0 5, 0xFFFFFFFF)] ++ l)
    (fun b => f { b with pat := { b.pat with modesH := 1, demodH := 1, maxPsdu := 2047, queueCount := 8, sfExp := 4, slotStitches := 40 } })
def pre : Preamble := { lane := 5, chan := 2, modeBit := 0, power := -100, sfdNs := 300, overlaps := false }
def ctx0 : Ctx := { lane := 5, chan := 2, band := 2, modeBit := 0, cls := 2, power := -100, start := 0, stitch := 0, sfdNs := 300, gain := 11 }
theorem wit_detect : (rxing [] id).b.detects { pre with power := 200 } = true ∧ (rxing [] id).b.freeFor 2 = [(0, false)] ∧
    (rxing [] id).b.minFree 2 < 1 ∧ (rxing [] (fun b => b.putCtx 0 ctx0)).b.freeFor 2 = [] ∧ (rxing [] (fun b => b.putCtx 0 ctx0)).b.detects { pre with power := 200 } = true ∧
    (rxing [] (fun b => b.putCtx 0 ctx0)).b.detClass 5 2 300 ≠ 0 := by decide
theorem wit_gain : (rxing [] id).b.laneOn 5 = true ∧ -4 * ((rxing [] id).b.r (Reg.RXP_HEADROOM 5) : Int) < 0 ∧ (rxing [] id).b.r (Reg.RXP_GAIN_MIN 5) < (rxing [] id).b.gainTo 5 ∧
    (rxing [(Reg.RXP_GAIN 5, 3)] id).b.r (Reg.RXP_ACTIVE 5) = 0 ∧ (-400 : Int) < -4 * (((rxing [] id).b.r (Reg.RXP_HEADROOM 5) : Int) + 12) ∧
    (rxing [(Reg.RXP_GAIN 5, 3)] id).b.gainTo 5 < (rxing [(Reg.RXP_GAIN 5, 3)] id).b.r (Reg.RXP_GAIN_MAX 5) ∧
    kget (rxing [] (fun b => { b with rx := { b.rx with marks := [(5, 0)] } })).b.rx.marks 5 = some 0 := by decide
/-- Context 0 in flight, and queue 3 an AIR_RX queue with room. -/
def flying (x : Ctx) : State := rxing [(Reg.RXP_RX_QUEUE 5, 3)] (fun b => { b with rx := { b.rx with ctxs := [(0, x)] }, queues := [(3, { consumer := CONS_AIR, ct := 4 })] })
theorem wit_phr_bad : kget (flying ctx0).b.rx.ctxs 0 = some ctx0 ∧ ((flying ctx0).b.phrCheck ctx0 { ctx := 0, len := 128 }).isSome = true ∧
    ((flying ctx0).b.phrCheck ctx0 { ctx := 0, len := 2 }).isSome = true := by decide
theorem wit_ends : kget (flying { ctx0 with stage := .cancelling, low := 3 }).b.rx.ctxs 0 = some { ctx0 with stage := .cancelling, low := 3 } ∧
    (-400 : Int) < 4 * sinrMin 2 0 0 false ∧ kget (flying { ctx0 with item := some (3, 0) }).b.rx.ctxs 0 = some { ctx0 with item := some (3, 0) } ∧
    4 ≤ (readFrame [7, 0, 0]).ftype := by decide
theorem wit_lane : (rxing [] id).b.writable 0xA = true ∧ (rxing [] id).b.laneExists 5 = true := by decide
/-- Steering with eight reference values of two nodes. -/
def steer : State := rxing [(Reg.RXP_STEER_EN, 1)] (fun b => { b with rx := { b.rx with refs := [(1, 100), (2, 300), (1, 100), (2, 300), (1, 100), (2, 300), (1, 200), (2, 90000)] } })
theorem wit_steer : steer.b.t Reg.RXP_STEER_EN = true ∧ steer.b.r Reg.RXP_REF_MIN_FRAMES ≤ steer.b.rx.refs.length ∧
    steer.b.r Reg.RXP_REF_MIN_NODES ≤ (distinct (steer.b.rx.refs.map (·.1))).length ∧
    (steer.b.rx.refs.map (·.2)).filter (fun x => decide ((x - median (steer.b.rx.refs.map (·.2))).natAbs ≤ steer.b.r Reg.RXP_REF_REJECT)) ≠ [] := by decide
theorem wit_rx_read : (rxing [(cbARG cbRXP 0, 5), (cbARG cbRXP 1, 15)] id).b.takes cbRXP = true ∧ (rxing [] id).b.Awake ∧
    (rxing [(cbARG cbRXP 0, 5), (cbARG cbRXP 1, 15)] id).b.chanOk 5 15 = true ∧ (flying { ctx0 with stage := .stream }).b.arg cbRXP 0 = 0 ∧
    (flying { ctx0 with stage := .stream }).b.takes cbRXP = true := by refine ⟨by decide, ⟨by decide, by decide⟩, by decide⟩
theorem wit_detect_off : (rxing [(Reg.RXP_DET_EN0 5, 0)] id).b.detects { pre with power := 200 } = false ∧ pre.other = none := by decide
theorem wit_gain_bounds : (rxing [(Reg.RXP_GAIN 5, 0)] id).b.gainTo 5 ≤ (rxing [(Reg.RXP_GAIN 5, 0)] id).b.r (Reg.RXP_GAIN_MIN 5) ∧
    (rxing [(Reg.RXP_GAIN 5, 11)] id).b.r (Reg.RXP_GAIN_MAX 5) ≤ (rxing [(Reg.RXP_GAIN 5, 11)] id).b.gainTo 5 ∧
    (rxing [(Reg.RXP_ACTIVE 5, 1)] id).b.r (Reg.RXP_ACTIVE 5) ≠ 0 ∧ (rxing [(Reg.RXP_LANE_EN 5, 0)] id).b.laneOn 5 = false ∧
    kget (rxing [] id).b.rx.marks 5 = none ∧ (rxing [] id).b.rawCap = [] := by decide
/-- A reception whose settings stand as its lane's were at its start, with room in its queue. -/
def judged : State := rxing [(Reg.RXP_RX_QUEUE 5, 3)] (fun b =>
  { b with rx := { b.rx with ctxs := [(0, { ctx0 with set := (rxSettings 5).map b.r })] }, queues := [(3, { consumer := CONS_AIR, ct := 400 })] })
def ctxSet : Ctx := { ctx0 with set := (rxSettings 5).map judged.b.r }
theorem wit_phr_good : kget judged.b.rx.ctxs 0 = some ctxSet ∧ ctxSet.item = none ∧ (judged.b.setAll (rxSettings 5) ctxSet.set).phrCheck ctxSet { ctx := 0, len := 127 } = none ∧
    (judged.b.setAll (rxSettings 5) ctxSet.set).r (Reg.RXP_RX_QUEUE 5) = 3 ∧ (judged.b.q 3).consumer = CONS_AIR ∧ judged.b.pwr.restoring = false ∧
    ((judged.b.setAll (rxSettings 5) ctxSet.set).openItem 3 191 (rxPrio 2) noNode false).code = OK ∧ kget judged.b.rx.ctxs 1 = none := by decide +kernel
theorem wit_sinr : ctx0.stage ≠ .cancelling ∧ 4 * sinrMin 2 0 0 false ≤ (400 : Int) ∧ ({ ctx0 with stage := .cancelling, low := 2 } : Ctx).low < 3 ∧
    ({ ctx0 with codeOk := false } : Ctx).codeOk = false ∧ ctx0.codeOk = true ∧ (flying ctx0).b.Quiet := ⟨by decide, by decide, by decide, rfl, rfl, ⟨rfl, rfl⟩⟩
theorem wit_steer_few : (rxing [] id).b.t Reg.RXP_STEER_EN = false ∧ (rxing [(Reg.RXP_STEER_EN, 1)] id).b.rx.refs.length < steer.b.r Reg.RXP_REF_MIN_FRAMES := by decide
theorem wit_rx_read_bad : (rxing [(cbARG cbRXP 0, 256)] id).b.chanOk 256 0 = false ∧ 255 < (rxing [(cbARG cbRXP 0, 256)] id).b.arg cbRXP 0 ∧
    kget (rxing [(cbARG cbRXP 0, 255)] id).b.rx.ctxs 255 = none := by decide

/-! ### The mesh schedule and the nodes -/

/-- A node context with fields written. -/
def nodeOf (l : List (CxF × Nat)) : Nat := l.foldl (fun c e => cxPut c e.1 e.2) 0
def meshPat (p : Pat) : Pat :=
  { p with modesH := 0xFF, slotStitches := 40, sfExp := 4, weaveCells := 10240, nodeCount := 4, ctxCache := 2, queueCount := 8, roleCfg := 1, exmEntries := 1024 }
/-- READY with a Weave of 16 rows and 640 columns, four nodes and eight queues. -/
def mesh (l : List (Fld × Nat)) (f : Chip → Chip) : State :=
  radio l (fun b => f { b with pat := meshPat b.pat })
/-- Node 1 of Band H with fields of its context. -/
def node1 (l : List (CxF × Nat)) (b : Chip) : Chip := b.putNode 1 (nodeOf ((Cx.BAND, 2) :: (Cx.MODE_MASK, 1) :: (Cx.DL_QUEUE, 3) :: l))
/-- A cell of node 1, ASSIGNED UP, as the device's own. -/
def cell1 : Nat := mkCell 1 T.ASSIGNED false 5 0
def weaveAsk (l : List Nat) : State := mesh ((List.range l.length).map (fun i => (cbARG cbSCH i, l.getD i 0)))
  (fun b => node1 [(Cx.STATE, 3), (Cx.PARENT, parentDev)] (b.setCell 640 cell1))
theorem wit_sch : (weaveAsk [640, cell1]).b.Awake ∧ (weaveAsk [640, cell1]).b.takes cbSCH = true ∧ (weaveAsk [640, cell1]).b.isStandby = false ∧
    (weaveAsk [640, cell1]).b.gap = false ∧ (weaveAsk [640, cell1]).b.arg cbSCH 0 < (weaveAsk [640, cell1]).b.pat.weaveCells ∧
    (weaveAsk [1]).b.arg cbSCH 0 < (weaveAsk [1]).b.pat.nodeCount ∧ (weaveAsk [640, cell1]).b.pat.roleCfg ≠ 0 := by
  refine ⟨⟨by decide +kernel, by decide +kernel⟩, by decide +kernel⟩
/-- Row 2, column 608: lane 5, channel 0. -/
theorem wit_write_cell : (weaveAsk [1888, cell1]).b.colOf 1888 = 608 ∧ (weaveAsk [1888, cell1]).b.colOk 608 = true ∧
    (weaveAsk [1888, cell1]).b.cellValid 608 cell1 = true ∧ (weaveAsk [1888, cell1]).b.cell 1888 = freeCell ∧
    (weaveAsk [1888, cell1]).b.ownerCheck (cOwner cell1) = none ∧ (weaveAsk [1888, cell1]).b.mayPlace 2 608 cell1 = true := by decide +kernel
theorem wit_pair_set : (weaveAsk [1, 608]).b.colOk 608 = true ∧ (weaveAsk [1, 608]).b.rxOnly 5 0 = false ∧ bit ((weaveAsk [1, 608]).b.arg cbSCH 0) 0 = true ∧
    (mesh [] id).b.sch.cells = [] := by decide +kernel
def allocAsk : State := weaveAsk [1, 3, 1, 8, 0, 0, 608]
theorem wit_alloc : allocAsk.b.ownerCheck 1 = none ∧ allocAsk.b.devEnd 1 3 = true ∧ allocAsk.b.cellValid 0 (mkCell 1 3 false 0 0) = true ∧
    allocAsk.b.fitAt 0 1 8 (fun c => mkCell 1 3 false (colLane c) 0) [608] 8 = some (0, 608) ∧ allocAsk.b.permitted 0 0 608 = [608] := by decide +kernel
theorem wit_alloc_none : (weaveAsk [1, 3, 1, 1, 0, 1, 608]).b.fitAt 1 1 1 (fun c => mkCell 1 3 false (colLane c) 0) [608] 1 = none := by decide +kernel
/-- MAC asked about node 1 in a state. -/
def macAsk (stt : Nat) (l : List Nat) (l2 : List (CxF × Nat)) : State :=
  mesh ((List.range l.length).map (fun i => (cbARG cbMAC i, l.getD i 0))) (fun b => node1 ((Cx.STATE, stt) :: l2) b)
theorem wit_mac : (macAsk 3 [1] []).b.Awake ∧ (macAsk 3 [1] []).b.takes cbMAC = true ∧ 1 = (macAsk 3 [1] []).b.arg cbMAC 0 ∧
    1 < (macAsk 3 [1] []).b.pat.nodeCount ∧ (macAsk 3 [1] []).b.isStandby = false ∧ (macAsk 3 [1] []).b.gap = false ∧ (macAsk 3 [1] []).b.ns 1 = 3 ∧
    (macAsk 6 [1] [(Cx.JOINED, 1)]).b.nd 1 Cx.JOINED = 1 ∧ (macAsk 6 [1] [(Cx.JOINED, 1)]).b.ns 1 = NS.SUSPENDED ∧ (macAsk 7 [1] []).b.ns 1 = NS.RETIRED ∧
    (macAsk 3 [1] []).b.linked 1 = true := by
  refine ⟨⟨by decide +kernel, by decide +kernel⟩, by decide +kernel⟩
/-- An ADMIT of node 2 at Band H with install pocket 9. -/
def admitAsk : State := chip (mesh [(cbARG cbMAC 0, 2), (cbARG cbMAC 1, 0x11), (cbARG cbMAC 3, 0xFFFE), (cbARG cbMAC 4, 0x200), (cbARG cbMAC 5, 0x10009),
    (cbARG cbMAC 6, 1)] id) (fun b => { b with key := { b.key with pockets := [(9, { state := PS.ACTIVE, typ := 1, usage := 1, parent := 0xFFFF, epoch := 1, key := some (.raw []) })] } })
theorem wit_admit : cx admitAsk.b.admitCtx Cx.BAND = 2 ∧ reachOk admitAsk.b.admitCtx = true ∧ cx admitAsk.b.admitCtx Cx.KEY_INDEX = 1 ∧
    admitAsk.b.modeMaskOk 2 (cx admitAsk.b.admitCtx Cx.MODE_MASK) = true ∧ admitAsk.b.ns 2 = NS.EMPTY ∧ cx admitAsk.b.admitCtx Cx.SHORT_ADDR = 0xFFFE := by decide +kernel
theorem wit_admit_key : admitAsk.b.pocketKey (cx admitAsk.b.admitCtx Cx.INSTALL_POCKET) 1 0 = .inr (.raw []) := by decide +kernel
def admitX : Chip := (admitAsk.b.cmdAccept cbMAC true).touch 0 (1 + 256 * cx admitAsk.b.admitCtx Cx.EUI64)
theorem wit_admit_new : admitX.namesOther 1 (cx admitAsk.b.admitCtx Cx.EUI64) 2 = false := by decide +kernel
theorem wit_admit_entry : (admitX.nodeName 1 (cx admitAsk.b.admitCtx Cx.EUI64) 2).2 = OK := by decide +kernel
theorem wit_write_ctx : (macAsk 3 [1, 240, 1, 77] []).b.arg cbMAC 1 % 4 = 0 ∧ (macAsk 3 [1, 240, 1, 77] []).b.arg cbMAC 2 = 1 ∧
    (macAsk 3 [1, 240, 1, 77] []).b.writeOk 1 1920 1952 (putBits ((macAsk 3 [1, 240, 1, 77] []).b.node 1) 1920 32 77) = true := by decide +kernel
/-- Node 1's short address 0x55 stands in the node table. -/
def findAsk : State := chip (macAsk 3 [1, 0x55] []) (fun b => (b.nodeEntry 2 0x55 1).1)
theorem wit_find : (findAsk.b.findEnt 0 (2 + 256 * bits (findAsk.b.arg cbMAC 1) 0 16)).map (fun x => eNode 0 x.2) = some 1 ∧ findAsk.b.ns 1 ≠ NS.EMPTY ∧
    findAsk.b.arg cbMAC 0 ≤ 1 := by decide +kernel
theorem wit_fetch : 1 < (macAsk 3 [] []).b.pat.nodeCount ∧ (macAsk 3 [] []).b.working = true ∧ 1 ∉ (macAsk 3 [] []).b.mac.cache ∧
    1 ∈ (chip (macAsk 3 [] []) (fun b => b.cacheFetch 1)).b.mac.cache := by decide +kernel
def waiting (l : List (CxF × Nat)) : State := chip (macAsk 3 [] l) (fun b => { b with mac := { b.mac with waits := [(1, { q := 3, item := 0, seq := 0, src := .follow, lo := 0, hi := 9 })] } })
theorem wit_ack_wait : (kget (waiting []).b.mac.waits 1).isSome = true ∧ (waiting [(Cx.MAX_RETRIES, 2)]).b.nd 1 Cx.RETRY_NOW < (waiting [(Cx.MAX_RETRIES, 2)]).b.nd 1 Cx.MAX_RETRIES ∧
    (waiting []).b.nd 1 Cx.MAX_RETRIES ≤ (waiting []).b.nd 1 Cx.RETRY_NOW := by decide +kernel
def backing (nb : Nat) (its : List Item) : State := chip (macAsk 3 [] []) (fun b => { b with
  queues := [(3, { consumer := CONS_NODE, ct := 4, items := its })], mac := { b.mac with csma := [(1, { lane := 5, chan := 0, q := 3, nb := nb, be := 3 })] } })
def item1 : Item := { id := 1, size := 40, data := List.replicate 16 0 ++ [1, 0, 0], closed := true, node := 1 }
theorem wit_csma : kget (backing 0 []).b.mac.csma 1 = some { lane := 5, chan := 0, q := 3, be := 3 } ∧ (backing 0 []).b.headItem 1 = none ∧
    (backing 0 [item1]).b.headItem 1 = some item1 ∧ (backing 0 [item1]).b.mayFollow 1 = true ∧ kget (backing 0 [item1]).b.mac.waits 1 = none ∧
    0 + 1 ≤ (backing 0 [item1]).b.r Reg.MAC_MAX_BACKOFFS ∧ (backing 0 [item1]).b.r Reg.MAC_MAX_BACKOFFS < 15 + 1 := by decide +kernel
theorem wit_weave_end : (weaveAsk [10240]).b.pat.weaveCells ≤ (weaveAsk [10240]).b.arg cbSCH 0 ∧ (weaveAsk [10239]).b.arg cbSCH 0 < (weaveAsk [10239]).b.pat.weaveCells ∧
    (weaveAsk [nodeNone]).b.arg cbSCH 0 = nodeNone ∧ bit ((weaveAsk [0]).b.arg cbSCH 0) 0 = false := by decide +kernel
theorem wit_write_over : (macAsk 3 [1, 240, 1, 77] []).b.writeOver 1920 1952 (putBits ((macAsk 3 [1, 240, 1, 77] []).b.node 1) 1920 32 77) = false ∧
    (macAsk 3 [1, 240, 1, 77] []).b.isStandby = false ∧ (macAsk 3 [1, 240, 1, 77] []).b.gap = false := by decide +kernel
theorem wit_node_states : (macAsk 6 [1] []).b.nd 1 Cx.JOINED = 0 ∧ (macAsk 6 [1] [(Cx.JOINED, 1)]).b.nd 1 Cx.FALLBACK = 0 ∧ (macAsk 5 [1] []).b.ns 1 = 5 ∧
    (macAsk 1 [1] []).b.ns 1 = 1 ∧ (macAsk 3 [0] []).b.ns 0 = NS.EMPTY ∧ (macAsk 3 [1, 0x56] []).b.findEnt 0 (2 + 256 * 0x56) = none := by decide +kernel
theorem wit_ladder : (macAsk 3 [1] []).b.ladder ((macAsk 3 [1] []).b.node 1) ≠ [] := by decide +kernel
/-- Two entries fill the context cache; neither has work. -/
theorem wit_fetch_evicts : (chip (macAsk 3 [] []) (fun b => { b with mac := { b.mac with cache := [0, 2] } })).b.mac.cache.length = 2 ∧
    ((chip (macAsk 3 [] []) (fun b => { b with mac := { b.mac with cache := [0, 2] } })).b.mac.cache.reverse.find?
      (chip (macAsk 3 [] []) (fun b => { b with mac := { b.mac with cache := [0, 2] } })).b.evictable).isSome = true := by decide +kernel
theorem wit_retry_none : kget (macAsk 3 [] []).b.mac.waits 1 = none ∧ kget (macAsk 3 [] []).b.mac.csma 1 = none := by decide +kernel

/-! ### Counters and keys -/

/-- An AES-128 pocket in a state. -/
def pk (stt : Nat) : Pocket := { state := stt, typ := 1, usage := 1, parent := 0xFFFF, epoch := 1, key := none }
/-- A group master of epoch 2. -/
def master2 : Pocket := { state := PS.ACTIVE, typ := 2, usage := 2, parent := 0xFFFF, epoch := 2, key := some (.raw [7]) }
def secAsk (l : List Nat) : State := mesh ((List.range l.length).map (fun i => (cbARG cbSEC i, l.getD i 0)))
  (fun b => node1 [(Cx.STATE, 3), (Cx.KEY_EPOCH, 1)] ({ b with sec := { b.sec with ceil := [(1, ⟨1, 8192⟩)], live := [(1, ⟨4096, 4096, [8192]⟩)], map := [(3, ⟨true, 1, 9, 5, 0⟩)] } }))
def keyAsk (l : List Nat) (ps : KV Pocket) : State := mesh ((List.range l.length).map (fun i => (cbARG cbKEY i, l.getD i 0)))
  (fun b => node1 [(Cx.STATE, 3), (Cx.KEY_EPOCH, 1)] ({ b with key := { b.key with pockets := ps, cache := [{ node := 1, epoch := 2, key := .raw [1], master := 8 }] } }))
theorem wit_sec : (secAsk [1]).b.takes cbSEC = true ∧ (secAsk [1]).b.arg cbSEC 0 = 1 ∧ (secAsk [1]).b.cidOk 1 = true ∧
    kget (secAsk [1]).b.sec.ceil 1 = some ⟨1, 8192⟩ ∧ (secAsk [3]).b.arg cbSEC 0 ≤ 31 ∧ kget (secAsk [3]).b.sec.map 3 = some ⟨true, 1, 9, 5, 0⟩ ∧
    kget (secAsk [0]).b.sec.map 0 = none ∧ (secAsk [1]).b.isStandby = false ∧ (secAsk [1]).b.gap = false := by decide +kernel
/-- MAP_WRITE of entry 31: mode 2, index 4, pocket 7, source 55. -/
theorem wit_map_write : bits ((secAsk [31, 0x80070402, 55, 0]).b.arg cbSEC 1) 0 2 = 2 ∧ bits ((secAsk [31, 0x80070402, 55, 0]).b.arg cbSEC 1) 8 8 = 4 ∧
    (∀ x ∈ (secAsk [31, 0x80070402, 55, 0]).b.sec.map, x.1 ≠ 31 → x.2.valid = true → ¬ (x.2.mode = 2 ∧ x.2.source = 55 ∧ x.2.index = 4)) := by decide +kernel
theorem wit_skip : (secAsk [1]).b.Quiet ∧ ((((secAsk [1]).b.cmdAccept cbSEC true).named 1).advance 1 ((secAsk [1]).b.cidEpoch 1) true).2 = .block 8192 :=
  ⟨⟨rfl, rfl⟩, by decide +kernel⟩
theorem wit_key : (keyAsk [9] []).b.takes cbKEY = true ∧ (keyAsk [9] []).b.arg cbKEY 0 = 9 ∧ (keyAsk [9] []).b.isStandby = false ∧ (keyAsk [9] []).b.gap = false ∧
    (keyAsk [9] []).b.pocket 9 = none ∧ (keyAsk [4095] [(4095, pk 1)]).b.pocket 4095 = some (pk 1) := by decide +kernel
theorem wit_load : bits ((keyAsk [9, 0x10001, 0xFFFFFFFF, 5] []).b.arg cbKEY 1) 0 4 = 1 ∧ bits ((keyAsk [9, 0x10001, 0xFFFFFFFF, 5] []).b.arg cbKEY 1) 16 16 = 1 ∧
    bits ((keyAsk [9, 0x10001, 0xFFFFFFFF, 5] []).b.arg cbKEY 2) 16 16 = 0xFFFF ∧ andNot 1 (usageMask 1) = 0 ∧
    keyInRange 1 ((keyAsk [9, 0x10001, 0xFFFFFFFF, 5] []).b.argKey 16) = true := by decide +kernel
theorem wit_verify : (pk 1).state = PS.BASTED ∧ (pk 1).kcv = (keyAsk [9] [(9, pk 1)]).b.arg cbKEY 1 + (keyAsk [9] [(9, pk 1)]).b.arg cbKEY 2 * 2 ^ 32 ∧
    (pk 1).kcv ≠ (keyAsk [9, 1] [(9, pk 1)]).b.arg cbKEY 1 + (keyAsk [9, 1] [(9, pk 1)]).b.arg cbKEY 2 * 2 ^ 32 := by decide +kernel
theorem wit_promote : (keyAsk [9] [(9, { pk 1 with verified := true })]).b.pocket 9 = some { pk 1 with verified := true } ∧ (pk 1).partner = 0xFFFF ∧
    9 ∉ (keyAsk [9] []).b.key.waiting ∧ bit (pk 1).usage 1 = false ∧ (pk 1).promoting = false := by decide +kernel
/-- Pocket 10 under pocket 9, and pocket 11 beside them. -/
def family : KV Pocket := [(9, pk 2), (10, { pk 2 with parent := 9 }), (11, pk 2)]
theorem wit_invalidate : (keyAsk [9] family).b.pocket 9 = some (pk 2) ∧ (pk 2).state ≠ PS.ORPHANED ∧ (keyAsk [9] family).b.key.orphanDue = false ∧
    chainMeets family [9] 10 4096 = true ∧ chainMeets family [9] 11 4096 = false ∧ (∀ e ∈ family, e.1 = 11 → e.2.state ≠ PS.BASTED) := by decide +kernel
theorem wit_zeroise : (chip (keyAsk [] [(9, { pk 3 with key := some (.raw [1]) })]) (fun b => { b with key := { b.key with orphanDue := true } })).b.key.orphanDue = true := by
  decide +kernel
theorem wit_retire : (keyAsk [] [(9, pk 4)]).b.pocket 9 = some (pk 4) ∧ (pk 4).state = PS.RETIRED ∧
    retireReached (keyAsk [] [(9, pk 4)]).b.stitch32 (pk 4).retireAt = true ∧
    (∀ e ∈ (keyAsk [] [(9, pk 4)]).b.key.pockets, ¬ (e.2.parent = (pk 4).partner ∧ e.2.parentEpoch = (pk 4).epoch)) := by decide +kernel
theorem wit_node_epoch : (keyAsk [2] [(8, master2)]).b.r Reg.KEY_NODE_EPOCH < (keyAsk [2] [(8, master2)]).b.arg cbKEY 0 ∧
    (keyAsk [2] [(8, master2)]).b.master 2 false = some (8, master2) ∧ (keyAsk [1, 2] [(8, master2)]).b.ns 1 ≠ NS.EMPTY := by decide +kernel
/-- REKEY_NODE of node 1 to epoch 2, with queue 3 for its downlink. -/
def rekeyAsk : State := chip (keyAsk [1, 5] [(8, master2)]) (fun b => { b.w Reg.KEY_NODE_EPOCH 2 with queues := [(3, { consumer := CONS_NODE, ct := 4 })] })
def rekeyLink : Chip := ((rekeyAsk.b.cmdAccept cbKEY true).linkKey 1 2).1
theorem wit_rekey : rekeyAsk.b.linked 1 = true ∧ rekeyAsk.b.nd 1 Cx.KEY_EPOCH < 2 ∧ kget rekeyAsk.b.key.rekeys 1 = none ∧ 5 ≠ rekeyAsk.b.r Reg.MAC_KEY_INDEX_JOIN ∧
    ((rekeyAsk.b.cmdAccept cbKEY true).linkKey 1 2).2 = .inr (.raw [1]) := by decide +kernel
theorem wit_rekey_push : (rekeyLink.dlPush 1 (rekeyLink.nodeFrame 1 (rekeyLink.joinResp 1 2 5 (.raw [1])) []) 7 true).code = OK := by decide +kernel
/-- Counter 1 with no block ahead, at a ceiling. -/
def ceiled (c : Nat) : Chip := Chip.cmdAccept { (secAsk [1]).b with sec := { (secAsk [1]).b.sec with ceil := [(1, ⟨1, c⟩)], live := [(1, ⟨4096, 4096, []⟩)] } } cbSEC true
def isFailed : Resv → Bool
  | .failed => true
  | _ => false
def isExhausted : Resv → Bool
  | .exhausted => true
  | _ => false
theorem wit_sec_advance : isExhausted ((ceiled (2 ^ 32)).advance 1 1 true).2 = true ∧ isFailed ((ceiled 8192).advance 1 1 false).2 = true := by decide +kernel
/-- KEY_LOAD from the generator, with a counter of an older epoch. -/
theorem wit_load_made : bits ((keyAsk [9, 0x10021, 0xFFFFFFFF, 5] []).b.arg cbKEY 1) 4 2 = 2 ∧ bits ((keyAsk [9, 0x10021, 0xFFFFFFFF, 5] []).b.arg cbKEY 1) 0 4 = 1 ∧
    bits ((keyAsk [9, 0x10021, 0xFFFFFFFF, 5] []).b.arg cbKEY 2) 0 16 = 0xFFFF ∧
    (∀ c, kget (chip (keyAsk [9, 0x10021, 0xFFFFFFFF, 5] []) (fun b => { b with sec := { b.sec with ceil := [(131081, ⟨4, 4096⟩)] } })).b.sec.ceil (131072 + 9) = some c →
      c.epoch < (keyAsk [9, 0x10021, 0xFFFFFFFF, 5] []).b.arg cbKEY 3) := by
  refine ⟨by decide +kernel, by decide +kernel, by decide +kernel, fun c h => ?_⟩
  obtain rfl := Option.some.inj h
  decide +kernel
/-- A third master's PROMOTE beside two of other epochs. -/
def thirdMaster : State := keyAsk [9] [(9, { master2 with state := PS.BASTED, verified := true, epoch := 7 }), (10, master2), (11, { master2 with epoch := 3 })]
theorem wit_promote_master : thirdMaster.b.pocket 9 = some { master2 with state := PS.BASTED, verified := true, epoch := 7 } ∧
    (thirdMaster.b.key.pockets.filter (fun e => bit e.2.usage 1 && (e.2.state == 2 || thirdMaster.b.key.waiting.contains e.1))).length < 4 ∧
    (∀ e ∈ thirdMaster.b.key.pockets.filter (fun e => bit e.2.usage 1 && (e.2.state == 2 || thirdMaster.b.key.waiting.contains e.1)), e.2.epoch ≠ 7) := by decide +kernel
theorem wit_erase_orphan : (keyAsk [4095] [(4095, pk 3)]).b.pocket 4095 = some (pk 3) ∧ (pk 3).state = PS.ORPHANED ∧ (pk 3).key = none := by decide +kernel
theorem wit_retire_not : (keyAsk [] [(9, pk 2)]).b.pocket 9 = some (pk 2) ∧ (pk 2).state ≠ PS.RETIRED ∧ (keyAsk [] []).b.key.orphanDue = false := by decide +kernel

/-! Known answers of the algorithms that the rules name: FIPS 197, RFC 4493, RFC 3394 and FIPS 180-4; and R363's own example. -/
theorem test_link_key_input : kdfInput 1 (ascii "ONW-LINK") (linkContext 0x026B19F0001267A4 3) 128 =
    [0, 0, 0, 1, 0x4F, 0x4E, 0x57, 0x2D, 0x4C, 0x49, 0x4E, 0x4B, 0, 0x02, 0x6B, 0x19, 0xF0, 0, 0x12, 0x67, 0xA4, 0, 0, 0, 3, 0, 0, 0, 0x80] := by
  decide +kernel
theorem test_aes_256 : beNat (aes (List.range 32) ((List.range 16).map (17 * ·))) = 0x8ea2b7ca516745bfeafc49904b496089 := by decide +kernel
theorem test_cmac : beNat (cmac (beBytes 0x2b7e151628aed2a6abf7158809cf4f3c 16) (beBytes 0x6bc1bee22e409f96e93d7e117393172a 16)) =
    0x070a16b46b4d4144f79bdd9dd04a287c := by decide +kernel
theorem test_key_wrap : beNat (kwWrap (List.range 16) ((List.range 16).map (17 * ·))) = 0x1fa68b0a8112b447aef34bd8fb5a7b829d3e862371d2cfe5 := by
  decide +kernel
theorem test_sha256 : beNat (sha256 [0x61, 0x62, 0x63]) = 0xba7816bf8f01cfea414140de5dae2223b00361a396177a9cb410ff61f20015ad := by
  decide +kernel

/-! ### Forwarding -/

/-- An exact-match entry of the address 5 that is LEARNED from port 0, and the same with HIT. -/
def learned5 : Nat := 4 + 32 + addrKey 5 * 2 ^ 128
def fwdAsk (l : List Nat) (f : Chip → Chip) : State := mesh ((List.range l.length).map (fun i => (cbARG cbFWD i, l.getD i 0))) f
def withEnt (e : Nat) (b : Chip) : Chip := (b.insert 0 e false).1
/-- The entry of ARG2 to ARG9. -/
def entArgs (i e : Nat) : List Nat := [0, i] ++ entWords e
theorem wit_fwd : (fwdAsk [0, 7] id).b.takes cbFWD = true ∧ (fwdAsk [0, 7] id).b.argTab = some 0 ∧ ((fwdAsk [0, 7] id).b.tab 0).bad = [] ∧
    (fwdAsk [0, 7] id).b.arg cbFWD 1 < (fwdAsk [0, 7] id).b.tabSize 0 + 16 ∧ eValid 0 (fwdAsk [0, 7] id).b.argEnt = false ∧
    (chip (fwdAsk [1, 7] id) (fun b => { b with pat := { b.pat with lpmPrefixes := 64 } })).b.argTab = some 1 := by decide +kernel
/-- An entry for the stash's last index. -/
theorem wit_fwd_write : eValid 0 (fwdAsk (entArgs 1039 learned5) id).b.argEnt = true ∧ (fwdAsk (entArgs 1039 learned5) id).b.entOk 0 learned5 = true ∧
    (fwdAsk (entArgs 1039 learned5) id).b.argEnt = learned5 ∧ (fwdAsk (entArgs 1039 learned5) id).b.tabSize 0 ≤ 1039 ∧
    (fwdAsk (entArgs 1039 learned5) id).b.findEnt 0 (eKey 0 learned5) = none := by decide +kernel
theorem wit_fwd_insert : (let b := (fwdAsk (entArgs 0 learned5) id).b
    ((b.freeSlot 0 (b.tab 0).ents (b.cands 0 (b.r (tgtFld 0)) (eKey 0 learned5)).1).or
      (b.freeSlot 0 (b.tab 0).ents (b.cands 0 (b.r (tgtFld 0)) (eKey 0 learned5)).2)).isSome) = true := by decide +kernel
theorem wit_fwd_key : (let b := (fwdAsk (entArgs 0 learned5) (withEnt learned5)).b
    (b.argKey' 0 == some (eKey 0 learned5) && (b.findEnt 0 (eKey 0 learned5)).any (fun p => !eStatic p.2 && !eHit p.2) && !bit (b.arg cbFWD 1) 0)) = true := by
  decide +kernel
theorem wit_fwd_hit : (let b := (fwdAsk (entArgs 0 learned5) (withEnt (learned5 + 16))).b
    (b.findEnt 0 (eKey 0 learned5)).any (fun p => !eStatic p.2 && eHit p.2)) = true := by decide +kernel
theorem wit_rehash : (fwdAsk [0] id).b.t (rhFld 0) = false ∧ (fwdAsk [0, 0, 1] (fun b => b.wb (rhFld 0) true)).b.t (rhFld 0) = true ∧
    (fwdAsk [0, 0, 1] id).b.arg cbFWD 2 = 1 ∧ (fwdAsk [0] id).b.r (leftFld 0) = 0 := by decide +kernel
def req5 : LearnReq := { src := 5, port := 0, mac := 9, vid := 1, tagged := false }
def learning (lim : Nat) (f : Chip → Chip) : State := mesh [(Reg.FWD_LEARN_LIMIT, lim)] (fun b => { f b with fwd := { (f b).fwd with learn := [req5] } })
theorem wit_learn : (learning 4 id).b.fwd.learn = [req5] ∧ (learning 0 id).b.findEnt 0 (256 * addrKey req5.src) = none ∧
    (learning 0 id).b.r Reg.FWD_LEARN_LIMIT ≤ (learning 0 id).b.r Reg.FWD_LEARNED_USED := by decide +kernel
theorem wit_learn_change : ((learning 4 (withEnt learned5)).b.findEnt 0 (256 * addrKey req5.src)).any
    (fun p => !eStatic p.2 && eLearned p.2 && ePort 0 p.2 == req5.port) = true := by decide +kernel
theorem wit_learn_install : (match ((learning 4 id).b.insert 0 ((learning 4 id).b.learnEnt req5) false).2 with
    | .placed _ _ => true
    | .refused _ => false) = true := by decide +kernel
/-- A queue that does not exist. -/
def over5 : Nat := putBits learned5 32 13 8191
theorem wit_fwd_over : (fwdAsk (entArgs 3 over5) id).b.entOver 0 (fwdAsk (entArgs 3 over5) id).b.argEnt = true ∧
    eValid 0 (fwdAsk (entArgs 3 over5) id).b.argEnt = true ∧ 3 < (fwdAsk (entArgs 3 over5) id).b.tabSize 0 + 16 := by decide +kernel
/-- LEARN of the address 5 on another port than its entry's. -/
def moving (hold : Nat) (e : Nat) : State :=
  chip (learning 4 (withEnt e)) (fun b => { b.w Reg.FWD_MOVE_HOLD hold with fwd := { b.fwd with learn := [{ req5 with port := 1 }] } })
theorem wit_learn_moves : (moving 9 learned5).b.fwd.learn = [{ req5 with port := 1 }] ∧
    ((moving 9 learned5).b.findEnt 0 (256 * addrKey 5)).any (fun p => !eStatic p.2 && eLearned p.2 && ePort 0 p.2 != 1 &&
      decide (((moving 9 learned5).b.stitch32 + (2 ^ 32 - eMove p.2)) % 2 ^ 32 < (moving 9 learned5).b.r Reg.FWD_MOVE_HOLD)) = true ∧
    (moving 0 learned5).b.r Reg.FWD_MOVE_HOLD = 0 ∧
    ((moving 9 (learned5 - 32)).b.findEnt 0 (256 * addrKey 5)).any (fun p => eStatic p.2 || !eLearned p.2) = true := by decide +kernel
theorem wit_learn_none : (fwdAsk [] id).b.fwd.learn = [] ∧ (learning 4 id).b.r Reg.FWD_LEARNED_USED < (learning 4 id).b.r Reg.FWD_LEARN_LIMIT := by decide +kernel

/-! ### Queues and the scheduler -/

/-- Queue 3 with settings and items, one more queue 4 on the scheduler of port 0. -/
def qs (l : List (Fld × Nat)) (x : Queue) (f : Chip → Chip) : State :=
  mesh l (fun b => f { b with nextItem := 50, queues := [(3, x)], pat := { b.pat with spillMib := 1, queueGroups := 2, sched := [{ id := 0, parent := 0xFFFF, port := 0, level := 0 }], qParent := [0xFFFF, 0xFFFF, 0xFFFF, 0xFFFF, 0] } })
def itemT : Item := { item1 with taken := true }
def itemO : Item := { item1 with closed := false, data := [1, 2] }
theorem wit_open : 3 < (qs [] { consumer := CONS_HOST } id).b.pat.queueCount ∧ ((qs [] { consumer := CONS_HOST } id).b.q 3).judge 64 = none ∧
    ((qs [] { consumer := CONS_HOST } id).b.q 3).judge 0 = some BAD_LENGTH ∧ ((qs [] { consumer := CONS_HOST, itemLimit := 0 } id).b.q 3).judge 64 = some NO_RESOURCE ∧
    (qs [] { consumer := CONS_HOST } id).b.r Reg.SEA_ROLE ≠ 2 := by decide +kernel
theorem wit_close : ((qs [] { consumer := CONS_HOST, items := [itemO] } id).b.q 3).find 1 = some itemO ∧ itemO.closed = false ∧ itemO.len + 38 ≤ itemO.size ∧
    (qs [] { consumer := CONS_HOST, items := [itemO] } id).b.tmg.cut = [] := by decide +kernel
theorem wit_take : ((qs [] { consumer := CONS_HOST, items := [item1] } id).b.q 3).hasTaken 1 = false ∧
    (qs [] { consumer := CONS_HOST, items := [item1] } id).b.presents 3 1 = some item1 ∧ (qs [] { consumer := CONS_HOST, items := [itemT] } id).b.isTaken 3 1 = true := by
  decide +kernel
theorem wit_front : ((qs [] { consumer := CONS_NODE } id).b.q 3).consumer = CONS_NODE ∧ 1 < (qs [] { consumer := CONS_NODE } id).b.pat.nodeCount ∧
    ((qs [] { consumer := CONS_NODE } id).b.q 3).judge ((qs [] { consumer := CONS_NODE } id).b.txHeader 1 [9] ++ [9]).length = none ∧
    ((qs [] { consumer := CONS_NODE } id).b.q 3).find (qs [] { consumer := CONS_NODE } id).b.nextItem = none := by decide +kernel
theorem wit_spill : ((qs [] { consumer := CONS_HOST, items := [item1], head := [(1, 24)], spill := [(1, 8)] } id).b.q 3).spillW ≠ 0 ∧
    ((qs [] { consumer := CONS_HOST, items := [item1], head := [(1, 24)], spill := [(1, 8)] } id).b.q 3).headW + 8 ≤ 32 := by decide +kernel
def qmgAsk (l : List Nat) (x : Queue) : State := qs ((List.range l.length).map (fun i => (cbARG cbQMG i, l.getD i 0))) x id
theorem wit_config : (qmgAsk [3, 3, 65535, 32, 1, 1] { consumer := CONS_HOST }).b.takes cbQMG = true ∧ (qmgAsk [3, 3, 65535, 32, 1, 1] { consumer := CONS_HOST }).b.arg cbQMG 0 = 3 ∧
    bits ((qmgAsk [3, 3, 65535, 32, 1, 1] { consumer := CONS_HOST }).b.arg cbQMG 1) 0 2 = CONS_HOST ∧ (qmgAsk [3] { consumer := CONS_HOST }).b.qParent 3 = 0xFFFF ∧
    (qmgAsk [3] { consumer := CONS_HOST }).b.spillReserved - ((qmgAsk [3] { consumer := CONS_HOST }).b.q 3).spillLimit + 32 ≤ (qmgAsk [3] { consumer := CONS_HOST }).b.pat.spillMib * 256 := by decide +kernel
theorem wit_drop_rest : ((qmgAsk [3] { consumer := CONS_HOST, items := [itemT] }).b.q 3).items.find? (·.taken) = some itemT := by decide +kernel
theorem wit_set_group : (qmgAsk [1, 1] { consumer := CONS_HOST }).b.arg cbQMG 0 < (qmgAsk [1, 1] { consumer := CONS_HOST }).b.pat.queueGroups ∧
    (∀ q ∈ (qmgAsk [1, 1] { consumer := CONS_HOST }).b.groupQs 1, ((qmgAsk [1, 1] { consumer := CONS_HOST }).b.q q).items = []) ∧
    (∀ q ∈ (qmgAsk [1, 1] { consumer := CONS_HOST }).b.groupQs 1, ((qmgAsk [1, 1] { consumer := CONS_HOST }).b.q q).consumer ≠ CONS_NODE ∧
      ((qmgAsk [1, 1] { consumer := CONS_HOST }).b.q q).consumer ≠ CONS_AIR) := by decide +kernel
/-- Queue 4 of scheduler node 0 on port 0 with an item, staged. -/
def sending : State := qs [(Reg.ETH_LINK 0, 1), (Reg.ETH_EN 0, 1)] { consumer := CONS_HOST } (fun b => Chip.tmgQ { b with queues := [(4, { consumer := CONS_SCHED, items := [item1] })] } 4)
theorem wit_egress : sending.b.portRoot 0 = some 0 ∧ sending.b.portOpen 0 = true ∧ kget sending.b.tmg.staged 0 = some (4, 4, 1) ∧
    (sending.b.q 4).find 1 = some item1 ∧ item1.ecc = false ∧ item1.closed = true := by decide +kernel
def tmgAsk (l : List Nat) (f : Chip → Chip) : State := qs ((List.range l.length).map (fun i => (cbARG cbTMG i, l.getD i 0))) { consumer := CONS_HOST } f
def swapping (ld : Bool) : State := tmgAsk [] (fun b => { b with tmg := { b.tmg with swap := [(0, { list := {}, takeover := 0, loaded := ld })] } })
theorem wit_takeover : kget (swapping true).b.tmg.swap 0 = some { list := {}, takeover := 0, loaded := true } ∧ 0 ≤ (swapping true).b.nowNs ∧
    kget (swapping false).b.tmg.swap 0 = some { list := {}, takeover := 0, loaded := false } := by decide +kernel
def latW : LatWin := { n := 2, depth := ⟨1, 3, 4⟩, items := ⟨1, 1, 2⟩, soj := ⟨0, 0, 0⟩ }
theorem wit_latency : (tmgAsk [] (fun b => { b with tmg := { b.tmg with winDue := true, lat := [(3, latW)] } })).b.tmg.winDue = true ∧
    kget (tmgAsk [3] (fun b => { b with tmg := { b.tmg with last := [(3, (9, latW))] } })).b.tmg.last 3 = some (9, latW) := by decide +kernel
theorem wit_tmg : (tmgAsk [0, 4, 64] id).b.takes cbTMG = true ∧ (tmgAsk [0, 4, 64] id).b.argChild = some 4 ∧ (tmgAsk [0, 4, 64] id).b.qParent 4 ≠ 0xFFFF ∧
    64 ≤ (tmgAsk [0, 4, 64] id).b.arg cbTMG 2 ∧ (tmgAsk [0, 4, 64] id).b.t (Reg.TMG_SWITCH_PEND 0) = false ∧ (tmgAsk [0, 4, 64] id).b.Awake := by
  refine ⟨?_, ?_, ?_, ?_, ?_, ?_, ?_⟩ <;> decide +kernel
theorem wit_gate_write : (∀ e ∈ (((tmgAsk [1, 255, 1, 256] id).b.args cbTMG).drop 3).take 1, intervalNs e ≠ 0) ∧
    (tmgAsk [1, 255, 1, 256] id).b.arg cbTMG 1 + (tmgAsk [1, 255, 1, 256] id).b.arg cbTMG 2 ≤ 256 := by decide +kernel
theorem wit_gate_commit : 1 ≤ (tmgAsk [1, 256, 1000, 999999999] id).b.arg cbTMG 1 ∧ 1000 ≤ (tmgAsk [1, 256, 1000, 999999999] id).b.arg cbTMG 2 ∧
    (tmgAsk [1, 256, 1000, 999999999] id).b.arg cbTMG 3 ≤ 999999999 ∧ (tmgAsk [1] (fun b => b.wb (Reg.TMG_SWITCH_PEND 1) true)).b.t (Reg.TMG_SWITCH_PEND 1) = true ∧
    (tmgAsk [1, 0, 255] id).b.arg cbTMG 2 ≤ 255 := by decide +kernel
theorem wit_open_barred : (qs [] { consumer := CONS_NODE } (node1 [(Cx.STATE, 7)])).b.dlBars 1 false = true ∧
    (qs [(Reg.SEA_ROLE, 2)] { consumer := CONS_NODE } (node1 [(Cx.STATE, 3)])).b.dlBars 1 false = false ∧
    (qs [(Reg.SEA_ROLE, 2)] { consumer := CONS_NODE } id).b.meshBound 3 = true ∧ (qs [] { consumer := CONS_HOST } id).b.pat.queueCount ≤ 8 := by decide +kernel
theorem wit_close_overrun : itemO.size < itemO.len + 39 ∧ (∃ e ∈ ([(3, 1, 40)] : List (Nat × Nat × Nat)), e.1 = 3 ∧ e.2.1 = 1) := ⟨by decide +kernel, _, .head _, rfl, rfl⟩
theorem wit_take_none : ((qs [] { consumer := CONS_HOST, items := [itemT] } id).b.q 3).hasTaken 1 = true ∧ (qs [] { consumer := CONS_HOST } id).b.isTaken 3 1 = false ∧
    ((qs [] { consumer := CONS_HOST, items := [item1], head := [(1, 25)], spill := [(1, 8)] } id).b.q 3).headW + 8 > 32 := by decide +kernel
theorem wit_qmg_none : (qmgAsk [8] { consumer := CONS_HOST }).b.pat.queueCount ≤ (qmgAsk [8] { consumer := CONS_HOST }).b.arg cbQMG 0 ∧
    (qmgAsk [2] { consumer := CONS_HOST }).b.pat.queueGroups ≤ (qmgAsk [2] { consumer := CONS_HOST }).b.arg cbQMG 0 ∧
    ((qmgAsk [3] { consumer := CONS_HOST }).b.q 3).items.find? (·.taken) = none := by decide +kernel
/-- The staged item of port 0 still open, and with an ECC failure. -/
def staged (i : Item) : State := chip sending (fun b => b.putQ 4 { consumer := CONS_SCHED, items := [i] })
theorem wit_egress_open : kget (staged itemO).b.tmg.staged 0 = some (4, 4, 1) ∧ ((staged itemO).b.q 4).find 1 = some itemO ∧ itemO.ecc = false ∧ itemO.closed = false ∧
    ((staged { item1 with ecc := true }).b.q 4).find 1 = some { item1 with ecc := true } ∧ sending.b.portRoot 2 = none ∧ sending.b.pwr.busyTo ≤ sending.b.nowNs := by decide +kernel
/-- A takeover at 200 us that has not come. -/
theorem wit_takeover_ahead : (tmgAsk [] id).b.nowNs < 200000 ∧ kget (tmgAsk [] id).b.tmg.swap 0 = none ∧ (tmgAsk [] id).b.tmg.winDue = false ∧
    (tmgAsk [0, 1, 255] id).b.arg cbTMG 1 = 1 := by decide +kernel

/-! ### The services -/

/-- READY with every service, and SUBMIT of a request record of an operation with a body, ticket 5. -/
def svc (l : List (Fld × Nat)) (f : Svc → Svc) : State :=
  mesh ((Reg.SVC_RUNNING, 0xF) :: (Reg.SEA_ROLE, 0) :: l) (fun b => node1 [(Cx.STATE, 3), (Cx.PARENT, parentDev)]
    { b with pat := { b.pat with svcMask := 0x1F, imageMib := 1 }, svc := f b.svc })
def submit (op : Nat) (l : List Nat) (s : State) : State :=
  let r := leBytes op 2 ++ [0, 0] ++ leBytes 7 4 ++ leBytes l.length 4 ++ leBytes 5 4 ++ l
  { s with b := s.b.w (cbARG cbSVC 0) r.length, mem := s.mem.write reqBuf r }
theorem sends_of (s : State) (l : List Nat) (h : (!s.b.starting && !s.b.safe && !s.b.t (cbBUSY cbSVC) && decide (16 ≤ s.b.arg cbSVC 0) &&
    decide (s.b.arg cbSVC 0 ≤ 4096) && s.b.arg cbSVC 0 == fldLE (s.mem.read reqBuf (s.b.arg cbSVC 0)) 8 4 + 16 &&
    l == (s.mem.read reqBuf (s.b.arg cbSVC 0)).drop 16) = true) : s.Sends l := by
  simpa [State.Sends, and_assoc] using h
theorem asks_of (op : Nat) (s : State) (l : List Nat) (h : ((!s.b.starting && !s.b.safe && !s.b.t (cbBUSY cbSVC) && decide (16 ≤ s.b.arg cbSVC 0) &&
    decide (s.b.arg cbSVC 0 ≤ 4096) && s.b.arg cbSVC 0 == fldLE (s.mem.read reqBuf (s.b.arg cbSVC 0)) 8 4 + 16 &&
    l == (s.mem.read reqBuf (s.b.arg cbSVC 0)).drop 16) && s.b.opCheck op == none) = true) : s.Asks op l := by
  rw [Bool.and_eq_true] at h
  exact ⟨sends_of s l h.1, by simpa using h.2⟩
theorem wit_svc_refused : (submit 0x02 [] (svc [(Reg.UPD_PHASE, 2)] id)).Sends [] ∧ (submit 0x02 [] (svc [(Reg.UPD_PHASE, 2)] id)).b.opCheck 0x02 = some WRONG_STATE ∧
    (svc [] id).b.arg cbSVC 0 < 16 ∧ (0x02, Instr.svcCtxSet false true) ∈ mailRows false true :=
  ⟨sends_of _ _ (by decide +kernel), by decide +kernel⟩
theorem wit_svc_late : (submit 0x12 [] (svc [] id)).Asks 0x12 [] ∧ (svc [] id).b.svc.tickets.length < 8 ∧
    (submit 0x12 [] (svc [] (fun v => { v with tickets := (List.range 8).map (fun i => (i, { resp := [], doneNs := 0 })) }))).Asks 0x12 [] :=
  ⟨asks_of _ _ _ (by decide +kernel), by decide +kernel, asks_of _ _ _ (by decide +kernel)⟩
theorem wit_svc_ctrl : (submit 0x01 [1, 0, 0, 0, 6, 0, 0, 0] (svc [(Reg.SVC_RUNNING, 1)] id)).Asks 0x01 [1, 0, 0, 0, 6, 0, 0, 0] ∧
    andNot 6 (svc [] id).b.pat.svcMask = 0 ∧ (submit 0x01 [0, 0, 0, 0, 1, 0, 0, 0] (svc [] id)).Asks 0x01 [0, 0, 0, 0, 1, 0, 0, 0] :=
  ⟨asks_of _ _ _ (by decide +kernel), by decide +kernel, asks_of _ _ _ (by decide +kernel)⟩
def ctxBody : List Nat := [15, 128, 1, 0] ++ List.replicate 28 0
def rplBody : List Nat := [0, 6, 20, 15] ++ List.replicate 28 1
theorem wit_svc_cfg : (submit 0x02 ctxBody (svc [] id)).Asks 0x02 ctxBody ∧ (submit 0x03 [15] (svc [] id)).Asks 0x03 [15] ∧
    (submit 0x10 rplBody (svc [(Reg.SVC_RUNNING, 1)] id)).Asks 0x10 rplBody ∧ (svc [(Reg.SVC_RUNNING, 1)] id).b.svcOn 1 = false ∧
    (submit 0x11 [1, 0, 0, 0] (svc [(Reg.SVC_MAX_DEPTH, 4)] id)).Asks 0x11 [1, 0, 0, 0] ∧ (svc [] id).b.routePath 1 = some [1] ∧
    (submit 0x12 [] (svc [] id)).Asks 0x12 [] ∧ (svc [] id).b.svcOn 1 = true :=
  ⟨asks_of _ _ _ (by decide +kernel), asks_of _ _ _ (by decide +kernel), asks_of _ _ _ (by decide +kernel), by decide +kernel,
    asks_of _ _ _ (by decide +kernel), by decide +kernel, asks_of _ _ _ (by decide +kernel), by decide +kernel⟩
def regn1 : Regn := { addr := 9, node := 1, rovr := 0, tid := 4, deadline := 600000000000 }
def reg9 : List Nat := List.replicate 15 0 ++ [9]
theorem wit_svc_reg : (submit 0x20 reg9 (svc [] (fun v => { v with regs := [regn1] }))).Asks 0x20 reg9 ∧
    (submit 0x21 reg9 (svc [] (fun v => { v with regs := [regn1] }))).Asks 0x21 reg9 ∧ beNat (slice reg9 0 16) = regn1.addr :=
  ⟨asks_of _ _ _ (by decide +kernel), asks_of _ _ _ (by decide +kernel), by decide +kernel⟩
/-- The second half of a slot of two octets. -/
def imgBody : List Nat := [7, 0, 0, 0] ++ leBytes 2 4 ++ leBytes 1 4 ++ leBytes 1 4 ++ [0xAB]
def closeBody : List Nat := [7, 0, 0, 0] ++ List.replicate 44 3
def slotSt (n : Nat) (c : Bool) : State := svc [] (fun v => { v with slots := [(7, { size := 2, data := List.replicate n 1, closed := c })] })
theorem wit_svc_img : (submit 0x30 imgBody (slotSt 1 false)).Asks 0x30 imgBody ∧ imgBody.length = 17 ∧ 2 ≤ (slotSt 1 false).b.slotOctets ∧
    kgetD (slotSt 1 false).b.svc.slots 7 { size := 2, data := [] } = { size := 2, data := [1] } ∧ (slotSt 1 false).b.slotBusy 7 = false ∧
    (submit 0x31 closeBody (slotSt 2 false)).Asks 0x31 closeBody ∧ (submit 0x32 [7] (slotSt 2 true)).Asks 0x32 [7] :=
  ⟨asks_of _ _ _ (by decide +kernel), by decide +kernel, by decide +kernel, by decide +kernel, by decide +kernel, asks_of _ _ _ (by decide +kernel),
    asks_of _ _ _ (by decide +kernel)⟩
/-- Campaign 3 of slot 7 in Band H. -/
def campBody : List Nat := [3, 7, 2, 0, 0, 0] ++ leBytes 64 2 ++ [32, 16] ++ leBytes 1 2 ++ [0, 0, 0, 0] ++ leBytes 1 4
def camp1 (p : Nat) : Camp := { phase := p, slot := 7, band := 2, mode := 0, mcs := 0, block := 64, maxRounds := 2, statusSf := 1, targets := [(1, 0)], left := [], setSize := 1 }
def campSt (p : Nat) : State := svc [] (fun v =>
  { v with
      camps := [(3, camp1 p)]
      intake := [{ svc := 3, node := 1, data := List.replicate 8 0 ++ [1] }]
      slots := [(7, { size := 2, data := [1, 1], closed := true })] })
theorem wit_svc_camp : (submit 0x39 [3] (slotSt 2 true)).Asks 0x39 [3] ∧ (submit 0x39 [3] (campSt 2)).Asks 0x39 [3] ∧ (submit 0x3A [3] (campSt 2)).Asks 0x3A [3] ∧
    (submit 0x3B [3, 0, 0, 0, 0, 4, 0, 0] (campSt 3)).Asks 0x3B [3, 0, 0, 0, 0, 4, 0, 0] ∧ kget (campSt 3).b.svc.camps 3 = some (camp1 3) :=
  ⟨asks_of _ _ _ (by decide +kernel), asks_of _ _ _ (by decide +kernel), asks_of _ _ _ (by decide +kernel), asks_of _ _ _ (by decide +kernel), by decide +kernel⟩
/-- A BROADCAST cell of Band H. -/
def startSt : State := chip (slotSt 2 true) (fun b => b.setCell 608 (mkCell nodeNone T.BROADCAST false 5 0))
theorem wit_camp_start : (submit 0x38 campBody startSt).Asks 0x38 campBody ∧ campBody.length = 16 + 4 * 1 ∧ startSt.b.modeOn 2 0 = true ∧ mcsOk 2 0 0 = true ∧
    fldLE campBody 6 2 = 64 ∧ fldLE campBody 10 2 = 1 ∧ fldLE campBody 16 4 < startSt.b.pat.nodeCount ∧ kget startSt.b.svc.camps 3 = none ∧
    (kget startSt.b.svc.slots 7).any (fun x => x.closed) = true ∧ startSt.b.svcOn 3 = true ∧ startSt.b.bcastCell 2 = true ∧
    startSt.b.r Reg.SCH_TX_OFFSET_US + airUs 2 0 0 false 8 (64 + 37 + fcsLen 2 + micLen (startSt.b.sealLevel .bcast).1) + 100 ≤ startSt.b.slotUs ∧
    64 + 37 + fcsLen 2 + micLen (startSt.b.sealLevel .bcast).1 ≤ 127 :=
  ⟨asks_of _ _ _ (by decide +kernel), by decide +kernel⟩
def ticketSt : State := svc [] (fun v => { v with running := some (List.replicate 20 0), tickets := [(5, { resp := List.replicate 20 3, doneNs := 0 })] })
theorem wit_ticket : (submit 0xF0 [] ticketSt).Asks 0xF0 [] ∧ fldLE ((submit 0xF0 [] ticketSt).mem.read reqBuf ((submit 0xF0 [] ticketSt).b.arg cbSVC 0)) 12 4 = 5 ∧
    ticketSt.b.svc.tickets = [(5, { resp := List.replicate 20 3, doneNs := 0 })] ∧ ticketSt.b.svc.running = some (List.replicate 20 0) ∧
    (chip ticketSt (fun b => { b with tim := { b.tim with now := 60000000000 * nsU } })).b.nowNs = 60000000000 :=
  ⟨asks_of _ _ _ (by decide +kernel), by decide +kernel⟩

/-- A message of a service. -/
def told (v : Nat) (d : List Nat) (f : Svc → Svc) : State := svc [(Reg.SVC_REG_MAX_PER_NODE, 4)] (fun x => f { x with intake := [{ svc := v, node := 1, data := d }] })
/-- A DAO of address 9 with the device, whose DODAGID is 6, as parent. -/
def daoMsg : List Nat := List.replicate 40 0 ++ [155, 2, 0, 0] ++ [0, 0, 0, 250] ++ ([5, 18, 0, 128] ++ reg9) ++ ([6, 20, 0, 0, 0, 9] ++ List.replicate 15 0 ++ [6])
def daoSt : State := told 1 daoMsg (fun v => { v with regs := [regn1], rpl := { v.rpl with set := true, unit := 60, dodag := List.replicate 15 0 ++ [6] } })
def daoTr : List Nat := [0, 0, 0, 9] ++ List.replicate 15 0 ++ [6]
theorem wit_dao : (daoSt.b.svc.intake.find? (fun x => x.svc == 1)).map (·.data) = some daoMsg ∧ icmpCode daoMsg = 2 ∧ daoSt.b.svcOn 1 = true ∧
    (rplOptions (daoMsg.drop 48) 64).find? (fun e => e.1 == 5) = some (5, [0, 128] ++ reg9) ∧ daoSt.b.addrNode (beNat (slice ([0, 128] ++ reg9) 2 16)) = some 1 ∧
    ((rplOptions (daoMsg.drop 48) 64).filter (fun e => e.1 == 6)).map (·.2) = [daoTr] ∧ daoSt.b.transitParent daoTr = some parentDev ∧ parentDev < 2 ^ 17 ∧
    kgetD daoSt.b.svc.routes 1 {} = {} ∧ daoSt.b.above 1 parentDev 64 = false ∧ daoTr.getD 3 0 = 9 := by
  have e : beNat (slice daoTr 4 16) = 6 := by decide +kernel
  have d : daoSt.b.dodag = 6 := by decide +kernel
  have r : daoSt.b.svc.rpl.set = true := by decide +kernel
  refine ⟨by decide +kernel, by decide +kernel, by decide +kernel, by decide +kernel, by decide +kernel, by decide +kernel, ?_, by decide +kernel⟩
  simp [Chip.transitParent, Chip.devAddr, e, d, r]
def disMsg : List Nat := List.replicate 24 0 ++ beBytes allRpl 16 ++ [155, 0]
theorem wit_dis : (told 1 disMsg id).b.svc.intake.find? (fun x => x.svc == 1) = some { svc := 1, node := 1, data := disMsg } ∧
    icmpCode disMsg = 0 ∧ ipDst disMsg = allRpl ∧ (told 1 disMsg id).b.svcOn 1 = true := by decide +kernel
theorem wit_trickle : daoSt.b.svcOn 1 = true ∧ daoSt.b.svc.rpl.set = true ∧ daoSt.b.serves = true := by decide +kernel
/-- A Neighbor Solicitation for address 9 with an EARO of node 1's EUI-64, 0, and a lifetime of an hour; and the same as an EDAR. -/
def nsMsg : List Nat := List.replicate 40 0 ++ [135, 0, 0, 0, 0, 0, 0, 0] ++ reg9 ++ ([33, 2, 0, 0, 0, 5, 0, 60] ++ List.replicate 8 0)
def edarMsg : List Nat := List.replicate 40 0 ++ [157, 1, 0, 0, 0, 5, 0, 60] ++ List.replicate 8 0 ++ reg9
theorem wit_register : (told 2 nsMsg id).b.svcOn 2 = true ∧ (told 2 nsMsg id).b.linkedEui 0 = some 1 ∧
    ((told 2 nsMsg id).b.svc.regs.filter (fun r => r.node == 1)).length < (told 2 nsMsg id).b.r Reg.SVC_REG_MAX_PER_NODE ∧
    ((svc [] id).b.nodeEntry 0 (addrKey 9) 1).2 = OK ∧ icmpType nsMsg = 135 ∧ earo nsMsg = some [0, 0, 0, 5, 0, 60, 0, 0, 0, 0, 0, 0, 0, 0] ∧
    beNat (slice nsMsg 48 16) = 9 ∧ icmpType edarMsg = 157 ∧ icmpCode edarMsg = 1 ∧ beNat (slice edarMsg 56 16) = 9 ∧ beNat (slice edarMsg 46 2) = 60 := by decide +kernel
/-- A later fragment at octet 8 of a datagram, a first one of an uncompressed header, and the fragment that completes a datagram whose first eight
octets stand. -/
def fragIn (size : Nat) : MeshIn := { node := 1, src := 0, dst := 0, data := beBytes (0xE000 + size) 2 ++ [0, 1, 1] ++ List.replicate 8 2 }
def frag1In (l : List Nat) : MeshIn := { node := 1, src := 0, dst := 0, data := beBytes (0xC000 + 60) 2 ++ [0, 1] ++ l }
def fragSt (m : MeshIn) : State := svc [] (fun v => { v with frags := [m] })
theorem wit_fragment : (fragSt (fragIn 15)).b.svc.frags = [fragIn 15] ∧ (fragIn 15).data.headD 0 / 8 ≠ 24 ∧ beNat ((fragIn 15).data.take 2) % 2048 = 15 ∧
    15 < 8 * 1 + ((fragIn 15).data.drop 5).length ∧ (fragIn 16).data.getD 4 0 = 1 ∧ 8 * 1 + ((fragIn 16).data.drop 5).length ≤ 16 ∧ 8 * 1 ≠ 0 ∧
    (fragSt (fragIn 16)).b.svc.reasm = [] := by decide +kernel
theorem wit_fragment_first : (frag1In [0x41]).data.headD 0 / 8 = 24 ∧ (fragSt (frag1In [])).b.decomp (frag1In []) ((frag1In []).data.drop 4) = none ∧
    (fragSt (frag1In (0x41 :: List.replicate 40 6))).b.decomp (frag1In (0x41 :: List.replicate 40 6)) ((frag1In (0x41 :: List.replicate 40 6)).data.drop 4) =
      some (List.replicate 40 6, []) := by decide +kernel
def half : Reasm := { eui := 0, size := 16, tag := 1, parts := [(0, List.replicate 8 1)], deadline := 60000000000 }
theorem wit_fragment_last : (fragSt (fragIn 16)).b.eui 1 = half.eui ∧ beNat ((fragIn 16).data.take 2) % 2048 = half.size ∧ beNat (slice (fragIn 16).data 2 2) = half.tag ∧
    (∀ e ∈ half.parts, e.1 + e.2.length ≤ 8 ∨ 8 + 8 ≤ e.1) ∧ 16 ≤ (joinParts ((8, (fragIn 16).data.drop 5) :: half.parts) 0 3).length := by decide +kernel
def downSt (n k : Nat) : State := chip (svc [(Reg.SVC_MAX_DEPTH, 4)] id) (fun b => { b with adapt := [{ node := some k, data := List.replicate n 0 }] })
theorem wit_downlink : (downSt 2048 1).b.svcOn 0 = true ∧ (downSt 2048 1).b.adapt = [{ node := some 1, data := List.replicate 2048 0 }] ∧
    (downSt 2047 2).b.routePath 2 = none ∧ (downSt 2047 1).b.routePath 1 = some [1] := by
  refine ⟨by decide +kernel, rfl, by decide +kernel⟩
theorem wit_campaign : (campSt 2).b.svc.intake.find? (fun x => x.svc == 3) = some { svc := 3, node := 1, data := List.replicate 8 0 ++ [1] } ∧
    (campSt 2).b.svc.camps = [(3, camp1 2)] ∧ (campSt 2).b.campSlot (camp1 2) = { size := 2, data := [1, 1], closed := true } ∧ (camp1 2).targets = [(1, 0)] ∧
    (camp1 2).collect = 0 ∧ (camp1 2).round < (camp1 2).maxRounds := by decide +kernel
theorem wit_services_idle : (svc [] id).b.svc.intake = [] ∧ (svc [(Reg.SVC_RUNNING, 0)] id).b.svcOn 1 = false ∧ (svc [(Reg.SEA_ROLE, 2)] id).b.serves = false ∧
    (svc [] id).b.svc.frags = [] ∧ (svc [] id).b.adapt = [] ∧ (svc [] id).b.svc.running = none ∧ kget (svc [] id).b.svc.tickets 5 = none ∧
    (camp1 1).phase ≠ 2 := by decide +kernel
/-- The same messages with the services off. -/
theorem wit_services_off : (chip daoSt (fun b => b.w Reg.SVC_RUNNING 0)).b.svcOn 1 = false ∧ (chip daoSt (fun b => b.w Reg.SVC_RUNNING 0)).b.svc.intake ≠ [] := by decide +kernel
theorem wit_img_status_none : (chip (campSt 2) (fun b => { b with svc := { b.svc with camps := [] } })).b.svc.camps = [] ∧ (camp1 2).targets.any (fun y => y.2 == 0) = true ∧
    ({ camp1 2 with round := 2 } : Camp).maxRounds ≤ 2 := by decide +kernel

/-! ### The Seam -/

/-- A working TWIN of a role, paired, in lock, with the pair key in pocket 5. -/
def twin (role : Nat) (l : List (Fld × Nat)) (f : Sea → Sea) : State :=
  mesh ([(Reg.SEA_ROLE, role), (Reg.SEA_PAIRED, 1), (Reg.SEA_BLOCK_LOCK, 1), (Reg.SEA_PAIR_PK_EN, 1), (Reg.SEA_PAIR_POCKET, 5)] ++ l) (fun b =>
    { b with
        key := { b.key with pockets := [(5, { state := PS.ACTIVE, typ := 2, usage := 256, parent := 0xFFFF, epoch := 1, key := some (.raw [5]) })] }
        sea := f b.sea })
def mirrored : State := twin 2 [] (fun x => { x with seqIn := 9 })
def seamK : List Nat := (mirrored.b.seamKey).getD []
/-- Frame 9 with its records, and which of them a command delivers. -/
def hdr (ok : Bool) (i : Nat) (l : List SeamRec) : SeamHdr :=
  { fcsOk := ok, octets := seamCover 9 0 0 l, tag := seamTag seamK (seamCover 9 0 0 l), index := i }
def recd (k item : Nat) (l : List Nat) : SeamRec := { kind := k, item := item, body := l }
theorem tagOk_of (s : State) (l : List SeamRec) (i : Nat) (h : s.b.seamKey = some seamK) : s.b.tagOk (hdr true i l) = true := by
  simp [Chip.tagOk, hdr, h]
theorem seam_key : mirrored.b.seamKey = some seamK := by
  have h : mirrored.b.pairKey = some (.raw [5]) := by decide +kernel
  simp [seamK, Chip.seamKey, h]
theorem wit_seam_takes : mirrored.b.SeamTakes (hdr true 0 [recd 4 7 [1, 2, 3, 4]]) ∧
    seamRecord (hdr true 0 [recd 4 7 [1, 2, 3, 4]]) = recd 4 7 [1, 2, 3, 4] := by
  refine ⟨⟨by decide +kernel, by decide +kernel, by decide +kernel, by decide +kernel, tagOk_of _ _ _ seam_key, ?_, .inl ⟨rfl, ?_⟩⟩, ?_⟩
  · show seamSeq { fcsOk := true, octets := _, tag := [] } ≠ seqNone; decide +kernel
  · show seamSeq { fcsOk := true, octets := _, tag := [] } = _; decide +kernel
  · show seamRecord { fcsOk := true, octets := _, tag := [] } = _; decide +kernel
/-- The second record of the same frame. -/
def further : State := twin 2 [] (fun x => { x with seqIn := 10, ackOut := 9 })
theorem wit_seam_further : further.b.SeamTakes (hdr true 1 [recd 11 0 [], recd 12 0 [1]]) ∧
    seamRecord (hdr true 1 [recd 11 0 [], recd 12 0 [1]]) = recd 12 0 [1] := by
  have k : further.b.seamKey = some seamK := by
    have h : further.b.pairKey = some (.raw [5]) := by decide +kernel
    have h' : mirrored.b.pairKey = some (.raw [5]) := by decide +kernel
    have p : further.b.pat.pairId = mirrored.b.pat.pairId := by decide +kernel
    simp [seamK, Chip.seamKey, h, h', p]
  refine ⟨⟨by decide +kernel, by decide +kernel, by decide +kernel, by decide +kernel, tagOk_of _ _ _ k, ?_, .inr ⟨by decide +kernel, ?_, ?_⟩⟩, ?_⟩
  · show seamSeq { fcsOk := true, octets := _, tag := [] } ≠ seqNone; decide +kernel
  · show seamSeq { fcsOk := true, octets := _, tag := [] } = _; decide +kernel
  · show _ = seqNext (seamSeq { fcsOk := true, octets := _, tag := [] }); decide +kernel
  · show seamRecord { fcsOk := true, octets := _, tag := [], index := 1 } = _; decide +kernel
/-- A frame whose FCS fails, an unpaired device, one that is no STANDBY, and a device that is OUT. -/
theorem wit_seam_only_ack : mirrored.b.tagOk (hdr false 0 []) = false ∧ (twin 3 [] (fun x => { x with seqIn := 9 })).b.isStandby = false ∧
    (twin 2 [(Reg.SEA_PAIRED, 0)] id).b.t Reg.SEA_PAIRED = false ∧ (twin 4 [] id).b.role = 4 := by
  refine ⟨by simp [Chip.tagOk, hdr], by decide +kernel⟩
theorem wit_records : (3 : Nat) < mirrored.b.pat.nodeCount ∧ (10239 : Nat) < mirrored.b.pat.weaveCells ∧ ¬ (mirrored.b.t Reg.SEA_PAIR_PK_EN = true ∧
    4095 = mirrored.b.r Reg.SEA_PAIR_POCKET) ∧ (mirrored.b.t Reg.SEA_PAIR_PK_EN = true ∧ 5 = mirrored.b.r Reg.SEA_PAIR_POCKET) ∧
    bits (([0, 2] : List Nat).headD 0) 0 3 = 0 ∧ bits (([4, 2] : List Nat).headD 0) 0 3 = 4 ∧ allZero (slice [1, 2] 32 40) = true := by decide +kernel
/-- A key wrapped under the pair pocket's, and the same with its last octet changed. -/
def wrapOf (k : List Nat) : List Nat := kwWrap [5] k
theorem wit_record_unwraps : kwUnwrap [5] (wrapOf (List.replicate 16 3)) = some (List.replicate 16 3) ∧
    kwUnwrap [5] ((wrapOf (List.replicate 16 3)).take 23 ++ [0]) = none ∧ mirrored.b.pairKey.map keyOctets = some [5] := by decide +kernel
def helloMsg (items : Nat) : List Nat :=
  leBytes State.reset.b.pat.pairId 8 ++ leBytes 4 4 ++ leBytes 10240 4 ++ leBytes 40 2 ++ [4, items, 2, 0, 0, 0] ++ leBytes 7 4 ++ [0, 0, 0, 0] ++ [1, 2, 3, 4, 5, 6, 7, 8]
theorem wit_hello : (twin 2 [] id).b.seamOn = true ∧ (twin 2 [] id).b.role ≠ 4 ∧ (twin 2 [] id).b.t Reg.SEA_BLOCK_LOCK = true ∧
    (twin 2 [] id).b.pairDiff (helloMsg 1) = none ∧ (twin 2 [] id).b.pairDiff (helloMsg 0) = some 5 ∧
    (seamRecord { fcsOk := true, octets := seamCover seqNone 0 0 [recd 1 0 (helloMsg 1)], tag := [] }).kind = 1 ∧
    (twin 2 [] (fun x => { x with pairLeft := some 3 })).b.sea.pairLeft ≠ none := by decide +kernel
theorem wit_pass : (twin 2 [] (fun x => { x with seqIn := 9, pass := some ([1], [9]) })).b.sea.pass = some ([1], [9]) := by decide +kernel
theorem wit_sea : (twin 2 [] id).b.takes cbSEA = true ∧ (twin 2 [] id).b.seamOn = true ∧ (twin 2 [] id).b.pairKey.isSome = true ∧
    (twin 2 [] id).b.role = 2 ∧ (twin 2 [] id).b.t Reg.SEA_CLAIM_IN = false ∧ within8 (twin 2 [] id).b.sea.actAge = false ∧ (twin 2 [] id).b.sea.claim = none ∧
    bit ((twin 2 [(cbARG cbSEA 0, 1)] id).b.arg cbSEA 0) 0 = true ∧ (twin 2 [] id).b.t Reg.SEA_PAIRED = true := by decide +kernel
def beat2 : Beat := { stitch := 0, epoch := 1, role := 2, mirror := 2, claimOut := false, based := true, hoReady := false, eui := [], seq := 0 }
def handing : State := twin 3 [(Reg.SEA_LAG, 4)] (fun x => { x with peer := some beat2, okRun := 8 })
theorem wit_handover : handing.b.takes cbSEA = true ∧ handing.b.mirrorOn = true ∧ handing.b.sea.peer = some beat2 ∧ handing.b.r Reg.SEA_LAG ≤ 4 ∧
    8 ≤ handing.b.sea.okRun ∧ handing.b.r Reg.SEA_PAIR_EPOCH ≠ 2 ^ 32 - 1 ∧ handing.b.seamKey.isSome = true := by
  have h : handing.b.pairKey = some (.raw [5]) := by decide +kernel
  refine ⟨by decide +kernel, by decide +kernel, by decide +kernel, by decide +kernel, by decide +kernel, by decide +kernel, by simp [Chip.seamKey, h]⟩
def claiming (l : List (Fld × Nat)) : State := twin 2 ([(Reg.SEA_CLAIM_OUT, 1), (Reg.SEA_PAIR_EPOCH, 2 ^ 32 - 2)] ++ l) (fun x => { x with claim := some (3, true) })
theorem wit_claim_in : (claiming [(Reg.SEA_CLAIM_IN, 1)]).b.sea.claim = some (3, true) ∧ (claiming [(Reg.SEA_CLAIM_IN, 1)]).b.t Reg.SEA_CLAIM_IN = true ∧
    2 ^ 32 - 1 = max ((claiming []).b.r Reg.SEA_PAIR_EPOCH) ((claiming []).b.r Reg.SEA_PEER_EPOCH) + 1 ∧ (claiming []).b.t Reg.SEA_CLAIM_IN = false := by decide +kernel
theorem wit_claim_retry : (twin 2 [] (fun x => { x with retry := some (0, 3) })).b.sea.retry = some (0, 3) ∧ (twin 2 [] id).b.claimOk 3 = true ∧
    (twin 2 [(Reg.SEA_CLAIM_IN, 1)] id).b.claimOk 3 = false := by decide +kernel
theorem wit_listen : (twin 1 [] (fun x => { x with listen := some 0 })).b.sea.listen = some 0 ∧ (twin 1 [] id).b.role = 1 ∧ (twin 1 [] id).b.claimOk 1 = true ∧
    (twin 1 [(Reg.SEA_STBY_REC, 1)] id).b.claimOk 1 = false := by decide +kernel
def resending : State := twin 3 [] (fun x => { x with waiting := [⟨4, [], 1⟩, ⟨5, [], 2⟩, ⟨6, [], 0⟩] })
theorem wit_resend : resending.b.t Reg.SEA_BLOCK_LOCK = true ∧ resending.b.sea.waiting.dropWhile (fun f => decide (f.age < 2)) = [⟨5, [], 2⟩, ⟨6, [], 0⟩] ∧
    (twin 2 [] id).b.t Reg.SEA_AUTO_PAIR = true := by decide +kernel
def skewed (a : Nat) : State := twin 2 [] (fun x => { x with above := a })
theorem wit_skew : (skewed 15).b.sea.edge = none ∧ (1000 : Int).natAbs ≤ (skewed 15).b.r Reg.SEA_SKEW_LIMIT_NS ∧
    (skewed 15).b.r Reg.SEA_SKEW_LIMIT_NS < (-1001 : Int).natAbs ∧ (skewed 14).b.sea.above < 15 ∧ (skewed 15).b.sea.within = 16 := by decide +kernel
/-- A handover at slot 1, whose prefetch boundary is that of stitch 39. -/
def switching (r : Nat) : State := chip (twin r [] (fun x => { x with hand := some (1, 7), hoSeen := true })) (fun b => { b with tim := { b.tim with stitch := 39 } })
theorem wit_switch : (switching 2).b.sea.hand = some (1, 7) ∧ 1 * max 1 (switching 2).b.pat.slotStitches - 1 ≤ (switching 2).b.tim.stitch ∧ (switching 2).b.role = 2 ∧
    (switching 2).b.sea.claim = none ∧ (switching 3).b.role = 3 ∧ (switching 3).b.pat.queueCount ≤ 8192 ∧ (switching 3).b.sea.hoSeen = true ∧
    (switching 3).b.r Reg.SEA_MISS_RUN < 8 := by decide +kernel
theorem wit_seam_off : (twin 2 [(Reg.CKR_LIMP, 1)] id).b.seamOn = false ∧ (twin 2 [(Reg.SEA_BLOCK_LOCK, 0)] id).b.t Reg.SEA_BLOCK_LOCK = false ∧
    (twin 2 [(Reg.CKR_LIMP, 1), (Reg.CKR_DOMAIN_STATE, 0)] id).b.takes cbSEA = true ∧ (twin 2 [(Reg.SEA_PAIRED, 0)] id).b.t Reg.SEA_PAIRED = false := by decide +kernel
theorem wit_pocket_states : ¬ (mirrored.b.t Reg.SEA_PAIR_PK_EN = true ∧ 9 = mirrored.b.r Reg.SEA_PAIR_POCKET) ∧ bits (([2, 2] : List Nat).getD 0 0) 0 3 = 2 ∧
    2 ≠ PS.ORPHANED ∧ mirrored.b.sea.pass = none := by decide +kernel
/-- A claim of its own with the last pair epoch used up. -/
theorem wit_claim_epoch : (twin 2 [(Reg.SEA_PAIR_EPOCH, 2 ^ 32 - 1)] (fun x => { x with claim := some (4, false) })).b.sea.claim = some (4, false) ∧
    2 ^ 32 ≤ max ((twin 2 [(Reg.SEA_PAIR_EPOCH, 2 ^ 32 - 1)] id).b.r Reg.SEA_PAIR_EPOCH) 0 + 1 := by decide +kernel
theorem wit_claim_in_edge : (twin 1 [] id).b.t Reg.SEA_CLAIM_IN = false ∧ (twin 1 [] id).b.pairKey.isSome = true ∧ (twin 1 [(Reg.SEA_CLAIM_IN, 1)] id).b.t Reg.SEA_CLAIM_IN = true ∧
    (twin 2 [] id).b.sea.retry = none ∧ (twin 2 [] id).b.sea.hand = none ∧ (twin 2 [] (fun x => { x with edge := some 5 })).b.sea.edge.isSome = true ∧
    (twin 2 [(Reg.SEA_AUTO_PAIR, 0)] id).b.t Reg.SEA_AUTO_PAIR = false := by decide +kernel

/-! ### Updates -/

/-- READY with 64 MiB of flash, a VALID set in bank 1 and copy B, and UPD in a phase. -/
def updAt (phase : Nat) (l : List (Fld × Nat)) (f : Upd → Upd) : State :=
  radio ((Reg.UPD_PHASE, phase) :: l) (fun b =>
    { b with
        boot := { b.boot with flashMib := 64 }
        nv := { b.nv with bank0 := { st := 3, manifest := leBytes 0 12 ++ leBytes 5 4 }, bank1 := { st := 2, manifest := leBytes 0 12 ++ leBytes 6 4 ++ [1] }, copyA := { st := 2 }, copyB := { st := 1 } }
        upd := f b.upd })
/-- The second of three chunks of 4,096 octets. -/
def chunk2 : State := updAt 1 [(cbARG cbUPD 0, 12288), (cbARG cbUPD 1, 4096), (cbARG cbUPD 2, 4096)] (fun u => { u with load := some 4096 })
theorem wit_install : chunk2.b.takes cbUPD = true ∧ chunk2.b.starting = false ∧ chunk2.b.chunkBad cbUPD chunk2.b.upd.load = none ∧ chunk2.b.ready = true ∧
    chunk2.b.r Reg.UPD_PHASE ≤ 1 ∧ bit (chunk2.b.arg cbUPD 3) 1 = false := by decide +kernel
theorem wit_activate : (updAt 0 [] id).b.takes cbUPD = true ∧ (updAt 0 [] id).b.limp = false ∧ (updAt 0 [] id).b.ready = true ∧
    (updAt 0 [] id).b.r Reg.UPD_PHASE = 0 ∧ ((updAt 0 [] id).b.nv.bank (updAt 0 [] id).b.nv.otherBank).st = 2 ∧
    ((updAt 0 [] id).b.nv.copy (updAt 0 [] id).b.nv.otherCopy).st = 1 ∧ (updAt 0 [] id).b.mac.nodes = [] ∧
    (updAt 0 [] id).b.nv.migrated 5 ((updAt 0 [] id).b.nv.bank 1).manifest = some [] := by decide +kernel
theorem wit_read_part : (updAt 0 [(cbARG cbUPD 0, 1)] id).b.arg cbUPD 0 ≤ 1 ∧ ((updAt 0 [] id).b.nv.bank 1).st = 2 ∧
    (updAt 0 [] id).b.arg cbUPD 1 < manCount ((updAt 0 [] id).b.nv.bank 1).manifest := by decide +kernel
theorem wit_revert : ((updAt 0 [] id).b.nv.copy 1).hash = manPattern ((updAt 0 [] id).b.nv.bank 1).manifest := by decide +kernel
theorem wit_cancel : (updAt 3 [(cbBUSY cbUPD, 1)] id).b.t (cbBUSY cbUPD) = true ∧ (updAt 3 [(cbBUSY cbUPD, 1)] id).b.r Reg.UPD_PHASE = 3 := by decide +kernel
theorem wit_staged : (updAt 2 [] id).b.r Reg.UPD_PHASE = 2 ∧ (chip (updAt 2 [] id) (fun b => { b with pat := { b.pat with slotStitches := 4, sfExp := 4 } })).b.pickPause 1 = some (1, 0) := by decide +kernel
def pausing (b : Chip) : Chip := { b with sch := { b.sch with cur := [{ col := 0, word := 0 }] } }
theorem wit_pause : (updAt 3 [] id).b.r Reg.UPD_PHASE = 3 ∧ (updAt 3 [] id).b.upd.t0 ≤ (updAt 3 [] id).b.tim.stitch ∧ (updAt 3 [] id).b.tx.frames = [] ∧
    (updAt 4 [] id).b.r Reg.UPD_PHASE = 4 ∧ (updAt 4 [] id).b.upd.boundary = none := by decide +kernel
def allUp (u : Upd) : Upd := { u with boundary := some 9, micro := true, alive := List.range 8 }
theorem wit_up : (updAt 4 [] (fun u => { u with boundary := some 9 })).b.upd.boundary = some 9 ∧ (updAt 4 [] (fun u => { u with boundary := some 9 })).b.upd.micro = false ∧
    (updAt 4 [] (fun u => { u with boundary := some 9 })).b.setUp = false ∧ (updAt 4 [] allUp).b.setUp = true ∧ (updAt 4 [] allUp).b.upd.boundary = some 9 := by decide +kernel
/-- The last of two chunks; a chunk at the wrong offset; a chunk while an activation is in progress. -/
def chunkAt (ph off flags : Nat) : State :=
  updAt ph [(cbARG cbUPD 0, 8192), (cbARG cbUPD 1, off), (cbARG cbUPD 2, 4096), (cbARG cbUPD 3, flags)] (fun u => { u with load := some 4096 })
theorem wit_install_last : (chunkAt 1 4096 2).b.chunkBad cbUPD (chunkAt 1 4096 2).b.upd.load = none ∧ bit ((chunkAt 1 4096 2).b.arg cbUPD 3) 1 = true ∧
    ((chunkAt 1 4 0).b.chunkBad cbUPD (chunkAt 1 4 0).b.upd.load).isSome = true ∧ (chunkAt 2 4096 0).b.chunkBad cbUPD (chunkAt 2 4096 0).b.upd.load = none ∧
    1 < (chunkAt 2 4096 0).b.r Reg.UPD_PHASE := by decide +kernel
/-- A settings record of the CURRENT set whose owner the new set does not have. -/
def strange : State := chip (updAt 0 [] id) (fun b => { b with nv := { b.nv with settings := [{ id := 1, ownerType := 99, ownerIndex := 0, ver := 0, writer := 5, body := [] }] } })
theorem wit_activate_refused : (updAt 1 [] id).b.r Reg.UPD_PHASE ≠ 0 ∧
    (chip (updAt 0 [] id) (node1 [(Cx.STATE, 1)])).b.mac.nodes.any (fun e => cx e.2 Cx.STATE != 0 &&
      decide (((updAt 0 [] id).b.nv.patOf (updAt 0 [] id).b.nv.otherCopy).nodeCount ≤ e.1)) = true ∧
    strange.b.nv.migrated (strange.b.nv.ver strange.b.nv.curBank) (strange.b.nv.bank strange.b.nv.otherBank).manifest = none := by decide +kernel
/-- A wake run in every slot, beacons kept. -/
def crowded : State := chip (updAt 2 [(Reg.SCH_KEEP_LISTEN, 1)] id) (fun b =>
  { b with sch := { b.sch with runs := [(0, { col := 0, slot := 0, count := 60000 })] }, pat := { b.pat with slotStitches := 4, sfExp := 4 } })
theorem wit_no_window : crowded.b.pickPause (cdiv (max crowded.b.upd.earliest (crowded.b.tim.stitch + 2)) (max 1 crowded.b.pat.slotStitches)) = none ∧
    (updAt 4 [(cbBUSY cbUPD, 1)] id).b.t (cbBUSY cbUPD) = true ∧ (updAt 0 [] id).b.setUp = false ∧ (updAt 0 [] id).b.upd.boundary = none := by decide +kernel

/-! ### Supplies, starts and power -/

def power (off : Nat) (l : List (Fld × Nat)) : State := chip (radio l id) (fun b => { b with boot := { b.boot with off := off } })
theorem wit_start : State.reset.b.boot.off = 2 ∧ ({ } : StartIn).strap = false ∧ State.reset.b.helperUsed { helperBad := [0, 1] } = none ∧ ({ bch := none } : StartIn).bch = none ∧ (power 0 []).b.boot.off = 0 ∧
    (power 0 []).b.t Reg.PWR_BATTERY = false ∧ (chip (power 0 []) (fun b => { b with boot := { b.boot with warm := some 6 } })).b.boot.warm = some 6 ∧
    (power 0 []).b.t Reg.DBG_STRAP = false := by decide +kernel
def onBatt (p : Nat) : State := power 0 [(Reg.PWR_BATTERY, 1), (Reg.PWR_PSTATE, p), (Reg.PWR_VIN_GOOD, 1)]
theorem wit_battery : (onBatt 3).b.boot.off = 0 ∧ (onBatt 3).b.t Reg.PWR_BATTERY = true ∧ (onBatt 3).b.pstate ≠ 4 ∧ (onBatt 3).b.Quiet ∧
    (onBatt 3).b.t Reg.PWR_VIN_GOOD = true ∧ (onBatt 3).b.limp = false := by
  refine ⟨by decide, by decide, by decide, ⟨rfl, rfl⟩, by decide⟩
def supplied (l : List (Fld × Nat)) : State := power 0 ((Reg.PWR_VIN_GOOD, 1) :: l)
theorem wit_vin_lost : (supplied [(Reg.PWR_BATT_EN, 1), (Reg.PWR_VBAK_GOOD, 1)]).b.t Reg.PWR_VIN_GOOD = true ∧ (supplied []).b.boot.off = 0 ∧
    (supplied [(Reg.PWR_BATT_EN, 1), (Reg.PWR_VBAK_GOOD, 1)]).b.ready = true ∧ (supplied [(Reg.PWR_BATT_EN, 1), (Reg.PWR_VBAK_GOOD, 1)]).b.t Reg.PWR_BATT_EN = true ∧
    (supplied [(Reg.PWR_BATT_EN, 1), (Reg.PWR_VBAK_GOOD, 1)]).b.t Reg.PWR_VBAK_GOOD = true ∧ (supplied []).b.t Reg.PWR_VBAK_GOOD = false := by decide
/-- NAP until 90 ns of network time, which reads 100 ns and does not run. -/
def napping : State := chip (power 0 [(Reg.PWR_PSTATE, 2)]) (fun b => { b with tim := { b.tim with started := false }, pwr := { b.pwr with exitAt := some 90 } })
theorem wit_exit : napping.b.pwr.exitAt = some 90 ∧ napping.b.passTo (90 * nsU) = napping.b ∧ 90 ≤ napping.b.nowNs ∧ 1 ≤ napping.b.pstate ∧ napping.b.pstate ≤ 3 := by
  refine ⟨by decide, rfl, by decide +kernel, by decide⟩
theorem wit_nap_quiet : napping.b.Quiet := ⟨rfl, rfl⟩
def dozing : State := power 0 [(Reg.PWR_PSTATE, 4), (Reg.CKR_DOMAIN_STATE, dozeDomains)]
theorem wit_doze : dozing.b.pstate = 4 ∧ ({ stage := 0 } : WakeIn).stage = 0 := by decide
theorem wit_doze_quiet : dozing.b.Quiet := ⟨rfl, rfl⟩
theorem wit_restoring : (chip dozing (fun b => { b with pwr := { b.pwr with restoring := true } })).b.pwr.restoring = true := by decide
def hearing : State := power 0 [(Reg.WUR_EN, 1), (Reg.WUR_ACTIVE_LISTEN, 1), (Reg.WUR_A_ACT, 2), (Reg.WUR_B_ACT, 0), (Reg.WUR_PAT_A, 0xF0F0), (Reg.WUR_A_LEN, 0), (Reg.WUR_MAX_ERR, 1)]
theorem wit_wake_pattern : hearing.b.wurListens = true ∧ hearing.b.r Reg.WUR_A_ACT = 2 ∧ hearing.b.r Reg.WUR_B_ACT = 0 ∧
    hearing.b.wurMatches 0xF0F1 (hearing.b.r Reg.WUR_PAT_A) (hearing.b.t Reg.WUR_A_LEN) = true := by decide +kernel
theorem wit_hear_quiet : hearing.b.Quiet := ⟨rfl, rfl⟩
def inSafe : State := power 0 [(Reg.GLB_STATE, 2)]
theorem wit_boundary : inSafe.b.timeRuns = true ∧ inSafe.b.tickClean = true ∧ inSafe.b.working = false ∧ inSafe.b.r Reg.UPD_PHASE ≠ 4 ∧ inSafe.b.tim.trig = [] := by decide +kernel
theorem wit_boundary_quiet : inSafe.b.Quiet := ⟨rfl, rfl⟩
theorem wit_budget : (power 0 []).b.timeRuns = true ∧ (power 0 []).b.working = true ∧ kget (power 0 []).b.acc (N.BUDGET_SLIP * 2 ^ 16) = none ∧
    (power 0 []).b.mirrorOn = false ∧ (power 0 []).b.owed = [] ∧ (chip (power 0 []) (fun b => { b with owed := [(WORK.DARN, [1])] })).b.owed = [(WORK.DARN, [1])] := by decide +kernel
theorem wit_supply_none : State.reset.b.t Reg.PWR_VIN_GOOD = false ∧ (supplied []).b.t Reg.PWR_BATTERY = false ∧ (supplied []).b.boot.warm = none ∧
    (supplied []).b.pstate ≠ 4 ∧ (supplied []).b.pwr.exitAt = none ∧ (supplied []).b.wurListens = false ∧ (supplied []).b.pwr.restoring = false ∧
    (supplied []).b.mirrorOn = false ∧ State.reset.b.timeRuns = false ∧ (saf []).b.working = false := by decide
theorem wit_battery_warm : (chip (onBatt 0) (fun b => { b with boot := { b.boot with warm := some 4 } })).b.boot.warm ≠ none ∧ (onBatt 0).b.t Reg.PWR_BATTERY = true ∧
    (supplied [(Reg.GLB_STATE, 2)]).b.ready = false := by decide
/-- A WAKE pattern in DOZE. -/
def sleeping : State := chip hearing (fun b => (b.w Reg.PWR_PSTATE 4).w Reg.WUR_A_ACT 1)
theorem wit_wake : sleeping.b.wurListens = true ∧ sleeping.b.r Reg.WUR_A_ACT = 1 ∧ sleeping.b.r Reg.WUR_B_ACT = 0 ∧ sleeping.b.pstate = 4 ∧ sleeping.b.Quiet ∧
    sleeping.b.wurMatches 0xF0F1 (sleeping.b.r Reg.WUR_PAT_A) (sleeping.b.t Reg.WUR_A_LEN) = true := by
  refine ⟨by decide +kernel, by decide +kernel, by decide +kernel, by decide +kernel, ⟨rfl, rfl⟩, by decide +kernel⟩
theorem wit_slip : WORK.DARN ≠ WORK.STATS ∧ kget (power 0 []).b.acc (N.BUDGET_SLIP * 2 ^ 16) = none ∧
    kget (chip (power 0 []) (fun b => b.note (N.BUDGET_SLIP * 2 ^ 16) 1)).b.acc (N.BUDGET_SLIP * 2 ^ 16) ≠ none := by decide

/-! ### The hosts -/

/-- Word 1,023 of the request buffer holds 0x04030201, in READY with the console free to write. -/
def hosted (l : List (Fld × Nat)) : State := { power 0 ((Reg.GLB_UART_WR_EN, 1) :: l) with mem := Memory.write [] 0x261FFC [1, 2, 3, 4] }
theorem wit_access : (hosted []).b.ready = true ∧ 1023 < 1024 ∧ 0x261FFC = 0x261000 + 4 * 1023 ∧ leNat ((hosted []).mem.read 0x261FFC 4) = 0x04030201 ∧
    (hosted []).b.coreRuns = true ∧ (hosted []).b.parked 8 = false ∧ (hosted []).b.t Reg.GLB_UART_WR_EN = true ∧ (hosted []).b.limp = false ∧
    400 ≤ (0x30190 : Word).toNat % 2 ^ 16 := by decide +kernel
theorem wit_access_awake : (hosted []).b.Awake ∧ (hosted []).b.Quiet := ⟨⟨by decide, by decide⟩, ⟨rfl, rfl⟩⟩
def latched : State := chip (hosted [(Reg.SEA_TAG_FAIL, 7)]) (fun b => { b with bank := [(Reg.SEA_TAG_FAIL.key, 3)], latch := [(lkey .spi 0x40044, 9)] })
theorem wit_latch : kget latched.b.latch (lkey .spi 0x40044) = some 9 ∧ kgetD latched.b.bank Reg.SEA_TAG_FAIL.key 0 = 3 := by decide +kernel
/-- A management request of an operation with a body; its truncated HMAC is whatever it is. -/
def asked (op : Nat) (l : List Nat) : MgmtReq :=
  { port := 1, src := 0, sport := 0, mac := 0, data := leBytes op 2 ++ [0, 0] ++ leBytes 5 8 ++ leBytes l.length 4 ++ l ++ List.replicate 16 0 }
def managed (op : Nat) (l : List Nat) : State := chip (hosted [(Reg.SVC_RUNNING, 16), (Reg.NTC_LOC, 1), (Reg.NTC_WR_IDX, 3), (Reg.NTC_RD_IDX, 4094)])
  (fun b => { b with hif := { b.hif with mgmt := [asked op l] }, pat := { b.pat with svcMask := 0x1F } })
def rdBody : List Nat := leBytes 0x261FFC 4 ++ leBytes 1 4
theorem wit_mgmt : (managed 1 rdBody).b.hif.mgmt = [asked 1 rdBody] ∧ bit ((managed 1 rdBody).b.r Reg.SVC_RUNNING) 4 = true ∧ mgmtOp (asked 1 rdBody) = 1 ∧
    mgmtBody (asked 1 rdBody) = rdBody ∧ fldLE rdBody 0 4 = 0x261000 + 4 * 1023 ∧ fldLE rdBody 4 4 = 1 ∧ mgmtOp (asked 2 (rdBody ++ [9, 8, 7, 6])) = 2 ∧
    (mgmtBody (asked 2 (rdBody ++ [9, 8, 7, 6]))).length = 12 ∧ mgmtOp (asked 4 (leBytes 64 4)) = 4 ∧ fldLE (mgmtBody (asked 4 (leBytes 64 4))) 0 4 = 64 ∧
    (managed 4 (leBytes 64 4)).b.t Reg.NTC_LOC = true ∧ (asked 4 (leBytes 64 4)).port < 2 := by decide +kernel
def subBody : List Nat := leBytes 3 2 ++ [0, 0] ++ leBytes 7 4 ++ leBytes 1 4 ++ leBytes 0 4 ++ [15]
theorem wit_mgmt_submit : mgmtOp (asked 3 subBody) = 3 ∧ mgmtBody (asked 3 subBody) = subBody ∧ subBody.length = 16 + fldLE subBody 8 4 ∧ fldLE subBody 0 2 ≠ 0xF0 ∧
    (managed 3 subBody).b.opCheck (fldLE subBody 0 2) = none := by decide +kernel
theorem wit_notices : (hosted []).b.starting = false ∧ (hosted []).b.safe = false ∧ (hosted []).b.t Reg.NTC_EN = false ∧ bit (3 : Word).toNat 0 = true ∧
    moderated 19 = true ∧ kgetD (chip (hosted []) (fun b => { b with ntc := { b.ntc with mod := [(19, 1)] } })).b.ntc.mod 19 0 ≠ 0 := by decide +kernel
theorem wit_ring : 6 ≤ bits (0x106 : Word).toNat 0 4 ∧ bits (0x10C : Word).toNat 0 4 ≤ 12 ∧ (hosted []).b.t (ringEn true 7) = false ∧ bit (0x106 : Word).toNat 8 = true := by decide +kernel
/-- Ring 7 with one posted buffer of 64 octets, and queue 3 of the host with an item of three. -/
def delivering : State := chip (hosted [(Reg.HIF_RX_EN 7, 1), (Reg.HIF_TX_EN 7, 1), (Reg.HIF_LINK_UP, 1), (Reg.HIF_BUS_MASTER, 1), (Reg.HIF_RX_HEAD 7, 63), (Reg.HIF_HOST_RING_MAP 0, 7 * 4096)])
  (fun b => { b with
      hif := { b.hif with rx := [(7, [(4096, 64)])] }
      pat := { b.pat with queueCount := 5 }
      queues := [(3, { consumer := CONS_HOST, ct := 4, items := [item1] }), (4, { consumer := CONS_SCHED })] })
theorem wit_delivery : delivering.b.t (Reg.HIF_RX_EN 7) = true ∧ delivering.b.pcieUp = true ∧ delivering.b.pat.queueCount ≤ 8192 ∧ delivering.b.ringQs 7 = [3] ∧
    delivering.b.presents 3 noNode = some item1 ∧ kgetD delivering.b.hif.rx 7 [] = [(4096, 64)] ∧ badLen 64 = false ∧ item1.len ≤ 64 ∧
    item1.len ≤ 64 * (delivering.b.ringSize false 7 - 1) ∧ delivering.b.posted false 7 2 = 2 := by decide +kernel
def desc1 : TxDesc := { len := 3, queue := 4, prio := 5, last := true, data := [1, 2, 3] }
theorem wit_tx_ring : delivering.b.posted true 7 1 = 1 ∧ desc1.last = true ∧ kgetD delivering.b.hif.tx 7 [] = [] ∧
    (((delivering.b.w (Reg.HIF_TX_TAIL 7) 1).modHif (fun h => { h with tx := kdel h.tx 7 })).txChain [desc1]).2 = OK := by decide +kernel
theorem wit_links : (hosted []).b.boot.off = 0 ∧ (hosted []).b.parked 5 = false ∧
    bit (chip (hosted []) (fun b => { b with ntc := { b.ntc with pba := 2 ^ 31 } })).b.ntc.pba 31 = true ∧ bit (0 : Nat) 31 = false := by decide +kernel
def frameT (t : Nat) : List Nat := List.replicate 12 1 ++ beBytes t 2 ++ List.replicate 50 0
def ported : State := chip (hosted [(Reg.ETH_LINK 1, 1), (Reg.ETH_EN 1, 1), (Reg.ETH_HELD 1, 0), (Reg.ETH_MAX_FRAME 1, 68), (Reg.ETH_ETH_OTHER_Q, 4)]) (fun b =>
  { b with pat := { b.pat with queueCount := 5 }, queues := [(4, { consumer := CONS_HOST })] })
theorem wit_eth : ported.b.t (Reg.ETH_LINK 1) = true ∧ ported.b.t (Reg.ETH_EN 1) = true ∧ ported.b.t (Reg.ETH_HELD 1) = false ∧ ported.b.safe = false ∧
    (frameT 0x8808).length + 4 ≤ ported.b.r (Reg.ETH_MAX_FRAME 1) ∧ beNat (slice (frameT 0x8808) 12 2) = 0x8808 ∧
    ported.b.r (Reg.ETH_MAX_FRAME 1) < (frameT 0x8808 ++ [0]).length + 4 ∧ beNat (slice (frameT 0x88B5) 12 2) = 0x88B5 ∧
    (ported.b.pushSrc 4 68 (frameT 0x88B5) 0 1 none).code = OK := by decide +kernel
theorem wit_mgmt_bad : (managed 9 []).b.hif.mgmt = [asked 9 []] ∧ 4 < mgmtOp (asked 9 []) ∧ (managed 4 []).b.hif.mgmt = [asked 4 []] ∧ (mgmtBody (asked 4 [])).length < 4 ∧
    (mgmtBody (asked 3 rdBody)).length < 16 ∧ (mgmtRange []).isSome = true ∧ (hosted []).b.hif.mgmt = [] ∧ bit ((hosted []).b.r Reg.SVC_RUNNING) 4 = false ∧
    (chip (managed 4 (leBytes 64 4)) (fun b => b.w Reg.NTC_LOC 0)).b.t Reg.NTC_LOC = false ∧ (managed 3 subBody).b.svc.tickets.length < 8 := by decide +kernel
theorem wit_notices_set : State.reset.b.starting = true ∧ (hosted [(Reg.GLB_STATE, 2)]).b.safe = true ∧ bit (2 : Word).toNat 1 = true ∧
    (hosted [(Reg.NTC_EN, 1)]).b.t Reg.NTC_EN = true ∧ bit (1 : Word).toNat 1 = (hosted [(Reg.NTC_EN, 1)]).b.t Reg.NTC_LOC ∧ moderated 1 = false := by decide +kernel
theorem wit_ring_set : bits (0x105 : Word).toNat 0 4 < 6 ∧ 12 < bits (0x10D : Word).toNat 0 4 ∧ bit (0x006 : Word).toNat 8 = false ∧
    (hosted [(Reg.HIF_RX_EN 7, 1)]).b.t (ringEn false 7) = true := by decide +kernel
/-- Ring 7 with a buffer of no length, and with none. -/
def posting (l : List (Nat × Nat)) : State := chip delivering (fun b => { b with hif := { b.hif with rx := [(7, l)] } })
theorem wit_delivery_other : badLen 0 = true ∧ kgetD (posting [(4096, 0)]).b.hif.rx 7 [] = [(4096, 0)] ∧ kgetD (posting []).b.hif.rx 7 [] = [] ∧
    64 * (delivering.b.ringSize false 7 - 1) < 5000 ∧ fitDescs [(4096, 64)] 100 0 = .inr none ∧ (hosted []).b.ringQs 7 = [] ∧ (hosted []).b.pcieUp = false := by
  refine ⟨by decide +kernel, by decide +kernel, by decide +kernel, by decide +kernel, rfl, by decide +kernel⟩
theorem wit_tx_open : ({ desc1 with last := false } : TxDesc).last = false ∧ delivering.b.posted true 7 (delivering.b.r (Reg.HIF_TX_TAIL 7)) = 0 := by decide +kernel
theorem wit_links_off : State.reset.b.boot.off ≠ 0 ∧ (hosted [(Reg.GLB_FUNC 5, 1)]).b.parked 5 = true ∧
    (chip ported (fun b => b.w Reg.GLB_STATE 2)).b.safe = true ∧ (hosted []).b.t (Reg.ETH_LINK 1) = false := by decide +kernel

end Sys2Proof.Tests
end

section
/-!
SUPPORT. What a step does to the servo: network time, the SET and STEP that wait, the staged words, DISC and DISC_CNT. Everything that follows a
TIME tick in the same step, in TIM's triggers, the timer channels and the other blocks, leaves them (R134, R136, R265, R441, R585).
-/
namespace Sys2Proof.Machine

/-- What a SET commit's tick decides (R134). -/
structure Servo where
  now : Nat
  pendSet : Option Nat
  pendStep : Option Int
  staged : KV Nat
  disc : Nat
  discCnt : Nat

/-- The servo of a block. -/
def Chip.servo (b : Chip) : Servo :=
  ⟨b.tim.now, b.tim.pendSet, b.tim.pendStep, b.staged, b.r Reg.TIM_DISC, b.r Reg.TIM_DISC_CNT⟩

/-! ### Registers and parts of the block outside the servo -/

/-- Writing a register away from the servo's. -/
theorem Chip.servo_w {f : Fld} (b : Chip) (v : Nat) (h : f.key < 0x40000 * 32 ∨ 0x40100 * 32 ≤ f.key) : (b.w f v).servo = b.servo := by
  have hd : Reg.TIM_DISC.key = 0x40004 * 32 + 1 := rfl
  have hc : Reg.TIM_DISC_CNT.key = 0x4004C * 32 := rfl
  simp only [Chip.servo, Chip.w_tim, Chip.w_staged, Chip.r_w_ne b f Reg.TIM_DISC v (by omega), Chip.r_w_ne b f Reg.TIM_DISC_CNT v (by omega)]

/-- Every register above the servo's leaves it. -/
theorem Chip.servo_w_above {f : Fld} (b : Chip) (v : Nat) (h : 0x40100 ≤ f.off) : (b.w f v).servo = b.servo :=
  Chip.servo_w b v (.inr (by simp only [Fld.key]; omega))

/-- A register of a row of registers, by the offset of its first. -/
theorem Chip.servo_w_row {f : Fld} {o k : Nat} (b : Chip) (v : Nat) (hf : f.off = o + k) (ho : 0x40100 ≤ o) : (b.w f v).servo = b.servo :=
  Chip.servo_w_above b v (by omega)

/-- Every register of a timer channel, which lies below the servo's. -/
theorem Chip.servo_w_tmr {f : Fld} {n o : Nat} (b : Chip) (v : Nat) (hn : n < 64) (hf : f.off = o + 0x40 * n) (ho : o < 0x31000)
    (hl : f.lo.ble 31 = true) : (b.w f v).servo = b.servo := by
  have h31 : f.lo ≤ 31 := Nat.le_of_ble_eq_true hl
  exact Chip.servo_w b v (.inl (by simp only [Fld.key]; omega))

theorem Chip.servo_queues (b : Chip) (x : KV Queue) : Chip.servo { b with queues := x } = b.servo := rfl
theorem Chip.servo_tmg (b : Chip) (x : Tmg) : Chip.servo { b with tmg := x } = b.servo := rfl
theorem Chip.servo_tx (b : Chip) (x : Tx) : Chip.servo { b with tx := x } = b.servo := rfl
theorem Chip.servo_sch (b : Chip) (x : Sch) : Chip.servo { b with sch := x } = b.servo := rfl
theorem Chip.servo_sea (b : Chip) (x : Sea) : Chip.servo { b with sea := x } = b.servo := rfl
theorem Chip.servo_key (b : Chip) (x : Key) : Chip.servo { b with key := x } = b.servo := rfl
theorem Chip.servo_cap (b : Chip) (x : KV CapSt) : Chip.servo { b with cap := x } = b.servo := rfl
theorem Chip.servo_rawCap (b : Chip) (x : List RawWin) : Chip.servo { b with rawCap := x } = b.servo := rfl
theorem Chip.servo_tmrAcc (b : Chip) (x : KV Nat) : Chip.servo { b with tmrAcc := x } = b.servo := rfl
theorem Chip.servo_trig (b : Chip) (x : KV Nat) : Chip.servo { b with tim := { b.tim with trig := x } } = b.servo := rfl
@[simp] theorem Chip.servo_note (b : Chip) (k n : Nat) : (b.note k n).servo = b.servo := rfl
@[simp] theorem Chip.servo_emit (b : Chip) (o : Out) : (b.emit o).servo = b.servo := rfl

@[simp] theorem Chip.servo_raise (b : Chip) (src code arg : Nat) : (b.raise src code arg).servo = b.servo := by
  simp only [Chip.servo, Chip.raise_tim, Chip.raise_staged, Chip.raise_r _ _ _ _ Reg.TIM_DISC (by decide),
    Chip.raise_r _ _ _ _ Reg.TIM_DISC_CNT (by decide)]

/-- A choice keeps the servo where both of its branches do. -/
theorem Chip.servo_ite {c : Prop} [Decidable c] {x y b : Chip} (hx : x.servo = b.servo) (hy : y.servo = b.servo) :
    (if c then x else y).servo = b.servo := by
  split
  · exact hx
  · exact hy

/-- A fold keeps the servo where each of its steps does. -/
theorem Chip.servo_foldl {α : Type} {f : Chip → α → Chip} (l : List α) (b : Chip) (hf : ∀ c, ∀ x ∈ l, (f c x).servo = c.servo) :
    (l.foldl f b).servo = b.servo :=
  List.foldlRecOn (motive := fun c => c.servo = b.servo) l f rfl fun c hc x hx => (hf c x hx).trans hc

@[simp] theorem Chip.servo_noteFirst (b : Chip) (code first n : Nat) : (b.noteFirst code first n).servo = b.servo :=
  Chip.servo_ite rfl rfl

/-! ### Queues -/

@[simp] theorem Chip.servo_marks (b : Chip) (n : Nat) (old new : Queue) : (b.marks n old new).servo = b.servo := by
  unfold Chip.marks
  extract_lets w i b1 b2 b3
  have h1 : b1.servo = b.servo := Chip.servo_ite (Chip.servo_w_row b _ rfl (by decide)) rfl
  have h2 : b2.servo = b1.servo := Chip.servo_ite (Chip.servo_w_row b1 _ rfl (by decide)) rfl
  have h3 : b3.servo = b2.servo := Chip.servo_ite (Chip.servo_w_row b2 _ rfl (by decide)) rfl
  rw [← h1, ← h2, ← h3]
  exact Chip.servo_ite (Chip.servo_w_row b3 _ rfl (by decide)) rfl

@[simp] theorem Chip.servo_putQ (b : Chip) (n : Nat) (q : Queue) : (b.putQ n q).servo = b.servo := by
  unfold Chip.putQ
  extract_lets old bitSet new g b1 b2 b3 b4 b5
  have h2 : b2.servo = b.servo := Eq.trans (Chip.servo_w_row b1 _ rfl (by decide)) (Chip.servo_queues b _)
  have h4 : b4.servo = b2.servo := (Chip.servo_w_above b3 _ (by decide)).trans (Chip.servo_w_above b2 _ (by decide))
  have h5 : b5.servo = b4.servo := Chip.servo_ite (Chip.servo_w_above b4 _ (by decide)) rfl
  rw [Chip.servo_marks, h5, h4, h2]

@[simp] theorem Chip.servo_releaseItem (b : Chip) (n id : Nat) : (b.releaseItem n id).servo = b.servo := by
  unfold Chip.releaseItem
  split
  · rfl
  · exact (Chip.servo_w_above _ _ (by decide)).trans (Chip.servo_putQ _ _ _)

@[simp] theorem Chip.servo_returnItem (b : Chip) (n id : Nat) : (b.returnItem n id).servo = b.servo := by
  unfold Chip.returnItem
  split
  · exact Chip.servo_ite ((Chip.servo_w_above _ _ (by decide)).trans (Chip.servo_putQ _ _ _)) rfl
  · rfl

@[simp] theorem Chip.servo_dropRest (b : Chip) (n id : Nat) : (b.dropRest n id).servo = b.servo := by
  unfold Chip.dropRest
  split
  · rfl
  · exact (Chip.servo_w_above _ _ (by decide)).trans
      ((Chip.servo_releaseItem _ _ _).trans (Chip.servo_ite (Chip.servo_w_above _ _ (by decide)) rfl))

/-! ### The scheduler and the gates -/

@[simp] theorem Chip.servo_childFresh (b : Chip) (m k : Nat) : (b.childFresh m k).servo = b.servo :=
  Chip.servo_ite (Chip.servo_ite rfl rfl) (Chip.servo_ite rfl rfl)

@[simp] theorem Chip.servo_stage' (b : Chip) (m fuel : Nat) : (b.stage' m fuel).servo = b.servo := by
  induction fuel generalizing b with
  | zero => rfl
  | succ f ih =>
    unfold Chip.stage'
    split
    · rfl
    · refine Chip.servo_ite ((ih _).trans (Chip.servo_childFresh _ _ _)) ?_
      simp only []
      split
      · rfl
      · exact Chip.servo_ite rfl (ih _)

@[simp] theorem Chip.servo_restage (b : Chip) (m : Nat) : (b.restage m).servo = b.servo := by
  unfold Chip.restage
  simp only []
  split
  · exact Chip.servo_ite rfl rfl
  · exact (Chip.servo_stage' _ _ _).trans (Chip.servo_ite rfl rfl)

@[simp] theorem Chip.servo_up (b : Chip) (k fuel : Nat) : (b.up k fuel).servo = b.servo := by
  induction fuel generalizing b k with
  | zero => rfl
  | succ f ih => exact Chip.servo_ite rfl ((ih _ _).trans ((Chip.servo_restage _ _).trans (Chip.servo_childFresh _ _ _)))

@[simp] theorem Chip.servo_gateHold (b : Chip) (q : Nat) : (b.gateHold q).servo = b.servo := by
  unfold Chip.gateHold
  split
  · rfl
  · exact Chip.servo_ite rfl (Chip.servo_ite rfl (Chip.servo_w_row _ _ rfl (by decide)))

@[simp] theorem Chip.servo_tooLong (b : Chip) (q fuel : Nat) : (b.tooLong q fuel).servo = b.servo := by
  induction fuel generalizing b with
  | zero => rfl
  | succ f ih =>
    unfold Chip.tooLong
    split
    · rfl
    · extract_lets p k w b1 first
      have h1 : b1.servo = b.servo :=
        (Chip.servo_note _ _ _).trans (Eq.trans (Chip.servo_w_row _ _ rfl (by decide)) (Chip.servo_dropRest b q _))
      exact Chip.servo_ite rfl ((ih _).trans ((Chip.servo_tmg b1 _).trans h1))

@[simp] theorem Chip.servo_tmgQ (b : Chip) (q : Nat) : (b.tmgQ q).servo = b.servo :=
  Chip.servo_ite rfl ((Chip.servo_up _ _ _).trans ((Chip.servo_gateHold _ _).trans (Chip.servo_tooLong _ _ _)))

@[simp] theorem Chip.servo_tmgPort (b : Chip) (p : Nat) : (b.tmgPort p).servo = b.servo :=
  Chip.servo_foldl _ b fun c q _ => Chip.servo_ite (Chip.servo_tmgQ c q) rfl

@[simp] theorem Chip.servo_gateShow (b : Chip) (p : Nat) : (b.gateShow p).servo = b.servo :=
  Eq.trans (Chip.servo_w_row _ _ rfl (by decide)) (Chip.servo_w_row _ _ rfl (by decide))

@[simp] theorem Chip.servo_gatePut (b : Chip) (p : Nat) (s : GateSwap) : (b.gatePut p s).servo = b.servo := by
  unfold Chip.gatePut
  extract_lets tmg b1 b2 b3
  have h1 : b1.servo = b.servo := Chip.servo_tmg b tmg
  have h2 : b2.servo = b1.servo := Eq.trans (Chip.servo_w_row _ _ rfl (by decide))
    (Eq.trans (Chip.servo_w_row _ _ rfl (by decide)) (Chip.servo_w_row b1 _ rfl (by decide)))
  have h3 : b3.servo = b2.servo := (Chip.servo_raise _ _ _ _).trans (Chip.servo_w_row b2 _ rfl (by decide))
  rw [Chip.servo_tmgPort, Chip.servo_gateShow, h3, h2, h1]

@[simp] theorem Chip.servo_gateJump (b : Chip) (p : Nat) : (b.gateJump p).servo = b.servo := by
  unfold Chip.gateJump
  simp only []
  rw [Chip.servo_tmgPort, Chip.servo_gateShow]
  split
  · exact Chip.servo_ite (Chip.servo_gatePut _ _ _) rfl
  · rfl

/-! ### Nodes and cells -/

@[simp] theorem Chip.servo_ndw (b : Chip) (n : Nat) (f : CxF) (v : Nat) : (b.ndw n f v).servo = b.servo := rfl
@[simp] theorem Chip.servo_ndAdd (b : Chip) (n : Nat) (f : CxF) (k : Nat) : (b.ndAdd n f k).servo = b.servo := rfl

@[simp] theorem Chip.servo_setCell (b : Chip) (i w : Nat) : (b.setCell i w).servo = b.servo :=
  (Chip.servo_w_above _ _ (by decide)).trans (Chip.servo_sch _ _)

theorem nsFld_above {st : Nat} {f : Fld} (h : nsFld st = some f) : 0x40100 ≤ f.off := by
  unfold nsFld at h
  split at h <;> cases h <;> decide

@[simp] theorem Chip.servo_setNs (b : Chip) (n st : Nat) : (b.setNs n st).servo = b.servo := by
  have sub (o : Option Fld) (h : nsFld (b.ns n) = o) : (match o with
      | some f => b.sub f 1
      | none => b).servo = b.servo := by
    cases o with
    | none => rfl
    | some f => exact Chip.servo_w_above b _ (nsFld_above h)
  have add (c : Chip) (o : Option Fld) (h : nsFld st = o) : (match o with
      | some f => c.add f 1
      | none => c).servo = c.servo := by
    cases o with
    | none => rfl
    | some f => exact Chip.servo_w_above c _ (nsFld_above h)
  exact (add _ _ rfl).trans (sub _ rfl)

@[simp] theorem Chip.servo_freeHeld (b : Chip) (n : Nat) : (b.freeHeld n).servo = b.servo :=
  (Chip.servo_w_above _ _ (by decide)).trans (Chip.servo_foldl _ b fun _ _ _ => Chip.servo_setCell _ _ _)

@[simp] theorem Chip.servo_runReserve (b : Chip) (n len : Nat) : (b.runReserve n len).servo = b.servo := by
  unfold Chip.runReserve
  split
  · exact (Chip.servo_sch _ _).trans (Chip.servo_foldl _ b fun _ _ _ => Chip.servo_setCell _ _ _)
  · exact (Chip.servo_sch _ _).trans ((Chip.servo_noteFirst _ _ _ _).trans (Chip.servo_w_above _ _ (by decide)))

@[simp] theorem Chip.servo_wantRun (b : Chip) (n : Nat) : (b.wantRun n).servo = b.servo := by
  unfold Chip.wantRun
  refine Chip.servo_ite rfl ?_
  split
  · exact Chip.servo_runReserve _ _ _
  · rfl

@[simp] theorem Chip.servo_goLost (b : Chip) (n : Nat) : (b.goLost n).servo = b.servo := by
  unfold Chip.goLost
  extract_lets b1 b2 b3 sch b4
  have h1 : b1.servo = b.servo := (Chip.servo_ndw _ _ _ _).trans ((Chip.servo_ndw _ _ _ _).trans ((Chip.servo_ndAdd _ _ _ _).trans (Chip.servo_setNs b n NS.LOST)))
  have h2 : b2.servo = b1.servo := Chip.servo_foldl _ b1 fun _ _ _ => Chip.servo_setCell _ _ _
  have h3 : b3.servo = b2.servo := (Chip.servo_noteFirst _ _ _ _).trans (Chip.servo_w_above b2 _ (by decide))
  have h4 : b4.servo = b3.servo := Chip.servo_sch b3 _
  rw [Chip.servo_wantRun, ← h1, ← h2, ← h3, ← h4]
  exact Chip.servo_ite (Chip.servo_freeHeld b4 n) rfl

/-! ### Frames to send -/

theorem Chip.servo_cmdFinish (b : Chip) (base code : Nat) (l : List Nat) (h : 0x50000 ≤ base) : (b.cmdFinish base code l).servo = b.servo := by
  have below (f : Fld) (hf : f.key < 0x50000 * 32) : (b.cmdFinish base code l).r f = b.r f := by
    have hp : Reg.NTC_INT_PEND.key = 0x50030 * 32 := rfl
    exact Chip.cmdFinish_r b base code l f (by omega) (by omega)
  simp only [Chip.servo, Chip.cmdFinish_tim, Chip.cmdFinish_staged, below Reg.TIM_DISC (by decide), below Reg.TIM_DISC_CNT (by decide)]

@[simp] theorem Chip.servo_dlSync (b : Chip) (n : Nat) : (b.dlSync n).servo = b.servo := by
  unfold Chip.dlSync
  extract_lets k b1
  have h1 : b1.servo = b.servo := Chip.servo_ndw b n _ _
  exact Chip.servo_ite rfl ((Chip.servo_ite (Chip.servo_ndw b1 n _ _) rfl).trans h1)

@[simp] theorem Chip.servo_txItem (b : Chip) (f : TxF) (keep : Bool) : (b.txItem f keep).servo = b.servo := by
  unfold Chip.txItem
  split
  · rfl
  · exact (Chip.servo_dlSync _ _).trans (Chip.servo_ite (Chip.servo_returnItem _ _ _) (Chip.servo_releaseItem _ _ _))

@[simp] theorem Chip.servo_dropHead (b : Chip) (n : Nat) : (b.dropHead n).servo = b.servo := by
  unfold Chip.dropHead
  simp only []
  split
  · exact (Chip.servo_dlSync _ _).trans (Chip.servo_releaseItem _ _ _)
  · rfl

@[simp] theorem Chip.servo_dutySet (b : Chip) (c bk : Nat) (f : Nat → Nat) : (b.dutySet c bk f).servo = b.servo :=
  Eq.trans (Chip.servo_w_row _ _ rfl (by decide)) (Chip.servo_tx _ _)

@[simp] theorem Chip.servo_withdraw (b : Chip) (id : Nat) (f : TxF) : (b.withdraw id f).servo = b.servo :=
  (Chip.servo_tx _ _).trans ((Chip.servo_txItem _ _ _).trans (Chip.servo_ite (Chip.servo_dutySet _ _ _ _) rfl))

@[simp] theorem Chip.servo_airSpent (b : Chip) (f : TxF) : (b.airSpent f).servo = b.servo := by
  have spent (us : Nat) : (b.add (Reg.TXP_AIRTIME_US f.chain) us).servo = b.servo := Chip.servo_w_row _ _ rfl (by decide)
  exact Chip.servo_ite rfl ((Chip.servo_ite rfl (Chip.servo_w_row _ _ rfl (by decide))).trans (spent _))

theorem txRejFld_above {code c : Nat} {f : Fld} (h : txRejFld code c = some f) : 0x40100 ≤ f.off := by
  unfold txRejFld at h
  (repeat' split at h) <;> cases h <;> exact Nat.le_add_right_of_le (by decide)

@[simp] theorem Chip.servo_txEnded (b : Chip) (id code : Nat) (f : TxF) : (b.txEnded id code f).servo = b.servo := by
  have rej (c : Chip) (p : Bool) (o : Option Fld) (h : txRejFld code f.chain = o) : (match o with
      | some r => if p then c else c.inc r
      | none => c).servo = c.servo := by
    cases o with
    | none => rfl
    | some r => exact Chip.servo_ite rfl (Chip.servo_w_above c _ (txRejFld_above h))
  exact (Chip.servo_txItem _ _ _).trans
    ((Chip.servo_ite (Chip.servo_w_row _ _ rfl (by decide)) rfl).trans
      ((rej _ (f.isAck && code != ABORTED) _ rfl).trans
        ((Chip.servo_ite (Chip.servo_dutySet _ _ _ _) rfl).trans ((Chip.servo_tx _ _).trans (Chip.servo_airSpent b f)))))

@[simp] theorem Chip.servo_payloadDrop (b : Chip) (f : TxF) (code : Nat) : (b.payloadDrop f code).servo = b.servo :=
  Chip.servo_foldl _ b fun _ _ _ => Chip.servo_ite (Chip.servo_txEnded _ _ _ _) (Chip.servo_withdraw _ _ _)

@[simp] theorem Chip.servo_onAir (b : Chip) : b.onAir.servo = b.servo :=
  Chip.servo_foldl _ b fun _ _ _ => Chip.servo_w_row _ _ rfl (by decide)

@[simp] theorem Chip.servo_coexRelease (b : Chip) (c : Nat) : (b.coexRelease c).servo = b.servo :=
  Chip.servo_ite rfl (Eq.trans (Chip.servo_w_row _ _ rfl (by decide))
    (Chip.servo_w_row _ _ rfl (by decide)))

@[simp] theorem Chip.servo_txFail (b : Chip) (id code : Nat) : (b.txFail id code).servo = b.servo := by
  unfold Chip.txFail
  split
  · rfl
  · refine (Chip.servo_coexRelease _ _).trans ((Chip.servo_onAir _).trans ?_)
    simp only []
    split
    · exact (Chip.servo_payloadDrop _ _ _).trans
        (Chip.servo_ite (Chip.servo_txEnded _ _ _ _) ((Chip.servo_dropHead _ _).trans (Chip.servo_txEnded _ _ _ _)))
    · exact (Chip.servo_cmdFinish _ _ _ _ (by decide)).trans ((Chip.servo_tx _ _).trans (Chip.servo_txEnded _ _ _ _))
    · exact Chip.servo_txEnded _ _ _ _

/-! ### What a discontinuity does to the other blocks -/

@[simp] theorem Chip.servo_callJump (b : Chip) (id : Nat) (f : TxF) : (b.callJump id f).servo = b.servo :=
  Chip.servo_ite rfl (Chip.servo_txFail _ _ _)

@[simp] theorem Chip.servo_txNew (b : Chip) (f : TxF) : (b.txNew f).1.servo = b.servo := rfl

@[simp] theorem Chip.servo_planPair (b : Chip) (slot : Nat) : (b.planPair slot).servo = b.servo := by
  unfold Chip.planPair
  extract_lets col lane d off m t
  exact Chip.servo_ite rfl (Chip.servo_ite rfl (Chip.servo_txNew b _))

@[simp] theorem Chip.servo_schJump (b : Chip) (before cause us : Nat) : (b.schJump before cause us).servo = b.servo := by
  unfold Chip.schJump
  extract_lets ss m s first old skipped gone b0 sch b1 b2 near extra b3
  have h0 : b0.servo = b.servo := Chip.servo_foldl gone b fun _ _ _ =>
    Chip.servo_ite (Chip.servo_callJump _ _ _) ((Chip.servo_tx _ _).trans (Chip.servo_txItem _ _ _))
  have h1 : b1.servo = b0.servo := Chip.servo_sch b0 _
  have h2 : b2.servo = b1.servo := (Chip.servo_raise _ _ _ _).trans (Chip.servo_w_above b1 _ (by decide))
  have h3 : b3.servo = b2.servo := Chip.servo_foldl near b2 fun _ _ _ => Chip.servo_ite (Chip.servo_ite rfl (Chip.servo_goLost _ _)) (Chip.servo_ndAdd _ _ _ _)
  rw [← h0, ← h1, ← h2, ← h3]
  exact Chip.servo_ite rfl (Chip.servo_planPair b3 s)

@[simp] theorem Chip.servo_keyCounts (b : Chip) : b.keyCounts.servo = b.servo := by
  simp (disch := decide) only [Chip.keyCounts, Chip.servo_w_above]

@[simp] theorem Chip.servo_modPocket (b : Chip) (p : Nat) (f : Pocket → Pocket) : (b.modPocket p f).servo = b.servo := by
  unfold Chip.modPocket
  split
  · exact (Chip.servo_keyCounts _).trans (Chip.servo_key _ _)
  · rfl

@[simp] theorem Chip.servo_retireShift (b : Chip) (jump : Int) : (b.retireShift jump).servo = b.servo :=
  Chip.servo_foldl _ b fun _ _ _ => Chip.servo_ite (Chip.servo_modPocket _ _ _) rfl

@[simp] theorem Chip.servo_jumpAct (b : Chip) : b.jumpAct.servo = b.servo := by
  unfold Chip.jumpAct
  split
  · rfl
  · exact (Chip.servo_ite (Chip.servo_retireShift _ _) rfl).trans
      ((Chip.servo_foldl _ _ fun _ _ _ => Chip.servo_gateJump _ _).trans (Chip.servo_schJump _ _ _ _))

@[simp] theorem Chip.servo_peerActive (b : Chip) (epoch eui cause : Nat) (fresh : Bool) : (b.peerActive epoch eui cause fresh).servo = b.servo :=
  Chip.servo_ite (Chip.servo_ite rfl ((Chip.servo_raise _ _ _ _).trans (Chip.servo_sea _ _))) (Chip.servo_ite (Chip.servo_raise _ _ _ _) rfl)

@[simp] theorem Chip.servo_pairHeardAct (b : Chip) : b.pairHeardAct.servo = b.servo := by
  unfold Chip.pairHeardAct
  split
  · rfl
  · extract_lets sch b0 b1 own b2 b3
    have h0 : b0.servo = b.servo := Chip.servo_sch b sch
    have h1 : b1.servo = b0.servo := Chip.servo_w_above b0 _ (by decide)
    have h2 : b2.servo = b1.servo := Chip.servo_ite (Chip.servo_sea b1 _) rfl
    have h3 : b3.servo = b2.servo := Chip.servo_ite (Chip.servo_sea b2 _) rfl
    rw [← h0]
    refine Chip.servo_ite rfl ?_
    rw [← h1, ← h2]
    refine Chip.servo_ite rfl ?_
    rw [← h3]
    exact Chip.servo_ite (Chip.servo_ite (Chip.servo_sea b3 _) rfl) (Chip.servo_ite (Chip.servo_peerActive b3 _ _ _ _) rfl)

@[simp] theorem Chip.servo_ceilSend (b : Chip) : b.ceilSend.servo = b.servo := by
  obtain ⟨parts, regs⟩ := Chip.SeamOnly.ceilSend b
  have tim : b.ceilSend.tim = b.tim := by rw [parts]
  have staged : b.ceilSend.staged = b.staged := by rw [parts]
  simp only [Chip.servo, tim, staged, regs Reg.TIM_DISC (by decide), regs Reg.TIM_DISC_CNT (by decide)]

/-- Whatever a step leaves to the other blocks keeps the servo. -/
@[simp] theorem Chip.servo_settle (b : Chip) : b.settle.servo = b.servo :=
  (Chip.servo_ceilSend _).trans ((Chip.servo_pairHeardAct _).trans (Chip.servo_jumpAct b))

/-! ### Timer channels and triggers -/

theorem Chip.servo_tmrStat {n : Nat} (b : Chip) (i : Nat) (hn : n < 64) : (b.tmrStat n i).servo = b.servo := by
  unfold Chip.tmrStat
  split <;> exact Chip.servo_ite rfl ((Chip.servo_tmrAcc _ _).trans (Chip.servo_w_tmr b _ hn rfl (by decide) rfl))

theorem Chip.servo_chAdd {n : Nat} (b : Chip) (k : Nat) (hn : n < 64) : (b.chAdd n k).servo = b.servo := by
  unfold Chip.chAdd
  extract_lets count toEnd one k1 int r b1 b2
  have h1 : b1.servo = b.servo := Chip.servo_ite (Chip.servo_ite rfl
    (Eq.trans (Chip.servo_w_tmr _ _ hn rfl (by decide) rfl)
      (Eq.trans (Chip.servo_w_tmr _ _ hn rfl (by decide) rfl) (Chip.servo_tmrStat b 0 hn)))) rfl
  have h2 : b2.servo = b1.servo := Chip.servo_w_tmr b1 _ hn rfl (by decide) rfl
  rw [h1] at h2
  exact Chip.servo_ite rfl (Chip.servo_ite
    ((Chip.servo_tmrStat _ 1 hn).trans (Eq.trans (Chip.servo_w_tmr b2 _ hn rfl (by decide) rfl) h2)) h2)

@[simp] theorem Chip.servo_clkAdd (b : Chip) (clk k : Nat) : (b.clkAdd clk k).servo = b.servo :=
  Chip.servo_foldl _ b fun c _ hn => Chip.servo_ite (Chip.servo_chAdd c k (List.mem_range.mp hn)) rfl

theorem Chip.servo_capStore {n : Nat} (b : Chip) (hn : n < 64) : (b.capStore n).servo = b.servo :=
  Chip.servo_ite (Chip.servo_tmrStat b 3 hn)
    ((Chip.servo_tmrStat _ 2 hn).trans (Chip.servo_w_tmr (f := Reg.TMR_CAPTURE n) b _ hn rfl (by decide) rfl))

theorem Chip.servo_capEdge {n : Nat} (b : Chip) (rising : Bool) (hn : n < 64) : (b.capEdge n rising).servo = b.servo :=
  Chip.servo_ite rfl (Chip.servo_ite rfl (Chip.servo_ite ((Chip.servo_capStore _ hn).trans (Chip.servo_cap _ _)) (Chip.servo_cap _ _)))

@[simp] theorem Chip.servo_srcEvent (b : Chip) (src : Nat) : (b.srcEvent src).servo = b.servo :=
  Chip.servo_foldl _ b fun c n hn => by
    have h64 : n < 64 := List.mem_range.mp hn
    exact Eq.trans (Chip.servo_ite ((Chip.servo_capEdge _ false h64).trans (Chip.servo_capEdge _ true h64)) rfl)
      (Chip.servo_ite (Chip.servo_chAdd c 1 h64) rfl)

@[simp] theorem Chip.servo_windowStart (b : Chip) (n : Nat) : (b.windowStart n).servo = b.servo :=
  Chip.servo_ite (Chip.servo_w_row _ _ rfl (by decide))
    (Eq.trans (Chip.servo_w_row _ _ rfl (by decide))
      (Eq.trans (Chip.servo_w_row _ _ rfl (by decide)) (Chip.servo_rawCap b _)))

@[simp] theorem Chip.servo_trigFire (b : Chip) (n : Nat) : (b.trigFire n).servo = b.servo := by
  unfold Chip.trigFire
  extract_lets b1
  have h1 : b1.servo = b.servo := Eq.trans (Chip.servo_w_row _ _ rfl (by decide))
    (Eq.trans (Chip.servo_w_row _ _ rfl (by decide)) (Chip.servo_w_row b _ rfl (by decide)))
  rw [← h1]
  exact Chip.servo_ite ((Chip.servo_srcEvent _ _).trans (Chip.servo_emit b1 _)) (Chip.servo_windowStart b1 n)

@[simp] theorem Chip.servo_trigDisarm (b : Chip) (n code : Nat) : (b.trigDisarm n code).servo = b.servo :=
  (Chip.servo_trig _ _).trans (Eq.trans (Chip.servo_w_row _ _ rfl (by decide))
    (Chip.servo_w_row b _ rfl (by decide)))

@[simp] theorem Chip.servo_trigDue (b : Chip) (n : Nat) : (b.trigDue n).servo = b.servo := by
  unfold Chip.trigDue
  split
  · rfl
  · exact Chip.servo_ite rfl (Chip.servo_ite
      ((Chip.servo_trigFire _ n).trans ((Chip.servo_trig _ _).trans (Chip.servo_w_row b _ rfl (by decide))))
      ((Chip.servo_trigFire _ n).trans (Chip.servo_trig b _)))

@[simp] theorem Chip.servo_trigAll (b : Chip) : b.trigAll.servo = b.servo :=
  Chip.servo_foldl _ b fun c n _ => Chip.servo_trigDue c n

/-! ### A discontinuity, and the tick of a SET (R134, R136) -/

theorem satAdd_mod (w a n : Nat) : satAdd w a n % 2 ^ w = satAdd w a n := by
  refine Nat.mod_eq_of_lt ?_
  have hw : 0 < 2 ^ w := Nat.two_pow_pos w
  unfold satAdd
  split <;> omega

theorem Chip.servo_w_disc (b : Chip) (v : Bool) : (b.wb Reg.TIM_DISC v).servo = { b.servo with disc := b2n v } := by
  have bit : b2n v % 2 ^ Reg.TIM_DISC.w = b2n v := by cases v <;> rfl
  simp only [Chip.servo, Chip.wb_eq, Chip.w_tim, Chip.w_staged, Chip.r_w_same, bit, Chip.r_w_ne _ Reg.TIM_DISC Reg.TIM_DISC_CNT _ (by decide)]

theorem Chip.servo_inc_discCnt (b : Chip) : (b.inc Reg.TIM_DISC_CNT).servo = { b.servo with discCnt := satAdd 32 b.servo.discCnt 1 } := by
  simp only [Chip.servo, Chip.inc_eq, Chip.w_tim, Chip.w_staged, Chip.r_w_same, Chip.r_w_ne _ Reg.TIM_DISC_CNT Reg.TIM_DISC _ (by decide)]
  rw [satAdd_mod]
  rfl

@[simp] theorem Chip.servo_restitch (b : Chip) : b.restitch.servo = b.servo := rfl
theorem Chip.servo_jump (b : Chip) (l : List Nat) (x : Option (Nat × Nat × Nat)) :
    Chip.servo { b with tim := { b.tim with fifoDisc := l, jump := x } } = b.servo := rfl

/-- A discontinuity sets DISC and counts in DISC_CNT (R136). -/
theorem Chip.servo_discont (b : Chip) (cause w12 us : Nat) :
    (b.discont cause w12 us).servo = { b.servo with disc := 1, discCnt := satAdd 32 b.servo.discCnt 1 } := by
  unfold Chip.discont
  extract_lets b1 b2 b3 b4
  have h1 : b1.servo = { b.servo with disc := 1 } := by rw [Chip.servo_w_disc, Chip.servo_raise]; rfl
  have h2 : b2.servo = { b.servo with disc := 1, discCnt := satAdd 32 b.servo.discCnt 1 } := by rw [Chip.servo_inc_discCnt, h1]
  have h3 : b3.servo = b2.servo := Chip.servo_foldl _ b2 fun c _ hn =>
    Chip.servo_ite (Chip.servo_w_tmr c _ (List.mem_range.mp hn) rfl (by decide) rfl) rfl
  have h4 : b4.servo = b3.servo := Chip.servo_foldl _ b3 fun c n _ => Chip.servo_ite (Chip.servo_trigDisarm c n TIME_DISC) rfl
  rw [← h2, ← h3, ← h4, Chip.servo_restitch, Chip.servo_jump]

/-- The first tick after a SET loads the time, drops the STEP that waits or is staged, and is a discontinuity (R134). -/
theorem Chip.servo_setTick (b : Chip) (t : Nat) :
    (b.setTick t).servo = ⟨t, none, none, (b.unstageAll [0x4002C]).staged, 1, satAdd 32 (b.r Reg.TIM_DISC_CNT) 1⟩ :=
  Chip.servo_discont _ _ _ _

theorem Chip.servo_tick_of_pendSet {b : Chip} {t : Nat} (h : b.tim.pendSet = some t) : b.tick.servo = (b.setTick t).servo := by
  unfold Chip.tick
  rw [h]
  exact (Chip.servo_trigAll _).trans (Chip.servo_clkAdd _ _ _)

/-- With a SET waiting the next tick is taken, unless a boundary is due. -/
theorem Chip.oneTick_of_pendSet {b : Chip} {t : Nat} (hr : b.timeRuns = true) (hd : b.boundaryDue = false) (h : b.tim.pendSet = some t) :
    b.oneTick = b.tick := by
  simp [Chip.oneTick, Chip.tickFree, hr, hd, h]

theorem Chip.stagedAt_unstageAll (b : Chip) (rq : Requester) (off : Nat) : (b.unstageAll [off]).stagedAt rq off = none := by
  cases rq <;> simp [Chip.unstageAll, Chip.unstage, Chip.stagedAt, kget_kdel]

/-! ### A SET commit (R134, R138) -/

theorem Chip.OnlyRegs.rfl' (b : Chip) (l : List Fld) : Chip.OnlyRegs b b l := ⟨rfl, fun _ _ _ _ => rfl⟩

/-- Writing a register of the list. -/
theorem Chip.OnlyRegs.w {b c : Chip} {l : List Fld} (h : Chip.OnlyRegs b c l) {f : Fld} (v : Nat) (hf : f ∈ l) : Chip.OnlyRegs b (c.w f v) l := by
  refine ⟨?_, fun g hg hn hs => (Chip.r_w_ne c f g v fun e => hg f hf e.symm).trans (h.2 g hg hn hs)⟩
  rw [h.1]
  rfl

/-- Changing the notice block. -/
theorem Chip.OnlyRegs.notice {b c d : Chip} {l : List Fld} (h : Chip.OnlyRegs b c l) (hd : Chip.NoticeOnly c d) : Chip.OnlyRegs b d l := by
  obtain ⟨parts, regs⟩ := hd
  refine ⟨?_, fun g hg hn hs => (regs g hn).trans (h.2 g hg hn hs)⟩
  rw [h.1] at parts
  rw [parts]

/-- A servo commit restarts the watchdog and ends holdover (R138). -/
theorem Chip.servoCommit_holdover (b : Chip) : b.servoCommit.t Reg.TIM_HOLDOVER = false := by
  unfold Chip.servoCommit
  extract_lets tim b1
  split
  · simp only [Chip.t]
    rw [Chip.raise_r _ _ _ _ Reg.TIM_HOLDOVER (by decide), Chip.wb_eq, Chip.wb_eq, Chip.r_w_ne _ _ _ _ (by decide), Chip.r_w_same]
    rfl
  · next hh => exact Bool.eq_false_iff.mpr hh

theorem Chip.servoCommit_only (b : Chip) : Chip.OnlyRegs { b with tim := { b.tim with wdog := b.tim.wdog.map (fun _ => 0) } } b.servoCommit
    [Reg.TIM_HOLDOVER, Reg.TIM_HOLDOVER_REQ] := by
  unfold Chip.servoCommit
  extract_lets tim b1
  split
  · exact (((Chip.OnlyRegs.rfl' b1 _).w _ (by decide)).w _ (by decide)).notice (Chip.NoticeOnly.raise _ _ _ _)
  · exact Chip.OnlyRegs.rfl' b1 _

theorem Chip.servoCommit_staged (b : Chip) : b.servoCommit.staged = b.staged := by rw [(Chip.servoCommit_only b).1]

/-- The time that a SET commit makes wait: the staged seconds and nanoseconds, and the fraction written (R134). -/
def Chip.setTime (b : Chip) (rq : Requester) (v : Nat) : Nat :=
  (((b.stagedAt rq 0x40038).getD 0 + (b.stagedAt rq 0x4003C).getD 0 % 65536 * 2 ^ 32) * 1000000000 + (b.stagedAt rq 0x40034).getD 0) * nsU +
    v % 65536 * 65536

theorem Chip.setCommit_taken {b : Chip} {rq : Requester} (v : Nat) (h : (b.stagedAt rq 0x40034).getD 0 ≤ 999999999) :
    b.setCommit rq v = Chip.servoCommit { b with
      staged := (b.unstage rq [0x40034, 0x40038, 0x4003C]).staged, tim := { b.tim with pendSet := some (b.setTime rq v) } } :=
  if_neg (Nat.not_lt.mpr h)

/-- A SET commit in range changes nothing but the SET that waits, the words it took, the watchdog and holdover (R134, R138). -/
theorem Chip.setCommit_only {b : Chip} {rq : Requester} (v : Nat) (h : (b.stagedAt rq 0x40034).getD 0 ≤ 999999999) :
    Chip.OnlyRegs { b with
      staged := (b.setCommit rq v).staged
      tim := { b.tim with pendSet := some (b.setTime rq v), wdog := b.tim.wdog.map (fun _ => 0) } } (b.setCommit rq v)
      [Reg.TIM_HOLDOVER, Reg.TIM_HOLDOVER_REQ] := by
  rw [Chip.setCommit_taken v h, Chip.servoCommit_staged]
  exact Chip.servoCommit_only _

theorem Chip.setCommit_refused {b : Chip} {rq : Requester} (v : Nat) (h : 999999999 < (b.stagedAt rq 0x40034).getD 0) :
    b.setCommit rq v = (b.unstage rq [0x40034, 0x40038, 0x4003C]).inc Reg.TIM_INCR_REJ_CNT :=
  if_pos h

/-- A SET commit where TIM takes a write. -/
theorem exec_setCommit_writable {s : State} (rq : Requester) (v : Word) (h : s.b.writable 4 = true) :
    exec (.setCommit rq v) s = .next { s with b := s.b.setCommit rq v.toNat } := by
  rw [exec_setCommit, execSetCommit, State.on_eq, Chip.gated, if_pos h]

/-- SET_APPLY takes the tick of the SET that waits. -/
theorem exec_setApply_of_pendSet {s : State} {t : Nat} (hr : s.b.timeRuns = true) (hd : s.b.boundaryDue = false) (h : s.b.tim.pendSet = some t) :
    exec .setApply s = .next { s with b := s.b.tick.settle } := by
  have waits : s.b.tim.pendSet.isSome = true := by rw [h]; rfl
  rw [exec_setApply, execSetApply, State.on_eq, if_pos waits, Chip.oneTick_of_pendSet hr hd h]

/-- The servo at the end of the step that takes a SET's tick (R134). -/
theorem Chip.servo_tick_settle {b : Chip} {t : Nat} (h : b.tim.pendSet = some t) :
    b.tick.settle.servo = ⟨t, none, none, (b.unstageAll [0x4002C]).staged, 1, satAdd 32 (b.r Reg.TIM_DISC_CNT) 1⟩ :=
  (Chip.servo_settle _).trans ((Chip.servo_tick_of_pendSet h).trans (Chip.servo_setTick b t))

end Sys2Proof.Machine

open Sys2Proof Sys2Proof.Machine

/-- Settles O20: a SET commit in range waits for the next tick, and that tick loads the time as a discontinuity, which what follows in the same step
leaves as it is. -/
theorem setIsADiscontinuity : Obligations.SetIsADiscontinuity := by
  intro s
  constructor
  · rintro rq v ns sec hw rfl rfl
    refine ⟨fun hns => ⟨_, exec_setCommit_writable rq v hw, rfl, ?_⟩, fun hns => ⟨_, exec_setCommit_writable rq v hw, rfl, ?_⟩⟩
    · refine ⟨?_, Chip.setCommit_only v.toNat hns⟩
      simp only [Chip.setCommit_taken _ hns]
      exact Chip.servoCommit_holdover _
    · simp only [Chip.setCommit_refused _ hns, Chip.inc_eq]
      exact ⟨rfl, (Chip.r_w_same _ _ _).trans (satAdd_mod 32 _ 1), (Chip.OnlyRegs.rfl' _ _).w _ (List.mem_singleton.mpr rfl)⟩
  · intro tt _ hr hd ht
    have servo := Chip.servo_tick_settle ht
    simp only [Chip.servo, Servo.mk.injEq] at servo
    obtain ⟨now, pendSet, pendStep, staged, disc, discCnt⟩ := servo
    refine ⟨_, exec_setApply_of_pendSet hr hd ht, ?_⟩
    dsimp only
    refine ⟨rfl, now, pendSet, pendStep, fun rq => ?_, beq_iff_eq.mpr disc, discCnt⟩
    rw [Chip.stagedAt, staged]
    exact Chip.stagedAt_unstageAll s.b rq 0x4002C
end

section
/-!
SUPPORT. The fields of a node's context after a write, the rungs of a ladder, and the context that RESET_LINK leaves (R294, R314, R320).
-/
namespace Sys2Proof

/-! ### Bit fields -/

theorem testBit_bits (n lo w i : Nat) : (bits n lo w).testBit i = (decide (i < w) && n.testBit (lo + i)) := by
  rw [bits, Nat.testBit_mod_two_pow, Nat.testBit_div_two_pow, Nat.add_comm]

/-- The three parts of a number with a field replaced. -/
theorem putBits_parts (n lo w v : Nat) : putBits n lo w v = 2 ^ lo * (2 ^ w * (n / 2 ^ lo / 2 ^ w) + v % 2 ^ w) + n % 2 ^ lo := by
  have whole := Nat.div_add_mod n (2 ^ lo)
  have upper := Nat.div_add_mod (n / 2 ^ lo) (2 ^ w)
  rw [putBits, bits, Nat.mul_comm _ (2 ^ lo), Nat.mul_comm _ (2 ^ lo), Nat.mul_add]
  generalize n / 2 ^ lo % 2 ^ w = field at *
  generalize n / 2 ^ lo / 2 ^ w = high at *
  rw [← upper, Nat.mul_add] at whole
  omega

theorem testBit_putBits (n lo w v i : Nat) :
    (putBits n lo w v).testBit i = if lo ≤ i ∧ i < lo + w then v.testBit (i - lo) else n.testBit i := by
  rw [putBits_parts, Nat.testBit_two_pow_mul_add _ (Nat.mod_lt _ (Nat.two_pow_pos lo)),
    Nat.testBit_two_pow_mul_add _ (Nat.mod_lt _ (Nat.two_pow_pos w))]
  simp only [Nat.testBit_mod_two_pow, Nat.testBit_div_two_pow]
  by_cases below : i < lo
  · simp [below, Nat.not_le.mpr below]
  · by_cases inside : i - lo < w
    · rw [if_neg below, if_pos inside, if_pos (by omega)]
      simp [inside]
    · rw [if_neg below, if_neg inside, if_neg (by omega)]
      congr 1
      omega

theorem bits_putBits_same (n lo w v : Nat) : bits (putBits n lo w v) lo w = v % 2 ^ w := by
  refine Nat.eq_of_testBit_eq fun i => ?_
  rw [testBit_bits, testBit_putBits, Nat.testBit_mod_two_pow]
  by_cases h : i < w <;> simp [h]

theorem bits_putBits_apart {lo w p u : Nat} (n v : Nat) (h : p + u ≤ lo ∨ lo + w ≤ p) : bits (putBits n lo w v) p u = bits n p u := by
  refine Nat.eq_of_testBit_eq fun i => ?_
  rw [testBit_bits, testBit_bits, testBit_putBits]
  by_cases hi : i < u
  · rw [if_neg (by omega)]
  · simp [hi]

end Sys2Proof

namespace Sys2Proof.Machine

/-! ### Fields of a context -/

/-- Two fields of the context share no bit. -/
abbrev CxF.Apart (f g : CxF) : Prop := f.pos + f.w ≤ g.pos ∨ g.pos + g.w ≤ f.pos

@[simp] theorem cx_cxPut_same (c : Nat) (f : CxF) (v : Nat) : cx (cxPut c f v) f = v % 2 ^ f.w := bits_putBits_same _ _ _ _

theorem cx_cxPut_apart {f g : CxF} (c v : Nat) (h : f.Apart g) : cx (cxPut c g v) f = cx c f := bits_putBits_apart _ _ h

/-- A context with fields cleared. -/
def cxClear (l : List CxF) (c : Nat) : Nat := l.foldl (fun c f => cxPut c f 0) c

theorem cx_cxClear_apart {f : CxF} {l : List CxF} (c : Nat) (h : ∀ g ∈ l, f.Apart g) : cx (cxClear l c) f = cx c f := by
  induction l generalizing c with
  | nil => rfl
  | cons g l ih =>
    rw [List.forall_mem_cons] at h
    exact (ih (cxPut c g 0) h.2).trans (cx_cxPut_apart c 0 h.1)

/-- Of fields of which no two share a bit, each one cleared reads 0. -/
theorem cx_cxClear_mem {f : CxF} {l : List CxF} (c : Nat) (apart : l.Pairwise CxF.Apart) (h : f ∈ l) : cx (cxClear l c) f = 0 := by
  induction apart generalizing c with
  | nil => exact absurd h List.not_mem_nil
  | @cons g l first _ ih =>
    obtain rfl | h := List.mem_cons.mp h
    · exact (cx_cxClear_apart (cxPut c f 0) first).trans ((cx_cxPut_same c f 0).trans (Nat.zero_mod _))
    · exact ih (cxPut c g 0) h

/-! ### Contexts of a block -/

@[simp] theorem Chip.node_putNode_same (b : Chip) (n c : Nat) : (b.putNode n c).node n = c := kgetD_kset_same _ _ _ _

theorem Chip.node_putNode_ne {n m : Nat} (b : Chip) (c : Nat) (h : m ≠ n) : (b.putNode n c).node m = b.node m :=
  kgetD_kset_ne _ _ _ _ h.symm

theorem Chip.node_congr {b c : Chip} (h : b.mac.nodes = c.mac.nodes) : b.node = c.node := by
  funext n
  rw [Chip.node, h, Chip.node]

@[simp] theorem Chip.cmdAccept_node (b : Chip) (base : Nat) (irq : Bool) : (b.cmdAccept base irq).node = b.node := rfl

@[simp] theorem Chip.cmdFinish_node (b : Chip) (base code : Nat) (l : List Nat) : (b.cmdFinish base code l).node = b.node :=
  Chip.node_congr (by rw [Chip.cmdFinish_mac])

/-- Fetching a context changes none (R295). -/
@[simp] theorem Chip.cacheFetch_node (b : Chip) (n : Nat) : (b.cacheFetch n).node = b.node := by
  unfold Chip.cacheFetch
  split <;> rfl

@[simp] theorem Chip.cacheFetch_pat (b : Chip) (n : Nat) : (b.cacheFetch n).pat = b.pat := by
  unfold Chip.cacheFetch
  split <;> rfl

/-! ### The ladder (R314) -/

/-- The ladder depends on the modes the Pattern enables and on five fields of the context. -/
theorem Chip.ladder_congr {b b' : Chip} {c c' : Nat} (pat : b.pat = b'.pat)
    (h : ∀ f ∈ [Cx.BAND, Cx.TX_FEC, Cx.MCS_MIN, Cx.MCS_MAX, Cx.MODE_MASK], cx c f = cx c' f) : b.ladder c = b'.ladder c' := by
  simp only [List.forall_mem_cons] at h
  obtain ⟨band, fec, mcsMin, mcsMax, modeMask, -⟩ := h
  simp only [Chip.ladder, Chip.modeOn, Chip.modes, pat, band, fec, mcsMin, mcsMax, modeMask]

theorem mem_rungInsert {d : Nat} {fec : Bool} {x r : Rung} {l : List Rung} (h : r ∈ rungInsert d fec x l) : r = x ∨ r ∈ l := by
  induction l with
  | nil => exact .inl (List.mem_singleton.mp h)
  | cons y l ih =>
    unfold rungInsert at h
    split at h
    · obtain rfl | h := List.mem_cons.mp h
      · exact .inr List.mem_cons_self
      · exact (ih h).imp_right (List.mem_cons_of_mem y)
    · exact List.mem_cons.mp h

/-- Sorting rungs adds none. -/
theorem mem_foldl_rungInsert {d : Nat} {fec : Bool} {r : Rung} {l a : List Rung} (h : r ∈ l.foldl (fun a x => rungInsert d fec x a) a) :
    r ∈ l ∨ r ∈ a := by
  induction l generalizing a with
  | nil => exact .inr h
  | cons x l ih =>
    obtain h | h := ih h
    · exact .inl (List.mem_cons_of_mem x h)
    · exact (mem_rungInsert h).imp_left fun e => List.mem_cons.mpr (.inl e)

/-- The mode bit and the MCS of a rung are below 8, so TX_MODE_BIT and TX_MCS hold them. -/
theorem Chip.lt_of_mem_ladder {b : Chip} {c : Nat} {r : Rung} (h : r ∈ b.ladder c) : r.1 < 8 ∧ r.2 < 8 := by
  obtain h | h := mem_foldl_rungInsert h
  · obtain ⟨m, hm, h⟩ := List.mem_flatMap.mp h
    have mode : m < 8 := List.mem_range.mp (List.mem_filter.mp hm).1
    split at h
    · obtain ⟨mcs, hmcs, rfl⟩ := List.mem_map.mp h
      exact ⟨mode, List.mem_range.mp (List.mem_filter.mp hmcs).1⟩
    · obtain rfl := List.mem_singleton.mp h
      exact ⟨mode, Nat.zero_lt_succ 7⟩
  · exact absurd h List.not_mem_nil

theorem cx_setRung_mode (c : Nat) (r : Rung) : cx (setRung c r) Cx.TX_MODE_BIT = r.1 % 16 := by
  rw [setRung, cx_cxPut_apart _ _ (by decide), cx_cxPut_same]
  rfl

theorem cx_setRung_mcs (c : Nat) (r : Rung) : cx (setRung c r) Cx.TX_MCS = r.2 % 8 := cx_cxPut_same _ _ _

theorem cx_setRung_apart {f : CxF} (c : Nat) (r : Rung) (mode : f.Apart Cx.TX_MODE_BIT) (mcs : f.Apart Cx.TX_MCS) : cx (setRung c r) f = cx c f :=
  (cx_cxPut_apart _ _ mcs).trans (cx_cxPut_apart _ _ mode)

/-- A context at the lowest rung of a ladder that has one shows its mode bit and its MCS. -/
theorem Chip.cx_lowestRung {b : Chip} {c : Nat} {r : Rung} {l : List Rung} (h : b.ladder c = r :: l) :
    cx (b.lowestRung c) Cx.TX_MODE_BIT = r.1 ∧ cx (b.lowestRung c) Cx.TX_MCS = r.2 := by
  obtain ⟨mode, mcs⟩ := Chip.lt_of_mem_ladder (h ▸ List.mem_cons_self : r ∈ b.ladder c)
  rw [Chip.lowestRung, h, cx_setRung_mode, cx_setRung_mcs]
  exact ⟨Nat.mod_eq_of_lt (Nat.lt_trans mode (by decide)), Nat.mod_eq_of_lt mcs⟩

/-! ### The context that RESET_LINK leaves (R320) -/

/-- The link figures that RESET_LINK clears. -/
def Cx.linkFigures : List CxF := [Cx.CFO_PPB, Cx.RSSI_AVG, Cx.SINR_AVG, Cx.UP_RUN, Cx.DOWN_RUN]

/-- A context with its link figures cleared, at the lowest rung of its ladder. -/
def Chip.linkReset (b : Chip) (c : Nat) : Nat := b.lowestRung (cxClear Cx.linkFigures c)

theorem Chip.cx_linkReset_figure {f : CxF} (b : Chip) (c : Nat) (h : f ∈ Cx.linkFigures) : cx (b.linkReset c) f = 0 := by
  have aside : ∀ f ∈ Cx.linkFigures, f.Apart Cx.TX_MODE_BIT ∧ f.Apart Cx.TX_MCS := by decide
  exact (cx_setRung_apart _ _ (aside f h).1 (aside f h).2).trans (cx_cxClear_mem c (by decide) h)

/-- The rung is the lowest of the ladder that the context had: the figures that are cleared are none of the fields that make a ladder. -/
theorem Chip.cx_linkReset_rung {b b' : Chip} {c : Nat} {r : Rung} {l : List Rung} (pat : b.pat = b'.pat) (h : b'.ladder c = r :: l) :
    cx (b.linkReset c) Cx.TX_MODE_BIT = r.1 ∧ cx (b.linkReset c) Cx.TX_MCS = r.2 := by
  have aside : ∀ f ∈ [Cx.BAND, Cx.TX_FEC, Cx.MCS_MIN, Cx.MCS_MAX, Cx.MODE_MASK], ∀ g ∈ Cx.linkFigures, f.Apart g := by decide
  exact Chip.cx_lowestRung ((Chip.ladder_congr pat fun f hf => cx_cxClear_apart c (aside f hf)).trans h)

theorem Chip.cx_linkReset_apart {f : CxF} (b : Chip) (c : Nat) (h : ∀ g ∈ Cx.linkFigures ++ [Cx.TX_MODE_BIT, Cx.TX_MCS], f.Apart g) :
    cx (b.linkReset c) f = cx c f := by
  obtain ⟨figures, rung⟩ := List.forall_mem_append.mp h
  exact (cx_setRung_apart _ _ (rung _ (by simp)) (rung _ (by simp))).trans (cx_cxClear_apart c figures)

/-! ### The command -/

theorem Chip.wakeFor_of_awake {b : Chip} (h : b.Awake) : b.wakeFor = b := if_neg (not_or.mpr h)

/-- Accepting a command of MAC leaves the role. -/
theorem Chip.cmdAccept_isStandby (b : Chip) (irq : Bool) : (b.cmdAccept cbMAC irq).isStandby = b.isStandby := by
  rw [Chip.isStandby, Chip.role, Chip.cmdAccept_r _ _ _ _ (by decide)]
  rfl

/-- A command for a node that is not EMPTY, in a serving role and outside a gap slot, runs on the fetched node (R316, R295). -/
theorem Chip.nodeCmd_serving {b : Chip} {base n : Nat} {stby : Bool} (f : Chip → Nat → CmdOut) (arg : b.arg base 0 = n) (hn : n < b.pat.nodeCount)
    (role : b.isStandby = false) (gap : b.gap = false) (ns : b.ns n ≠ NS.EMPTY) : b.nodeCmd base stby f = f (b.cacheFetch n) n := by
  simp [Chip.nodeCmd, arg, Nat.not_le.mpr hn, role, Chip.inGap, gap, ns]

theorem Chip.ne_empty_of_linked {b : Chip} {n : Nat} (h : b.linked n = true) : b.ns n ≠ NS.EMPTY := by
  obtain ⟨synced, -⟩ := of_decide_eq_true h
  exact fun e => absurd (e ▸ synced) (by decide)

theorem Chip.linked_congr {b c : Chip} {n : Nat} (h : b.node = c.node) : b.linked n = c.linked n :=
  decide_eq_decide.mpr (by simp only [Chip.ns, Chip.nd, h])

/-- RESET_LINK of a SYNCED, DRIFTING or LOST node, in a serving role and outside a gap slot, puts the reset context of the fetched node (R320). -/
theorem Chip.resetLink_linked {b : Chip} {n : Nat} (arg : b.arg cbMAC 0 = n) (hn : n < b.pat.nodeCount) (role : b.isStandby = false)
    (gap : b.gap = false) (linked : b.linked n = true) :
    b.resetLink = ((b.cacheFetch n).putNode n ((b.cacheFetch n).linkReset (b.node n))).done [] := by
  have fetched : (b.cacheFetch n).linked n = true := (Chip.linked_congr (b.cacheFetch_node n)).trans linked
  rw [Chip.resetLink, Chip.nodeCmd_serving _ arg hn role gap (Chip.ne_empty_of_linked linked), fetched, Chip.cacheFetch_node]
  rfl

end Sys2Proof.Machine

open Sys2Proof Sys2Proof.Machine

/-- Settles O42: the context is the one the node had with its link figures cleared and its rung set, and none of these fields shares a bit with
another or with a field that makes the ladder. -/
theorem resetLinkRestartsTheLadder : Obligations.ResetLinkRestartsTheLadder := by
  intro s irq n awake takes arg hn role gap linked
  have accepted : (s.b.cmdAccept cbMAC irq).resetLink = _ :=
    Chip.resetLink_linked ((Chip.cmdAccept_arg _ _ _ _).trans arg.symm) hn ((Chip.cmdAccept_isStandby _ _).trans role) gap linked
  have run : exec (.resetLink irq) s = .next { s with b := s.b.cmd cbMAC irq Chip.resetLink } := by
    rw [exec_resetLink, execResetLink, State.on_eq, Chip.wakeFor_of_awake awake]
  refine Runs.cmd run takes (by decide) (by decide) accepted fun d hd completed => ?_
  have node : d.node n = ((s.b.cmdAccept cbMAC irq).cacheFetch n).linkReset (s.b.node n) := by
    rw [hd, Chip.cmdFinish_node, Chip.node_putNode_same, Chip.cmdAccept_node]
  have others : ∀ m, m ≠ n → d.node m = s.b.node m := fun m hm => by
    rw [hd, Chip.cmdFinish_node, Chip.node_putNode_ne _ _ hm, Chip.cacheFetch_node, Chip.cmdAccept_node]
  have figure : ∀ f ∈ Cx.linkFigures, d.nd n f = 0 := fun f hf => by rw [Chip.nd, node, Chip.cx_linkReset_figure _ _ hf]
  simp only [Cx.linkFigures, List.forall_mem_cons] at figure
  obtain ⟨cfo, rssi, sinr, up, down, -⟩ := figure
  refine ⟨rfl, completed, cfo, rssi, sinr, up, down, fun r l ladder => ?_, fun f apart => ?_, others⟩
  · rw [Chip.nd, Chip.nd, node]
    exact Chip.cx_linkReset_rung (Chip.cacheFetch_pat _ n) ladder
  · rw [Chip.nd, node]
    exact Chip.cx_linkReset_apart _ _ apart
end

section
/-!
SUPPORT. What every command keeps of the state outside the block: the queue of commands, and the canonical form of the window's buffers, which only
register writes, READ_ATTEST, SUBMIT and in-band management write.
-/
namespace Sys2Proof.Machine

/-- From the first state to the second the queue has stayed, and buffers in canonical form have kept it. -/
def State.Keeps (s t : State) : Prop := t.pending = s.pending ∧ (s.Inv → t.Inv)

/-- Every next state that an outcome answers keeps what its first state has. -/
def State.KeepsOn (s : State) (o : Host.Outcome State Fault Refusal) : Prop := ∀ t, o = .next t → s.Keeps t

theorem State.Keeps.rfl' (s : State) : s.Keeps s := ⟨rfl, id⟩

theorem State.Keeps.trans {s t u : State} (h1 : s.Keeps t) (h2 : t.Keeps u) : s.Keeps u := ⟨h2.1.trans h1.1, h2.2 ∘ h1.2⟩

theorem State.Keeps.block (s : State) (b : Chip) : s.Keeps { s with b := b } := ⟨rfl, id⟩

/-- Octets written keep the canonical form, whatever the block becomes. -/
theorem State.Keeps.write (s : State) (b : Chip) (a : Nat) (l : List Nat) : s.Keeps { s with b := b, mem := s.mem.write a l } :=
  ⟨rfl, Memory.write_wf a l⟩

theorem State.Keeps.ite {s t u : State} {c : Prop} [Decidable c] (ht : s.Keeps t) (hu : s.Keeps u) : s.Keeps (if c then t else u) := by
  split
  · exact ht
  · exact hu

theorem State.KeepsOn.next {s t : State} (h : s.Keeps t) : s.KeepsOn (.next t) := by
  rintro _ ⟨⟩
  exact h

theorem State.KeepsOn.ite {s : State} {x y : Host.Outcome State Fault Refusal} {c : Prop} [Decidable c] (hx : s.KeepsOn x) (hy : s.KeepsOn y) :
    s.KeepsOn (if c then x else y) := by
  split
  · exact hx
  · exact hy

theorem State.KeepsOn.fault (s : State) (r : Fault) : s.KeepsOn (.fault r) := by
  intro t h
  exact Host.Outcome.noConfusion rfl rfl rfl (heq_of_eq h)

/-- A meaning that acts on the block alone. -/
theorem State.KeepsOn.on (s : State) (f : Chip → Chip) : s.KeepsOn (s.on f) := .next (.block s _)

/-- A meaning that may clear the buffers. -/
theorem State.KeepsOn.onReset (s : State) (due : Bool) (f : Chip → Chip) : s.KeepsOn (s.onReset due f) := by
  refine .next ⟨rfl, fun h => ?_⟩
  cases due
  · exact h
  · rfl

/-! ### READ_ATTEST and SUBMIT -/

theorem execReadAttest_keeps (irq : Bool) (s : State) : s.KeepsOn (execReadAttest irq s) := by
  refine .next ⟨rfl, fun h => ?_⟩
  change Memory.wf (if s.b.attests then s.mem.write 0x1000 _ else s.mem) = true
  split
  · exact Memory.write_wf _ _ h
  · exact h

theorem State.svcFinish_keeps (s : State) (b : Chip) (r : List Nat) : s.Keeps (s.svcFinish b r) := .write s _ rspBuf r

theorem State.svcSubmit_keeps (s : State) (irq : Bool) (op : Option Nat) (late fin : Bool) : s.Keeps (s.svcSubmit irq op late fin) := by
  unfold State.svcSubmit
  refine .ite (.block s _) (.ite (.block s _) ?_)
  simp only []
  split
  · exact State.svcFinish_keeps s _ _
  · exact .block s _

theorem State.svcTimeout_keeps (s : State) : s.Keeps s.svcTimeout := by
  unfold State.svcTimeout
  split
  · exact .rfl' s
  · exact State.svcFinish_keeps s _ _

/-! ### Reads -/

theorem State.readWord_keeps (s : State) (rq : Requester) (off : Nat) : s.Keeps (s.readWord rq off).1 := by
  unfold State.readWord
  split
  · exact .rfl' s
  · exact .block s _

theorem State.readWords_keeps (s : State) (rq : Requester) (off n : Nat) : s.Keeps (s.readWords rq off n).1 := by
  induction n generalizing s off with
  | zero => exact .rfl' s
  | succ n ih => exact (s.readWord_keeps rq off).trans (ih _ _)

theorem State.regRead_keeps (s : State) (rq : Requester) (off octets : Nat) : s.KeepsOn (s.regRead rq off octets) :=
  .ite (.fault s _) (.next ((s.readWords_keeps rq _ _).trans (.block _ _)))

theorem State.conRead_keeps (s : State) (off n : Nat) : s.Keeps (s.conRead off n) :=
  .ite (.block s _) (.ite (.block s _) ((s.readWords_keeps .cpu off n).trans (.block _ _)))

theorem State.spiRead_keeps (s : State) (addr octets : Nat) : s.Keeps (s.spiRead addr octets) :=
  .ite (.rfl' s) ((s.readWords_keeps .spi _ _).trans (.block _ _))

/-! ### Writes, which run the meaning of a command -/

/-- A meaning run with an outcome that the spec leaves open. -/
theorem State.KeepsOn.withCoin {s : State} {f : Bool → State → Host.Outcome State Fault Refusal} (h : ∀ k (t : State), t.KeepsOn (f k t)) :
    s.KeepsOn (s.withCoin f) :=
  fun t ht => (State.Keeps.block s s.coin.2.b).trans (h _ _ t ht)

/-- A meaning that there may be. -/
def State.KeepsOpt (s : State) (x : Option (Host.Outcome State Fault Refusal)) : Prop := ∀ o, x = some o → s.KeepsOn o

theorem State.KeepsOpt.none (s : State) : s.KeepsOpt none := by
  intro o h
  cases h

theorem State.KeepsOpt.some {s : State} {o : Host.Outcome State Fault Refusal} (h : s.KeepsOn o) : s.KeepsOpt (some o) := by
  rintro _ ⟨⟩
  exact h

theorem State.KeepsOpt.on (s : State) (f : Chip → Chip) : s.KeepsOpt (Option.some (s.on f)) := .some (.on s f)

theorem State.KeepsOpt.ite {s : State} {x y : Option (Host.Outcome State Fault Refusal)} {c : Prop} [Decidable c] (hx : s.KeepsOpt x)
    (hy : s.KeepsOpt y) : s.KeepsOpt (if c then x else y) := by
  split
  · exact hx
  · exact hy

theorem cmdGlb_keeps (code : Nat) (irq : Bool) (s : State) : s.KeepsOpt (cmdGlb code irq s) := by
  unfold cmdGlb
  split
  case h_3 => exact .some (execReadAttest_keeps irq s)
  case h_4 => exact .some (.withCoin fun k t => .on t _)
  case h_6 => exact .none s
  all_goals exact .on s _

theorem cmdRfc_keeps (code : Nat) (irq : Bool) (s : State) : s.KeepsOpt (cmdRfc code irq s) := by
  unfold cmdRfc
  split
  case h_4 => exact .none s
  all_goals exact .on s _

theorem cmdRxp_keeps (code : Nat) (irq : Bool) (s : State) : s.KeepsOpt (cmdRxp code irq s) := by
  unfold cmdRxp
  split
  case h_3 => exact .none s
  all_goals exact .on s _

theorem cmdTxp_keeps (code : Nat) (irq : Bool) (s : State) : s.KeepsOpt (cmdTxp code irq s) := by
  unfold cmdTxp
  split
  case h_4 => exact .none s
  all_goals exact .on s _

theorem cmdMac_keeps (code : Nat) (irq : Bool) (s : State) : s.KeepsOpt (cmdMac code irq s) := by
  unfold cmdMac
  split
  case h_10 => exact .none s
  all_goals exact .on s _

theorem cmdSch_keeps (code : Nat) (irq : Bool) (s : State) : s.KeepsOpt (cmdSch code irq s) := by
  unfold cmdSch
  split
  case h_7 => exact .none s
  all_goals exact .on s _

theorem cmdSec_keeps (code : Nat) (irq : Bool) (s : State) : s.KeepsOpt (cmdSec code irq s) := by
  unfold cmdSec
  split
  case h_4 => exact .some (.withCoin fun k t => .on t _)
  case h_5 => exact .none s
  all_goals exact .on s _

theorem cmdKey_keeps (code : Nat) (irq : Bool) (s : State) : s.KeepsOpt (cmdKey code irq s) := by
  unfold cmdKey
  split
  case h_1 => exact .some (.withCoin fun k t => .on t _)
  case h_10 => exact .none s
  all_goals exact .on s _

theorem cmdRehash_keeps (code : Nat) (irq : Bool) (s : State) : s.KeepsOpt (cmdRehash code irq s) := by
  unfold cmdRehash
  split
  case h_6 => exact .none s
  all_goals exact .on s _

theorem cmdFwd_keeps (code : Nat) (irq : Bool) (s : State) : s.KeepsOpt (cmdFwd code irq s) := by
  unfold cmdFwd
  split
  case h_7 => exact cmdRehash_keeps _ irq s
  case h_8 => exact .none s
  all_goals exact .on s _

theorem cmdQmg_keeps (code : Nat) (irq : Bool) (s : State) : s.KeepsOpt (cmdQmg code irq s) := by
  unfold cmdQmg
  split
  case h_6 => exact .none s
  all_goals exact .on s _

theorem cmdTmg_keeps (code : Nat) (irq : Bool) (s : State) : s.KeepsOpt (cmdTmg code irq s) := by
  unfold cmdTmg
  split
  case h_8 => exact .none s
  all_goals exact .on s _

theorem cmdSea_keeps (code : Nat) (irq : Bool) (s : State) : s.KeepsOpt (cmdSea code irq s) := by
  unfold cmdSea
  split
  case h_5 => exact .none s
  all_goals exact .on s _

theorem cmdUpd_keeps (code : Nat) (irq : Bool) (s : State) : s.KeepsOpt (cmdUpd code irq s) := by
  unfold cmdUpd
  split
  case h_1 => exact .some (.withCoin fun k t => .on t _)
  case h_7 => exact .none s
  all_goals exact .on s _

theorem cmdSvc_keeps (code : Nat) (irq : Bool) (s : State) : s.KeepsOpt (cmdSvc code irq s) := by
  unfold cmdSvc
  split
  case h_1 => exact .some (.withCoin fun late t => .withCoin fun fin u => .next (u.svcSubmit_keeps irq none late fin))
  case h_2 => exact .none s

theorem cmdDbg_keeps (code : Nat) (irq : Bool) (s : State) : s.KeepsOpt (cmdDbg code irq s) := by
  unfold cmdDbg
  split
  case h_3 => exact .none s
  all_goals exact .on s _

/-- Whatever the block and the code, the meaning that a CMD write runs acts on the block alone, is READ_ATTEST, or is SUBMIT. -/
theorem cmdOf_keeps (base code : Nat) (irq : Bool) (s : State) : s.KeepsOpt (cmdOf base code irq s) := by
  unfold cmdOf
  exact .ite (cmdGlb_keeps code irq s) <| .ite (cmdRfc_keeps code irq s) <| .ite (cmdRxp_keeps code irq s) <| .ite (cmdTxp_keeps code irq s) <|
    .ite (cmdMac_keeps code irq s) <| .ite (cmdSch_keeps code irq s) <| .ite (cmdSec_keeps code irq s) <| .ite (cmdKey_keeps code irq s) <|
    .ite (cmdFwd_keeps code irq s) <| .ite (cmdQmg_keeps code irq s) <| .ite (cmdTmg_keeps code irq s) <| .ite (cmdSea_keeps code irq s) <|
    .ite (cmdUpd_keeps code irq s) <| .ite (cmdSvc_keeps code irq s) <| .ite (cmdDbg_keeps code irq s) (.none s)

theorem State.after_keeps {s : State} {o : Host.Outcome State Fault Refusal} (h : s.KeepsOn o) : s.Keeps (s.after o) := by
  unfold State.after
  split
  · exact h _ rfl
  · exact .rfl' s

theorem State.cmdWrite_keeps (s : State) (base v : Nat) : s.Keeps (s.cmdWrite base v) := by
  unfold State.cmdWrite
  refine .ite (.rfl' s) ?_
  split
  · exact State.after_keeps (cmdOf_keeps _ _ _ s _ ‹_›)
  · exact .block s _

theorem State.writeWord_keeps (s : State) (rq : Requester) (off v : Nat) : s.Keeps (s.writeWord rq off v) :=
  .ite (s.cmdWrite_keeps off v) (.ite (.block s _) (.ite (.write s s.b off _) (.block s _)))

theorem State.writeWords_keeps (s : State) (rq : Requester) (off : Nat) (l : List Nat) : s.Keeps (s.writeWords rq off l) := by
  induction l generalizing s off with
  | nil => exact .rfl' s
  | cons v l ih => exact (s.writeWord_keeps rq off v).trans (ih _ _)

theorem State.regWrite_keeps (s : State) (rq : Requester) (off octets v : Nat) : s.KeepsOn (s.regWrite rq off octets v) :=
  .ite (.fault s _) (.ite (.next (.block s _)) (.next (s.writeWord_keeps rq off v)))

theorem State.conWrite_keeps (s : State) (off v : Nat) : s.Keeps (s.conWrite off v) :=
  .ite (.block s _) (.ite (.block s _) (.ite (.block s _) ((s.writeWord_keeps .cpu off v).trans (.block _ _))))

theorem State.spiWrite_keeps (s : State) (addr : Nat) (data : List Nat) : s.Keeps (s.spiWrite addr data) :=
  .ite (.rfl' s) ((s.writeWords_keeps .spi _ _).trans (.block _ _))

/-! ### In-band management -/

theorem State.opRead_keeps (s : State) (l : List Nat) : s.Keeps (s.opRead l).s := by
  unfold State.opRead
  split
  · exact .rfl' s
  · exact s.readWords_keeps .cpu _ _

theorem State.opWrite_keeps (s : State) (l : List Nat) : s.Keeps (s.opWrite l).s := by
  unfold State.opWrite
  split
  · exact .rfl' s
  · simp only []
    split
    · exact .rfl' s
    · exact s.writeWords_keeps .cpu _ _

theorem State.opSubmit_keeps (s : State) (l : List Nat) (late : Bool) : s.Keeps (s.opSubmit l late).s := by
  unfold State.opSubmit
  split
  · exact .rfl' s
  · simp only []
    split
    · exact .block s _
    · exact .block s _

theorem State.opNotices_keeps (s : State) (l : List Nat) : s.Keeps (s.opNotices l).s := by
  unfold State.opNotices
  simp only []
  split
  · exact .rfl' s
  · split
    · exact .rfl' s
    · exact .block s _

theorem State.mgmtServe_keeps (s : State) (mine : Nat → Bool) {f : State → List Nat → MgmtOut} (h : ∀ (t : State) l, t.Keeps (f t l).s) :
    s.Keeps (s.mgmtServe mine f) := by
  unfold State.mgmtServe
  split
  · exact .rfl' s
  · split
    · exact .rfl' s
    · simp only []
      split
      · exact .block s _
      · exact (State.Keeps.block s _).trans ((h _ _).trans (.block _ _))

/-! ### Every command -/

/-- A command keeps the queue it was run with, and the canonical form of the buffers. -/
theorem exec_keeps (i : Instr) (s : State) : s.KeepsOn (exec i s) := by
  cases i with
  | registerWrite rq off octets v => exact s.regWrite_keeps rq off octets v.toNat
  | latchRead rq off octets => exact s.regRead_keeps rq off octets
  | rcCounterRead rq off octets => exact s.regRead_keeps rq off octets
  | glbStateRead rq => exact s.regRead_keeps rq 0x300 4
  | vinGood x => exact exec_vinGood s ▸ .onReset s _ _
  | rstNLow x => exact exec_rstNLow s ▸ .onReset s _ _
  | warmStart x => exact exec_warmStart s ▸ .onReset s _ _
  | readAttest irq => exact execReadAttest_keeps irq s
  | consoleRd off n => exact .next (s.conRead_keeps off n)
  | consoleWr off v => exact .next (s.conWrite_keeps off v.toNat)
  | spiRead addr octets => exact .next (s.spiRead_keeps addr octets)
  | spiWrite addr data => exact .next (s.spiWrite_keeps addr data)
  | mgmtRead =>
    refine .next (s.mgmtServe_keeps _ fun t l => ?_)
    split
    · exact t.opRead_keeps l
    · exact .rfl' t
  | mgmtWrite => exact .next (s.mgmtServe_keeps _ State.opWrite_keeps)
  | mgmtSubmit late => exact .next (s.mgmtServe_keeps _ fun t l => t.opSubmit_keeps l late)
  | mgmtNotices => exact .next (s.mgmtServe_keeps _ State.opNotices_keeps)
  | mailboxTimeout => exact .next s.svcTimeout_keeps
  | svcCtrl irq late | svcCtxSet irq late | svcCtxRead irq late | rplCfg irq late | rplRoute irq late | rplRepair irq late | regRead irq late | regRemove irq late
  | imgWrite irq late | imgClose irq late | imgErase irq late | campStart irq late | campStatus irq late | campStop irq late | campResult irq late | svcPoll irq late => exact .next (s.svcSubmit_keeps irq _ _ _)
  | _ => exact .next (.block s _)

end Sys2Proof.Machine

open Sys2Proof Sys2Proof.Machine

/-- Settles O5: a step runs a command, or lets time pass in the block alone. -/
theorem stepKeepsBuffersCanonical : Obligations.StepKeepsBuffersCanonical := by
  intro s t inv h
  unfold step at h
  split at h
  · exact (State.KeepsOn.on s Chip.idleStep t h).2 inv
  · exact (exec_keeps _ _ t h).2 inv

/-- Settles O6. -/
theorem execKeepsTheQueue : Obligations.ExecKeepsTheQueue := fun i s t h => (exec_keeps i s t h).1

/-- Settles O7: of the commands of the blocks READ_ATTEST alone has a meaning that reaches the buffers. -/
theorem blockCommandsKeepBuffers : Obligations.BlockCommandsKeepBuffers := by
  intro i s base irq block other
  cases i with
  | readAttest irq' =>
    cases block
    exact absurd rfl other
  | _ =>
    cases block <;> exact ⟨_, rfl, fun _ => rfl⟩

/-- Settles O1. -/
theorem stepRunsTheFrontCommand : Obligations.StepRunsTheFrontCommand := fun _ _ _ => rfl

/-- Settles O4: the buffers list nothing. -/
theorem resetBuffersCanonical : Obligations.ResetBuffersCanonical := rfl

/-- Settles O3: nothing is listed in the register store, so every field reads what its table gives. -/
theorem resetState : Obligations.ResetState := by
  refine ⟨rfl, rfl, fun f => rfl, rfl, fun base _ => ⟨rfl, rfl⟩⟩
end

section
/-!
SUPPORT. What the common command block does with a command that it does not run: discarded in STARTING, counted while BUSY, DENIED in SAFE,
WRONG_STATE in LIMP (R88, R91, R119, R532).
-/
namespace Sys2Proof.Machine

/-- Every command block lies away from INT_PEND. -/
theorem cbBases_apart {base : Nat} (h : base ∈ cbBases) : base + 0x94 < 0x50000 ∨ 0x50040 ≤ base := by
  revert base
  decide

theorem mem_cbBases_of_cmdBlock {i : Instr} {base : Nat} {irq : Bool} (h : cmdBlock i = some (base, irq)) : base ∈ cbBases := by
  cases i <;> cases h <;> decide

/-- The registers of the pair beacon lie in no command block. -/
theorem pairRegs_apart {base : Nat} (h : base ∈ cbBases) : ∀ f ∈ [Reg.SCH_PAIR_EN, Reg.SCH_PAIR_COL],
    f.key < (base + 4) * 32 ∨ (base + 0x98) * 32 ≤ f.key := by
  revert base
  decide

/-- A completion with a code that refuses the command counts it. -/
theorem Chip.cmdFinish_reject (b : Chip) {base code : Nat} (l : List Nat) (hb : base + 0x94 < 0x50000 ∨ 0x50040 ≤ base)
    (h : code = WRONG_STATE ∨ code = DENIED) : (b.cmdFinish base code l).r (cbREJECT base) = satAdd 32 (b.r (cbREJECT base)) 1 := by
  have apart : (cbREJECT base).key ≠ Reg.NTC_INT_PEND.key := by
    simp only [Fld.key, cbREJECT, Reg.NTC_INT_PEND]
    omega
  have kept : ((((b.putResults base 0 ((l ++ List.replicate 16 0).take 16)).w (cbCODE base) code).w (cbDONE base) 1).w (cbBUSY base) 0).r
      (cbREJECT base) = b.r (cbREJECT base) := by
    rw [Chip.r_w_ne _ _ _ _ (by simp only [Fld.key, cbBUSY, cbREJECT]; omega), Chip.r_w_ne _ _ _ _ (by simp only [Fld.key, cbDONE, cbREJECT]; omega),
      Chip.r_w_ne _ _ _ _ (by simp only [Fld.key, cbCODE, cbREJECT]; omega)]
    refine Chip.putResults_r _ _ _ _ _ fun j _ hj => ?_
    have : j < 16 := by simp at hj; omega
    simp only [Fld.key, cbREJECT, cbRESULT]
    omega
  rw [Chip.cmdFinish_stat _ _ _ _ _ apart, Chip.finished]
  simp only [h, if_true, Chip.inc_eq, kept]
  exact (Chip.r_w_same _ _ _).trans (satAdd_mod 32 _ 1)

/-- What a block shows that has refused a command: the code, no results, the reject counter one up, and nothing else. -/
theorem Chip.refused_shows (b : Chip) {base code : Nat} (irq : Bool) (hb : base ∈ cbBases) (h : code = WRONG_STATE ∨ code = DENIED) :
    ((b.cmdAccept base irq).cmdFinish base code []).Completed base code [] ∧
    ((b.cmdAccept base irq).cmdFinish base code []).r (cbREJECT base) = satAdd 32 (b.r (cbREJECT base)) 1 ∧
    Chip.OnlyBlock b ((b.cmdAccept base irq).cmdFinish base code []) base := by
  have apart := cbBases_apart hb
  have small : code < 256 := by rcases h with rfl | rfl <;> decide
  refine ⟨Chip.cmdFinish_completed _ _ _ _ apart small, ?_, Chip.answer_only b base code irq []⟩
  rw [Chip.cmdFinish_reject _ _ apart h, Chip.cmdAccept_r _ _ _ _ (by simp only [Fld.key, cbREJECT]; omega)]

/-- What changes a command block alone leaves the pair beacon's registers. -/
theorem Chip.OnlyBlock.pairRegs {b c : Chip} {base : Nat} (h : Chip.OnlyBlock b c base) (hb : base ∈ cbBases) :
    c.r Reg.SCH_PAIR_EN = b.r Reg.SCH_PAIR_EN ∧ c.r Reg.SCH_PAIR_COL = b.r Reg.SCH_PAIR_COL := by
  have apart := pairRegs_apart hb
  simp only [List.forall_mem_cons] at apart
  obtain ⟨en, col, -⟩ := apart
  exact ⟨h.2 _ (by decide) (by omega), h.2 _ (by decide) (by omega)⟩

/-- The command block answers `c` without running the command. -/
def Chip.Turns (b : Chip) (base : Nat) (irq : Bool) (c : Chip) : Prop := ∀ f, b.command base irq f = c

theorem Chip.turns_starting {b : Chip} {base : Nat} (irq : Bool) (glb : base ≠ cbGLB) (h : b.starting = true) :
    b.Turns base irq (b.inc Reg.GLB_LOCKED_WR_CNT) := by
  intro f
  simp [Chip.command, h, answersStarting, glb]

theorem Chip.turns_busy {b : Chip} {base : Nat} (irq : Bool) (started : b.starting = false) (h : b.t (cbBUSY base) = true) :
    b.Turns base irq (b.inc (cbCOLLIDE base)) := by
  intro f
  simp [Chip.command, started, h]

theorem Chip.starting_of_safe {b : Chip} (h : b.safe = true) : b.starting = false := by
  simp only [Chip.safe, Chip.starting, beq_iff_eq, beq_eq_false_iff_ne] at *
  omega

theorem Chip.not_safe_of_ready {b : Chip} (h : b.ready = true) : b.safe = false := by
  simp only [Chip.safe, Chip.ready, beq_iff_eq, beq_eq_false_iff_ne] at *
  omega

theorem Chip.not_starting_of_ready {b : Chip} (h : b.ready = true) : b.starting = false := by
  simp only [Chip.starting, Chip.ready, beq_iff_eq, beq_eq_false_iff_ne] at *
  omega

theorem Chip.turns_safe {b : Chip} {base : Nat} (irq : Bool) (glb : base ≠ cbGLB) (safe : b.safe = true) (h : b.t (cbBUSY base) = false) :
    b.Turns base irq ((b.cmdAccept base irq).cmdFinish base DENIED []) := by
  intro f
  simp [Chip.command, Chip.starting_of_safe safe, h, safe, glb]

theorem Chip.turns_limp {b : Chip} {base : Nat} (irq : Bool) (ready : b.ready = true) (limp : b.limp = true) (held : heldInLimp base = true)
    (h : b.t (cbBUSY base) = false) : b.Turns base irq ((b.cmdAccept base irq).cmdFinish base WRONG_STATE []) := by
  intro f
  simp [Chip.command, Chip.not_starting_of_ready ready, Chip.not_safe_of_ready ready, h, limp, held]

/-- A command that its block turns away has no meaning of its own: READ_ATTEST then writes no statement and PAIR_SET renews no pair beacon. CANCEL
of a BUSY update block is the exception (R504). -/
theorem exec_of_turns {i : Instr} {s : State} {base : Nat} {irq : Bool} {c : Chip} (block : cmdBlock i = some (base, irq)) (awake : s.b.Awake)
    (turns : s.b.Turns base irq c) (attest : base = cbGLB → s.b.attests = false)
    (pair : c.r Reg.SCH_PAIR_EN = s.b.r Reg.SCH_PAIR_EN ∧ c.r Reg.SCH_PAIR_COL = s.b.r Reg.SCH_PAIR_COL)
    (cancel : i = .updCancel irq → s.b.t (cbBUSY cbUPD) = false) : exec i s = .next { s with b := c } := by
  have atOnce (f) : s.on (fun b => b.command base irq f) = .next { s with b := c } := by rw [State.on_eq, turns f]
  have woken (f) : s.on (fun b => b.wakeFor.command base irq f) = .next { s with b := c } := by
    rw [State.on_eq, Chip.wakeFor_of_awake awake, turns f]
  cases i with
  | readAttest irq' =>
    cases block
    simp only [exec_readAttest, execReadAttest, attest rfl, Chip.cmd, turns _]
    rfl
  | pairSet irq' =>
    cases block
    simp only [exec_pairSet, execPairSet, State.on_eq, Chip.wakeFor_of_awake awake, Chip.cmd, turns _, Chip.pairRenew, pair, and_self, if_true]
  | gateCommit irq' =>
    cases block
    have on (f : Chip → Chip) : s.b.sooner f = f s.b := if_neg (not_or.mpr awake)
    simp only [exec_gateCommit, execGateCommit, State.on_eq, on, Chip.cmd, turns _]
  | updCancel irq' =>
    cases block
    simp only [exec_updCancel, execUpdCancel, State.on_eq, Chip.updCancel, cancel rfl, Bool.false_eq_true, false_and, if_false, Chip.cmd, turns _]
  | cal | calCancel | readCal | readChan | rxpReadCtx | tone | toneStop | wakeCall | alloc | reclaim | readCell | writeCell | nodeCells | nodeAdmit
  | readCtx | writeCtx | suspend | resume | retire | nodeClear | nodeFind | resetLink =>
    cases block
    exact woken _
  | _ =>
    cases block <;> exact atOnce _

end Sys2Proof.Machine

open Sys2Proof Sys2Proof.Machine

/-- Settles O8. -/
theorem commandsInSafeAreDenied : Obligations.CommandsInSafeAreDenied := by
  intro i s base irq block glb awake safe idle
  have hb := mem_cbBases_of_cmdBlock block
  have shows := Chip.refused_shows s.b irq hb (.inr rfl)
  refine ⟨_, exec_of_turns block awake (Chip.turns_safe irq glb safe idle) (fun h => absurd h glb) (shows.2.2.pairRegs hb) (fun h => ?_), rfl, shows⟩
  subst h
  cases block
  exact idle

/-- Settles O9. -/
theorem commandsWhileBusyCollide : Obligations.CommandsWhileBusyCollide := by
  intro i s base irq block cancel awake started busy
  refine exec_of_turns block awake (Chip.turns_busy irq started busy) (fun h => ?_) ?_ (fun h => absurd h cancel)
  · subst h
    simp [Chip.attests, busy]
  · have apart := pairRegs_apart (mem_cbBases_of_cmdBlock block)
    simp only [List.forall_mem_cons] at apart
    obtain ⟨en, col, -⟩ := apart
    have collide : (cbCOLLIDE base).key = (base + 0x94) * 32 := rfl
    exact ⟨Chip.r_w_ne _ _ _ _ (by omega), Chip.r_w_ne _ _ _ _ (by omega)⟩

/-- Settles O10. -/
theorem commandsWhileStartingAreDiscarded : Obligations.CommandsWhileStartingAreDiscarded := by
  intro i s base irq block glb cancel awake starting
  exact exec_of_turns block awake (Chip.turns_starting irq glb starting) (fun h => absurd h glb)
    ⟨Chip.r_w_ne _ _ _ _ (by decide), Chip.r_w_ne _ _ _ _ (by decide)⟩ (fun h => absurd h cancel)

/-- Settles O11. -/
theorem commandsHeldInLimp : Obligations.CommandsHeldInLimp := by
  intro i s base irq block held awake ready limp idle
  have hb := mem_cbBases_of_cmdBlock block
  have shows := Chip.refused_shows s.b irq hb (.inl rfl)
  have glb : base ≠ cbGLB := by
    rintro rfl
    exact absurd held (by decide)
  refine ⟨_, exec_of_turns block awake (Chip.turns_limp irq ready limp held idle) (fun h => absurd h glb) (shows.2.2.pairRegs hb) (fun h => ?_), rfl, shows⟩
  subst h
  cases block
  exact idle
end

section
/-!
SUPPORT. The diagnostic and debug commands on a block that takes them (R95 to R97, R370, R541, R553).
-/
namespace Sys2Proof.Machine

/-- A command that its block takes and that answers over `x`, accepted: it completes with the code and the results, and beyond `x` changes the
command block alone. -/
theorem Runs.answers {i : Instr} {s : State} {base : Nat} {irq : Bool} {f : Chip → CmdOut} {x : Chip} {code : Nat} {l : List Nat}
    (run : exec i s = .next { s with b := s.b.cmd base irq f }) (takes : s.b.takes base = true) (hb : base ∈ cbBases) (hc : code < 256)
    (hf : f (s.b.cmdAccept base irq) = ⟨x.cmdAccept base irq, code, l⟩) :
    Runs i s (fun t => t.mem = s.mem ∧ Chip.OnlyBlock x t.b base ∧ t.b.Completed base code l) :=
  Runs.cmd run takes (cbBases_apart hb) hc hf fun _ hd completed => ⟨rfl, hd ▸ Chip.answer_only x base code irq l, completed⟩

/-- A property that every answer has. -/
theorem Runs.imp {i : Instr} {s : State} {p q : State → Prop} (h : Runs i s p) (hpq : ∀ t, p t → q t) : Runs i s q := by
  obtain ⟨t, run, ht⟩ := h
  exact ⟨t, run, hpq t ht⟩

theorem Runs.answers' {i : Instr} {s : State} {base : Nat} {irq : Bool} {f : Chip → CmdOut} {x : Chip} {code : Nat} {l : List Nat}
    (run : exec i s = .next { s with b := s.b.cmd base irq f }) (takes : s.b.takes base = true) (hb : base ∈ cbBases) (hc : code < 256)
    (hf : f (s.b.cmdAccept base irq) = ⟨x.cmdAccept base irq, code, l⟩) :
    Runs i s (fun t => t.mem = s.mem ∧ t.b.Completed base code l ∧ Chip.OnlyBlock x t.b base) :=
  (Runs.answers run takes hb hc hf).imp fun _ ⟨mem, only, completed⟩ => ⟨mem, completed, only⟩

/-! ### What a command changes besides its command block -/

theorem Chip.OnlyBlock.trans {b c d : Chip} {base : Nat} (h1 : Chip.OnlyBlock b c base) (h2 : Chip.OnlyBlock c d base) : Chip.OnlyBlock b d base :=
  ⟨h1.1.trans h2.1, fun f hp hb => (h2.2 f hp hb).trans (h1.2 f hp hb)⟩

theorem Chip.OnlyBlock.accept (b : Chip) (base : Nat) (irq : Bool) : Chip.OnlyBlock b (b.cmdAccept base irq) base :=
  ⟨Chip.SameBut.accept b base irq, fun _ _ hb => Chip.cmdAccept_r _ _ _ _ (by omega)⟩

theorem Chip.OnlyBlock.finish {b c : Chip} {base : Nat} (h : Chip.OnlyBlock b c base) (code : Nat) (l : List Nat) :
    Chip.OnlyBlock b (c.cmdFinish base code l) base :=
  h.trans ⟨Chip.SameBut.finish c base code l, fun _ hp hb => Chip.cmdFinish_r _ _ _ _ _ hp (by omega)⟩

/-- What a field reads after a write of a field of the same key, whatever its own reset value is. -/
theorem Chip.r_w_key (b : Chip) {f g : Fld} (v : Nat) (h : f.key = g.key) :
    (b.w f v).r g = if v % 2 ^ f.w = f.rst then g.rst else v % 2 ^ f.w := by
  simp only [Chip.r, Chip.w, kgetD, kset, ← h]
  split <;> simp

/-- Writing one register on both sides. -/
theorem Chip.OnlyBlock.w {b c : Chip} {base : Nat} (h : Chip.OnlyBlock b c base) (f : Fld) (v : Nat) :
    Chip.OnlyBlock (b.w f v) (c.w f v) base := by
  refine ⟨?_, fun g hp hb => ?_⟩
  · have same := h.1
    unfold Chip.SameBut at *
    rw [same]
    rfl
  · by_cases e : f.key = g.key
    · rw [Chip.r_w_key c v e, Chip.r_w_key b v e]
    · rw [Chip.r_w_ne _ _ _ _ e, Chip.r_w_ne _ _ _ _ e, h.2 g hp hb]

/-- GLB takes a command where it is not BUSY, whatever the state of the device. -/
theorem Chip.glb_idle {b : Chip} (h : b.takes cbGLB = true) : b.t (cbBUSY cbGLB) = false := by
  simp only [Chip.takes, Bool.and_eq_true, Bool.not_eq_true'] at h
  exact h.2

/-! ### GLB's registers while it runs a command -/

theorem Chip.cmdAccept_stateWord (b : Chip) (irq : Bool) : (b.cmdAccept cbGLB irq).stateWord = b.stateWord := by
  simp (disch := decide) only [Chip.stateWord, Chip.cmdAccept_r]

theorem Chip.cmdAccept_safeWord (b : Chip) (irq : Bool) : (b.cmdAccept cbGLB irq).safeWord = b.safeWord := by
  simp (disch := decide) only [Chip.safeWord, Chip.cmdAccept_r]

theorem Chip.cmdAccept_causeWord (b : Chip) (irq : Bool) : (b.cmdAccept cbGLB irq).causeWord = b.causeWord := by
  have flags : ∀ i ∈ List.range 7, (b.cmdAccept cbGLB irq).t (causeFlag i) = b.t (causeFlag i) := fun i hi => by
    have apart : ∀ i ∈ List.range 7, (cbGLB + 4) * 32 + 32 ≤ (causeFlag i).key := by decide
    rw [Chip.t, Chip.cmdAccept_r _ _ _ _ (.inr (apart i hi)), Chip.t]
  rw [Chip.causeWord, Chip.causeWord, List.filter_congr flags]

theorem Chip.cmdAccept_starting (b : Chip) (irq : Bool) : (b.cmdAccept cbGLB irq).starting = b.starting := by
  rw [Chip.starting, Chip.cmdAccept_r _ _ _ _ (by decide), Chip.starting]

theorem Chip.cmdAccept_safe (b : Chip) (irq : Bool) : (b.cmdAccept cbGLB irq).safe = b.safe := by
  rw [Chip.safe, Chip.cmdAccept_r _ _ _ _ (by decide), Chip.safe]

theorem Chip.cmdAccept_tjMax (b : Chip) (irq : Bool) : (b.cmdAccept cbGLB irq).rs Reg.PWR_TJ_MAX = b.rs Reg.PWR_TJ_MAX := by
  rw [Chip.rs, Chip.cmdAccept_r _ _ _ _ (by decide), Chip.rs]

/-! ### READ_ATTEST -/

@[simp] theorem leBytes_length (v n : Nat) : (leBytes v n).length = n := by
  induction n generalizing v with
  | zero => rfl
  | succ n ih => simp [leBytes, ih]

@[simp] theorem ofWords_length (l : List Nat) : (ofWords l).length = 4 * l.length := by
  induction l with
  | nil => rfl
  | cons w l ih => simp [ofWords, ih]; omega

/-- A part of a record, by the lengths of what stands before it and of the part. -/
theorem slice_append (before part after : List Nat) : slice (before ++ (part ++ after)) before.length part.length = part := by
  simp [slice]

/-- The octets of a statement before the nonce (R370). -/
def Chip.attestHead (b : Chip) : List Nat :=
  let m := b.running
  let parts := if m.isEmpty then [] else manParts m
  let flags := b2n b.debugOn + 2 * b.r Reg.GLB_TEST_ROOT + 4 * b.attestRole + 16 * b2n b.safe
  leBytes 0x4B594154 4 ++ leBytes 1 2 ++ leBytes (172 + 40 * parts.length) 2 ++ leBytes (b.r Reg.GLB_DEVICE_ID_LO) 4 ++
    leBytes (b.r Reg.GLB_DEVICE_ID_HI) 4 ++ leBytes 0x7160 2 ++ [0xC0, flags] ++ leBytes (b.r Reg.GLB_BOOT_COUNT) 4 ++ leBytes b.tim.stitch 8

/-- A statement holds its nonce behind its head. -/
theorem Chip.statement_eq (b : Chip) (n : Nat) :
    ∃ rest, b.statement n = b.attestHead ++ (ofWords ((List.range 8).map (b.arg cbGLB)) ++ rest) := by
  simp only [Chip.statement, Chip.attestBody, Chip.attestHead, List.append_assoc]
  exact ⟨_, rfl⟩

/-- The statement that READ_ATTEST leaves begins with its magic and holds the nonce in octets 32 to 63 (R370). -/
theorem Chip.statement_head (b : Chip) (n : Nat) :
    (b.statement n).take 4 = [0x54, 0x41, 0x59, 0x4B] ∧ slice (b.statement n) 32 32 = ofWords ((List.range 8).map (b.arg cbGLB)) := by
  obtain ⟨rest, h⟩ := b.statement_eq n
  have before : b.attestHead.length = 32 := by simp [Chip.attestHead]
  have nonce : (ofWords ((List.range 8).map (b.arg cbGLB))).length = 32 := by simp
  rw [h]
  refine ⟨?_, ?_⟩
  · simp [Chip.attestHead, leBytes]
  · have whole := slice_append b.attestHead (ofWords ((List.range 8).map (b.arg cbGLB))) rest
    rwa [before, nonce] at whole

/-! ### REBOOT -/

/-- A started device at most 145 degrees hot is to start again (R97); `c` is the block with the command accepted. -/
theorem Chip.reboot_taken {b c : Chip} {irq : Bool} (hc : c = b.cmdAccept cbGLB irq) (started : b.starting = false)
    (cool : b.rs Reg.PWR_TJ_MAX ≤ 145) : c.reboot (c.arg cbGLB 0) =
    if bit (b.arg cbGLB 0) 0 = false then Chip.done { c with boot := { c.boot with warm := some 3 } } []
    else if b.boot.loaded = true then
      (Chip.setOwners { c with boot := { c.boot with warm := some 3 }, nv := c.nv.swap 2 1 true }
        ((c.nv.swap 2 1 true).bankOwners (c.nv.swap 2 1 true).curBank)).done []
    else c.fail WRONG_STATE := by
  have boot : c.boot = b.boot := by rw [hc, Chip.cmdAccept_boot]
  simp only [Chip.reboot, hc ▸ (Chip.cmdAccept_starting b irq).trans started, hc ▸ Chip.cmdAccept_tjMax b irq, Int.not_lt.mpr cool, boot,
    hc ▸ Chip.cmdAccept_arg b cbGLB 0 irq]
  cases bit (b.arg cbGLB 0) 0 <;> cases b.boot.loaded <;> rfl

/-! ### LOAD_MANIFEST -/

theorem Mram.bank_putBank (m : Mram) (n k : Nat) (x : BankArea) : (m.putBank n x).bank k = if (n = 0 ↔ k = 0) then x else m.bank k := by
  unfold Mram.putBank Mram.bank
  by_cases hn : n = 0 <;> by_cases hk : k = 0 <;> simp [hn, hk]

@[simp] theorem Mram.bank_putCopy (m : Mram) (n k : Nat) (x : CopyArea) : (m.putCopy n x).bank k = m.bank k := by
  unfold Mram.putCopy
  split <;> rfl

@[simp] theorem Mram.putBank_curBank (m : Mram) (n : Nat) (x : BankArea) : (m.putBank n x).curBank = m.curBank := by
  unfold Mram.putBank
  split <;> rfl

@[simp] theorem Mram.putCopy_curBank (m : Mram) (n : Nat) (x : CopyArea) : (m.putCopy n x).curBank = m.curBank := by
  unfold Mram.putCopy
  split <;> rfl

@[simp] theorem Mram.startLoad_curBank (m : Mram) : m.startLoad.curBank = m.curBank := by
  unfold Mram.startLoad
  simp only [Mram.putCopy_curBank, Mram.putBank_curBank]
  split <;> rfl

/-- A load begins in an empty bank (R498). -/
theorem Mram.startLoad_otherBank (m : Mram) : m.startLoad.bank m.otherBank = { st := 1 } := by
  simp [Mram.startLoad, Mram.bank_putBank]

/-- The bank that is CURRENT is not the one that is loaded. -/
theorem Mram.otherBank_apart (m : Mram) : ¬ (m.otherBank = 0 ↔ m.curBank = 0) := by
  unfold Mram.otherBank
  omega

theorem Mram.startLoad_curBank_bank (m : Mram) : m.startLoad.bank m.curBank = m.bank m.curBank := by
  simp only [Mram.startLoad, Mram.bank_putCopy, Mram.bank_putBank, m.otherBank_apart, if_false]
  split <;> rfl

/-- The first chunk of a load in SAFE, with flash, of at most 4,096 octets and not the last, begins a load (R96). -/
theorem Chip.loadManifest_first {b : Chip} {n : Nat} (chunk : List Nat) (stored : Bool) (safe : b.safe = true) (len : b.arg cbGLB 2 = n)
    (flash : b.boot.flashMib ≠ 0) (first : bit (b.arg cbGLB 3) 0 = true) (more : bit (b.arg cbGLB 3) 1 = false) (off : b.arg cbGLB 1 = 0)
    (pos : 1 ≤ n) (small : n ≤ 4096) (total : n ≤ b.arg cbGLB 0) (fits : b.arg cbGLB 0 ≤ b.bankMib * 2 ^ 20) :
    ∃ c : Chip, b.loadManifest chunk stored = c.done [n] ∧ c.boot = { b.boot with load := some n, loaded := false } ∧
      (c.nv.bank b.nv.otherBank).data = chunk ∧ c.nv.bank b.nv.curBank = b.nv.bank b.nv.curBank := by
  have good : b.chunkBad cbGLB b.boot.load = none := by
    have length : ¬ (n = 0 ∨ 4096 < n ∨ b.arg cbGLB 0 < 0 + n ∨ b.bankMib * 2 ^ 20 < b.arg cbGLB 0) := by omega
    simp only [Chip.chunkBad, len, off, first, length, flash, if_true, if_false, ne_eq, not_true_eq_false, Bool.not_true, Bool.false_and,
      Bool.false_eq_true, or_self]
  have other : b.nv.startLoad.otherBank = b.nv.otherBank := by simp [Mram.otherBank]
  simp only [Chip.loadManifest, safe, good, first, more, off, len, Bool.not_true, Bool.false_eq_true, if_false, if_true, Nat.zero_add]
  refine ⟨_, rfl, ?_, ?_, ?_⟩
  · simp [Chip.updShow, Chip.modNv]
  · simp [Chip.updShow, Chip.modNv, other, Mram.bank_putBank, Mram.startLoad_otherBank]
  · simp [Chip.updShow, Chip.modNv, other, Mram.bank_putBank, Mram.otherBank_apart, Mram.startLoad_curBank_bank]

end Sys2Proof.Machine

open Sys2Proof Sys2Proof.Machine

/-- Settles O12. -/
theorem diagnosticCommandsAnswer : Obligations.DiagnosticCommandsAnswer := by
  intro s irq takes
  have glb : cbGLB ∈ cbBases := by decide
  refine ⟨?_, fun some => ?_, fun none => ?_, fun started => ⟨fun bad => ?_, fun st good hst => ?_, fun cool => ⟨fun plain => ?_, fun swap =>
    ⟨fun loaded => ?_, fun absent => ?_⟩⟩⟩, fun stored => ⟨fun running => ?_, fun n safe hn flash first more off pos small total fits => ?_⟩⟩
  · refine Runs.answers rfl takes glb (by decide) ?_
    rw [Chip.diagStatus, Chip.cmdAccept_stateWord, Chip.cmdAccept_safeWord, Chip.cmdAccept_causeWord, Chip.cmdAccept_r _ _ _ _ (by decide)]
    rfl
  · refine Runs.answers rfl takes glb (by decide) ?_
    rw [Chip.readReport, Chip.cmdAccept_boot, if_neg (by simpa using some)]
    rfl
  · refine Runs.answers rfl takes glb (by decide) ?_
    rw [Chip.readReport, Chip.cmdAccept_boot, if_pos (by simp [none])]
    rfl
  · have silent : s.b.attests = false := by simp [Chip.attests, bad]
    refine Runs.answers (irq := irq) (f := fun c => c.readAttest (s.b.statement s.b.freeCtr).length) ?_ takes glb (by decide) ?_
    · simp [exec_readAttest, execReadAttest, silent]
    · simp only [Chip.readAttest, Chip.cmdAccept_starting, started, Chip.cmdAccept_boot, bad]
      rfl
  · subst hst
    have run : exec (.readAttest irq) s =
        .next { s with b := s.b.cmd cbGLB irq (fun c => c.readAttest (s.b.statement s.b.freeCtr).length), mem := s.mem.write 0x1000 (s.b.statement s.b.freeCtr) } := by
      simp [exec_readAttest, execReadAttest, Chip.attests, Chip.glb_idle takes, started, good]
    have accepted : (s.b.cmdAccept cbGLB irq).readAttest (s.b.statement s.b.freeCtr).length =
        ⟨Chip.cmdAccept { s.b with freeCtr := s.b.freeCtr + 1 } cbGLB irq, OK, [(s.b.statement s.b.freeCtr).length]⟩ := by
      simp only [Chip.readAttest, Chip.cmdAccept_starting, started, Chip.cmdAccept_boot, good]
      rfl
    obtain ⟨magic, nonce⟩ := s.b.statement_head s.b.freeCtr
    refine ⟨_, run, ?_⟩
    generalize s.b.statement s.b.freeCtr = st at *
    refine ⟨magic, nonce, rfl, ?_, ?_⟩
    case refine_2 => exact Chip.cmd_completed (f := fun c => c.readAttest st.length) takes (by decide) (by decide) (congrArg CmdOut.code accepted) (congrArg CmdOut.results accepted)
    simp only [Chip.cmd_takes _ _ takes, accepted]
    exact Chip.answer_only _ cbGLB OK irq [st.length]
  · refine Runs.answers' rfl takes glb (by decide) ?_
    rw [Chip.reboot_taken rfl started cool, if_pos plain]
    rfl
  · refine Runs.cmd rfl takes (by decide) (by decide) ((Chip.reboot_taken rfl started cool).trans ((if_neg (by simp [swap])).trans (if_pos loaded)))
      fun d hd completed => ⟨rfl, completed, ?_, ?_⟩
    · rw [hd, Chip.cmdFinish_boot]
      rfl
    · rw [hd, Chip.cmdFinish_nv]
      rfl
  · exact Runs.answers rfl takes glb (by decide) ((Chip.reboot_taken rfl started cool).trans ((if_neg (by simp [swap])).trans (if_neg (by simp [absent]))))
  · refine Runs.answers rfl takes glb (by decide) ?_
    rw [Chip.loadManifest, Chip.cmdAccept_safe, running]
    rfl
  · obtain ⟨c, first, boot, data, current⟩ := Chip.loadManifest_first (b := s.b.cmdAccept cbGLB irq) (s.mem.read 0x1000 n) stored
      ((Chip.cmdAccept_safe _ _).trans safe) ((Chip.cmdAccept_arg _ _ _ _).trans hn.symm) flash (by rwa [Chip.cmdAccept_arg])
      (by rwa [Chip.cmdAccept_arg]) (by rwa [Chip.cmdAccept_arg]) pos small (by rwa [Chip.cmdAccept_arg]) (by rwa [Chip.cmdAccept_arg])
    refine Runs.cmd rfl takes (by decide) (by decide) (c := c) (l := [n]) (code := OK) ?_ fun d hd completed => ⟨rfl, ?_, ?_, ?_, completed⟩
    · simp only [Chip.cmdAccept_arg, ← hn, Nat.min_eq_right small, first]
      rfl
    all_goals subst hd
    · rw [Chip.cmdFinish_boot, boot, Chip.cmdAccept_boot]
    · rw [Chip.cmdFinish_nv]
      exact data
    · rw [Chip.cmdFinish_nv]
      exact current

/-- Settles O13. -/
theorem consoleAnswers : Obligations.ConsoleAnswers := by
  intro s
  refine ⟨fun open_ => ⟨?_, ?_, fun started some => ?_, fun no => ?_, fun started cool => ?_⟩, fun parked => ⟨?_, ?_, ?_, ?_⟩⟩
  · simp [exec_consoleStatus, execConsoleStatus, Chip.consoleStatus, Chip.console, open_]
  · simp [exec_consoleLineTooLong, execConsoleLineTooLong, Chip.console, open_]
  · simp [exec_consoleReport, execConsoleReport, Chip.consoleReport, Chip.console, open_, started, some]
  · rcases no with starting | none
    · simp [exec_consoleReport, execConsoleReport, Chip.consoleReport, Chip.console, open_, starting]
    · simp [exec_consoleReport, execConsoleReport, Chip.consoleReport, Chip.console, open_, none]
  · have plain : bit 0 0 = false := by decide
    simp [exec_consoleReboot, execConsoleReboot, Chip.consoleReboot, open_, Chip.reboot, started, Int.not_lt.mpr cool, plain, Chip.done]
  · simp [exec_consoleStatus, execConsoleStatus, Chip.consoleStatus, Chip.console, parked]
  · simp [exec_consoleLineTooLong, execConsoleLineTooLong, Chip.console, parked]
  · simp [exec_consoleReport, execConsoleReport, Chip.consoleReport, Chip.console, parked]
  · simp [exec_consoleReboot, execConsoleReboot, Chip.consoleReboot, parked]

/-- Settles O14. -/
theorem debugCommandsRestart : Obligations.DebugCommandsRestart := by
  intro s irq takes ready
  have dbg : cbDBG ∈ cbBases := by decide
  have ready' : (s.b.cmdAccept cbDBG irq).ready = true := by rwa [Chip.ready, Chip.cmdAccept_r _ _ _ _ (by decide)]
  have strap' : (s.b.cmdAccept cbDBG irq).t Reg.DBG_STRAP = s.b.t Reg.DBG_STRAP := by rw [Chip.t, Chip.cmdAccept_r _ _ _ _ (by decide), Chip.t]
  have req' : (s.b.cmdAccept cbDBG irq).t Reg.DBG_REQ = s.b.t Reg.DBG_REQ := by rw [Chip.t, Chip.cmdAccept_r _ _ _ _ (by decide), Chip.t]
  have set (v : Bool) : Chip.OnlyBlock (Chip.wb { s.b with boot := { s.b.boot with warm := some 5 } } Reg.DBG_REQ v)
      ((s.b.cmdAccept cbDBG irq).debugSet v).b cbDBG :=
    (Chip.OnlyBlock.accept { s.b with boot := { s.b.boot with warm := some 5 } } cbDBG irq).w Reg.DBG_REQ (b2n v)
  refine ⟨fun key => ⟨fun strap req => ?_, fun no => ?_⟩, fun key => ?_, fun req => ?_, fun req => ?_⟩
  · have taken : (s.b.cmdAccept cbDBG irq).debugEnable = (s.b.cmdAccept cbDBG irq).debugSet true := by
      simp [Chip.debugEnable, key, ready', strap', strap, req', req]
    exact Runs.cmd rfl takes (by decide) (by decide) taken fun d hd completed => ⟨rfl, completed, hd ▸ (set true).finish OK []⟩
  · refine Runs.answers' rfl takes dbg (by decide) ?_
    rcases no with strap | req
    · simp [Chip.debugEnable, key, strap', strap, Chip.fail]
    · simp [Chip.debugEnable, key, req', req, Chip.fail]
  · refine Runs.answers' rfl takes dbg (by decide) ?_
    simp [Chip.debugEnable, key, Chip.fail]
  · have taken : (s.b.cmdAccept cbDBG irq).debugDisable = (s.b.cmdAccept cbDBG irq).debugSet false := by
      simp [Chip.debugDisable, ready', req', req]
    exact Runs.cmd rfl takes (by decide) (by decide) taken fun d hd completed => ⟨rfl, completed, hd ▸ (set false).finish OK []⟩
  · refine Runs.answers' rfl takes dbg (by decide) ?_
    simp [Chip.debugDisable, req', req, Chip.fail]
end

section
/-!
SUPPORT. How changes of the block compose: of some registers, of the notice block, and of the parts that a statement names.
-/
namespace Sys2Proof.Machine

theorem Chip.OnlyRegs.trans {b c d : Chip} {l : List Fld} (h1 : Chip.OnlyRegs b c l) (h2 : Chip.OnlyRegs c d l) : Chip.OnlyRegs b d l := by
  refine ⟨?_, fun f hf hn hs => (h2.2 f hf hn hs).trans (h1.2 f hf hn hs)⟩
  have parts := h2.1
  rw [h1.1] at parts
  rw [parts]

theorem Chip.OnlyRegs.mono {b c : Chip} {l m : List Fld} (h : Chip.OnlyRegs b c l) (sub : l ⊆ m) : Chip.OnlyRegs b c m :=
  ⟨h.1, fun f hf => h.2 f fun g hg => hf g (sub hg)⟩

theorem Chip.OnlyRegs.emit {b c : Chip} {l : List Fld} (h : Chip.OnlyRegs b c l) (o : Out) : Chip.OnlyRegs b (c.emit o) l :=
  h.notice (Chip.NoticeOnly.emit c o)

theorem Chip.OnlyRegs.raise {b c : Chip} {l : List Fld} (h : Chip.OnlyRegs b c l) (src code arg : Nat) : Chip.OnlyRegs b (c.raise src code arg) l :=
  h.notice (Chip.NoticeOnly.raise c src code arg)

/-- Changing the Seam block. -/
theorem Chip.OnlyRegs.seam {b c d : Chip} {l : List Fld} (h : Chip.OnlyRegs b c l) (hd : Chip.SeamOnly c d) : Chip.OnlyRegs b d l := by
  obtain ⟨parts, regs⟩ := hd
  refine ⟨?_, fun g hg hn hs => (regs g hs).trans (h.2 g hg hn hs)⟩
  rw [h.1] at parts
  rw [parts]

/-- With nothing left to do from the step before, the end of a step sends ceilings at most. -/
theorem Chip.OnlyRegs.settle {b c : Chip} {l : List Fld} (h : Chip.OnlyRegs b c l) (quiet : c.Quiet) : Chip.OnlyRegs b c.settle l := by
  rw [Chip.settle_quiet quiet]
  exact h.seam (Chip.SeamOnly.ceilSend c)

theorem Chip.OnlyRegs.ite {b x y : Chip} {l : List Fld} {p : Prop} [Decidable p] (hx : Chip.OnlyRegs b x l) (hy : Chip.OnlyRegs b y l) :
    Chip.OnlyRegs b (if p then x else y) l := by
  split
  · exact hx
  · exact hy

/-- What changes some registers keeps a step quiet. -/
theorem Chip.OnlyRegs.quiet {b c : Chip} {l : List Fld} (h : Chip.OnlyRegs b c l) (quiet : b.Quiet) : c.Quiet := by
  unfold Chip.Quiet
  rw [h.1]
  exact quiet

/-- A bit written reads as it was written. -/
theorem Chip.t_w_one (b : Chip) {f : Fld} (h : f.w = 1) : (b.w f 1).t f = true := by
  rw [Chip.t, Chip.r_w_same, h]
  rfl

theorem Chip.sooner_awake {b : Chip} (f : Chip → Chip) (h : b.Awake) : b.sooner f = f b := if_neg (not_or.mpr h)

theorem Chip.gated_writable {b : Chip} {part : Nat} (f : Chip → Chip) (h : b.writable part = true) : b.gated part f = f b := if_pos h

theorem Chip.gated_locked {b : Chip} {part : Nat} (f : Chip → Chip) (h : b.writable part = false) : b.gated part f = b.locked := if_neg (by simp [h])

/-- A structure rejection counts, names the register, and raises a notice (R71). -/
theorem Chip.structReject_only (b : Chip) (off : Nat) :
    Chip.OnlyRegs b (b.structReject off) [Reg.GLB_STRUCT_REJECT_CNT, Reg.GLB_STRUCT_REJECT_LAST] :=
  (((Chip.OnlyRegs.rfl' b _).w _ (by decide)).w _ (by decide)).raise _ _ _

theorem Chip.structReject_cnt (b : Chip) (off : Nat) :
    (b.structReject off).r Reg.GLB_STRUCT_REJECT_CNT = satAdd 32 (b.r Reg.GLB_STRUCT_REJECT_CNT) 1 := by
  rw [Chip.structReject, Chip.raise_r _ _ _ _ _ (by decide), Chip.r_w_ne _ _ _ _ (by decide), Chip.inc_eq, Chip.r_w_same]
  exact satAdd_mod 32 _ 1

theorem Chip.structReject_last (b : Chip) {off : Nat} (h : off < 2 ^ 22) : (b.structReject off).r Reg.GLB_STRUCT_REJECT_LAST = off := by
  rw [Chip.structReject, Chip.raise_r _ _ _ _ _ (by decide), Chip.r_w_same]
  exact Nat.mod_eq_of_lt h

/-! ### Commits of INCR and STEP (R131, R133) -/

theorem Chip.servoCommit_r (b : Chip) {f : Fld} (h : ∀ g ∈ [Reg.TIM_HOLDOVER, Reg.TIM_HOLDOVER_REQ], f.key ≠ g.key)
    (hn : f.key < 0x50000 * 32) : b.servoCommit.r f = b.r f :=
  (Chip.servoCommit_only b).2 f h (.inl hn) (.inl (by omega))

/-- The word that an INCR commit makes: the staged upper octet over the written word (R28, R131). -/
def Chip.incrWord (b : Chip) (rq : Requester) (v : Nat) : Nat := (b.stagedAt rq 0x40024).getD (b.r Reg.TIM_INCR_HI) % 256 * 2 ^ 32 + v

/-- An INCR commit in range. -/
theorem Chip.incrCommit_taken {b : Chip} {rq : Requester} {v : Nat} (hv : v < 2 ^ 32) (low : 17162689315 ≤ b.incrWord rq v)
    (high : b.incrWord rq v ≤ 17197049053) : b.incrCommit rq v =
      Chip.servoCommit ((Chip.w { b with staged := kdel b.staged (lkey rq 0x40024), tim := { b.tim with pendIncr := some (b.incrWord rq v) } }
        Reg.TIM_INCR_LO v).w Reg.TIM_INCR_HI ((b.stagedAt rq 0x40024).getD (b.r Reg.TIM_INCR_HI) % 256)) := by
  unfold Chip.incrCommit
  simp only [Nat.mod_eq_of_lt hv]
  exact if_pos ⟨low, high⟩

theorem Chip.incrCommit_refused {b : Chip} {rq : Requester} {v : Nat} (hv : v < 2 ^ 32)
    (h : b.incrWord rq v < 17162689315 ∨ 17197049053 < b.incrWord rq v) :
    b.incrCommit rq v = Chip.inc { b with staged := kdel b.staged (lkey rq 0x40024) } Reg.TIM_INCR_REJ_CNT := by
  unfold Chip.incrCommit
  simp only [Nat.mod_eq_of_lt hv]
  exact if_neg fun inside => h.elim (Nat.not_lt.mpr inside.1) (Nat.not_lt.mpr inside.2)

/-! ### Holdover (R138) -/

theorem Chip.holdover_shows (b : Chip) (cause : Nat) :
    (b.holdover cause).r Reg.TIM_HOLDOVER = 1 ∧ (b.holdover cause).r Reg.TIM_HOLDOVER_STITCHES = 0 := by
  constructor
  · rw [Chip.holdover, Chip.raise_r _ _ _ _ _ (by decide), Chip.r_w_ne _ _ _ _ (by decide), Chip.wb_eq, Chip.r_w_same]
    rfl
  · rw [Chip.holdover, Chip.raise_r _ _ _ _ _ (by decide), Chip.r_w_same]
    rfl

theorem Chip.holdover_only (b : Chip) (cause : Nat) : Chip.OnlyRegs b (b.holdover cause) [Reg.TIM_HOLDOVER, Reg.TIM_HOLDOVER_STITCHES] :=
  (((Chip.OnlyRegs.rfl' b _).w _ (by decide)).w _ (by decide)).raise _ _ _

/-- Arming a timer clears DISC, which leaves its mode and its start value. -/
theorem Chip.tmrArm_eq (b : Chip) (n : Nat) : b.tmrArm n = match b.r (Reg.TMR_MODE n) with
    | 1 => (b.w (Reg.TMR_DISC n) 0).w (Reg.TMR_RUNNING n) 1
    | 2 => ((b.w (Reg.TMR_DISC n) 0).w (Reg.TMR_COUNT n) (b.r (Reg.TMR_START n))).w (Reg.TMR_RUNNING n) 1
    | _ => b.w (Reg.TMR_DISC n) 0 := by
  have mode : (b.w (Reg.TMR_DISC n) 0).r (Reg.TMR_MODE n) = b.r (Reg.TMR_MODE n) :=
    Chip.r_w_ne _ _ _ _ (by simp only [Fld.key, Reg.TMR_DISC, Reg.TMR_MODE]; omega)
  have start : (b.w (Reg.TMR_DISC n) 0).r (Reg.TMR_START n) = b.r (Reg.TMR_START n) :=
    Chip.r_w_ne _ _ _ _ (by simp only [Fld.key, Reg.TMR_DISC, Reg.TMR_START]; omega)
  unfold Chip.tmrArm
  simp only [Chip.wb_eq, b2n, Bool.false_eq_true, if_false, if_true, mode, start] <;> rfl

/-! ### The timestamp FIFO (R149) -/

theorem Chip.latchWords_only (b : Chip) (rq : Requester) (off : Nat) (l : List Nat) :
    b.latchWords rq off l = { b with latch := (b.latchWords rq off l).latch } := by
  induction l generalizing b off with
  | nil => rfl
  | cons v l ih => exact ih (b.latchPut rq off v) (off + 4)

/-- A pop takes the head record out, latches its words and writes the depth. -/
theorem Chip.tsPop_eq (b : Chip) (rq : Requester) (port : Nat) :
    b.tsPop rq port = (Chip.w { b with
        latch := (b.latchWords rq (0x40110 + 0x40 * port) ((kgetD b.tim.fifo port []).headD [0, 0, 0, 0])).latch
        tim := { b.tim with fifo := kput b.tim.fifo port (kgetD b.tim.fifo port []).tail, fifoDisc := b.tim.fifoDisc.filter (· != port) } }
      (Reg.TIM_TS_DEPTH port) (kgetD b.tim.fifo port []).tail.length, ((kgetD b.tim.fifo port []).headD [0, 0, 0, 0]).headD 0) := by
  unfold Chip.tsPop
  simp only
  rw [Chip.latchWords_only]

/-- A pop leaves what it does not name. -/
theorem Chip.tsPop_only (b : Chip) (rq : Requester) (port : Nat) :
    Chip.OnlyRegs { b with tim := (b.tsPop rq port).1.tim, latch := (b.tsPop rq port).1.latch } (b.tsPop rq port).1 [Reg.TIM_TS_DEPTH port] := by
  rw [Chip.tsPop_eq]
  exact (Chip.OnlyRegs.rfl' _ _).w _ (List.mem_singleton.mpr rfl)

theorem Chip.tsPop_depth (b : Chip) (rq : Requester) (port : Nat) :
    (b.tsPop rq port).1.r (Reg.TIM_TS_DEPTH port) = (kgetD b.tim.fifo port []).tail.length % 2 ^ 7 := by
  rw [Chip.tsPop_eq]
  exact Chip.r_w_same _ _ _

theorem kgetD_kput_same {α : Type} (m : KV α) (k : Nat) (v d : α) : kgetD (kput m k v) k d = v := by rw [kgetD, kget_kput_same, Option.getD_some]

end Sys2Proof.Machine

open Sys2Proof Sys2Proof.Machine

/-- Settles O18. -/
theorem timeCommits : Obligations.TimeCommits := by
  intro s rq v
  refine ⟨fun locked => ⟨?_, ?_⟩, fun open_ => ⟨?_, ?_⟩⟩
  · rw [exec_incrCommit, execIncrCommit, State.on_eq, Chip.gated_locked _ locked]
    rfl
  · rw [exec_stepCommit, execStepCommit, State.on_eq, Chip.gated_locked _ locked]
    rfl
  · have run : exec (.incrCommit rq v) s = .next { s with b := s.b.incrCommit rq v.toNat } := by
      rw [exec_incrCommit, execIncrCommit, State.on_eq, Chip.gated_writable _ open_]
    rintro hi x rfl rfl
    refine ⟨fun ⟨low, high⟩ => ⟨_, run, rfl, ?_⟩, fun out => ?_⟩
    · simp only [Chip.incrCommit_taken v.isLt low high]
      refine ⟨?_, ?_, Chip.servoCommit_holdover _, ?_⟩
      · rw [Chip.servoCommit_r _ (by decide) (by decide), Chip.r_w_ne _ _ _ _ (by decide), Chip.r_w_same]
        exact Nat.mod_eq_of_lt v.isLt
      · rw [Chip.servoCommit_r _ (by decide) (by decide), Chip.r_w_same]
        exact Nat.mod_mod _ _
      · exact (((Chip.OnlyRegs.rfl' _ _).w _ (by decide)).w _ (by decide)).trans ((Chip.servoCommit_only _).mono (by decide))
    · rw [run, Chip.incrCommit_refused v.isLt out]
  · have run : exec (.stepCommit rq v) s = .next { s with b := s.b.stepCommit rq v.toNat } := by
      rw [exec_stepCommit, execStepCommit, State.on_eq, Chip.gated_writable _ open_]
    rintro st tt rfl rfl
    refine ⟨fun moves low high => ⟨_, run, rfl, ?_⟩, fun out => ?_⟩
    · have taken : s.b.stepCommit rq v.toNat = _ := (if_neg (not_or.mpr ⟨Int.not_lt.mpr low, Int.not_le.mpr high⟩)).trans (if_neg moves)
      simp only [taken]
      exact ⟨Chip.servoCommit_holdover _, Chip.servoCommit_only _⟩
    · rw [run]
      exact congrArg (fun b => Host.Outcome.next { s with b := b }) (if_pos out)

/-- Settles O21. -/
theorem holdoverIsEntered : Obligations.HoldoverIsEntered := by
  intro s
  refine ⟨fun out => ⟨fun open_ => ?_, fun n hn on late => ?_⟩, fun inside open_ => ?_, fun no => ?_⟩
  · have run : exec .holdoverReq s = .next { s with b := (s.b.wb Reg.TIM_HOLDOVER_REQ true).holdover 1 } := by
      rw [exec_holdoverReq, execHoldoverReq, State.on_eq, Chip.gated_writable _ open_, Chip.holdoverReq, out]
      rfl
    have shows := (s.b.wb Reg.TIM_HOLDOVER_REQ true).holdover_shows 1
    have only := (s.b.wb Reg.TIM_HOLDOVER_REQ true).holdover_only 1
    refine ⟨_, run, rfl, shows.1, ?_, shows.2, by rw [only.1]; rfl, ?_⟩
    · exact (only.2 _ (by decide) (by decide) (by decide)).trans (Chip.r_w_same _ _ _)
    · exact ((Chip.OnlyRegs.rfl' s.b _).w _ (by decide)).trans (only.mono (by decide))
  · have run : exec .holdoverTimeout s = .next { s with b := s.b.holdover 0 } := by
      rw [exec_holdoverTimeout, execHoldoverTimeout, State.on_eq, Chip.holdoverTimeout, hn]
      simp [on, late, out]
    have shows := s.b.holdover_shows 0
    have only := s.b.holdover_only 0
    exact ⟨_, run, rfl, shows.1, shows.2, by rw [only.1], only⟩
  · rw [exec_holdoverReq, execHoldoverReq, State.on_eq, Chip.gated_writable _ open_, Chip.holdoverReq, inside]
    rfl
  · rw [exec_holdoverTimeout, execHoldoverTimeout, State.on_eq, Chip.holdoverTimeout]
    split
    · next n hn =>
      rw [if_neg]
      rintro ⟨on, late, out⟩
      rcases no with inside | off | early
      · exact out inside
      · exact on off
      · exact absurd (early n hn) (Nat.not_lt.mpr late)
    · rfl

/-- Settles O24. -/
theorem timerChannelsAreWritten : Obligations.TimerChannelsAreWritten := by
  intro s n v open_ hn
  have own (f : Chip → Chip) (off : Nat) (h : s.b.t (Reg.TMR_HOST_OWNED n) = true) : s.b.hostTimer n off f = f s.b := if_pos h
  refine ⟨fun owned awake => ⟨fun mode => ?_, fun mode => ?_, fun mode => ?_, ?_, ?_, ?_⟩, fun other i off hi => ?_⟩
  · simp only [exec_timerArm, execTimerArm, State.on_eq, Chip.gated_writable _ open_, hn, if_true, own _ _ owned, Chip.sooner_awake _ awake,
      Chip.tmrArm_eq, mode]
  · simp only [exec_timerArm, execTimerArm, State.on_eq, Chip.gated_writable _ open_, hn, if_true, own _ _ owned, Chip.sooner_awake _ awake,
      Chip.tmrArm_eq, mode]
  · simp only [exec_timerArm, execTimerArm, State.on_eq, Chip.gated_writable _ open_, hn, if_true, own _ _ owned, Chip.sooner_awake _ awake,
      Chip.tmrArm_eq, mode]
  · simp only [exec_timerStop, execTimerStop, State.on_eq, Chip.gated_writable _ open_, hn, if_true, own _ _ owned]
    rfl
  · simp only [exec_countWrite, execCountWrite, State.on_eq, Chip.gated_writable _ open_, hn, if_true, own _ _ owned, Chip.sooner_awake _ awake]
  · simp only [exec_compareWrite, execCompareWrite, State.on_eq, Chip.gated_writable _ open_, hn, if_true, own _ _ owned, Chip.sooner_awake _ awake]
    rfl
  · have reject (f : Chip → Chip) (o : Nat) : s.b.hostTimer n o f = s.b.structReject o := if_neg (by simp [other])
    have run : exec i s = .next { s with b := s.b.structReject off } := by
      rcases hi with ⟨rfl, rfl⟩ | ⟨rfl, rfl⟩ | ⟨rfl, rfl⟩ | ⟨rfl, rfl⟩
      · simp only [exec_timerArm, execTimerArm, State.on_eq, Chip.gated_writable _ open_, hn, if_true, reject]
      · simp only [exec_timerStop, execTimerStop, State.on_eq, Chip.gated_writable _ open_, hn, if_true, reject]
      · simp only [exec_countWrite, execCountWrite, State.on_eq, Chip.gated_writable _ open_, hn, if_true, reject]
      · simp only [exec_compareWrite, execCompareWrite, State.on_eq, Chip.gated_writable _ open_, hn, if_true, reject]
    have small : off < 2 ^ 22 := by
      rcases hi with ⟨-, rfl⟩ | ⟨-, rfl⟩ | ⟨-, rfl⟩ | ⟨-, rfl⟩ <;> simp only [Reg.TMR_ARM, Reg.TMR_STOP, Reg.TMR_COUNT, Reg.TMR_COMPARE] <;> omega
    exact ⟨_, run, rfl, s.b.structReject_cnt off, s.b.structReject_last small, s.b.structReject_only off⟩

/-- Settles O22. -/
theorem timestampsArePopped : Obligations.TimestampsArePopped := by
  intro s rq port hp
  have hp' : ¬ 1 < port := by omega
  refine ⟨fun closed => ?_, fun answers => ?_⟩
  · simp [exec_tsFifoPop, execTsFifoPop, hp', closed]
  have run : exec (.tsFifoPop rq port) s = .next { s with b := (s.b.tsPop rq port).1.emit (.data rq (leBytes (s.b.tsPop rq port).2 4)) } := by
    simp [exec_tsFifoPop, execTsFifoPop, hp', answers]
  have only := s.b.tsPop_only rq port
  refine ⟨fun empty => ⟨_, run, rfl, ?_, ?_, only.emit _⟩, fun w0 w1 w2 w3 q head room => ⟨_, run, rfl, ?_, ?_, ?_, ?_, ?_, ?_, only.emit _⟩⟩
  · exact (s.b.tsPop_depth rq port).trans (by rw [empty]; rfl)
  · simp only [Chip.tsPop_eq, empty]
    rfl
  · simp only [Chip.tsPop_eq, head]
    exact kgetD_kput_same _ _ _ _
  · exact (s.b.tsPop_depth rq port).trans (by rw [head]; exact Nat.mod_eq_of_lt (by simp only [List.tail_cons]; omega))
  · simp only [Chip.tsPop_eq, head]
    rfl
  · rw [Chip.tsPop_eq, head]
    show kget (kput (kput (kput (kput s.b.latch _ _) _ _) _ _) _ _) _ = _
    simp only [kget_kput, lkey]
    grind
  · rw [Chip.tsPop_eq, head]
    show kget (kput (kput (kput (kput s.b.latch _ _) _ _) _ _) _ _) _ = _
    simp only [kget_kput, lkey]
    grind
  · rw [Chip.tsPop_eq, head]
    show kget (kput (kput (kput (kput s.b.latch _ _) _ _) _ _) _ _) _ = _
    simp only [kget_kput, lkey]
    grind
end

section
/-!
SUPPORT. What a change of the block may touch: parts of it, by name, and registers, by key.
-/
namespace Sys2Proof.Machine

/-- The parts of the block, apart from the registers. -/
inductive Part where
  | bank | latch | staged | cmdIrq | acc | overrides | pat | ntc | clk | tim | cap | rawCap | rawMem | tmrAcc | queues | nextItem | eccFirst
  | tmg | adapt | rf | rx | tx | sch | mac | sec | key | fwd | svc | nv | boot | upd | pwr | hif | sea | owed | gap | freeCtr | out
  deriving DecidableEq

/-- The block with the registers and the named parts of another. -/
def Chip.with (ps : List Part) (b c : Chip) : Chip :=
  { regs := c.regs,
    bank := if .bank ∈ ps then c.bank else b.bank, latch := if .latch ∈ ps then c.latch else b.latch,
    staged := if .staged ∈ ps then c.staged else b.staged, cmdIrq := if .cmdIrq ∈ ps then c.cmdIrq else b.cmdIrq,
    acc := if .acc ∈ ps then c.acc else b.acc, overrides := if .overrides ∈ ps then c.overrides else b.overrides,
    pat := if .pat ∈ ps then c.pat else b.pat, ntc := if .ntc ∈ ps then c.ntc else b.ntc, clk := if .clk ∈ ps then c.clk else b.clk,
    tim := if .tim ∈ ps then c.tim else b.tim, cap := if .cap ∈ ps then c.cap else b.cap, rawCap := if .rawCap ∈ ps then c.rawCap else b.rawCap,
    rawMem := if .rawMem ∈ ps then c.rawMem else b.rawMem, tmrAcc := if .tmrAcc ∈ ps then c.tmrAcc else b.tmrAcc,
    queues := if .queues ∈ ps then c.queues else b.queues, nextItem := if .nextItem ∈ ps then c.nextItem else b.nextItem,
    eccFirst := if .eccFirst ∈ ps then c.eccFirst else b.eccFirst, tmg := if .tmg ∈ ps then c.tmg else b.tmg,
    adapt := if .adapt ∈ ps then c.adapt else b.adapt, rf := if .rf ∈ ps then c.rf else b.rf, rx := if .rx ∈ ps then c.rx else b.rx,
    tx := if .tx ∈ ps then c.tx else b.tx, sch := if .sch ∈ ps then c.sch else b.sch, mac := if .mac ∈ ps then c.mac else b.mac,
    sec := if .sec ∈ ps then c.sec else b.sec, key := if .key ∈ ps then c.key else b.key, fwd := if .fwd ∈ ps then c.fwd else b.fwd,
    svc := if .svc ∈ ps then c.svc else b.svc, nv := if .nv ∈ ps then c.nv else b.nv, boot := if .boot ∈ ps then c.boot else b.boot,
    upd := if .upd ∈ ps then c.upd else b.upd, pwr := if .pwr ∈ ps then c.pwr else b.pwr, hif := if .hif ∈ ps then c.hif else b.hif,
    sea := if .sea ∈ ps then c.sea else b.sea, owed := if .owed ∈ ps then c.owed else b.owed, gap := if .gap ∈ ps then c.gap else b.gap,
    freeCtr := if .freeCtr ∈ ps then c.freeCtr else b.freeCtr, out := if .out ∈ ps then c.out else b.out }

/-- From the first block to the second only the named parts have changed, and registers of the given keys. -/
def Chip.Only (ps : List Part) (rs : Nat → Prop) (b c : Chip) : Prop := c = b.with ps c ∧ ∀ f : Fld, ¬ rs f.key → c.r f = b.r f

/-- The keys of the registers at offsets from the first up to the second. -/
abbrev offs (lo hi k : Nat) : Prop := lo * 32 ≤ k ∧ k < hi * 32

/-- No register. -/
abbrev noReg (_ : Nat) : Prop := False

theorem Chip.with_same (ps : List Part) (b : Chip) : b.with ps b = b := by simp only [Chip.with, ite_self]

theorem Chip.with_with {ps qs : List Part} (sub : ps ⊆ qs) (b c : Chip) : b.with qs (b.with ps c) = b.with ps c := by
  have pick {p : Part} {α : Type} (x y : α) : (if p ∈ qs then (if p ∈ ps then y else x) else x) = if p ∈ ps then y else x := by
    by_cases h : p ∈ ps
    · rw [if_pos h, if_pos (sub h)]
    · rw [if_neg h, ite_self]
  simp only [Chip.with, pick]

theorem Chip.with_trans (ps : List Part) (b c d : Chip) : (b.with ps c).with ps d = b.with ps d := by
  have pick {p : Part} {α : Type} (x y z : α) : (if p ∈ ps then z else (if p ∈ ps then y else x)) = if p ∈ ps then z else x := by
    by_cases h : p ∈ ps
    · rw [if_pos h, if_pos h]
    · rw [if_neg h, if_neg h, if_neg h]
  simp only [Chip.with, pick]

section
variable {b c d : Chip} {ps qs : List Part} {rs ss : Nat → Prop}

theorem Chip.Only.rfl' (b : Chip) (ps : List Part) (rs : Nat → Prop) : Chip.Only ps rs b b := ⟨(b.with_same ps).symm, fun _ _ => rfl⟩

theorem Chip.Only.trans (h1 : Chip.Only ps rs b c) (h2 : Chip.Only ps rs c d) : Chip.Only ps rs b d := by
  refine ⟨?_, fun f hf => (h2.2 f hf).trans (h1.2 f hf)⟩
  have parts := h2.1
  rwa [h1.1, Chip.with_trans] at parts

theorem Chip.Only.mono (h : Chip.Only ps rs b c) (sub : ps ⊆ qs) (keys : ∀ k, rs k → ss k) : Chip.Only qs ss b c := by
  refine ⟨?_, fun f hf => h.2 f (hf ∘ keys _)⟩
  rw [h.1, Chip.with_with sub]

/-- Writing one of the registers. -/
theorem Chip.Only.w (h : Chip.Only ps rs b c) (f : Fld) (v : Nat) (hf : rs f.key) : Chip.Only ps rs b (c.w f v) := by
  refine h.trans ⟨?_, fun g hg => Chip.r_w_ne c f g v fun e => hg (e ▸ hf)⟩
  exact (Chip.with_same ps (c.w f v)).symm

/-- Setting some of the parts. -/
theorem Chip.Only.set (h : Chip.Only ps rs b c) (parts : d = c.with ps d) (regs : d.regs = c.regs) : Chip.Only ps rs b d :=
  h.trans ⟨parts, fun f _ => Chip.r_congr regs f⟩

theorem Chip.Only.ite {p : Prop} [Decidable p] (hc : Chip.Only ps rs b c) (hd : Chip.Only ps rs b d) : Chip.Only ps rs b (if p then c else d) := by
  split
  · exact hc
  · exact hd

theorem Chip.Only.foldl {α : Type} {f : Chip → α → Chip} (l : List α) (h : Chip.Only ps rs b c) (step : ∀ d, ∀ x ∈ l, Chip.Only ps rs d (f d x)) :
    Chip.Only ps rs b (l.foldl f c) :=
  List.foldlRecOn l f h fun _ hd x hx => hd.trans (step _ x hx)

/-- What is kept by changes of the notice block. -/
theorem Chip.NoticeOnly.only (h : Chip.NoticeOnly b c) : Chip.Only [.ntc, .out] (offs 0x50000 0x60000) b c :=
  ⟨h.1, fun f hf => h.2 f (by unfold offs at hf; omega)⟩

theorem Chip.SeamOnly.only (h : Chip.SeamOnly b c) : Chip.Only [.sea, .out] (offs 0x220000 0x230000) b c :=
  ⟨h.1, fun f hf => h.2 f (by unfold offs at hf; omega)⟩

theorem Chip.raise_only (b : Chip) (src code arg : Nat) : Chip.Only [.ntc, .out] (offs 0x50000 0x60000) b (b.raise src code arg) :=
  (Chip.NoticeOnly.raise b src code arg).only

theorem Chip.settle_only (quiet : b.Quiet) : Chip.Only [.sea, .out] (offs 0x220000 0x230000) b b.settle := by
  rw [Chip.settle_quiet quiet]
  exact (Chip.SeamOnly.ceilSend b).only

theorem Chip.lateWake_only (b : Chip) (n : Nat) : Chip.Only [] (· = Reg.PWR_LATE_WAKE.key) b (b.lateWake n) :=
  .ite ((Chip.Only.rfl' b _ _).w _ _ rfl) (.rfl' b _ _)

/-! Each part, where it is set and where it stays. -/

theorem Chip.Only.putBank (h : Chip.Only ps rs b c) (mem : Part.bank ∈ ps) (x : KV Nat) : Chip.Only ps rs b { c with bank := x } :=
  h.set (by simp only [Chip.with, mem, if_true, ite_self]) rfl
theorem Chip.Only.putLatch (h : Chip.Only ps rs b c) (mem : Part.latch ∈ ps) (x : KV Nat) : Chip.Only ps rs b { c with latch := x } :=
  h.set (by simp only [Chip.with, mem, if_true, ite_self]) rfl
theorem Chip.Only.putStaged (h : Chip.Only ps rs b c) (mem : Part.staged ∈ ps) (x : KV Nat) : Chip.Only ps rs b { c with staged := x } :=
  h.set (by simp only [Chip.with, mem, if_true, ite_self]) rfl
theorem Chip.Only.putCmdIrq (h : Chip.Only ps rs b c) (mem : Part.cmdIrq ∈ ps) (x : List Nat) : Chip.Only ps rs b { c with cmdIrq := x } :=
  h.set (by simp only [Chip.with, mem, if_true, ite_self]) rfl
theorem Chip.Only.putAcc (h : Chip.Only ps rs b c) (mem : Part.acc ∈ ps) (x : KV Nat) : Chip.Only ps rs b { c with acc := x } :=
  h.set (by simp only [Chip.with, mem, if_true, ite_self]) rfl
theorem Chip.Only.putOverrides (h : Chip.Only ps rs b c) (mem : Part.overrides ∈ ps) (x : List Nat) : Chip.Only ps rs b { c with overrides := x } :=
  h.set (by simp only [Chip.with, mem, if_true, ite_self]) rfl
theorem Chip.Only.putPat (h : Chip.Only ps rs b c) (mem : Part.pat ∈ ps) (x : Pat) : Chip.Only ps rs b { c with pat := x } :=
  h.set (by simp only [Chip.with, mem, if_true, ite_self]) rfl
theorem Chip.Only.putNtc (h : Chip.Only ps rs b c) (mem : Part.ntc ∈ ps) (x : Ntc) : Chip.Only ps rs b { c with ntc := x } :=
  h.set (by simp only [Chip.with, mem, if_true, ite_self]) rfl
theorem Chip.Only.putClk (h : Chip.Only ps rs b c) (mem : Part.clk ∈ ps) (x : Clk) : Chip.Only ps rs b { c with clk := x } :=
  h.set (by simp only [Chip.with, mem, if_true, ite_self]) rfl
theorem Chip.Only.putTim (h : Chip.Only ps rs b c) (mem : Part.tim ∈ ps) (x : Tim) : Chip.Only ps rs b { c with tim := x } :=
  h.set (by simp only [Chip.with, mem, if_true, ite_self]) rfl
theorem Chip.Only.putCap (h : Chip.Only ps rs b c) (mem : Part.cap ∈ ps) (x : KV CapSt) : Chip.Only ps rs b { c with cap := x } :=
  h.set (by simp only [Chip.with, mem, if_true, ite_self]) rfl
theorem Chip.Only.putRawCap (h : Chip.Only ps rs b c) (mem : Part.rawCap ∈ ps) (x : List RawWin) : Chip.Only ps rs b { c with rawCap := x } :=
  h.set (by simp only [Chip.with, mem, if_true, ite_self]) rfl
theorem Chip.Only.putRawMem (h : Chip.Only ps rs b c) (mem : Part.rawMem ∈ ps) (x : KV (List Nat)) : Chip.Only ps rs b { c with rawMem := x } :=
  h.set (by simp only [Chip.with, mem, if_true, ite_self]) rfl
theorem Chip.Only.putTmrAcc (h : Chip.Only ps rs b c) (mem : Part.tmrAcc ∈ ps) (x : KV Nat) : Chip.Only ps rs b { c with tmrAcc := x } :=
  h.set (by simp only [Chip.with, mem, if_true, ite_self]) rfl
theorem Chip.Only.putQueues (h : Chip.Only ps rs b c) (mem : Part.queues ∈ ps) (x : KV Queue) : Chip.Only ps rs b { c with queues := x } :=
  h.set (by simp only [Chip.with, mem, if_true, ite_self]) rfl
theorem Chip.Only.putNextItem (h : Chip.Only ps rs b c) (mem : Part.nextItem ∈ ps) (x : Nat) : Chip.Only ps rs b { c with nextItem := x } :=
  h.set (by simp only [Chip.with, mem, if_true, ite_self]) rfl
theorem Chip.Only.putEccFirst (h : Chip.Only ps rs b c) (mem : Part.eccFirst ∈ ps) (x : Option (Nat × Bool)) : Chip.Only ps rs b { c with eccFirst := x } :=
  h.set (by simp only [Chip.with, mem, if_true, ite_self]) rfl
theorem Chip.Only.putTmg (h : Chip.Only ps rs b c) (mem : Part.tmg ∈ ps) (x : Tmg) : Chip.Only ps rs b { c with tmg := x } :=
  h.set (by simp only [Chip.with, mem, if_true, ite_self]) rfl
theorem Chip.Only.putAdapt (h : Chip.Only ps rs b c) (mem : Part.adapt ∈ ps) (x : List AdaptIn) : Chip.Only ps rs b { c with adapt := x } :=
  h.set (by simp only [Chip.with, mem, if_true, ite_self]) rfl
theorem Chip.Only.putRf (h : Chip.Only ps rs b c) (mem : Part.rf ∈ ps) (x : KV Rf) : Chip.Only ps rs b { c with rf := x } :=
  h.set (by simp only [Chip.with, mem, if_true, ite_self]) rfl
theorem Chip.Only.putRx (h : Chip.Only ps rs b c) (mem : Part.rx ∈ ps) (x : Rx) : Chip.Only ps rs b { c with rx := x } :=
  h.set (by simp only [Chip.with, mem, if_true, ite_self]) rfl
theorem Chip.Only.putTx (h : Chip.Only ps rs b c) (mem : Part.tx ∈ ps) (x : Tx) : Chip.Only ps rs b { c with tx := x } :=
  h.set (by simp only [Chip.with, mem, if_true, ite_self]) rfl
theorem Chip.Only.putSch (h : Chip.Only ps rs b c) (mem : Part.sch ∈ ps) (x : Sch) : Chip.Only ps rs b { c with sch := x } :=
  h.set (by simp only [Chip.with, mem, if_true, ite_self]) rfl
theorem Chip.Only.putMac (h : Chip.Only ps rs b c) (mem : Part.mac ∈ ps) (x : Mac) : Chip.Only ps rs b { c with mac := x } :=
  h.set (by simp only [Chip.with, mem, if_true, ite_self]) rfl
theorem Chip.Only.putSec (h : Chip.Only ps rs b c) (mem : Part.sec ∈ ps) (x : Sec) : Chip.Only ps rs b { c with sec := x } :=
  h.set (by simp only [Chip.with, mem, if_true, ite_self]) rfl
theorem Chip.Only.putKey (h : Chip.Only ps rs b c) (mem : Part.key ∈ ps) (x : Key) : Chip.Only ps rs b { c with key := x } :=
  h.set (by simp only [Chip.with, mem, if_true, ite_self]) rfl
theorem Chip.Only.putFwd (h : Chip.Only ps rs b c) (mem : Part.fwd ∈ ps) (x : Fwd) : Chip.Only ps rs b { c with fwd := x } :=
  h.set (by simp only [Chip.with, mem, if_true, ite_self]) rfl
theorem Chip.Only.putSvc (h : Chip.Only ps rs b c) (mem : Part.svc ∈ ps) (x : Svc) : Chip.Only ps rs b { c with svc := x } :=
  h.set (by simp only [Chip.with, mem, if_true, ite_self]) rfl
theorem Chip.Only.putNv (h : Chip.Only ps rs b c) (mem : Part.nv ∈ ps) (x : Mram) : Chip.Only ps rs b { c with nv := x } :=
  h.set (by simp only [Chip.with, mem, if_true, ite_self]) rfl
theorem Chip.Only.putBoot (h : Chip.Only ps rs b c) (mem : Part.boot ∈ ps) (x : Boot) : Chip.Only ps rs b { c with boot := x } :=
  h.set (by simp only [Chip.with, mem, if_true, ite_self]) rfl
theorem Chip.Only.putUpd (h : Chip.Only ps rs b c) (mem : Part.upd ∈ ps) (x : Upd) : Chip.Only ps rs b { c with upd := x } :=
  h.set (by simp only [Chip.with, mem, if_true, ite_self]) rfl
theorem Chip.Only.putPwr (h : Chip.Only ps rs b c) (mem : Part.pwr ∈ ps) (x : Pwr) : Chip.Only ps rs b { c with pwr := x } :=
  h.set (by simp only [Chip.with, mem, if_true, ite_self]) rfl
theorem Chip.Only.putHif (h : Chip.Only ps rs b c) (mem : Part.hif ∈ ps) (x : Hif) : Chip.Only ps rs b { c with hif := x } :=
  h.set (by simp only [Chip.with, mem, if_true, ite_self]) rfl
theorem Chip.Only.putSea (h : Chip.Only ps rs b c) (mem : Part.sea ∈ ps) (x : Sea) : Chip.Only ps rs b { c with sea := x } :=
  h.set (by simp only [Chip.with, mem, if_true, ite_self]) rfl
theorem Chip.Only.putOwed (h : Chip.Only ps rs b c) (mem : Part.owed ∈ ps) (x : KV (List Nat)) : Chip.Only ps rs b { c with owed := x } :=
  h.set (by simp only [Chip.with, mem, if_true, ite_self]) rfl
theorem Chip.Only.putGap (h : Chip.Only ps rs b c) (mem : Part.gap ∈ ps) (x : Bool) : Chip.Only ps rs b { c with gap := x } :=
  h.set (by simp only [Chip.with, mem, if_true, ite_self]) rfl
theorem Chip.Only.putFreeCtr (h : Chip.Only ps rs b c) (mem : Part.freeCtr ∈ ps) (x : Nat) : Chip.Only ps rs b { c with freeCtr := x } :=
  h.set (by simp only [Chip.with, mem, if_true, ite_self]) rfl
theorem Chip.Only.putOut (h : Chip.Only ps rs b c) (mem : Part.out ∈ ps) (x : List Out) : Chip.Only ps rs b { c with out := x } :=
  h.set (by simp only [Chip.with, mem, if_true, ite_self]) rfl

theorem Chip.Only.bank (h : Chip.Only ps rs b c) (out : Part.bank ∉ ps) : c.bank = b.bank := (congrArg Chip.bank h.1).trans (if_neg out)
theorem Chip.Only.latch (h : Chip.Only ps rs b c) (out : Part.latch ∉ ps) : c.latch = b.latch := (congrArg Chip.latch h.1).trans (if_neg out)
theorem Chip.Only.staged (h : Chip.Only ps rs b c) (out : Part.staged ∉ ps) : c.staged = b.staged := (congrArg Chip.staged h.1).trans (if_neg out)
theorem Chip.Only.cmdIrq (h : Chip.Only ps rs b c) (out : Part.cmdIrq ∉ ps) : c.cmdIrq = b.cmdIrq := (congrArg Chip.cmdIrq h.1).trans (if_neg out)
theorem Chip.Only.acc (h : Chip.Only ps rs b c) (out : Part.acc ∉ ps) : c.acc = b.acc := (congrArg Chip.acc h.1).trans (if_neg out)
theorem Chip.Only.overrides (h : Chip.Only ps rs b c) (out : Part.overrides ∉ ps) : c.overrides = b.overrides := (congrArg Chip.overrides h.1).trans (if_neg out)
theorem Chip.Only.pat (h : Chip.Only ps rs b c) (out : Part.pat ∉ ps) : c.pat = b.pat := (congrArg Chip.pat h.1).trans (if_neg out)
theorem Chip.Only.ntc (h : Chip.Only ps rs b c) (out : Part.ntc ∉ ps) : c.ntc = b.ntc := (congrArg Chip.ntc h.1).trans (if_neg out)
theorem Chip.Only.clk (h : Chip.Only ps rs b c) (out : Part.clk ∉ ps) : c.clk = b.clk := (congrArg Chip.clk h.1).trans (if_neg out)
theorem Chip.Only.tim (h : Chip.Only ps rs b c) (out : Part.tim ∉ ps) : c.tim = b.tim := (congrArg Chip.tim h.1).trans (if_neg out)
theorem Chip.Only.cap (h : Chip.Only ps rs b c) (out : Part.cap ∉ ps) : c.cap = b.cap := (congrArg Chip.cap h.1).trans (if_neg out)
theorem Chip.Only.rawCap (h : Chip.Only ps rs b c) (out : Part.rawCap ∉ ps) : c.rawCap = b.rawCap := (congrArg Chip.rawCap h.1).trans (if_neg out)
theorem Chip.Only.rawMem (h : Chip.Only ps rs b c) (out : Part.rawMem ∉ ps) : c.rawMem = b.rawMem := (congrArg Chip.rawMem h.1).trans (if_neg out)
theorem Chip.Only.tmrAcc (h : Chip.Only ps rs b c) (out : Part.tmrAcc ∉ ps) : c.tmrAcc = b.tmrAcc := (congrArg Chip.tmrAcc h.1).trans (if_neg out)
theorem Chip.Only.queues (h : Chip.Only ps rs b c) (out : Part.queues ∉ ps) : c.queues = b.queues := (congrArg Chip.queues h.1).trans (if_neg out)
theorem Chip.Only.nextItem (h : Chip.Only ps rs b c) (out : Part.nextItem ∉ ps) : c.nextItem = b.nextItem := (congrArg Chip.nextItem h.1).trans (if_neg out)
theorem Chip.Only.eccFirst (h : Chip.Only ps rs b c) (out : Part.eccFirst ∉ ps) : c.eccFirst = b.eccFirst := (congrArg Chip.eccFirst h.1).trans (if_neg out)
theorem Chip.Only.tmg (h : Chip.Only ps rs b c) (out : Part.tmg ∉ ps) : c.tmg = b.tmg := (congrArg Chip.tmg h.1).trans (if_neg out)
theorem Chip.Only.adapt (h : Chip.Only ps rs b c) (out : Part.adapt ∉ ps) : c.adapt = b.adapt := (congrArg Chip.adapt h.1).trans (if_neg out)
theorem Chip.Only.rf (h : Chip.Only ps rs b c) (out : Part.rf ∉ ps) : c.rf = b.rf := (congrArg Chip.rf h.1).trans (if_neg out)
theorem Chip.Only.rx (h : Chip.Only ps rs b c) (out : Part.rx ∉ ps) : c.rx = b.rx := (congrArg Chip.rx h.1).trans (if_neg out)
theorem Chip.Only.tx (h : Chip.Only ps rs b c) (out : Part.tx ∉ ps) : c.tx = b.tx := (congrArg Chip.tx h.1).trans (if_neg out)
theorem Chip.Only.sch (h : Chip.Only ps rs b c) (out : Part.sch ∉ ps) : c.sch = b.sch := (congrArg Chip.sch h.1).trans (if_neg out)
theorem Chip.Only.mac (h : Chip.Only ps rs b c) (out : Part.mac ∉ ps) : c.mac = b.mac := (congrArg Chip.mac h.1).trans (if_neg out)
theorem Chip.Only.sec (h : Chip.Only ps rs b c) (out : Part.sec ∉ ps) : c.sec = b.sec := (congrArg Chip.sec h.1).trans (if_neg out)
theorem Chip.Only.key (h : Chip.Only ps rs b c) (out : Part.key ∉ ps) : c.key = b.key := (congrArg Chip.key h.1).trans (if_neg out)
theorem Chip.Only.fwd (h : Chip.Only ps rs b c) (out : Part.fwd ∉ ps) : c.fwd = b.fwd := (congrArg Chip.fwd h.1).trans (if_neg out)
theorem Chip.Only.svc (h : Chip.Only ps rs b c) (out : Part.svc ∉ ps) : c.svc = b.svc := (congrArg Chip.svc h.1).trans (if_neg out)
theorem Chip.Only.nv (h : Chip.Only ps rs b c) (out : Part.nv ∉ ps) : c.nv = b.nv := (congrArg Chip.nv h.1).trans (if_neg out)
theorem Chip.Only.boot (h : Chip.Only ps rs b c) (out : Part.boot ∉ ps) : c.boot = b.boot := (congrArg Chip.boot h.1).trans (if_neg out)
theorem Chip.Only.upd (h : Chip.Only ps rs b c) (out : Part.upd ∉ ps) : c.upd = b.upd := (congrArg Chip.upd h.1).trans (if_neg out)
theorem Chip.Only.pwr (h : Chip.Only ps rs b c) (out : Part.pwr ∉ ps) : c.pwr = b.pwr := (congrArg Chip.pwr h.1).trans (if_neg out)
theorem Chip.Only.hif (h : Chip.Only ps rs b c) (out : Part.hif ∉ ps) : c.hif = b.hif := (congrArg Chip.hif h.1).trans (if_neg out)
theorem Chip.Only.sea (h : Chip.Only ps rs b c) (out : Part.sea ∉ ps) : c.sea = b.sea := (congrArg Chip.sea h.1).trans (if_neg out)
theorem Chip.Only.owed (h : Chip.Only ps rs b c) (out : Part.owed ∉ ps) : c.owed = b.owed := (congrArg Chip.owed h.1).trans (if_neg out)
theorem Chip.Only.gap (h : Chip.Only ps rs b c) (out : Part.gap ∉ ps) : c.gap = b.gap := (congrArg Chip.gap h.1).trans (if_neg out)
theorem Chip.Only.freeCtr (h : Chip.Only ps rs b c) (out : Part.freeCtr ∉ ps) : c.freeCtr = b.freeCtr := (congrArg Chip.freeCtr h.1).trans (if_neg out)
theorem Chip.Only.out (h : Chip.Only ps rs b c) (out : Part.out ∉ ps) : c.out = b.out := (congrArg Chip.out h.1).trans (if_neg out)

theorem Chip.Only.t (h : Chip.Only ps rs b c) (f : Fld) (out : ¬ rs f.key) : c.t f = b.t f := by rw [Chip.t, Chip.t, h.2 f out]
end

/-- What one step of a fold does, seen by a relation that the other steps keep. -/
theorem List.foldl_at {α β : Type} {f : β → α → β} {R : β → β → Prop} (refl : ∀ x, R x x) (trans : ∀ x y z, R x y → R y z → R x z) {n : α} :
    ∀ (l : List α) (x : β), l.Nodup → n ∈ l → (∀ x, ∀ m ∈ l, m ≠ n → R x (f x m)) → ∃ y, R x y ∧ R (f y n) (l.foldl f x)
  | [], _, _, mem, _ => absurd mem List.not_mem_nil
  | m :: l, x, nodup, mem, other => by
    obtain ⟨fresh, nodup⟩ := List.nodup_cons.mp nodup
    by_cases h : m = n
    · subst h
      refine ⟨x, refl x, ?_⟩
      exact List.foldlRecOn (motive := fun y => R (f x m) y) l f (refl _) fun y hy k hk =>
        trans _ _ _ hy (other y k (List.mem_cons_of_mem _ hk) fun e => fresh (e ▸ hk))
    · obtain ⟨y, before, after⟩ := foldl_at refl trans l (f x m) nodup ((List.mem_cons.mp mem).resolve_left (Ne.symm h))
        fun x k hk => other x k (List.mem_cons_of_mem _ hk)
      exact ⟨y, trans _ _ _ (other x m List.mem_cons_self h) before, after⟩

end Sys2Proof.Machine
end

section
/-!
SUPPORT. What the timer channels and the triggers touch, and what a channel and a trigger do while ticks pass (R150 to R158).
-/
namespace Sys2Proof.Machine

/-- The registers of timer channel `n`. -/
abbrev tmrCh (n k : Nat) : Prop := 0x30000 * 32 + 0x800 * n ≤ k ∧ k < 0x30040 * 32 + 0x800 * n

theorem tmrCh_key {f : Fld} {n o : Nat} (hf : f.off = o + 0x40 * n) (ho : 0x30000 ≤ o ∧ o < 0x30040) (hl : Nat.ble (f.lo + 1) 32 = true) :
    tmrCh n f.key := by
  have low := Nat.le_of_ble_eq_true hl
  unfold tmrCh Fld.key
  omega

/-- Those of them that change as it runs: all but its settings' word. -/
abbrev tmrRun (n k : Nat) : Prop := 0x30004 * 32 + 0x800 * n ≤ k ∧ k < 0x30040 * 32 + 0x800 * n

theorem tmrRun_key {f : Fld} {n o : Nat} (hf : f.off = o + 0x40 * n) (ho : 0x30004 ≤ o ∧ o < 0x30040) (hl : Nat.ble (f.lo + 1) 32 = true) :
    tmrRun n f.key := by
  have low := Nat.le_of_ble_eq_true hl
  unfold tmrRun Fld.key
  omega

theorem tmrCh_of_tmrRun {n k : Nat} (h : tmrRun n k) : tmrCh n k := by
  unfold tmrRun at h
  unfold tmrCh
  omega

theorem tmrCh_apart {n m k : Nat} (h : m ≠ n) (hk : tmrCh n k) : ¬ tmrCh m k := by
  unfold tmrCh at *
  omega

/-- The registers of the channels lie in TMR. -/
theorem offs_of_tmrCh {n k : Nat} (hn : n < 64) (h : tmrCh n k) : offs 0x30000 0x31000 k := by
  unfold tmrCh at h
  unfold offs
  omega

/-- A channel's registers are as they were. -/
def Chip.SameCh (n : Nat) (b c : Chip) : Prop := ∀ f : Fld, tmrCh n f.key → c.r f = b.r f

theorem Chip.SameCh.rfl' (n : Nat) (b : Chip) : Chip.SameCh n b b := fun _ _ => rfl

theorem Chip.SameCh.trans {n : Nat} {b c d : Chip} (h1 : Chip.SameCh n b c) (h2 : Chip.SameCh n c d) : Chip.SameCh n b d :=
  fun f hf => (h2 f hf).trans (h1 f hf)

theorem Chip.SameCh.other {n m : Nat} {b c : Chip} {ps : List Part} (h : Chip.Only ps (tmrCh m) b c) (ne : m ≠ n) : Chip.SameCh n b c :=
  fun f hf => h.2 f (tmrCh_apart ne hf)

/-! ### What each part of a channel touches -/

/-- The status bits of a channel, in the order of INT_EN (R159). -/
def tmrFlag (n i : Nat) : Fld := match i with
  | 0 => Reg.TMR_MATCH n
  | 1 => Reg.TMR_ENDED n
  | 2 => Reg.TMR_CAPTURED n
  | _ => Reg.TMR_OVR n

theorem tmrFlag_key (n i : Nat) : tmrRun n (tmrFlag n i).key := by
  unfold tmrFlag
  split <;> exact tmrRun_key rfl (by decide) rfl

theorem Chip.tmrStat_only (b : Chip) (n i : Nat) : Chip.Only [.tmrAcc] (· = (tmrFlag n i).key) b (b.tmrStat n i) :=
  .ite (.rfl' b _ _) (((Chip.Only.rfl' b [.tmrAcc] (· = (tmrFlag n i).key)).w _ _ rfl).putTmrAcc (by decide) _)

theorem Chip.tmrStat_sets (b : Chip) (n i : Nat) : (b.tmrStat n i).t (tmrFlag n i) = true := by
  have one : (tmrFlag n i).w = 1 := by
    unfold tmrFlag
    split <;> rfl
  by_cases h : b.t (tmrFlag n i) = true
  · exact (congrArg (Chip.t · (tmrFlag n i)) (if_pos h)).trans h
  · exact (congrArg (Chip.t · (tmrFlag n i)) (if_neg h)).trans (Chip.t_w_one b one)

theorem Chip.chAdd_only (b : Chip) (n k : Nat) : Chip.Only [.tmrAcc] (tmrRun n) b (b.chAdd n k) := by
  have stat (c : Chip) (i : Nat) : Chip.Only [.tmrAcc] (tmrRun n) c (c.tmrStat n i) :=
    (c.tmrStat_only n i).mono (List.Subset.refl _) fun _ h => h ▸ tmrFlag_key n i
  unfold Chip.chAdd
  extract_lets count toEnd one k1 int r b1 b2
  have h1 : Chip.Only [.tmrAcc] (tmrRun n) b b1 := .ite (.ite (.rfl' b _ _)
    (((stat b 0).w _ _ (tmrRun_key rfl (by decide) rfl)).w _ _ (tmrRun_key rfl (by decide) rfl))) (.rfl' b _ _)
  have h2 : Chip.Only [.tmrAcc] (tmrRun n) b b2 := h1.w _ _ (tmrRun_key rfl (by decide) rfl)
  exact .ite (.rfl' b _ _) (.ite ((h2.w _ _ (tmrRun_key rfl (by decide) rfl)).trans (stat _ 1)) h2)

/-- The registers that a capture writes. -/
abbrev capKeys (n k : Nat) : Prop := k = (Reg.TMR_CAPTURE n).key ∨ k = (Reg.TMR_CAPTURED n).key ∨ k = (Reg.TMR_OVR n).key

theorem tmrCh_of_capKeys {n k : Nat} (h : capKeys n k) : tmrCh n k := by
  rcases h with rfl | rfl | rfl <;> exact tmrCh_key rfl (by decide) rfl

theorem Chip.capStore_only (b : Chip) (n : Nat) : Chip.Only [.tmrAcc] (capKeys n) b (b.capStore n) :=
  .ite ((b.tmrStat_only n 3).mono (List.Subset.refl _) fun _ h => .inr (.inr h))
    (((Chip.Only.rfl' b _ _).w (Reg.TMR_CAPTURE n) _ (.inl rfl)).trans
      ((Chip.tmrStat_only _ n 2).mono (List.Subset.refl _) fun _ h => .inr (.inl h)))

theorem Chip.capEdge_only (b : Chip) (n : Nat) (rising : Bool) : Chip.Only [.cap, .tmrAcc] (capKeys n) b (b.capEdge n rising) := by
  unfold Chip.capEdge
  extract_lets kind c
  exact .ite (.rfl' b _ _) (.ite (.rfl' b _ _)
    (.ite (((Chip.Only.rfl' b _ _).putCap (by decide) _).trans ((Chip.capStore_only _ n).mono (by decide) fun _ h => h))
      ((Chip.Only.rfl' b _ _).putCap (by decide) _)))

/-- One channel's share of an event inside the device. -/
def Chip.srcAt (src : Nat) (c : Chip) (n : Nat) : Chip :=
  let c1 := if c.r (Reg.TMR_CLK n) = 2 ∧ c.r (Reg.TMR_EVT_SRC n) = src then c.chAdd n 1 else c
  if c1.r (Reg.TMR_CAP_SRC n) = src ∧ c1.r (Reg.TMR_FILT_N n) ≤ 1 then (c1.capEdge n true).capEdge n false else c1

theorem Chip.srcEvent_eq (b : Chip) (src : Nat) : b.srcEvent src = (List.range 64).foldl (Chip.srcAt src) b := rfl

theorem Chip.srcAt_only (src : Nat) (b : Chip) (n : Nat) : Chip.Only [.cap, .tmrAcc] (tmrCh n) b (Chip.srcAt src b n) := by
  have edge (c : Chip) (rising : Bool) : Chip.Only [.cap, .tmrAcc] (tmrCh n) c (c.capEdge n rising) :=
    (c.capEdge_only n rising).mono (List.Subset.refl _) fun _ => tmrCh_of_capKeys
  have h1 : Chip.Only [.cap, .tmrAcc] (tmrCh n) b (if b.r (Reg.TMR_CLK n) = 2 ∧ b.r (Reg.TMR_EVT_SRC n) = src then b.chAdd n 1 else b) :=
    .ite ((b.chAdd_only n 1).mono (by decide) fun _ => tmrCh_of_tmrRun) (.rfl' b _ _)
  exact .ite ((h1.trans (edge _ true)).trans (edge _ false)) h1

/-- An event touches channel `n` only by a capture where the channel has another clock. -/
theorem Chip.srcAt_only_of_clk {src : Nat} {b : Chip} {n : Nat} (h : b.r (Reg.TMR_CLK n) ≠ 2) :
    Chip.Only [.cap, .tmrAcc] (capKeys n) b (Chip.srcAt src b n) := by
  unfold Chip.srcAt
  rw [if_neg (c := b.r (Reg.TMR_CLK n) = 2 ∧ b.r (Reg.TMR_EVT_SRC n) = src) fun c => h c.1]
  exact .ite ((b.capEdge_only n true).trans (Chip.capEdge_only _ n false)) (.rfl' b _ _)

theorem Chip.srcEvent_only (b : Chip) (src : Nat) : Chip.Only [.cap, .tmrAcc] (offs 0x30000 0x31000) b (b.srcEvent src) :=
  (Chip.Only.rfl' b _ _).foldl _ fun c n hn =>
    (Chip.srcAt_only src c n).mono (List.Subset.refl _) fun _ => offs_of_tmrCh (List.mem_range.mp hn)

theorem Chip.clkAdd_only (b : Chip) (clk k : Nat) : Chip.Only [.tmrAcc] (offs 0x30000 0x31000) b (b.clkAdd clk k) :=
  (Chip.Only.rfl' b _ _).foldl _ fun c n hn =>
    .ite ((c.chAdd_only n k).mono (List.Subset.refl _) fun _ h => offs_of_tmrCh (List.mem_range.mp hn) (tmrCh_of_tmrRun h)) (.rfl' c _ _)

/-- A channel's settings stay as it counts. -/
theorem Chip.clkAdd_setting (b : Chip) (clk k : Nat) {f : Fld} {n : Nat} (hf : f.off = 0x30000 + 0x40 * n) (hl : Nat.ble (f.lo + 1) 32 = true) :
    (b.clkAdd clk k).r f = b.r f := by
  have only : Chip.Only [.tmrAcc] (fun k => ∃ m, tmrRun m k) b (b.clkAdd clk k) := (Chip.Only.rfl' b _ _).foldl _ fun c m _ =>
    .ite ((c.chAdd_only m k).mono (List.Subset.refl _) fun _ h => ⟨m, h⟩) (.rfl' c _ _)
  refine only.2 f ?_
  rintro ⟨m, h⟩
  have low := Nat.le_of_ble_eq_true hl
  unfold tmrRun Fld.key at h
  omega

/-- The count of one channel, whatever the others do. -/
theorem Chip.clkAdd_at (b : Chip) {n : Nat} (clk k : Nat) (hn : n < 64) (hc : b.r (Reg.TMR_CLK n) = clk) :
    ∃ c, Chip.SameCh n b c ∧ Chip.SameCh n (c.chAdd n k) (b.clkAdd clk k) := by
  obtain ⟨c, before, after⟩ := List.foldl_at (R := Chip.SameCh n) (f := fun (c : Chip) m => if c.r (Reg.TMR_CLK m) = clk then c.chAdd m k else c)
    (Chip.SameCh.rfl' n) (fun _ _ _ => Chip.SameCh.trans) (List.range 64) b List.nodup_range (List.mem_range.mpr hn) fun c m _ ne =>
      .other (.ite ((c.chAdd_only m k).mono (List.Subset.refl _) fun _ => tmrCh_of_tmrRun) (.rfl' c _ _)) ne
  refine ⟨c, before, ?_⟩
  have clock : c.r (Reg.TMR_CLK n) = clk := (before _ (tmrCh_key rfl (by decide) rfl)).trans hc
  simp only [if_pos clock] at after
  exact after

/-- An event leaves a channel with another clock, but for a capture. -/
theorem Chip.srcEvent_at (b : Chip) {n : Nat} (src : Nat) (hn : n < 64) (hc : b.r (Reg.TMR_CLK n) ≠ 2) {f : Fld} (hf : tmrCh n f.key)
    (out : ¬ capKeys n f.key) : (b.srcEvent src).r f = b.r f := by
  obtain ⟨c, before, after⟩ := List.foldl_at (R := Chip.SameCh n) (f := Chip.srcAt src)
    (Chip.SameCh.rfl' n) (fun _ _ _ => Chip.SameCh.trans) (List.range 64) b List.nodup_range (List.mem_range.mpr hn) fun c m _ ne =>
      .other (Chip.srcAt_only src c m) ne
  have clock : c.r (Reg.TMR_CLK n) ≠ 2 := fun e => hc ((before _ (tmrCh_key rfl (by decide) rfl)).symm.trans e)
  exact (after f hf).trans (((Chip.srcAt_only_of_clk clock).2 f out).trans (before f hf))

/-! ### What a trigger touches -/

/-- The registers that trigger channel `n` writes as it fires, apart from the timers'. -/
abbrev trgKeys (n k : Nat) : Prop := k = (Reg.TIM_TRG_ARM n).key ∨ k = (Reg.TIM_TRG_FIRED n).key ∨ k = (Reg.TIM_TRG_CODE n).key ∨
  k = (Reg.TIM_TRG_FIRE_CNT n).key ∨ offs 0xA0190 0xA01A0 k ∨ offs 0x30000 0x31000 k

theorem Chip.windowStart_only (b : Chip) {n : Nat} (low : 8 ≤ n) (high : n < 12) :
    Chip.Only [.rawCap] (fun k => k = (Reg.TIM_TRG_CODE n).key ∨ offs 0xA0190 0xA01A0 k) b (b.windowStart n) := by
  have gain : offs 0xA0190 0xA01A0 (Reg.RXP_WIN_GAIN (n - 8)).key := by simp only [offs, Fld.key, Reg.RXP_WIN_GAIN]; omega
  have steps : offs 0xA0190 0xA01A0 (Reg.RXP_WIN_STEPS (n - 8)).key := by simp only [offs, Fld.key, Reg.RXP_WIN_STEPS]; omega
  exact .ite ((Chip.Only.rfl' b _ _).w _ _ (.inl rfl))
    ((((Chip.Only.rfl' b [.rawCap] (fun k => k = (Reg.TIM_TRG_CODE n).key ∨ offs 0xA0190 0xA01A0 k)).putRawCap (by decide) _).w _ _ (.inr gain)).w _ _
      (.inr steps))

theorem Chip.trigFire_only (b : Chip) {n : Nat} (hn : n < 12) : Chip.Only [.cap, .tmrAcc, .rawCap, .out] (trgKeys n) b (b.trigFire n) := by
  unfold Chip.trigFire
  extract_lets b1
  have h1 : Chip.Only [.cap, .tmrAcc, .rawCap, .out] (trgKeys n) b b1 :=
    (((Chip.Only.rfl' b _ _).w _ _ (.inr (.inr (.inr (.inl rfl))))).w _ _ (.inr (.inl rfl))).w _ _ (.inr (.inr (.inl rfl)))
  split
  · exact (h1.putOut (by decide) _).trans ((Chip.srcEvent_only _ _).mono (by decide) fun _ h => .inr (.inr (.inr (.inr (.inr h)))))
  · next low =>
    refine h1.trans ((b1.windowStart_only (Nat.not_lt.mp low) hn).mono (by decide) fun _ h => ?_)
    exact h.elim (fun e => .inr (.inr (.inl e))) fun e => .inr (.inr (.inr (.inr (.inl e))))

theorem Chip.trigDue_only (b : Chip) {n : Nat} (hn : n < 12) : Chip.Only [.tim, .cap, .tmrAcc, .rawCap, .out] (trgKeys n) b (b.trigDue n) := by
  have fire (c : Chip) : Chip.Only [.tim, .cap, .tmrAcc, .rawCap, .out] (trgKeys n) c (c.trigFire n) :=
    (c.trigFire_only hn).mono (by decide) fun _ h => h
  unfold Chip.trigDue
  split
  · exact .rfl' b _ _
  · exact .ite (.rfl' b _ _) (.ite ((((Chip.Only.rfl' b _ _).w _ _ (.inl rfl)).putTim (by decide) _).trans (fire _))
      (((Chip.Only.rfl' b _ _).putTim (by decide) _).trans (fire _)))

/-- Of the time core a trigger changes its own target only. -/
theorem Chip.trigDue_tim (b : Chip) {n : Nat} (hn : n < 12) : ∃ x : KV Nat, (b.trigDue n).tim = { b.tim with trig := x } ∧
    ∀ m, m ≠ n → kget x m = kget b.tim.trig m := by
  have fire (c : Chip) : (c.trigFire n).tim = c.tim := (c.trigFire_only hn).tim (by decide)
  unfold Chip.trigDue
  split
  · exact ⟨_, rfl, fun _ _ => rfl⟩
  · split
    · exact ⟨_, rfl, fun _ _ => rfl⟩
    · extract_lets p
      split
      · exact ⟨_, fire _, fun m hm => (kget_kdel _ _ _).trans (if_neg hm.symm)⟩
      · exact ⟨_, fire _, fun m hm => (kget_kput _ _ _ _).trans (if_neg hm.symm)⟩

/-- The registers that the triggers write as they fire. -/
abbrev trgAny (k : Nat) : Prop := offs 0x30000 0x31000 k ∨ offs 0x40200 0x40400 k ∨ offs 0xA0190 0xA01A0 k

theorem trgAny_of {n k : Nat} (hn : n < 12) (h : trgKeys n k) : trgAny k := by
  unfold trgKeys at h
  unfold trgAny offs at *
  simp only [Fld.key, Reg.TIM_TRG_ARM, Reg.TIM_TRG_FIRED, Reg.TIM_TRG_CODE, Reg.TIM_TRG_FIRE_CNT] at h
  omega

theorem Chip.trigAll_only (b : Chip) : Chip.Only [.tim, .cap, .tmrAcc, .rawCap, .out] trgAny b b.trigAll :=
  (Chip.Only.rfl' b _ _).foldl _ fun c _ hn =>
    (c.trigDue_only (List.mem_range.mp hn)).mono (List.Subset.refl _) fun _ => trgAny_of (List.mem_range.mp hn)

/-- Of the time core the triggers change their targets only. -/
theorem Chip.trigAll_tim (b : Chip) : ∃ x : KV Nat, b.trigAll.tim = { b.tim with trig := x } :=
  List.foldlRecOn (motive := fun c => ∃ x : KV Nat, c.tim = { b.tim with trig := x }) _ Chip.trigDue ⟨_, rfl⟩ fun c hc n hn => by
    obtain ⟨x, hx⟩ := hc
    obtain ⟨y, hy, -⟩ := c.trigDue_tim (List.mem_range.mp hn)
    exact ⟨y, hy.trans (by rw [hx])⟩

end Sys2Proof.Machine
end

section
/-!
SUPPORT. Ticks as they pass: what they leave of the time core, how far a channel counts, and when a trigger fires (R131, R150, R155, R156).
-/
namespace Sys2Proof.Machine

/-! ### One count -/

theorem reachIn_pos (count x : Nat) : 0 < reachIn count x := by
  unfold reachIn
  dsimp only
  split <;> omega

/-- Before the count is reached, each count brings it nearer by one. -/
theorem reachIn_add {count x k : Nat} (h : k < reachIn count x) : reachIn ((count + k) % 2 ^ 32) x = reachIn count x - k := by
  unfold reachIn at *
  dsimp only at *
  split at h <;> split <;> omega

/-- A running channel that reaches neither its compare nor its end counts on. -/
theorem Chip.chAdd_counts {b : Chip} {n k : Nat} (run : b.t (Reg.TMR_RUNNING n) = true) (pos : 0 < k)
    (one : b.r (Reg.TMR_MODE n) ≠ 2 ∨ k < reachIn (b.r (Reg.TMR_COUNT n)) (b.r (Reg.TMR_END n)))
    (cmp : b.t (Reg.TMR_CMP_ARMED n) = false ∨ k < reachIn (b.r (Reg.TMR_COUNT n)) (b.r (Reg.TMR_COMPARE n))) :
    b.chAdd n k = b.w (Reg.TMR_COUNT n) (b.r (Reg.TMR_COUNT n) + k) := by
  have k1 : (if (b.r (Reg.TMR_MODE n) == 2) = true then min k (reachIn (b.r (Reg.TMR_COUNT n)) (b.r (Reg.TMR_END n))) else k) = k := by
    split
    · next h => exact Nat.min_eq_left (one.resolve_left (not_not.mpr (beq_iff_eq.mp h))).le
    · rfl
  have stop : (b.r (Reg.TMR_MODE n) == 2 && decide (reachIn (b.r (Reg.TMR_COUNT n)) (b.r (Reg.TMR_END n)) ≤ k)) = false := by
    rcases one with h | h
    · rw [beq_eq_false_iff_ne.mpr h, Bool.false_and]
    · rw [decide_eq_false (Nat.not_le.mpr h), Bool.and_false]
  have still : (if b.t (Reg.TMR_CMP_ARMED n) = true then
      if (matches? k (b.r (Reg.TMR_COUNT n)) (b.r (Reg.TMR_COMPARE n)) (b.r (Reg.TMR_INTERVAL n))).1 = 0 then b
      else ((b.tmrStat n 0).w (Reg.TMR_COMPARE n) (matches? k (b.r (Reg.TMR_COUNT n)) (b.r (Reg.TMR_COMPARE n)) (b.r (Reg.TMR_INTERVAL n))).2).wb
        (Reg.TMR_CMP_ARMED n) (b.r (Reg.TMR_INTERVAL n) != 0)
      else b) = b := by
    rcases cmp with h | h
    · rw [if_neg (by simp [h])]
    · rw [show matches? k (b.r (Reg.TMR_COUNT n)) (b.r (Reg.TMR_COMPARE n)) (b.r (Reg.TMR_INTERVAL n)) = (0, b.r (Reg.TMR_COMPARE n)) from if_pos h]
      rw [if_pos (c := (0, _).1 = 0) rfl, ite_self]
  unfold Chip.chAdd
  rw [if_neg (by simp [run]; omega)]
  simp only [k1, stop, still, Bool.false_eq_true, if_false]

/-- A continuous channel without interval reaches its armed compare. -/
theorem Chip.chAdd_matches {b : Chip} {n k : Nat} (run : b.t (Reg.TMR_RUNNING n) = true) (mode : b.r (Reg.TMR_MODE n) = 1)
    (armed : b.t (Reg.TMR_CMP_ARMED n) = true) (int : b.r (Reg.TMR_INTERVAL n) = 0)
    (hk : k = reachIn (b.r (Reg.TMR_COUNT n)) (b.r (Reg.TMR_COMPARE n))) :
    b.chAdd n k = (((b.tmrStat n 0).w (Reg.TMR_COMPARE n) (b.r (Reg.TMR_COMPARE n))).w (Reg.TMR_CMP_ARMED n) 0).w (Reg.TMR_COUNT n)
      (b.r (Reg.TMR_COUNT n) + k) := by
  have pos := reachIn_pos (b.r (Reg.TMR_COUNT n)) (b.r (Reg.TMR_COMPARE n))
  have hm : matches? k (b.r (Reg.TMR_COUNT n)) (b.r (Reg.TMR_COMPARE n)) 0 = (1, b.r (Reg.TMR_COMPARE n)) :=
    (if_neg (by omega)).trans (if_pos rfl)
  unfold Chip.chAdd
  rw [if_neg (by simp [run]; omega)]
  simp [mode, armed, int, hm, b2n]

/-- A one-shot channel with no armed compare reaches its end. -/
theorem Chip.chAdd_ends {b : Chip} {n k : Nat} (run : b.t (Reg.TMR_RUNNING n) = true) (mode : b.r (Reg.TMR_MODE n) = 2)
    (idle : b.t (Reg.TMR_CMP_ARMED n) = false) (hk : k = reachIn (b.r (Reg.TMR_COUNT n)) (b.r (Reg.TMR_END n))) :
    b.chAdd n k = ((b.w (Reg.TMR_COUNT n) (b.r (Reg.TMR_COUNT n) + k)).w (Reg.TMR_RUNNING n) 0).tmrStat n 1 := by
  have pos := reachIn_pos (b.r (Reg.TMR_COUNT n)) (b.r (Reg.TMR_END n))
  unfold Chip.chAdd
  rw [if_neg (by simp [run]; omega)]
  simp [mode, idle, ← hk, b2n]

/-! ### Ticks -/

/-- The registers of channel `n` but those of a capture are as they were. -/
def Chip.SameCount (n : Nat) (b c : Chip) : Prop := ∀ f : Fld, tmrCh n f.key → ¬ capKeys n f.key → c.r f = b.r f

theorem Chip.SameCount.trans {n : Nat} {b c d : Chip} (h1 : Chip.SameCount n b c) (h2 : Chip.SameCount n c d) : Chip.SameCount n b d :=
  fun f hf out => (h2 f hf out).trans (h1 f hf out)

theorem Chip.SameCh.count {n : Nat} {b c : Chip} (h : Chip.SameCh n b c) : Chip.SameCount n b c := fun f hf _ => h f hf

/-- Which registers of a channel are its counting's. -/
theorem counting_key {f : Fld} {n o : Nat} (hf : f.off = o + 0x40 * n) (ho : 0x30000 ≤ o ∧ o < 0x30040)
    (hl : Nat.ble (f.lo + 1) 32 = true) (out : ((o != 0x3001C) && (o != 0x30020 || (f.lo != 3 && f.lo != 4))) = true) :
    tmrCh n f.key ∧ ¬ capKeys n f.key := by
  refine ⟨tmrCh_key hf ho hl, ?_⟩
  have low := Nat.le_of_ble_eq_true hl
  simp only [Bool.and_eq_true, Bool.or_eq_true, bne_iff_ne, ne_eq] at out
  unfold capKeys
  simp only [Fld.key, Reg.TMR_CAPTURE, Reg.TMR_CAPTURED, Reg.TMR_OVR]
  omega

theorem Chip.SameCount.r {n o : Nat} {b c : Chip} (h : Chip.SameCount n b c) (f : Fld) (hf : f.off = o + 0x40 * n) (ho : 0x30000 ≤ o ∧ o < 0x30040)
    (hl : Nat.ble (f.lo + 1) 32 = true) (out : ((o != 0x3001C) && (o != 0x30020 || (f.lo != 3 && f.lo != 4))) = true) : c.r f = b.r f :=
  h f (counting_key hf ho hl out).1 (counting_key hf ho hl out).2

/-- The triggers leave the counting of a channel that counts no events. -/
theorem Chip.trigDue_count {b : Chip} {n m : Nat} (hn : n < 64) (hm : m < 12) (hc : b.r (Reg.TMR_CLK n) ≠ 2) : Chip.SameCount n b (b.trigDue m) := by
  have away {k : Nat} (hk : tmrCh n k) : k < 0x31000 * 32 := (offs_of_tmrCh hn hk).2
  have fire (c : Chip) (same : Chip.SameCount n b c) : Chip.SameCount n b (c.trigFire m) := by
    refine same.trans fun f hf out => ?_
    have clk : c.r (Reg.TMR_CLK n) ≠ 2 := fun e => hc ((same.r _ rfl (by decide) rfl rfl).symm.trans e)
    have apart (g : Fld) (hg : 0x40000 ≤ g.off) : g.key ≠ f.key := by
      have := away hf
      unfold Fld.key at *
      omega
    unfold Chip.trigFire
    extract_lets b1
    have h1 (g : Fld) (hg : g.key < 0x40000 * 32) : b1.r g = c.r g := by
      simp only [b1, Chip.wb_eq]
      rw [Chip.r_w_ne, Chip.r_w_ne, Chip.r_w_ne] <;>
        simp only [Fld.key, Reg.TIM_TRG_FIRE_CNT, Reg.TIM_TRG_FIRED, Reg.TIM_TRG_CODE] at * <;> omega
    have same1 : b1.r f = c.r f := h1 f (by have := away hf; omega)
    split
    · refine Eq.trans (Chip.srcEvent_at (b1.emit _) (8 + m) hn ?_ hf out) same1
      exact fun e => clk ((h1 _ (by simp only [Fld.key, Reg.TMR_CLK]; omega)).symm.trans e)
    · next low =>
      refine Eq.trans ((b1.windowStart_only (Nat.not_lt.mp low) hm).2 f ?_) same1
      have := away hf
      simp only [offs, Fld.key, Reg.TIM_TRG_CODE] at *
      omega
  unfold Chip.trigDue
  split
  · exact fun _ _ _ => rfl
  · split
    · exact fun _ _ _ => rfl
    · extract_lets p b1
      split
      · refine fire _ fun f hf _ => Chip.r_w_ne b (Reg.TIM_TRG_ARM m) f 0 ?_
        have := away hf
        simp only [Fld.key, Reg.TIM_TRG_ARM] at *
        omega
      · exact fire _ fun _ _ _ => rfl

theorem Chip.trigAll_count {b : Chip} {n : Nat} (hn : n < 64) (hc : b.r (Reg.TMR_CLK n) ≠ 2) : Chip.SameCount n b b.trigAll :=
  List.foldlRecOn (motive := fun c => Chip.SameCount n b c) _ Chip.trigDue (fun _ _ _ => rfl) fun c same m hm =>
    same.trans (Chip.trigDue_count hn (List.mem_range.mp hm) fun e => hc ((same.r _ rfl (by decide) rfl rfl).symm.trans e))

/-- A run of ticks counts a channel on the TIME tick by as many. -/
theorem Chip.tickRun_count (b : Chip) {n : Nat} (k : Nat) (hn : n < 64) (hc : b.r (Reg.TMR_CLK n) = 0) :
    ∃ c, Chip.SameCh n b c ∧ Chip.SameCount n (c.chAdd n k) (b.tickRun k) := by
  obtain ⟨c, before, after⟩ := Chip.clkAdd_at { b with tim := { b.tim with now := (b.tim.now + k * b.tim.incr) % timeEnd } } 0 k hn hc
  refine ⟨c, before, after.count.trans (Chip.trigAll_count hn ?_)⟩
  rw [Chip.clkAdd_setting _ 0 k rfl rfl]
  exact fun e => absurd (hc.symm.trans e) (by decide)

/-- What a run of ticks touches. -/
theorem Chip.tickRun_only (b : Chip) (k : Nat) : Chip.Only [.tim, .cap, .tmrAcc, .rawCap, .out] trgAny b (b.tickRun k) :=
  (((Chip.Only.rfl' b _ _).putTim (by decide) _).trans ((Chip.clkAdd_only _ 0 k).mono (by decide) fun _ h => .inl h)).trans (Chip.trigAll_only _)

theorem Chip.tickRun_tim (b : Chip) (k : Nat) :
    ∃ x : KV Nat, (b.tickRun k).tim = { b.tim with now := (b.tim.now + k * b.tim.incr) % timeEnd, trig := x } := by
  obtain ⟨x, hx⟩ := (Chip.clkAdd { b with tim := { b.tim with now := (b.tim.now + k * b.tim.incr) % timeEnd } } 0 k).trigAll_tim
  exact ⟨x, hx.trans (by rw [(Chip.clkAdd_only _ 0 k).tim (by decide)])⟩

theorem Chip.ticksFor_only (k fuel : Nat) (b : Chip) : Chip.Only [.tim, .cap, .tmrAcc, .rawCap, .out] trgAny b (b.ticksFor k fuel) := by
  induction fuel generalizing b k with
  | zero => exact .rfl' b _ _
  | succ f ih => exact .ite (.rfl' b _ _) ((b.tickRun_only _).trans (ih _ _))

theorem Chip.ticksFor_tim (k fuel : Nat) (b : Chip) :
    ∃ (t : Nat) (x : KV Nat), (b.ticksFor k fuel).tim = { b.tim with now := t, trig := x } := by
  induction fuel generalizing b k with
  | zero => exact ⟨_, _, rfl⟩
  | succ f ih =>
    unfold Chip.ticksFor
    split
    · exact ⟨_, _, rfl⟩
    · obtain ⟨x, hx⟩ := b.tickRun_tim (b.trigIn k)
      obtain ⟨t, y, hy⟩ := ih (k - b.trigIn k) (b.tickRun (b.trigIn k))
      exact ⟨t, y, hy.trans (by rw [hx])⟩

theorem Chip.ticksFor_quiet {b : Chip} (k fuel : Nat) (quiet : b.Quiet) : (b.ticksFor k fuel).Quiet := by
  obtain ⟨t, x, tim⟩ := b.ticksFor_tim k fuel
  unfold Chip.Quiet
  rw [(b.ticksFor_only k fuel).sch (by decide), tim]
  exact quiet

theorem Chip.ticksFor_zero (b : Chip) (fuel : Nat) : b.ticksFor 0 fuel = b := by
  cases fuel
  · rfl
  · exact if_pos rfl

theorem Chip.ticksTo_pos (b : Chip) (t : Nat) : 0 < b.ticksTo t := Nat.le_max_left _ _

/-- A run of ticks is neither empty nor longer than asked for. -/
theorem Chip.trigIn_bounds (b : Chip) {k : Nat} (hk : 0 < k) : 0 < b.trigIn k ∧ b.trigIn k ≤ k := by
  unfold Chip.trigIn
  refine List.foldlRecOn (motive := fun m => 0 < m ∧ m ≤ k) _ _ ⟨hk, Nat.le_refl k⟩ fun m ⟨pos, le⟩ e _ => ⟨?_, ?_⟩
  · exact Nat.lt_min.mpr ⟨pos, b.ticksTo_pos _⟩
  · exact (Nat.min_le_left _ _).trans le

/-- Ticks run until something is reached: each run short of it keeps what is to come, and the last one reaches it. -/
theorem Chip.ticksFor_reach {P D : Chip → Prop} {left : Chip → Nat} (pos : ∀ b, P b → 0 < left b)
    (short : ∀ b k, P b → 0 < k → k < left b → (∃ j, 0 < j ∧ k = b.trigIn j) → P (b.tickRun k) ∧ left (b.tickRun k) = left b - k)
    (reach : ∀ b, P b → D (b.tickRun (left b))) (fuel : Nat) (b : Chip) (hb : P b) (enough : left b ≤ fuel) : D (b.ticksFor (left b) fuel) := by
  induction fuel generalizing b with
  | zero => exact absurd (pos b hb) (Nat.not_lt.mpr enough)
  | succ f ih =>
    obtain ⟨go, le⟩ := b.trigIn_bounds (pos b hb)
    unfold Chip.ticksFor
    rw [if_neg (Nat.ne_of_gt (pos b hb))]
    by_cases h : b.trigIn (left b) = left b
    · rw [h, Nat.sub_self, Chip.ticksFor_zero]
      exact reach b hb
    · obtain ⟨hP, hleft⟩ := short b _ hb go (Nat.lt_of_le_of_ne le h) ⟨_, pos b hb, rfl⟩
      rw [← hleft]
      exact ih _ hP (by omega)

/-! ### A channel that counts to its compare or its end (R155, R156) -/

/-- A block whose channel `n` has the registers of another reads them alike. -/
theorem Chip.SameCh.r {n o : Nat} {b c : Chip} (h : Chip.SameCh n b c) (f : Fld) (hf : f.off = o + 0x40 * n) (ho : 0x30000 ≤ o ∧ o < 0x30040)
    (hl : Nat.ble (f.lo + 1) 32 = true) : c.r f = b.r f := h f (tmrCh_key hf ho hl)

/-- What a running channel on the TIME tick counts by: its mode, its compare and its end. -/
structure Counting where
  mode : Nat
  armed : Bool
  compare : Nat
  interval : Nat
  stop : Nat

/-- Channel `n` runs on the TIME tick as described, with the given count. -/
structure Chip.CountsAt (n : Nat) (x : Counting) (count : Nat) (b : Chip) : Prop where
  run : b.t (Reg.TMR_RUNNING n) = true
  clk : b.r (Reg.TMR_CLK n) = 0
  mode : b.r (Reg.TMR_MODE n) = x.mode
  armed : b.t (Reg.TMR_CMP_ARMED n) = x.armed
  compare : b.r (Reg.TMR_COMPARE n) = x.compare
  interval : b.r (Reg.TMR_INTERVAL n) = x.interval
  stop : b.r (Reg.TMR_END n) = x.stop
  count : b.r (Reg.TMR_COUNT n) = count

theorem Chip.CountsAt.of_same {n count : Nat} {x : Counting} {b c : Chip} (h : Chip.CountsAt n x count b) (same : Chip.SameCount n b c) :
    Chip.CountsAt n x count c where
  run := (congrArg (· == 1) (same.r _ rfl (by decide) rfl rfl)).trans h.run
  clk := (same.r _ rfl (by decide) rfl rfl).trans h.clk
  mode := (same.r _ rfl (by decide) rfl rfl).trans h.mode
  armed := (congrArg (· == 1) (same.r _ rfl (by decide) rfl rfl)).trans h.armed
  compare := (same.r _ rfl (by decide) rfl rfl).trans h.compare
  interval := (same.r _ rfl (by decide) rfl rfl).trans h.interval
  stop := (same.r _ rfl (by decide) rfl rfl).trans h.stop
  count := (same.r _ rfl (by decide) rfl rfl).trans h.count

/-- Another count leaves how the channel counts. -/
theorem Chip.CountsAt.w_count {n count : Nat} {x : Counting} {b : Chip} (h : Chip.CountsAt n x count b) (v : Nat) :
    Chip.CountsAt n x (v % 2 ^ 32) (b.w (Reg.TMR_COUNT n) v) := by
  have keep (f : Fld) (hf : (Reg.TMR_COUNT n).key ≠ f.key) : (b.w (Reg.TMR_COUNT n) v).r f = b.r f := Chip.r_w_ne _ _ _ _ hf
  constructor
  · exact (congrArg (· == 1) (keep (Reg.TMR_RUNNING n) (by simp only [Fld.key, Reg.TMR_COUNT, Reg.TMR_RUNNING]; omega))).trans h.run
  · exact (keep (Reg.TMR_CLK n) (by simp only [Fld.key, Reg.TMR_COUNT, Reg.TMR_CLK]; omega)).trans h.clk
  · exact (keep (Reg.TMR_MODE n) (by simp only [Fld.key, Reg.TMR_COUNT, Reg.TMR_MODE]; omega)).trans h.mode
  · exact (congrArg (· == 1) (keep (Reg.TMR_CMP_ARMED n) (by simp only [Fld.key, Reg.TMR_COUNT, Reg.TMR_CMP_ARMED]; omega))).trans h.armed
  · exact (keep (Reg.TMR_COMPARE n) (by simp only [Fld.key, Reg.TMR_COUNT, Reg.TMR_COMPARE]; omega)).trans h.compare
  · exact (keep (Reg.TMR_INTERVAL n) (by simp only [Fld.key, Reg.TMR_COUNT, Reg.TMR_INTERVAL]; omega)).trans h.interval
  · exact (keep (Reg.TMR_END n) (by simp only [Fld.key, Reg.TMR_COUNT, Reg.TMR_END]; omega)).trans h.stop
  · exact Chip.r_w_same _ _ _

/-- Ticks that reach neither the compare nor the end count the channel on. -/
theorem Chip.CountsAt.tickRun {n count k : Nat} {x : Counting} {b : Chip} (h : Chip.CountsAt n x count b) (hn : n < 64) (pos : 0 < k)
    (one : x.mode ≠ 2 ∨ k < reachIn count x.stop) (cmp : x.armed = false ∨ k < reachIn count x.compare) :
    Chip.CountsAt n x ((count + k) % 2 ^ 32) (b.tickRun k) := by
  obtain ⟨c, before, after⟩ := b.tickRun_count k hn h.clk
  have hc := h.of_same before.count
  rw [Chip.chAdd_counts hc.run pos (by rw [hc.mode, hc.count, hc.stop]; exact one) (by rw [hc.armed, hc.count, hc.compare]; exact cmp), hc.count] at after
  exact (hc.w_count _).of_same after

/-- Channel `n` is on its way to a count, with so many ticks to go. -/
def Chip.Nears (n : Nat) (x : Counting) (goal T : Nat) (b : Chip) : Prop :=
  ∃ count, Chip.CountsAt n x count b ∧ (count + reachIn count goal) % 2 ^ 32 = T

/-- Ticks up to the one that reaches the goal. -/
theorem Chip.ticks_nears {n goal T : Nat} {x : Counting} {D : Chip → Prop} (hn : n < 64)
    (short : ∀ count k, k < reachIn count goal → (x.mode ≠ 2 ∨ k < reachIn count x.stop) ∧ (x.armed = false ∨ k < reachIn count x.compare))
    (reach : ∀ b count, Chip.CountsAt n x count b → (count + reachIn count goal) % 2 ^ 32 = T → D (b.tickRun (reachIn count goal)))
    {b : Chip} {count : Nat} (h : Chip.CountsAt n x count b) (hT : (count + reachIn count goal) % 2 ^ 32 = T) : D (b.ticks (reachIn count goal)) := by
  have at_ {c : Chip} {k : Nat} (hc : Chip.CountsAt n x k c) : reachIn (c.r (Reg.TMR_COUNT n)) goal = reachIn k goal := by rw [hc.count]
  have all := Chip.ticksFor_reach (P := Chip.Nears n x goal T) (D := D) (left := fun c => reachIn (c.r (Reg.TMR_COUNT n)) goal)
    (fun c _ => reachIn_pos _ _) ?_ ?_ (reachIn count goal) b ⟨count, h, hT⟩ (at_ h).le
  · simp only [at_ h] at all
    exact all
  · rintro c k ⟨m, hc, hm⟩ pos lt -
    simp only [at_ hc] at lt ⊢
    obtain ⟨one, cmp⟩ := short m k lt
    have next := hc.tickRun hn pos one cmp
    refine ⟨⟨_, next, ?_⟩, ?_⟩
    · rw [reachIn_add lt, ← hm]
      omega
    · rw [at_ next, reachIn_add lt]
  · rintro c ⟨m, hc, hm⟩
    simp only [at_ hc]
    exact reach c m hc hm

end Sys2Proof.Machine
end

section
/-!
SUPPORT. The tick of a commit, the reach of a compare and of an end, and captures (R131, R133, R155 to R158).
-/
namespace Sys2Proof.Machine

/-! ### The tick of a commit (R131, R133) -/

/-- Within the limit a step is reported, and sets STEPPED. -/
theorem Chip.stepReport_only {b : Chip} {st : Int} (h : st.natAbs ≤ b.r Reg.TIM_STEP_LIMIT * 65536) :
    Chip.Only [.ntc, .out] (fun k => k = Reg.TIM_STEPPED.key ∨ offs 0x50000 0x60000 k) b (b.stepReport st) ∧
      (st ≠ 0 → (b.stepReport st).t Reg.TIM_STEPPED = true) := by
  unfold Chip.stepReport
  by_cases zero : st = 0
  · rw [if_pos zero]
    exact ⟨.rfl' b _ _, fun ne => absurd zero ne⟩
  · rw [if_neg zero, if_pos h]
    refine ⟨((Chip.Only.rfl' b _ _).w _ _ (.inl rfl)).trans ((Chip.raise_only _ _ _ _).mono (List.Subset.refl _) fun _ h => .inr h), fun _ => ?_⟩
    rw [Chip.t, Chip.raise_r _ _ _ _ _ (by decide)]
    exact Chip.t_w_one b rfl

/-- The tick of a commit, where no SET waits and the step is within the limit. -/
theorem Chip.tick_of_commit {b : Chip} (set : b.tim.pendSet = none) (h : (b.tim.pendStep.getD 0).natAbs ≤ b.r Reg.TIM_STEP_LIMIT * 65536) :
    (∃ x : KV Nat, b.tick.tim = { b.tim with
      now := ((b.tim.now + b.tim.pendIncr.getD b.tim.incr : Nat) + stepU (b.tim.pendStep.getD 0) : Int).toNat % timeEnd
      pendStep := none, incr := b.tim.pendIncr.getD b.tim.incr, pendIncr := none, trig := x }) ∧ b.tick.sch = b.sch ∧
    (b.tim.pendStep.getD 0 ≠ 0 → b.tick.t Reg.TIM_STEPPED = true) := by
  have run : b.tick = (b.addTick.clkAdd 0 1).trigAll := by
    unfold Chip.tick
    rw [set]
  obtain ⟨only, steps⟩ := Chip.stepReport_only (b := { b with tim := { b.tim with
    now := ((b.tim.now + b.tim.pendIncr.getD b.tim.incr : Nat) + stepU (b.tim.pendStep.getD 0) : Int).toNat % timeEnd
    pendStep := none, incr := b.tim.pendIncr.getD b.tim.incr, pendIncr := none } }) h
  have clk := b.addTick.clkAdd_only 0 1
  have trig := (b.addTick.clkAdd 0 1).trigAll_only
  obtain ⟨x, hx⟩ := (b.addTick.clkAdd 0 1).trigAll_tim
  rw [run]
  refine ⟨⟨x, hx.trans ?_⟩, ?_, fun ne => ?_⟩
  · rw [clk.tim (by decide), Chip.addTick, only.tim (by decide)]
  · rw [trig.sch (by decide), clk.sch (by decide), Chip.addTick, only.sch (by decide)]
  · rw [trig.t _ (by decide), clk.t _ (by decide)]
    exact steps ne


/-! ### A compare, an end and an event input (R153 to R156) -/

theorem Chip.Only.timeRuns {b c : Chip} {ps : List Part} {rs : Nat → Prop} (h : Chip.Only ps rs b c) (tim : Part.tim ∉ ps) (limp : ¬ rs Reg.CKR_LIMP.key)
    (dom : ¬ rs Reg.CKR_DOMAIN_STATE.key) : c.timeRuns = b.timeRuns := by
  simp only [Chip.timeRuns, Chip.limp, h.t _ limp, h.2 _ dom, h.tim tim]

theorem Chip.passTicks_eq {b : Chip} {k : Nat} (clean : b.tickClean = true) (runs : b.timeRuns = true) (before : b.beforeBoundary k = true) :
    b.passTicks k = b.ticks k := by
  unfold Chip.passTicks
  rw [if_neg (by simp [clean]), if_pos (by rw [runs, before]; rfl)]

/-- The registers of channel `n` that an instant is judged by, after a late wake is counted. -/
theorem Chip.lateWake_count {b : Chip} {n count : Nat} {x : Counting} (k : Nat) (hn : n < 64) (h : Chip.CountsAt n x count b) :
    Chip.CountsAt n x count (b.lateWake k) := by
  refine h.of_same fun f hf _ => (b.lateWake_only k).2 f fun e => ?_
  have := offs_of_tmrCh hn hf
  rw [e] at this
  exact absurd this (by decide)

/-- A count reached: the status bit, the compare and the count (R155). -/
theorem Chip.tickRun_matches {b : Chip} {n count : Nat} {x : Counting} (h : Chip.CountsAt n x count b) (hn : n < 64) (mode : x.mode = 1)
    (armed : x.armed = true) (int : x.interval = 0) {k : Nat} (hk : k = reachIn count x.compare) :
    (b.tickRun k).t (Reg.TMR_MATCH n) = true ∧ (b.tickRun k).r (Reg.TMR_CMP_ARMED n) = 0 ∧ (b.tickRun k).r (Reg.TMR_COUNT n) = (count + k) % 2 ^ 32 := by
  obtain ⟨c, before, after⟩ := b.tickRun_count k hn h.clk
  have hc := h.of_same before.count
  rw [Chip.chAdd_matches hc.run (hc.mode.trans mode) (hc.armed.trans armed) (hc.interval.trans int) (by rw [hc.count, hc.compare]; exact hk),
    hc.count] at after
  refine ⟨?_, ?_, ?_⟩
  · rw [Chip.t, after.r (Reg.TMR_MATCH n) rfl (by decide) rfl rfl, Chip.r_w_ne, Chip.r_w_ne, Chip.r_w_ne]
    · exact c.tmrStat_sets n 0
    all_goals simp only [Fld.key, Reg.TMR_MATCH, Reg.TMR_COMPARE, Reg.TMR_CMP_ARMED, Reg.TMR_COUNT]; omega
  · rw [after.r (Reg.TMR_CMP_ARMED n) rfl (by decide) rfl rfl, Chip.r_w_ne, Chip.r_w_same]
    · rfl
    · simp only [Fld.key, Reg.TMR_CMP_ARMED, Reg.TMR_COUNT]; omega
  · rw [after.r (Reg.TMR_COUNT n) rfl (by decide) rfl rfl, Chip.r_w_same]
    rfl

/-- An end reached: the status bit, the stop and the count (R156). -/
theorem Chip.tickRun_ends {b : Chip} {n count : Nat} {x : Counting} (h : Chip.CountsAt n x count b) (hn : n < 64) (mode : x.mode = 2)
    (idle : x.armed = false) {k : Nat} (hk : k = reachIn count x.stop) :
    (b.tickRun k).t (Reg.TMR_ENDED n) = true ∧ (b.tickRun k).r (Reg.TMR_RUNNING n) = 0 ∧ (b.tickRun k).r (Reg.TMR_COUNT n) = (count + k) % 2 ^ 32 := by
  obtain ⟨c, before, after⟩ := b.tickRun_count k hn h.clk
  have hc := h.of_same before.count
  rw [Chip.chAdd_ends hc.run (hc.mode.trans mode) (hc.armed.trans idle) (by rw [hc.count, hc.stop]; exact hk), hc.count] at after
  have keep (f : Fld) (hf : f.key ≠ (Reg.TMR_ENDED n).key) (d : Chip) : (d.tmrStat n 1).r f = d.r f := (d.tmrStat_only n 1).2 f hf
  refine ⟨?_, ?_, ?_⟩
  · rw [Chip.t, after.r (Reg.TMR_ENDED n) rfl (by decide) rfl rfl]
    exact Chip.tmrStat_sets _ n 1
  · rw [after.r (Reg.TMR_RUNNING n) rfl (by decide) rfl rfl, keep, Chip.r_w_same]
    · rfl
    · simp only [Fld.key, Reg.TMR_ENDED, Reg.TMR_RUNNING]; omega
  · rw [after.r (Reg.TMR_COUNT n) rfl (by decide) rfl rfl, keep, Chip.r_w_ne, Chip.r_w_same]
    · rfl
    all_goals simp only [Fld.key, Reg.TMR_ENDED, Reg.TMR_COUNT, Reg.TMR_RUNNING]; omega

/-- An event input's edge touches the channels alone. -/
theorem Chip.evtCount_only (b : Chip) (src : Nat) : Chip.Only [.tmrAcc] (offs 0x30000 0x31000) b (b.evtCount src) :=
  (Chip.Only.rfl' b _ _).foldl _ fun c n hn =>
    .ite ((c.chAdd_only n 1).mono (List.Subset.refl _) fun _ h => offs_of_tmrCh (List.mem_range.mp hn) (tmrCh_of_tmrRun h)) (.rfl' c _ _)

/-- An event input's edge counts a channel it is for by one, and no other. -/
theorem Chip.evtCount_at (b : Chip) {n : Nat} (src : Nat) (hn : n < 64) : ∃ c, Chip.SameCh n b c ∧
    Chip.SameCh n (if c.r (Reg.TMR_CLK n) = 2 ∧ c.r (Reg.TMR_EVT_SRC n) = src then c.chAdd n 1 else c) (b.evtCount src) :=
  List.foldl_at (R := Chip.SameCh n)
    (f := fun (c : Chip) m => if c.r (Reg.TMR_CLK m) = 2 ∧ c.r (Reg.TMR_EVT_SRC m) = src then c.chAdd m 1 else c)
    (Chip.SameCh.rfl' n) (fun _ _ _ => Chip.SameCh.trans) (List.range 64) b List.nodup_range (List.mem_range.mpr hn) fun c m _ ne =>
      .other (.ite ((c.chAdd_only m 1).mono (List.Subset.refl _) fun _ => tmrCh_of_tmrRun) (.rfl' c _ _)) ne

end Sys2Proof.Machine

open Sys2Proof Sys2Proof.Machine

/-- Settles O19. -/
theorem timeApplies : Obligations.TimeApplies := by
  rintro s _ _ quiet runs free set rfl rfl limit
  have tick : s.b.oneTick = s.b.tick := if_pos (by rw [runs, free]; rfl)
  obtain ⟨⟨x, tim⟩, sch, steps⟩ := Chip.tick_of_commit set limit
  have still : s.b.tick.Quiet := by
    unfold Chip.Quiet
    rw [tim, sch]
    exact quiet
  have only := Chip.settle_only still
  have shows : s.b.tick.settle.tim.incr = s.b.tim.pendIncr.getD s.b.tim.incr ∧ s.b.tick.settle.tickClean = true ∧
      s.b.tick.settle.tim.now =
        (((s.b.tim.now + s.b.tim.pendIncr.getD s.b.tim.incr : Nat) : Int) + stepU (s.b.tim.pendStep.getD 0)).toNat % timeEnd ∧
      (s.b.tim.pendStep.getD 0 ≠ 0 → s.b.tick.settle.t Reg.TIM_STEPPED = true) := by
    refine ⟨?_, ?_, ?_, fun ne => (only.t _ (by decide)).trans (steps ne)⟩
    · rw [only.tim (by decide), tim]
    · rw [Chip.tickClean, only.tim (by decide), tim, set]
      rfl
    · rw [only.tim (by decide), tim]
  have run (i : Instr) (h : exec i s = .next { s with b := s.b.tick.settle }) : Runs i s (fun t => t.mem = s.mem ∧
      t.b.tim.incr = s.b.tim.pendIncr.getD s.b.tim.incr ∧ t.b.tickClean = true ∧
      t.b.tim.now = (((s.b.tim.now + s.b.tim.pendIncr.getD s.b.tim.incr : Nat) : Int) + stepU (s.b.tim.pendStep.getD 0)).toNat % timeEnd ∧
      (s.b.tim.pendStep.getD 0 ≠ 0 → t.b.t Reg.TIM_STEPPED = true)) := by
    refine ⟨_, h, ?_⟩
    dsimp only
    exact ⟨rfl, shows⟩
  refine ⟨fun waits => run _ ?_, fun waits => run _ ?_⟩
  · simp only [exec_incrApply, execIncrApply, State.on_eq, waits, if_true, tick]
  · simp only [exec_stepApply, execStepApply, State.on_eq, waits, if_true, tick]

/-- Settles O25. -/
theorem timerChannelsCount : Obligations.TimerChannelsCount := by
  intro s n hn runs run
  have pass (b : Chip) (k : Nat) (same : Chip.Only [] (· = Reg.PWR_LATE_WAKE.key) s.b b) (clean : s.b.tickClean = true)
      (before : s.b.beforeBoundary k = true) : b.passTicks k = b.ticks k := by
    have tim := same.tim (by decide)
    refine Chip.passTicks_eq ?_ ((same.timeRuns (by decide) (by decide) (by decide)).trans runs) ?_
    · rw [Chip.tickClean, tim]
      exact clean
    · rw [Chip.beforeBoundary, tim]
      exact before
  have still (b : Chip) (k : Nat) (same : Chip.Only [] (· = Reg.PWR_LATE_WAKE.key) s.b b) (quiet : s.b.Quiet) :
      Chip.SameCh n (b.ticks k) (b.ticks k).settle := by
    have quiet' : b.Quiet := by
      unfold Chip.Quiet
      rw [same.tim (by decide), same.sch (by decide)]
      exact quiet
    exact fun f hf => (Chip.settle_only (Chip.ticksFor_quiet k k quiet')).2 f fun h => by
      have := (offs_of_tmrCh hn hf).2
      have := h.1
      omega
  refine ⟨fun quiet clean armed clk mode int before => ?_, fun quiet clean idle clk mode before => ?_, fun src => ⟨fun none => ?_, ?_⟩⟩
  · have at_ := Chip.lateWake_count (b2n (s.b.t (Reg.TMR_RUNNING n) && s.b.t (Reg.TMR_CMP_ARMED n))) hn
      (x := ⟨1, true, s.b.r (Reg.TMR_COMPARE n), 0, s.b.r (Reg.TMR_END n)⟩) ⟨run, clk, mode, armed, rfl, int, rfl, rfl⟩
    have go : exec (.compareMatch n) s = .next { s with b := ((s.b.lateWake (b2n (s.b.t (Reg.TMR_RUNNING n) && s.b.t (Reg.TMR_CMP_ARMED n)))).ticks
        (reachIn (s.b.r (Reg.TMR_COUNT n)) (s.b.r (Reg.TMR_COMPARE n)))).settle } := by
      rw [exec_compareMatch, execCompareMatch, State.on_eq, ← pass _ _ (s.b.lateWake_only _) clean before, Chip.tmrToMatch,
        if_pos (by simp [at_.run, at_.armed, at_.clk]), at_.count, at_.compare]
    obtain ⟨isSet, off, count⟩ := Chip.ticks_nears hn (T := (s.b.r (Reg.TMR_COUNT n) + reachIn (s.b.r (Reg.TMR_COUNT n)) (s.b.r (Reg.TMR_COMPARE n))) % 2 ^ 32)
      (D := fun b => b.t (Reg.TMR_MATCH n) = true ∧ b.r (Reg.TMR_CMP_ARMED n) = 0 ∧ b.r (Reg.TMR_COUNT n) =
        (s.b.r (Reg.TMR_COUNT n) + reachIn (s.b.r (Reg.TMR_COUNT n)) (s.b.r (Reg.TMR_COMPARE n))) % 2 ^ 32)
      (fun _ _ lt => ⟨.inl fun two => absurd two (show (1 : Nat) ≠ 2 by decide), .inr lt⟩)
      (fun b count hb goal => by
        obtain ⟨isSet, off, sum⟩ := Chip.tickRun_matches hb hn rfl rfl rfl rfl
        exact ⟨isSet, off, sum.trans goal⟩) at_ rfl
    have same := still _ (reachIn (s.b.r (Reg.TMR_COUNT n)) (s.b.r (Reg.TMR_COMPARE n)))
      (s.b.lateWake_only (b2n (s.b.t (Reg.TMR_RUNNING n) && s.b.t (Reg.TMR_CMP_ARMED n)))) quiet
    refine ⟨_, go, ?_⟩
    dsimp only
    exact ⟨rfl, (congrArg (· == 1) (same.r (Reg.TMR_MATCH n) rfl (by decide) rfl)).trans isSet,
      (same.r (Reg.TMR_CMP_ARMED n) rfl (by decide) rfl).trans off, (same.r (Reg.TMR_COUNT n) rfl (by decide) rfl).trans count⟩
  · have at_ : Chip.CountsAt n ⟨2, false, s.b.r (Reg.TMR_COMPARE n), s.b.r (Reg.TMR_INTERVAL n), s.b.r (Reg.TMR_END n)⟩ (s.b.r (Reg.TMR_COUNT n)) s.b :=
      ⟨run, clk, mode, idle, rfl, rfl, rfl, rfl⟩
    have go : exec (.oneshotEnd n) s = .next { s with b := (s.b.ticks (reachIn (s.b.r (Reg.TMR_COUNT n)) (s.b.r (Reg.TMR_END n)))).settle } := by
      rw [exec_oneshotEnd, execOneshotEnd, State.on_eq, ← pass _ _ (.rfl' _ _ _) clean before, Chip.tmrToEnd, if_pos (by simp [run, mode, clk])]
    obtain ⟨isSet, off, count⟩ := Chip.ticks_nears hn (T := (s.b.r (Reg.TMR_COUNT n) + reachIn (s.b.r (Reg.TMR_COUNT n)) (s.b.r (Reg.TMR_END n))) % 2 ^ 32)
      (D := fun b => b.t (Reg.TMR_ENDED n) = true ∧ b.r (Reg.TMR_RUNNING n) = 0 ∧ b.r (Reg.TMR_COUNT n) =
        (s.b.r (Reg.TMR_COUNT n) + reachIn (s.b.r (Reg.TMR_COUNT n)) (s.b.r (Reg.TMR_END n))) % 2 ^ 32)
      (fun _ _ lt => ⟨.inr lt, .inl rfl⟩)
      (fun b count hb goal => by
        obtain ⟨isSet, off, sum⟩ := Chip.tickRun_ends hb hn rfl rfl rfl
        exact ⟨isSet, off, sum.trans goal⟩) at_ rfl
    have same := still _ (reachIn (s.b.r (Reg.TMR_COUNT n)) (s.b.r (Reg.TMR_END n))) (.rfl' _ _ _) quiet
    refine ⟨_, go, ?_⟩
    dsimp only
    exact ⟨rfl, (congrArg (· == 1) (same.r (Reg.TMR_ENDED n) rfl (by decide) rfl)).trans isSet,
      (same.r (Reg.TMR_RUNNING n) rfl (by decide) rfl).trans off, (same.r (Reg.TMR_COUNT n) rfl (by decide) rfl).trans count⟩
  · rw [exec_eventInputEdge, execEventInputEdge, State.on_eq, if_neg]
    intro h
    simp only [Bool.and_eq_true, decide_eq_true_eq, Bool.not_eq_true'] at h
    rcases none with high | parked
    · omega
    · exact absurd (parked.symm.trans h.2) (by decide)
  · intro low open_ clk input idle mode
    have go : exec (.eventInputEdge src) s = .next { s with b := s.b.evtCount src } := by
      rw [exec_eventInputEdge, execEventInputEdge, State.on_eq, if_pos (by simp [runs, low, open_])]
    have only := s.b.evtCount_only src
    refine ⟨_, go, ?_⟩
    dsimp only
    refine ⟨rfl, ?_, only.1, fun m hm no => ?_, fun f hf => only.2 f fun h => ?_⟩
    · obtain ⟨c, before, after⟩ := s.b.evtCount_at src hn
      have at_ := before.r (Reg.TMR_COUNT n) rfl (by decide) rfl
      rw [if_pos ⟨(before.r _ rfl (by decide) rfl).trans clk, (before.r _ rfl (by decide) rfl).trans input⟩, Chip.chAdd_counts
        ((congrArg (· == 1) (before.r _ rfl (by decide) rfl)).trans run) Nat.one_pos
        (.inl fun e => absurd (((before.r _ rfl (by decide) rfl).symm.trans e).symm.trans mode) (by decide))
        (.inl ((congrArg (· == 1) (before.r _ rfl (by decide) rfl)).trans idle)), at_] at after
      exact (after.r (Reg.TMR_COUNT n) rfl (by decide) rfl).trans (Chip.r_w_same _ _ _)
    · obtain ⟨c, before, after⟩ := s.b.evtCount_at src hm
      rw [if_neg] at after
      · exact (after.r (Reg.TMR_COUNT m) rfl (by decide) rfl).trans (before.r (Reg.TMR_COUNT m) rfl (by decide) rfl)
      · rw [before.r (Reg.TMR_CLK m) rfl (by decide) rfl, before.r (Reg.TMR_EVT_SRC m) rfl (by decide) rfl]
        exact no
    · unfold offs at h
      omega
end

section
/-!
SUPPORT. Captures, and the arming and firing of trigger channels (R150 to R152, R157, R158, R232).
-/
namespace Sys2Proof.Machine

/-- A change of some parts and registers, as the statements write it. -/
theorem Chip.Only.onlyRegs {b b0 c : Chip} {ps : List Part} {rs : Nat → Prop} {l : List Fld} (h : Chip.Only ps rs b c)
    (parts : b.with (.ntc :: .sea :: .out :: ps) c = { b0 with regs := c.regs, ntc := c.ntc, sea := c.sea, out := c.out })
    (regs : ∀ f, b0.r f = b.r f) (keys : ∀ k, rs k → (∃ g ∈ l, k = g.key) ∨ offs 0x50000 0x60000 k ∨ offs 0x220000 0x230000 k) :
    Chip.OnlyRegs b0 c l := by
  refine ⟨(h.mono (qs := .ntc :: .sea :: .out :: ps) (fun p hp => by simp [hp]) fun _ => id).1.trans parts, fun f hf hn hs => ?_⟩
  rw [regs]
  refine h.2 f fun hk => ?_
  rcases keys _ hk with ⟨g, hg, e⟩ | e | e
  · exact hf g hg e
  · unfold offs at e
    omega
  · unfold offs at e
    omega

/-! ### Captures (R157, R158) -/

/-- An edge that the channel takes, with its prescaler due, is captured. -/
theorem Chip.capEdge_taken {b : Chip} {n : Nat} {rising : Bool} (on : b.t (Reg.TMR_CAP_EN n) = true)
    (kind : b.r (Reg.TMR_CAP_EDGE n) ≠ if rising then 1 else 0) (due : b.r (Reg.TMR_PRESC n) ≤ (kgetD b.cap n {}).edges) :
    b.capEdge n rising = Chip.capStore { b with cap := kput b.cap n { kgetD b.cap n {} with edges := 0 } } n := by
  unfold Chip.capEdge
  simp only [on, Bool.not_true, Bool.false_eq_true, if_false, due, if_true]
  refine if_neg ?_
  cases rising <;> simpa using kind

/-- A capture into an empty one stores the count. -/
theorem Chip.capStore_empty {b : Chip} {n : Nat} (empty : b.t (Reg.TMR_CAPTURED n) = false) (what : b.t (Reg.TMR_CAP_WHAT n) = false) :
    b.capStore n = (b.w (Reg.TMR_CAPTURE n) (b.r (Reg.TMR_COUNT n))).tmrStat n 2 := by
  unfold Chip.capStore
  simp [empty, what]

theorem Chip.capStore_full {b : Chip} {n : Nat} (full : b.t (Reg.TMR_CAPTURED n) = true) : b.capStore n = b.tmrStat n 3 := if_pos full

/-- A status bit reads 1 then. -/
theorem Chip.tmrStat_one (b : Chip) (n i : Nat) : (b.tmrStat n i).r (tmrFlag n i) = 1 :=
  beq_iff_eq.mp (b.tmrStat_sets n i)

/-- A rising level on an enabled source that the channel takes, with the prescaler due. -/
theorem Chip.capLevel_taken {b : Chip} {n samples : Nat} (open_ : b.tevParked (b.r (Reg.TMR_CAP_SRC n)) = false)
    (long : b.r (Reg.TMR_FILT_N n) ≤ samples) (low : (kgetD b.cap n {}).lvl = false) (on : b.t (Reg.TMR_CAP_EN n) = true)
    (kind : b.r (Reg.TMR_CAP_EDGE n) ≠ 1) (due : b.r (Reg.TMR_PRESC n) ≤ (kgetD b.cap n {}).edges) :
    ∃ x : KV CapSt, b.capLevel n true samples = Chip.capStore { b with cap := x } n ∧ kgetD x n {} = { lvl := true, edges := 0 } := by
  have level : b.capLevel n true samples =
      Chip.capEdge { b with cap := kput b.cap n { lvl := true, edges := (kgetD b.cap n {}).edges } } n true := by
    refine (if_neg (by simp [open_])).trans (if_neg ?_)
    simp only [low, on, not_true_eq_false, or_false, not_or]
    exact ⟨by omega, by decide⟩
  have cap : kgetD (kput b.cap n { lvl := true, edges := (kgetD b.cap n {}).edges }) n ({} : CapSt) =
    { lvl := true, edges := (kgetD b.cap n {}).edges } := kgetD_kput_same _ _ _ _
  have taken := Chip.capEdge_taken (b := { b with cap := kput b.cap n { lvl := true, edges := (kgetD b.cap n {}).edges } }) (rising := true)
    on kind (by rw [cap]; exact due)
  rw [cap] at taken
  exact ⟨_, level.trans taken, kgetD_kput_same _ _ _ _⟩


/-- Two registers of the same row of a table lie apart where their words or their places in the word do. -/
theorem Fld.key_ne_row {f g : Fld} {n k a c : Nat} (hf : f.off = a + k * n) (hg : g.off = c + k * n) (hl : Nat.ble (f.lo + 1) 32 = true)
    (hm : Nat.ble (g.lo + 1) 32 = true) (apart : (a != c || f.lo != g.lo) = true) : f.key ≠ g.key := by
  have := Nat.le_of_ble_eq_true hl
  have := Nat.le_of_ble_eq_true hm
  simp only [Bool.or_eq_true, bne_iff_ne, ne_eq] at apart
  unfold Fld.key
  omega

/-! ### Trigger channels (R150, R151) -/

/-- A control word's fields, as they are written. -/
def Chip.trigWord (b : Chip) (n v : Nat) : Chip :=
  ((b.w (Reg.TIM_TRG_POL n) (bits v 1 1)).w (Reg.TIM_TRG_LANE n) (bits v 4 4)).w (Reg.TIM_TRG_WIDTH_LEN n) (bits v 16 16)

theorem Chip.trigCtrl_arms {b : Chip} {n v : Nat} (lane : bits v 4 4 ≤ 6) (on : bit v 0 = true) (len : 1 ≤ bits v 16 16) :
    b.trigCtrl n v = (b.trigWord n v).trigArm n := by
  unfold Chip.trigCtrl
  rw [if_neg (by omega)]
  exact if_pos on

theorem bits_mod (v lo w : Nat) : bits v lo w % 2 ^ w = bits v lo w := Nat.mod_mod _ _

theorem Chip.trigWord_pol (b : Chip) (n v : Nat) : (b.trigWord n v).r (Reg.TIM_TRG_POL n) = bits v 1 1 := by
  rw [Chip.trigWord, Chip.r_w_ne _ _ _ _ (Fld.key_ne_row rfl rfl rfl rfl rfl), Chip.r_w_ne _ _ _ _ (Fld.key_ne_row rfl rfl rfl rfl rfl), Chip.r_w_same]
  exact bits_mod v 1 1

theorem Chip.trigWord_lane (b : Chip) (n v : Nat) : (b.trigWord n v).r (Reg.TIM_TRG_LANE n) = bits v 4 4 := by
  rw [Chip.trigWord, Chip.r_w_ne _ _ _ _ (Fld.key_ne_row rfl rfl rfl rfl rfl), Chip.r_w_same]
  exact bits_mod v 4 4

theorem Chip.trigWord_len (b : Chip) (n v : Nat) : (b.trigWord n v).r (Reg.TIM_TRG_WIDTH_LEN n) = bits v 16 16 := by
  rw [Chip.trigWord, Chip.r_w_same]
  exact bits_mod v 16 16

/-- The target, the period and the pins' registers stay as a control word is written. -/
theorem Chip.trigWord_other (b : Chip) (n v : Nat) {f : Fld} (h : f.key < 0x40210 * 32 + 0x400 * n ∨ 0x40211 * 32 + 0x400 * n ≤ f.key) :
    (b.trigWord n v).r f = b.r f := by
  have apart (g : Fld) (hg : g.off = 0x40210 + 0x20 * n) (hl : Nat.ble (g.lo + 1) 32 = true) : g.key ≠ f.key := by
    have := Nat.le_of_ble_eq_true hl
    unfold Fld.key at *
    omega
  rw [Chip.trigWord, Chip.r_w_ne _ _ _ _ (apart _ rfl rfl), Chip.r_w_ne _ _ _ _ (apart _ rfl rfl), Chip.r_w_ne _ _ _ _ (apart _ rfl rfl)]

/-- The target and the period of a channel stay as its control word is written. -/
theorem Chip.trigArm_taken {b : Chip} {n : Nat} (pin : n < 8 → b.parked (if n < 4 then 0x18 else 0x19) = false)
    (window : 8 ≤ n → (1 ≤ b.r (Reg.TIM_TRG_WIDTH_LEN n) ∧ b.r (Reg.TIM_TRG_WIDTH_LEN n) ≤ 256) ∧ b.laneExists (b.r (Reg.TIM_TRG_LANE n)) = true)
    (single : b.r (Reg.TIM_TRG_PERIOD n) = 0) (ahead : b.tim.now < b.trigTarget n * nsU) :
    b.trigArm n = Chip.w (Chip.w { b with tim := { b.tim with trig := kput b.tim.trig n (b.trigTarget n) } } (Reg.TIM_TRG_ARM n) 1)
      (Reg.TIM_TRG_CODE n) OK := by
  unfold Chip.trigArm
  simp only [single, ahead, if_true, windowMax]
  by_cases low : n < 8
  · rw [if_pos low, if_neg (by simp [pin low]), if_neg (by decide), if_neg (by simp)]
    rfl
  · obtain ⟨⟨one, most⟩, lane⟩ := window (Nat.not_lt.mp low)
    rw [if_neg low, if_neg (by decide), if_neg (by omega), if_neg (by simp [lane])]
    rfl


/-! ### Network time reaches a target (R150) -/

theorem mul_lt_of_lt_cdiv {a b k : Nat} (hb : 0 < b) (h : k < cdiv a b) : k * b < a := by
  have := (Nat.le_div_iff_mul_le hb).mp (Nat.succ_le_of_lt h)
  rw [Nat.succ_mul] at this
  omega

theorem cdiv_sub_mul {a b k : Nat} (h : k < cdiv a b) (hb : 0 < b) : cdiv (a - k * b) b = cdiv a b - k := by
  have lt := mul_lt_of_lt_cdiv hb h
  have shift : a - k * b + b - 1 = a + b - 1 - b * k := by
    rw [Nat.mul_comm b k]
    omega
  rw [cdiv, shift, Nat.sub_mul_div]
  rfl

theorem lt_of_lt_max_one {a k : Nat} (pos : 0 < k) (h : k < max 1 a) : k < a := by omega

theorem le_add_cdiv_mul (a t : Nat) {b : Nat} (hb : 0 < b) : t ≤ a + cdiv (t - a) b * b := by
  have := Nat.lt_div_mul_add hb (a := t - a + b - 1)
  unfold cdiv
  omega

/-- Trigger channel `n` is as it was: its registers, its target and network time. -/
def Chip.SameTrg (n : Nat) (b c : Chip) : Prop :=
  (∀ f : Fld, 0x40200 * 32 + 0x400 * n ≤ f.key → f.key < 0x40220 * 32 + 0x400 * n → c.r f = b.r f) ∧ c.tim.now = b.tim.now ∧
    kget c.tim.trig n = kget b.tim.trig n

theorem Chip.SameTrg.rfl' (n : Nat) (b : Chip) : Chip.SameTrg n b b := ⟨fun _ _ _ => rfl, rfl, rfl⟩

theorem Chip.SameTrg.trans {n : Nat} {b c d : Chip} (h1 : Chip.SameTrg n b c) (h2 : Chip.SameTrg n c d) : Chip.SameTrg n b d :=
  ⟨fun f lo hi => (h2.1 f lo hi).trans (h1.1 f lo hi), h2.2.1.trans h1.2.1, h2.2.2.trans h1.2.2⟩

theorem Chip.SameTrg.r {n a : Nat} {b c : Chip} (h : Chip.SameTrg n b c) (f : Fld) (hf : f.off = a + 0x20 * n) (lo : 0x40200 ≤ a) (hi : a < 0x40220)
    (hl : Nat.ble (f.lo + 1) 32 = true) : c.r f = b.r f := by
  have := Nat.le_of_ble_eq_true hl
  refine h.1 f ?_ ?_ <;> unfold Fld.key <;> omega

/-- Another channel's trigger leaves it as it was. -/
theorem Chip.trigDue_other {b : Chip} {n m : Nat} (hn : n < 12) (hm : m < 12) (ne : m ≠ n) : Chip.SameTrg n b (b.trigDue m) := by
  obtain ⟨x, tim, keep⟩ := b.trigDue_tim hm
  refine ⟨fun f lo hi => (b.trigDue_only hm).2 f ?_, by rw [tim], by rw [tim]; exact keep n ne.symm⟩
  simp only [trgKeys, Fld.key, Reg.TIM_TRG_ARM, Reg.TIM_TRG_FIRED, Reg.TIM_TRG_CODE, Reg.TIM_TRG_FIRE_CNT, offs] at *
  omega

/-- The triggers of a tick, as channel `n` sees them. -/
theorem Chip.trigAll_at (b : Chip) {n : Nat} (hn : n < 12) : ∃ c, Chip.SameTrg n b c ∧ Chip.SameTrg n (c.trigDue n) b.trigAll :=
  List.foldl_at (R := Chip.SameTrg n) (f := Chip.trigDue) (Chip.SameTrg.rfl' n) (fun _ _ _ => Chip.SameTrg.trans) (List.range 12) b List.nodup_range
    (List.mem_range.mpr hn) fun _ _ hm ne => Chip.trigDue_other hn (List.mem_range.mp hm) ne

/-- A firing counts and sets the flag; the rest of what it does leaves both, and the arming, as they are. -/
theorem Chip.trigFire_shows (b : Chip) {n : Nat} (hn : n < 12) :
    (b.trigFire n).r (Reg.TIM_TRG_FIRE_CNT n) = (b.r (Reg.TIM_TRG_FIRE_CNT n) + 1) % 2 ^ 16 ∧ (b.trigFire n).r (Reg.TIM_TRG_FIRED n) = 1 ∧
      (b.trigFire n).r (Reg.TIM_TRG_ARM n) = b.r (Reg.TIM_TRG_ARM n) := by
  unfold Chip.trigFire
  extract_lets b1
  have rest (f : Fld) (a : Nat) (hf : f.off = a + 0x20 * n) (hl : Nat.ble (f.lo + 1) 32 = true) (lo : 0x40200 ≤ a) (hi : a < 0x40220)
      (code : (Reg.TIM_TRG_CODE n).key ≠ f.key) :
      (if n < 8 then (b1.emit (.trigPulse n (b1.r (Reg.TIM_TRG_WIDTH_LEN n)) (b1.r (Reg.TIM_TRG_POL n)))).srcEvent (8 + n) else b1.windowStart n).r f =
        b1.r f := by
    have := Nat.le_of_ble_eq_true hl
    split
    · refine (Chip.srcEvent_only _ _).2 f fun h => ?_
      simp only [offs, Fld.key] at h
      omega
    · next low =>
      refine (b1.windowStart_only (Nat.not_lt.mp low) hn).2 f fun h => ?_
      rcases h with h | h
      · exact code h.symm
      · simp only [offs, Fld.key] at h
        omega
  refine ⟨(rest _ _ rfl rfl (by decide) (by decide) (Fld.key_ne_row rfl rfl rfl rfl rfl)).trans ?_,
    (rest _ _ rfl rfl (by decide) (by decide) (Fld.key_ne_row rfl rfl rfl rfl rfl)).trans ?_,
    (rest _ _ rfl rfl (by decide) (by decide) (Fld.key_ne_row rfl rfl rfl rfl rfl)).trans ?_⟩
  · rw [Chip.r_w_ne _ _ _ _ (Fld.key_ne_row rfl rfl rfl rfl rfl), Chip.wb_eq, Chip.r_w_ne _ _ _ _ (Fld.key_ne_row rfl rfl rfl rfl rfl), Chip.r_w_same]
    rfl
  · rw [Chip.r_w_ne _ _ _ _ (Fld.key_ne_row rfl rfl rfl rfl rfl), Chip.wb_eq, Chip.r_w_same]
    rfl
  · rw [Chip.r_w_ne _ _ _ _ (Fld.key_ne_row rfl rfl rfl rfl rfl), Chip.wb_eq, Chip.r_w_ne _ _ _ _ (Fld.key_ne_row rfl rfl rfl rfl rfl),
      Chip.r_w_ne _ _ _ _ (Fld.key_ne_row rfl rfl rfl rfl rfl)]

/-- Channel `n` is armed on a target with no period, and has fired so often. -/
def Chip.ArmedOn (n tg cnt : Nat) (b : Chip) : Prop :=
  kget b.tim.trig n = some tg ∧ b.r (Reg.TIM_TRG_PERIOD n) = 0 ∧ b.r (Reg.TIM_TRG_FIRE_CNT n) = cnt

/-- Channel `n` has fired on its target once more, and is disarmed. -/
def Chip.FiredOn (n tg cnt : Nat) (b : Chip) : Prop :=
  tg * nsU ≤ b.tim.now ∧ kget b.tim.trig n = none ∧ b.r (Reg.TIM_TRG_ARM n) = 0 ∧ b.r (Reg.TIM_TRG_FIRED n) = 1 ∧
    b.r (Reg.TIM_TRG_FIRE_CNT n) = (cnt + 1) % 2 ^ 16

theorem Chip.ArmedOn.of_same {n tg cnt : Nat} {b c : Chip} (h : Chip.ArmedOn n tg cnt b) (same : Chip.SameTrg n b c) : Chip.ArmedOn n tg cnt c :=
  ⟨same.2.2.trans h.1, (same.r _ rfl (by decide) (by decide) rfl).trans h.2.1, (same.r _ rfl (by decide) (by decide) rfl).trans h.2.2⟩

/-- Before its target a channel waits. -/
theorem Chip.ArmedOn.trigAll_waits {n tg cnt : Nat} {b : Chip} (h : Chip.ArmedOn n tg cnt b) (hn : n < 12) (early : b.tim.now < tg * nsU) :
    Chip.ArmedOn n tg cnt b.trigAll := by
  obtain ⟨c, before, after⟩ := b.trigAll_at hn
  have hc := h.of_same before
  have waits : c.trigDue n = c := by
    unfold Chip.trigDue
    rw [hc.1]
    exact if_pos (by rw [before.2.1]; exact early)
  rw [waits] at after
  exact hc.of_same after

/-- At its target a channel with no period fires and is disarmed. -/
theorem Chip.ArmedOn.trigAll_fires {n tg cnt : Nat} {b : Chip} (h : Chip.ArmedOn n tg cnt b) (hn : n < 12) (due : tg * nsU ≤ b.tim.now) :
    Chip.FiredOn n tg cnt b.trigAll := by
  obtain ⟨c, before, after⟩ := b.trigAll_at hn
  obtain ⟨armed, single, count⟩ := h.of_same before
  have fires : c.trigDue n = Chip.trigFire { c.w (Reg.TIM_TRG_ARM n) 0 with tim := { c.tim with trig := kdel c.tim.trig n } } n := by
    unfold Chip.trigDue
    rw [armed]
    exact (if_neg (by rw [before.2.1]; exact Nat.not_lt.mpr due)).trans (if_pos single)
  rw [fires] at after
  obtain ⟨shown, flag, off⟩ := Chip.trigFire_shows { c.w (Reg.TIM_TRG_ARM n) 0 with tim := { c.tim with trig := kdel c.tim.trig n } } hn
  have tim := (Chip.trigFire_only { c.w (Reg.TIM_TRG_ARM n) 0 with tim := { c.tim with trig := kdel c.tim.trig n } } hn).tim (by decide)
  refine ⟨?_, ?_, ?_, ?_, ?_⟩
  · rw [after.2.1, tim]
    exact due.trans before.2.1.ge
  · rw [after.2.2, tim]
    exact kget_kdel_same _ _
  · exact (after.r _ rfl (by decide) (by decide) rfl).trans (off.trans (Chip.r_w_same c (Reg.TIM_TRG_ARM n) 0))
  · exact (after.r _ rfl (by decide) (by decide) rfl).trans flag
  · refine (after.r _ rfl (by decide) (by decide) rfl).trans (shown.trans ?_)
    refine congrArg (fun k => (k + 1) % 2 ^ 16) (Eq.trans ?_ count)
    exact Chip.r_w_ne c (Reg.TIM_TRG_ARM n) (Reg.TIM_TRG_FIRE_CNT n) 0 (Fld.key_ne_row rfl rfl rfl rfl rfl)

/-- Counting leaves the triggers as they are. -/
theorem Chip.clkAdd_trg (b : Chip) (clk k : Nat) (n : Nat) : Chip.SameTrg n b (b.clkAdd clk k) := by
  have only := b.clkAdd_only clk k
  refine ⟨fun f lo _ => only.2 f fun h => ?_, by rw [only.tim (by decide)], by rw [only.tim (by decide)]⟩
  have := h.2
  omega

/-- The ticks to a target end with the channel fired. -/
theorem Chip.ticks_fires {b : Chip} {n tg cnt : Nat} (h : Chip.ArmedOn n tg cnt b) (hn : n < 12) (moves : b.tim.incr ≠ 0)
    (inside : b.tim.now + b.ticksTo (tg * nsU) * b.tim.incr < timeEnd) : Chip.FiredOn n tg cnt (b.ticks (b.ticksTo (tg * nsU))) := by
  have start (c : Chip) (k : Nat) (hc : Chip.ArmedOn n tg cnt c) :
      Chip.ArmedOn n tg cnt (Chip.clkAdd { c with tim := { c.tim with now := (c.tim.now + k * c.tim.incr) % timeEnd } } 0 k) :=
    Chip.ArmedOn.of_same (b := { c with tim := { c.tim with now := (c.tim.now + k * c.tim.incr) % timeEnd } }) hc (Chip.clkAdd_trg _ 0 k n)
  have now (c : Chip) (k : Nat) :
      (Chip.clkAdd { c with tim := { c.tim with now := (c.tim.now + k * c.tim.incr) % timeEnd } } 0 k).tim.now =
        (c.tim.now + k * c.tim.incr) % timeEnd := (Chip.clkAdd_trg _ 0 k n).2.1
  refine Chip.ticksFor_reach (P := fun c => Chip.ArmedOn n tg cnt c ∧ c.tim.incr = b.tim.incr ∧ c.tim.now + c.ticksTo (tg * nsU) * c.tim.incr < timeEnd)
    (D := Chip.FiredOn n tg cnt) (left := fun c => c.ticksTo (tg * nsU)) (fun c _ => c.ticksTo_pos _) ?_ ?_ _ b ⟨h, rfl, inside⟩ (Nat.le_refl _)
  · rintro c k ⟨armed, incr, inside⟩ pos lt -
    have step : 0 < c.tim.incr := Nat.pos_of_ne_zero (by rw [incr]; exact moves)
    have far : k < cdiv (tg * nsU - c.tim.now) c.tim.incr := lt_of_lt_max_one pos lt
    have short := mul_lt_of_lt_cdiv step far
    have whole : c.ticksTo (tg * nsU) = cdiv (tg * nsU - c.tim.now) c.tim.incr := Nat.max_eq_right (pos.trans far)
    have small : c.tim.now + k * c.tim.incr < timeEnd :=
      (Nat.add_le_add_left (Nat.mul_le_mul_right _ lt.le) _).trans_lt inside
    obtain ⟨x, tim⟩ := c.tickRun_tim k
    rw [Nat.mod_eq_of_lt small] at tim
    have left : (c.tickRun k).ticksTo (tg * nsU) = c.ticksTo (tg * nsU) - k := by
      rw [whole, ← cdiv_sub_mul far step, Chip.ticksTo, tim]
      dsimp only
      rw [Nat.sub_add_eq, cdiv_sub_mul far step]
      exact Nat.max_eq_right (Nat.sub_pos_of_lt far)
    refine ⟨⟨?_, by rw [tim]; exact incr, ?_⟩, left⟩
    · exact (start c k armed).trigAll_waits hn (by rw [now, Nat.mod_eq_of_lt small]; exact Nat.add_lt_of_lt_sub' short)
    · rw [left, tim]
      dsimp only
      rw [Nat.add_assoc, ← Nat.add_mul, Nat.add_sub_cancel' lt.le]
      exact inside
  · rintro c ⟨armed, incr, inside⟩
    have step : 0 < c.tim.incr := Nat.pos_of_ne_zero (by rw [incr]; exact moves)
    refine (start c _ armed).trigAll_fires hn ?_
    rw [now, Nat.mod_eq_of_lt inside]
    refine (le_add_cdiv_mul c.tim.now (tg * nsU) step).trans (Nat.add_le_add_left (Nat.mul_le_mul_right _ (Nat.le_max_right _ _)) _)

theorem Chip.passTo_eq {b : Chip} {t : Nat} (clean : b.tickClean = true) (runs : b.timeRuns = true) (before : b.beforeBoundary (b.ticksTo t) = true) :
    b.passTo t = b.ticks (b.ticksTo t) := by
  unfold Chip.passTo
  simp only [clean, if_true, runs, Bool.not_true, Bool.or_self, Bool.false_eq_true, if_false, before]

/-- What fired stays so as the step ends. -/
theorem Chip.FiredOn.settle {n tg cnt : Nat} {b : Chip} (h : Chip.FiredOn n tg cnt b) (hn : n < 12) (quiet : b.Quiet) : Chip.FiredOn n tg cnt b.settle := by
  have only := Chip.settle_only quiet
  have keep (f : Fld) (a : Nat) (hf : f.off = a + 0x20 * n) (hl : Nat.ble (f.lo + 1) 32 = true) (ha : a < 0x40220) : b.settle.r f = b.r f := by
    have := Nat.le_of_ble_eq_true hl
    refine only.2 f fun h => ?_
    simp only [offs, Fld.key] at h
    omega
  obtain ⟨due, off, arm, fired, count⟩ := h
  unfold Chip.FiredOn
  rw [only.tim (by decide), keep (Reg.TIM_TRG_ARM n) _ rfl rfl (by decide), keep (Reg.TIM_TRG_FIRED n) _ rfl rfl (by decide),
    keep (Reg.TIM_TRG_FIRE_CNT n) _ rfl rfl (by decide)]
  exact ⟨due, off, arm, fired, count⟩

end Sys2Proof.Machine

open Sys2Proof Sys2Proof.Machine

/-- Settles O26. -/
theorem capturesAreStoredAndRead : Obligations.CapturesAreStoredAndRead := by
  intro s n hn
  refine ⟨fun samples runs open_ long low on kind due => ?_, fun rq answers => ⟨fun full => ?_, fun empty => ?_⟩⟩
  · obtain ⟨x, level, cap⟩ := Chip.capLevel_taken open_ long low on kind due
    have go : exec (.captureEdge n true samples) s = .next { s with b := Chip.capStore { s.b with cap := x } n } := by
      rw [exec_captureEdge, execCaptureEdge, State.on_eq, if_pos ⟨hn, runs⟩, level]
    have start : Chip.Only [.cap, .tmrAcc] (fun k => k = (Reg.TMR_CAPTURE n).key ∨ k = (Reg.TMR_CAPTURED n).key) s.b { s.b with cap := x } :=
      (Chip.Only.rfl' _ _ _).putCap (by decide) x
    refine ⟨fun empty what => ⟨_, go, ?_⟩, fun full => ⟨_, go, ?_⟩⟩
    · dsimp only
      rw [Chip.capStore_empty (b := { s.b with cap := x }) empty what]
      have stat := (Chip.w { s.b with cap := x } (Reg.TMR_CAPTURE n) (s.b.r (Reg.TMR_COUNT n))).tmrStat_only n 2
      have kept := stat.cap (by decide)
      refine ⟨rfl, ?_, Chip.tmrStat_one _ n 2, ?_, ?_, ?_⟩
      · refine (stat.2 _ ?_).trans (Chip.r_w_same _ _ _)
        simp only [tmrFlag, Fld.key, Reg.TMR_CAPTURE, Reg.TMR_CAPTURED]
        omega
      · exact (congrArg (fun m => (kgetD m n ({} : CapSt)).lvl) kept).trans (congrArg CapSt.lvl cap)
      · exact (congrArg (fun m => (kgetD m n ({} : CapSt)).edges) kept).trans (congrArg CapSt.edges cap)
      · refine ((start.w (Reg.TMR_CAPTURE n) (s.b.r (Reg.TMR_COUNT n)) (.inl rfl)).trans (stat.mono (by decide) fun _ h => .inr h)).onlyRegs rfl
          (fun _ => rfl) fun k hk => .inl (hk.elim (fun e => ⟨_, List.mem_cons_self, e⟩) fun e => ⟨_, List.mem_cons_of_mem _ List.mem_cons_self, e⟩)
    · dsimp only
      rw [Chip.capStore_full (b := { s.b with cap := x }) full]
      have stat := Chip.tmrStat_only { s.b with cap := x } n 3
      have kept := stat.cap (by decide)
      refine ⟨rfl, Chip.tmrStat_sets _ n 3, (congrArg (fun m => (kgetD m n ({} : CapSt)).edges) kept).trans (congrArg CapSt.edges cap), ?_⟩
      refine ((((Chip.Only.rfl' s.b [.cap, .tmrAcc] (· = (Reg.TMR_OVR n).key)).putCap (by decide) x)).trans
        (stat.mono (by decide) fun _ h => h)).onlyRegs rfl (fun _ => rfl) fun k hk => .inl ⟨_, List.mem_cons_self, hk⟩
  · have go : exec (.captureRead rq n) s =
        .next { s with b := ((s.b.w (Reg.TMR_CAPTURE n) 0).w (Reg.TMR_CAPTURED n) 0).emit (.data rq (leBytes (s.b.r (Reg.TMR_CAPTURE n)) 4)) } := by
      simp [exec_captureRead, execCaptureRead, Chip.capRead, answers, full, b2n, Nat.not_lt.mpr (Nat.le_of_lt_succ hn)]
    refine ⟨_, go, ?_⟩
    dsimp only
    refine ⟨rfl, rfl, ?_, Chip.r_w_same _ (Reg.TMR_CAPTURED n) 0, ?_⟩
    · have apart : (Reg.TMR_CAPTURED n).key ≠ (Reg.TMR_CAPTURE n).key := by
        simp only [Fld.key, Reg.TMR_CAPTURE, Reg.TMR_CAPTURED]
        omega
      exact (Chip.r_w_ne (s.b.w (Reg.TMR_CAPTURE n) 0) _ _ 0 apart).trans (Chip.r_w_same _ _ _)
    · exact (((Chip.OnlyRegs.rfl' s.b _).w _ (by simp)).w _ (by simp)).emit _
  · simp [exec_captureRead, execCaptureRead, Chip.capRead, answers, empty, Nat.not_lt.mpr (Nat.le_of_lt_succ hn)]

/-- Settles O23. -/
theorem triggersArmAndFire : Obligations.TriggersArmAndFire := by
  intro s n
  refine ⟨fun v open_ awake hn lane on len pin window single ahead => ?_, fun tg quiet hn runs clean armed single moves before end_ => ?_,
    fun samples => ⟨fun none => ?_, ?_⟩⟩
  · have keep (f : Fld) (a : Nat) (hf : f.off = a + 0x20 * n) (hl : Nat.ble (f.lo + 1) 32 = true) (ha : a < 0x40210) (hb : 0x40200 ≤ a) :
        (s.b.trigWord n v.toNat).r f = s.b.r f := by
      have := Nat.le_of_ble_eq_true hl
      refine s.b.trigWord_other n v.toNat ?_
      unfold Fld.key
      omega
    have target : (s.b.trigWord n v.toNat).trigTarget n = s.b.trigTarget n := by
      simp only [Chip.trigTarget]
      rw [keep (Reg.TIM_TRG_TGT_NS n) _ rfl rfl (by decide) (by decide), keep (Reg.TIM_TRG_TGT_SEC_LO n) _ rfl rfl (by decide) (by decide),
        keep (Reg.TIM_TRG_TGT_SEC_HI n) _ rfl rfl (by decide) (by decide)]
    have taken := Chip.trigArm_taken (b := s.b.trigWord n v.toNat) (n := n)
      (fun low => by
        rw [Chip.parked, padFunc, s.b.trigWord_other]
        · exact pin low
        · simp only [Fld.key, Reg.GLB_FUNC]
          split <;> omega)
      (fun high => by
        rw [s.b.trigWord_len, s.b.trigWord_lane]
        exact ⟨⟨len, (window high).1⟩, (window high).2⟩)
      ((keep (Reg.TIM_TRG_PERIOD n) _ rfl rfl (by decide) (by decide)).trans single) (by rw [target]; exact ahead)
    have go : exec (.triggerArm n v) s = .next { s with b := (s.b.trigWord n v.toNat).trigArm n } := by
      rw [exec_triggerArm, execTriggerArm, State.on_eq, Chip.gated_writable _ open_, if_pos hn, Chip.sooner_awake _ awake,
        Chip.trigCtrl_arms lane on len]
    rw [taken, target] at go
    refine ⟨_, go, ?_⟩
    dsimp only
    refine ⟨rfl, ?_, Chip.r_w_same _ _ _, kget_kput_same _ _ _, ?_, ?_, ?_, ?_⟩
    · exact (Chip.r_w_ne _ (Reg.TIM_TRG_CODE n) _ _ (Fld.key_ne_row rfl rfl rfl rfl rfl)).trans (Chip.r_w_same _ _ 1)
    · exact (Chip.r_w_ne _ (Reg.TIM_TRG_CODE n) _ _ (Fld.key_ne_row rfl rfl rfl rfl rfl)).trans
        ((Chip.r_w_ne _ (Reg.TIM_TRG_ARM n) _ 1 (Fld.key_ne_row rfl rfl rfl rfl rfl)).trans (s.b.trigWord_pol n v.toNat))
    · exact (Chip.r_w_ne _ (Reg.TIM_TRG_CODE n) _ _ (Fld.key_ne_row rfl rfl rfl rfl rfl)).trans
        ((Chip.r_w_ne _ (Reg.TIM_TRG_ARM n) _ 1 (Fld.key_ne_row rfl rfl rfl rfl rfl)).trans (s.b.trigWord_lane n v.toNat))
    · exact (Chip.r_w_ne _ (Reg.TIM_TRG_CODE n) _ _ (Fld.key_ne_row rfl rfl rfl rfl rfl)).trans
        ((Chip.r_w_ne _ (Reg.TIM_TRG_ARM n) _ 1 (Fld.key_ne_row rfl rfl rfl rfl rfl)).trans (s.b.trigWord_len n v.toNat))
    · exact (((((Chip.OnlyRegs.rfl' _ _).w _ (by simp)).w _ (by simp)).w _ (by simp)).w _ (by simp)).w _ (by simp)
  · have same := s.b.lateWake_only (b2n (kget s.b.tim.trig n).isSome)
    have tim := same.tim (by decide)
    have keep (f : Fld) (a : Nat) (hf : f.off = a + 0x20 * n) (ha : a < 0x40220) (hb : 0x40200 ≤ a) :
        (s.b.lateWake (b2n (kget s.b.tim.trig n).isSome)).r f = s.b.r f := by
      refine same.2 f fun h => ?_
      simp only [Fld.key, Reg.PWR_LATE_WAKE] at h
      omega
    have go : exec (.triggerFire n) s = .next { s with b :=
        ((s.b.lateWake (b2n (kget s.b.tim.trig n).isSome)).ticks ((s.b.lateWake (b2n (kget s.b.tim.trig n).isSome)).ticksTo (tg * nsU))).settle } := by
      have target : kget (s.b.lateWake (b2n (kget s.b.tim.trig n).isSome)).tim.trig n = some tg := by
        rw [tim]
        exact armed
      rw [exec_triggerFire, execTriggerFire, State.on_eq, Chip.trigToFire, target, ← Chip.passTo_eq ?_ ((same.timeRuns (by decide) (by decide) (by decide)).trans runs) ?_]
      · rw [Chip.tickClean, tim]
        exact clean
      · rw [Chip.beforeBoundary, Chip.ticksTo, tim]
        exact before
    have quiet' : (s.b.lateWake (b2n (kget s.b.tim.trig n).isSome)).Quiet := by
      unfold Chip.Quiet
      rw [tim, same.sch (by decide)]
      exact quiet
    have fired := Chip.ticks_fires (b := s.b.lateWake (b2n (kget s.b.tim.trig n).isSome)) (n := n) (tg := tg) (cnt := s.b.r (Reg.TIM_TRG_FIRE_CNT n))
      ⟨by rw [tim]; exact armed, (keep _ _ rfl (by decide) (by decide)).trans single, keep _ _ rfl (by decide) (by decide)⟩ hn (by rw [tim]; exact moves)
      (by rw [Chip.ticksTo, tim]; exact (of_decide_eq_true before).trans_le end_)
    obtain ⟨due, off, arm, flag, count⟩ := fired.settle hn (Chip.ticksFor_quiet _ _ quiet')
    refine ⟨_, go, ?_⟩
    dsimp only
    exact ⟨rfl, due, off, arm, flag, count⟩
  · rw [exec_rawCaptureEnd, execRawCaptureEnd, State.on_eq, Chip.windowEnd, none]
  · rintro e _ _ some rfl rfl
    rw [exec_rawCaptureEnd, execRawCaptureEnd, State.on_eq, Chip.windowEnd, some]
end

section
/-!
SUPPORT. Coexistence, carriers and the duty tally, gain, and the receiver's commands (R184 to R187, R193, R208 to R211, R233, R239 to R248, R257).
-/
namespace Sys2Proof.Machine

/-! ### Coexistence (R187) -/

theorem Chip.grantLost_idle {b : Chip} {set : Nat} (h : b.t (Reg.RFC_CX_EN set) = false ∨
    b.tx.frames.any (fun e => coexSet e.2.chain == set && e.2.phase == TxPhase.air) = false) :
    b.grantLost set = b.w (Reg.RFC_CX_GRANT set) 0 := by
  have en : (b.w (Reg.RFC_CX_GRANT set) 0).t (Reg.RFC_CX_EN set) = b.t (Reg.RFC_CX_EN set) :=
    congrArg (· == 1) (Chip.r_w_ne _ _ _ _ (Fld.key_ne_row rfl rfl rfl rfl rfl))
  refine if_pos ?_
  rw [Chip.wb_eq, b2n, if_neg (by decide), en, Bool.or_eq_true]
  rcases h with h | h
  · simp [h]
  · right
    simpa [List.isEmpty_iff, List.filter_eq_nil_iff] using h

theorem Chip.grantLost_counts {b : Chip} {set : Nat} (en : b.t (Reg.RFC_CX_EN set) = true) (keep : b.t (Reg.RFC_CX_ABORT_ON_LOSS set) = false)
    (air : b.tx.frames.any (fun e => coexSet e.2.chain == set && e.2.phase == TxPhase.air) = true) :
    b.grantLost set = (b.w (Reg.RFC_CX_GRANT set) 0).inc (Reg.RFC_CX_GRANT_LOST_CNT set) := by
  have en' : (b.w (Reg.RFC_CX_GRANT set) 0).t (Reg.RFC_CX_EN set) = true :=
    (congrArg (· == 1) (Chip.r_w_ne _ _ _ _ (Fld.key_ne_row rfl rfl rfl rfl rfl))).trans en
  have keep' : (b.w (Reg.RFC_CX_GRANT set) 0).t (Reg.RFC_CX_ABORT_ON_LOSS set) = false :=
    (congrArg (· == 1) (Chip.r_w_ne _ _ _ _ (Fld.key_ne_row rfl rfl rfl rfl rfl))).trans keep
  have some : ¬ (b.tx.frames.filter (fun e => coexSet e.2.chain == set && e.2.phase == TxPhase.air)).isEmpty = true := by
    simpa [List.isEmpty_iff, List.filter_eq_nil_iff] using air
  refine (if_neg ?_).trans (if_neg ?_)
  · rw [Chip.wb_eq, b2n, if_neg (by decide), en', Bool.or_eq_true, not_or]
    exact ⟨by decide, some⟩
  · rw [Chip.wb_eq, b2n, if_neg (by decide), keep']
    decide

/-! ### Carriers and the duty tally (R241, R248) -/

theorem carrierCap_le (n : Nat) : carrierCap n ≤ 140 := by
  unfold carrierCap
  split <;> decide

/-! ### Gain (R210) -/

/-- A fold whose every step leaves the start as it is. -/
theorem foldl_stays {α β : Type} (f : β → α → β) (x : β) : ∀ l : List α, (∀ e ∈ l, f x e = x) → l.foldl f x = x
  | [], _ => rfl
  | e :: l, h => by
    rw [List.foldl_cons, h e List.mem_cons_self]
    exact foldl_stays f x l fun e he => h e (List.mem_cons_of_mem _ he)

/-- A step that takes effect on a lane with no raw-sample window. -/
theorem Chip.gainEffect_free {b : Chip} {l g : Nat} (mark : kget b.rx.marks l = some g) (free : ∀ e ∈ b.rawCap, e.lane ≠ l) :
    ∃ x : KV Ctx, b.gainEffect l = Chip.add (Chip.w { b with rx := { b.rx with marks := kdel b.rx.marks l, ctxs := x } } (Reg.RXP_GAIN l) g)
      (Reg.RXP_GAIN_STEP l) (dist g (b.r (Reg.RXP_GAIN l))) := by
  unfold Chip.gainEffect
  simp only [mark]
  exact ⟨_, foldl_stays _ _ _ fun e he => if_neg (free e he)⟩

end Sys2Proof.Machine

open Sys2Proof Sys2Proof.Machine

/-- Settles O29. -/
theorem coexistencePins : Obligations.CoexistencePins := by
  intro s
  refine ⟨fun id f hf wait en => ?_, fun id none => ?_, fun set _ hair => ⟨fun en keep air => ?_, fun idle => ?_⟩⟩
  · have asks : (s.b.tf id).any (fun f => f.phase != TxPhase.air) = true := by simpa [hf] using wait
    rw [exec_coexReqAssert, execCoexReqAssert, State.on_eq, if_pos asks, Chip.coexAssert, hf]
    simp only [en, Bool.not_true, Bool.false_eq_true, if_false]
    rfl
  · rw [exec_coexReqAssert, execCoexReqAssert, State.on_eq]
    cases hf : s.b.tf id with
    | none => rfl
    | some f =>
      rcases none f hf with air | off
      · rw [if_neg (by simp [air])]
      · simp only [Chip.coexAssert, hf, off, Bool.not_false, if_true, ite_self]
  · rw [exec_coexGrantLost, execCoexGrantLost, State.on_eq, Chip.grantLost_counts en keep (hair.symm.trans air)]
  · rw [exec_coexGrantLost, execCoexGrantLost, State.on_eq, Chip.grantLost_idle (idle.imp id hair.symm.trans)]

/-- Settles O32. -/
theorem carriersAndDuty : Obligations.CarriersAndDuty := by
  intro s c hc
  refine ⟨fun silent => ?_, fun air => ?_, ?_, fun none => ?_, fun tn some => ⟨fun past => ?_, fun lasts => ?_⟩⟩
  · refine ⟨_, rfl, ?_⟩
    dsimp only
    rw [Chip.carriersApply, if_neg (not_not.mpr silent)]
    refine ⟨rfl, kgetD_kset_same _ _ _ _, (Chip.r_w_same _ _ _).trans (Nat.mod_eq_of_lt ?_), (Chip.OnlyRegs.rfl' _ _).w _ (List.mem_singleton.mpr rfl)⟩
    exact (carrierCap_le _).trans_lt (show 140 < 2 ^ 16 by decide)
  · rw [exec_carriersApply, execCarriersApply, State.on_eq, Chip.carriersApply, if_pos air]
  · refine ⟨_, rfl, ?_⟩
    dsimp only
    refine ⟨rfl, ?_, ?_⟩
    · show kgetD (kset 0 (kset 0 (kset 0 (kset 0 s.b.tx.duty (dutyKey 0 (s.b.tx.bucket + 1)) 0) (dutyKey 1 (s.b.tx.bucket + 1)) 0)
        (dutyKey 2 (s.b.tx.bucket + 1)) 0) (dutyKey 3 (s.b.tx.bucket + 1)) 0) (dutyKey c (s.b.tx.bucket + 1)) 0 = 0
      interval_cases c <;> simp [kgetD_kset]
    · exact ((((Chip.OnlyRegs.rfl' _ _).w _ (by decide)).w _ (by decide)).w _ (by decide)).w _ (by decide)
  · rw [exec_toneEnd, execToneEnd, State.on_eq, Chip.toneEnd, none]
  · refine ⟨_, rfl, ?_⟩
    dsimp only
    rw [Chip.toneEnd, some]
    simp only [past, if_true, true_and]
    exact ⟨kget_kdel_same _ _, Chip.r_w_same _ _ _, (Chip.OnlyRegs.rfl' _ _).w _ (List.mem_singleton.mpr rfl)⟩
  · rw [exec_toneEnd, execToneEnd, State.on_eq, Chip.toneEnd, some]
    simp only [Nat.not_le.mpr lasts, if_false]

/-- Settles O35. -/
theorem laneGainMoves : Obligations.LaneGainMoves := by
  intro s l hl
  refine ⟨?_, ?_, fun none => ?_, fun g mark hg free => ?_⟩
  · rintro peak _ rfl
    refine ⟨fun on high room => ?_, fun on high least => ?_, fun no => ?_⟩
    · rw [exec_gainStepDown, execGainStepDown, State.on_eq, Chip.gainDown, if_neg (by rw [on, decide_eq_false (Int.not_le.mpr high)]; decide), if_neg (Nat.not_le.mpr room)]
    · refine ⟨_, rfl, ?_⟩
      dsimp only
      rw [Chip.gainDown, if_neg (by rw [on, decide_eq_false (Int.not_le.mpr high)]; decide), if_pos least]
      exact ⟨rfl, (Chip.r_w_same _ _ _).trans (satAdd_mod 32 _ 1), rfl, (Chip.OnlyRegs.rfl' _ _).w _ (List.mem_singleton.mpr rfl)⟩
    · rw [exec_gainStepDown, execGainStepDown, State.on_eq, Chip.gainDown, if_pos ?_]
      rcases no with h | h
      · rw [h]
        rfl
      · rw [decide_eq_true h, Bool.or_true]
  · rintro peak _ rfl
    refine ⟨fun on idle low room => ?_, fun on idle low most => ?_, fun no => ?_⟩
    · rw [exec_gainStepUp, execGainStepUp, State.on_eq, Chip.gainUp, if_neg (by rw [on, idle, decide_eq_false (Int.not_le.mpr low)]; decide), if_neg (Nat.not_le.mpr room)]
    · rw [exec_gainStepUp, execGainStepUp, State.on_eq, Chip.gainUp, if_neg (by rw [on, idle, decide_eq_false (Int.not_le.mpr low)]; decide), if_pos most]
    · rw [exec_gainStepUp, execGainStepUp, State.on_eq, Chip.gainUp, if_pos ?_]
      rcases no with h | h | h
      · rw [h]
        rfl
      · rw [bne_iff_ne.mpr h, Bool.or_true, Bool.true_or]
      · rw [decide_eq_true h, Bool.or_true]
  · rw [exec_gainStepEffect, execGainStepEffect, State.on_eq, Chip.gainEffect, none]
  · refine ⟨_, rfl, ?_⟩
    dsimp only
    have apart : (Reg.RXP_GAIN_STEP l).key ≠ (Reg.RXP_GAIN l).key := by
      simp only [Fld.key, Reg.RXP_GAIN_STEP, Reg.RXP_GAIN]
      omega
    obtain ⟨x, effect⟩ := Chip.gainEffect_free mark free
    rw [effect]
    refine ⟨rfl, ?_, kget_kdel_same _ _, ?_, ((Chip.OnlyRegs.rfl' _ _).w _ (by simp)).w _ (by simp)⟩
    · exact (Chip.r_w_ne _ _ _ _ apart).trans ((Chip.r_w_same _ _ _).trans (Nat.mod_eq_of_lt (hg.trans (show 12 < 2 ^ 4 by decide))))
    · refine (Chip.r_w_same _ _ _).trans ((satAdd_mod 32 _ _).trans ?_)
      exact congrArg (satAdd 32 · _) (Chip.r_w_ne _ _ _ _ apart.symm)

/-- Settles O39. -/
theorem receiverIsRead : Obligations.ReceiverIsRead := by
  intro s irq awake takes
  have rxp : cbRXP ∈ cbBases := by decide
  have chan (l c : Nat) : (s.b.cmdAccept cbRXP irq).chanOk l c = s.b.chanOk l c := rfl
  refine ⟨?_, fun no => ?_, fun high => ?_, fun low => ⟨fun none => ?_, fun x st some stage => ?_⟩⟩
  · rintro l c _ rfl rfl ok rfl
    refine Runs.answers (f := fun c => c.readChan) (irq := irq) ?_ takes rxp (by decide) ?_
    · rw [exec_readChan, execReadChan, State.on_eq, Chip.wakeFor_of_awake awake]
    · simp only [Chip.readChan, Chip.cmdAccept_arg, chan, ok, Chip.cmdAccept_rx, Chip.cmdAccept_r s.b cbRXP irq Reg.RXP_STATS_TAG (by decide)]
      rfl
  · refine Runs.answers (f := fun c => c.readChan) (irq := irq) ?_ takes rxp (by decide) ?_
    · rw [exec_readChan, execReadChan, State.on_eq, Chip.wakeFor_of_awake awake]
    · simp only [Chip.readChan, Chip.cmdAccept_arg, chan, no]
      rfl
  · refine Runs.answers (f := fun c => c.rxReadCtx) (irq := irq) ?_ takes rxp (by decide) ?_
    · rw [exec_rxpReadCtx, execRxpReadCtx, State.on_eq, Chip.wakeFor_of_awake awake]
    · simp only [Chip.rxReadCtx, Chip.cmdAccept_arg, high, if_true]
      rfl
  · refine Runs.answers (f := fun c => c.rxReadCtx) (irq := irq) ?_ takes rxp (by decide) ?_
    · rw [exec_rxpReadCtx, execRxpReadCtx, State.on_eq, Chip.wakeFor_of_awake awake]
    · simp only [Chip.rxReadCtx, Chip.cmdAccept_arg, Nat.not_lt.mpr low, if_false, Chip.cmdAccept_rx, none]
      rfl
  · refine Runs.answers (f := fun c => c.rxReadCtx) (irq := irq) ?_ takes rxp (by decide) ?_
    · rw [exec_rxpReadCtx, execRxpReadCtx, State.on_eq, Chip.wakeFor_of_awake awake]
    · simp only [Chip.rxReadCtx, Chip.cmdAccept_arg, Nat.not_lt.mpr low, if_false, Chip.cmdAccept_rx, some]
      rcases stage with ⟨h, rfl⟩ | ⟨h, rfl⟩ | ⟨h, rfl⟩ <;> rw [h] <;> rfl
end

section
/-!
SUPPORT. The radio groups and the ends of carriers: what each shared operation of RFC and TXP touches (R168 to R193, R239 to R257).
-/
namespace Sys2Proof.Machine

/-! ### A group's registers and what it records of itself -/

/-- The keys of a group's registers. -/
def rfcGrp (g k : Nat) : Prop := (0x80100 + 0x40 * g) * 32 ≤ k ∧ k < (0x80140 + 0x40 * g) * 32

/-- Two blocks with the same group. -/
def Chip.SameGrp (g : Nat) (b c : Chip) : Prop := (∀ f : Fld, rfcGrp g f.key → c.r f = b.r f) ∧ c.grp g = b.grp g

theorem Chip.SameGrp.rfl' (g : Nat) (b : Chip) : Chip.SameGrp g b b := ⟨fun _ _ => rfl, rfl⟩

theorem Chip.SameGrp.trans {g : Nat} {b c d : Chip} (h1 : Chip.SameGrp g b c) (h2 : Chip.SameGrp g c d) : Chip.SameGrp g b d :=
  ⟨fun f hf => (h2.1 f hf).trans (h1.1 f hf), h2.2.trans h1.2⟩

/-- A register at an offset within the group's registers. -/
theorem rfcGrp_key {f : Fld} {g a : Nat} (hf : f.off = a + 0x40 * g) (lo : 0x80100 ≤ a) (hi : a < 0x80140) (hl : Nat.ble (f.lo + 1) 32 = true) :
    rfcGrp g f.key := by
  have := Nat.le_of_ble_eq_true hl
  unfold rfcGrp Fld.key
  omega

@[simp] theorem Chip.modGrp_r (b : Chip) (g : Nat) (f : Rf → Rf) (x : Fld) : (b.modGrp g f).r x = b.r x := rfl

theorem Chip.modGrp_grp (b : Chip) (g : Nat) (f : Rf → Rf) : (b.modGrp g f).grp g = f (b.grp g) := kgetD_kset_same _ _ _ _

theorem Chip.modGrp_grp_ne (b : Chip) {g m : Nat} (f : Rf → Rf) (ne : m ≠ g) : (b.modGrp m f).grp g = b.grp g := kgetD_kset_ne _ _ _ _ ne

/-- An operation on another group. -/
theorem Chip.SameGrp.other {g m : Nat} {b c : Chip} {ps : List Part} (h : Chip.Only ps (rfcGrp m) b c) (ne : m ≠ g) (grp : c.grp g = b.grp g) :
    Chip.SameGrp g b c := by
  refine ⟨fun f hf => h.2 f fun hm => ?_, grp⟩
  unfold rfcGrp at hf hm
  omega

theorem Chip.modGrp_only (b : Chip) (g : Nat) (f : Rf → Rf) (rs : Nat → Prop) : Chip.Only [.rf] rs b (b.modGrp g f) :=
  (Chip.Only.rfl' b [.rf] rs).putRf (by decide) _

/-! ### Calibrations that wait (R174, R193) -/

theorem Chip.calPend_only (b : Chip) (g : Nat) (cmd forced : Bool) : Chip.Only [.rf] (rfcGrp g) b (b.calPend g cmd forced) := by
  have pending : rfcGrp g (Reg.RFC_CAL_PENDING g).key := rfcGrp_key rfl (by decide) (by decide) rfl
  have wait : rfcGrp g (Reg.RFC_CAL_WAIT g).key := rfcGrp_key rfl (by decide) (by decide) rfl
  have force : rfcGrp g (Reg.RFC_CAL_FORCED g).key := rfcGrp_key rfl (by decide) (by decide) rfl
  have shown := Chip.Only.ite (p := b.t (Reg.RFC_CAL_PENDING g) = true) (.rfl' b [.rf] (rfcGrp g))
    (((Chip.Only.rfl' b [.rf] (rfcGrp g)).w _ 1 pending).w _ 0 wait)
  refine .ite (.rfl' b _ _) (.trans ?_ (Chip.modGrp_only _ g _ _))
  exact .ite (shown.w _ 1 force) shown

/-- A calibration that a command makes pending. -/
theorem Chip.calPend_pends {b : Chip} {g : Nat} (idle : b.rfs g ≠ RFS.CAL) (forced : Bool) :
    (b.calPend g true forced).t (Reg.RFC_CAL_PENDING g) = true ∧ ((b.calPend g true forced).grp g).pendCmd = true := by
  have wait : (Reg.RFC_CAL_WAIT g).key ≠ (Reg.RFC_CAL_PENDING g).key := Fld.key_ne_row rfl rfl rfl rfl rfl
  have force : (Reg.RFC_CAL_FORCED g).key ≠ (Reg.RFC_CAL_PENDING g).key := Fld.key_ne_row rfl rfl rfl rfl rfl
  rw [Chip.calPend, if_neg idle]
  refine ⟨?_, (congrArg Rf.pendCmd (Chip.modGrp_grp _ _ _)).trans (Bool.or_true _)⟩
  have shown : (if b.t (Reg.RFC_CAL_PENDING g) then b else (b.wb (Reg.RFC_CAL_PENDING g) true).w (Reg.RFC_CAL_WAIT g) 0).t
      (Reg.RFC_CAL_PENDING g) = true := by
    split
    · assumption
    · exact (congrArg (· == 1) (Chip.r_w_ne _ _ _ _ wait)).trans (Chip.t_w_one b rfl)
  generalize (if b.t (Reg.RFC_CAL_PENDING g) then b else (b.wb (Reg.RFC_CAL_PENDING g) true).w (Reg.RFC_CAL_WAIT g) 0) = c at shown ⊢
  rw [Chip.t, Chip.modGrp_r]
  split
  · exact (congrArg (· == 1) (Chip.r_w_ne _ _ _ _ force)).trans shown
  · exact shown

/-- A fold over groups, seen by one of them. -/
theorem Chip.groups_at {f : Chip → Nat → Chip} {l : List Nat} {b : Chip} {g : Nat} (nodup : l.Nodup) (mem : g ∈ l)
    (other : ∀ c m, Chip.Only [.rf] (rfcGrp m) c (f c m)) (grp : ∀ c m, m ≠ g → (f c m).grp g = c.grp g) :
    ∃ c, Chip.SameGrp g b c ∧ Chip.SameGrp g (f c g) (l.foldl f b) :=
  List.foldl_at (R := Chip.SameGrp g) (.rfl' g) (fun _ _ _ => .trans) l b nodup mem fun c m _ ne => .other (other c m) ne (grp c m ne)

theorem Chip.calPend_grp_ne (b : Chip) {g m : Nat} (cmd forced : Bool) (ne : m ≠ g) : (b.calPend m cmd forced).grp g = b.grp g := by
  unfold Chip.calPend
  split
  · rfl
  · refine (Chip.modGrp_grp_ne _ _ ne).trans ?_
    split <;> split <;> rfl

/-- What CAL_CANCEL does to one group. -/
def Chip.calUnpend (c : Chip) (g : Nat) : Chip :=
  (((c.wb (Reg.RFC_CAL_PENDING g) false).wb (Reg.RFC_CAL_FORCED g) false).w (Reg.RFC_CAL_WAIT g) 0).modGrp g (fun x => { x with pendCmd := false })

theorem Chip.calUnpend_only (b : Chip) (g : Nat) : Chip.Only [.rf] (rfcGrp g) b (b.calUnpend g) :=
  ((((Chip.Only.rfl' b [.rf] (rfcGrp g)).w _ 0 (rfcGrp_key rfl (by decide) (by decide) rfl)).w _ 0
    (rfcGrp_key (f := Reg.RFC_CAL_FORCED g) rfl (by decide) (by decide) rfl)).w _ 0
    (rfcGrp_key (f := Reg.RFC_CAL_WAIT g) rfl (by decide) (by decide) rfl)).trans (Chip.modGrp_only _ g _ _)

theorem Chip.calUnpend_shows (b : Chip) (g : Nat) : (b.calUnpend g).r (Reg.RFC_CAL_PENDING g) = 0 ∧ (b.calUnpend g).r (Reg.RFC_CAL_FORCED g) = 0 ∧
    (b.calUnpend g).r (Reg.RFC_CAL_WAIT g) = 0 ∧ ((b.calUnpend g).grp g).pendCmd = false := by
  have wp : (Reg.RFC_CAL_WAIT g).key ≠ (Reg.RFC_CAL_PENDING g).key := Fld.key_ne_row rfl rfl rfl rfl rfl
  have fp : (Reg.RFC_CAL_FORCED g).key ≠ (Reg.RFC_CAL_PENDING g).key := Fld.key_ne_row rfl rfl rfl rfl rfl
  have wf : (Reg.RFC_CAL_WAIT g).key ≠ (Reg.RFC_CAL_FORCED g).key := Fld.key_ne_row rfl rfl rfl rfl rfl
  refine ⟨?_, ?_, ?_, congrArg Rf.pendCmd (Chip.modGrp_grp _ _ _)⟩ <;> rw [Chip.calUnpend, Chip.modGrp_r]
  · exact (Chip.r_w_ne _ _ _ _ wp).trans ((Chip.r_w_ne _ _ _ _ fp).trans (Chip.r_w_same _ _ _))
  · exact (Chip.r_w_ne _ _ _ _ wf).trans (Chip.r_w_same _ _ _)
  · exact Chip.r_w_same _ _ _

theorem Chip.calUnpend_grp_ne (b : Chip) {g m : Nat} (ne : m ≠ g) : (b.calUnpend m).grp g = b.grp g := Chip.modGrp_grp_ne _ _ ne

theorem Chip.mem_groupMask (b : Chip) (g : Nat) : g ∈ b.groupMask ↔ g < 4 ∧ bit (b.arg cbRFC 0) g = true := by
  rw [Chip.groupMask, List.mem_filter, List.mem_range]

theorem Chip.groupMask_nodup (b : Chip) : b.groupMask.Nodup := List.Nodup.filter _ List.nodup_range

theorem Chip.groupMask_some {b : Chip} {g : Nat} (hg : g < 4) (on : bit (b.arg cbRFC 0) g = true) : ¬ b.groupMask.isEmpty = true := by
  rw [List.isEmpty_iff]
  exact List.ne_nil_of_mem ((b.mem_groupMask g).mpr ⟨hg, on⟩)

/-- CAL of groups that are present and not in CAL. -/
theorem Chip.calCmd_pends {b : Chip} (some : ¬ b.groupMask.isEmpty = true) (ready : b.ready = true)
    (free : ∀ g, g < 4 → bit (b.arg cbRFC 0) g = true → b.groupPresent g = true ∧ b.rfs g ≠ RFS.CAL) :
    ∃ c, b.calCmd = ⟨c, OK, [b.arg cbRFC 0 % 16]⟩ ∧
      ∀ g, g < 4 → bit (b.arg cbRFC 0) g = true → c.t (Reg.RFC_CAL_PENDING g) = true ∧ (c.grp g).pendCmd = true := by
  have present : ¬ b.groupMask.any (fun g => !b.groupPresent g) = true := by
    simp only [List.any_eq_true, Bool.not_eq_true', not_exists, not_and, b.mem_groupMask]
    rintro g ⟨hg, on⟩
    exact (Bool.not_eq_false _).mpr (free g hg on).1
  have legal : ¬ (!b.ready || b.groupMask.any (fun g => b.rfs g == RFS.CAL)) = true := by
    simp only [ready, Bool.not_true, Bool.false_or, List.any_eq_true, beq_iff_eq, not_exists, not_and, b.mem_groupMask]
    exact fun g ⟨hg, on⟩ => (free g hg on).2
  refine ⟨b.groupMask.foldl (fun c g => c.calPend g true (bit (b.arg cbRFC 1) 0)) b, ?_, fun g hg on => ?_⟩
  · rw [Chip.calCmd]
    simp only [if_neg some, if_neg present, if_neg legal]
    rfl
  · obtain ⟨c, before, after⟩ := Chip.groups_at (b := b) (f := fun c g => c.calPend g true (bit (b.arg cbRFC 1) 0)) b.groupMask_nodup
      ((b.mem_groupMask g).mpr ⟨hg, on⟩) (fun c m => c.calPend_only m _ _) (fun c m ne => c.calPend_grp_ne _ _ ne)
    obtain ⟨pends, cmd⟩ := Chip.calPend_pends (b := c) (g := g) (fun e => (free g hg on).2 ((before.1 _ (rfcGrp_key rfl (by decide) (by decide) rfl)).symm.trans e))
      (bit (b.arg cbRFC 1) 0)
    exact ⟨(congrArg (· == 1) (after.1 _ (rfcGrp_key rfl (by decide) (by decide) rfl))).trans pends, (congrArg Rf.pendCmd after.2).trans cmd⟩

/-- CAL_CANCEL of groups whose calibration waits by command alone. -/
theorem Chip.calCancelCmd_clears {b : Chip} (some : ¬ b.groupMask.isEmpty = true) (ready : b.ready = true)
    (waits : ∀ g, g < 4 → bit (b.arg cbRFC 0) g = true →
      b.t (Reg.RFC_CAL_PENDING g) = true ∧ (b.grp g).pendTemp = false ∧ (b.grp g).pendCmd = true) :
    ∃ c, b.calCancelCmd = ⟨c, OK, [b.arg cbRFC 0 % 16]⟩ ∧
      ∀ g, g < 4 → bit (b.arg cbRFC 0) g = true → c.r (Reg.RFC_CAL_PENDING g) = 0 ∧ c.r (Reg.RFC_CAL_FORCED g) = 0 ∧
        c.r (Reg.RFC_CAL_WAIT g) = 0 ∧ (c.grp g).pendCmd = false := by
  have legal : ¬ (!b.ready || b.groupMask.any (fun g =>
      !b.t (Reg.RFC_CAL_PENDING g) || (b.grp g).pendTemp || !(b.grp g).pendCmd)) = true := by
    simp only [ready, Bool.not_true, Bool.false_or, List.any_eq_true, not_exists, not_and, b.mem_groupMask]
    rintro g ⟨hg, on⟩
    obtain ⟨pends, temp, cmd⟩ := waits g hg on
    rw [pends, temp, cmd]
    decide
  refine ⟨b.groupMask.foldl Chip.calUnpend b, ?_, fun g hg on => ?_⟩
  · rw [Chip.calCancelCmd]
    simp only [if_neg some, if_neg legal]
    rfl
  · obtain ⟨c, -, after⟩ := Chip.groups_at (b := b) (f := Chip.calUnpend) b.groupMask_nodup
      ((b.mem_groupMask g).mpr ⟨hg, on⟩) (fun c m => c.calUnpend_only m) (fun c m ne => c.calUnpend_grp_ne ne)
    obtain ⟨p0, f0, w0, cmd⟩ := c.calUnpend_shows g
    exact ⟨(after.1 _ (rfcGrp_key rfl (by decide) (by decide) rfl)).trans p0, (after.1 _ (rfcGrp_key rfl (by decide) (by decide) rfl)).trans f0,
      (after.1 _ (rfcGrp_key rfl (by decide) (by decide) rfl)).trans w0, (congrArg Rf.pendCmd after.2).trans cmd⟩

/-! ### The end of a carrier (R169, R185, R239) -/

theorem Chip.onAir_only (b : Chip) : Chip.Only [] (offs 0xC0100 0xC0200) b b.onAir :=
  (Chip.Only.rfl' b _ _).foldl _ fun c i hi => (Chip.Only.rfl' c _ _).w _ _ (by
    have := List.mem_range.mp hi
    simp only [Fld.key, Reg.TXP_ON_AIR]
    omega)

theorem coexSet_lt (g : Nat) : coexSet g < 3 := by
  unfold coexSet
  split
  · decide
  · split <;> decide

theorem laneGroup_lt (l : Nat) : laneGroup l < 4 := by
  unfold laneGroup
  split <;> decide

theorem Chip.coexRelease_only (b : Chip) (c : Nat) : Chip.Only [] (offs 0x80400 0x80430) b (b.coexRelease c) := by
  have := coexSet_lt c
  refine .ite (.rfl' b _ _) (((Chip.Only.rfl' b _ _).w _ _ ?_).w _ _ ?_) <;> simp only [Fld.key, Reg.RFC_CX_REQ, Reg.RFC_CX_PRI] <;> omega

theorem Chip.carriersApply_only (b : Chip) {c : Nat} (hc : c < 4) : Chip.Only [.tx] (offs 0xC0100 0xC0200) b (b.carriersApply c) := by
  refine .ite (.rfl' b _ _) (((Chip.Only.rfl' b _ _).putTx (by decide) _).w _ _ ?_)
  simp only [Fld.key, Reg.TXP_CARRIER_CAP]
  omega

/-- Of TXP's state CARRIERS taking effect changes the carriers alone. -/
theorem Chip.carriersApply_tx (b : Chip) (c : Nat) : ∃ x, (b.carriersApply c).tx = { b.tx with carriers := x } := by
  unfold Chip.carriersApply
  split
  · exact ⟨_, rfl⟩
  · exact ⟨_, rfl⟩

theorem Chip.rfGo_only (b : Chip) (g st : Nat) : Chip.Only [.rf] (· = (Reg.RFC_STATE g).key) b (b.rfGo g st) :=
  ((Chip.Only.rfl' b [.rf] (· = (Reg.RFC_STATE g).key)).w _ st rfl).trans (Chip.modGrp_only _ g _ _)

theorem Chip.rfGo_rfs (b : Chip) (g : Nat) {st : Nat} (h : st < 8) : (b.rfGo g st).rfs g = st := (Chip.r_w_same _ _ _).trans (Nat.mod_eq_of_lt h)

theorem Chip.fromSynth_only (b : Chip) (g : Nat) : Chip.Only [.rf] (· = (Reg.RFC_STATE g).key) b (b.fromSynth g) := by
  unfold Chip.fromSynth
  split
  · exact Chip.rfGo_only _ _ _
  · exact .rfl' _ _ _
  · exact .ite (.rfl' _ _ _) (Chip.rfGo_only _ _ _)
  · exact Chip.rfGo_only _ _ _

/-- The keys that the end of a carrier may touch. -/
def carrierEnd (k : Nat) : Prop := offs 0x80100 0x80200 k ∨ offs 0x80400 0x80430 k ∨ offs 0xC0100 0xC0200 k

theorem rfState_carrierEnd {g : Nat} (hg : g < 4) : ∀ k, k = (Reg.RFC_STATE g).key → carrierEnd k := by
  rintro k rfl
  left
  simp only [Fld.key, Reg.RFC_STATE]
  omega

theorem Chip.carrierFreed_only (b : Chip) {g : Nat} (hg : g < 4) :
    Chip.Only [.rf, .tx] carrierEnd b ((b.onAir.carriersApply g).coexRelease g) :=
  ((b.onAir_only.mono (by decide) fun _ h => .inr (.inr h)).trans
    ((b.onAir.carriersApply_only hg).mono (by decide) fun _ h => .inr (.inr h))).trans
    ((Chip.coexRelease_only _ g).mono (by decide) fun _ h => .inr (.inl h))

theorem Chip.txIdle_only (b : Chip) {g : Nat} (hg : g < 4) : Chip.Only [.rf, .tx] carrierEnd b (b.txIdle g) := by
  have freed := b.carrierFreed_only hg
  have state := rfState_carrierEnd hg
  exact .ite (freed.trans ((((Chip.rfGo_only _ g _).mono (by decide) state).trans
    ((Chip.modGrp_only _ g _ carrierEnd).mono (by decide) fun _ h => h)).trans ((Chip.fromSynth_only _ g).mono (by decide) state))) freed

/-- Of TXP's state the end of a carrier changes the carriers alone. -/
theorem Chip.txIdle_tx (b : Chip) (g : Nat) : ∃ x, (b.txIdle g).tx = { b.tx with carriers := x } := by
  obtain ⟨x, applied⟩ := b.onAir.carriersApply_tx g
  have freed : ((b.onAir.carriersApply g).coexRelease g).tx = { b.tx with carriers := x } := by
    rw [(Chip.coexRelease_only _ g).tx (by decide), applied, b.onAir_only.tx (by decide)]
  refine ⟨x, ?_⟩
  unfold Chip.txIdle
  dsimp only
  split
  · rw [(Chip.fromSynth_only _ g).tx (by decide)]
    exact ((Chip.modGrp_only _ g _ noReg).tx (by decide)).trans (((Chip.rfGo_only _ g _).tx (by decide)).trans freed)
  · exact freed

/-! ### Tones and wake calls (R255, R257) -/

/-- The block with other tones, and TONE_ON of a chain written. -/
def Chip.putTones (b : Chip) (c : Nat) (x : KV Tone) (on : Nat) : Chip := Chip.w { b with tx := { b.tx with tones := x } } (Reg.TXP_TONE_ON c) on

/-- A command that completes over other tones. -/
theorem Chip.putTones_only (b : Chip) (irq : Bool) (c on code : Nat) (x : KV Tone) (l : List Nat) :
    Chip.OnlyBlock (b.putTones c x on) (((b.cmdAccept cbTXP irq).putTones c x on).cmdFinish cbTXP code l) cbTXP :=
  ((Chip.OnlyBlock.accept { b with tx := { b.tx with tones := x } } cbTXP irq).w _ on).finish _ _

theorem Chip.putTones_on (b : Chip) (c : Nat) (x : KV Tone) {on : Nat} (h : on < 2) : (b.putTones c x on).r (Reg.TXP_TONE_ON c) = on :=
  (Chip.r_w_same _ _ _).trans (Nat.mod_eq_of_lt h)

theorem Chip.putTones_finish (b : Chip) (c on code : Nat) (x : KV Tone) (l : List Nat) :
    ((b.putTones c x on).cmdFinish cbTXP code l).tx.tones = x := by
  rw [Chip.cmdFinish_tx]
  rfl

/-- What WAKE_CALL plans. -/
def Chip.callFrame (b : Chip) (t : Nat) : TxF :=
  { src := .call, lane := b.arg cbTXP 0, chan := b.arg cbTXP 1, kind := 4, reach := 2, power := toS (b.arg cbTXP 6) 32, t := t, phase := .keyed,
    airUs := b.callUs (laneGroup (b.arg cbTXP 0)) (b.arg cbTXP 2) (b.arg cbTXP 5), limit := 0,
    pattern := (b.arg cbTXP 3 + b.arg cbTXP 4 * 2 ^ 32) % 2 ^ b.arg cbTXP 2, patLen := b.arg cbTXP 2,
    pre := b.r (Reg.TXP_WAKE_PRE (laneGroup (b.arg cbTXP 0))), rate := b.r (Reg.TXP_WAKE_RATE (laneGroup (b.arg cbTXP 0))), reps := b.arg cbTXP 5 }

/-- The block with a call planned. -/
def Chip.callPlanned (b : Chip) (f : TxF) : Chip :=
  { b with tx := { b.tx with nextId := b.tx.nextId + 1, frames := kput b.tx.frames b.tx.nextId f, call := some b.tx.nextId, callNs := f.t } }

/-- WAKE_CALL whose checks pass. -/
theorem Chip.wakeCall_plans {b : Chip} {lane at_ : Nat} (hl : lane = b.arg cbTXP 0) (low : lane ≤ 6) (chan : b.chanOk lane (b.arg cbTXP 1) = true)
    (both : b.rxOnly lane (b.arg cbTXP 1) = false) (reps : 1 ≤ b.arg cbTXP 5) (reps' : b.arg cbTXP 5 ≤ 64) (len : 8 ≤ b.arg cbTXP 2)
    (len' : b.arg cbTXP 2 ≤ 64) (ready : b.ready = true) (send : b.canSend (laneGroup lane) = true)
    (hat : at_ = if b.arg cbTXP 7 = 0 then b.tim.stitch + (if b.nowNs % 250000 = 0 then 2 else 3)
      else if (b.arg cbTXP 7 + (2 ^ 32 - b.stitch32)) % 2 ^ 32 < 2 ^ 31 then b.tim.stitch + (b.arg cbTXP 7 + (2 ^ 32 - b.stitch32)) % 2 ^ 32
      else b.tim.stitch + (b.arg cbTXP 7 + (2 ^ 32 - b.stitch32)) % 2 ^ 32 - 2 ^ 32)
    (ahead : b.nowNs + 160000 ≤ at_ * 250000) :
    b.wakeCall = .inl (b.callPlanned (b.callFrame (at_ * 250000))) := by
  have exists_ : b.chainExists (laneGroup lane) = true := by
    simp only [Chip.canSend, Bool.and_eq_true] at send
    exact send.1.1.1.1
  subst hl hat
  unfold Chip.wakeCall
  dsimp only
  rw [if_neg (fun h => h.2.2 exists_), if_neg (by rw [chan, both]; simp; omega), if_neg (by omega), if_neg (by simp [ready]),
    if_neg (by simp [send]), if_neg (by omega)]
  rfl

/-- The end of a call: it is gone, and counted with its airtime, before the chain is freed and the command completes. -/
theorem Chip.callEnd_counts (b : Chip) (id : Nat) (f : TxF) : ∃ c : Chip, c.tx = { b.tx with frames := kdel b.tx.frames id, call := none } ∧
    (c.r (Reg.TXP_FRAMES_OK f.chain) = satAdd (Reg.TXP_FRAMES_OK f.chain).w (b.r (Reg.TXP_FRAMES_OK f.chain)) 1 ∧
      c.r (Reg.TXP_AIRTIME_US f.chain) = satAdd (Reg.TXP_AIRTIME_US f.chain).w (b.r (Reg.TXP_AIRTIME_US f.chain)) f.airUs) ∧
    b.callEnd id f = (c.txIdle f.chain).cmdFinish cbTXP OK [f.t / 250000, f.airUs] := by
  have apart : (Reg.TXP_AIRTIME_US f.chain).key ≠ (Reg.TXP_FRAMES_OK f.chain).key := Fld.key_ne_row rfl rfl rfl rfl rfl
  let b1 : Chip := { b with tx := { b.tx with frames := kdel b.tx.frames id, call := none } }
  refine ⟨(b1.inc (Reg.TXP_FRAMES_OK f.chain)).add (Reg.TXP_AIRTIME_US f.chain) f.airUs, rfl, ⟨?_, ?_⟩, rfl⟩
  · exact (Chip.r_w_ne _ _ _ _ apart).trans ((Chip.r_w_same _ _ _).trans (satAdd_mod 32 _ 1))
  · refine (Chip.r_w_same _ _ _).trans ((satAdd_mod 32 _ _).trans ?_)
    exact congrArg (satAdd 32 · _) (Chip.r_w_ne b1 _ _ _ apart.symm)

end Sys2Proof.Machine

open Sys2Proof Sys2Proof.Machine

/-- Settles O28. -/
theorem calibrationCommands : Obligations.CalibrationCommands := by
  intro s irq awake takes ready
  have rfc : cbRFC ∈ cbBases := by decide
  have far : cbRFC + 0x94 < 0x50000 ∨ 0x50040 ≤ cbRFC := by decide
  -- A group's registers and the device's state are outside the command block.
  have accept (f : Fld) (g : Nat) (hf : rfcGrp g f.key) : (s.b.cmdAccept cbRFC irq).r f = s.b.r f :=
    Chip.cmdAccept_r _ _ _ _ (.inr (by unfold rfcGrp at hf; unfold cbRFC; omega))
  have finish (c : Chip) (l : List Nat) (f : Fld) (g : Nat) (hg : g < 4) (hf : rfcGrp g f.key) : (c.cmdFinish cbRFC OK l).r f = c.r f :=
    Chip.cmdFinish_r _ _ _ _ _ (by unfold rfcGrp at hf; rw [show Reg.NTC_INT_PEND.key = 0x50030 * 32 from rfl]; omega)
      (.inr (by unfold rfcGrp at hf; unfold cbRFC; omega))
  have isReady : (s.b.cmdAccept cbRFC irq).ready = true := (congrArg (· == 1) (Chip.cmdAccept_r _ _ _ _ (by decide))).trans ready
  have state (g : Nat) : rfcGrp g (Reg.RFC_STATE g).key := rfcGrp_key rfl (by decide) (by decide) rfl
  have pending (g : Nat) : rfcGrp g (Reg.RFC_CAL_PENDING g).key := rfcGrp_key rfl (by decide) (by decide) rfl
  have forced (g : Nat) : rfcGrp g (Reg.RFC_CAL_FORCED g).key := rfcGrp_key rfl (by decide) (by decide) rfl
  have wait (g : Nat) : rfcGrp g (Reg.RFC_CAL_WAIT g).key := rfcGrp_key rfl (by decide) (by decide) rfl
  refine ⟨?_, fun c low some => ?_⟩
  · rw [← Chip.cmdAccept_arg s.b cbRFC 0 irq]
    rintro ⟨g0, hg0, on0⟩
    have nonempty : ¬ (s.b.cmdAccept cbRFC irq).groupMask.isEmpty = true := Chip.groupMask_some hg0 on0
    refine ⟨fun free => ?_, fun waits => ?_⟩
    · obtain ⟨c, answers, pends⟩ := Chip.calCmd_pends nonempty isReady fun g hg on =>
        ⟨(free g hg on).1, fun e => (free g hg on).2 ((accept _ g (state g)).symm.trans e)⟩
      refine Runs.cmd (b := s.b) (f := fun c => c.calCmd) ?_ takes far (by decide) answers ?_
      · rw [exec_cal, execCal, State.on_eq, Chip.wakeFor_of_awake awake]
      · rintro d rfl completed
        refine ⟨rfl, completed, fun g hg on => ?_⟩
        obtain ⟨shows, cmd⟩ := pends g hg on
        refine ⟨(congrArg (· == 1) (finish c _ _ g hg (pending g))).trans shows, ?_⟩
        dsimp only
        rw [Chip.grp, Chip.cmdFinish_rf]
        exact cmd
    · obtain ⟨c, answers, clears⟩ := Chip.calCancelCmd_clears nonempty isReady fun g hg on =>
        ⟨(congrArg (· == 1) (accept _ g (pending g))).trans (waits g hg on).1, (waits g hg on).2⟩
      refine Runs.cmd (b := s.b) (f := fun c => c.calCancelCmd) ?_ takes far (by decide) answers ?_
      · rw [exec_calCancel, execCalCancel, State.on_eq, Chip.wakeFor_of_awake awake]
      · rintro d rfl completed
        refine ⟨rfl, completed, fun g hg on => ?_⟩
        obtain ⟨p0, f0, w0, cmd⟩ := clears g hg on
        refine ⟨(finish c _ _ g hg (pending g)).trans p0, (finish c _ _ g hg (forced g)).trans f0, (finish c _ _ g hg (wait g)).trans w0, ?_⟩
        dsimp only
        rw [Chip.grp, Chip.cmdFinish_rf]
        exact cmd
  · refine Runs.answers (f := fun c => c.readCal) (irq := irq) ?_ takes rfc (by decide) ?_
    · rw [exec_readCal, execReadCal, State.on_eq, Chip.wakeFor_of_awake awake]
    · simp only [Chip.readCal, Chip.cmdAccept_arg, Nat.not_lt.mpr low, if_false, show ∀ g, (s.b.cmdAccept cbRFC irq).grp g = s.b.grp g from fun _ => rfl, some]
      rfl

/-- Settles O33. -/
theorem tonesAndWakeCalls : Obligations.TonesAndWakeCalls := by
  intro s irq
  have txp : cbTXP ∈ cbBases := by decide
  have far : cbTXP + 0x94 < 0x50000 ∨ 0x50040 ≤ cbTXP := by decide
  -- The chain's registers and the device's state are outside the command block.
  have accept (f : Fld) (hf : f.key < 0xC0004 * 32 ∨ 0xC0100 * 32 ≤ f.key) : (s.b.cmdAccept cbTXP irq).r f = s.b.r f :=
    Chip.cmdAccept_r _ _ _ _ (hf.imp id (le_trans (by decide)))
  have finish (c : Chip) (l : List Nat) (f : Fld) (hf : 0xC0100 * 32 ≤ f.key) : (c.cmdFinish cbTXP OK l).r f = c.r f :=
    Chip.cmdFinish_r _ _ _ _ _ (fun e => absurd (e ▸ hf) (by decide)) (.inr (.inl (le_trans (by decide) hf)))
  have chainReg (c : Nat) {f : Fld} {a : Nat} (hf : f.off = a + 0x40 * c) (lo : 0xC0100 ≤ a) : 0xC0100 * 32 ≤ f.key := by
    unfold Fld.key
    omega
  refine ⟨fun awake takes ready => ⟨?_, ?_, ?_⟩, fun id f call frame air => ?_, fun none => ?_, fun id call quiet => ?_⟩
  · rintro c hc low chain range some most test idle
    have isReady : (s.b.cmdAccept cbTXP irq).ready = true := (congrArg (· == 1) (accept _ (.inl (by decide)))).trans ready
    have isTest : (s.b.cmdAccept cbTXP irq).t (Reg.TXP_TEST c) = true := (congrArg (· == 1) (accept _ (.inr (chainReg c rfl (by decide))))).trans test
    have isIdle : (s.b.cmdAccept cbTXP irq).t (Reg.TXP_TONE_ON c) = false :=
      (congrArg (· == 1) (accept _ (.inr (chainReg c rfl (by decide))))).trans idle
    have on : 0xC0100 * 32 ≤ (Reg.TXP_TONE_ON c).key := chainReg c rfl (by decide)
    refine Runs.cmd (b := s.b) (f := fun c => c.tone) (irq := irq) (code := OK) (l := [s.b.stitch32])
      (c := (s.b.cmdAccept cbTXP irq).putTones c (kput s.b.tx.tones c ⟨s.b.nowNs, s.b.arg cbTXP 3, toS (s.b.arg cbTXP 1) 32, toS (s.b.arg cbTXP 2) 32⟩) 1) ?_ takes far (by decide) ?_ ?_
    · rw [exec_tone, execTone, State.on_eq, Chip.wakeFor_of_awake awake]
    · subst hc
      unfold Chip.tone
      simp only [Chip.cmdAccept_arg]
      rw [if_neg (fun h => h.2 chain), if_neg (by omega), if_neg (by omega), if_neg (by rw [isReady, isTest, isIdle]; decide)]
      rfl
    · rintro d rfl completed
      refine ⟨rfl, (finish _ _ _ on).trans (Chip.putTones_on _ _ _ (by decide)), completed, ?_, ?_⟩ <;> dsimp only <;> rw [Chip.putTones_finish]
      · exact kget_kput_same _ _ _
      · exact Chip.putTones_only _ _ _ _ _ _ _
  · rintro c tn hc low some
    have on : 0xC0100 * 32 ≤ (Reg.TXP_TONE_ON c).key := chainReg c rfl (by decide)
    refine Runs.cmd (b := s.b) (f := fun c => c.toneStop) (irq := irq) (code := OK) (l := [min tn.dur ((s.b.nowNs - tn.start) / 1000)])
      (c := (s.b.cmdAccept cbTXP irq).putTones c (kdel s.b.tx.tones c) 0) ?_ takes far (by decide) ?_ ?_
    · rw [exec_toneStop, execToneStop, State.on_eq, Chip.wakeFor_of_awake awake]
    · subst hc
      simp only [Chip.toneStop, Chip.cmdAccept_arg, Nat.not_lt.mpr low, if_false, Chip.cmdAccept_tx, some]
      rfl
    · rintro d rfl completed
      refine ⟨rfl, ?_, (finish _ _ _ on).trans (Chip.putTones_on _ _ _ (by decide)), completed, ?_⟩ <;> dsimp only <;> rw [Chip.putTones_finish]
      · exact kget_kdel_same _ _
      · exact Chip.putTones_only _ _ _ _ _ _ _
  · rintro lane start ahead at_ hl low chan both reps reps' len len' send rfl rfl hat late
    have isReady : (s.b.cmdAccept cbTXP irq).ready = true := (congrArg (· == 1) (accept _ (.inl (by decide)))).trans ready
    have reg {f : Fld} {a : Nat} (hf : f.off = a + 0x40 * laneGroup lane) (lo : 0xC0100 ≤ a) : (s.b.cmdAccept cbTXP irq).r f = s.b.r f :=
      accept f (.inr (chainReg _ hf lo))
    have rfc {f : Fld} {a : Nat} (hf : f.off = a + 0x40 * laneGroup lane) (hi : a < 0xB0000) (lo : Nat.ble (f.lo + 1) 32 = true) :
        (s.b.cmdAccept cbTXP irq).r f = s.b.r f := accept f (.inl (by
      have := laneGroup_lt lane
      have := Nat.le_of_ble_eq_true lo
      unfold Fld.key
      omega))
    have canSend : (s.b.cmdAccept cbTXP irq).canSend (laneGroup lane) = s.b.canSend (laneGroup lane) := by
      simp only [Chip.canSend, Chip.t]
      rw [reg (f := Reg.TXP_TX_EN _) rfl (by decide), reg (f := Reg.TXP_TEST _) rfl (by decide), rfc (f := Reg.RFC_MUTED _) rfl (by decide) rfl,
        rfc (f := Reg.RFC_CAL_FAILED _) rfl (by decide) rfl]
      rfl
    have call (t : Nat) : (s.b.cmdAccept cbTXP irq).callFrame t = s.b.callFrame t := by
      subst hl
      simp only [Chip.callFrame, Chip.callUs, Chip.cmdAccept_arg]
      rw [reg (f := Reg.TXP_WAKE_PRE _) rfl (by decide), reg (f := Reg.TXP_WAKE_RATE _) rfl (by decide)]
    have plans : (s.b.cmdAccept cbTXP irq).wakeCall = .inl ((s.b.cmdAccept cbTXP irq).callPlanned (s.b.callFrame (at_ * 250000))) := by
      rw [← call]
      refine Chip.wakeCall_plans (lane := lane) ?_ low ?_ ?_ ?_ ?_ ?_ ?_ isReady (canSend.trans send) ?_ late <;> simp only [Chip.cmdAccept_arg]
      · exact hl
      · exact chan
      · exact both
      · exact reps
      · exact reps'
      · exact len
      · exact len'
      · exact hat
    refine ⟨{ s with b := (s.b.cmdAccept cbTXP irq).callPlanned (s.b.callFrame (at_ * 250000)) }, ?_, ?_⟩
    · rw [exec_wakeCall, execWakeCall, State.on_eq, Chip.wakeFor_of_awake awake, Chip.command_takes irq _ takes, plans]
    · subst hl
      refine ⟨rfl, Chip.cmdAccept_busy s.b cbTXP irq, rfl, Chip.OnlyBlock.accept { s.b with tx := (s.b.callPlanned (s.b.callFrame (at_ * 250000))).tx } cbTXP irq, s.b.callFrame (at_ * 250000), ?_⟩
      exact ⟨kget_kput_same _ _ _, rfl, rfl, rfl, rfl, rfl, rfl, rfl, rfl, rfl, rfl, rfl, rfl⟩
  · have hc : f.chain < 4 := laneGroup_lt _
    have counted {x : Fld} {a : Nat} (hx : x.off = a + 0x40 * f.chain) (lo : 0xC1000 ≤ a) : ¬ carrierEnd x.key := by
      unfold carrierEnd offs Fld.key
      omega
    refine ⟨_, rfl, ?_⟩
    dsimp only
    have ends : s.b.wakeCallEnd = s.b.callEnd id f := by simp only [Chip.wakeCallEnd, call, frame, if_pos air]
    rw [ends]
    obtain ⟨c, counts, rest, ends⟩ := Chip.callEnd_counts s.b id f
    obtain ⟨x, tx⟩ := c.txIdle_tx f.chain
    rw [ends]
    refine ⟨rfl, ?_, ?_, Chip.cmdFinish_completed _ _ _ _ far (by decide), ?_, ?_⟩
    · rw [Chip.cmdFinish_tx, tx, counts]
    · rw [Chip.tf, Chip.cmdFinish_tx, tx, counts]
      exact kget_kdel_same _ _
    · exact (finish _ _ _ (by simp only [Fld.key, Reg.TXP_FRAMES_OK]; omega)).trans (((c.txIdle_only hc).2 _ (counted rfl (by decide))).trans rest.1)
    · exact (finish _ _ _ (by simp only [Fld.key, Reg.TXP_AIRTIME_US]; omega)).trans (((c.txIdle_only hc).2 _ (counted rfl (by decide))).trans rest.2)
  · rw [exec_wakeCallEnd, execWakeCallEnd, State.on_eq, Chip.wakeCallEnd, none]
  · rw [exec_wakeCallEnd, execWakeCallEnd, State.on_eq, Chip.wakeCallEnd, call]
    dsimp only
    cases frame : s.b.tf id with
    | none => rfl
    | some f => simp only [if_neg (quiet f frame)]
end

section
/-!
SUPPORT. What the shared operations of the queues, the scheduler and the demodulator pool touch (R216, R230, R231, R411 to R434).
-/
namespace Sys2Proof.Machine

/-! ### Queues -/

/-- The keys of the registers from an offset on. -/
abbrev from_ (lo k : Nat) : Prop := lo * 32 ≤ k

theorem from_row {f : Fld} {o k lo : Nat} (hf : f.off = o + k) (ho : lo ≤ o) : from_ lo f.key := by
  unfold from_ Fld.key
  omega

theorem Chip.marks_only (b : Chip) (n : Nat) (old new : Queue) : Chip.Only [] (from_ 0x1C0100) b (b.marks n old new) := by
  unfold Chip.marks Chip.bitmap
  extract_lets w i b1 b2 b3
  have h1 : Chip.Only [] (from_ 0x1C0100) b b1 := .ite ((Chip.Only.rfl' b _ _).w _ _ (from_row rfl (by decide))) (.rfl' b _ _)
  have h2 : Chip.Only [] (from_ 0x1C0100) b b2 := .ite (h1.w _ _ (from_row rfl (by decide))) h1
  have h3 : Chip.Only [] (from_ 0x1C0100) b b3 := .ite (h2.w _ _ (from_row rfl (by decide))) h2
  exact .ite (h3.w _ _ (from_row rfl (by decide))) h3

theorem Chip.putQ_only (b : Chip) (n : Nat) (q : Queue) : Chip.Only [.queues] (from_ 0x1C0100) b (b.putQ n q) := by
  unfold Chip.putQ
  extract_lets old bitSet new g b1 b2 b3 b4 b5
  have h1 : Chip.Only [.queues] (from_ 0x1C0100) b b1 := (Chip.Only.rfl' b _ _).putQueues (by decide) _
  have h2 : Chip.Only [.queues] (from_ 0x1C0100) b b2 := h1.w _ _ (from_row rfl (by decide))
  have h3 : Chip.Only [.queues] (from_ 0x1C0100) b b3 := h2.w _ _ (by decide)
  have h4 : Chip.Only [.queues] (from_ 0x1C0100) b b4 := h3.w _ _ (by decide)
  have h5 : Chip.Only [.queues] (from_ 0x1C0100) b b5 := .ite (h4.w _ _ (by decide)) h4
  exact h5.trans ((b5.marks_only n old new).mono (by decide) fun _ h => h)

theorem Chip.Only.inc {b c : Chip} {ps : List Part} {rs : Nat → Prop} (h : Chip.Only ps rs b c) (f : Fld) (hf : rs f.key) :
    Chip.Only ps rs b (c.inc f) := h.w f _ hf

theorem Chip.releaseItem_only (b : Chip) (n id : Nat) : Chip.Only [.queues] (from_ 0x1C0100) b (b.releaseItem n id) := by
  unfold Chip.releaseItem
  split
  · exact .rfl' b _ _
  · exact (b.putQ_only n _).inc _ (by decide)

theorem Chip.returnItem_only (b : Chip) (n id : Nat) : Chip.Only [.queues] (from_ 0x1C0100) b (b.returnItem n id) := by
  unfold Chip.returnItem
  split
  · exact .ite ((b.putQ_only n _).inc _ (by decide)) (.rfl' b _ _)
  · exact .rfl' b _ _

theorem Chip.dropRest_only (b : Chip) (n id : Nat) : Chip.Only [.queues] (from_ 0x1C0100) b (b.dropRest n id) := by
  unfold Chip.dropRest
  split
  · exact .rfl' b _ _
  · refine .inc (.trans (.ite ?_ (.rfl' b _ _)) (Chip.releaseItem_only _ n id)) _ (by decide)
    exact (Chip.Only.rfl' b _ _).inc _ (by decide)

theorem Chip.closeItem_only (b : Chip) (n id : Nat) (aborted : Bool) : Chip.Only [.queues] (from_ 0x1C0100) b (b.closeItem n id aborted) := by
  unfold Chip.closeItem
  dsimp only
  split
  · exact .rfl' b _ _
  · exact .ite (.rfl' b _ _) (b.putQ_only n _)

theorem Chip.writeItem_only (b : Chip) (n id : Nat) (l : List Nat) : Chip.Only [.queues] (from_ 0x1C0100) b (b.writeItem n id l) := by
  unfold Chip.writeItem
  dsimp only
  split
  · exact .rfl' b _ _
  · exact .ite (.rfl' b _ _) (.ite (b.putQ_only n _) (((b.putQ_only n _).trans (Chip.closeItem_only _ n id true)).inc _ (by decide)))

theorem Chip.openItem_only (b : Chip) (n size prio node : Nat) (front : Bool) :
    Chip.Only [.queues, .nextItem] (from_ 0x1C0100) b (b.openItem n size prio node front).b := by
  have kept := Chip.Only.rfl' b [.queues, .nextItem] (from_ 0x1C0100)
  unfold Chip.openItem
  dsimp only
  split
  · exact kept.inc _ (by decide)
  · split
    · split
      · exact kept.inc _ (by decide)
      · exact (kept.inc _ (by decide)).inc _ (from_row rfl (by decide))
    · exact ((kept.putNextItem (by decide) (b.nextItem + 1)).trans ((Chip.putQ_only _ n _).mono (by decide) fun _ h => h)).inc _ (by decide)

theorem Chip.pushItem_only (b : Chip) (n : Nat) (data : List Nat) (prio node : Nat) (front : Bool) :
    Chip.Only [.queues, .nextItem] (from_ 0x1C0100) b (b.pushItem n data prio node front).b := by
  have opened := b.openItem_only n data.length prio node front
  unfold Chip.pushItem
  dsimp only
  split
  · exact opened
  · exact (opened.trans ((Chip.writeItem_only _ n _ data).mono (by decide) fun _ h => h)).trans
      ((Chip.closeItem_only _ n _ false).mono (by decide) fun _ h => h)

theorem Chip.note_only (b : Chip) (k n : Nat) (rs : Nat → Prop) : Chip.Only [.acc] rs b (b.note k n) := (Chip.Only.rfl' b _ _).putAcc (by decide) _

/-! ### The scheduler -/

theorem Chip.putChild_only (b : Chip) (k : Nat) (c : Child) : Chip.Only [.tmg] noReg b (b.putChild k c) :=
  (Chip.Only.rfl' b _ _).putTmg (by decide) _

theorem Chip.childFresh_only (b : Chip) (m k : Nat) : Chip.Only [.tmg] noReg b (b.childFresh m k) := by
  have put (x : Tmg) (c : Child) : Chip.Only [.tmg] noReg b (Chip.putChild { b with tmg := x } k c) :=
    ((Chip.Only.rfl' b _ _).putTmg (by decide) x).trans (Chip.putChild_only _ k c)
  exact .ite (.ite (.rfl' b _ _) (put _ _)) (.ite (put _ _) (.rfl' b _ _))

theorem Chip.stage'_only (b : Chip) (m fuel : Nat) : Chip.Only [.tmg] noReg b (b.stage' m fuel) := by
  induction fuel generalizing b with
  | zero => exact .rfl' b _ _
  | succ f ih =>
    rw [Chip.stage']
    split
    · exact .rfl' b _ _
    · split
      · exact (b.childFresh_only m _).trans (ih _)
      · extract_lets c c1 b1
        have h1 : Chip.Only [.tmg] noReg b b1 := b.putChild_only _ _
        split
        · exact h1
        · split
          · exact h1.putTmg (by decide) _
          · exact (h1.putTmg (by decide) _).trans (ih _)

theorem Chip.restage_only (b : Chip) (m : Nat) : Chip.Only [.tmg] noReg b (b.restage m) := by
  unfold Chip.restage
  have h1 : Chip.Only [.tmg] noReg b (if b.stagedOk m then b else { b with tmg := { b.tmg with staged := kdel b.tmg.staged m } }) :=
    .ite (.rfl' b _ _) ((Chip.Only.rfl' b _ _).putTmg (by decide) _)
  dsimp only
  split
  · exact h1
  · exact h1.trans (Chip.stage'_only _ m _)

theorem Chip.up_only (b : Chip) (k fuel : Nat) : Chip.Only [.tmg] noReg b (b.up k fuel) := by
  induction fuel generalizing b k with
  | zero => exact .rfl' b _ _
  | succ f ih => exact .ite (.rfl' b _ _) (((b.childFresh_only _ k).trans (Chip.restage_only _ _)).trans (ih _ _))

theorem Chip.gateHold_only (b : Chip) (q : Nat) : Chip.Only [.tmg] (from_ 0x1C0100) b (b.gateHold q) := by
  have put (x : Tmg) : Chip.Only [.tmg] (from_ 0x1C0100) b { b with tmg := x } := (Chip.Only.rfl' b _ _).putTmg (by decide) x
  unfold Chip.gateHold
  split
  · exact put _
  · exact .ite (put _) (.ite (.rfl' b _ _) ((put _).inc _ (from_row rfl (by decide))))

theorem Chip.tooLong_only (b : Chip) (q fuel : Nat) : Chip.Only [.queues, .tmg, .acc] (from_ 0x1C0100) b (b.tooLong q fuel) := by
  induction fuel generalizing b with
  | zero => exact .rfl' b _ _
  | succ f ih =>
    rw [Chip.tooLong]
    split
    · exact .rfl' b _ _
    · extract_lets p k w b1 first
      have h1 : Chip.Only [.queues, .tmg, .acc] (from_ 0x1C0100) b b1 :=
        (((b.dropRest_only q _).mono (by decide) fun _ h => h).inc _ (from_row rfl (by decide))).trans
          ((Chip.note_only _ _ _ _).mono (by decide) fun _ h => h)
      split
      · exact .rfl' b _ _
      · exact (h1.putTmg (by decide) _).trans (ih _)

theorem Chip.tmgQ_only (b : Chip) (q : Nat) : Chip.Only [.queues, .tmg, .acc] (from_ 0x1C0100) b (b.tmgQ q) :=
  .ite (.rfl' b _ _) (((b.tooLong_only q _).trans ((Chip.gateHold_only _ q).mono (by decide) fun _ h => h)).trans
    ((Chip.up_only _ q 6).mono (by decide) fun _ h => h.elim))

theorem Chip.tmgPort_only (b : Chip) (p : Nat) : Chip.Only [.queues, .tmg, .acc] (from_ 0x1C0100) b (b.tmgPort p) :=
  (Chip.Only.rfl' b _ _).foldl _ fun d q _ => .ite (d.tmgQ_only q) (.rfl' d _ _)

/-! ### The demodulator pool -/

/-- The keys of the counts of receptions in flight. -/
def activeKey (k : Nat) : Prop := ∃ g ∈ activeFlds, k = g.key

theorem activeKey_lane {l : Nat} (h : l < 7) : activeKey (Reg.RXP_ACTIVE l).key ∧ activeKey (Reg.RXP_HOLD l).key := by
  refine ⟨⟨Reg.RXP_ACTIVE l, ?_, rfl⟩, ⟨Reg.RXP_HOLD l, ?_, rfl⟩⟩ <;> simp only [activeFlds, List.mem_append, List.mem_map, List.mem_range]
  · exact .inl (.inl ⟨l, h, rfl⟩)
  · exact .inl (.inr ⟨l, h, rfl⟩)

theorem activeKey_rxp {k : Nat} (h : activeKey k) : 0xA0100 * 32 ≤ k ∧ k < 0xA1000 * 32 := by
  have all : ∀ g ∈ activeFlds, 0xA0100 * 32 ≤ g.key ∧ g.key < 0xA1000 * 32 := by decide
  obtain ⟨g, hg, rfl⟩ := h
  exact all g hg

theorem Chip.rxCounts_only (b : Chip) : Chip.Only [] activeKey b b.rxCounts := by
  unfold Chip.rxCounts
  extract_lets n b1 b2 all b3
  have h1 : Chip.Only [] activeKey b b1 := (Chip.Only.rfl' b _ _).foldl _ fun c l hl =>
    ((Chip.Only.rfl' c _ _).w _ _ (activeKey_lane (List.mem_range.mp hl)).1).w _ _ (activeKey_lane (List.mem_range.mp hl)).2
  have h2 : Chip.Only [] activeKey b b2 := ((h1.w _ _ ⟨_, by decide, rfl⟩).w _ _ ⟨_, by decide, rfl⟩).w _ _ ⟨_, by decide, rfl⟩
  have h3 : Chip.Only [] activeKey b b3 := h2.w _ _ ⟨_, by decide, rfl⟩
  exact .ite (h3.w _ _ ⟨_, by decide, rfl⟩) h3

theorem Chip.rxCounts_rx (b : Chip) : b.rxCounts.rx = b.rx := b.rxCounts_only.rx (by decide)

theorem Chip.freeCtx_only (b : Chip) (i : Nat) : Chip.Only [.rx] activeKey b (b.freeCtx i) :=
  ((Chip.Only.rfl' b [.rx] activeKey).putRx (by decide) _).trans ((Chip.rxCounts_only _).mono (by decide) fun _ h => h)

/-- The counter of an end cause is among a lane's. -/
theorem causeFld_key (cause l : Nat) : from_ 0xA1000 (causeFld cause l).key := by
  unfold causeFld
  split <;> exact from_row rfl (by decide)

/-- The keys that the end of a reception may touch: the counts of receptions in flight, and those of the lanes, of QMG and of TMG. -/
def rxEndKey (k : Nat) : Prop := activeKey k ∨ from_ 0xA1000 k

theorem rxEndKey_from {k : Nat} (h : rxEndKey k) : from_ 0xA0000 k := by
  rcases h with h | h
  · exact le_trans (by decide) (activeKey_rxp h).1
  · exact le_trans (by decide) h

theorem Chip.endWith_only (b : Chip) (i cause : Nat) (y : RxFigures) :
    Chip.Only [.rx, .queues, .tmg, .acc] rxEndKey b (b.endWith i cause y) := by
  unfold Chip.endWith
  split
  · exact .rfl' b _ _
  · rename_i x _
    extract_lets b1 b2
    have low : ∀ k, from_ 0x1C0100 k → rxEndKey k := fun k h => .inr (le_trans (by decide) h)
    have h1 : Chip.Only [.rx, .queues, .tmg, .acc] rxEndKey b b1 :=
      (Chip.Only.rfl' b _ _).inc _ (.inr (causeFld_key cause x.lane))
    have h2 : Chip.Only [.rx, .queues, .tmg, .acc] rxEndKey b b2 := by
      refine h1.trans ?_
      unfold b2
      split
      · exact .rfl' b1 _ _
      · exact ((((b1.writeItem_only _ _ _).trans (Chip.closeItem_only _ _ _ false)).trans (Chip.dropRest_only _ _ _)).mono (by decide) low).trans
          ((Chip.tmgQ_only _ _).mono (by decide) low)
    exact h2.trans ((b2.freeCtx_only i).mono (by decide) fun k h => .inl h)

/-- The end of a reception with no item. -/
theorem Chip.endWith_bare {b : Chip} {i cause : Nat} {x : Ctx} (y : RxFigures) (hx : kget b.rx.ctxs i = some x) (bare : x.item = none) :
    b.endWith i cause y = (b.inc (causeFld cause x.lane)).freeCtx i := by
  unfold Chip.endWith
  simp only [hx, bare]

theorem Chip.endRx_only (b : Chip) (i cause : Nat) : Chip.Only [.rx, .queues, .tmg, .acc, .freeCtr] rxEndKey b (b.endRx i cause) := by
  unfold Chip.endRx
  split
  · exact .rfl' b _ _
  · split
    · exact (b.endWith_only i cause _).mono (by decide) fun _ h => h
    · refine .trans ?_ ((Chip.endWith_only _ i cause _).mono (by decide) fun _ h => h)
      exact (Chip.Only.rfl' b _ _).putFreeCtr (by decide) (b.freeCtr + 1 + 1 + 1)

theorem Chip.endLane_only (b : Chip) (l cause : Nat) : Chip.Only [.rx, .queues, .tmg, .acc, .freeCtr] rxEndKey b (b.endLane l cause) :=
  (Chip.Only.rfl' b _ _).foldl _ fun c _ _ => c.endRx_only _ cause

theorem Chip.endGroup_only (b : Chip) (g cause : Nat) : Chip.Only [.rx, .queues, .tmg, .acc, .freeCtr] rxEndKey b (b.endGroup g cause) :=
  (Chip.Only.rfl' b _ _).foldl _ fun c l _ => c.endLane_only l cause

/-! ### A group's states (R168 to R181) -/

/-- What a group works towards follows from the Pattern, the update's pause and the device's state alone. -/
theorem Chip.Only.rfTarget {b c : Chip} {ps : List Part} {rs : Nat → Prop} (h : Chip.Only ps rs b c) (pat : Part.pat ∉ ps) (upd : Part.upd ∉ ps)
    (state : ¬ rs Reg.GLB_STATE.key) (limp : ¬ rs Reg.CKR_LIMP.key) (pstate : ¬ rs Reg.PWR_PSTATE.key) (g : Nat) :
    c.rfTarget g = b.rfTarget g := by
  have lane : c.laneExists = b.laneExists := funext fun l => by rw [Chip.laneExists, Chip.laneExists, h.pat pat]
  have present : c.groupPresent g = b.groupPresent g := by rw [Chip.groupPresent, Chip.groupPresent, lane, Chip.chainExists, Chip.chainExists, h.pat pat]
  rw [Chip.rfTarget, Chip.rfTarget, present, Chip.ready, Chip.ready, Chip.limp, Chip.limp, h.t _ limp, h.2 _ state, h.2 _ pstate, h.upd upd]

theorem Chip.chainTx_nil {b : Chip} (h : b.tx.frames = []) (g : Nat) : b.chainTx g = [] := by rw [Chip.chainTx, h, List.filter_nil]

theorem Chip.judgeAll_nil {b : Chip} (h : b.tx.frames = []) (g : Nat) : b.judgeAll g = b := by
  rw [Chip.judgeAll, Chip.chainTx_nil h]
  rfl

/-- Of a device's registers none of a group's. -/
theorem rfcGrp_other {g k : Nat} (hg : g < 4) (h : rfcGrp g k) : offs 0x80100 0x80200 k := by
  unfold rfcGrp at h
  omega

end Sys2Proof.Machine
end

section
/-!
SUPPORT. Locks and calibrations of a radio group (R169, R170, R179, R181).
-/
namespace Sys2Proof.Machine

/-! ### Registers of a list, of the notice block and of the Seam -/

/-- The keys of a list's registers, of the notice block's and of the Seam's. -/
def among (l : List Fld) (k : Nat) : Prop := (∃ g ∈ l, k = g.key) ∨ offs 0x50000 0x60000 k ∨ offs 0x220000 0x230000 k

theorem among_mem {l : List Fld} {f : Fld} (h : f ∈ l) : among l f.key := .inl ⟨f, h, rfl⟩

theorem Chip.Only.regs {b b0 c : Chip} {ps : List Part} {l : List Fld} (h : Chip.Only ps (among l) b c)
    (parts : b.with (.ntc :: .sea :: .out :: ps) c = { b0 with regs := c.regs, ntc := c.ntc, sea := c.sea, out := c.out })
    (regs : ∀ f, b0.r f = b.r f) : Chip.OnlyRegs b0 c l := h.onlyRegs parts regs fun _ => id

theorem Chip.Only.raise {b c : Chip} {ps : List Part} {l : List Fld} (h : Chip.Only ps (among l) b c) (src code arg : Nat)
    (sub : [Part.ntc, .out] ⊆ ps) : Chip.Only ps (among l) b (c.raise src code arg) :=
  h.trans ((c.raise_only src code arg).mono sub fun _ h => .inr (.inl h))

/-! ### States of a group -/

theorem rfGo_key {g k : Nat} (hg : g < 4) (h : k = (Reg.RFC_STATE g).key) : offs 0x80100 0x80200 k := by
  subst h
  simp only [Fld.key, Reg.RFC_STATE]
  omega

/-- Entering a state keeps the stored calibration. -/
theorem Chip.rfGo_cal (b : Chip) (g st : Nat) : ((b.rfGo g st).grp g).cal = (b.grp g).cal ∧ ((b.rfGo g st).grp g).valid = (b.grp g).valid := by
  rw [Chip.rfGo, Chip.modGrp_grp]
  exact ⟨rfl, rfl⟩

theorem Chip.rfGo_target (b : Chip) (g st : Nat) {g' : Nat} (hg : g < 4) : (b.rfGo g st).rfTarget g' = b.rfTarget g' := by
  have out {f : Fld} (h : ¬ offs 0x80100 0x80200 f.key) : ¬ f.key = (Reg.RFC_STATE g).key := fun e => h (rfGo_key hg e)
  exact (b.rfGo_only g st).rfTarget (by decide) (by decide) (out (by decide)) (out (by decide)) (out (by decide)) g'

/-- A group with its synthesiser locked, where the power state asks for RX. -/
theorem Chip.synth_rx {b : Chip} {g : Nat} (hg : g < 4) (want : b.rfTarget g = RFS.RX) :
    (b.rfGo g RFS.SYNTH).fromSynth g = (b.rfGo g RFS.SYNTH).rfGo g RFS.RX := by
  rw [Chip.fromSynth, b.rfGo_target g RFS.SYNTH hg, want]
  rfl

theorem Chip.synth_stays {b : Chip} {g : Nat} (hg : g < 4) (want : b.rfTarget g = RFS.SYNTH) :
    (b.rfGo g RFS.SYNTH).fromSynth g = b.rfGo g RFS.SYNTH := by
  rw [Chip.fromSynth, b.rfGo_target g RFS.SYNTH hg, want]
  rfl

/-- What a group records of a calibration that starts. -/
def Chip.calBegun (b : Chip) (g trigger : Nat) (x : Rf) : Rf :=
  { x with failed1 := false, trigger := trigger, forced := b.t (Reg.RFC_CAL_FORCED g), waited := b.r (Reg.RFC_CAL_WAIT g), pendTemp := false,
           pendCmd := false, femHold := false, femEarly := false }

/-- A calibration starts where no frame is planned. -/
theorem Chip.calEnter_eq {b : Chip} (silent : b.tx.frames = []) (g trigger : Nat) :
    b.calEnter g trigger = (((((b.endGroup g CAUSE.CAL).rfGo g RFS.CAL).wb (Reg.RFC_CAL_PENDING g) false).wb (Reg.RFC_CAL_FORCED g) false).w
      (Reg.RFC_CAL_WAIT g) 0).modGrp g (b.calBegun g trigger) := by
  have quiet : (b.endGroup g CAUSE.CAL).tx.frames = [] := by rw [(b.endGroup_only g CAUSE.CAL).tx (by decide), silent]
  unfold Chip.calEnter
  extract_lets forced waited b1 b2 b3 b4
  have h2 : b2 = b1 := by
    unfold b2
    rw [Chip.chainTx_nil quiet]
    rfl
  rw [Chip.judgeAll_nil (show b4.tx.frames = [] by unfold b4 b3; rw [h2]; exact quiet)]
  unfold b4 b3
  rw [h2]
  rfl

/-- Nothing of a group but STATE, CAL_PENDING, CAL_FORCED and CAL_WAIT changes. -/
theorem Chip.calEnter_shows {b : Chip} {g : Nat} (silent : b.tx.frames = []) (hg : g < 4) (trigger : Nat) :
    (b.calEnter g trigger).rfs g = RFS.CAL ∧ ((b.calEnter g trigger).grp g).trigger = trigger ∧
      (b.calEnter g trigger).r (Reg.RFC_LOCK_FAIL_CNT g) = b.r (Reg.RFC_LOCK_FAIL_CNT g) := by
  have state : (Reg.RFC_STATE g).key ≠ (Reg.RFC_LOCK_FAIL_CNT g).key := Fld.key_ne_row rfl rfl rfl rfl rfl
  have pending : (Reg.RFC_CAL_PENDING g).key ≠ (Reg.RFC_LOCK_FAIL_CNT g).key := Fld.key_ne_row rfl rfl rfl rfl rfl
  have forced : (Reg.RFC_CAL_FORCED g).key ≠ (Reg.RFC_LOCK_FAIL_CNT g).key := Fld.key_ne_row rfl rfl rfl rfl rfl
  have wait : (Reg.RFC_CAL_WAIT g).key ≠ (Reg.RFC_LOCK_FAIL_CNT g).key := Fld.key_ne_row rfl rfl rfl rfl rfl
  have pending' : (Reg.RFC_CAL_PENDING g).key ≠ (Reg.RFC_STATE g).key := Fld.key_ne_row rfl rfl rfl rfl rfl
  have forced' : (Reg.RFC_CAL_FORCED g).key ≠ (Reg.RFC_STATE g).key := Fld.key_ne_row rfl rfl rfl rfl rfl
  have wait' : (Reg.RFC_CAL_WAIT g).key ≠ (Reg.RFC_STATE g).key := Fld.key_ne_row rfl rfl rfl rfl rfl
  rw [Chip.calEnter_eq silent]
  refine ⟨?_, ?_, ?_⟩
  · rw [Chip.rfs, Chip.modGrp_r, Chip.r_w_ne _ _ _ _ wait', Chip.wb_eq, Chip.r_w_ne _ _ _ _ forced', Chip.wb_eq, Chip.r_w_ne _ _ _ _ pending']
    exact Chip.rfGo_rfs _ g (by decide)
  · rw [Chip.modGrp_grp]
    rfl
  · rw [Chip.modGrp_r, Chip.r_w_ne _ _ _ _ wait, Chip.wb_eq, Chip.r_w_ne _ _ _ _ forced, Chip.wb_eq, Chip.r_w_ne _ _ _ _ pending]
    refine ((Chip.rfGo_only _ g _).2 _ fun e => state e.symm).trans ((b.endGroup_only g _).2 _ fun h => ?_)
    have := rxEndKey_from h
    simp only [from_, Fld.key, Reg.RFC_LOCK_FAIL_CNT] at this
    omega

/-- A calibration that completes, before the group goes on to RX: its results stand, it is counted, and CAL_FAILED is clear. -/
theorem Chip.calComplete_eq (b : Chip) {g : Nat} (hg : g < 4) (cal : b.rfs g = RFS.CAL) (want : b.rfTarget g = RFS.RX) (m : CalMeas) : ∃ c : Chip,
    (c.grp g).cal = some { tj := m.tj, stitch := b.stitch32, vco := m.vco, gain := m.gain, frac := m.frac, dc := m.dc, status := OK } ∧
    (c.grp g).valid = true ∧
    c.r (Reg.RFC_CAL_CNT g) = satAdd (Reg.RFC_CAL_CNT g).w (b.r (Reg.RFC_CAL_CNT g)) 1 ∧ c.r (Reg.RFC_CAL_FAILED g) = 0 ∧
    Chip.Only [.rf, .ntc, .out] (among [Reg.RFC_STATE g, Reg.RFC_CAL_CNT g, Reg.RFC_TJ g, Reg.RFC_CAL_FAILED g]) b c ∧
    b.calComplete g m = (c.rfGo g RFS.SYNTH).rfGo g RFS.RX := by
  have temp : (Reg.RFC_TJ g).key ≠ (Reg.RFC_CAL_CNT g).key := Fld.key_ne_row rfl rfl rfl rfl rfl
  have failed : (Reg.RFC_CAL_FAILED g).key ≠ (Reg.RFC_CAL_CNT g).key := Fld.key_ne_row rfl rfl rfl rfl rfl
  rw [Chip.calComplete, if_neg (not_not.mpr cal)]
  extract_lets r b1 b2
  have h1 : Chip.Only [.rf, .ntc, .out] (among [Reg.RFC_STATE g, Reg.RFC_CAL_CNT g, Reg.RFC_TJ g, Reg.RFC_CAL_FAILED g]) b b1 :=
    ((Chip.Only.rfl' b _ _).inc _ (among_mem (by simp))).putRf (by decide) _
  have h2 := ((h1.w (Reg.RFC_TJ g) (ofS m.tj 8) (among_mem (by simp))).w (Reg.RFC_CAL_FAILED g) 0 (among_mem (by simp))).raise Src.RFC N.CAL_DONE
    (argB g OK (((b1.ws (Reg.RFC_TJ g) m.tj).wb (Reg.RFC_CAL_FAILED g) false).grp g).trigger
      (b2n (((b1.ws (Reg.RFC_TJ g) m.tj).wb (Reg.RFC_CAL_FAILED g) false).grp g).forced)
      ((((b1.ws (Reg.RFC_TJ g) m.tj).wb (Reg.RFC_CAL_FAILED g) false).grp g).waited % 65536 + ofS m.tj 8 * 65536)) (by decide)
  have quiet {f : Fld} {a : Nat} (hf : f.off = a + 0x40 * g) (lo : 0x80000 ≤ a) :
      b2.r f = ((b1.ws (Reg.RFC_TJ g) m.tj).wb (Reg.RFC_CAL_FAILED g) false).r f :=
    Chip.raise_r _ _ _ _ _ (.inr (from_row hf (le_trans (by decide) lo)))
  have same : b2.grp g = b1.grp g := congrArg (fun x : KV Rf => kgetD x g {}) (Chip.raise_rf _ _ _ _)
  refine ⟨b2, ?_, ?_, ?_, ?_, h2, Chip.synth_rx hg ?_⟩
  · exact congrArg Rf.cal (same.trans (Chip.modGrp_grp _ _ _))
  · exact congrArg Rf.valid (same.trans (Chip.modGrp_grp _ _ _))
  · rw [quiet rfl (by decide), Chip.wb_eq, Chip.r_w_ne _ _ _ _ failed, Chip.ws, Chip.r_w_ne _ _ _ _ temp]
    exact (Chip.r_w_same _ _ _).trans (satAdd_mod 32 _ 1)
  · rw [quiet rfl (by decide)]
    exact Chip.r_w_same _ _ _
  · have out {f : Fld} (h : f.key < 0x50000 * 32 ∨ 0x240000 * 32 ≤ f.key) :
        ¬ among [Reg.RFC_STATE g, Reg.RFC_CAL_CNT g, Reg.RFC_TJ g, Reg.RFC_CAL_FAILED g] f.key := by
      simp only [among, List.mem_cons, List.not_mem_nil, or_false, exists_eq_or_imp, exists_eq_left, offs]
      simp only [show ∀ f : Fld, f.key = f.off * 32 + f.lo from fun _ => rfl] at h ⊢
      simp only [Reg.RFC_STATE, Reg.RFC_CAL_CNT, Reg.RFC_TJ, Reg.RFC_CAL_FAILED]
      omega
    exact (h2.rfTarget (by decide) (by decide) (out (by decide)) (out (by decide)) (out (by decide)) g).trans want

theorem Chip.foldTx_nil {b : Chip} (silent : b.tx.frames = []) (g : Nat) (p : Nat × TxF → Bool) (f : Chip → Nat × TxF → Chip) :
    ((b.chainTx g).filter p).foldl f b = b := by
  rw [Chip.chainTx_nil silent]
  rfl

/-- A run that fails, where no frame is planned: it is counted; a first one is kept, and after a second the group is in STANDBY with
CAL_FAILED. -/
theorem Chip.calFail_eq (b : Chip) {g : Nat} (cal : b.rfs g = RFS.CAL) (silent : b.tx.frames = []) (tj : Int) : ∃ c : Chip,
    c.grp g = b.grp g ∧ c.tx.frames = [] ∧ c.r (Reg.RFC_CAL_CNT g) = satAdd (Reg.RFC_CAL_CNT g).w (b.r (Reg.RFC_CAL_CNT g)) 1 ∧
    Chip.Only [.rf, .ntc, .out] (among [Reg.RFC_CAL_CNT g]) b c ∧
    ((b.grp g).failed1 = false → b.calFail g tj = c.modGrp g (fun x => { x with failed1 := true, entry := b.nowNs })) ∧
    ((b.grp g).failed1 = true → ∃ f : Rf → Rf, (∀ x, (f x).valid = false) ∧
      b.calFail g tj = (((({ c with freeCtr := c.freeCtr + 2 } : Chip).rfGo g RFS.STANDBY).w (Reg.RFC_CAL_FAILED g) 1).modGrp g f)) := by
  have same : ((b.inc (Reg.RFC_CAL_CNT g)).calDone g ABORTED tj).grp g = b.grp g := congrArg (fun x : KV Rf => kgetD x g {}) (Chip.raise_rf _ _ _ _)
  have quiet : ((b.inc (Reg.RFC_CAL_CNT g)).calDone g ABORTED tj).tx.frames = [] := by
    rw [Chip.calDone, Chip.raise_tx]
    exact silent
  generalize hc : (b.inc (Reg.RFC_CAL_CNT g)).calDone g ABORTED tj = c at same quiet
  refine ⟨c, same, quiet, ?_, ?_, fun first => ?_, fun second => ?_⟩
  · rw [← hc]
    exact (Chip.raise_r _ _ _ _ _ (.inr (from_row rfl (by decide)))).trans ((Chip.r_w_same _ _ _).trans (satAdd_mod 32 _ 1))
  · rw [← hc]
    exact ((Chip.Only.rfl' b _ _).inc _ (among_mem (by simp))).raise _ _ _ (by decide)
  · rw [Chip.calFail, if_neg (not_not.mpr cal), hc]
    dsimp only
    rw [if_pos (by rw [same, first]; rfl)]
    exact Chip.judgeAll_nil (b := Chip.modGrp _ g _) quiet g
  · refine ⟨fun x => { x with cal := some { tj := tj, stitch := b.stitch32, vco := (c.free 32).1, gain := ((c.free 32).2.free 32).1, status := ABORTED },
                              valid := false }, fun _ => rfl, ?_⟩
    rw [Chip.calFail, if_neg (not_not.mpr cal), hc]
    dsimp only
    rw [if_neg (by rw [same, second]; decide)]
    exact Chip.foldTx_nil (b := Chip.modGrp (Chip.w (Chip.rfGo { c with freeCtr := c.freeCtr + 2 } g RFS.STANDBY) (Reg.RFC_CAL_FAILED g) 1) g _) quiet g _ _

end Sys2Proof.Machine

open Sys2Proof Sys2Proof.Machine

/-- Settles O27. -/
theorem radioGroupsMove : Obligations.RadioGroupsMove := by
  intro s g hg
  have state : (Reg.RFC_STATE g).key ≠ (Reg.RFC_CAL_CNT g).key := Fld.key_ne_row rfl rfl rfl rfl rfl
  have failed : (Reg.RFC_CAL_FAILED g).key ≠ (Reg.RFC_CAL_CNT g).key := Fld.key_ne_row rfl rfl rfl rfl rfl
  have state' : (Reg.RFC_STATE g).key ≠ (Reg.RFC_CAL_FAILED g).key := Fld.key_ne_row rfl rfl rfl rfl rfl
  refine ⟨fun lock => ⟨fun want => ?_, fun want => ?_, fun silent => ?_⟩, fun no => ⟨?_, ?_⟩, fun cal => ⟨fun m want => ?_, fun tj silent first => ?_, fun tj silent second => ?_⟩,
    fun no => ⟨fun m => ?_, fun tj => ?_⟩⟩
  · refine ⟨_, rfl, ?_⟩
    dsimp only
    rw [Chip.lockDetected, if_pos lock, Chip.synth_rx hg want]
    refine ⟨rfl, Chip.rfGo_rfs _ g (by decide), ?_⟩
    exact ((s.b.rfGo_only g _).trans (Chip.rfGo_only _ g _)).onlyRegs rfl (fun _ => rfl) fun k h => .inl ⟨_, List.mem_singleton.mpr rfl, h⟩
  · refine ⟨_, rfl, ?_⟩
    dsimp only
    rw [Chip.lockDetected, if_pos lock, Chip.synth_stays hg want]
    exact ⟨rfl, Chip.rfGo_rfs _ g (by decide), (s.b.rfGo_only g _).onlyRegs rfl (fun _ => rfl) fun k h => .inl ⟨_, List.mem_singleton.mpr rfl, h⟩⟩
  · refine ⟨_, rfl, ?_⟩
    dsimp only
    rw [Chip.lockTimeout, if_pos lock]
    have quiet : ((s.b.inc (Reg.RFC_LOCK_FAIL_CNT g)).raise Src.RFC N.LOCK_FAIL (argB g (s.b.grp g).prev 0 0 0)).tx.frames = [] := by
      rw [Chip.raise_tx]
      exact silent
    obtain ⟨now, trigger, count⟩ := Chip.calEnter_shows quiet hg 3
    refine ⟨rfl, now, trigger, count.trans ((Chip.raise_r _ _ _ _ _ (.inr (from_row rfl (by decide)))).trans ?_)⟩
    exact (Chip.r_w_same _ _ _).trans (satAdd_mod 32 _ 1)
  · rw [exec_lockDetected, execLockDetected, State.on_eq, Chip.lockDetected, if_neg no]
  · rw [exec_lockTimeout, execLockTimeout, State.on_eq, Chip.lockTimeout, if_neg no]
  · refine ⟨_, rfl, ?_⟩
    dsimp only
    obtain ⟨c, stored, valid, count, clear, only, done⟩ := s.b.calComplete_eq hg cal want m
    rw [done]
    have go {x : Chip} {f : Fld} (st : Nat) (h : (Reg.RFC_STATE g).key ≠ f.key) : (x.rfGo g st).r f = x.r f := (x.rfGo_only g st).2 _ fun e => h e.symm
    have kept (x : Chip) (st : Nat) : Chip.Only [.rf, .ntc, .out] (among [Reg.RFC_STATE g, Reg.RFC_CAL_CNT g, Reg.RFC_TJ g, Reg.RFC_CAL_FAILED g]) x (x.rfGo g st) :=
      (x.rfGo_only g st).mono (by decide) fun k h => .inl ⟨_, List.mem_cons_self, h⟩
    refine ⟨rfl, Chip.rfGo_rfs _ g (by decide), ?_, ?_, ?_, ?_, ((only.trans (kept _ _)).trans (kept _ _)).regs rfl fun _ => rfl⟩
    · exact (go _ state').trans ((go _ state').trans clear)
    · rw [(Chip.rfGo_cal _ g _).2, (Chip.rfGo_cal _ g _).2, valid]
    · rw [(Chip.rfGo_cal _ g _).1, (Chip.rfGo_cal _ g _).1, stored]
    · exact (go _ state).trans ((go _ state).trans count)
  · refine ⟨_, rfl, ?_⟩
    dsimp only
    obtain ⟨c, same, quiet, count, only, first', -⟩ := s.b.calFail_eq cal silent tj
    rw [first' first]
    refine ⟨rfl, (only.2 _ ?_).trans cal, ?_, (Chip.modGrp_r _ _ _ _).trans count, ?_⟩
    · simp only [among, List.mem_cons, List.not_mem_nil, or_false, exists_eq_left, offs, Fld.key, Reg.RFC_STATE, Reg.RFC_CAL_CNT]
      omega
    · rw [Chip.modGrp_grp]
    · exact (only.trans ((Chip.modGrp_only c g _ _).mono (by decide) fun _ h => h)).regs rfl fun _ => rfl
  · refine ⟨_, rfl, ?_⟩
    dsimp only
    obtain ⟨c, same, quiet, count, only, -, second'⟩ := s.b.calFail_eq cal silent tj
    obtain ⟨f, invalid, eq⟩ := second' second
    have failed' : (Reg.RFC_CAL_FAILED g).key ≠ (Reg.RFC_STATE g).key := Fld.key_ne_row rfl rfl rfl rfl rfl
    rw [eq]
    refine ⟨rfl, ?_, ?_, ?_, ?_, ?_⟩
    · rw [Chip.rfs, Chip.modGrp_r, Chip.r_w_ne _ _ _ _ failed']
      exact Chip.rfGo_rfs _ g (by decide)
    · exact (Chip.modGrp_r _ _ _ _).trans (Chip.r_w_same _ _ _)
    · rw [Chip.modGrp_grp]
      exact invalid _
    · rw [Chip.modGrp_r, Chip.r_w_ne _ _ _ _ failed]
      exact ((Chip.rfGo_only _ g _).2 _ fun e => state e.symm).trans count
    · have ctr : c.freeCtr = s.b.freeCtr := only.freeCtr (by decide)
      have free : Chip.Only [.rf, .ntc, .out, .freeCtr] (among [Reg.RFC_STATE g, Reg.RFC_CAL_CNT g, Reg.RFC_CAL_FAILED g]) s.b
          { c with freeCtr := c.freeCtr + 2 } := (only.mono (by decide) fun k h => h.imp (fun ⟨f, hf, e⟩ => ⟨f, by simp_all, e⟩) id).putFreeCtr (by decide) _
      have go := (free.trans ((Chip.rfGo_only _ g RFS.STANDBY).mono (by decide) fun k h => .inl ⟨_, List.mem_cons_self, h⟩)).w (Reg.RFC_CAL_FAILED g) 1
        (among_mem (by simp))
      have all := go.trans ((Chip.modGrp_only _ g f _).mono (by decide) fun _ h => h)
      refine all.regs ?_ fun _ => rfl
      rw [← ctr]
      rfl
  · rw [exec_calComplete, execCalComplete, State.on_eq, Chip.calComplete, if_pos no]
  · rw [exec_calFail, execCalFail, State.on_eq, Chip.calFail, if_pos no]
end

section
/-!
SUPPORT. Detections, the ends of receptions, lanes and steering (R198, R204, R214, R215, R220 to R231).
-/
namespace Sys2Proof.Machine

/-! ### Detections -/

/-- The registers that a fresh context reads. -/
def ctxReads (l : Nat) : List Fld :=
  [Reg.RXP_GAIN l, Reg.RFC_FREQ_TRIM, Reg.RXP_FEC_SCHEME_L, Reg.RXP_FEC_SCHEME_M, Reg.RXP_INTERLEAVE_L, Reg.RXP_INTERLEAVE_M] ++ rxSettings l

/-- A fresh context follows from what a change of RXP's state and of a counter leaves. -/
theorem Chip.newCtx_same {b c : Chip} {rs : Nat → Prop} (h : Chip.Only [.rx] rs b c) (p : Preamble) (fl : Bool) (out : ∀ f ∈ ctxReads p.lane, ¬ rs f.key) :
    c.newCtx p fl = b.newCtx p fl := by
  have reg (f : Fld) (hf : f ∈ ctxReads p.lane) : c.r f = b.r f := h.2 f (out f hf)
  have e : c = { b with regs := c.regs, rx := c.rx } := h.1
  have cls : c.detClass p.lane p.chan p.sfdNs = b.detClass p.lane p.chan p.sfdNs := by rw [e]; rfl
  have now : c.nowNs = b.nowNs := by rw [e]; rfl
  have stitch : c.stitch32 = b.stitch32 := by rw [e]; rfl
  have code : c.codeFits p = b.codeFits p := by
    simp only [Chip.codeFits, Chip.t]
    split <;> rw [reg _ (by simp [ctxReads]), reg _ (by simp [ctxReads])]
  have set : (rxSettings p.lane).map c.r = (rxSettings p.lane).map b.r :=
    List.map_congr_left fun f hf => reg f (List.mem_append_right _ hf)
  simp only [Chip.newCtx, cls, now, stitch, code, set, Chip.rs, reg (Reg.RXP_GAIN p.lane) (by simp [ctxReads]), reg Reg.RFC_FREQ_TRIM (by simp [ctxReads])]

/-- The block with a detection counted. -/
def Chip.detected (b : Chip) (p : Preamble) : Chip :=
  (b.inc (Reg.RXP_DET_CNT p.lane)).modChan p.lane p.chan (fun s => { s with det := satAdd 32 s.det 1, rssi := p.power })

theorem Chip.detect_eq {b : Chip} {p : Preamble} (alone : p.other = none) (apart : p.overlaps = false) :
    b.detect p = if !b.detects p then b else (b.detected p).askPool p := by
  have pick : b.pickLane p = p := by rw [Chip.pickLane, alone]
  rw [Chip.detect, pick, apart]
  rfl

theorem Chip.detected_only (b : Chip) (p : Preamble) : Chip.Only [.rx] (· = (Reg.RXP_DET_CNT p.lane).key) b (b.detected p) :=
  ((Chip.Only.rfl' b [.rx] (· = (Reg.RXP_DET_CNT p.lane).key)).inc _ rfl).putRx (by decide) _

theorem Chip.detected_cnt (b : Chip) (p : Preamble) :
    (b.detected p).r (Reg.RXP_DET_CNT p.lane) = satAdd 32 (b.r (Reg.RXP_DET_CNT p.lane)) 1 := (Chip.r_w_same _ _ _).trans (satAdd_mod 32 _ 1)

/-- No register that a fresh context or the pool reads is a lane's DET_CNT. -/
theorem detCnt_apart : ∀ l, l < 7 → (∀ f ∈ ctxReads l, ¬ f.key = (Reg.RXP_DET_CNT l).key) ∧
    ¬ Reg.RXP_MIN_FREE_SCHED_L.key = (Reg.RXP_DET_CNT l).key ∧ ¬ Reg.RXP_MIN_FREE_SCHED_M.key = (Reg.RXP_DET_CNT l).key ∧
    ¬ Reg.RXP_MIN_FREE_SCHED_H.key = (Reg.RXP_DET_CNT l).key := by decide

theorem Chip.detected_minFree (b : Chip) {p : Preamble} (h : p.lane < 7) (d : Nat) : (b.detected p).minFree d = b.minFree d := by
  obtain ⟨-, hl, hm, hh⟩ := detCnt_apart p.lane h
  unfold Chip.minFree
  split
  · exact (b.detected_only p).2 _ hl
  · split
    · exact (b.detected_only p).2 _ hm
    · exact (b.detected_only p).2 _ hh

theorem Chip.detected_class (b : Chip) (p : Preamble) : (b.detected p).detClass p.lane p.chan p.sfdNs = b.detClass p.lane p.chan p.sfdNs := rfl
theorem Chip.detected_free (b : Chip) (p : Preamble) (d : Nat) : (b.detected p).freeFor d = b.freeFor d := rfl

/-- A counter of a lane counts no receptions in flight. -/
theorem laneCnt_notActive {f : Fld} {l a : Nat} (hf : f.off = a + 0x80 * l) (lo : 0xA1000 ≤ a) : ¬ activeKey f.key := fun h => by
  have := (activeKey_rxp h).2
  unfold Fld.key at this
  omega

/-! ### Sparse tables -/

/-- An entry of a table whose values are changed one by one. -/
theorem kget_map {α β : Type} (F : Nat × α → β) (k : Nat) : ∀ m : KV α, kget (m.map (fun e => (e.1, F e))) k = (kget m k).map (fun v => F (k, v))
  | [] => rfl
  | (j, v) :: t => by
    rw [List.map_cons, kget_cons, kget_cons]
    split
    · subst_vars
      rfl
    · exact kget_map F k t

theorem kget_kmod_same {α : Type} (f : α → α) (k : Nat) : ∀ m : KV α, kget (kmod m k f) k = (kget m k).map f
  | [] => rfl
  | (j, v) :: t => by
    rw [kmod, kget_cons]
    split
    · rw [kget_cons, if_pos ‹_›]
      rfl
    · rw [kget_cons, if_neg ‹_›]
      exact kget_kmod_same f k t

theorem mem_of_kget {α : Type} {k : Nat} {v : α} : ∀ {m : KV α}, kget m k = some v → (k, v) ∈ m
  | (j, u) :: t, h => by
    rw [kget_cons] at h
    split at h
    · subst_vars
      cases h
      exact List.mem_cons_self
    · exact List.mem_cons_of_mem _ (mem_of_kget h)

/-! ### Contexts that are freed (R220, R231) -/

theorem Chip.freeCtx_none (b : Chip) (i : Nat) : kget (b.freeCtx i).rx.ctxs i = none := by
  rw [Chip.freeCtx, Chip.rxCounts_rx]
  dsimp only
  rw [kget_map, kget_kdel_same]
  rfl

/-- Every context of the second block is one of the first, on its lane. -/
def Chip.FewerCtx (b c : Chip) : Prop := ∀ i x, kget c.rx.ctxs i = some x → ∃ y, kget b.rx.ctxs i = some y ∧ y.lane = x.lane

theorem Chip.FewerCtx.rfl' (b : Chip) : Chip.FewerCtx b b := fun _ x h => ⟨x, h, rfl⟩

theorem Chip.FewerCtx.trans {b c d : Chip} (h1 : Chip.FewerCtx b c) (h2 : Chip.FewerCtx c d) : Chip.FewerCtx b d := fun i x h => by
  obtain ⟨y, hy, e⟩ := h2 i x h
  obtain ⟨z, hz, e'⟩ := h1 i y hy
  exact ⟨z, hz, e'.trans e⟩

theorem Chip.FewerCtx.of_rx {b c : Chip} (h : c.rx = b.rx) : Chip.FewerCtx b c := fun i x hx => ⟨x, by rw [← h]; exact hx, rfl⟩

theorem Chip.freeCtx_fewer (b : Chip) (i : Nat) : Chip.FewerCtx b (b.freeCtx i) := fun j x h => by
  rw [Chip.freeCtx, Chip.rxCounts_rx] at h
  dsimp only at h
  rw [kget_map, kget_kdel] at h
  split at h
  · simp at h
  · obtain ⟨y, hy, e⟩ := Option.map_eq_some_iff.mp h
    refine ⟨y, hy, ?_⟩
    rw [← e]
    split <;> rfl

/-- A reception that ends leaves a free context, and no other context moves to another lane. -/
theorem Chip.endWith_frees (b : Chip) (i cause : Nat) (y : RxFigures) :
    kget (b.endWith i cause y).rx.ctxs i = none ∧ Chip.FewerCtx b (b.endWith i cause y) := by
  unfold Chip.endWith
  split
  · exact ⟨‹_›, .rfl' b⟩
  · rename_i x _
    extract_lets b1 b2
    refine ⟨b2.freeCtx_none i, .trans (.of_rx ?_) (b2.freeCtx_fewer i)⟩
    unfold b2
    split
    · rfl
    · rw [(Chip.tmgQ_only _ _).rx (by decide), (Chip.dropRest_only _ _ _).rx (by decide), (Chip.closeItem_only _ _ _ _).rx (by decide),
        (Chip.writeItem_only _ _ _ _).rx (by decide)]
      rfl

theorem Chip.endRx_frees (b : Chip) (i cause : Nat) : kget (b.endRx i cause).rx.ctxs i = none ∧ Chip.FewerCtx b (b.endRx i cause) := by
  unfold Chip.endRx
  split
  · exact ⟨‹_›, .rfl' b⟩
  · split
    · exact b.endWith_frees i cause _
    · exact Chip.endWith_frees { b with freeCtr := b.freeCtr + 1 + 1 + 1 } i cause _

/-- What a step of a fold leaves is kept by the steps after it. -/
theorem List.foldl_after {α β : Type} {f : β → α → β} {R : β → β → Prop} (refl : ∀ x, R x x) (trans : ∀ x y z, R x y → R y z → R x z)
    (step : ∀ x m, R x (f x m)) {n : α} : ∀ (l : List α) (x : β), n ∈ l → ∃ y, R x y ∧ R (f y n) (l.foldl f x)
  | m :: l, x, mem => by
    rcases List.mem_cons.mp mem with rfl | mem
    · exact ⟨x, refl x, List.foldlRecOn (motive := R (f x n)) l f (refl _) fun y hy k _ => trans _ _ _ hy (step y k)⟩
    · obtain ⟨y, before, after⟩ := foldl_after refl trans step l (f x m) mem
      exact ⟨y, trans _ _ _ (step x m) before, after⟩

/-- A lane whose receptions have all ended holds no context. -/
theorem Chip.endLane_none (b : Chip) (l cause : Nat) {i : Nat} {x : Ctx} (h : kget (b.endLane l cause).rx.ctxs i = some x) : x.lane ≠ l := by
  intro on
  have step (c : Chip) (e : Nat × Ctx) : Chip.FewerCtx c (c.endRx e.1 cause) := (c.endRx_frees e.1 cause).2
  have all : Chip.FewerCtx b (b.endLane l cause) :=
    List.foldlRecOn (motive := Chip.FewerCtx b) _ _ (.rfl' b) fun c hc e _ => hc.trans (step c e)
  obtain ⟨y, hy, same⟩ := all i x h
  have mem : (i, y) ∈ b.rx.ctxs.filter (fun e => e.2.lane == l) := List.mem_filter.mpr ⟨mem_of_kget hy, beq_iff_eq.mpr (same.trans on)⟩
  obtain ⟨c, -, after⟩ := List.foldl_after (f := fun (c : Chip) (e : Nat × Ctx) => c.endRx e.1 cause) (R := Chip.FewerCtx) .rfl' (fun _ _ _ => .trans) step _ b mem
  obtain ⟨z, hz, -⟩ := after i x h
  rw [(c.endRx_frees i cause).1] at hz
  cases hz

end Sys2Proof.Machine

open Sys2Proof Sys2Proof.Machine

/-- Settles O34. -/
theorem detectionsTakeContexts : Obligations.DetectionsTakeContexts := by
  intro s p alone
  refine ⟨fun no => ?_, fun apart lane yes => ⟨fun i fl l free room => ?_, fun scarce other => ?_⟩⟩
  · rw [exec_preambleDetection, execPreambleDetection, State.on_eq]
    have pick : s.b.pickLane p = p := by rw [Chip.pickLane, alone]
    rw [Chip.detect, pick, if_pos (by rw [no]; rfl)]
  · refine ⟨_, rfl, ?_⟩
    dsimp only
    have asked : (s.b.detected p).askPool p = (s.b.detected p).assign p i fl id := by
      unfold Chip.askPool
      extract_lets d free' sched no
      have sure : (sched || decide ((s.b.detected p).minFree d < free'.length)) = true := by
        rw [Bool.or_eq_true, beq_iff_eq, decide_eq_true_iff, s.b.detected_minFree lane, show free' = (i, fl) :: l from free]
        exact room
      rw [show free'.head? = some (i, fl) by rw [show free' = (i, fl) :: l from free]; rfl]
      exact if_pos sure
    have fresh := Chip.newCtx_same (s.b.detected_only p) p fl (detCnt_apart _ lane).1
    rw [Chip.detect_eq alone apart, yes, if_neg (by decide), asked, Chip.assign, fresh]
    have counts := Chip.rxCounts_only ((s.b.detected p).putCtx i (s.b.newCtx p fl))
    refine ⟨rfl, ?_, ?_, ?_⟩
    · rw [Chip.rxCounts_rx]
      exact kget_kput_same _ _ _
    · exact (counts.2 _ (laneCnt_notActive rfl (by decide))).trans (s.b.detected_cnt p)
    · refine Chip.Only.regs (ps := [.rx]) (b := s.b) ?_ rfl fun _ => rfl
      refine Chip.Only.trans ?_ (counts.mono (by decide) fun k ⟨g, hg, e⟩ => .inl ⟨g, List.mem_cons_of_mem _ hg, e⟩)
      exact ((s.b.detected_only p).mono (by decide) fun k h => .inl ⟨_, List.mem_cons_self, h⟩).putRx (by decide) _
  · refine ⟨_, rfl, ?_⟩
    dsimp only
    have asked : (s.b.detected p).askPool p = ((s.b.detected p).inc (Reg.RXP_NO_DEMOD p.lane)).note (kPool (laneBand p.lane)) 1 := by
      unfold Chip.askPool
      extract_lets d free' sched no
      have unsched : sched = false := beq_eq_false_iff_ne.mpr other
      split
      · rw [if_neg ?_]
        rw [unsched, Bool.false_or, decide_eq_true_iff, s.b.detected_minFree lane, Nat.not_lt]
        exact scarce
      · rw [unsched]
        rfl
    have apart' : (Reg.RXP_NO_DEMOD p.lane).key ≠ (Reg.RXP_DET_CNT p.lane).key := Fld.key_ne_row rfl rfl rfl rfl rfl
    rw [Chip.detect_eq alone apart, yes, if_neg (by decide), asked]
    refine ⟨rfl, rfl, ?_, ?_, ?_⟩
    · exact (Chip.r_w_ne _ _ _ _ apart').trans (s.b.detected_cnt p)
    · refine (Chip.r_w_same _ _ _).trans ((satAdd_mod 32 _ 1).trans ?_)
      exact congrArg (satAdd 32 · 1) ((s.b.detected_only p).2 _ apart')
    · refine Chip.Only.regs (ps := [.rx, .acc]) (b := s.b) ?_ rfl fun _ => rfl
      refine Chip.Only.trans ?_ ((Chip.note_only _ _ _ _).mono (by decide) fun _ h => h)
      exact ((s.b.detected_only p).mono (by decide) fun k h => .inl ⟨_, List.mem_cons_self, h⟩).inc _ (among_mem (by simp))
end

section
/-!
SUPPORT. Lanes and steering windows (R198, R227, R228), and the states that refute two claims about receptions.
-/
namespace Sys2Proof.Machine

/-- A reception of a SUN FSK frame on lane 0, whose PHR is still to come, and an AIR_RX queue 0. -/
def fskAwaited : State :=
  { b := { rx := { State.reset.b.rx with ctxs := [(0, { lane := 0, chan := 0, band := 0, modeBit := 0, cls := 0, power := 0, start := 0, stitch := 0, sfdNs := 0, gain := 0 })] },
           queues := [(0, { consumer := CONS_AIR })], regs := [(Reg.RXP_PSDU_LIMIT.key, 127)] } }

/-- A PHR of an FSK frame, of 10 octets and with a number in the field of the MCS. -/
def fskPhr : Phr := { ctx := 0, len := 10, mcs := 1 }

/-- A reception with an empty frame of type 4 in item 1 of queue 0, a word of which has an uncorrectable error. -/
def eccStreamed : State :=
  { b := { rx := { State.reset.b.rx with ctxs := [(0, { lane := 0, chan := 0, band := 0, modeBit := 0, cls := 0, power := 0, start := 0, stitch := 0, sfdNs := 0, gain := 0, item := some (0, 1) })] },
           queues := [(0, { consumer := CONS_AIR, items := [{ id := 1, size := 1, closed := true, ecc := true }] })] } }

def eccEnd : RxEnd := { ctx := 0, fcsOk := true, psdu := [4], octets := 1, endNs := 0 }

/-! ### Lanes -/

theorem Chip.shedOver_only (b : Chip) (l : Nat) : Chip.Only [.overrides, .ntc, .out] (among [Reg.PWR_CLAMP_CNT]) b (b.shedOver l) := by
  have kept := Chip.Only.rfl' b [.overrides, .ntc, .out] (among [Reg.PWR_CLAMP_CNT])
  unfold Chip.shedOver
  split
  · unfold Chip.override
    dsimp only
    split
    · exact kept
    · exact ((kept.putOverrides (by decide) _).inc _ (among_mem (by simp))).raise _ _ _ (by decide)
  · exact kept.putOverrides (by decide) _

theorem laneEn_notClamp {l : Nat} (h : l < 7) : ¬ among [Reg.PWR_CLAMP_CNT] (Reg.RXP_LANE_EN l).key := by
  rintro (⟨g, hg, e⟩ | e | e)
  · rw [List.mem_singleton.mp hg] at e
    simp only [Fld.key, Reg.RXP_LANE_EN, Reg.PWR_CLAMP_CNT] at e
    omega
  · simp only [offs, Fld.key, Reg.RXP_LANE_EN] at e
    omega
  · simp only [offs, Fld.key, Reg.RXP_LANE_EN] at e
    omega

theorem laneEn_notEnd {l : Nat} (h : l < 7) : ¬ rxEndKey (Reg.RXP_LANE_EN l).key := by
  have apart : ∀ l, l < 7 → ∀ g ∈ activeFlds, (Reg.RXP_LANE_EN l).key ≠ g.key := by decide
  rintro (⟨g, hg, e⟩ | e)
  · exact apart l h g hg e
  · simp only [from_, Fld.key, Reg.RXP_LANE_EN] at e
    omega

theorem ofS_lt (i : Int) (w : Nat) : ofS i w < 2 ^ w := by
  have pos : (0 : Int) < ((2 ^ w : Nat) : Int) := by exact_mod_cast Nat.two_pow_pos w
  have := Int.emod_lt_of_pos i pos
  have := Int.emod_nonneg i pos.ne'
  unfold ofS
  omega

/-! ### Steering -/

/-- The block with a steering window closed and its frames and nodes shown. -/
def Chip.steerShown (b : Chip) (frames nodes : Nat) (x : Rx) : Chip :=
  Chip.w (Chip.w { b with rx := x } Reg.RXP_REF_FRAMES (min 65535 frames)) Reg.RXP_REF_NODES (min 65535 nodes)

theorem Chip.steerShown_r (b : Chip) (frames nodes : Nat) (x : Rx) : (b.steerShown frames nodes x).r Reg.RXP_REF_FRAMES = min 65535 frames ∧
    (b.steerShown frames nodes x).r Reg.RXP_REF_NODES = min 65535 nodes := by
  refine ⟨(Chip.r_w_ne _ _ _ _ (by decide)).trans ((Chip.r_w_same _ _ _).trans ?_), (Chip.r_w_same _ _ _).trans ?_⟩ <;>
    exact Nat.mod_eq_of_lt ((Nat.min_le_left _ _).trans_lt (show 65535 < 2 ^ 16 by decide))

theorem Chip.steerShown_only (b : Chip) (frames nodes : Nat) (x : Rx) (l : List Fld) :
    Chip.Only [.rx, .ntc, .out] (among ([Reg.RXP_REF_FRAMES, Reg.RXP_REF_NODES] ++ l)) b (b.steerShown frames nodes x) :=
  (((Chip.Only.rfl' b _ _).putRx (by decide) x).w _ _ (among_mem (by simp))).w _ _ (among_mem (by simp))

/-- A window with too few frames or nodes. -/
theorem Chip.steerEnd_starved {b : Chip} (on : b.t Reg.RXP_STEER_EN = true)
    (few : b.rx.refs.length < b.r Reg.RXP_REF_MIN_FRAMES ∨ (distinct (b.rx.refs.map (·.1))).length < b.r Reg.RXP_REF_MIN_NODES) :
    ∃ c : Chip, c.rx.refs = [] ∧ c.rx.starved = true ∧ Chip.Only [.rx, .ntc, .out] (among []) (b.steerShown b.rx.refs.length
      (distinct (b.rx.refs.map (·.1))).length { b.rx with refs := [] }) c ∧ b.steerEnd = c := by
  have kept := Chip.Only.rfl' (b.steerShown b.rx.refs.length (distinct (b.rx.refs.map (·.1))).length { b.rx with refs := [] }) [.rx, .ntc, .out] (among [])
  refine ⟨_, ?_, ?_, ?_, rfl⟩ <;> rw [Chip.steerEnd, if_neg (by simp [on])] <;> dsimp only <;> rw [if_pos few] <;> split
  · rfl
  · rw [Chip.raise_rx]
    rfl
  · assumption
  · rw [Chip.raise_rx]
  · exact kept
  · exact (kept.putRx (by decide) _).raise _ _ _ (by decide)

/-- A window of enough frames and nodes, some near the median. -/
theorem Chip.steerEnd_aims {b : Chip} {rest : List Int} (on : b.t Reg.RXP_STEER_EN = true)
    (many : b.r Reg.RXP_REF_MIN_FRAMES ≤ b.rx.refs.length) (many' : b.r Reg.RXP_REF_MIN_NODES ≤ (distinct (b.rx.refs.map (·.1))).length)
    (near : rest = (b.rx.refs.map (·.2)).filter (fun x => decide ((x - median (b.rx.refs.map (·.2))).natAbs ≤ b.r Reg.RXP_REF_REJECT)))
    (some : rest ≠ []) : ∃ (x : Rx) (d : Chip), x.refs = [] ∧ d.rx = x ∧ Chip.Only [.rx, .ntc, .out] (among [])
        ((b.steerShown b.rx.refs.length (distinct (b.rx.refs.map (·.1))).length x).ws Reg.RXP_TARGET
          (clampI (-(b.r Reg.RXP_TARGET_LIMIT : Int)) (b.r Reg.RXP_TARGET_LIMIT) (rest.sum / (rest.length : Int)))) d ∧ b.steerEnd = d := by
  have few : ¬ (b.rx.refs.length < b.r Reg.RXP_REF_MIN_FRAMES ∨ (distinct (b.rx.refs.map (·.1))).length < b.r Reg.RXP_REF_MIN_NODES) := by omega
  have full : rest.isEmpty = false := by simpa using some
  let target : Int := rest.sum / (rest.length : Int)
  let x : Rx := { b.rx with refs := [], starved := false, clamped := clampI (-(b.r Reg.RXP_TARGET_LIMIT : Int)) (b.r Reg.RXP_TARGET_LIMIT) target != target }
  refine ⟨x, _, rfl, ?_, ?_, rfl⟩ <;>
    rw [Chip.steerEnd, if_neg (by simp [on])] <;> dsimp only <;> rw [if_neg few, ← near] <;> simp only [full, Bool.false_eq_true, if_false] <;> split
  · rw [Chip.raise_rx]
    rfl
  · rfl
  · exact (Chip.Only.rfl' _ _ _).raise _ _ _ (by decide)
  · exact .rfl' _ _ _

end Sys2Proof.Machine

open Sys2Proof Sys2Proof.Machine

/-- Refutes O36: a SUN FSK frame has no MCS, and the context keeps 0 where its PHR carries another number in that field. -/
theorem not_phrIsJudged : ¬ Obligations.PhrIsJudged := by
  intro h
  obtain ⟨t, run, -, y, hy, -, -, mcs, -⟩ := ((h fskAwaited fskPhr).2.2 _ _ rfl rfl (by decide) rfl).2 0 _ (by decide +kernel) (by decide +kernel) rfl rfl rfl (by decide +kernel)
  have all : (kget (fskAwaited.b.phr fskPhr).rx.ctxs 0).map Ctx.mcs = some 0 := by decide +kernel
  rw [exec_phrDecoded, execPhrDecoded, State.on_eq] at run
  cases run
  rw [show kget (fskAwaited.b.phr fskPhr).rx.ctxs 0 = some y from hy, Option.map_some, mcs] at all
  exact absurd all (by decide)

/-- Refutes O37: an item with an uncorrectable error is dropped before MAC sees the frame, so a reserved frame type is not counted. -/
theorem not_receptionsEnd : ¬ Obligations.ReceptionsEnd := by
  intro h
  obtain ⟨t, run, -, -, -, count⟩ := (((h eccStreamed 0).2 _ rfl (by decide)).2.2 eccEnd true 0 1 ⟨rfl, rfl⟩ rfl rfl).2 rfl rfl (by decide +kernel)
  have none : ((eccStreamed.b.rxEnd eccEnd true).settle).r Reg.MAC_FTYPE_ERR = 0 := by decide +kernel
  rw [exec_receptionEnd, execReceptionEnd, State.on_eq] at run
  cases run
  exact absurd (none.symm.trans count) (by decide +kernel)

/-- Settles O38. -/
theorem lanesAndSteering : Obligations.LanesAndSteering := by
  intro s
  refine ⟨fun l hl taken => ⟨fun there => ?_, ?_⟩, fun off => ?_, ?_⟩
  · refine ⟨_, rfl, ?_⟩
    dsimp only
    rw [if_neg (by omega), Chip.gated_writable _ taken, Chip.laneSet, Chip.laneEn, if_neg (by simp [there])]
    simp only [if_true]
    have over_ := Chip.shedOver_only (s.b.wb (Reg.RXP_LANE_EN l) true) l
    refine ⟨by trivial, (over_.2 _ (laneEn_notClamp hl)).trans (Chip.r_w_same _ _ _), ?_⟩
    refine Chip.Only.regs (ps := [.overrides, .ntc, .out]) (b := s.b) ?_ rfl fun _ => rfl
    exact ((Chip.Only.rfl' s.b _ _).w _ 1 (among_mem List.mem_cons_self)).trans
      (over_.mono (by decide) fun k h => h.imp (fun ⟨g, hg, e⟩ => ⟨g, List.mem_cons_of_mem _ hg, e⟩) id)
  · refine ⟨_, rfl, ?_⟩
    dsimp only
    rw [if_neg (by omega), Chip.gated_writable _ taken, Chip.laneSet, Chip.laneEn, if_neg (by simp)]
    simp only [Bool.false_eq_true, if_false]
    have over_ := Chip.shedOver_only ((s.b.wb (Reg.RXP_LANE_EN l) false).endLane l CAUSE.LANE_OFF) l
    have ends := Chip.endLane_only (s.b.wb (Reg.RXP_LANE_EN l) false) l CAUSE.LANE_OFF
    refine ⟨by trivial, ?_, fun i x hx => ?_⟩
    · exact (over_.2 _ (laneEn_notClamp hl)).trans ((ends.2 _ (laneEn_notEnd hl)).trans (Chip.r_w_same _ _ _))
    · rw [over_.rx (by decide)] at hx
      exact Chip.endLane_none _ _ _ hx
  · rw [exec_steerWindowEnd, execSteerWindowEnd, State.on_eq, Chip.steerEnd, if_pos (by rw [off]; rfl)]
  · rintro v rest lim nodes on rfl rfl hrest rfl
    rw [List.length_map]
    have out {f : Fld} (h : f.key < 0x50000 * 32 ∨ 0x60000 * 32 ≤ f.key) (h' : f.key < 0x220000 * 32) : ¬ among [] f.key := by
      rintro (⟨g, hg, -⟩ | e | e)
      · cases hg
      · unfold offs at e
        omega
      · unfold offs at e
        omega
    refine ⟨fun many many' some => ?_, fun few => ?_⟩
    · obtain ⟨x, d, refs, same, only, ends⟩ := Chip.steerEnd_aims on many many' hrest some
      obtain ⟨frames, nodes⟩ := s.b.steerShown_r s.b.rx.refs.length (distinct (s.b.rx.refs.map (·.1))).length x
      refine ⟨_, rfl, ?_⟩
      dsimp only
      rw [ends]
      refine ⟨rfl, by rw [same, refs], ?_, ?_, ?_, ?_⟩
      · exact (only.2 _ (out (by decide) (by decide))).trans ((Chip.r_w_ne _ _ _ _ (by decide)).trans frames)
      · exact (only.2 _ (out (by decide) (by decide))).trans ((Chip.r_w_ne _ _ _ _ (by decide)).trans nodes)
      · exact (only.2 _ (out (by decide) (by decide))).trans ((Chip.r_w_same _ _ _).trans (Nat.mod_eq_of_lt (ofS_lt _ _)))
      · refine Chip.Only.regs (ps := [.rx, .ntc, .out]) (b := s.b) ?_ rfl fun _ => rfl
        exact ((s.b.steerShown_only _ _ _ [Reg.RXP_TARGET]).w _ _ (among_mem (by simp))).trans
          (only.mono (by decide) fun k h => h.imp (fun ⟨g, hg, e⟩ => absurd hg List.not_mem_nil) id)
    · obtain ⟨c, refs, starved, only, ends⟩ := Chip.steerEnd_starved on few
      obtain ⟨frames, nodes⟩ := s.b.steerShown_r s.b.rx.refs.length (distinct (s.b.rx.refs.map (·.1))).length { s.b.rx with refs := [] }
      refine ⟨_, rfl, ?_⟩
      dsimp only
      rw [ends]
      refine ⟨rfl, refs, (only.2 _ (out (by decide) (by decide))).trans frames, (only.2 _ (out (by decide) (by decide))).trans nodes, starved, ?_⟩
      refine Chip.Only.regs (ps := [.rx, .ntc, .out]) (b := s.b) ?_ rfl fun _ => rfl
      exact (s.b.steerShown_only _ _ _ []).trans (only.mono (by decide) fun k h => h.imp (fun ⟨g, hg, e⟩ => absurd hg List.not_mem_nil) id)
end

section
/-!
SUPPORT. Frames taken, keyed, granted, failed and sent (R240 to R256, R334).
-/
namespace Sys2Proof.Machine

/-! ### Steps that end by settling -/

theorem Chip.Only.quiet {b c : Chip} {ps : List Part} {rs : Nat → Prop} (h : Chip.Only ps rs b c) (tim : Part.tim ∉ ps) (sch : Part.sch ∉ ps)
    (quiet : b.Quiet) : c.Quiet := by
  unfold Chip.Quiet
  rw [h.tim tim, h.sch sch]
  exact quiet

/-! ### TXP's state -/

theorem Chip.dutySet_only (b : Chip) {c : Nat} (hc : c < 4) (bk : Nat) (f : Nat → Nat) :
    Chip.Only [.tx] (offs 0xC0100 0xC0200) b (b.dutySet c bk f) := by
  refine ((Chip.Only.rfl' b _ _).putTx (by decide) _).w _ _ ?_
  simp only [Fld.key, Reg.TXP_DUTY_USED]
  omega

theorem Chip.txPut_only (b : Chip) (id : Nat) (f : TxF) : Chip.Only [.tx] noReg b (b.txPut id f) := (Chip.Only.rfl' b _ _).putTx (by decide) _
theorem Chip.txDel_only (b : Chip) (id : Nat) : Chip.Only [.tx] noReg b (b.txDel id) := (Chip.Only.rfl' b _ _).putTx (by decide) _

theorem Chip.tf_txPut (b : Chip) (id : Nat) (f : TxF) : (b.txPut id f).tf id = some f := kget_kput_same _ _ _
theorem Chip.tf_txDel (b : Chip) (id : Nat) : (b.txDel id).tf id = none := kget_kdel_same _ _

theorem Chip.dutySet_tf (b : Chip) (c bk : Nat) (f : Nat → Nat) (id : Nat) : (b.dutySet c bk f).tf id = b.tf id := rfl

theorem TxF.chain_lt (f : TxF) : f.chain < 4 := laneGroup_lt _

/-- A register of a chain outside those that the tally and the carriers show. -/
theorem chainCnt_apart {f : Fld} {c a : Nat} (hf : f.off = a + 0x40 * c) (lo : 0xC1000 ≤ a) : ¬ offs 0xC0100 0xC0200 f.key := by
  unfold offs Fld.key
  omega

/-! ### Frames that fail (R247, R256) -/

/-- Each code has a counter of the chain, or none. -/
theorem txRejFld_row {code c : Nat} {r : Fld} (h : txRejFld code c = some r) :
    ∃ a, r.off = a + 0x40 * c ∧ 0xC1000 ≤ a ∧ a < 0xC1040 ∧ Nat.ble (r.lo + 1) 32 = true := by
  unfold txRejFld at h
  split_ifs at h <;> cases h <;> exact ⟨_, rfl, by decide, by decide, rfl⟩

/-- A frame that ends with no item of its own and no carrier: it leaves TXP, and of its chain's registers only counts of outcomes, and where it had
been granted its duty, have changed. -/
theorem Chip.txEnded_only {b : Chip} {id code : Nat} {f : TxF} (bare : f.item = none) (off : f.phase ≠ .air) :
    Chip.Only [.tx] (fun k => offs 0xC0100 0xC0200 k ∨ offs 0xC1000 0xC1200 k) b (b.txEnded id code f) ∧ (b.txEnded id code f).tf id = none := by
  have hc := f.chain_lt
  have count {g : Fld} {a : Nat} (hg : g.off = a + 0x40 * f.chain) (lo : 0xC1000 ≤ a) (hi : a < 0xC1040) (hl : Nat.ble (g.lo + 1) 32 = true) :
      offs 0xC1000 0xC1200 g.key := by
    have := Nat.le_of_ble_eq_true hl
    unfold offs Fld.key
    omega
  unfold Chip.txEnded Chip.txItem Chip.airSpent
  rw [if_pos off]
  extract_lets c b1 b2 b3 b4
  simp only [bare]
  have h1 : Chip.Only [.tx] (fun k => offs 0xC0100 0xC0200 k ∨ offs 0xC1000 0xC1200 k) b b1 ∧ b1.tf id = none :=
    ⟨(b.txDel_only id).mono (by decide) fun _ h => h.elim, b.tf_txDel id⟩
  have h2 : Chip.Only [.tx] (fun k => offs 0xC0100 0xC0200 k ∨ offs 0xC1000 0xC1200 k) b b2 ∧ b2.tf id = none := by
    unfold b2
    split
    · exact ⟨h1.1.trans ((b1.dutySet_only hc _ _).mono (by decide) fun _ h => .inl h), h1.2⟩
    · exact h1
  have h3 : Chip.Only [.tx] (fun k => offs 0xC0100 0xC0200 k ∨ offs 0xC1000 0xC1200 k) b b3 ∧ b3.tf id = none := by
    unfold b3
    split
    · rename_i r hr
      refine ⟨.ite h2.1 (h2.1.inc _ (.inr ?_)), ?_⟩
      · obtain ⟨a, off', lo, hi, le⟩ := txRejFld_row hr
        exact count off' lo hi le
      · split
        · exact h2.2
        · exact h2.2
    · exact h2
  have h4 : Chip.Only [.tx] (fun k => offs 0xC0100 0xC0200 k ∨ offs 0xC1000 0xC1200 k) b b4 ∧ b4.tf id = none := by
    unfold b4
    split
    · exact ⟨h3.1.inc _ (.inr (count rfl (by decide) (by decide) rfl)), h3.2⟩
    · exact h3
  exact h4

/-- A frame that is no train and no call fails: it ends, and its set's request may. -/
theorem Chip.txFail_eq {b : Chip} {id : Nat} {f : TxF} (code : Nat) (hf : b.tf id = some f) (train : ∀ c, f.src ≠ .wake c) (call : f.src ≠ .call) :
    b.txFail id code = ((b.txEnded id code f).onAir).coexRelease f.chain := by
  unfold Chip.txFail
  rw [hf]
  dsimp only
  cases h : f.src with
  | wake c => exact absurd h (train c)
  | call => exact absurd h call
  | _ => rfl

/-- The keys that the end of a frame without item may touch. -/
def failKey (k : Nat) : Prop := offs 0x80400 0x80430 k ∨ offs 0xC0100 0xC0200 k ∨ offs 0xC1000 0xC1200 k

theorem Chip.txFail_only {b : Chip} {id : Nat} {f : TxF} (code : Nat) (hf : b.tf id = some f) (train : ∀ c, f.src ≠ .wake c) (call : f.src ≠ .call)
    (bare : f.item = none) (off : f.phase ≠ .air) :
    Chip.Only [.tx] failKey b (b.txFail id code) ∧ (b.txFail id code).tf id = none := by
  obtain ⟨only, gone⟩ := Chip.txEnded_only (b := b) (id := id) (code := code) bare off
  rw [Chip.txFail_eq code hf train call]
  have shown : Chip.Only [] failKey (b.txEnded id code f) (((b.txEnded id code f).onAir).coexRelease f.chain) :=
    ((Chip.onAir_only _).mono (by decide) fun _ h => .inr (.inl h)).trans ((Chip.coexRelease_only _ _).mono (by decide) fun _ h => .inl h)
  exact ⟨(only.mono (by decide) fun _ h => .inr h).trans (shown.mono (by decide) fun _ h => h), by rw [Chip.tf, shown.tx (by decide)]; exact gone⟩

/-- The counts that such a frame leaves. -/
theorem Chip.txFail_cnt {b : Chip} {id code : Nat} {f : TxF} {g : Fld} {a : Nat} (hf : b.tf id = some f) (train : ∀ c, f.src ≠ .wake c)
    (call : f.src ≠ .call) (hg : g.off = a + 0x40 * f.chain) (lo : 0xC1000 ≤ a) (le : a < 0xC1040) :
    (b.txFail id code).r g = (b.txEnded id code f).r g := by
  have hc := f.chain_lt
  rw [Chip.txFail_eq code hf train call]
  refine ((Chip.coexRelease_only _ _).2 _ ?_).trans ((Chip.onAir_only _).2 _ (chainCnt_apart hg lo))
  unfold offs Fld.key
  omega

/-- A frame keyed but not granted fails BAD_ARG: of an acknowledgement ACK_DROPPED rises. -/
theorem Chip.txEnded_ack {b : Chip} {id : Nat} {f : TxF} (bare : f.item = none) (keyed : f.phase = .keyed) (ack : f.src = .ack) :
    (b.txEnded id BAD_ARG f).r (Reg.TXP_ACK_DROPPED f.chain) = satAdd (Reg.TXP_ACK_DROPPED f.chain).w (b.r (Reg.TXP_ACK_DROPPED f.chain)) 1 := by
  have isAck : f.isAck = true := by rw [TxF.isAck, ack]; rfl
  have granted : f.granted = false := by rw [TxF.granted, keyed]; rfl
  unfold Chip.txEnded Chip.txItem Chip.airSpent
  simp only [keyed, isAck, granted, bare]
  exact (Chip.r_w_same _ _ _).trans (satAdd_mod 32 _ 1)

/-- Of any other frame MODE_REJ rises. -/
theorem Chip.txEnded_mode {b : Chip} {id : Nat} {f : TxF} (bare : f.item = none) (keyed : f.phase = .keyed) (other : f.src ≠ .ack) :
    (b.txEnded id BAD_ARG f).r (Reg.TXP_MODE_REJ f.chain) = satAdd (Reg.TXP_MODE_REJ f.chain).w (b.r (Reg.TXP_MODE_REJ f.chain)) 1 := by
  have isAck : f.isAck = false := beq_eq_false_iff_ne.mpr other
  have granted : f.granted = false := by rw [TxF.granted, keyed]; rfl
  unfold Chip.txEnded Chip.txItem Chip.airSpent
  simp only [keyed, isAck, granted, bare]
  exact (Chip.r_w_same _ _ _).trans (satAdd_mod 32 _ 1)

/-! ### Frames that are taken (R240, R248, R251) -/

/-- The shift of a frame follows from the chain's settings, the trim and the node's offset. -/
theorem Chip.precomp_same {b c : Chip} {ps : List Part} (h : Chip.Only ps (from_ 0x140000) b c) (pat : Part.pat ∉ ps) (mac : Part.mac ∉ ps)
    (rf : Part.rf ∉ ps) (f : TxF) : c.precomp f = b.precomp f := by
  have hc := f.chain_lt
  have reg {g : Fld} {a : Nat} (hg : g.off = a + 0x40 * f.chain) (hi : a < 0x120000) (hl : Nat.ble (g.lo + 1) 32 = true) : c.r g = b.r g :=
    h.2 _ fun e => by
      have := Nat.le_of_ble_eq_true hl
      unfold from_ Fld.key at e
      omega
  have nds : c.nds f.node Cx.CFO_PPB = b.nds f.node Cx.CFO_PPB := by simp only [Chip.nds, Chip.nd, Chip.node, h.mac mac]
  have trim : c.rs Reg.RFC_FREQ_TRIM = b.rs Reg.RFC_FREQ_TRIM := by rw [Chip.rs, Chip.rs, h.2 _ (by decide)]
  have grp : c.grp f.chain = b.grp f.chain := by rw [Chip.grp, Chip.grp, h.rf rf]
  unfold Chip.precomp Chip.t
  dsimp only
  rw [reg (g := Reg.TXP_PRECOMP_EN f.chain) rfl (by decide) rfl, reg (g := Reg.TXP_PRECOMP_LIMIT f.chain) rfl (by decide) rfl, nds, trim, grp, h.pat pat]

theorem Chip.carrierPower_same {b c : Chip} {ps : List Part} (h : Chip.Only ps (from_ 0x140000) b c) (f : TxF) (p : Int) :
    c.carrierPower f.chain p = b.carrierPower f.chain p := by
  have hc := f.chain_lt
  have reg {g : Fld} {a : Nat} (hg : g.off = a + 0x40 * f.chain) (hi : a < 0x120000) (hl : Nat.ble (g.lo + 1) 32 = true) : c.r g = b.r g :=
    h.2 _ fun e => by
      have := Nat.le_of_ble_eq_true hl
      unfold from_ Fld.key at e
      omega
  unfold Chip.carrierPower Chip.rs
  rw [reg (g := Reg.TXP_MAX_POWER f.chain) rfl (by decide) rfl, reg (g := Reg.TXP_CARRIER_CAP f.chain) rfl (by decide) rfl]

theorem Chip.settleHead_only (b : Chip) (f : TxF) : Chip.Only [.queues] (from_ 0x140000) b (b.settleHead f) := by
  unfold Chip.settleHead
  split
  · exact (b.putQ_only _ _).mono (by decide) fun _ h => le_trans (by decide) h
  · exact .rfl' b _ _

/-- A frame as it is taken. -/
def Chip.takenAs (b : Chip) (f : TxF) : TxF :=
  { f with phase := .taken, power := b.carrierPower f.chain f.power, bucket := b.tx.bucket, shift := if f.keepsShift then f.shift else (b.precomp f).1 }

theorem Chip.txGrant_eq (b : Chip) (id : Nat) (f : TxF) : (b.txGrant id f).tf id = some (b.takenAs f) ∧
    kgetD (b.txGrant id f).tx.duty (dutyKey f.chain b.tx.bucket) 0 = kgetD b.tx.duty (dutyKey f.chain b.tx.bucket) 0 + f.airUs ∧
    Chip.Only [.tx] (fun k => offs 0xC0100 0xC0200 k ∨ offs 0xC1000 0xC1200 k) b (b.txGrant id f) := by
  have hc := f.chain_lt
  unfold Chip.txGrant
  extract_lets c pc b1 b2
  have h1 : Chip.Only [.tx] (fun k => offs 0xC0100 0xC0200 k ∨ offs 0xC1000 0xC1200 k) b b1 ∧ b1.tx = b.tx := by
    unfold b1
    split
    · refine ⟨(Chip.Only.rfl' b _ _).inc _ (.inr ?_), rfl⟩
      simp only [Fld.key, Reg.TXP_PRECOMP_CLAMP]
      omega
    · exact ⟨.rfl' b _ _, rfl⟩
  have bucket : b2.tx.bucket = b.tx.bucket := by
    show b1.tx.bucket = _
    rw [h1.2]
  refine ⟨?_, ?_, (h1.1.trans ((b1.dutySet_only hc _ _).mono (by decide) fun _ h => .inl h)).trans ((b2.txPut_only id _).mono (by decide) fun _ h => h.elim)⟩
  · rw [Chip.tf_txPut, bucket, Chip.takenAs]
    unfold pc
    split <;> rfl
  · show kgetD (kset 0 b1.tx.duty (dutyKey f.chain b1.tx.bucket) (kgetD b1.tx.duty (dutyKey f.chain b1.tx.bucket) 0 + f.airUs)) _ 0 = _
    rw [h1.2, kgetD_kset_same]

/-- A request of a group in SYNTH, RX or TX changes nothing. -/
theorem Chip.request_stays {b : Chip} {id : Nat} {f : TxF} (hf : b.tf id = some f) (least : 3 ≤ b.rfs f.chain) (most : b.rfs f.chain ≤ 5) :
    b.request id = b := by
  have held : b.judge id = b := by
    rw [Chip.judge, hf]
    exact if_pos ⟨fun e => by rw [Chip.rfs, e] at least; omega, fun e => by rw [Chip.rfs, e] at most; omega⟩
  rw [Chip.request, hf]
  dsimp only
  rw [if_neg (fun h => by rw [h.1] at least; exact absurd least (by decide)), held]

/-- At its take point a keyed frame that passes every check is granted. -/
theorem Chip.takePoint_grants {b : Chip} {id : Nat} {f : TxF} (ok : Bool) (works : b.working = true) (hf : b.tf id = some f) (keyed : f.phase = .keyed)
    (passes : b.headCheck id f = none) (least : 3 ≤ b.rfs f.chain) (most : b.rfs f.chain ≤ 5) : ∃ c : Chip,
    Chip.Only [.queues] (from_ 0x140000) b c ∧ b.takePoint id ok = c.txGrant id f := by
  have stays : b.keyPoint id ok = b := by
    rw [Chip.keyPoint, hf]
    exact if_pos (.inl (by rw [keyed]; decide))
  have head := (Chip.Only.ite (p := f.sealed.isSome = true) ((Chip.Only.rfl' b [.queues] (from_ 0x140000)).inc Reg.SEC_SEAL_OK (by decide)) (.rfl' b _ _)).trans
    (Chip.settleHead_only _ f)
  refine ⟨_, head, ?_⟩
  obtain ⟨taken, -, only⟩ := Chip.txGrant_eq ((if f.sealed.isSome = true then b.inc Reg.SEC_SEAL_OK else b).settleHead f) id f
  have state : ((((if f.sealed.isSome = true then b.inc Reg.SEC_SEAL_OK else b).settleHead f).txGrant id f).rfs f.chain) = b.rfs f.chain := by
    have hc := f.chain_lt
    refine (only.2 _ ?_).trans (head.2 _ ?_)
    · simp only [offs, Fld.key, Reg.RFC_STATE]
      omega
    · simp only [from_, Fld.key, Reg.RFC_STATE]
      omega
  rw [Chip.takePoint, stays]
  simp only [hf, works, Bool.not_true, Bool.false_eq_true, if_false, keyed, passes]
  exact Chip.request_stays taken (by rw [show (Chip.takenAs _ f).chain = f.chain from rfl, state]; exact least)
    (by rw [show (Chip.takenAs _ f).chain = f.chain from rfl, state]; exact most)

/-- At its take point a keyed frame whose first failing check is BAD_ARG fails. -/
theorem Chip.takePoint_fails {b : Chip} {id : Nat} {f : TxF} (ok : Bool) (works : b.working = true) (hf : b.tf id = some f) (keyed : f.phase = .keyed)
    (bad : b.headCheck id f = some BAD_ARG) : b.takePoint id ok = b.txFail id BAD_ARG := by
  have stays : b.keyPoint id ok = b := by
    rw [Chip.keyPoint, hf]
    exact if_pos (.inl (by rw [keyed]; decide))
  rw [Chip.takePoint, stays]
  simp only [hf, works, Bool.not_true, Bool.false_eq_true, if_false, keyed, bad]
  rfl

/-- The key point of a frame that fits and needs no seal. -/
theorem Chip.keyFrame_plain {b : Chip} {f : TxF} {k : SealKind} {ok : Bool} (id : Nat) (fits : f.endNs ≤ b.lastEnd f)
    (plain : b.sealFrame k ok = (b, some none)) : ∃ (c : Chip) (g : TxF), b.keyFrame id f k ok = c ∧ Chip.Only [.mac, .tx] noReg b c ∧
      c.mac.seq = (b.mac.seq + 1) % 256 ∧ c.tf id = some g ∧ g.phase = .keyed ∧ g.seq = b.mac.seq ∧ g.psdu = fillFrame f.psdu b.mac.seq none := by
  rw [Chip.keyFrame, if_neg (Nat.not_lt.mpr fits), plain]
  exact ⟨_, _, rfl, ((Chip.Only.rfl' b [.mac, .tx] noReg).putMac (by decide) _).putTx (by decide) _, rfl, kget_kput_same _ _ _, rfl, rfl, rfl⟩

end Sys2Proof.Machine

open Sys2Proof Sys2Proof.Machine

/-- Settles O30. -/
theorem framesAreTaken : Obligations.FramesAreTaken := by
  intro s id ok f quiet works hf
  have hc := f.chain_lt
  -- The chain's counts, TXP's state and MAC's are none of the Seam's.
  have settled {b : Chip} (only : b.Quiet) : Chip.Only [.sea, .out] (offs 0x220000 0x230000) b b.settle := Chip.settle_only only
  have cnt {b : Chip} (q : b.Quiet) {g : Fld} {a : Nat} (hg : g.off = a + 0x40 * f.chain) (hi : a < 0x120000) (hl : Nat.ble (g.lo + 1) 32 = true) :
      b.settle.r g = b.r g := (settled q).2 _ fun e => by
    have := Nat.le_of_ble_eq_true hl
    unfold offs Fld.key at e
    omega
  have fails (phase : f.phase = .keyed) (bare : f.item = none) (bad : s.b.headCheck id f = some BAD_ARG) (train : ∀ c, f.src ≠ .wake c) (call : f.src ≠ .call) :
      ((s.b.takePoint id ok).settle).tf id = none ∧ ∀ {g : Fld} {a : Nat}, g.off = a + 0x40 * f.chain → 0xC1000 ≤ a → a < 0xC1040 → Nat.ble (g.lo + 1) 32 = true →
        ((s.b.takePoint id ok).settle).r g = (s.b.txEnded id BAD_ARG f).r g := by
    obtain ⟨only, gone⟩ := Chip.txFail_only BAD_ARG hf train call bare (by rw [phase]; decide)
    have q := only.quiet (by decide) (by decide) quiet
    rw [Chip.takePoint_fails ok works hf phase bad]
    refine ⟨by rw [Chip.tf, (settled q).tx (by decide)]; exact gone, fun hg lo hi hl => ?_⟩
    exact (cnt q hg (by omega) hl).trans (Chip.txFail_cnt hf train call hg lo hi)
  refine ⟨fun phase passes least most => ?_, fun phase bare bad => ⟨fun ack => ?_, fun col beacon => ?_⟩, fun col planned beacon unsealed fits => ?_⟩
  · obtain ⟨c, only, grants⟩ := Chip.takePoint_grants ok works hf phase passes least most
    obtain ⟨taken, duty, only'⟩ := c.txGrant_eq id f
    have q := only'.quiet (by decide) (by decide) (only.quiet (by decide) (by decide) quiet)
    have tx : c.tx = s.b.tx := only.tx (by decide)
    refine ⟨_, rfl, ?_⟩
    dsimp only
    rw [grants]
    refine ⟨rfl, ?_, ?_⟩
    · rw [Chip.tf, (settled q).tx (by decide), ← Chip.tf, taken, Chip.takenAs, Chip.carrierPower_same only,
        Chip.precomp_same only (by decide) (by decide) (by decide), tx]
    · rw [(settled q).tx (by decide), ← tx]
      exact duty
  · obtain ⟨gone, counts⟩ := fails phase bare bad (by rw [ack]; exact fun _ => by simp) (by rw [ack]; simp)
    refine ⟨_, rfl, ?_⟩
    dsimp only
    exact ⟨rfl, gone, (counts rfl (by decide) (by decide) rfl).trans (Chip.txEnded_ack bare phase ack)⟩
  · obtain ⟨gone, counts⟩ := fails phase bare bad (fun c e => by rw [e] at beacon; simp at beacon) (fun e => by rw [e] at beacon; simp at beacon)
    refine ⟨_, rfl, ?_⟩
    dsimp only
    exact ⟨rfl, gone, (counts rfl (by decide) (by decide) rfl).trans (Chip.txEnded_mode bare phase (fun e => by rw [e] at beacon; simp at beacon))⟩
  · have plans : s.b.keyPoint id ok = s.b.keyFrame id (s.b.headOf f (s.b.beaconFrame (laneBand f.lane) f.t false) .beacon) .beacon ok := by
      rw [Chip.keyPoint, hf]
      dsimp only
      rw [if_neg (by rw [planned, works]; decide), beacon]
    have sealed : s.b.sealFrame .beacon ok = (s.b, some none) := by rw [Chip.sealFrame, unsealed]
    refine ⟨_, rfl, ?_⟩
    dsimp only
    obtain ⟨c, g, keys, only, seq, kept, phase, num, psdu⟩ := Chip.keyFrame_plain id fits sealed
    have q := only.quiet (by decide) (by decide) quiet
    rw [plans, keys]
    refine ⟨rfl, by rw [(settled q).mac (by decide)]; exact seq, g, ?_, phase, num, psdu⟩
    rw [Chip.tf, (settled q).tx (by decide)]
    exact kept
end

section
/-!
SUPPORT. Groups that leave RX for TX, their carriers and their ends (R165 to R171, R186, R245, R256).
-/
namespace Sys2Proof.Machine

/-! ### Signed fields of a context -/

/-- A number that fits its field reads back. -/
theorem toS_ofS {i : Int} {w : Nat} (hw : 0 < w) (lo : -((2 ^ (w - 1) : Nat) : Int) ≤ i) (hi : i < ((2 ^ (w - 1) : Nat) : Int)) :
    toS (ofS i w % 2 ^ w) w = i := by
  obtain ⟨v, rfl⟩ : ∃ v, w = v + 1 := ⟨w - 1, by omega⟩
  have two : 2 ^ (v + 1) = 2 * 2 ^ v := by rw [pow_succ]; omega
  rw [Nat.add_sub_cancel] at lo hi
  unfold toS ofS
  rw [Nat.add_sub_cancel, two]
  generalize 2 ^ v = p at *
  have pos : 0 < p := by omega
  have low := Int.emod_nonneg i (show ((2 * p : Nat) : Int) ≠ 0 by omega)
  have high := Int.emod_lt_of_pos i (show (0 : Int) < ((2 * p : Nat) : Int) by omega)
  have val : i % ((2 * p : Nat) : Int) = if 0 ≤ i then i else i + ((2 * p : Nat) : Int) := by
    split
    · exact Int.emod_eq_of_lt (by omega) (by omega)
    · rw [← Int.add_emod_right]
      exact Int.emod_eq_of_lt (by omega) (by omega)
  rw [Nat.mod_mod, Nat.mod_eq_of_lt (by omega)]
  split at val <;> split <;> omega

theorem Chip.nds_ndws (b : Chip) (n : Nat) (f : CxF) {i : Int} (hw : 0 < f.w) (lo : -((2 ^ (f.w - 1) : Nat) : Int) ≤ i)
    (hi : i < ((2 ^ (f.w - 1) : Nat) : Int)) : (b.ndws n f i).nds n f = i := by
  rw [Chip.nds, Chip.nd, Chip.ndws, Chip.ndw, Chip.node_putNode_same, cx_cxPut_same]
  exact toS_ofS hw lo hi

theorem clampI_le (lo hi i : Int) (h : lo ≤ hi) : lo ≤ clampI lo hi i ∧ clampI lo hi i ≤ hi := by
  unfold clampI
  split_ifs <;> omega

theorem Chip.putNode_r (b : Chip) (n c : Nat) (x : Fld) : (b.putNode n c).r x = b.r x := Chip.r_congr rfl x

/-- A counter that counts one event. -/
theorem Chip.r_inc_same (b : Chip) (f : Fld) : (b.inc f).r f = satAdd f.w (b.r f) 1 := (Chip.r_w_same _ _ _).trans (satAdd_mod _ _ _)

theorem Chip.r_inc_ne (b : Chip) {f g : Fld} (ne : g.key ≠ f.key) : (b.inc g).r f = b.r f := Chip.r_w_ne _ _ _ _ ne

theorem among_mono {l m : List Fld} (h : ∀ x ∈ l, x ∈ m) : ∀ k, among l k → among m k := fun _ hk => hk.imp_left fun ⟨x, hx, e⟩ => ⟨x, h x hx, e⟩

theorem Chip.Only.tf {b c : Chip} {ps : List Part} {rs : Nat → Prop} (h : Chip.Only ps rs b c) (out : Part.tx ∉ ps) (id : Nat) :
    c.tf id = b.tf id := by rw [Chip.tf, h.tx out, Chip.tf]

/-! ### Carriers -/

theorem Chip.onAir_shows (b : Chip) : Chip.Only [] (among ((List.range 4).map Reg.TXP_ON_AIR)) b b.onAir :=
  (Chip.Only.rfl' b _ _).foldl _ fun c _ hi => (Chip.Only.rfl' c _ _).w _ _ (among_mem (List.mem_map_of_mem hi))

/-- A set-up acknowledgement starts as it was secured. -/
theorem Chip.carrierStart_ack {b : Chip} {id : Nat} {f : TxF} (hf : b.tf id = some f) (setup : f.phase = .setup) (ack : f.src = .ack)
    (prompt : f.held = false) (single : f.reach ≠ 1) :
    b.carrierStart id = (((b.txPut id (b.onAirFrame f)).onAir).emit (.air (b.onAirFrame f))).ackSent f ∧
    b.onAirFrame f = { f with
              phase := .air
              psdu := (match f.sealed with | some x => ccmSeal (keyOctets x.key) Config.deviceEui f.psdu | none => f.psdu)
              ackUs := b.ackWaitUs (laneBand f.lane) f.modeBit f.mcs f.fec f.preamble } := by
  have train : (f.reach == 1) = false := beq_eq_false_iff_ne.mpr single
  constructor
  · rw [Chip.carrierStart, hf]
    dsimp only
    rw [if_neg (by simp [setup])]
    simp only [Chip.onAirFrame, ack, prompt]
    rfl
  · simp only [Chip.onAirFrame, train, Bool.false_and, Bool.false_eq_true, if_false] <;> rfl

/-- An acknowledgement that goes out is counted, and the correction it carries is kept. -/
theorem Chip.ackSent_cnt (b : Chip) (f : TxF) :
    (b.ackSent f).r Reg.MAC_ACK_SENT = satAdd Reg.MAC_ACK_SENT.w (b.r Reg.MAC_ACK_SENT) 1 := by
  have apart : Reg.MAC_TC_CLAMP.key ≠ Reg.MAC_ACK_SENT.key := by decide
  unfold Chip.ackSent
  extract_lets b1
  have kept : b1.r Reg.MAC_ACK_SENT = b.r Reg.MAC_ACK_SENT := by
    unfold b1
    split
    · dsimp only [Chip.ndws, Chip.ndw]
      rw [Chip.putNode_r]
      split
      · rfl
      · exact Chip.r_inc_ne b apart
    · rfl
  rw [← kept, Chip.r_inc_same]

theorem Chip.ackSent_plain {b : Chip} {f : TxF} (h : f.tc = none) : b.ackSent f = b.inc Reg.MAC_ACK_SENT := by rw [Chip.ackSent, h]

theorem Chip.ackSent_tc {b : Chip} {f : TxF} {x : Int} (h : f.tc = some x) :
    (b.ackSent f).nds f.node Cx.TC_LAST = clampI (-2047) 2047 x ∧
    Chip.Only [.mac] (among [Reg.MAC_ACK_SENT, Reg.MAC_TC_CLAMP]) b (b.ackSent f) := by
  obtain ⟨lo, hi⟩ := clampI_le (-2047) 2047 x (by decide)
  rw [Chip.ackSent, h]
  dsimp only
  refine ⟨Chip.nds_ndws _ _ _ (by decide) (le_trans (by decide) lo) (lt_of_le_of_lt hi (by decide)), ?_⟩
  refine Chip.Only.inc ?_ _ (among_mem (by simp))
  exact ((Chip.Only.rfl' b _ _).ite ((Chip.Only.rfl' b _ _).inc _ (among_mem (by simp)))).putMac (by decide) _

/-- An acknowledgement on air ends. -/
theorem Chip.txEnd_ack {b : Chip} {id : Nat} {f : TxF} (hf : b.tf id = some f) (air : f.phase = .air) (ack : f.src = .ack) (noPend : f.pendBit = false) :
    b.txEnd id = (((b.txDel id).inc (Reg.TXP_ACKS_OK f.chain)).add (Reg.TXP_AIRTIME_US f.chain) f.airUs).txIdle f.chain := by
  have isAck : f.isAck = true := by rw [TxF.isAck, ack]; rfl
  rw [Chip.txEnd, hf]
  dsimp only
  rw [if_neg (by simp [air]), if_neg (by simp [ack])]
  simp only [ack, isAck, noPend]
  rfl

theorem Chip.busyNow_bare {b : Chip} (h : b.tx.frames = []) (g : Nat) : b.busyNow g = 0 := by
  rw [Chip.busyNow, Chip.chainTx, h]
  rfl

/-- With no carrier left a group in TX goes back to RX where the power state asks for it. -/
theorem Chip.txIdle_rx {b : Chip} {g : Nat} (hg : g < 4) (state : b.rfs g = RFS.TX) (last : b.tx.frames = []) (want : b.rfTarget g = RFS.RX) :
    (b.txIdle g).rfs g = RFS.RX := by
  have freed := b.carrierFreed_only hg
  have out {f : Fld} (h : ¬ from_ 0x80100 f.key) : ¬ carrierEnd f.key := by
    unfold carrierEnd offs
    unfold from_ at h
    omega
  have same : ∃ c, c = (b.onAir.carriersApply g).coexRelease g ∧ c.rfs g = RFS.TX ∧ c.tx.frames = [] ∧ c.rfTarget g = RFS.RX := by
    obtain ⟨x, applied⟩ := b.onAir.carriersApply_tx g
    refine ⟨_, rfl, ?_, ?_, ?_⟩
    · refine ((Chip.coexRelease_only _ g).2 _ ?_).trans (((Chip.carriersApply_only _ hg).2 _ ?_).trans ((b.onAir_only.2 _ ?_).trans state)) <;>
        simp only [offs, Fld.key, Reg.RFC_STATE] <;> omega
    · rw [(Chip.coexRelease_only _ g).tx (by decide), applied, b.onAir_only.tx (by decide)]
      exact last
    · rw [freed.rfTarget (by decide) (by decide) (out (by decide)) (out (by decide)) (out (by decide)), want]
  obtain ⟨c, e, tx, none, target⟩ := same
  unfold Chip.txIdle
  dsimp only
  rw [← e, if_pos ⟨tx, Chip.busyNow_bare none g⟩]
  rw [Chip.fromSynth, (Chip.modGrp_only (c.rfGo g RFS.SYNTH) g _ noReg).rfTarget (by decide) (by decide) id id id, c.rfGo_target g RFS.SYNTH hg, target]
  exact Chip.rfGo_rfs _ g (by decide)

/-! ### From RX to TX -/

theorem rfState_notEnd {g : Nat} (hg : g < 4) {k : Nat} (h : rxEndKey k) : (Reg.RFC_STATE g).key ≠ k := by
  have := rxEndKey_from h
  simp only [from_, Fld.key, Reg.RFC_STATE] at this ⊢
  omega

theorem Chip.endGroup_bare {b : Chip} (h : b.rx.ctxs = []) (g cause : Nat) : b.endGroup g cause = b := by
  have lane (l : Nat) : b.endLane l cause = b := by rw [Chip.endLane, h]; rfl
  rw [Chip.endGroup]
  generalize groupLanes g = ls
  induction ls with
  | nil => rfl
  | cons l ls ih => rw [List.foldl_cons, lane, ih]

/-- In RX and about to leave it a group drives the pins of RX where the mask is early. -/
theorem Chip.femPins_leaving {b : Chip} {g : Nat} (present : b.groupPresent g = true) (on : b.t (Reg.RFC_MUTED g) = false) (rx : b.rfs g = RFS.RX)
    (leaving : (b.grp g).leaving = true) :
    b.femPins g = orN (andN (b.r (Reg.RFC_FEM_EARLY_MASK g)) (bits (b.r (Reg.RFC_FEM_FEM_MAP g)) 16 4))
      (andNot (bits (b.r (Reg.RFC_FEM_FEM_MAP g)) 20 4) (b.r (Reg.RFC_FEM_EARLY_MASK g))) := by
  unfold Chip.femPins
  simp only [present, on, rx, leaving]
  rfl

theorem Chip.femPins_early {b : Chip} {g : Nat} (present : b.groupPresent g = true) (on : b.t (Reg.RFC_MUTED g) = false) (tx : b.rfs g = RFS.TX)
    (early : (b.grp g).femEarly = true) : b.femPins g = bits (b.r (Reg.RFC_FEM_FEM_MAP g)) 20 4 := by
  unfold Chip.femPins
  simp only [present, on, tx, early]
  rfl

theorem Chip.coexRelease_r (b : Chip) (c : Nat) {f : Fld} (req : (Reg.RFC_CX_REQ (coexSet c)).key ≠ f.key)
    (pri : (Reg.RFC_CX_PRI (coexSet c)).key ≠ f.key) : (b.coexRelease c).r f = b.r f := by
  unfold Chip.coexRelease
  dsimp only
  split
  · rfl
  · exact (Chip.r_w_ne _ _ _ _ pri).trans (Chip.r_w_ne _ _ _ _ req)

/-! ### The setup point (R171, R186) -/

/-- A taken frame whose grant is there is set up, and its group goes to TX. -/
theorem Chip.setupPoint_granted {b : Chip} {id g : Nat} {f : TxF} (granted : Bool) (hf : b.tf id = some f) (chain : f.chain = g) (taken : f.phase = .taken)
    (synth : b.rfs g = RFS.SYNTH) (may : b.t (Reg.RFC_CX_EN (coexSet g)) = true → granted = true) :
    ((b.setupPoint id granted).rfs g = RFS.TX ∧ ((b.setupPoint id granted).grp g).txFrom = RFS.SYNTH) ∧
    (b.setupPoint id granted).tf id = some { f with phase := .setup } ∧
    Chip.Only [.rf, .tx] (among [Reg.RFC_STATE g, Reg.RFC_CX_GRANT (coexSet g)]) b (b.setupPoint id granted) := by
  have denied : (b.t (Reg.RFC_CX_EN (coexSet g)) && !granted) = false := by
    cases en : b.t (Reg.RFC_CX_EN (coexSet g)) with
    | false => rfl
    | true => rw [may en]; rfl
  unfold Chip.setupPoint
  rw [hf]
  dsimp only
  rw [chain, synth, taken, denied, if_neg (by decide), if_neg (by decide), if_neg (by decide), if_neg (by decide), if_neg (by decide)]
  generalize hc : b.wb (Reg.RFC_CX_GRANT (coexSet g)) (!b.t (Reg.RFC_CX_EN (coexSet g)) || granted) = c
  have only : Chip.Only [.rf, .tx] (among [Reg.RFC_STATE g, Reg.RFC_CX_GRANT (coexSet g)]) b c := by
    rw [← hc]
    exact (Chip.Only.rfl' b _ _).w _ _ (among_mem (by simp))
  have goes : ((c.rfGo g RFS.TX).modGrp g (fun x => { x with txFrom := RFS.SYNTH, femHold := false })).grp g =
      { ((c.rfGo g RFS.TX).grp g) with txFrom := RFS.SYNTH, femHold := false } := Chip.modGrp_grp _ _ _
  refine ⟨⟨Chip.rfGo_rfs c g (st := RFS.TX) (by decide), congrArg Rf.txFrom goes⟩, Chip.tf_txPut _ _ _, ?_⟩
  refine .putTx (only.trans (((c.rfGo_only g _).mono (by decide) ?_).trans ((Chip.modGrp_only _ g _ _).mono (by decide) fun _ h => h))) (by decide) _
  rintro k rfl
  exact among_mem (by simp)

/-- In TX it joins. -/
theorem Chip.setupPoint_joins {b : Chip} {id g : Nat} {f : TxF} (granted : Bool) (hf : b.tf id = some f) (chain : f.chain = g) (taken : f.phase = .taken)
    (tx : b.rfs g = RFS.TX) : b.setupPoint id granted = b.txPut id { f with phase := .setup } := by
  unfold Chip.setupPoint
  rw [hf]
  dsimp only
  rw [chain, tx, if_neg (by rw [taken]; decide), if_pos rfl]

/-- Without its grant it fails. -/
theorem Chip.setupPoint_denied {b : Chip} {id g : Nat} {f : TxF} (hf : b.tf id = some f) (chain : f.chain = g) (taken : f.phase = .taken)
    (synth : b.rfs g = RFS.SYNTH) (en : b.t (Reg.RFC_CX_EN (coexSet g)) = true) (bare : f.item = none) (call : f.src ≠ .call) (train : ∀ c, f.src ≠ .wake c) :
    (b.setupPoint id false).rfs g = RFS.SYNTH ∧ (b.setupPoint id false).tf id = none ∧
    (b.setupPoint id false).r (Reg.RFC_CX_DENIED_CNT (coexSet g)) =
      satAdd (Reg.RFC_CX_DENIED_CNT (coexSet g)).w (b.r (Reg.RFC_CX_DENIED_CNT (coexSet g))) 1 := by
  have hg : g < 4 := chain ▸ f.chain_lt
  have hs := coexSet_lt g
  have cnt : (Reg.RFC_CX_GRANT (coexSet g)).key ≠ (Reg.RFC_CX_DENIED_CNT (coexSet g)).key := Fld.key_ne_row rfl rfl rfl rfl rfl
  unfold Chip.setupPoint
  rw [hf]
  dsimp only
  rw [chain, synth, taken, en, if_neg (by decide), if_neg (by decide), if_neg (by decide), if_pos (by decide)]
  generalize hd : (b.wb (Reg.RFC_CX_GRANT (coexSet g)) (!true || false)).modGrp g (fun x => { x with leaving := false }) = d
  have tf : d.tf id = some f := by rw [← hd]; exact hf
  have state : d.rfs g = RFS.SYNTH := by
    rw [← hd]
    refine (Chip.r_w_ne b (Reg.RFC_CX_GRANT (coexSet g)) (Reg.RFC_STATE g) (b2n (!true || false)) ?_).trans synth
    simp only [Fld.key, Reg.RFC_STATE, Reg.RFC_CX_GRANT]
    omega
  have denied : d.r (Reg.RFC_CX_DENIED_CNT (coexSet g)) = b.r (Reg.RFC_CX_DENIED_CNT (coexSet g)) := by
    rw [← hd]
    exact Chip.r_w_ne b _ _ (b2n (!true || false)) cnt
  have fails : d.coexDeny id = ((d.inc (Reg.RFC_CX_DENIED_CNT (coexSet g))).note (kDeny (coexSet g)) 1).txFail id COEX_DENIED := by
    rw [Chip.coexDeny, tf]
    dsimp only
    rw [chain]
  generalize he : (d.inc (Reg.RFC_CX_DENIED_CNT (coexSet g))).note (kDeny (coexSet g)) 1 = e at fails
  have etf : e.tf id = some f := by rw [← he]; exact tf
  obtain ⟨only, gone⟩ := Chip.txFail_only COEX_DENIED etf train call bare (by rw [taken]; decide)
  have release := (e.txFail id COEX_DENIED).coexRelease_only g
  rw [fails]
  refine ⟨?_, ?_, ?_⟩
  · refine (release.2 _ ?_).trans ((only.2 _ ?_).trans ?_)
    · simp only [offs, Fld.key, Reg.RFC_STATE]
      omega
    · simp only [failKey, offs, Fld.key, Reg.RFC_STATE]
      omega
    · rw [← he]
      refine (Chip.r_inc_ne d ?_).trans state
      simp only [Fld.key, Reg.RFC_STATE, Reg.RFC_CX_DENIED_CNT]
      omega
  · rw [Chip.tf, release.tx (by decide)]
    exact gone
  · have apart : ∀ x ∈ [Reg.RFC_CX_REQ (coexSet g), Reg.RFC_CX_PRI (coexSet g)], x.key ≠ (Reg.RFC_CX_DENIED_CNT (coexSet g)).key := by
      simp only [List.forall_mem_cons, List.not_mem_nil, false_implies, implies_true, and_true, Fld.key, Reg.RFC_CX_REQ, Reg.RFC_CX_PRI, Reg.RFC_CX_DENIED_CNT]
      omega
    have kept (x : Chip) : (x.coexRelease g).r (Reg.RFC_CX_DENIED_CNT (coexSet g)) = x.r (Reg.RFC_CX_DENIED_CNT (coexSet g)) :=
      Chip.coexRelease_r x g (apart _ (by simp)) (apart _ (by simp))
    have out : ¬ offs 0xC0100 0xC0200 (Reg.RFC_CX_DENIED_CNT (coexSet g)).key ∧ ¬ offs 0xC1000 0xC1200 (Reg.RFC_CX_DENIED_CNT (coexSet g)).key := by
      simp only [offs, Fld.key, Reg.RFC_CX_DENIED_CNT]
      omega
    rw [kept, Chip.txFail_eq COEX_DENIED etf train call, chain, kept, (Chip.onAir_only _).2 _ out.1,
      (Chip.txEnded_only bare (by rw [taken]; decide)).1.2 _ (not_or.mpr out), ← he, ← denied]
    exact Chip.r_inc_same d _

end Sys2Proof.Machine

open Sys2Proof Sys2Proof.Machine

/-- Settles O31. -/
theorem groupsTurnToTransmit : Obligations.GroupsTurnToTransmit := by
  intro s id g f hg
  have woken (n : Nat) : (s.b.lateWake n).tf id = s.b.tf id ∧ (s.b.lateWake n).rfs g = s.b.rfs g ∧
      (s.b.lateWake n).t (Reg.RFC_CX_EN (coexSet g)) = s.b.t (Reg.RFC_CX_EN (coexSet g)) ∧
      (s.b.lateWake n).r (Reg.RFC_CX_DENIED_CNT (coexSet g)) = s.b.r (Reg.RFC_CX_DENIED_CNT (coexSet g)) := by
    have only := s.b.lateWake_only n
    have out {x : Fld} (h : 0x80000 * 32 ≤ x.key) : ¬ x.key = Reg.PWR_LATE_WAKE.key := by
      rw [show Reg.PWR_LATE_WAKE.key = 0x20218 * 32 from rfl]
      omega
    have low {x : Fld} (h : 0x80000 ≤ x.off) : 0x80000 * 32 ≤ x.key := by unfold Fld.key; omega
    refine ⟨?_, only.2 _ (out (low ?_)), only.t _ (out (low ?_)), only.2 _ (out (low ?_))⟩
    · rw [Chip.tf, only.tx (by decide), Chip.tf]
    · simp only [Reg.RFC_STATE]
      omega
    · simp only [Reg.RFC_CX_EN]
      omega
    · simp only [Reg.RFC_CX_DENIED_CNT]
      omega
  refine ⟨fun rx hf chain taken => ?_, fun off => ?_, fun granted hf chain taken => ⟨fun synth may => ?_, fun synth en no bare call train => ?_, fun tx => ?_⟩,
    fun tx => ?_, fun off => ?_, ?_, fun a hf setup ack prompt single ha => ?_, fun hf air ack noPend chain => ?_⟩
  · have some' : (s.b.chainTx g).any (fun e => e.2.phase == TxPhase.taken) = true :=
      List.any_eq_true.mpr ⟨(id, f), List.mem_filter.mpr ⟨mem_of_kget hf, by simp [chain]⟩, by simp [taken]⟩
    refine ⟨_, rfl, ?_⟩
    dsimp only
    rw [Chip.rxToTx, if_pos ⟨rx, some'⟩]
    have ends := s.b.endGroup_only g CAUSE.TX_BLANK
    have state : (s.b.endGroup g CAUSE.TX_BLANK).rfs g = RFS.RX := (ends.2 _ fun h => rfState_notEnd hg h rfl).trans rx
    refine ⟨rfl, congrArg Rf.leaving (Chip.modGrp_grp _ _ _), state, fun bare present on => ?_⟩
    rw [Chip.endGroup_bare bare]
    exact Chip.femPins_leaving (b := s.b.modGrp g fun x => { x with leaving := true }) present on rx (congrArg Rf.leaving (Chip.modGrp_grp _ _ _))
  · rw [exec_rxToTx, execRxToTx, State.on_eq, Chip.rxToTx, if_neg]
    rintro ⟨rx, h⟩
    obtain off | off := off
    · exact off rx
    · obtain ⟨e, he, taken⟩ := List.any_eq_true.mp h
      exact off e he (eq_of_beq taken)
  · refine ⟨_, rfl, ?_⟩
    dsimp only
    generalize b2n _ = n
    obtain ⟨tf, state, en, -⟩ := woken n
    obtain ⟨⟨goes, from'⟩, up, only⟩ := Chip.setupPoint_granted granted (tf.trans hf) chain taken (state.trans synth) (by rw [en]; exact may)
    refine ⟨rfl, goes, from', up, Chip.Only.regs (ps := [.rf, .tx]) (b := s.b) (.trans ((s.b.lateWake_only n).mono (by decide) ?_) (only.mono (by decide) ?_)) rfl
      fun _ => rfl⟩
    · rintro k rfl
      exact among_mem (by simp)
    · exact among_mono (by simp)
  · refine ⟨_, rfl, ?_⟩
    dsimp only
    generalize b2n _ = n
    obtain ⟨tf, state, en', cnt⟩ := woken n
    rw [no]
    obtain ⟨stays, gone, count⟩ := Chip.setupPoint_denied (tf.trans hf) chain taken (state.trans synth) (en'.trans en) bare call train
    exact ⟨rfl, stays, gone, count.trans (by rw [cnt])⟩
  · refine ⟨_, rfl, ?_⟩
    dsimp only
    generalize b2n _ = n
    obtain ⟨tf, state, -, -⟩ := woken n
    rw [Chip.setupPoint_joins granted (tf.trans hf) chain taken (state.trans tx)]
    refine ⟨rfl, Chip.tf_txPut _ _ _, Chip.Only.regs (ps := [.tx]) (b := s.b) (.trans ((s.b.lateWake_only n).mono (by decide) ?_)
      ((Chip.txPut_only _ _ _).mono (by decide) fun _ h => h.elim)) rfl fun _ => rfl⟩
    rintro k rfl
    exact among_mem (by simp)
  · have early : ((s.b.modGrp g fun x => { x with femEarly := true }).grp g).femEarly = true := congrArg Rf.femEarly (Chip.modGrp_grp _ _ _)
    refine ⟨_, rfl, ?_⟩
    dsimp only
    rw [Chip.femEarlyOn, if_pos tx]
    exact ⟨rfl, early, Chip.Only.regs (ps := [.rf]) (b := s.b) (Chip.modGrp_only _ _ _ _) rfl fun _ => rfl, fun present on =>
      Chip.femPins_early (b := s.b.modGrp g fun x => { x with femEarly := true }) present on tx early⟩
  · rw [exec_femEarly, execFemEarly, State.on_eq, Chip.femEarlyOn, if_neg off]
  · exact ⟨_, rfl, rfl, congrArg Rf.femHold (Chip.modGrp_grp _ _ _), Chip.Only.regs (ps := [.rf]) (Chip.modGrp_only s.b g (fun x => { x with femHold := false }) _) rfl fun _ => rfl⟩
  · obtain ⟨starts, shape⟩ := Chip.carrierStart_ack hf setup ack prompt single
    replace shape : s.b.onAirFrame f = a := by
      rw [shape, ha] <;> rfl
    rw [shape] at starts
    have kept : a.tc = f.tc ∧ a.node = f.node := by rw [ha]; exact ⟨rfl, rfl⟩
    have shown := (Chip.txPut_only s.b id a).mono (qs := [.tx]) (ss := among (Reg.MAC_ACK_SENT :: (List.range 4).map Reg.TXP_ON_AIR)) (by decide) fun _ h => h.elim
    refine ⟨_, rfl, ?_⟩
    dsimp only
    rw [starts]
    have onAir := (s.b.txPut id a).onAir_shows
    generalize he : ((s.b.txPut id a).onAir).emit (.air a) = e at starts ⊢
    have only : Chip.Only [.tx, .out] (among ((List.range 4).map Reg.TXP_ON_AIR)) s.b e := by
      rw [← he]
      exact .putOut (((Chip.txPut_only s.b id a).mono (by decide) fun _ h => h.elim).trans (onAir.mono (by decide) fun _ h => h)) (by decide) _
    have cnt : e.r Reg.MAC_ACK_SENT = s.b.r Reg.MAC_ACK_SENT := by
      rw [← he]
      exact (s.b.txPut id a).onAir_only.2 Reg.MAC_ACK_SENT (show ¬ offs 0xC0100 0xC0200 Reg.MAC_ACK_SENT.key by decide)
    have tx : e.tf id = some a := by
      rw [← he]
      exact (onAir.tf (by decide) id).trans (Chip.tf_txPut _ _ _)
    have out : e.out = .air a :: s.b.out := by
      rw [← he]
      exact congrArg (Out.air a :: ·) (onAir.out (by decide))
    have sent : Chip.Only [.mac] (among [Reg.MAC_ACK_SENT, Reg.MAC_TC_CLAMP]) e (e.ackSent f) := by
      cases tc : f.tc with
      | none =>
        rw [Chip.ackSent_plain tc]
        exact (Chip.Only.rfl' e _ _).inc _ (among_mem (by simp))
      | some x => exact (Chip.ackSent_tc tc).2
    refine ⟨rfl, (sent.tf (by decide) id).trans tx, (sent.out (by decide)).trans out, (Chip.ackSent_cnt e f).trans (by rw [cnt]), fun none => ?_, fun x some' => ?_⟩
    · rw [Chip.ackSent_plain none]
      refine Chip.Only.regs (ps := [.tx, .out]) (b := s.b) (.inc (only.mono (by decide) ?_) _ (among_mem (by simp))) rfl fun _ => rfl
      exact among_mono fun x hx => List.mem_cons_of_mem _ hx
    · refine ⟨(Chip.ackSent_tc some').1, Chip.Only.regs (ps := [.mac, .tx, .out]) (b := s.b) ((only.mono (by decide) ?_).trans (sent.mono (by decide) ?_)) rfl
        fun _ => rfl⟩
      · exact among_mono fun x hx => List.mem_cons_of_mem _ (List.mem_cons_of_mem _ hx)
      · exact among_mono (by simp)
  · have noAir := Chip.txEnd_ack hf air ack noPend
    rw [chain] at noAir
    have apart : (Reg.TXP_AIRTIME_US g).key ≠ (Reg.TXP_ACKS_OK g).key := Fld.key_ne_row rfl rfl rfl rfl rfl
    refine ⟨_, rfl, ?_⟩
    dsimp only
    rw [noAir]
    obtain ⟨d, hd, hc⟩ : ∃ d, d = s.b.txDel id ∧ d.r = s.b.r := ⟨_, rfl, rfl⟩
    rw [← hd]
    have gone : d.tf id = none := hd ▸ Chip.tf_txDel _ _
    have same : Chip.Only [.tx] noReg s.b d := hd ▸ Chip.txDel_only _ _
    generalize he : (d.inc (Reg.TXP_ACKS_OK g)).add (Reg.TXP_AIRTIME_US g) f.airUs = e
    have tx : e.tx = d.tx := by rw [← he]; rfl
    have idle := e.txIdle_only hg
    have counted {x : Fld} {n : Nat} (hx : x.off = n + 0x40 * g) (lo : 0xC1000 ≤ n) : ¬ carrierEnd x.key := by
      unfold carrierEnd offs Fld.key
      omega
    refine ⟨rfl, ?_, ?_, ?_, fun state last want => ?_⟩
    · obtain ⟨x, hx⟩ := e.txIdle_tx g
      rw [Chip.tf, hx, tx]
      exact gone
    · rw [idle.2 _ (counted rfl (by decide)), ← he, ← hc]
      exact (Chip.r_w_ne _ _ _ _ apart).trans (Chip.r_inc_same d _)
    · rw [idle.2 _ (counted rfl (by decide)), ← he, ← hc, ← Chip.r_inc_ne d apart.symm]
      exact (Chip.r_w_same _ _ _).trans (satAdd_mod _ _ _)
    · have low {x : Fld} (h : x.key < 0xC1000 * 32) : e.r x = s.b.r x := by
        have ne {y : Fld} (hy : 0xC1000 ≤ y.off) : y.key ≠ x.key := by
          unfold Fld.key at h ⊢
          omega
        rw [← he, ← hc]
        refine (Chip.r_w_ne _ _ _ _ (ne ?_)).trans (Chip.r_inc_ne d (ne ?_)) <;> simp only [Reg.TXP_AIRTIME_US, Reg.TXP_ACKS_OK] <;> omega
      refine Chip.txIdle_rx hg ((low ?_).trans state) ?_ ?_
      · simp only [Fld.key, Reg.RFC_STATE]
        omega
      · rw [tx, hd]
        show kdel s.b.tx.frames id = []
        rw [last]
        simp [kdel]
      · have only : Chip.Only [.tx] (from_ 0xC1000) s.b e := by
          rw [← he]
          refine ((same.mono (by decide) fun _ h => h.elim).inc _ ?_).w _ _ ?_ <;> simp only [from_, Fld.key, Reg.TXP_AIRTIME_US, Reg.TXP_ACKS_OK] <;> omega
        rw [only.rfTarget (by decide) (by decide) (by decide) (by decide) (by decide), want]
end

section
/-!
SUPPORT. Commands that change more than their command block (R530 to R533), and the commands of SEC (R340, R345).
-/
namespace Sys2Proof.Machine

/-! ### A command with effects -/

/-- The keys that accepting and completing a command of a block touch. -/
def blockKey (base k : Nat) : Prop := k = Reg.NTC_INT_PEND.key ∨ offs (base + 4) (base + 0x94) k

theorem Chip.cmdAccept_only (b : Chip) (base : Nat) (irq : Bool) : Chip.Only [.cmdIrq] (blockKey base) b (b.cmdAccept base irq) :=
  ⟨rfl, fun _ hf => Chip.cmdAccept_r _ _ _ _ (by unfold blockKey offs at hf; omega)⟩

theorem Chip.cmdFinish_only (b : Chip) (base code : Nat) (l : List Nat) : Chip.Only [.cmdIrq, .ntc, .out] (blockKey base) b (b.cmdFinish base code l) :=
  ⟨Chip.SameBut.finish b base code l, fun _ hf => Chip.cmdFinish_r _ _ _ _ _ (fun e => hf (.inl e)) (by unfold blockKey offs at hf; omega)⟩

theorem Chip.Only.onlyBlock {b c : Chip} {base : Nat} (h : Chip.Only [.cmdIrq, .ntc, .out] (blockKey base) b c) : Chip.OnlyBlock b c base :=
  ⟨h.1, fun f hp hb => h.2 f fun hk => hk.elim hp (by unfold offs; omega)⟩

/-- A command that runs with effects completes; they stay, and its command block records the answer. -/
theorem Runs.ran {i : Instr} {s : State} {base : Nat} {irq : Bool} {f : Chip → CmdOut} {c : Chip} {code : Nat} {l : List Nat} {ps : List Part}
    {rs : Nat → Prop} (run : exec i s = .next { s with b := s.b.cmd base irq f }) (takes : s.b.takes base = true) (hb : base ∈ cbBases) (hc : code < 256)
    (hf : f (s.b.cmdAccept base irq) = ⟨c, code, l⟩) (only : Chip.Only ps rs (s.b.cmdAccept base irq) c) :
    Runs i s (fun t => t.mem = s.mem ∧ t.b.Completed base code l ∧
      Chip.Only (.cmdIrq :: .ntc :: .out :: ps) (fun k => blockKey base k ∨ rs k) s.b t.b ∧ Chip.Only [.cmdIrq, .ntc, .out] (blockKey base) c t.b) := by
  refine Runs.cmd run takes (cbBases_apart hb) hc hf fun d hd completed => ⟨rfl, completed, ?_, hd ▸ c.cmdFinish_only base code l⟩
  have all : ∀ p ∈ ps, p ∈ Part.cmdIrq :: .ntc :: .out :: ps := fun p hp => by simp [hp]
  exact (((s.b.cmdAccept_only base irq).mono (by simp) fun _ => .inl).trans (only.mono all fun _ => .inr)).trans
    (hd ▸ (c.cmdFinish_only base code l).mono (by simp) fun _ => .inl)

/-- Completion is recorded in the command block, whose registers are neither the Seam's nor the notice block's. -/
theorem Chip.Completed.settle {b : Chip} {base code : Nat} {l : List Nat} (h : b.Completed base code l) (quiet : b.Quiet)
    (apart : base + 0x94 ≤ 0x220000 ∨ 0x230000 ≤ base) : b.settle.Completed base code l := by
  obtain ⟨hcode, done, busy, results⟩ := h
  have same {f : Fld} (lo : base ≤ f.off) (hi : f.off < base + 0x94) (le : Nat.ble (f.lo + 1) 32 = true) : b.settle.r f = b.r f :=
    (Chip.settle_only quiet).2 _ fun e => by
      have := Nat.le_of_ble_eq_true le
      unfold offs Fld.key at e
      omega
  refine ⟨(same ?_ ?_ rfl).trans hcode, (same ?_ ?_ rfl).trans done, (same ?_ ?_ rfl).trans busy, fun j hj => (same ?_ ?_ rfl).trans (results j hj)⟩ <;>
    simp only [cbCODE, cbDONE, cbBUSY, cbRESULT] <;> omega

/-- A command after which the device settles, where nothing waits on it. -/
theorem Runs.settled {i : Instr} {s : State} {base : Nat} {irq : Bool} {f : Chip → CmdOut} {c : Chip} {code : Nat} {l : List Nat}
    (run : exec i s = .next { s with b := (s.b.cmd base irq f).settle }) (takes : s.b.takes base = true) (hb : base ∈ cbBases) (hc : code < 256)
    (hf : f (s.b.cmdAccept base irq) = ⟨c, code, l⟩) (quiet : c.Quiet) (apart : base + 0x94 ≤ 0x220000 ∨ 0x230000 ≤ base) :
    Runs i s (fun t => t.mem = s.mem ∧ t.b.Completed base code l ∧ ∃ d, Chip.Only [.cmdIrq, .ntc, .out] (blockKey base) c d ∧
      Chip.Only [.sea, .out] (offs 0x220000 0x230000) d t.b) := by
  have quiet' := (c.cmdFinish_only base code l).quiet (by decide) (by decide) quiet
  refine ⟨_, run, rfl, ?_⟩
  dsimp only
  rw [Chip.cmd_takes _ _ takes, hf]
  exact ⟨(Chip.cmdFinish_completed c base code l (cbBases_apart hb) hc).settle quiet' apart, _, c.cmdFinish_only base code l, Chip.settle_only quiet'⟩

/-! ### A command that names a node (R295) -/

/-- The keys of the counts of the context cache. -/
def cacheKey (k : Nat) : Prop :=
  k = Reg.MAC_CACHE_HIT.key ∨ k = Reg.MAC_CACHE_MISS.key ∨ k = Reg.MAC_CACHE_USED.key ∨ k = Reg.MAC_CACHE_PINNED.key

theorem cacheKey_mac {k : Nat} (h : cacheKey k) : offs 0x100000 0x101000 k := by
  rcases h with rfl | rfl | rfl | rfl <;> decide

theorem Chip.cacheFetch_only (b : Chip) (n : Nat) : Chip.Only [.mac] cacheKey b (b.cacheFetch n) := by
  unfold Chip.cacheFetch Chip.cacheCount
  split
  · exact ((Chip.Only.rfl' b _ _).putMac (by decide) _).inc _ (by simp [cacheKey])
  · exact ((((Chip.Only.rfl' b _ _).putMac (by decide) _).inc _ (by simp [cacheKey])).w _ _ (by simp [cacheKey])).w _ _ (by simp [cacheKey])

theorem Chip.named_only (b : Chip) (n : Nat) : Chip.Only [.mac] cacheKey b (b.named n) := .ite (.rfl' b _ _) (b.cacheFetch_only n)

theorem Chip.cacheFetch_mac (b : Chip) (n : Nat) : (b.cacheFetch n).mac = { b.mac with cache := (b.cacheFetch n).mac.cache } := by
  unfold Chip.cacheFetch
  split <;> rfl

theorem Chip.named_mac (b : Chip) (n : Nat) : (b.named n).mac = { b.mac with cache := (b.named n).mac.cache } := by
  unfold Chip.named
  split
  · rfl
  · exact b.cacheFetch_mac n

theorem Chip.named_node (b : Chip) (n : Nat) : (b.named n).node = b.node := by
  unfold Chip.named
  split
  · rfl
  · exact b.cacheFetch_node n

theorem Chip.Only.onlyNamed {b c : Chip} {base : Nat} (h : Chip.Only [.cmdIrq, .ntc, .out, .mac] (fun k => blockKey base k ∨ cacheKey k) b c)
    (mac : c.mac = { b.mac with cache := c.mac.cache }) : Chip.OnlyNamed b c base := by
  refine ⟨?_, fun f pend hit miss used pinned hb => h.2 f ?_⟩
  · rw [← mac]
    exact h.1
  · rintro ((e | e) | e | e | e | e)
    · exact pend e
    · unfold offs at e
      omega
    · exact hit e
    · exact miss e
    · exact used e
    · exact pinned e

/-! ### Reservations of counter blocks (R340) -/

theorem Chip.reserve_only (b : Chip) (cid epoch : Nat) (ok : Bool) :
    Chip.Only [.sec, .ntc, .out] (fun k => offs 0x50000 0x60000 k ∨ offs 0x140000 0x150000 k) b (b.reserve cid epoch ok).1 := by
  have raised {c : Chip} (h : Chip.Only [.sec, .ntc, .out] (fun k => offs 0x50000 0x60000 k ∨ offs 0x140000 0x150000 k) b c) (src code arg : Nat) :
      Chip.Only [.sec, .ntc, .out] (fun k => offs 0x50000 0x60000 k ∨ offs 0x140000 0x150000 k) b (c.raise src code arg) :=
    h.trans ((c.raise_only src code arg).mono (by decide) fun _ => .inl)
  unfold Chip.reserve
  dsimp only
  split
  · exact .rfl' b _ _
  · split
    · exact raised ((Chip.Only.rfl' b _ _).inc _ (.inr (by decide))) _ _ _
    · have kept (x : Sec) : Chip.Only [.sec, .ntc, .out] (fun k => offs 0x50000 0x60000 k ∨ offs 0x140000 0x150000 k) b
          (Chip.inc { b with sec := x } Reg.SEC_BLOCKS_RESERVED) := ((Chip.Only.rfl' b _ _).putSec (by decide) x).inc _ (.inr (by decide))
      exact .ite (raised (kept _) _ _ _) (kept _)

theorem Chip.advance_only (b : Chip) (cid epoch : Nat) (ok : Bool) :
    Chip.Only [.sec, .ntc, .out] (fun k => offs 0x50000 0x60000 k ∨ offs 0x140000 0x150000 k) b (b.advance cid epoch ok).1 := by
  have reserved := b.reserve_only cid epoch ok
  unfold Chip.advance
  split
  · exact (Chip.Only.rfl' b _ _).putSec (by decide) _
  · split
    · rename_i b1 k e
      rw [e] at reserved
      exact reserved.putSec (by decide) _
    · exact reserved

/-! ### The commands of SEC -/

theorem Chip.cidEpoch_same {b c : Chip} (sec : c.sec = b.sec) (key : c.key = b.key) (node : c.node = b.node) (i : Nat) : c.cidEpoch i = b.cidEpoch i := by
  simp only [Chip.cidEpoch, Chip.ns, Chip.nd, node, sec, Chip.pocket, key]
  rfl

theorem Chip.nextFc_same {b c : Chip} (sec : c.sec = b.sec) (key : c.key = b.key) (pat : c.node = b.node) (parity : c.r Reg.SEC_PARITY = b.r Reg.SEC_PARITY)
    (i : Nat) : c.nextFc i = b.nextFc i := by
  have epoch : c.cidEpoch i = b.cidEpoch i := by 
    simp only [Chip.cidEpoch, Chip.ns, Chip.nd, pat, sec, Chip.pocket, key]
    rfl
  unfold Chip.nextFc Chip.nextBlock Chip.recAt Chip.liveAt
  rw [epoch, sec, parity]

theorem Chip.readCounter_answers {b : Chip} {i : Nat} {c : Ceil} (arg : b.arg cbSEC 0 = i) (cid : b.cidOk i = true) (hc : kget b.sec.ceil i = some c) :
    b.readCounter = b.done [b.nextFc i, c.ceiling, c.epoch, b.r Reg.SEC_PARITY] := by
  unfold Chip.readCounter
  rw [arg]
  dsimp only
  rw [cid, hc, if_neg (by decide)]

theorem Chip.mapRead_none {b : Chip} {i : Nat} (arg : b.arg cbSEC 0 = i) (low : i ≤ 31) (h : kget b.sec.map i = none) :
    b.mapRead = ⟨b, OK, [0, 0, 0]⟩ := by
  unfold Chip.mapRead
  rw [arg]
  dsimp only
  rw [if_neg (Nat.not_lt.mpr low), h]
  rfl

theorem Chip.mapRead_some {b : Chip} {i : Nat} {e : MapEnt} (arg : b.arg cbSEC 0 = i) (low : i ≤ 31) (h : kget b.sec.map i = some e) :
    b.mapRead = ⟨b, OK, [e.word, e.source % 2 ^ 32, e.source / 2 ^ 32]⟩ := by
  unfold Chip.mapRead
  rw [arg]
  dsimp only
  rw [if_neg (Nat.not_lt.mpr low)]
  split
  · rename_i none
    exact absurd (h.symm.trans none) (by simp)
  · rename_i x some
    cases h.symm.trans some
    rfl

/-- An entry that MAP_WRITE takes is written alone. -/
theorem Chip.mapWrite_takes {b : Chip} {i : Nat} {e : MapEnt} (arg : b.arg cbSEC 0 = i) (low : i ≤ 31)
    (he : e = { valid := bit (b.arg cbSEC 1) 31, mode := bits (b.arg cbSEC 1) 0 2, index := bits (b.arg cbSEC 1) 8 8, pocket := bits (b.arg cbSEC 1) 16 12, source := b.arg cbSEC 2 + b.arg cbSEC 3 * 2 ^ 32 })
    (mode : e.mode ≠ 0) (index : e.index ≠ 0) (source : e.source < 2 ^ (if e.mode = 1 then 0 else if e.mode = 2 then 32 else 64))
    (alone : e.valid = true → ∀ x ∈ b.sec.map, x.1 ≠ i → x.2.valid = true → ¬ (x.2.mode = e.mode ∧ x.2.source = e.source ∧ x.2.index = e.index)) :
    b.mapWrite = (Chip.w { b with sec := { b.sec with map := kput b.sec.map i e } } Reg.SEC_MAP_USED
      ((kput b.sec.map i e).filter (fun x => x.2.valid)).length).done [((kget b.sec.map i).map MapEnt.word).getD 0] := by
  have none : ¬ (e.valid && b.sec.map.any
      (fun x => x.1 != i && x.2.valid && x.2.mode == e.mode && x.2.source == e.source && x.2.index == e.index)) = true := by
    simp only [Bool.and_eq_true, List.any_eq_true, bne_iff_ne, beq_iff_eq, not_and, not_exists]
    exact fun valid x hx h n => alone valid x hx h.1.1.1 h.1.1.2 ⟨h.1.2, h.2, n⟩
  subst he
  unfold Chip.mapWrite
  rw [arg]
  dsimp only at none mode index source ⊢
  rw [if_neg (by omega), if_neg none]
  cases kget b.sec.map i with
  | none => rw [Option.map_none, Option.getD_none]
  | some x => rw [Option.map_some, Option.getD_some]

/-- The code and the results by which SKIP_BLOCK answers a reservation. -/
def Resv.answer : Resv → Nat × List Nat
  | .block v => (OK, [v])
  | .exhausted => (NO_RESOURCE, [])
  | .failed => (ECC_FAULT, [])

theorem Resv.answer_lt (r : Resv) : r.answer.1 < 256 := by
  cases r <;> simp [Resv.answer, OK, NO_RESOURCE, ECC_FAULT]

theorem Chip.skipBlock_advances {b b1 : Chip} {i : Nat} {r : Resv} (ok : Bool) (arg : b.arg cbSEC 0 = i) (cid : b.cidOk i = true) (role : b.isStandby = false)
    (gap : b.gap = false) (h : b.advance i (b.cidEpoch i) ok = (b1, r)) :
    b.skipBlock ok = ⟨b1, r.answer.1, r.answer.2⟩ := by
  unfold Chip.skipBlock
  simp only [arg, cid, role, Chip.inGap, gap, h]
  cases r <;> rfl

end Sys2Proof.Machine

open Sys2Proof Sys2Proof.Machine

/-- Settles O45. -/
theorem countersAndKeyMap : Obligations.CountersAndKeyMap := by
  intro s irq takes
  have sec : cbSEC ∈ cbBases := by decide
  refine ⟨fun i c hi cid hc => ?_, fun i hi low => ⟨fun none => ?_, fun e some => ?_, fun w e hw he mode index source alone => ?_⟩,
    fun i ok b1 r hi quiet cid role gap h => ?_⟩
  · have named := (s.b.cmdAccept cbSEC irq).named_only i
    generalize hd : (s.b.cmdAccept cbSEC irq).named i = d at named
    have node : d.node = s.b.node := by rw [← hd, Chip.named_node, Chip.cmdAccept_node]
    have low := named.mono (fun _ => id) fun _ => cacheKey_mac
    have arg : d.arg cbSEC 0 = i := (low.2 _ (by decide)).trans ((Chip.cmdAccept_arg _ _ _ _).trans hi.symm)
    have parity : d.r Reg.SEC_PARITY = s.b.r Reg.SEC_PARITY := (low.2 _ (by decide)).trans (Chip.cmdAccept_r _ _ _ _ (by decide))
    have same : d.readCounter = ⟨d, OK, [s.b.nextFc i, c.ceiling, c.epoch, s.b.r Reg.SEC_PARITY]⟩ := by
      rw [Chip.readCounter_answers arg (by rw [Chip.cidOk, named.pat (by decide)]; exact cid) (by rw [named.sec (by decide)]; exact hc), parity,
        Chip.nextFc_same (b := s.b) (named.sec (by decide)) (named.key (by decide)) node parity]
      rfl
    refine (Runs.ran (f := fun c => (c.named (c.arg cbSEC 0)).readCounter) rfl takes sec (by decide) ?_ named).imp fun t ⟨mem, completed, only, kept⟩ =>
      ⟨mem, only.onlyNamed ?_, completed⟩
    · simp only [Chip.cmdAccept_arg, ← hi, hd]
      exact same
    · rw [kept.mac (by decide), ← hd]
      exact Chip.named_mac _ i
  · refine Runs.answers (f := fun c => c.mapRead) rfl takes sec (by decide) ?_
    exact Chip.mapRead_none ((Chip.cmdAccept_arg _ _ _ _).trans hi.symm) low none
  · refine Runs.answers (f := fun c => c.mapRead) rfl takes sec (by decide) ?_
    exact Chip.mapRead_some ((Chip.cmdAccept_arg _ _ _ _).trans hi.symm) low some
  · have takes' : (s.b.cmdAccept cbSEC irq).mapWrite = _ := Chip.mapWrite_takes ((Chip.cmdAccept_arg _ _ _ _).trans hi.symm) low
      (by rw [Chip.cmdAccept_arg, Chip.cmdAccept_arg, Chip.cmdAccept_arg, ← hw]; exact he) mode index source alone
    rw [Chip.cmdAccept_sec] at takes'
    have written := ((Chip.Only.rfl' (s.b.cmdAccept cbSEC irq) [.sec] (· = Reg.SEC_MAP_USED.key)).putSec (by decide)
      { s.b.sec with map := kput s.b.sec.map i e }).w Reg.SEC_MAP_USED ((kput s.b.sec.map i e).filter (fun x => x.2.valid)).length rfl
    refine (Runs.ran (f := fun c => c.mapWrite) rfl takes sec (by decide) takes' written).imp fun t ⟨mem, completed, only, kept⟩ => ?_
    have ht : t.b.sec = { s.b.sec with map := kput s.b.sec.map i e } := kept.sec (by decide)
    refine ⟨mem, ht, ?_, ?_, fun none => by rwa [none, Option.map_none, Option.getD_none] at completed,
      fun x some => by rwa [some, Option.map_some, Option.getD_some] at completed⟩
    · rw [ht]
      exact .trans (b := Chip.w { s.b with sec := { s.b.sec with map := kput s.b.sec.map i e } } _ _) (.w (.accept _ cbSEC irq) _ _) kept.onlyBlock
    · rw [ht]
      exact (kept.2 _ (by unfold blockKey; decide)).trans (Chip.r_w_same _ _ _)
  · have named := (s.b.cmdAccept cbSEC irq).named_only i
    generalize hd : (s.b.cmdAccept cbSEC irq).named i = d at named h
    have node : d.node = s.b.node := by rw [← hd, Chip.named_node, Chip.cmdAccept_node]
    have low := named.mono (fun _ => id) fun _ => cacheKey_mac
    have arg : d.arg cbSEC 0 = i := (low.2 _ (by decide)).trans ((Chip.cmdAccept_arg _ _ _ _).trans hi.symm)
    have epoch : d.cidEpoch i = s.b.cidEpoch i :=
      Chip.cidEpoch_same (b := s.b) (named.sec (by decide)) (named.key (by decide)) node i
    have role' : d.isStandby = false := by
      rw [Chip.isStandby, Chip.role, low.2 _ (by decide), Chip.cmdAccept_r _ _ _ _ (by decide)]
      exact role
    have cid' : d.cidOk i = true := by
      rw [Chip.cidOk, named.pat (by decide)]
      exact cid
    have skips := Chip.skipBlock_advances (b1 := b1) (r := r) ok arg cid' role' (by rw [named.gap (by decide)]; exact gap) (by rw [epoch]; exact h)
    have code : r.answer.1 < 256 := r.answer_lt
    have only := (s.b.cmdAccept cbSEC irq).named_only i
    have advanced := d.advance_only i (s.b.cidEpoch i) ok
    rw [h] at advanced
    rw [hd] at only
    have run : Runs (.skipBlock irq ok) s (fun t => t.mem = s.mem ∧ t.b.sec = b1.sec ∧ t.b.Completed cbSEC r.answer.1 r.answer.2) := by
      refine (Runs.settled (f := fun c => (c.named (c.arg cbSEC 0)).skipBlock ok) rfl takes sec code ?_ ?_ (by decide)).imp fun t ⟨mem, completed, e, done, settled⟩ =>
        ⟨mem, (settled.sec (by decide)).trans (done.sec (by decide)), completed⟩
      · simp only [Chip.cmdAccept_arg, ← hi, hd]
        exact skips
      · exact advanced.quiet (by decide) (by decide) (only.quiet (by decide) (by decide) quiet)
    refine run.imp fun t ⟨mem, state, completed⟩ => ⟨mem, state, ?_, ?_, ?_⟩ <;> intros <;> subst r <;> exact completed
end

section
/-!
SUPPORT. Pockets: commits, loads, promotions, invalidation and zeroising (R350 to R361, R372, R585).
-/
namespace Sys2Proof.Machine

/-! ### Commits (R350, R351) -/

/-- The registers of KEY after its control word. -/
abbrev keyKey (k : Nat) : Prop := offs 0x150100 0x150230 k

theorem Chip.keyCounts_only (b : Chip) : Chip.Only [] (offs 0x150108 0x15011C) b b.keyCounts := by
  unfold Chip.keyCounts
  exact (((((((Chip.Only.rfl' b _ _).w _ _ (by decide)).w _ _ (by decide)).w _ _ (by decide)).w _ _ (by decide)).w _ _ (by decide)).w _ _ (by decide)).w _ _
    (by decide)

theorem Chip.writePocket_only (b : Chip) (p : Nat) (x : Option Pocket) : Chip.Only [.key] (offs 0x150108 0x15011C) b (b.writePocket p x) :=
  ((Chip.Only.rfl' b _ _).putKey (by decide) _).trans ((Chip.keyCounts_only _).mono (by decide) fun _ => id)

/-- A commit changes the pockets and their copies alone. -/
theorem Chip.writePocket_key (b : Chip) (p : Nat) (x : Option Pocket) :
    ∃ ps cs, (b.writePocket p x).key = { b.key with pockets := ps, copies := cs } := ⟨_, _, (Chip.keyCounts_only _).key (by decide)⟩

theorem Chip.writePocket_pocket (b : Chip) (p q : Nat) (x : Option Pocket) : (b.writePocket p x).pocket q = if p = q then x else b.pocket q := by
  have same : (b.writePocket p x).key.pockets = match x with | some y => kput b.key.pockets p y | none => kdel b.key.pockets p :=
    congrArg Key.pockets ((Chip.keyCounts_only _).key (by decide))
  rw [Chip.pocket, same]
  cases x with
  | none => exact kget_kdel _ _ _
  | some y => exact kget_kput _ _ _ _

/-- A pocket as it is committed: a change of state is stamped. -/
def Chip.stamped (b : Chip) (p : Nat) (y : Pocket) : Pocket :=
  match b.pocket p with
  | some o => if y.state = o.state then { y with stateStitch := o.stateStitch } else { y with stateStitch := b.stitch32 }
  | none => { y with stateStitch := b.stitch32 }

theorem Chip.commitPocket_eq (b : Chip) (p : Nat) (x : Option Pocket) : b.commitPocket p x = b.writePocket p (x.map (b.stamped p)) := rfl

theorem Chip.stamped_new {b : Chip} {p : Nat} (h : b.pocket p = none) (y : Pocket) : b.stamped p y = { y with stateStitch := b.stitch32 } := by
  rw [Chip.stamped, h]

theorem Chip.stamped_same {b : Chip} {p : Nat} {x y : Pocket} (h : b.pocket p = some x) (state : y.state = x.state) (stitch : y.stateStitch = x.stateStitch) :
    b.stamped p y = y := by
  rw [Chip.stamped, h]
  dsimp only
  rw [if_pos state, ← stitch]

theorem Chip.stamped_state (b : Chip) (p : Nat) (y : Pocket) : (b.stamped p y).state = y.state := by
  unfold Chip.stamped
  split
  · split <;> rfl
  · rfl

theorem Chip.stamped_key (b : Chip) (p : Nat) (y : Pocket) : (b.stamped p y).key = y.key := by
  unfold Chip.stamped
  split
  · split <;> rfl
  · rfl

theorem Chip.commitPocket_only (b : Chip) (p : Nat) (x : Option Pocket) : Chip.Only [.key] (offs 0x150108 0x15011C) b (b.commitPocket p x) :=
  b.writePocket_only p _

theorem Chip.commitPocket_key (b : Chip) (p : Nat) (x : Option Pocket) :
    ∃ ps cs, (b.commitPocket p x).key = { b.key with pockets := ps, copies := cs } := b.writePocket_key p _

theorem Chip.commitPocket_same (b : Chip) (p : Nat) (x : Option Pocket) : (b.commitPocket p x).pocket p = x.map (b.stamped p) := by
  rw [Chip.commitPocket_eq, Chip.writePocket_pocket, if_pos rfl]

theorem Chip.commitPocket_ne (b : Chip) {p q : Nat} (x : Option Pocket) (ne : q ≠ p) : (b.commitPocket p x).pocket q = b.pocket q := by
  rw [Chip.commitPocket_eq, Chip.writePocket_pocket, if_neg ne.symm]

theorem Chip.modPocket_only (b : Chip) (p : Nat) (f : Pocket → Pocket) : Chip.Only [.key] (offs 0x150108 0x15011C) b (b.modPocket p f) := by
  unfold Chip.modPocket
  split
  · exact b.commitPocket_only p _
  · exact .rfl' b _ _

theorem Chip.modPocket_key (b : Chip) (p : Nat) (f : Pocket → Pocket) :
    ∃ ps cs, (b.modPocket p f).key = { b.key with pockets := ps, copies := cs } := by
  unfold Chip.modPocket
  split
  · exact b.commitPocket_key p _
  · exact ⟨_, _, rfl⟩

theorem Chip.modPocket_same (b : Chip) (p : Nat) (f : Pocket → Pocket) : (b.modPocket p f).pocket p = (b.pocket p).map fun x => b.stamped p (f x) := by
  unfold Chip.modPocket
  split
  · rename_i x h
    rw [Chip.commitPocket_same, h]
    rfl
  · rename_i h
    rw [h]
    rfl

theorem Chip.modPocket_ne (b : Chip) {p q : Nat} (f : Pocket → Pocket) (ne : q ≠ p) : (b.modPocket p f).pocket q = b.pocket q := by
  unfold Chip.modPocket
  split
  · exact b.commitPocket_ne _ ne
  · rfl

/-! ### Octets -/

theorem beNat_snoc (l : List Nat) (x : Nat) : beNat (l ++ [x]) = beNat l * 256 + x % 256 := by
  rw [beNat, List.foldl_append]
  rfl

theorem beNat_beBytes (v n : Nat) : beNat (beBytes v n) = v % 256 ^ n := by
  unfold beBytes
  induction n generalizing v with
  | zero => rw [pow_zero, Nat.mod_one]; rfl
  | succ n ih =>
    rw [leBytes, List.reverse_cons, beNat_snoc, ih, pow_succ, Nat.mod_mod, mul_comm (256 ^ n), Nat.mod_mul]
    ring

/-- A generated key is in its type's range (R352). -/
theorem keyInRange_made (typ n : Nat) : keyInRange typ (keyOctets (if typ = 3 then .scalar n else .made n (keyLen typ))) = true := by
  unfold keyInRange
  by_cases h : typ = 3
  · have low : 0 < asScalar (beNat (madeOctets n 32)) := Nat.succ_pos _
    have high : asScalar (beNat (madeOctets n 32)) < p256n := by
      have := Nat.mod_lt (beNat (madeOctets n 32)) (show 0 < p256n - 1 by decide)
      unfold asScalar
      omega
    have octets : beNat (keyOctets (.scalar n)) = asScalar (beNat (madeOctets n 32)) := by
      rw [keyOctets, beNat_beBytes, Nat.mod_eq_of_lt (lt_trans high (by decide))]
    rw [if_pos h, octets, decide_eq_true low, decide_eq_true high, Bool.and_self, Bool.or_true]
  · rw [bne_iff_ne.mpr h, Bool.true_or]

/-! ### LOAD, VERIFY, PROMOTE, ERASE and READ_POCKET (R352 to R359, R372) -/

/-- The block after a commit that fails counts it. -/
theorem Chip.commitFail_eq (b : Chip) : b.commitFail = b.inc Reg.KEY_COMMIT_FAIL := rfl

/-- A pocket that LOAD writes. -/
def Chip.loaded (b : Chip) (typ usage epoch : Nat) (k : KeyT) : Pocket :=
  { state := PS.BASTED, typ := typ, usage := usage, parent := 0xFFFF, epoch := epoch, key := some k,
    wrapped := kwWrap (kek (b.t Reg.KEY_TEST_ROOT)) (keyOctets k), test := b.t Reg.KEY_TEST_ROOT }

/-- The material of a LOAD that is not wrapped, and the block after it was taken. -/
inductive Chip.Material (b : Chip) (typ : Nat) : Nat → KeyT → Chip → Prop where
  | clear : Chip.Material b typ 0 (.raw (b.argKey (keyLen typ))) b
  | made : Chip.Material b typ 2 (if typ = 3 then .scalar (Config.freeValue b.freeCtr % 2 ^ 32) else .made (Config.freeValue b.freeCtr % 2 ^ 32) (keyLen typ))
      { b with freeCtr := b.freeCtr + 1 }

section
variable {b b1 : Chip} {p typ usage src : Nat} {k : KeyT}

/-- LOAD under no parent, replacing nothing. -/
theorem Chip.keyLoad_bare (ok : Bool) (serves : b.keyBarred = false) (harg : b.arg cbKEY 0 = p) (hp : p ≤ 4095) (htyp : bits (b.arg cbKEY 1) 0 4 = typ)
    (husage : bits (b.arg cbKEY 1) 16 16 = usage) (hsrc : bits (b.arg cbKEY 1) 4 2 = src) (lo : 1 ≤ typ) (hi : typ ≤ 4)
    (mask : andNot usage (usageMask typ) = 0) (hpar : bits (b.arg cbKEY 2) 0 16 = 0xFFFF) (hrepl : bits (b.arg cbKEY 2) 16 16 = 0xFFFF)
    (free : b.pocket p = none) (fresh : ∀ c, kget b.sec.ceil (131072 + p) = some c → c.epoch < b.arg cbKEY 3) (mat : b.Material typ src k b1)
    (range : keyInRange typ (keyOctets k) = true) :
    b.keyLoad ok = if ok then (b1.commitPocket p (some (b.loaded typ usage (b.arg cbKEY 3) k))).done
        [keyCheck typ (keyOctets k) % 2 ^ 32, keyCheck typ (keyOctets k) / 2 ^ 32 % 2 ^ 32]
      else b.commitFail.fail ECC_FAULT := by
  unfold Chip.keyLoad
  extract_lets p' a1 typ' src' usage' par repl epoch r badRepl badEpoch pk n fr b2
  have eRepl : repl = 0xFFFF := hrepl
  have ePar : par = 0xFFFF := hpar
  have fine : badRepl = false := if_pos hrepl
  have later : badEpoch = false := by
    unfold badEpoch p' epoch
    rw [harg]
    cases h : kget b.sec.ceil (131072 + p) with
    | none => exact Bool.and_false _
    | some c =>
      dsimp only
      rw [decide_eq_false (Nat.not_le.mpr (fresh c h)), Bool.and_false]
  have wraps : pk = .inr (kek (b.t Reg.KEY_TEST_ROOT), 0) := if_pos hpar
  have eTyp : typ' = typ := htyp
  have eSrc : src' = src := hsrc
  have eUsage : usage' = usage := husage
  have eN : n = keyLen typ := congrArg keyLen htyp
  have eB : b2 = if src = 2 then fr.2 else b := by rw [← eSrc]
  have eFr : fr = (Config.freeValue b.freeCtr % 2 ^ 32, { b with freeCtr := b.freeCtr + 1 }) := rfl
  have eEpoch : epoch = b.arg cbKEY 3 := rfl
  clear_value badEpoch badRepl r pk repl par n b2 typ' src' usage' fr epoch
  subst eFr eEpoch
  subst fine later eRepl ePar eTyp eSrc eUsage wraps eN eB
  rw [serves, if_neg (by decide), if_neg (by
    rw [show p' = p from harg]
    have : src' ≠ 3 := by cases mat <;> decide
    simp only [mask, Bool.false_eq_true, ne_eq, not_true, or_false, and_false]
    omega), show p' = p from harg, free, if_neg (by decide), if_neg (fun h => h.1 rfl)]
  dsimp only
  cases mat with
  | clear =>
    show (if (!keyInRange typ' (keyOctets _)) = true then _ else _) = _
    rw [range, if_neg (by decide)]
    cases ok <;> rfl
  | made =>
    show (if (!keyInRange typ' (keyOctets _)) = true then _ else _) = _
    rw [range, if_neg (by decide)]
    cases ok <;> rfl

end

section
variable {b : Chip} {p : Nat} {x : Pocket}

theorem Chip.keyVerify_agrees (serves : b.keyBarred = false) (harg : b.arg cbKEY 0 = p) (hp : p ≤ 4095) (hx : b.pocket p = some x)
    (basted : x.state = PS.BASTED) (kcv : x.kcv = b.arg cbKEY 1 + b.arg cbKEY 2 * 2 ^ 32) :
    b.keyVerify = (b.commitPocket p (some { x with verified := true })).done [] := by
  unfold Chip.keyVerify
  rw [harg, serves, if_neg (by decide), hx]
  dsimp only
  rw [if_neg (Nat.not_lt.mpr hp), if_neg (not_not.mpr basted), if_pos kcv]

theorem Chip.keyVerify_differs (serves : b.keyBarred = false) (harg : b.arg cbKEY 0 = p) (hp : p ≤ 4095) (hx : b.pocket p = some x)
    (basted : x.state = PS.BASTED) (kcv : x.kcv ≠ b.arg cbKEY 1 + b.arg cbKEY 2 * 2 ^ 32) :
    b.keyVerify = (b.inc Reg.KEY_VERIFY_FAIL).fail AUTH_FAIL := by
  unfold Chip.keyVerify
  rw [harg, serves, if_neg (by decide), hx]
  dsimp only
  rw [if_neg (Nat.not_lt.mpr hp), if_neg (not_not.mpr basted), if_neg kcv]

/-- The pockets that count as masters for PROMOTE. -/
def Chip.mastersInLine (b : Chip) : KV Pocket := b.key.pockets.filter (fun e => bit e.2.usage 1 && (e.2.state == 2 || b.key.waiting.contains e.1))

theorem Chip.promoteWait_waits (hx : b.pocket p = some x) (aside : p ∉ b.key.waiting) :
    (b.promoteWait p).pocket p = some { x with promoting := true } ∧ (∀ q, q ≠ p → (b.promoteWait p).pocket q = b.pocket q) ∧
    (b.promoteWait p).key.waiting = b.key.waiting ++ [p] ∧ Chip.Only [.key] keyKey b (b.promoteWait p) := by
  have out : b.key.waiting.contains p ≠ true := fun h => aside (List.contains_iff_mem.mp h)
  have counts := (b.modPocket p fun x => { x with promoting := true }).keyCounts_only
  obtain ⟨ps, cs, key⟩ := b.modPocket_key p fun x => { x with promoting := true }
  have keep : (b.modPocket p fun x => { x with promoting := true }).keyCounts.key.pockets = (b.modPocket p fun x => { x with promoting := true }).key.pockets :=
    congrArg Key.pockets (counts.key (by decide))
  unfold Chip.promoteWait
  rw [if_neg out]
  refine ⟨?_, fun q ne => ?_, ?_, ?_⟩
  · refine (congrArg (kget · p) keep).trans ((b.modPocket_same p _).trans ?_)
    rw [hx]
    exact congrArg some (Chip.stamped_same hx rfl rfl)
  · exact (congrArg (kget · q) keep).trans (b.modPocket_ne _ ne)
  · exact (congrArg (fun k : Key => k.waiting ++ [p]) (counts.key (by decide))).trans
      (by rw [key])
  · exact (((b.modPocket_only p _).mono (by decide) fun _ h => ⟨le_trans (by decide) h.1, lt_of_lt_of_le h.2 (by decide)⟩).trans
      (counts.mono (by decide) fun _ h => ⟨le_trans (by decide) h.1, lt_of_lt_of_le h.2 (by decide)⟩)).putKey (by decide) _

theorem Chip.keyPromote_waits (serves : b.keyBarred = false) (harg : b.arg cbKEY 0 = p) (hp : p ≤ 4095) (hx : b.pocket p = some x)
    (basted : x.state = PS.BASTED) (verified : x.verified = true) (free : x.partner = 0xFFFF ∨ b.pocketIn x.partner PS.ACTIVE = true)
    (aside : p ∉ b.key.waiting) (room : bit x.usage 1 = true → b.mastersInLine.length < 4 ∧ ∀ e ∈ b.mastersInLine, e.2.epoch ≠ x.epoch) :
    b.keyPromote = .inl { b.promoteWait p with key := { (b.promoteWait p).key with cmd := some p } } := by
  have out : b.key.waiting.contains p ≠ true := fun h => aside (List.contains_iff_mem.mp h)
  have partner : ¬ (x.state ≠ PS.BASTED ∨ ¬ x.verified = true ∨ x.partner ≠ 0xFFFF ∧ (!b.pocketIn x.partner PS.ACTIVE) = true) := by
    rcases free with h | h <;> simp [basted, verified, h]
  have few : ¬ (bit x.usage 1 && decide (4 ≤ b.mastersInLine.length)) = true := by
    rw [Bool.and_eq_true, decide_eq_true_eq]
    exact fun h => absurd (room h.1).1 (Nat.not_lt.mpr h.2)
  have single : ¬ (bit x.usage 1 && b.mastersInLine.any (fun e => e.2.epoch == x.epoch)) = true := by
    rw [Bool.and_eq_true, List.any_eq_true]
    rintro ⟨m, e, he, h⟩
    exact (room m).2 e he (eq_of_beq h)
  unfold Chip.keyPromote
  rw [harg, serves, if_neg (by decide), hx]
  dsimp only
  rw [if_neg (Nat.not_lt.mpr hp), if_neg partner, if_neg out]
  exact (if_neg few).trans (if_neg single)

theorem Chip.keyErase_basted (serves : b.keyBarred = false) (harg : b.arg cbKEY 0 = p) (hp : p ≤ 4095) (hx : b.pocket p = some x)
    (basted : x.state = PS.BASTED) :
    b.keyErase = ((Chip.inc { b with key := { b.key with waiting := b.key.waiting.filter (· != p) } } Reg.KEY_ZEROISE_CNT).commitPocket p none).done [] := by
  unfold Chip.keyErase
  rw [harg, serves, if_neg (by decide), hx]
  dsimp only
  rw [if_neg (Nat.not_lt.mpr hp), if_pos basted]

theorem Chip.keyErase_zeroised (serves : b.keyBarred = false) (harg : b.arg cbKEY 0 = p) (hp : p ≤ 4095) (hx : b.pocket p = some x)
    (orphaned : x.state = PS.ORPHANED) (zero : x.key = none) : b.keyErase = (b.commitPocket p none).done [] := by
  unfold Chip.keyErase
  rw [harg, serves, if_neg (by decide), hx]
  dsimp only
  rw [if_neg (Nat.not_lt.mpr hp), if_neg (by rw [orphaned]; decide), if_pos ⟨orphaned, by rw [zero]; rfl⟩]

theorem Chip.readPocket_answers (harg : b.arg cbKEY 0 = p) (hp : p ≤ 4095) :
    b.readPocket = ⟨b, OK, toWords (b.pocketRecord p) 8 ++ [b.pocketGen p]⟩ := by
  unfold Chip.readPocket
  rw [harg]
  exact if_neg (Nat.not_lt.mpr hp)

end

/-! ### The words of a record (R351) -/

theorem leNat_append (l m : List Nat) : leNat (l ++ m) = leNat l + 256 ^ l.length * leNat m := by
  induction l with
  | nil => simp [leNat]
  | cons x l ih => rw [List.cons_append, leNat, leNat, ih, List.length_cons, pow_succ]; ring

theorem leNat_leBytes (v n : Nat) : leNat (leBytes v n) = v % 256 ^ n := by
  induction n generalizing v with
  | zero => rw [pow_zero, Nat.mod_one]; rfl
  | succ n ih => rw [leBytes, leNat, ih, pow_succ, Nat.mod_mod, mul_comm (256 ^ n), Nat.mod_mul]

theorem leBytes_add (v m n : Nat) : leBytes v (m + n) = leBytes v m ++ leBytes (v / 256 ^ m) n := by
  induction m generalizing v with
  | zero => simp [leBytes]
  | succ m ih => rw [Nat.succ_add, leBytes, leBytes, ih, Nat.div_div_eq_div_mul, pow_succ', List.cons_append]

/-- The first word of a record. -/
theorem toWords_append {w : List Nat} (h : w.length = 4) (m : List Nat) (n : Nat) : toWords (w ++ m) (n + 1) = leNat w :: toWords m n := by
  rw [toWords, List.take_left' h, List.drop_left' h]

theorem toWords_leBytes (v : Nat) (m : List Nat) (n : Nat) : toWords (leBytes v 4 ++ m) (n + 1) = v % 256 ^ 4 :: toWords m n := by
  rw [toWords_append (leBytes_length v 4), leNat_leBytes]

/-- The eight words that READ_POCKET shows of a record whose fields are in range. -/
theorem Pocket.words {x : Pocket} {pe : Nat} (w : List Nat) (gen : Nat) (state : x.state < 8) (typ : x.typ < 256) (usage : x.usage < 2 ^ 16)
    (parent : x.parent < 2 ^ 16) (partner : x.partner < 2 ^ 16) (epoch : x.epoch < 2 ^ 32) (hpe : pe < 2 ^ 32) (stitch : x.stateStitch < 2 ^ 32)
    (retire : x.retireAt < 2 ^ 32) : toWords (x.octets pe w gen) 8 =
      [x.state + 8 * b2n x.verified + 16 * b2n x.promoting + 32 * b2n x.rewrap + x.typ * 256 + x.usage * 65536, x.parent + x.partner * 65536, x.epoch, pe,
        x.stateStitch, x.retireAt, x.kcv % 2 ^ 32, x.kcv / 2 ^ 32 % 2 ^ 32] := by
  have flags : x.state + 8 * b2n x.verified + 16 * b2n x.promoting + 32 * b2n x.rewrap < 256 := by
    have le (v : Bool) : b2n v ≤ 1 := by cases v <;> decide
    have v := le x.verified
    have p := le x.promoting
    have r := le x.rewrap
    omega
  unfold Pocket.octets
  generalize x.state + 8 * b2n x.verified + 16 * b2n x.promoting + 32 * b2n x.rewrap = a at *
  generalize x.kcv = k
  generalize crc32 _ = c
  have two : 256 ^ 2 = 2 ^ 16 := by norm_num
  have four : 256 ^ 4 = 2 ^ 32 := by norm_num
  have first : leNat ([a, x.typ] ++ leBytes x.usage 2) = a + x.typ * 256 + x.usage * 65536 := by
    rw [leNat_append, leNat_leBytes, two, Nat.mod_eq_of_lt usage]
    simp only [leNat, List.length_cons, List.length_nil]
    omega
  have second : leNat (leBytes x.parent 2 ++ leBytes x.partner 2) = x.parent + x.partner * 65536 := by
    rw [leNat_append, leNat_leBytes, leNat_leBytes, leBytes_length, two, Nat.mod_eq_of_lt parent, Nat.mod_eq_of_lt partner]
    omega
  rw [leBytes_add k 4 4]
  have shape (r : List Nat) : [a, x.typ] ++ leBytes x.usage 2 ++ leBytes x.parent 2 ++ leBytes x.partner 2 ++ leBytes x.epoch 4 ++ leBytes pe 4 ++
      leBytes x.stateStitch 4 ++ leBytes x.retireAt 4 ++ (leBytes k 4 ++ leBytes (k / 256 ^ 4) 4) ++ (w ++ List.replicate 88 0).take 88 ++ leBytes gen 4 ++ r =
      ([a, x.typ] ++ leBytes x.usage 2) ++ ((leBytes x.parent 2 ++ leBytes x.partner 2) ++ (leBytes x.epoch 4 ++ (leBytes pe 4 ++
      (leBytes x.stateStitch 4 ++ (leBytes x.retireAt 4 ++ (leBytes k 4 ++ (leBytes (k / 256 ^ 4) 4 ++
      ((w ++ List.replicate 88 0).take 88 ++ leBytes gen 4 ++ r)))))))) := by simp only [List.append_assoc]
  rw [shape, toWords_append (by simp), toWords_append (by simp), toWords_leBytes, toWords_leBytes, toWords_leBytes, toWords_leBytes, toWords_leBytes,
    toWords_leBytes, first, second, four, Nat.mod_eq_of_lt epoch, Nat.mod_eq_of_lt hpe, Nat.mod_eq_of_lt stitch, Nat.mod_eq_of_lt retire, toWords]

theorem toWords_zeros (n : Nat) (m : List Nat) : toWords (List.replicate (4 * n) 0 ++ m) n = List.replicate n 0 := by
  induction n with
  | zero => rfl
  | succ n ih =>
    rw [show 4 * (n + 1) = 4 + 4 * n by ring, ← List.replicate_append_replicate, List.append_assoc, toWords,
      List.take_left' (List.length_replicate ..), List.drop_left' (List.length_replicate ..), ih]
    rfl

/-- Commands of KEY in a serving role, after acceptance. -/
theorem Chip.cmdAccept_serves {b : Chip} (irq : Bool) (role : b.isStandby = false) (gap : b.gap = false) : (b.cmdAccept cbKEY irq).keyBarred = false := by
  rw [Chip.keyBarred, Chip.isStandby, Chip.role, Chip.cmdAccept_r _ _ _ _ (by decide), Chip.inGap, Chip.cmdAccept_gap, gap, Bool.or_false]
  exact role

theorem Chip.cmdAccept_test (b : Chip) (irq : Bool) : (b.cmdAccept cbKEY irq).t Reg.KEY_TEST_ROOT = b.t Reg.KEY_TEST_ROOT :=
  congrArg (· == 1) (Chip.cmdAccept_r _ _ _ _ (by decide))

/-- Registers, the key store, the notice block and the output. -/
theorem Chip.Only.keySame {b c : Chip} {rs : Nat → Prop} (h : Chip.Only [.cmdIrq, .ntc, .out, .key] rs b c) : Chip.SameBut { b with key := c.key } c := h.1

/-- Counting before and after a command is accepted. -/
theorem Chip.OnlyBlock.inc (b : Chip) (base : Nat) (irq : Bool) {f : Fld} (h : f.key < (base + 4) * 32 ∨ (base + 4) * 32 + 32 ≤ f.key) :
    Chip.OnlyBlock (b.inc f) ((b.cmdAccept base irq).inc f) base := by
  have same : (b.cmdAccept base irq).inc f = (b.cmdAccept base irq).w f (satAdd f.w (b.r f) 1) := by rw [Chip.inc_eq, Chip.cmdAccept_r _ _ _ _ h]
  rw [same]
  exact (Chip.OnlyBlock.accept b base irq).w _ _

section
variable {s : State} {irq : Bool} {p : Nat}

/-- A command that commits one pocket. -/
theorem Runs.commits {i : Instr} {f : Chip → CmdOut} {c : Chip} {x : Option Pocket} {l : List Nat} {ps : List Part}
    (run : exec i s = .next { s with b := s.b.cmd cbKEY irq f }) (takes : s.b.takes cbKEY = true)
    (hf : f (s.b.cmdAccept cbKEY irq) = (c.commitPocket p x).done l) (same : Chip.Only ps keyKey (s.b.cmdAccept cbKEY irq) c) (hps : Part.key ∈ ps)
    (kept : ∀ q, c.pocket q = s.b.pocket q) :
    Runs i s (fun t => t.mem = s.mem ∧ t.b.Completed cbKEY OK l ∧ t.b.pocket p = x.map (c.stamped p) ∧ (∀ q, q ≠ p → t.b.pocket q = s.b.pocket q) ∧
      t.b.key.waiting = c.key.waiting ∧ Chip.Only (.cmdIrq :: .ntc :: .out :: ps) (fun k => blockKey cbKEY k ∨ keyKey k) s.b t.b ∧
      t.b.freeCtr = c.freeCtr) := by
  have only := same.trans ((c.commitPocket_only p x).mono (by simpa using hps) fun _ h => (⟨le_trans (by decide) h.1, lt_of_lt_of_le h.2 (by decide)⟩ : keyKey _))
  refine (Runs.ran run takes (by decide) (by decide) hf only).imp fun t ⟨mem, completed, only, done⟩ => ?_
  have tkey : t.b.key = (c.commitPocket p x).key := done.key (by decide)
  refine ⟨mem, completed, ?_, fun q ne => ?_, ?_, only, (done.freeCtr (by decide)).trans ((c.commitPocket_only p x).freeCtr (by decide))⟩
  · exact (congrArg (fun k : Key => kget k.pockets p) tkey).trans (c.commitPocket_same p x)
  · exact ((congrArg (fun k : Key => kget k.pockets q) tkey).trans (c.commitPocket_ne x ne)).trans (kept q)
  · obtain ⟨ps, cs, e⟩ := c.commitPocket_key p x
    rw [tkey, e]

/-- LOAD under no parent, replacing nothing, of either material, and where its commit fails. -/
theorem Runs.keyLoad {typ usage src : Nat} {k : KeyT} {b1 : Chip} {n : Nat} (takes : s.b.takes cbKEY = true) (harg : p = s.b.arg cbKEY 0) (hp : p ≤ 4095)
    (role : s.b.isStandby = false) (gap : s.b.gap = false) (htyp : typ = bits (s.b.arg cbKEY 1) 0 4) (husage : usage = bits (s.b.arg cbKEY 1) 16 16)
    (hsrc : bits (s.b.arg cbKEY 1) 4 2 = src) (lo : 1 ≤ typ) (hi : typ ≤ 4) (mask : andNot usage (usageMask typ) = 0)
    (hpar : bits (s.b.arg cbKEY 2) 0 16 = 0xFFFF) (hrepl : bits (s.b.arg cbKEY 2) 16 16 = 0xFFFF) (free : s.b.pocket p = none)
    (fresh : ∀ c, kget s.b.sec.ceil (131072 + p) = some c → c.epoch < s.b.arg cbKEY 3)
    (mat : (s.b.cmdAccept cbKEY irq).Material typ src k b1) (range : keyInRange typ (keyOctets k) = true)
    (same : b1 = { s.b.cmdAccept cbKEY irq with freeCtr := n }) :
    Runs (.keyLoad irq true) s (fun t => t.mem = s.mem ∧
      t.b.pocket p = some { state := PS.BASTED, typ := typ, usage := usage, parent := 0xFFFF, epoch := s.b.arg cbKEY 3, stateStitch := s.b.stitch32,
                            key := some k, wrapped := kwWrap (kek (s.b.t Reg.KEY_TEST_ROOT)) (keyOctets k), test := s.b.t Reg.KEY_TEST_ROOT } ∧
      (∀ q, q ≠ p → t.b.pocket q = s.b.pocket q) ∧ Chip.SameBut { s.b with key := t.b.key, freeCtr := n } t.b ∧
      t.b.Completed cbKEY OK [keyCheck typ (keyOctets k) % 2 ^ 32, keyCheck typ (keyOctets k) / 2 ^ 32 % 2 ^ 32]) ∧
    Runs (.keyLoad irq false) s (fun t => t.mem = s.mem ∧ Chip.OnlyBlock (s.b.inc Reg.KEY_COMMIT_FAIL) t.b cbKEY ∧ t.b.Completed cbKEY ECC_FAULT []) := by
  have arg (i : Nat) : (s.b.cmdAccept cbKEY irq).arg cbKEY i = s.b.arg cbKEY i := Chip.cmdAccept_arg _ _ _ _
  have loads (ok : Bool) := Chip.keyLoad_bare (b := s.b.cmdAccept cbKEY irq) (p := p) ok (s.b.cmdAccept_serves irq role gap) ((arg 0).trans harg.symm) hp
    (by rw [arg, htyp]) (by rw [arg, husage]) (by rw [arg, hsrc]) lo hi mask (by rw [arg, hpar]) (by rw [arg, hrepl]) free (by rw [arg]; exact fresh) mat range
  have stored : b1.stamped p ((s.b.cmdAccept cbKEY irq).loaded typ usage ((s.b.cmdAccept cbKEY irq).arg cbKEY 3) k) =
        { state := PS.BASTED, typ := typ, usage := usage, parent := 0xFFFF, epoch := s.b.arg cbKEY 3, stateStitch := s.b.stitch32, key := some k,
          wrapped := kwWrap (kek (s.b.t Reg.KEY_TEST_ROOT)) (keyOctets k), test := s.b.t Reg.KEY_TEST_ROOT } := by
    have free' : b1.pocket p = none := by rw [same]; exact free
    have stitch : b1.stitch32 = s.b.stitch32 := by rw [same]; rfl
    rw [Chip.stamped_new free', Chip.loaded, s.b.cmdAccept_test, arg, stitch]
  constructor
  · refine (Runs.commits (ps := [.key, .freeCtr]) (c := b1) (x := some _) rfl takes ((loads true).trans (if_pos rfl)) ?_ (by decide) fun q => by rw [same]; rfl).imp
      fun t ⟨mem, completed, at', others, _, only, ctr⟩ => ⟨mem, at'.trans (congrArg some stored), others, ?_, completed⟩
    · rw [same]
      exact (Chip.Only.rfl' _ _ _).putFreeCtr (by decide) _
    · have ctr' : n = t.b.freeCtr := by rw [ctr, same]
      rw [ctr']
      exact only.1
  · exact (Runs.ran rfl takes (by decide) (by decide) ((loads false).trans (if_neg (by decide)))
      ((Chip.Only.rfl' (s.b.cmdAccept cbKEY irq) [] keyKey).inc Reg.KEY_COMMIT_FAIL (by decide))).imp fun t ⟨mem, completed, _, kept⟩ =>
        ⟨mem, (Chip.OnlyBlock.inc s.b cbKEY irq (by decide)).trans kept.onlyBlock, completed⟩

end

end Sys2Proof.Machine

open Sys2Proof Sys2Proof.Machine

/-- Settles O46. -/
theorem pocketsAreLoadedAndPromoted : Obligations.PocketsAreLoadedAndPromoted := by
  intro s irq p takes harg hp
  have key : cbKEY ∈ cbBases := by decide
  have arg (i : Nat) : (s.b.cmdAccept cbKEY irq).arg cbKEY i = s.b.arg cbKEY i := Chip.cmdAccept_arg _ _ _ _
  have arg0 := (arg 0).trans harg.symm
  have pocket (q : Nat) : (s.b.cmdAccept cbKEY irq).pocket q = s.b.pocket q := rfl
  refine ⟨fun role gap => ?_, fun none => ?_, fun x hx => ?_, fun x hx state typ usage parent partner epoch pe stitch retire => ?_⟩
  · have serves := s.b.cmdAccept_serves irq role gap
    refine ⟨fun a1 typ usage l ha1 htyp husage hsrc lo hi mask hpar hrepl free fresh hl range => ?_,
      fun a1 typ usage v k ha1 htyp husage hsrc lo hi mask hpar hrepl free fresh hk hv => ?_, fun x hx basted => ⟨fun kcv => ?_, fun kcv => ?_, fun ms hms verified partner aside room => ?_⟩,
      fun x hx may => ?_⟩
    · subst ha1
      have raw : l = (s.b.cmdAccept cbKEY irq).argKey (keyLen typ) := by rw [hl, Chip.argKey, Chip.argKey, Chip.cmdAccept_args]
      have mat : (s.b.cmdAccept cbKEY irq).Material typ 0 (.raw l) (s.b.cmdAccept cbKEY irq) := by
        rw [raw]
        exact .clear
      exact Runs.keyLoad takes harg hp role gap htyp husage hsrc lo hi mask hpar hrepl free fresh mat range (n := s.b.freeCtr) rfl
    · subst ha1
      have mat : (s.b.cmdAccept cbKEY irq).Material typ 2 k { s.b.cmdAccept cbKEY irq with freeCtr := s.b.freeCtr + 1 } := by
        rw [hk]
        exact .made
      have range : keyInRange typ (keyOctets k) = true := by
        rw [hk]
        exact keyInRange_made typ _
      rw [hv]
      exact (Runs.keyLoad takes harg hp role gap htyp husage hsrc lo hi mask hpar hrepl free fresh mat range (n := s.b.freeCtr + 1) rfl).1
    · exact (Runs.commits (ps := [.key]) rfl takes (Chip.keyVerify_agrees serves arg0 hp hx basted (by rw [arg, arg]; exact kcv)) (.rfl' _ _ _) (by decide)
        (fun _ => rfl)).imp fun t ⟨mem, completed, at', others, _, only, _⟩ =>
          ⟨mem, at'.trans (congrArg some (Chip.stamped_same hx rfl rfl)), others, only.keySame, completed⟩
    · exact (Runs.ran rfl takes key (by decide) (Chip.keyVerify_differs serves arg0 hp hx basted (by rw [arg, arg]; exact kcv))
        ((Chip.Only.rfl' (s.b.cmdAccept cbKEY irq) [] keyKey).inc Reg.KEY_VERIFY_FAIL (by decide))).imp fun t ⟨mem, completed, _, kept⟩ =>
          ⟨mem, (Chip.OnlyBlock.inc s.b cbKEY irq (by decide)).trans kept.onlyBlock, completed⟩
    · have waits := Chip.keyPromote_waits serves arg0 hp hx basted verified partner aside (by rw [hms] at room; exact room)
      obtain ⟨at', others, line, only⟩ := Chip.promoteWait_waits (b := s.b.cmdAccept cbKEY irq) hx aside
      refine ⟨_, rfl, ?_⟩
      dsimp only
      rw [Chip.command_takes _ _ takes, waits]
      dsimp only
      have all := ((s.b.cmdAccept_only cbKEY irq).mono (qs := [.cmdIrq, .ntc, .out, .key]) (by decide) fun _ => Or.inl).trans
        ((only.putKey (by decide) { ((s.b.cmdAccept cbKEY irq).promoteWait p).key with cmd := some p }).mono (by decide) fun _ => Or.inr)
      refine ⟨rfl, at', others, all.keySame, line, rfl, ?_, ?_⟩
      · exact (only.2 _ (by decide)).trans (Chip.cmdAccept_busy _ _ _)
      · exact (only.2 _ (by decide)).trans (Chip.cmdAccept_code _ _ _)
    · rcases may with basted | ⟨orphaned, zero⟩
      · refine (Runs.commits (ps := [.key]) rfl takes (Chip.keyErase_basted serves arg0 hp hx basted)
          (((Chip.Only.rfl' _ _ _).putKey (by decide) _).inc _ (by decide)) (by decide) (fun _ => rfl)).imp
          fun t ⟨mem, completed, at', others, line, only, _⟩ => ⟨mem, at', others, ?_, only.keySame, completed⟩
        rw [if_pos basted, line]
        exact fun h => absurd rfl (bne_iff_ne.mp (List.mem_filter.mp h).2)
      · refine (Runs.commits (ps := [.key]) rfl takes (Chip.keyErase_zeroised serves arg0 hp hx orphaned zero) (.rfl' _ _ _) (by decide) (fun _ => rfl)).imp
          fun t ⟨mem, completed, at', others, _, only, _⟩ => ⟨mem, at', others, ?_, only.keySame, completed⟩
        rw [if_neg (by rw [orphaned]; decide)]
        exact List.not_mem_nil
  · have words : toWords ((s.b.cmdAccept cbKEY irq).pocketRecord p) 8 = List.replicate 8 0 := by
      unfold Chip.pocketRecord
      rw [pocket, none]
      dsimp only [emptyRecord]
      rw [show List.replicate 120 0 = List.replicate (4 * 8) 0 ++ List.replicate 88 0 by rw [List.replicate_append_replicate], List.append_assoc,
        List.append_assoc, toWords_zeros]
    have answers := Chip.readPocket_answers arg0 hp
    rw [words] at answers
    exact Runs.answers rfl takes key (by decide) answers
  · have answers := Chip.readPocket_answers arg0 hp
    unfold Chip.pocketRecord at answers
    rw [pocket, hx] at answers
    exact Runs.answers rfl takes key (by decide) answers
  · have answers := Chip.readPocket_answers arg0 hp
    unfold Chip.pocketRecord at answers
    rw [pocket, hx] at answers
    dsimp only at answers
    rw [Pocket.words _ _ state typ usage parent partner epoch pe stitch retire] at answers
    exact (Runs.answers rfl takes key (by decide) answers).imp fun t ⟨_, _, completed⟩ => completed
end

section
/-!
SUPPORT. Keys that end: invalidation, zeroising and the end of a grace (R355, R361, R585).
-/
namespace Sys2Proof.Machine

/-! ### One change to many pockets -/

/-- The same change to each pocket of a list. -/
def Chip.modPockets (b : Chip) (l : List Nat) (f : Pocket → Pocket) : Chip := l.foldl (fun c q => c.modPocket q f) b

theorem Chip.modPockets_only (b : Chip) (l : List Nat) (f : Pocket → Pocket) : Chip.Only [.key] (offs 0x150108 0x15011C) b (b.modPockets l f) :=
  (Chip.Only.rfl' b _ _).foldl _ fun c q _ => c.modPocket_only q f

theorem Chip.modPockets_key (b : Chip) (l : List Nat) (f : Pocket → Pocket) :
    ∃ ps cs, (b.modPockets l f).key = { b.key with pockets := ps, copies := cs } := by
  induction l generalizing b with
  | nil => exact ⟨_, _, rfl⟩
  | cons q l ih =>
    obtain ⟨ps, cs, e⟩ := ih (b.modPocket q f)
    obtain ⟨ps', cs', e'⟩ := b.modPocket_key q f
    rw [e'] at e
    exact ⟨ps, cs, e⟩

theorem Chip.modPockets_ne (b : Chip) {l : List Nat} (f : Pocket → Pocket) {q : Nat} (out : q ∉ l) : (b.modPockets l f).pocket q = b.pocket q := by
  induction l generalizing b with
  | nil => rfl
  | cons a l ih =>
    rw [List.mem_cons, not_or] at out
    exact (ih (b.modPocket a f) out.2).trans (b.modPocket_ne f out.1)

/-- Each pocket stays, and what the change keeps of every pocket stays of it. -/
theorem Chip.modPockets_keeps {r : Pocket → Pocket → Prop} {f : Pocket → Pocket} (refl : ∀ x, r x x) (trans : ∀ x y z, r x y → r y z → r x z)
    (step : ∀ (c : Chip) (p : Nat) (x : Pocket), r x (c.stamped p (f x))) (l : List Nat) (b : Chip) {q : Nat} {y : Pocket} (hy : b.pocket q = some y) :
    ∃ z, (b.modPockets l f).pocket q = some z ∧ r y z := by
  induction l generalizing b y with
  | nil => exact ⟨y, hy, refl y⟩
  | cons a l ih =>
    obtain rfl | ne := eq_or_ne a q
    · obtain ⟨z, hz, h⟩ := ih (b.modPocket a f) ((b.modPocket_same a f).trans (by rw [hy]; rfl))
      exact ⟨z, hz, trans _ _ _ (step b a y) h⟩
    · exact ih (b.modPocket a f) ((b.modPocket_ne f ne.symm).trans hy)

/-- What the change gives every pocket, each pocket of the list has. -/
theorem Chip.modPockets_gives {g : Pocket → Prop} {f : Pocket → Pocket} (step : ∀ (c : Chip) (p : Nat) (x : Pocket), g (c.stamped p (f x)))
    {l : List Nat} {b : Chip} {q : Nat} {z : Pocket} (mem : q ∈ l) (hz : (b.modPockets l f).pocket q = some z) : g z := by
  induction l generalizing b with
  | nil => exact absurd mem List.not_mem_nil
  | cons a l ih =>
    by_cases later : q ∈ l
    · exact ih later hz
    · obtain rfl : q = a := (List.mem_cons.mp mem).resolve_right later
      have h := (((b.modPocket q f).modPockets_ne f later).symm.trans hz)
      rw [b.modPocket_same q f] at h
      obtain ⟨x, -, rfl⟩ := Option.map_eq_some_iff.mp h
      exact step b q x

/-! ### Invalidation (R361) -/

/-- A pocket keeps its state and its key. -/
def Pocket.Same (x y : Pocket) : Prop := y.state = x.state ∧ y.key = x.key

theorem Chip.modPockets_same {f : Pocket → Pocket} (state : ∀ x, (f x).state = x.state) (key : ∀ x, (f x).key = x.key) (l : List Nat) (b : Chip) {q : Nat}
    {y : Pocket} (hy : b.pocket q = some y) : ∃ z, (b.modPockets l f).pocket q = some z ∧ y.Same z :=
  Chip.modPockets_keeps (r := Pocket.Same) (fun _ => ⟨rfl, rfl⟩) (fun _ _ _ h k => ⟨k.1.trans h.1, k.2.trans h.2⟩)
    (fun c p x => ⟨(c.stamped_state p _).trans (state x), (c.stamped_key p _).trans (key x)⟩) l b hy

/-- Promotions that end keep every pocket's state and key. -/
theorem Chip.dropPromotes_same (b : Chip) (marked : List Nat) {q : Nat} {y : Pocket} (hy : b.pocket q = some y) :
    ∃ z, (b.dropPromotes marked).pocket q = some z ∧ y.Same z := by
  unfold Chip.dropPromotes
  extract_lets hit _ b1 b2
  obtain ⟨z, hz, same⟩ := Chip.modPockets_same (f := fun x => { x with promoting := false }) (fun _ => rfl) (fun _ => rfl) hit b1 (q := q) (y := y) hy
  have hz : b2.pocket q = some z := hz
  clear_value b2
  refine ⟨z, ?_, same⟩
  split
  · split
    · rw [Chip.pocket, Chip.cmdFinish_key]
      exact hz
    · exact hz
  · exact hz

/-- The pockets beneath a pocket, and it. -/
theorem Chip.mem_beneath {b : Chip} {p q : Nat} {y : Pocket} (hy : b.pocket q = some y) :
    q ∈ (b.key.pockets.filter (fun e => e.1 == p || chainMeets b.key.pockets [p] e.1 4096)).map (·.1) ↔
      q = p ∨ chainMeets b.key.pockets [p] q 4096 = true := by
  rw [List.mem_map]
  constructor
  · rintro ⟨e, he, rfl⟩
    have := (List.mem_filter.mp he).2
    rwa [Bool.or_eq_true, beq_iff_eq] at this
  · intro h
    exact ⟨(q, y), List.mem_filter.mpr ⟨mem_of_kget hy, by rwa [Bool.or_eq_true, beq_iff_eq]⟩, rfl⟩

theorem Chip.invalidate_marks {b : Chip} {p : Nat} (due : b.key.orphanDue = false) {q : Nat} {y : Pocket} (hy : b.pocket q = some y) :
    ((q = p ∨ chainMeets b.key.pockets [p] q 4096 = true) → ∃ z, (b.invalidate p).1.pocket q = some z ∧ z.state = PS.ORPHANED) ∧
    (q ≠ p → chainMeets b.key.pockets [p] q 4096 = false → (∀ e ∈ b.key.pockets, e.1 = q → e.2.state ≠ PS.BASTED) →
      ∃ z, (b.invalidate p).1.pocket q = some z ∧ y.Same z) := by
  have beneath := Chip.mem_beneath (p := p) hy
  unfold Chip.invalidate
  rw [due, if_neg (by decide)]
  extract_lets b0 ps m1 m2 new b1 cs marked _ b2 b3 b4
  have after {z : Pocket} (h : b1.pocket q = some z) : ∃ w, b4.pocket q = some w ∧ z.Same w := by
    obtain ⟨w, hw, same⟩ := b2.dropPromotes_same new (q := q) (y := z) h
    refine ⟨w, ?_, same⟩
    have noted (c : Chip) (code first n : Nat) : (c.noteFirst code first n).pocket q = c.pocket q := by
      unfold Chip.noteFirst
      dsimp only
      split <;> rfl
    have h3 : b3.pocket q = some w := (noted _ _ _ _).trans hw
    unfold b4
    split
    · exact h3
    · exact h3
  have m2_of {z : Pocket} (hz : (q, z) ∈ b.key.pockets) (h : q ∈ m1) : q ∈ m2 :=
    List.mem_map.mpr ⟨(q, z), List.mem_filter.mpr ⟨hz, by rw [List.contains_iff_mem.mpr h, Bool.true_or]⟩, rfl⟩
  constructor
  · intro under
    have two : q ∈ m2 := m2_of (mem_of_kget hy) (beneath.mpr under)
    by_cases already : b.pocketIn q 3 = true
    · have out : q ∉ new := fun h => absurd already (by simpa using (List.mem_filter.mp h).2)
      obtain ⟨w, hw, same⟩ := after ((b.modPockets_ne _ out).trans hy)
      refine ⟨w, hw, same.1.trans ?_⟩
      rw [Chip.pocketIn, hy] at already
      exact eq_of_beq already
    · have isNew : q ∈ new := List.mem_filter.mpr ⟨two, by rw [Bool.not_eq_true] at already; rw [already]; rfl⟩
      obtain ⟨z, hz, -⟩ := Chip.modPockets_keeps (r := fun _ _ => True) (f := fun x => { x with state := PS.ORPHANED, wasActive := x.state == 2, rewrap := false })
        (fun _ => trivial) (fun _ _ _ _ _ => trivial) (fun _ _ _ => trivial) new b hy
      have orphaned : z.state = PS.ORPHANED := Chip.modPockets_gives (g := fun z => z.state = PS.ORPHANED) (fun c p x => c.stamped_state p _) isNew hz
      obtain ⟨w, hw, same⟩ := after hz
      exact ⟨w, hw, same.1.trans orphaned⟩
  · intro ne apart basted
    have out1 : q ∉ m1 := fun h => (beneath.mp h).elim ne fun h => by rw [apart] at h; exact Bool.noConfusion h
    have out : q ∉ new := by
      intro h
      obtain ⟨e, he, rfl⟩ := List.mem_map.mp (List.mem_filter.mp h).1
      obtain ⟨inn, cond⟩ := List.mem_filter.mp he
      rw [Bool.or_eq_true, Bool.and_eq_true, List.contains_iff_mem] at cond
      exact cond.elim out1 fun h => basted e inn rfl (eq_of_beq h.1)
    exact after ((b.modPockets_ne _ out).trans hy)

/-! ### Zeroising (R361, R585) -/

/-- Once zeroised, no ORPHANED pocket has a key, and no cached key is marked. -/
theorem Chip.orphanZero_clears (b : Chip) : b.orphanZero.key.orphanDue = false ∧
    (∀ (q : Nat) (y : Pocket), b.orphanZero.pocket q = some y → y.state = PS.ORPHANED → y.key = none) ∧ ∀ e ∈ b.orphanZero.key.cache, e.orphan = false := by
  unfold Chip.orphanZero
  extract_lets hit n b1 _ b2
  have shown := (b2.add Reg.KEY_ZEROISE_CNT (hit.length + n)).keyCounts_only
  have key : (b2.add Reg.KEY_ZEROISE_CNT (hit.length + n)).keyCounts.key = b2.key := shown.key (by decide)
  refine ⟨by rw [key], fun q y hy state => ?_, fun e he => ?_⟩
  · have hy : b1.pocket q = some y := by rw [Chip.pocket, key] at hy; exact hy
    by_cases mem : q ∈ hit
    · exact Chip.modPockets_gives (g := fun z => z.key = none) (f := fun x => { x with key := none, wrapped := [] }) (fun c p x => c.stamped_key p _) mem hy
    · have hb : b.pocket q = some y := (b.modPockets_ne _ mem).symm.trans hy
      by_contra some'
      refine mem (List.mem_map.mpr ⟨(q, y), List.mem_filter.mpr ⟨mem_of_kget hb, ?_⟩, rfl⟩)
      rw [Bool.and_eq_true, beq_iff_eq]
      exact ⟨state, Option.isSome_iff_ne_none.mpr some'⟩
  · rw [key] at he
    simpa using (List.mem_filter.mp he).2

theorem Chip.holdKeys_key (b : Chip) (k : Key) : (b.holdKeys k).key = b.key := by
  unfold Chip.holdKeys
  split <;> rfl

end Sys2Proof.Machine

open Sys2Proof Sys2Proof.Machine

/-- Settles O47. -/
theorem keysEnd : Obligations.KeysEnd := by
  intro s
  refine ⟨fun irq p x takes role gap harg hp hx live due => ?_, fun due => ?_, fun due => ?_, fun p rest => ?_, fun p x hx retired reached unnamed => ?_⟩
  · have runs : (s.b.cmdAccept cbKEY irq).keyInvalidate =
        (((s.b.cmdAccept cbKEY irq).invalidate p).1.holdKeys s.b.key).done [((s.b.cmdAccept cbKEY irq).invalidate p).2.1, ((s.b.cmdAccept cbKEY irq).invalidate p).2.2] := by
      have pocket : (s.b.cmdAccept cbKEY irq).pocket p = some x := hx
      unfold Chip.keyInvalidate
      rw [Chip.cmdAccept_arg, ← harg, s.b.cmdAccept_serves irq role gap, if_neg (by decide), pocket]
      dsimp only
      rw [if_neg (Nat.not_lt.mpr hp), if_neg live, Chip.cmdAccept_key]
    have marks {q : Nat} {y : Pocket} := Chip.invalidate_marks (b := s.b.cmdAccept cbKEY irq) (p := p) due (q := q) (y := y)
    refine Runs.cmd (f := fun c => c.keyInvalidate) rfl takes (by decide) (by decide) runs fun d hd completed => ?_
    have key : d.key = ((s.b.cmdAccept cbKEY irq).invalidate p).1.key := by rw [hd, Chip.cmdFinish_key, Chip.holdKeys_key]
    refine ⟨rfl, ⟨_, _, completed⟩, fun q y hy under => ?_, fun q y hy ne apart basted => ?_⟩
    · obtain ⟨z, hz, orphaned⟩ := (marks hy).1 under
      exact ⟨z, by rw [Chip.pocket, key]; exact hz, orphaned⟩
    · obtain ⟨z, hz, same⟩ := (marks hy).2 ne apart basted
      exact ⟨z, by rw [Chip.pocket, key]; exact hz, same⟩
  · refine ⟨_, rfl, ?_⟩
    dsimp only
    rw [if_pos due]
    exact ⟨rfl, s.b.orphanZero_clears⟩
  · rw [exec_orphanZeroise, execOrphanZeroise, State.on_eq, if_neg (by rw [due]; decide)]
  · rw [exec_retireAtReached, execRetireAtReached, State.on_eq, Chip.retireEnd]
    cases hx : s.b.pocket p with
    | none => rfl
    | some x =>
      dsimp only
      rw [if_neg]
      rintro ⟨retired, reached, -⟩
      exact (rest x hx).elim (fun h => h retired) fun h => by rw [h] at reached; exact Bool.noConfusion reached
  · have ends : s.b.retireEnd p true = (s.b.commitPocket p none).inc Reg.KEY_ZEROISE_CNT := by
      rw [Chip.retireEnd, hx]
      dsimp only
      have free : ¬ s.b.key.pockets.any (fun e => e.2.parent == x.partner && e.2.parentEpoch == x.epoch) = true := by
        rw [List.any_eq_true]
        rintro ⟨e, he, h⟩
        rw [Bool.and_eq_true, beq_iff_eq, beq_iff_eq] at h
        exact unnamed e he h
      rw [if_pos ⟨retired, reached, free⟩, if_pos rfl]
    refine ⟨_, rfl, ?_⟩
    dsimp only
    rw [ends]
    have pocket (c : Chip) (q : Nat) : (c.inc Reg.KEY_ZEROISE_CNT).pocket q = c.pocket q := rfl
    have count : (s.b.commitPocket p none).r Reg.KEY_ZEROISE_CNT = s.b.r Reg.KEY_ZEROISE_CNT := (s.b.commitPocket_only p none).2 _ (by decide)
    refine ⟨rfl, (pocket _ p).trans (s.b.commitPocket_same p none), fun q ne => (pocket _ q).trans (s.b.commitPocket_ne none ne), ?_⟩
    rw [Chip.r_inc_same, count]
    exact congrArg (satAdd · _ 1) (show Reg.KEY_ZEROISE_CNT.w = 32 by decide)
end

section
/-!
SUPPORT. Link keys, rekeys and frames put in a node's list (R299, R362 to R366).
-/
namespace Sys2Proof.Machine

/-- Any register. -/
abbrev anyReg (_ : Nat) : Prop := True

theorem Chip.Only.any {b c : Chip} {ps qs : List Part} {rs : Nat → Prop} (h : Chip.Only ps rs b c) (sub : ps ⊆ qs) : Chip.Only qs anyReg b c :=
  h.mono sub fun _ _ => trivial

/-! ### Frames put in a node's list (R286, R299) -/

theorem Chip.Only.q {b c : Chip} {ps : List Part} {rs : Nat → Prop} (h : Chip.Only ps rs b c) (queues : Part.queues ∉ ps) (pat : Part.pat ∉ ps) :
    c.q = b.q := by
  funext n
  simp only [Chip.q, Chip.qDefault, Chip.qParent, h.queues queues, h.pat pat] <;> rfl

theorem Chip.setCell_only (b : Chip) (i w : Nat) : Chip.Only [.sch] (· = Reg.SCH_CELLS_USED.key) b (b.setCell i w) :=
  ((Chip.Only.rfl' b _ _).putSch (by decide) _).w _ _ rfl

theorem Chip.placeAll_only (b : Chip) (rows : List Nat) (c w : Nat) : Chip.Only [.sch] (· = Reg.SCH_CELLS_USED.key) b (b.placeAll rows c w) :=
  (Chip.Only.rfl' b _ _).foldl _ fun d _ _ => d.setCell_only _ w

theorem Chip.noteFirst_only (b : Chip) (code first n : Nat) : Chip.Only [.acc, .mac] noReg b (b.noteFirst code first n) := by
  have noted := (b.note_only (code * 2 ^ 16) n noReg).mono (qs := [.acc, .mac]) (by decide) fun _ => id
  exact .ite noted (noted.putMac (by decide) _)

theorem Chip.ndw_only (b : Chip) (n : Nat) (f : CxF) (v : Nat) : Chip.Only [.mac] noReg b (b.ndw n f v) := (Chip.Only.rfl' b _ _).putMac (by decide) _

theorem Chip.runReserve_only (b : Chip) (n len : Nat) : Chip.Only [.acc, .mac, .sch] anyReg b (b.runReserve n len) := by
  unfold Chip.runReserve
  split
  · exact ((b.placeAll_only _ _ _).any (by decide)).putSch (by decide) _
  · exact (((Chip.Only.rfl' b [.acc, .mac, .sch] anyReg).inc Reg.SCH_WAKE_RUN_FAIL trivial).trans ((Chip.noteFirst_only _ _ _ _).any (by decide))).putSch
      (by decide) _

theorem Chip.dlSync_only (b : Chip) (n : Nat) : Chip.Only [.mac] noReg b (b.dlSync n) := by
  unfold Chip.dlSync
  split
  · exact .rfl' b _ _
  · exact .ite ((b.ndw_only _ _ _).trans (Chip.ndw_only _ _ _ _)) (b.ndw_only _ _ _)

theorem Chip.wantRun_only (b : Chip) (n : Nat) : Chip.Only [.acc, .mac, .sch] anyReg b (b.wantRun n) := by
  unfold Chip.wantRun
  split
  · exact .rfl' b _ _
  · split
    · exact b.runReserve_only n _
    · exact .rfl' b _ _

theorem Chip.dlPush_only (b : Chip) (n : Nat) (psdu : List Nat) (prio : Nat) (front : Bool) :
    Chip.Only [.queues, .nextItem, .acc, .mac, .sch] anyReg b (b.dlPush n psdu prio front).b := by
  have discard : Chip.Only [.queues, .nextItem, .acc, .mac, .sch] anyReg b (b.inc Reg.MAC_DL_DISCARD) := (Chip.Only.rfl' b _ _).inc _ trivial
  have pushed := (b.pushItem_only (b.nd n Cx.DL_QUEUE) (b.txHeader n psdu ++ psdu) prio n front).any (qs := [.queues, .nextItem, .acc, .mac, .sch]) (by decide)
  unfold Chip.dlPush
  dsimp only
  split
  · exact discard
  · split
    · exact discard
    · split
      · exact pushed.trans (((Chip.dlSync_only _ n).any (by decide)).trans ((Chip.wantRun_only _ n).any (by decide)))
      · exact pushed

/-! ### Commands that name a node and change a register -/

theorem Chip.OnlyNamed.w {b c : Chip} {base : Nat} (h : Chip.OnlyNamed b c base) (f : Fld) (v : Nat) : Chip.OnlyNamed (b.w f v) (c.w f v) base := by
  refine ⟨?_, fun g pend hit miss used pinned hb => ?_⟩
  · have parts := h.1
    rw [parts]
    rfl
  · by_cases e : f.key = g.key
    · rw [Chip.r_w_key c v e, Chip.r_w_key b v e]
    · rw [Chip.r_w_ne _ _ _ _ e, Chip.r_w_ne _ _ _ _ e, h.2 g pend hit miss used pinned hb]

theorem Chip.OnlyNamed.block {b c d : Chip} {base : Nat} (h : Chip.OnlyNamed b c base) (k : Chip.OnlyBlock c d base) : Chip.OnlyNamed b d base := by
  refine ⟨?_, fun g pend hit miss used pinned hb => (k.2 g pend hb).trans (h.2 g pend hit miss used pinned hb)⟩
  have last : d = { c with regs := d.regs, cmdIrq := d.cmdIrq, ntc := d.ntc, out := d.out } := k.1
  rw [h.1] at last
  rw [last]

/-! ### Masters and link keys (R356, R362 to R364) -/

section
variable {b c : Chip}

theorem Chip.unwraps_same (key : c.key = b.key) (root : c.t Reg.KEY_TEST_ROOT = b.t Reg.KEY_TEST_ROOT) (fuel : Nat) (x : Pocket) :
    c.unwraps x fuel = b.unwraps x fuel := by
  induction fuel generalizing x with
  | zero => unfold Chip.unwraps; rw [root]
  | succ k ih =>
    have wrap : c.wrapPocket x.parent x.parentEpoch = b.wrapPocket x.parent x.parentEpoch := by simp only [Chip.wrapPocket, Chip.pocket, key]
    unfold Chip.unwraps
    rw [root, wrap]
    cases b.wrapPocket x.parent x.parentEpoch with
    | none => rfl
    | some y => dsimp only; rw [ih]

theorem Chip.master_same (key : c.key = b.key) (root : c.t Reg.KEY_TEST_ROOT = b.t Reg.KEY_TEST_ROOT) (e : Nat) (orphans : Bool) :
    c.master e orphans = b.master e orphans := by
  have unwrapped : c.unwrapped = b.unwrapped := funext fun x => by rw [Chip.unwrapped, Chip.unwrapped, Chip.unwraps_same key root]
  simp only [Chip.master, key, unwrapped]

/-- A link key that is found or derived leaves the pockets. -/
theorem Chip.linkKey_pockets (b : Chip) (n e : Nat) : (b.linkKey n e).1.key.pockets = b.key.pockets := by
  unfold Chip.linkKey
  split
  · split <;> rfl
  · dsimp only
    split
    · rfl
    · split
      · rfl
      · split <;> rfl

theorem Chip.setNodeEpoch_answers {e p : Nat} {x : Pocket} (serves : b.keyBarred = false) (arg : b.arg cbKEY 0 = e) (later : b.r Reg.KEY_NODE_EPOCH < e)
    (master : b.master e false = some (p, x)) :
    b.setNodeEpoch = (Chip.w { b with key := { b.key with nodeEpoch := e } } Reg.KEY_NODE_EPOCH e).done [p] := by
  unfold Chip.setNodeEpoch
  rw [arg, serves, if_neg (by decide)]
  dsimp only
  rw [if_neg (Nat.not_le.mpr later), master]

theorem Chip.deriveCheck_answers {n e p : Nat} {x : Pocket} {k : KeyT} (arg0 : b.arg cbKEY 0 = n) (arg1 : b.arg cbKEY 1 = e) (hn : n < b.pat.nodeCount)
    (ns : b.ns n ≠ NS.EMPTY) (master : b.master e false = some (p, x)) (hk : x.key = some k) :
    b.deriveCheck = (b.inc Reg.KEY_DERIVE_CNT).done [keyCheck 1 (keyOctets (.link k (b.eui n) e)) % 2 ^ 32,
      keyCheck 1 (keyOctets (.link k (b.eui n) e)) / 2 ^ 32 % 2 ^ 32] := by
  unfold Chip.deriveCheck
  rw [arg0, arg1]
  dsimp only
  rw [if_neg (Nat.not_le.mpr hn), if_neg ns, master]
  dsimp only
  rw [hk]

/-- REKEY_NODE of a linked node whose new key is found and whose queue takes the frame. -/
theorem Chip.rekeyNode_answers {n ix e : Nat} {b1 : Chip} {k : KeyT} {o : Opened} (serves : b.keyBarred = false) (arg0 : b.arg cbKEY 0 = n)
    (arg1 : b.arg cbKEY 1 = ix) (he : b.r Reg.KEY_NODE_EPOCH = e) (hn : n < b.pat.nodeCount) (lo : 1 ≤ ix) (hi : ix ≤ 255)
    (join : ix ≠ b.r Reg.MAC_KEY_INDEX_JOIN) (linked : b.linked n = true) (behind : b.nd n Cx.KEY_EPOCH < e) (single : kget b.key.rekeys n = none)
    (room : b.key.rekeys.length < 1024) (takes : (b.q (b.nd n Cx.DL_QUEUE)).consumer = CONS_NODE) (key : b.linkKey n e = (b1, .inr k))
    (ho : o = b1.dlPush n (b1.nodeFrame n (b1.joinResp n e ix k) []) 7 true) (ok : o.code = OK) :
    ∃ c : Chip, b.rekeyNode = c.done [] ∧ c.key = { o.b.key with rekeys := kput o.b.key.rekeys n { epoch := e, index := ix, item := o.id } } := by
  have dl : b.dlTakes n = true := beq_iff_eq.mpr takes
  unfold Chip.rekeyNode
  rw [arg0, arg1, he, serves, if_neg (by decide)]
  dsimp only
  rw [single, linked, dl, key]
  dsimp only
  rw [if_neg (Nat.not_le.mpr hn), if_neg (by omega), if_neg (by simp; omega), if_neg (by simp; omega), ← ho, if_neg (not_not.mpr ok)]
  exact ⟨_, rfl, rfl⟩

end

end Sys2Proof.Machine

open Sys2Proof Sys2Proof.Machine

/-- Settles O48. -/
theorem nodeKeysMove : Obligations.NodeKeysMove := by
  intro s irq takes
  have cb : cbKEY ∈ cbBases := by decide
  have arg (i : Nat) : (s.b.cmdAccept cbKEY irq).arg cbKEY i = s.b.arg cbKEY i := Chip.cmdAccept_arg _ _ _ _
  have root := s.b.cmdAccept_test irq
  have epoch : (s.b.cmdAccept cbKEY irq).r Reg.KEY_NODE_EPOCH = s.b.r Reg.KEY_NODE_EPOCH := Chip.cmdAccept_r _ _ _ _ (by decide)
  refine ⟨fun role gap => ⟨fun p x later master => ?_, fun n ix e b1 k o hn0 hix he hn lo hi join linked behind single room queue takesFrames key ho ok => ?_⟩,
    fun n e p x k v hn0 he hn ns master hk hv => ?_⟩
  · have serves := s.b.cmdAccept_serves irq role gap
    have answers := Chip.setNodeEpoch_answers serves (arg 0) (by rw [epoch]; exact later) ((Chip.master_same (b := s.b) (c := s.b.cmdAccept cbKEY irq) rfl root _ _).trans master)
    have written := ((Chip.Only.rfl' (s.b.cmdAccept cbKEY irq) [.key] keyKey).putKey (by decide) { s.b.key with nodeEpoch := s.b.arg cbKEY 0 }).w
      Reg.KEY_NODE_EPOCH (s.b.arg cbKEY 0) (by decide)
    refine (Runs.ran rfl takes cb (by decide) answers written).imp fun t ⟨mem, completed, _, kept⟩ => ?_
    have hk : t.b.key = { s.b.key with nodeEpoch := s.b.arg cbKEY 0 } := kept.key (by decide)
    refine ⟨mem, hk, (kept.2 _ (by unfold blockKey; decide)).trans (Chip.r_w_same _ _ _), completed, ?_⟩
    rw [hk]
    exact .trans (b := Chip.w { s.b with key := { s.b.key with nodeEpoch := s.b.arg cbKEY 0 } } _ _) (.w (.accept _ cbKEY irq) _ _) kept.onlyBlock
  · have named := (s.b.cmdAccept cbKEY irq).named_only n
    have node : ((s.b.cmdAccept cbKEY irq).named n).node = s.b.node := by rw [Chip.named_node, Chip.cmdAccept_node]
    generalize hd : (s.b.cmdAccept cbKEY irq).named n = d at named node key
    have low := named.mono (fun _ => id) fun _ => cacheKey_mac
    have serves : d.keyBarred = false := by
      rw [Chip.keyBarred, Chip.isStandby, Chip.role, low.2 _ (by decide), Chip.inGap, low.gap (by decide)]
      exact s.b.cmdAccept_serves irq role gap
    obtain ⟨c, answers, ckey⟩ := Chip.rekeyNode_answers (b := d) serves ((low.2 _ (by decide)).trans ((arg 0).trans hn0.symm))
      ((low.2 _ (by decide)).trans ((arg 1).trans hix.symm)) ((low.2 _ (by decide)).trans (epoch.trans he.symm)) (by rw [low.pat (by decide)]; exact hn) lo hi
      (by rw [named.2 _ (by rintro (h | h | h | h) <;> exact absurd h (by decide)), Chip.cmdAccept_r _ _ _ _ (by decide)]; exact join) ((Chip.linked_congr node).trans linked) (by rw [Chip.nd, node]; exact behind) (by rw [low.key (by decide)]; exact single)
      (by rw [low.key (by decide)]; exact room) (by rw [Chip.nd, node, low.q (by decide) (by decide)]; exact takesFrames) key ho ok
    have linkOnly : b1.key.pockets = s.b.key.pockets := by
      have pockets := Chip.linkKey_pockets d n e
      rw [key] at pockets
      rw [pockets, low.key (by decide), Chip.cmdAccept_key]
    have pushed := b1.dlPush_only n (b1.nodeFrame n (b1.joinResp n e ix k) []) 7 true
    rw [← ho] at pushed
    refine Runs.cmd (f := fun c => (c.named (c.arg cbKEY 0)).rekeyNode) (c := c) (code := OK) (l := []) rfl takes (by decide) (by decide) ?_ fun t ht completed => ?_
    · rw [Chip.cmdAccept_arg, ← hn0, hd]
      exact answers
    · have tk : t.key = { o.b.key with rekeys := kput o.b.key.rekeys n { epoch := e, index := ix, item := o.id } } := by rw [ht, Chip.cmdFinish_key, ckey]
      refine ⟨rfl, ?_, ?_, completed⟩
      · dsimp only
        rw [tk]
        exact kget_kput_same _ _ _
      · dsimp only
        rw [tk]
        dsimp only
        rw [pushed.key (by decide), linkOnly]
  · have named := (s.b.cmdAccept cbKEY irq).named_only n
    have node : ((s.b.cmdAccept cbKEY irq).named n).node = s.b.node := by rw [Chip.named_node, Chip.cmdAccept_node]
    have mac := (s.b.cmdAccept cbKEY irq).named_mac n
    generalize hd : (s.b.cmdAccept cbKEY irq).named n = d at named node mac
    have low := named.mono (fun _ => id) fun _ => cacheKey_mac
    have eui : d.eui n = s.b.eui n := by rw [Chip.eui, Chip.nd, node]; rfl
    have answers := Chip.deriveCheck_answers (b := d) ((low.2 _ (by decide)).trans ((arg 0).trans hn0.symm))
      ((low.2 _ (by decide)).trans ((arg 1).trans he.symm)) (by rw [low.pat (by decide)]; exact hn) (by rw [Chip.ns, Chip.nd, node]; exact ns)
      ((Chip.master_same (b := s.b) (c := d) (low.key (by decide)) ((low.t _ (by decide)).trans root) e false).trans master) hk
    rw [eui, ← hv] at answers
    have count : d.r Reg.KEY_DERIVE_CNT = s.b.r Reg.KEY_DERIVE_CNT := (low.2 _ (by decide)).trans (Chip.cmdAccept_r _ _ _ _ (by decide))
    have derived := ((named.mono (qs := [.mac]) (by decide) fun _ h => (Or.inl h : cacheKey _ ∨ _ = Reg.KEY_DERIVE_CNT.key)).inc Reg.KEY_DERIVE_CNT (.inr rfl))
    refine (Runs.ran (f := fun c => (c.named (c.arg cbKEY 0)).deriveCheck) (c := d.inc Reg.KEY_DERIVE_CNT) (code := OK) (l := [v % 2 ^ 32, v / 2 ^ 32 % 2 ^ 32]) rfl takes cb (by decide) ?_ derived).imp
      fun t ⟨mem, completed, only, kept⟩ => ?_
    · rw [Chip.cmdAccept_arg, ← hn0, hd]
      exact answers
    · have counted : t.b.r Reg.KEY_DERIVE_CNT = satAdd 32 (s.b.r Reg.KEY_DERIVE_CNT) 1 := by
        rw [kept.2 _ (by unfold blockKey; decide), Chip.r_inc_same, count]
        exact congrArg (satAdd · _ 1) (show Reg.KEY_DERIVE_CNT.w = 32 by decide)
      have fetched : Chip.OnlyNamed s.b d cbKEY := by
        refine Chip.Only.onlyNamed (((s.b.cmdAccept_only cbKEY irq).mono (by decide) fun _ => .inl).trans (named.mono (by decide) fun _ => .inr)) ?_
        rw [mac]
        rfl
      have same : Chip.OnlyNamed (s.b.inc Reg.KEY_DERIVE_CNT) (d.inc Reg.KEY_DERIVE_CNT) cbKEY := by
        rw [Chip.inc_eq, Chip.inc_eq, count]
        exact fetched.w _ _
      exact ⟨mem, same.block kept.onlyBlock, counted, completed⟩
end

section
/-!
SUPPORT. The forwarding tables: what a search, an entry written and the counts leave as they were (R377 to R388, R397).
-/
namespace Sys2Proof.Machine

/-- The registers that show the tables: the notice block, and in FWD the fill, the lengths, the entries a rehash has left, the stash's bits, the
stale filters, the repair list, and the counts of moves, full tables and masked slots. -/
abbrev fwdKey (k : Nat) : Prop :=
  offs 0x50000 0x60000 k ∨ offs 0x180120 0x180150 k ∨ offs 0x180154 0x180158 k ∨ offs 0x18015C 0x180160 k ∨ offs 0x180164 0x180168 k ∨
  offs 0x180170 0x180178 k ∨ offs 0x180244 0x18024C k ∨ offs 0x180258 0x18025C k

/-! ### The tables -/

theorem Chip.putTab_only (b : Chip) (t : Nat) (x : FwdTab) : Chip.Only [.fwd] noReg b (b.putTab t x) :=
  .ite ((Chip.Only.rfl' b _ _).putFwd (by decide) _) ((Chip.Only.rfl' b _ _).putFwd (by decide) _)

theorem Chip.tab_putTab (b : Chip) (t : Nat) (x : FwdTab) : (b.putTab t x).tab t = x := by
  unfold Chip.putTab Chip.tab
  split <;> rfl

/-- Putting a table leaves the learn queue. -/
theorem Chip.putTab_learn (b : Chip) (t : Nat) (x : FwdTab) : (b.putTab t x).fwd.learn = b.fwd.learn := by
  unfold Chip.putTab
  split <;> rfl

theorem Chip.Only.tab {b c : Chip} {ps : List Part} {rs : Nat → Prop} (h : Chip.Only ps rs b c) (out : Part.fwd ∉ ps) : c.tab = b.tab := by
  funext t
  rw [Chip.tab, Chip.tab, h.fwd out]

/-! ### A command refused for an index beyond the structure (R71) -/

/-- The registers that show structure rejections. -/
abbrev rejectKey (k : Nat) : Prop := offs 0x50000 0x60000 k ∨ offs 0x230 0x238 k

theorem Chip.structReject_shows (b : Chip) (off : Nat) : Chip.Only [.ntc, .out] rejectKey b (b.structReject off) :=
  (((Chip.Only.rfl' b _ _).inc _ (by decide)).w _ _ (by decide)).trans ((Chip.raise_only _ _ _ _).mono (by decide) fun _ => .inl)

/-- A command that counts in STRUCT_REJECT_CNT and completes BAD_ARG. -/
theorem Runs.structFails {i : Instr} {s : State} {base : Nat} {irq : Bool} {f : Chip → CmdOut} (run : exec i s = .next { s with b := s.b.cmd base irq f })
    (takes : s.b.takes base = true) (hb : base ∈ cbBases) (hf : f (s.b.cmdAccept base irq) = (s.b.cmdAccept base irq).structFail base) :
    Runs i s (fun t => t.mem = s.mem ∧ t.b.Completed base BAD_ARG [] ∧ Chip.Only [.cmdIrq, .ntc, .out] (fun k => blockKey base k ∨ rejectKey k) s.b t.b ∧
      t.b.r Reg.GLB_STRUCT_REJECT_CNT = satAdd 32 (s.b.r Reg.GLB_STRUCT_REJECT_CNT) 1) := by
  have apart : ¬ blockKey base Reg.GLB_STRUCT_REJECT_CNT.key :=
    (show ∀ a ∈ cbBases, ¬ (_ ∨ offs (a + 4) (a + 0x94) _) by decide) base hb
  refine (Runs.ran run takes hb (by decide) hf (Chip.structReject_shows _ _)).imp fun t ⟨mem, completed, all, kept⟩ =>
    ⟨mem, completed, all.mono (by decide) fun _ => id, ?_⟩
  rw [kept.2 _ apart, Chip.structReject_cnt, (s.b.cmdAccept_only base irq).2 _ apart]

/-! ### Slots that cannot be read (R384, R399) -/

/-- The registers of masked slots and of the repair list. -/
abbrev maskKey (k : Nat) : Prop := offs 0x180174 0x180178 k ∨ offs 0x180258 0x18025C k

theorem fwdKey_of_mask (k : Nat) (h : maskKey k) : fwdKey k := by
  unfold fwdKey maskKey offs at *
  omega

theorem Chip.maskSlot_masks (b : Chip) (t i : Nat) : Chip.Only [.fwd] maskKey b (b.maskSlot t i) := by
  unfold Chip.maskSlot
  dsimp only
  split
  · have masked := ((b.putTab_only t { b.tab t with masked := i :: (b.tab t).masked }).mono (ss := maskKey) (fun _ => id) fun _ h => h.elim).inc
      Reg.FWD_ECC_MASKED (by decide)
    split
    · exact (masked.putFwd (by decide) _).w _ _ (by decide)
    · exact masked
  · exact .rfl' b _ _

theorem Chip.maskSlot_only (b : Chip) (t i : Nat) : Chip.Only [.fwd] fwdKey b (b.maskSlot t i) := (b.maskSlot_masks t i).mono (fun _ => id) fwdKey_of_mask

/-- It leaves the entries and the learn queue. -/
theorem Chip.maskSlot_kept (b : Chip) (t i u : Nat) : ((b.maskSlot t i).tab u).ents = (b.tab u).ents ∧ (b.maskSlot t i).fwd.learn = b.fwd.learn := by
  have tab (x : FwdTab) (h : x.ents = (b.tab t).ents) : ((b.putTab t x).tab u).ents = (b.tab u).ents := by
    unfold Chip.putTab Chip.tab at *
    by_cases ht : t = 0 <;> by_cases hu : u = 0 <;> simp_all
  unfold Chip.maskSlot
  dsimp only
  split
  · have kept := tab { b.tab t with masked := i :: (b.tab t).masked } rfl
    split
    · exact ⟨kept, b.putTab_learn t _⟩
    · exact ⟨kept, b.putTab_learn t _⟩
  · exact ⟨rfl, rfl⟩

theorem Chip.maskSlot_sound {b : Chip} {t : Nat} (h : (b.tab t).bad = []) (i : Nat) : b.maskSlot t i = b := by
  unfold Chip.maskSlot
  dsimp only
  rw [h]
  rfl

theorem Chip.touch_masks (b : Chip) (t key : Nat) : Chip.Only [.fwd] maskKey b (b.touch t key) :=
  (Chip.Only.rfl' b _ _).foldl _ fun c i _ => c.maskSlot_masks t i

theorem Chip.touch_only (b : Chip) (t key : Nat) : Chip.Only [.fwd] fwdKey b (b.touch t key) := (b.touch_masks t key).mono (fun _ => id) fwdKey_of_mask

theorem Chip.touch_kept (b : Chip) (t key u : Nat) : ((b.touch t key).tab u).ents = (b.tab u).ents ∧ (b.touch t key).fwd.learn = b.fwd.learn := by
  unfold Chip.touch
  generalize b.searchIdx t key = l
  induction l generalizing b with
  | nil => exact ⟨rfl, rfl⟩
  | cons i l ih =>
    obtain ⟨ents, learn⟩ := ih (b.maskSlot t i)
    obtain ⟨ents', learn'⟩ := b.maskSlot_kept t i u
    exact ⟨ents.trans ents', learn.trans learn'⟩

theorem Chip.touch_sound {b : Chip} {t : Nat} (h : (b.tab t).bad = []) (key : Nat) : b.touch t key = b := by
  unfold Chip.touch
  generalize b.searchIdx t key = l
  induction l with
  | nil => rfl
  | cons i l ih => rw [List.foldl_cons, Chip.maskSlot_sound h, ih]

/-! ### Counts (R388, R405) -/

theorem Chip.askRehash_only (b : Chip) (t cause : Nat) : Chip.Only [.ntc, .out] fwdKey b (b.askRehash t cause) :=
  (b.raise_only _ _ _).mono (by decide) fun _ => .inl

theorem Chip.stashLvl_only (b : Chip) (t : Nat) : Chip.Only [.ntc, .out] fwdKey b (b.stashLvl t) := by
  have lvl : fwdKey (if t = 0 then Reg.FWD_EXM_STASH_LVL else Reg.FWD_LPM_STASH_LVL).key := by split <;> decide
  have hi : fwdKey (if t = 0 then Reg.FWD_EXM_STASH_HI else Reg.FWD_LPM_STASH_HI).key := by split <;> decide
  unfold Chip.stashLvl
  dsimp only
  exact .ite ((((Chip.Only.rfl' b _ _).w _ _ lvl).w _ _ hi).trans (Chip.askRehash_only _ _ _)) ((Chip.Only.rfl' b _ _).w _ _ lvl)

theorem leftFld_fwd (t : Nat) : fwdKey (leftFld t).key := by
  unfold leftFld
  split <;> decide

theorem Chip.fwdCounts_only (b : Chip) (t : Nat) : Chip.Only [.ntc, .out] fwdKey b (b.fwdCounts t) := by
  unfold Chip.fwdCounts
  extract_lets x size stash left b1 v b3 b2
  have h1 : Chip.Only [.ntc, .out] fwdKey b b1 := (Chip.Only.rfl' b _ _).w _ _ (leftFld_fwd t)
  have h3 : Chip.Only [.ntc, .out] fwdKey b b3 := h1.trans ((Chip.Only.rfl' b1 _ _).foldl _ fun c i hi => (Chip.Only.rfl' c _ _).w _ _ (by
    have := List.mem_range.mp hi
    simp only [fwdKey, Fld.key, Reg.FWD_LEN_VEC]
    omega))
  have h2 : Chip.Only [.ntc, .out] fwdKey b b2 := by
    unfold b2
    split
    · exact ((h1.w _ _ (by decide)).w _ _ (by decide)).w _ _ (by decide)
    · exact ((h3.w _ _ (by decide)).w _ _ (by decide)).w _ _ (by decide)
  exact h2.trans (b2.stashLvl_only t)

/-! ### Entries written and removed (R397) -/

theorem Chip.putEnt_only (b : Chip) (t i : Nat) (e : Option Nat) : Chip.Only [.fwd] noReg b (b.putEnt t i e) := b.putTab_only t _

theorem Chip.putEnt_learn (b : Chip) (t i : Nat) (e : Option Nat) : (b.putEnt t i e).fwd.learn = b.fwd.learn := b.putTab_learn t _

theorem Chip.putEnt_ents (b : Chip) (t i : Nat) (e : Option Nat) (j : Nat) :
    kget ((b.putEnt t i e).tab t).ents j = if j = i then e else kget (b.tab t).ents j := by
  unfold Chip.putEnt
  rw [Chip.tab_putTab]
  cases e with
  | none => exact (kget_kdel _ _ _).trans (by simp only [eq_comm])
  | some v => exact (kget_kput _ _ _ _).trans (by simp only [eq_comm])

/-- An entry written, and the counts that follow. -/
theorem Chip.putEnt_counted (b : Chip) (t i : Nat) (e : Option Nat) : Chip.Only [.fwd, .ntc, .out] fwdKey b ((b.putEnt t i e).fwdCounts t) ∧
    ((b.putEnt t i e).fwdCounts t).fwd.learn = b.fwd.learn ∧
    ∀ j, kget (((b.putEnt t i e).fwdCounts t).tab t).ents j = if j = i then e else kget (b.tab t).ents j := by
  have counted := (b.putEnt t i e).fwdCounts_only t
  refine ⟨((b.putEnt_only t i e).mono (by decide) fun _ h => h.elim).trans (counted.mono (by decide) fun _ h => h), ?_, fun j => ?_⟩
  · rw [counted.fwd (by decide), Chip.putEnt_learn]
  · rw [counted.tab (by decide), Chip.putEnt_ents]

/-! ### Insertion (R386) -/

theorem Chip.insFull_only (b : Chip) (t : Nat) : Chip.Only [.fwd, .ntc, .out] fwdKey b (b.insFull t) := by
  have counted : Chip.Only [.fwd, .ntc, .out] fwdKey b (b.inc Reg.FWD_INSERT_FULL) := (Chip.Only.rfl' b _ _).inc _ (by decide)
  unfold Chip.insFull
  dsimp only
  exact .ite counted ((counted.putFwd (by decide) _).trans ((Chip.askRehash_only _ _ _).mono (by decide) fun _ h => h))

theorem Chip.insFull_learn (b : Chip) (t : Nat) : (b.insFull t).fwd.learn = b.fwd.learn := by
  unfold Chip.insFull
  dsimp only
  split
  · rfl
  · rw [(Chip.askRehash_only _ _ _).fwd (by decide)]
    rfl

/-- An insert changes the tables, the counts and the notice block. -/
theorem Chip.insert_only (b : Chip) (t e : Nat) (again : Bool) :
    Chip.Only [.fwd, .ntc, .out] fwdKey b (b.insert t e again).1 ∧ (b.insert t e again).1.fwd.learn = b.fwd.learn := by
  unfold Chip.insert
  extract_lets key bt x b1 g e1 c slots place
  have h1 : Chip.Only [.fwd, .ntc, .out] fwdKey b b1 ∧ b1.fwd.learn = b.fwd.learn :=
    ⟨((b.touch_only t key).mono (by decide) fun _ h => h).trans ((bt.putTab_only t _).mono (by decide) fun _ h => h.elim),
      (bt.putTab_learn t _).trans (b.touch_kept t key 0).2⟩
  have placed (i : Nat) : Chip.Only [.fwd, .ntc, .out] fwdKey b (place i).1 ∧ (place i).1.fwd.learn = b.fwd.learn := by
    obtain ⟨only, learn, -⟩ := b1.putEnt_counted t i (some e1)
    exact ⟨h1.1.trans only, learn.trans h1.2⟩
  have moved (l : List (Nat × Nat)) : Chip.Only [.fwd, .ntc, .out] fwdKey b1 (l.foldl (fun (d : Chip) p => d.putEnt t p.1 (some p.2)) b1) ∧
      (l.foldl (fun (d : Chip) p => d.putEnt t p.1 (some p.2)) b1).fwd.learn = b1.fwd.learn := by
    refine ⟨(Chip.Only.rfl' b1 _ _).foldl _ fun d p _ => (d.putEnt_only t p.1 _).mono (by decide) fun _ h => h.elim, ?_⟩
    generalize b1 = d
    induction l generalizing d with
    | nil => rfl
    | cons p l ih => exact (ih _).trans (d.putEnt_learn t p.1 _)
  split
  · exact h1
  · split
    · exact h1
    · split
      · exact placed _
      · split
        · rename_i l _
          obtain ⟨only, learn⟩ := moved l
          have counted := ((l.foldl (fun (d : Chip) p => d.putEnt t p.1 (some p.2)) b1).add Reg.FWD_RELOC_MOVES (l.length - 1)).fwdCounts_only t
          refine ⟨(h1.1.trans (only.w Reg.FWD_RELOC_MOVES _ (by decide))).trans (counted.mono (by decide) fun _ h => h), ?_⟩
          exact (congrArg Fwd.learn (counted.fwd (by decide))).trans (learn.trans h1.2)
        · split
          · exact placed _
          · exact ⟨h1.1.trans (b1.insFull_only t), (b1.insFull_learn t).trans h1.2⟩

/-! ### One index written (R402) -/

/-- From the first block to the second one index of a table has changed, to an entry or to none, and else the counts and the notice block alone. -/
def Chip.Wrote (b c : Chip) (t i : Nat) (e : Option Nat) : Prop :=
  Chip.Only [.fwd, .ntc, .out] fwdKey b c ∧ ∀ j, kget (c.tab t).ents j = if j = i then e else kget (b.tab t).ents j

theorem Chip.wrote_counted (b : Chip) (t i : Nat) (e : Option Nat) : Chip.Wrote b ((b.putEnt t i e).fwdCounts t) t i e :=
  ⟨(b.putEnt_counted t i e).1, (b.putEnt_counted t i e).2.2⟩

theorem Chip.Wrote.stale {b c : Chip} {t i : Nat} {e : Option Nat} (h : Chip.Wrote b c t i e) : Chip.Wrote b c.stale t i e := ⟨h.1.inc _ (by decide), h.2⟩

theorem Chip.filtSet_tab (b : Chip) (key t : Nat) : (b.filtSet key).tab t = b.tab t := rfl

theorem Chip.Wrote.filtSet {b c : Chip} {t i : Nat} {e : Option Nat} (h : Chip.Wrote b c t i e) (key : Nat) : Chip.Wrote b (c.filtSet key) t i e :=
  ⟨h.1.putFwd (by decide) _, h.2⟩

theorem Chip.Wrote.ite {b c d : Chip} {t i : Nat} {e : Option Nat} {p : Prop} [Decidable p] (hc : Chip.Wrote b c t i e) (hd : Chip.Wrote b d t i e) :
    Chip.Wrote b (if p then c else d) t i e := by
  split
  · exact hc
  · exact hd

/-! ### The commands on a sound table (R402, R403) -/

section
variable {b : Chip} {t i : Nat}

/-- An entry that passes the checks names nothing beyond the Pattern. -/
theorem Chip.entOver_of_entOk {e : Nat} (ht : t < 2) (h : b.entOk t e = true) : b.entOver t e = false := by
  unfold Chip.entOk at h
  unfold Chip.entOver
  dsimp only at h
  rw [Bool.and_eq_true, Bool.and_eq_true, Bool.and_eq_true, Bool.and_eq_true, decide_eq_true_eq] at h
  obtain ⟨⟨⟨⟨-, key⟩, hop⟩, queue⟩, -⟩ := h
  have node : (eAction t e == 1 && decide (b.pat.nodeCount ≤ eNode t e)) = false := by
    by_contra beyond
    rw [Bool.not_eq_false, Bool.and_eq_true, beq_iff_eq, decide_eq_true_eq] at beyond
    rw [if_pos beyond.1, Bool.and_eq_true, decide_eq_true_eq] at hop
    omega
  rw [node, decide_eq_false (Nat.not_le.mpr queue), Bool.or_false, Bool.or_false]
  obtain rfl | rfl : t = 0 ∨ t = 1 := by omega
  · rfl
  · rw [if_neg (by decide), Bool.and_eq_true, Bool.and_eq_true] at key
    rw [key.1.2, Bool.not_true, Bool.and_false]

theorem Chip.argTab_lt (h : b.argTab = some t) : t < 2 := by
  unfold Chip.argTab at h
  split at h
  · cases h
    decide
  · split at h <;> cases h
    decide
  · cases h

theorem Chip.fwdRead_answers (tab : b.argTab = some t) (bad : (b.tab t).bad = []) (arg : b.arg cbFWD 1 = i) (hi : i < b.tabSize t + 16) :
    b.fwdRead = ⟨b, OK, entWords (kgetD (b.tab t).ents i 0) ++ [if (b.tab t).masked.contains i then 2 else b2n (kget (b.tab t).ents i).isSome]⟩ := by
  unfold Chip.fwdRead
  rw [tab, arg]
  dsimp only
  rw [if_neg (Nat.not_le.mpr hi), Chip.maskSlot_sound bad]
  rfl

theorem Chip.fwdWrite_frees (tab : b.argTab = some t) (arg : b.arg cbFWD 1 = i) (hi : i < b.tabSize t + 16) (invalid : eValid t b.argEnt = false) :
    ∃ c : Chip, b.fwdWrite = c.done (entWords ((kget (b.tab t).ents i).getD 0)) ∧ Chip.Wrote b c t i none := by
  have freed := b.wrote_counted t i none
  unfold Chip.fwdWrite
  rw [tab, arg]
  dsimp only
  rw [if_neg (Nat.not_le.mpr hi), invalid, if_pos (by decide)]
  exact ⟨_, rfl, freed.stale.ite freed⟩

theorem Chip.fwdWrite_puts {e key : Nat} {c : Nat × Nat} (tab : b.argTab = some t) (bad : (b.tab t).bad = []) (arg : b.arg cbFWD 1 = i)
    (hi : i < b.tabSize t + 16) (he : b.argEnt = e) (hkey : eKey t e = key) (hc : b.cands t (b.r (tgtFld t)) key = c) (valid : eValid t e = true)
    (ok : b.entOk t e = true) (place : (bucketIdx c.1 ++ bucketIdx c.2).contains i = true ∨ b.tabSize t ≤ i)
    (alone : ∀ p, b.findEnt t key = some p → p.1 = i) (sound : ∀ j ∈ bucketIdx c.1 ++ bucketIdx c.2, (b.tab t).masked.contains j = false) :
    ∃ d : Chip, b.fwdWrite = d.done (entWords ((kget (b.tab t).ents i).getD 0)) ∧
      Chip.Wrote b d t i (some (putBits e (genBit t) 1 (b.r (tgtFld t)))) := by
  have written := b.wrote_counted t i (some (putBits e (genBit t) 1 (b.r (tgtFld t))))
  have slot : ¬ (!(bucketIdx c.1 ++ bucketIdx c.2).contains i && decide (i < b.tabSize t)) = true := by
    rw [Bool.and_eq_true, decide_eq_true_eq]
    rintro ⟨out, low⟩
    exact place.elim (fun h => by rw [h] at out; exact Bool.noConfusion out) fun h => absurd low (Nat.not_lt.mpr h)
  have single : ¬ (b.findEnt t key).any (fun p => p.1 != i) = true := by
    cases h : b.findEnt t key with
    | none => exact Bool.false_ne_true
    | some p => simpa using alone p h
  have masked : ¬ (bucketIdx c.1 ++ bucketIdx c.2).any (fun j => (b.tab t).masked.contains j) = true := by
    rw [List.any_eq_true]
    rintro ⟨j, hj, h⟩
    rw [sound j hj] at h
    exact Bool.noConfusion h
  unfold Chip.fwdWrite
  rw [tab, arg, he]
  dsimp only
  rw [if_neg (Nat.not_le.mpr hi), valid, if_neg (by decide), Chip.entOver_of_entOk (Chip.argTab_lt tab) ok, if_neg (by decide), ok, if_neg (by decide), hkey,
    Chip.touch_sound bad, hc, if_neg slot, if_neg single, if_neg masked]
  refine ⟨_, rfl, ?_⟩
  have lengths := (written.filtSet key).ite (p := t = 1) written
  exact lengths.stale.ite lengths

/-- The block with the next turn of a table's insertions. -/
def Chip.seqUp (b : Chip) (t : Nat) : Chip := b.putTab t { b.tab t with insSeq := (b.tab t).insSeq + 1 }

theorem Chip.seqUp_only (b : Chip) (t : Nat) : Chip.Only [.fwd] noReg b (b.seqUp t) := b.putTab_only t _

theorem Chip.tab_seqUp (b : Chip) (t : Nat) : (b.seqUp t).tab t = { b.tab t with insSeq := (b.tab t).insSeq + 1 } := b.tab_putTab t _

theorem Chip.cands_same {b c : Chip} {ps : List Part} (h : Chip.Only ps noReg b c) (pat : Part.pat ∉ ps) (t set key : Nat) :
    c.cands t set key = b.cands t set key := by
  have nb : c.tabNB t = b.tabNB t := by rw [Chip.tabNB, Chip.tabNB, Chip.tabSize, Chip.tabSize, h.pat pat]
  unfold Chip.cands
  rw [nb, h.2 (seedFld t set 0) (fun e => e), h.2 (seedFld t set 1) (fun e => e)]

theorem Chip.findEnt_seqUp (b : Chip) (t key : Nat) : (b.seqUp t).findEnt t key = b.findEnt t key := by
  have only := b.seqUp_only t
  have search : (b.seqUp t).searchIdx t key = b.searchIdx t key := by
    have stash : (b.seqUp t).stashIdx t = b.stashIdx t := by rw [Chip.stashIdx, Chip.stashIdx, Chip.tabSize, Chip.tabSize, only.pat (by decide)]
    unfold Chip.searchIdx
    dsimp only
    rw [Chip.cands_same only (by decide), Chip.cands_same only (by decide), only.2 (tgtFld t) (fun e => e), only.t (rhFld t) (fun e => e), stash]
  unfold Chip.findEnt
  rw [b.tab_seqUp, search]
  rfl

theorem Chip.freeSlot_seqUp (b : Chip) (t : Nat) (plan : KV Nat) (k : Nat) : (b.seqUp t).freeSlot t plan k = b.freeSlot t plan k := by
  have slot : (b.seqUp t).slotFree t plan = b.slotFree t plan := by
    funext i
    rw [Chip.slotFree, Chip.slotFree, b.tab_seqUp]
    rfl
  rw [Chip.freeSlot, Chip.freeSlot, slot]

/-- An insert of a new key with a free slot in its buckets takes the first of them, with no move. -/
theorem Chip.insert_places {e key : Nat} {c : Nat × Nat} (again : Bool) (bad : (b.tab t).bad = []) (hkey : eKey t e = key)
    (hc : b.cands t (b.r (tgtFld t)) key = c) (new : again = true ∨ b.findEnt t key = none)
    (sound : ∀ j ∈ bucketIdx c.1 ++ bucketIdx c.2, (b.tab t).masked.contains j = false)
    (free : (b.freeSlot t (b.tab t).ents c.1).or (b.freeSlot t (b.tab t).ents c.2) = some i) :
    ∃ d : Chip, b.insert t e again = (d, .placed i 0) ∧ Chip.Wrote b d t i (some (putBits e (genBit t) 1 (b.r (tgtFld t)))) := by
  have masked : ¬ (bucketIdx c.1 ++ bucketIdx c.2).any (fun j => (b.tab t).masked.contains j) = true := by
    rw [List.any_eq_true]
    rintro ⟨j, hj, h⟩
    rw [sound j hj] at h
    exact Bool.noConfusion h
  have bumped := b.seqUp_only t
  have tab := b.tab_seqUp t
  have wrote := (b.seqUp t).wrote_counted t i (some (putBits e (genBit t) 1 (b.r (tgtFld t))))
  have place : b.insert t e again = (((b.seqUp t).putEnt t i (some (putBits e (genBit t) 1 (b.r (tgtFld t))))).fwdCounts t, .placed i 0) := by
    have seen : ¬ (!again && ((b.seqUp t).findEnt t key).isSome) = true := by
      rw [b.findEnt_seqUp]
      rcases new with h | h <;> simp [h]
    unfold Chip.insert
    rw [hkey]
    dsimp only
    rw [Chip.touch_sound bad]
    change (if (!again && ((b.seqUp t).findEnt t key).isSome) = true then _ else _) = _
    rw [if_neg seen]
    have same : (b.seqUp t).cands t ((b.seqUp t).r (tgtFld t)) key = c := by rw [Chip.cands_same bumped (by decide), bumped.2 _ (fun e => e), hc]
    change (if ((bucketIdx ((b.seqUp t).cands t ((b.seqUp t).r (tgtFld t)) key).1 ++ bucketIdx ((b.seqUp t).cands t ((b.seqUp t).r (tgtFld t)) key).2).any
      (fun j => (b.tab t).masked.contains j)) = true then _ else _) = _
    rw [same, if_neg masked]
    change (match ((b.seqUp t).freeSlot t (b.tab t).ents ((b.seqUp t).cands t ((b.seqUp t).r (tgtFld t)) key).1).or
      ((b.seqUp t).freeSlot t (b.tab t).ents ((b.seqUp t).cands t ((b.seqUp t).r (tgtFld t)) key).2) with | some i => _ | none => _) = _
    rw [same, b.freeSlot_seqUp, b.freeSlot_seqUp, free]
    rw [← bumped.2 (tgtFld t) (fun e => e)]
    rfl
  exact ⟨_, place, ⟨(bumped.mono (by decide) fun _ h => h.elim).trans wrote.1, fun j => by rw [wrote.2 j, tab]⟩⟩

theorem Chip.fwdInsert_places {e key : Nat} {c : Nat × Nat} (tab : b.argTab = some t) (bad : (b.tab t).bad = []) (he : b.argEnt = e) (hkey : eKey t e = key)
    (hc : b.cands t (b.r (tgtFld t)) key = c) (valid : eValid t e = true) (ok : b.entOk t e = true) (new : b.findEnt t key = none)
    (sound : ∀ j ∈ bucketIdx c.1 ++ bucketIdx c.2, (b.tab t).masked.contains j = false)
    (free : (b.freeSlot t (b.tab t).ents c.1).or (b.freeSlot t (b.tab t).ents c.2) = some i) :
    ∃ d : Chip, b.fwdInsert = d.done [i, 0] ∧ Chip.Wrote b d t i (some (putBits e (genBit t) 1 (b.r (tgtFld t)))) := by
  obtain ⟨d, inserted, wrote⟩ := Chip.insert_places (b := b) false bad hkey hc (.inr new) sound free
  unfold Chip.fwdInsert
  rw [tab]
  dsimp only
  rw [he, valid, Chip.entOver_of_entOk (Chip.argTab_lt tab) ok, ok, if_neg (by decide), if_neg (by decide), inserted]
  exact ⟨_, rfl, (wrote.filtSet _).ite wrote⟩

/-- A valid entry that names what the structure does not have is a structure rejection. -/
theorem Chip.fwdWrite_over (tab : b.argTab = some t) (hi : b.arg cbFWD 1 < b.tabSize t + 16) (valid : eValid t b.argEnt = true)
    (beyond : b.entOver t b.argEnt = true) : b.fwdWrite = (b.structReject cbFWD).fail BAD_ARG := by
  unfold Chip.fwdWrite
  rw [tab]
  dsimp only
  rw [if_neg (Nat.not_le.mpr hi), valid, if_neg (by decide), beyond, if_pos rfl]
  rfl

theorem Chip.fwdInsert_over (tab : b.argTab = some t) (valid : eValid t b.argEnt = true) (beyond : b.entOver t b.argEnt = true) :
    b.fwdInsert = (b.structReject cbFWD).fail BAD_ARG := by
  unfold Chip.fwdInsert
  rw [tab]
  dsimp only
  rw [valid, beyond, if_pos (by decide)]
  rfl

/-- An entry that is found stands at its index, and its slot can be read. -/
theorem Chip.findEnt_some {key e : Nat} (h : b.findEnt t key = some (i, e)) : kget (b.tab t).ents i = some e ∧ (b.tab t).hidden i = false := by
  unfold Chip.findEnt at h
  dsimp only at h
  split at h
  · rename_i j found
    obtain ⟨v, hv, pair⟩ := Option.map_eq_some_iff.mp h
    cases pair
    have readable := List.find?_some found
    rw [Bool.and_eq_true, Bool.not_eq_true'] at readable
    exact ⟨hv, readable.1⟩
  · cases h

theorem Chip.fwdSearch_answers {key e : Nat} (tab : b.argTab = some t) (bad : (b.tab t).bad = []) (hkey : b.argKey' t = some key)
    (found : b.findEnt t key = some (i, e)) (one : bit (b.arg cbFWD 1) 0 = false) :
    b.fwdSearch = ⟨b, OK, [i + t * 2 ^ 31] ++ entWords e ++ [0, 0]⟩ := by
  unfold Chip.fwdSearch
  rw [tab]
  dsimp only
  rw [hkey]
  dsimp only
  rw [one, if_pos (by decide), Chip.touch_sound bad, found]
  rfl

theorem Chip.fwdDelete_frees {key e : Nat} (tab : b.argTab = some t) (bad : (b.tab t).bad = []) (hkey : b.argKey' t = some key)
    (found : b.findEnt t key = some (i, e)) : ∃ c : Chip, b.fwdDelete = c.done [i] ∧ Chip.Wrote b c t i none := by
  have freed := b.wrote_counted t i none
  unfold Chip.fwdDelete
  rw [tab]
  dsimp only
  rw [hkey]
  dsimp only
  rw [Chip.touch_sound bad, found]
  exact ⟨_, rfl, freed.stale.ite freed⟩

/-- HIT of one entry is cleared. -/
theorem Chip.wrote_hit {e : Nat} (h : kget (b.tab 0).ents i = some e) : Chip.Wrote b (b.setHit i false) 0 i (some (clrBit e 4)) := by
  refine ⟨(b.putTab_only 0 _).mono (by decide) fun _ h => h.elim, fun j => ?_⟩
  rw [Chip.setHit, Chip.tab_putTab]
  refine (kget_kmod _ _ _ _).trans ?_
  obtain rfl | ne := eq_or_ne i j
  · rw [if_pos rfl, if_pos rfl, h]
    rfl
  · rw [if_neg ne, if_neg ne.symm]

theorem Chip.ageNow_tests {key e : Nat} (tab : b.argTab = some 0) (bad : (b.tab 0).bad = []) (hkey : b.argKey' 0 = some key)
    (found : b.findEnt 0 key = some (i, e)) (dynamic : eStatic e = false) :
    (eHit e = true → b.ageNow = (b.setHit i false).done [0]) ∧ (eHit e = false → b.ageNow = ((b.removeEnt 0 i).inc Reg.FWD_AGED).done [1]) := by
  obtain ⟨at', readable⟩ := Chip.findEnt_some found
  have arg : b.arg cbFWD 0 = 0 := by
    unfold Chip.argTab at tab
    split at tab
    · assumption
    · split at tab <;> cases tab
    · cases tab
  have tests : b.ageNow = (b.ageOne i false).done [b2n (!eHit e)] := by
    unfold Chip.ageNow
    rw [arg, if_neg (by decide), hkey]
    dsimp only
    rw [Chip.touch_sound bad, found]
    dsimp only
    rw [dynamic, if_neg (by decide)]
  rw [tests, Chip.ageOne, at']
  dsimp only
  rw [readable, dynamic, if_neg (by decide), if_neg (by decide), if_neg (by decide)]
  exact ⟨fun hit => by rw [hit, if_pos rfl]; rfl, fun cold => by rw [cold, if_neg (by decide)]; rfl⟩

end

/-! ### A command of FWD that runs -/

section
variable {s : State} {irq : Bool} {tb : Nat}

/-- Accepting a command leaves the table it names and its entry. -/
theorem Chip.cmdAccept_argTab (b : Chip) (irq : Bool) : (b.cmdAccept cbFWD irq).argTab = b.argTab := by
  unfold Chip.argTab
  rw [Chip.cmdAccept_arg, Chip.cmdAccept_pat]

theorem Chip.cmdAccept_argEnt (b : Chip) (irq : Bool) : (b.cmdAccept cbFWD irq).argEnt = b.argEnt := by
  rw [Chip.argEnt, Chip.argEnt, Chip.cmdAccept_args]

theorem Chip.cmdAccept_argKey' (b : Chip) (irq : Bool) (t : Nat) : (b.cmdAccept cbFWD irq).argKey' t = b.argKey' t := by
  rw [Chip.argKey', Chip.argKey', Chip.cmdAccept_argEnt]

theorem tgtFld_apart (t : Nat) : (tgtFld t).key = 0x180150 * 32 + 1 ∨ (tgtFld t).key = 0x180150 * 32 + 3 := by
  unfold tgtFld
  split
  · exact .inl rfl
  · exact .inr rfl

theorem Chip.cmdAccept_tgt (b : Chip) (irq : Bool) (t : Nat) : (b.cmdAccept cbFWD irq).r (tgtFld t) = b.r (tgtFld t) :=
  Chip.cmdAccept_r _ _ _ _ (by have := tgtFld_apart t; unfold cbFWD; omega)

theorem Chip.cmdAccept_rh (b : Chip) (irq : Bool) (t : Nat) : (b.cmdAccept cbFWD irq).r (rhFld t) = b.r (rhFld t) :=
  Chip.cmdAccept_r _ _ _ _ (by unfold rhFld; split <;> decide)

theorem seedFld_key (t set k : Nat) : 0x180190 * 32 ≤ (seedFld t set k).key ∧ (seedFld t set k).key < 0x1801B0 * 32 := by
  unfold seedFld
  split <;> decide

theorem Chip.cmdAccept_cands (b : Chip) (irq : Bool) (t set key : Nat) : (b.cmdAccept cbFWD irq).cands t set key = b.cands t set key := by
  have seed (k : Nat) : (b.cmdAccept cbFWD irq).r (seedFld t set k) = b.r (seedFld t set k) :=
    Chip.cmdAccept_r _ _ _ _ (by have := seedFld_key t set k; unfold cbFWD; omega)
  unfold Chip.cands
  rw [seed, seed]
  rfl

theorem Chip.cmdAccept_findEnt (b : Chip) (irq : Bool) (t key : Nat) : (b.cmdAccept cbFWD irq).findEnt t key = b.findEnt t key := by
  have search : (b.cmdAccept cbFWD irq).searchIdx t key = b.searchIdx t key := by
    have rh : (b.cmdAccept cbFWD irq).t (rhFld t) = b.t (rhFld t) := congrArg (· == 1) (b.cmdAccept_rh irq t)
    unfold Chip.searchIdx
    dsimp only
    rw [b.cmdAccept_tgt, rh, b.cmdAccept_cands, b.cmdAccept_cands]
    rfl
  unfold Chip.findEnt
  rw [search]
  rfl

/-- A command that writes one index of a table. -/
theorem Runs.wrote {i : Instr} {f : Chip → CmdOut} {j : Nat} {e : Option Nat} {l : List Nat} (run : exec i s = .next { s with b := s.b.cmd cbFWD irq f })
    (takes : s.b.takes cbFWD = true)
    (hf : ∃ c : Chip, f (s.b.cmdAccept cbFWD irq) = c.done l ∧ Chip.Wrote (s.b.cmdAccept cbFWD irq) c tb j e) :
    Runs i s (fun t => t.mem = s.mem ∧ t.b.Completed cbFWD OK l ∧ Chip.SameBut { s.b with fwd := t.b.fwd } t.b ∧
      ∀ k, kget (t.b.tab tb).ents k = if k = j then e else kget (s.b.tab tb).ents k) := by
  obtain ⟨c, run', only, ents⟩ := hf
  refine (Runs.ran run takes (by decide) (by decide) run' only).imp fun t ⟨mem, completed, all, kept⟩ => ⟨mem, completed, ?_, fun k => ?_⟩
  · exact (all.mono (qs := [.cmdIrq, .ntc, .out, .fwd]) (by decide) fun _ => id).1
  · rw [kept.tab (by decide)]
    exact ents k

end

end Sys2Proof.Machine

open Sys2Proof Sys2Proof.Machine

/-- Settles O49. -/
theorem tablesAreReadAndWritten : Obligations.TablesAreReadAndWritten := by
  intro s irq tb i takes tab bad
  have cb : cbFWD ∈ cbBases := by decide
  have tab' : (s.b.cmdAccept cbFWD irq).argTab = some tb := (s.b.cmdAccept_argTab irq).trans tab
  have bad' : ((s.b.cmdAccept cbFWD irq).tab tb).bad = [] := bad
  have arg : (s.b.cmdAccept cbFWD irq).arg cbFWD 1 = s.b.arg cbFWD 1 := Chip.cmdAccept_arg _ _ _ _
  have ent := s.b.cmdAccept_argEnt irq
  have tgt := s.b.cmdAccept_tgt irq tb
  refine ⟨fun hi low => ⟨?_, fun invalid => ?_, fun e key c he hkey hc valid ok place alone sound => ?_⟩, fun e key c he hkey hc valid ok new sound free => ?_,
    fun w valid beyond hw => ?_, fun key e hkey found => ⟨fun one => ?_, ?_, fun zero dynamic => ?_⟩⟩
  · exact Runs.answers rfl takes cb (by decide) (Chip.fwdRead_answers tab' bad' (arg.trans hi.symm) low)
  · exact Runs.wrote rfl takes (Chip.fwdWrite_frees tab' (arg.trans hi.symm) low (by rw [ent]; exact invalid)) |>.imp
      fun t ⟨mem, completed, same, ents⟩ => ⟨mem, completed, same, ents⟩
  · have puts := Chip.fwdWrite_puts tab' bad' (arg.trans hi.symm) low (ent.trans he.symm) hkey.symm (by rw [tgt, s.b.cmdAccept_cands, ← hc]) valid ok place
      (by rw [s.b.cmdAccept_findEnt]; exact alone) sound
    rw [tgt] at puts
    exact Runs.wrote rfl takes puts
  · have places := Chip.fwdInsert_places tab' bad' (ent.trans he.symm) hkey.symm (by rw [tgt, s.b.cmdAccept_cands, ← hc]) valid ok
      (by rw [s.b.cmdAccept_findEnt]; exact new) sound free
    rw [tgt] at places
    exact Runs.wrote rfl takes places
  · have rejects {f : Chip → CmdOut} (run : exec w s = .next { s with b := s.b.cmd cbFWD irq f })
        (hf : f (s.b.cmdAccept cbFWD irq) = ((s.b.cmdAccept cbFWD irq).structReject cbFWD).fail BAD_ARG) :
        Runs w s (fun t => t.mem = s.mem ∧ t.b.Completed cbFWD BAD_ARG [] ∧ Chip.SameBut s.b t.b ∧
          t.b.r Reg.GLB_STRUCT_REJECT_CNT = satAdd 32 (s.b.r Reg.GLB_STRUCT_REJECT_CNT) 1) :=
      (Runs.structFails run takes cb hf).imp fun t ⟨mem, completed, all, count⟩ => ⟨mem, completed, (all.mono (qs := [.cmdIrq, .ntc, .out]) (by decide) fun _ => id).1, count⟩
    rcases hw with ⟨rfl, low⟩ | rfl
    · exact rejects rfl (Chip.fwdWrite_over tab' (by rw [arg]; exact low) (by rw [ent]; exact valid) (by rw [ent]; exact beyond))
    · exact rejects rfl (Chip.fwdInsert_over tab' (by rw [ent]; exact valid) (by rw [ent]; exact beyond))
  · exact Runs.answers rfl takes cb (by decide) (Chip.fwdSearch_answers tab' bad' ((s.b.cmdAccept_argKey' irq tb).trans hkey)
      ((s.b.cmdAccept_findEnt irq tb key).trans found) (by rw [arg]; exact one))
  · exact Runs.wrote rfl takes (Chip.fwdDelete_frees tab' bad' ((s.b.cmdAccept_argKey' irq tb).trans hkey) ((s.b.cmdAccept_findEnt irq tb key).trans found))
  · subst zero
    obtain ⟨hot, cold⟩ := Chip.ageNow_tests tab' bad' ((s.b.cmdAccept_argKey' irq 0).trans hkey) ((s.b.cmdAccept_findEnt irq 0 key).trans found) dynamic
    refine ⟨fun hit => ?_, fun miss => ?_⟩
    · exact Runs.wrote rfl takes ⟨_, hot hit, Chip.wrote_hit (Chip.findEnt_some found).1⟩
    · have removed : Chip.Wrote (s.b.cmdAccept cbFWD irq) _ 0 i none := (s.b.cmdAccept cbFWD irq).wrote_counted 0 i none
      refine (Runs.ran (ps := [.fwd, .ntc, .out]) (rs := fun k => fwdKey k ∨ k = Reg.FWD_AGED.key) rfl takes cb (by decide) (cold miss)
        ((removed.1.mono (fun _ => id) fun _ => .inl).inc _ (.inr rfl))).imp fun t ⟨mem, completed, all, kept⟩ => ⟨mem, completed, ?_, ?_, fun k => ?_⟩
      · exact (all.mono (qs := [.cmdIrq, .ntc, .out, .fwd]) (by decide) fun _ => id).1
      · rw [kept.2 _ (by unfold blockKey; decide), Chip.r_inc_same]
        exact congrArg (satAdd 32 · 1) ((removed.1.2 Reg.FWD_AGED (by decide)).trans (Chip.cmdAccept_r _ _ _ _ (by decide)))
      · rw [kept.tab (by decide)]
        exact removed.2 k
end

section
/-!
SUPPORT. Rehashing and learning: what REHASH_STEP and the learn engine leave as they were (R389 to R393).
-/
namespace Sys2Proof.Machine

/-! ### The registers that direct a rehash (R389) -/

/-- The states and targets of rehashes, their cursors, the seeds, and the entries left. -/
abbrev rhKey (k : Nat) : Prop := offs 0x180150 0x180164 k ∨ offs 0x180190 0x1801B0 k

theorem rhKey_free {k : Nat} (h : rhKey k) : ¬ blockKey cbFWD k := by
  have pend : Reg.NTC_INT_PEND.key = 0x50030 * 32 := rfl
  unfold rhKey offs at h
  unfold blockKey offs cbFWD
  omega

/-- Each has its place. -/
theorem rhFlds_apart : ∀ t < 2, ¬ fwdKey (rhFld t).key ∧ ¬ fwdKey (tgtFld t).key ∧ ¬ fwdKey (cursorFld t).key ∧
    (tgtFld t).key ≠ (rhFld t).key ∧ (tgtFld t).key ≠ (cursorFld t).key ∧ (rhFld t).key ≠ (cursorFld t).key := by
  intro t ht
  interval_cases t <;> exact ⟨by decide, by decide, by decide, by decide, by decide, by decide⟩

theorem rhFlds_key : ∀ t < 2, rhKey (rhFld t).key ∧ rhKey (tgtFld t).key ∧ rhKey (cursorFld t).key ∧ rhKey (leftFld t).key ∧ (rhFld t).w = 1 ∧
    (tgtFld t).w = 1 := by
  decide

theorem seedFld_apart : ∀ t < 2, ∀ set < 2, ∀ k < 2, ¬ fwdKey (seedFld t set k).key ∧ rhKey (seedFld t set k).key ∧
    (seedFld t set k).w = 32 ∧ (seedFld t set k).key ≠ (tgtFld t).key ∧ (seedFld t set k).key ≠ (rhFld t).key ∧
    (seedFld t set k).key ≠ (cursorFld t).key := by
  intro t ht set hset k hk
  interval_cases t <;> interval_cases set <;> interval_cases k <;> decide

theorem seedFlds_differ : ∀ t < 2, ∀ set < 2, (seedFld t set 0).key ≠ (seedFld t set 1).key := by
  decide

/-- A step of a rehash that runs answers what is left and the cursor. -/
theorem Runs.rehashes {i : Instr} {s : State} {irq : Bool} {f : Chip → CmdOut} {t : Nat} {P : Chip → Prop} (ht : t < 2)
    (run : exec i s = .next { s with b := s.b.cmd cbFWD irq f }) (takes : s.b.takes cbFWD = true)
    (hf : ∃ c : Chip, f (s.b.cmdAccept cbFWD irq) = c.rhDone t ∧ Chip.Only [.fwd, .ntc, .out] (fun k => fwdKey k ∨ rhKey k) (s.b.cmdAccept cbFWD irq) c ∧
      P c) :
    Runs i s (fun u => u.mem = s.mem ∧ u.b.Completed cbFWD OK [u.b.r (leftFld t), u.b.r (cursorFld t)] ∧ Chip.SameBut { s.b with fwd := u.b.fwd } u.b ∧
      ∃ c : Chip, P c ∧ u.b.fwd = c.fwd ∧ ∀ g : Fld, rhKey g.key → u.b.r g = c.r g) := by
  obtain ⟨c, run', only, facts⟩ := hf
  obtain ⟨-, -, cursor, left, -⟩ := rhFlds_key t ht
  refine (Runs.ran run takes (by decide) (by decide) run' only).imp fun u ⟨mem, completed, all, kept⟩ => ?_
  have same (g : Fld) (hg : rhKey g.key) : u.b.r g = c.r g := kept.2 g (rhKey_free hg)
  refine ⟨mem, ?_, (all.mono (qs := [.cmdIrq, .ntc, .out, .fwd]) (by decide) fun _ => id).1, c, facts, kept.fwd (by decide), same⟩
  rw [same _ cursor, same _ left]
  exact completed

/-! ### The steps (R389, R390) -/

section
variable {b : Chip} {t : Nat}

theorem Chip.rehashStart_begins (ht : t < 2) (tab : b.argTab = some t) (idle : b.t (rhFld t) = false) :
    ∃ c : Chip, b.rehashStart = c.rhDone t ∧ Chip.Only [.fwd, .ntc, .out] (fun k => fwdKey k ∨ rhKey k) b c ∧
      (c.fwd = b.fwd ∧ c.r (rhFld t) = 1 ∧ c.r (tgtFld t) = 1 - b.r (tgtFld t) ∧ c.r (cursorFld t) = 0 ∧
        c.r (seedFld t (1 - b.r (tgtFld t)) 0) = b.arg cbFWD 2 % 2 ^ 32 ∧ c.r (seedFld t (1 - b.r (tgtFld t)) 1) = b.arg cbFWD 3 % 2 ^ 32) := by
  obtain ⟨rh, tgt, cursor, tgt_rh, tgt_cursor, rh_cursor⟩ := rhFlds_apart t ht
  obtain ⟨rh', tgt', cursor', -, rhW, tgtW⟩ := rhFlds_key t ht
  have hset : 1 - b.r (tgtFld t) < 2 := by omega
  obtain ⟨seed0, seed0', seed0W, seed0_tgt, seed0_rh, seed0_cursor⟩ := seedFld_apart t ht _ hset 0 (by decide)
  obtain ⟨seed1, seed1', seed1W, seed1_tgt, seed1_rh, seed1_cursor⟩ := seedFld_apart t ht _ hset 1 (by decide)
  have differ := seedFlds_differ t ht _ hset
  unfold Chip.rehashStart
  rw [tab]
  dsimp only
  rw [idle, if_neg (by decide)]
  generalize 1 - b.r (tgtFld t) = g at *
  refine ⟨_, rfl, ?_, ?_⟩
  · exact ((((((Chip.Only.rfl' b _ _).w _ _ (.inr seed0')).w _ _ (.inr seed1')).w _ _ (.inr tgt')).w _ _ (.inr rh')).w _ _ (.inr cursor')).trans
      ((Chip.fwdCounts_only _ t).mono (by decide) fun _ => .inl)
  · have counted := Chip.fwdCounts_only (((((b.w (seedFld t g 0) (b.arg cbFWD 2)).w (seedFld t g 1) (b.arg cbFWD 3)).w (tgtFld t) g).wb (rhFld t) true).w
      (cursorFld t) 0) t
    refine ⟨counted.fwd (by decide), ?_, ?_, ?_, ?_, ?_⟩
    · rw [counted.2 _ rh, Chip.r_w_ne _ _ _ _ rh_cursor.symm, Chip.wb, Chip.r_w_same, rhW]
      rfl
    · rw [counted.2 _ tgt, Chip.r_w_ne _ _ _ _ tgt_cursor.symm, Chip.wb, Chip.r_w_ne _ _ _ _ tgt_rh.symm, Chip.r_w_same, tgtW]
      exact Nat.mod_eq_of_lt hset
    · rw [counted.2 _ cursor, Chip.r_w_same]
      exact Nat.zero_mod _
    · rw [counted.2 _ seed0, Chip.r_w_ne _ _ _ _ seed0_cursor.symm, Chip.wb, Chip.r_w_ne _ _ _ _ seed0_rh.symm, Chip.r_w_ne _ _ _ _ seed0_tgt.symm,
        Chip.r_w_ne _ _ _ _ differ.symm, Chip.r_w_same, seed0W]
    · rw [counted.2 _ seed1, Chip.r_w_ne _ _ _ _ seed1_cursor.symm, Chip.wb, Chip.r_w_ne _ _ _ _ seed1_rh.symm, Chip.r_w_ne _ _ _ _ seed1_tgt.symm, Chip.r_w_same, seed1W]

/-- Moving a bucket's entries changes the tables, the counts and the notice block. -/
theorem Chip.rhBucket_only (b : Chip) (t k : Nat) : Chip.Only [.fwd, .ntc, .out] fwdKey b (b.rhBucket t k) := by
  refine (Chip.Only.rfl' b _ _).foldl _ fun c i _ => ?_
  split
  · exact .rfl' c _ _
  · rename_i e _
    refine .ite ((c.maskSlot_only t i).mono (by decide) fun _ => id) (.ite (.rfl' c _ _) ?_)
    have inserted := (c.insert_only t e true).1
    split
    · rename_i c1 _ _ h
      rw [h] at inserted
      exact inserted.trans (c1.putEnt_counted t i none).1
    · rename_i c1 _ h
      rw [h] at inserted
      exact inserted

theorem Chip.rehashMove_advances (ht : t < 2) (tab : b.argTab = some t) (busy : b.t (rhFld t) = true) (one : b.arg cbFWD 2 = 1) :
    ∃ c : Chip, b.rehashMove = c.rhDone t ∧ Chip.Only [.fwd, .ntc, .out] (fun k => fwdKey k ∨ rhKey k) b c ∧
      (c.t (rhFld t) = true ∧ c.r (tgtFld t) = b.r (tgtFld t) ∧
        c.r (cursorFld t) = (if b.r (cursorFld t) + 1 < b.tabNB t then b.r (cursorFld t) + 1 else 0) % 2 ^ (cursorFld t).w) := by
  obtain ⟨rh, tgt, cursor, -, tgt_cursor, rh_cursor⟩ := rhFlds_apart t ht
  obtain ⟨-, -, cursor', -⟩ := rhFlds_key t ht
  have moved := b.rhBucket_only t (b.r (cursorFld t))
  unfold Chip.rehashMove
  rw [tab]
  dsimp only
  rw [one, if_neg (by decide), busy, if_neg (by decide)]
  refine ⟨_, rfl, ?_, ?_⟩
  · exact ((moved.mono (fun _ => id) fun _ => .inl).w _ _ (.inr cursor')).trans ((Chip.fwdCounts_only _ t).mono (by decide) fun _ => .inl)
  · have counted := ((b.rhBucket t (b.r (cursorFld t))).w (cursorFld t) (if b.r (cursorFld t) + 1 < b.tabNB t then b.r (cursorFld t) + 1 else 0)).fwdCounts_only t
    rw [Chip.rhMoves, Chip.rhMoves]
    refine ⟨?_, ?_, ?_⟩
    · rw [counted.t _ rh, Chip.t, Chip.r_w_ne _ _ _ _ rh_cursor.symm, moved.2 _ rh]
      exact busy
    · rw [counted.2 _ tgt, Chip.r_w_ne _ _ _ _ tgt_cursor.symm, moved.2 _ tgt]
    · rw [counted.2 _ cursor, Chip.r_w_same]

/-- The registers that the counts write after that of the entries left. -/
theorem Chip.stashLvl_left (b : Chip) (ht : t < 2) : (b.stashLvl t).r (leftFld t) = b.r (leftFld t) := by
  have keys : Chip.Only [.ntc, .out] (fun k => k ≠ (leftFld t).key) b (b.stashLvl t) := by
    have lvl : (if t = 0 then Reg.FWD_EXM_STASH_LVL else Reg.FWD_LPM_STASH_LVL).key ≠ (leftFld t).key := by interval_cases t <;> decide
    have hi : (if t = 0 then Reg.FWD_EXM_STASH_HI else Reg.FWD_LPM_STASH_HI).key ≠ (leftFld t).key := by interval_cases t <;> decide
    have raised : ∀ k, offs 0x50000 0x60000 k → k ≠ (leftFld t).key := by
      rintro k hk rfl
      revert hk
      interval_cases t <;> decide
    unfold Chip.stashLvl
    dsimp only
    have first : Chip.Only [.ntc, .out] (fun k => k ≠ (leftFld t).key) b b := .rfl' b _ _
    exact .ite (((first.w _ _ lvl).w _ _ hi).trans ((Chip.raise_only _ _ _ _).mono (by decide) raised)) (first.w _ _ lvl)
  exact keys.2 _ (fun h => h rfl)

/-- Out of a rehash nothing is left. -/
theorem Chip.fwdCounts_left (b : Chip) (ht : t < 2) (idle : b.t (rhFld t) = false) : (b.fwdCounts t).r (leftFld t) = 0 := by
  unfold Chip.fwdCounts
  extract_lets x size stash left b1 v b3 b2
  have h1 : b1.r (leftFld t) = 0 := by
    rw [show b1 = b.w (leftFld t) left from rfl, Chip.r_w_same, show left = 0 from if_neg (by rw [idle]; decide)]
    exact Nat.zero_mod _
  rw [Chip.stashLvl_left _ ht]
  unfold b2
  obtain rfl | rfl : t = 0 ∨ t = 1 := by omega
  · rw [if_pos rfl, Chip.r_w_ne _ _ _ _ (by decide), Chip.r_w_ne _ _ _ _ (by decide), Chip.r_w_ne _ _ _ _ (by decide), h1]
  · have lengths : Chip.Only [] (offs 0x180130 0x180144) b1 b3 := (Chip.Only.rfl' b1 _ _).foldl _ fun c i hi => (Chip.Only.rfl' c _ _).w _ _ (by
      have := List.mem_range.mp hi
      simp only [offs, Fld.key, Reg.FWD_LEN_VEC]
      omega)
    rw [if_neg (by decide), Chip.r_w_ne _ _ _ _ (by decide), Chip.r_w_ne _ _ _ _ (by decide), Chip.r_w_ne _ _ _ _ (by decide), lengths.2 _ (by decide), h1]

theorem Chip.rehashFinish_ends (ht : t < 2) (tab : b.argTab = some t) (busy : b.t (rhFld t) = true) (none : b.r (leftFld t) = 0) :
    ∃ c : Chip, b.rehashFinish = c.rhDone t ∧ Chip.Only [.fwd, .ntc, .out] (fun k => fwdKey k ∨ rhKey k) b c ∧
      (c.fwd = b.fwd ∧ c.r (rhFld t) = 0 ∧ c.r (tgtFld t) = b.r (tgtFld t) ∧ c.r (cursorFld t) = b.r (cursorFld t) ∧ c.r (leftFld t) = 0) := by
  obtain ⟨rh, tgt, cursor, tgt_rh, tgt_cursor, rh_cursor⟩ := rhFlds_apart t ht
  obtain ⟨rh', tgt', cursor', left', rhW, tgtW⟩ := rhFlds_key t ht
  have counted := (b.wb (rhFld t) false).fwdCounts_only t
  have idle : (b.wb (rhFld t) false).r (rhFld t) = 0 := by
    rw [Chip.wb, Chip.r_w_same]
    exact Nat.zero_mod _
  have raised := ((b.wb (rhFld t) false).fwdCounts t).raise_only Src.FWD N.REHASH_DONE
    (argB t (((b.wb (rhFld t) false).fwdCounts t).r (tgtFld t)) 0 0 (((b.wb (rhFld t) false).fwdCounts t).tab t).ents.length)
  have quiet {k : Nat} (h : rhKey k) : ¬ offs 0x50000 0x60000 k := by
    unfold rhKey offs at h
    unfold offs
    omega
  unfold Chip.rehashFinish
  rw [tab]
  dsimp only
  rw [busy, none, if_neg (by decide)]
  refine ⟨_, rfl, ?_, ?_, ?_, ?_, ?_, ?_⟩
  · exact (((Chip.Only.rfl' b _ _).w _ _ (.inr rh')).trans (counted.mono (by decide) fun _ => .inl)).trans (raised.mono (by decide) fun _ h => .inl (.inl h))
  · rw [raised.fwd (by decide), counted.fwd (by decide)]
    rfl
  · rw [raised.2 _ (quiet rh'), counted.2 _ rh, idle]
  · rw [raised.2 _ (quiet tgt'), counted.2 _ tgt, Chip.wb, Chip.r_w_ne _ _ _ _ tgt_rh.symm]
  · rw [raised.2 _ (quiet cursor'), counted.2 _ cursor, Chip.wb, Chip.r_w_ne _ _ _ _ rh_cursor]
  · rw [raised.2 _ (quiet left'), Chip.fwdCounts_left _ ht (by rw [Chip.t, idle]; rfl)]

theorem Chip.rehashRevert_begins (ht : t < 2) (tab : b.argTab = some t) (busy : b.t (rhFld t) = true) :
    ∃ c : Chip, b.rehashRevert = c.rhDone t ∧ Chip.Only [.fwd, .ntc, .out] (fun k => fwdKey k ∨ rhKey k) b c ∧
      (c.fwd = b.fwd ∧ c.t (rhFld t) = true ∧ c.r (tgtFld t) = 1 - b.r (tgtFld t) ∧ c.r (cursorFld t) = 0) := by
  obtain ⟨rh, tgt, cursor, tgt_rh, tgt_cursor, rh_cursor⟩ := rhFlds_apart t ht
  obtain ⟨-, tgt', cursor', -, -, tgtW⟩ := rhFlds_key t ht
  have counted := ((b.w (tgtFld t) (1 - b.r (tgtFld t))).w (cursorFld t) 0).fwdCounts_only t
  unfold Chip.rehashRevert
  rw [tab]
  dsimp only
  rw [busy, if_neg (by decide)]
  refine ⟨_, rfl, ?_, counted.fwd (by decide), ?_, ?_, ?_⟩
  · exact (((Chip.Only.rfl' b _ _).w _ _ (.inr tgt')).w _ _ (.inr cursor')).trans (counted.mono (by decide) fun _ => .inl)
  · rw [counted.t _ rh, Chip.t, Chip.r_w_ne _ _ _ _ rh_cursor.symm, Chip.r_w_ne _ _ _ _ tgt_rh]
    exact busy
  · rw [counted.2 _ tgt, Chip.r_w_ne _ _ _ _ tgt_cursor.symm, Chip.r_w_same, tgtW]
    exact Nat.mod_eq_of_lt (by omega)
  · rw [counted.2 _ cursor, Chip.r_w_same]
    exact Nat.zero_mod _

theorem Chip.refilter_begins (tab : b.argTab = some 1) (idle : b.t (rhFld 1) = false) :
    ∃ c : Chip, b.refilter = c.rhDone 1 ∧ Chip.Only [.fwd, .ntc, .out] (fun k => fwdKey k ∨ rhKey k) b c ∧
      (c.fwd = { b.fwd with refil := b.lens } ∧ c.r Reg.FWD_REFILTERING = b2n (!b.lens.isEmpty) ∧ c.r (leftFld 1) = b.r (leftFld 1) ∧
        c.r (cursorFld 1) = b.r (cursorFld 1)) := by
  unfold Chip.refilter
  rw [tab]
  dsimp only
  rw [if_neg (by decide), idle, if_neg (by decide)]
  refine ⟨_, rfl, ((Chip.Only.rfl' b _ _).putFwd (by decide) _).w _ _ (.inr (by decide)), rfl, ?_, ?_, ?_⟩
  · rw [Chip.wb, Chip.r_w_same]
    cases b.lens.isEmpty <;> rfl
  · exact Chip.r_w_ne _ _ _ _ (by decide)
  · exact Chip.r_w_ne _ _ _ _ (by decide)

/-- A command that names the table of prefixes, where the Pattern has none, is beyond the structure (R71, R376). -/
theorem Chip.noPrefix_fails (arg : b.arg cbFWD 0 = 1) (none : b.pat.lpmPrefixes = 0) :
    b.argTab = .none ∧ b.tabBad = b.structFail cbFWD := by
  refine ⟨?_, if_pos arg⟩
  unfold Chip.argTab
  rw [arg]
  exact if_pos none

end

theorem Chip.cmdAccept_rhKey (b : Chip) (irq : Bool) {f : Fld} (h : rhKey f.key) : (b.cmdAccept cbFWD irq).r f = b.r f :=
  (b.cmdAccept_only cbFWD irq).2 f (rhKey_free h)

/-- A command on a table that the Pattern lacks. -/
theorem Runs.noPrefix {i : Instr} {s : State} {irq : Bool} {f : Chip → CmdOut} (run : exec i s = .next { s with b := s.b.cmd cbFWD irq f })
    (takes : s.b.takes cbFWD = true) (arg : s.b.arg cbFWD 0 = 1) (none : s.b.pat.lpmPrefixes = 0) (hf : ∀ c : Chip, c.argTab = .none → f c = c.tabBad) :
    Runs i s (fun t => t.mem = s.mem ∧ t.b.fwd = s.b.fwd ∧ t.b.Completed cbFWD BAD_ARG [] ∧
      t.b.r Reg.GLB_STRUCT_REJECT_CNT = satAdd 32 (s.b.r Reg.GLB_STRUCT_REJECT_CNT) 1) := by
  obtain ⟨lacks, fails⟩ := Chip.noPrefix_fails (b := s.b.cmdAccept cbFWD irq) ((s.b.cmdAccept_arg _ _ _).trans arg) none
  exact (Runs.structFails run takes (by decide) ((hf _ lacks).trans fails)).imp fun t ⟨mem, completed, all, count⟩ =>
    ⟨mem, all.fwd (by decide), completed, count⟩

/-! ### The learn engine (R393) -/

section
variable {b : Chip} {r : LearnReq} {l : List LearnReq}

/-- The block with the first request taken out and the slots masked that its search reads. -/
def Chip.learnTaken (b : Chip) (r : LearnReq) (l : List LearnReq) : Chip :=
  (Chip.w { b with fwd := { b.fwd with learn := l } } Reg.FWD_LEARN_DEPTH l.length).touch 0 (256 * addrKey r.src)

theorem Chip.learnTaken_only (b : Chip) (r : LearnReq) (l : List LearnReq) :
    Chip.Only [.fwd] (fun k => maskKey k ∨ k = Reg.FWD_LEARN_DEPTH.key) b (b.learnTaken r l) :=
  (((Chip.Only.rfl' b _ _).putFwd (by decide) _).w _ _ (.inr rfl)).trans ((Chip.touch_masks _ _ _).mono (fun _ => id) fun _ => .inl)

theorem Chip.learnTaken_kept (b : Chip) (r : LearnReq) (l : List LearnReq) :
    ((b.learnTaken r l).tab 0).ents = (b.tab 0).ents ∧ (b.learnTaken r l).fwd.learn = l := by
  obtain ⟨ents, learn⟩ := Chip.touch_kept (Chip.w { b with fwd := { b.fwd with learn := l } } Reg.FWD_LEARN_DEPTH l.length) 0 (256 * addrKey r.src) 0
  exact ⟨ents, learn⟩

/-- The learn engine on a source that it finds. -/
theorem Chip.learnApply_known {x : Chip} {i e : Nat} (learn : b.fwd.learn = r :: l) (hx : x = b.learnTaken r l)
    (found : x.findEnt 0 (256 * addrKey r.src) = some (i, e)) :
    b.learnApply = if eStatic e || !eLearned e then x.inc Reg.FWD_LEARN_CONFLICT
      else if ePort 0 e = r.port then (x.putEnt 0 i (some (learnPut e r))).inc Reg.FWD_MAC_CHANGE
      else if (x.stitch32 + (2 ^ 32 - eMove e)) % 2 ^ 32 < x.r Reg.FWD_MOVE_HOLD then
        (x.inc Reg.FWD_FLAP).noteFirst N.FLAP_HELD (i + ePort 0 e * 2 ^ 32 + r.port * 2 ^ 33) 1
      else ((x.putEnt 0 i (some (putBits (putBits (learnPut e r) 32 13 (x.learnQueue r.port)) 96 32 x.stitch32))).inc Reg.FWD_MOVED).noteFirst N.MOVED
        (i + r.port * 2 ^ 32) 1 := by
  subst hx
  unfold Chip.learnTaken at found ⊢
  unfold Chip.learnApply Chip.learnDo
  rw [learn]
  dsimp only
  rw [found]

/-- The learn engine on a source that it does not find. -/
theorem Chip.learnApply_unknown {x : Chip} (learn : b.fwd.learn = r :: l) (hx : x = b.learnTaken r l) (new : x.findEnt 0 (256 * addrKey r.src) = none) :
    (x.r Reg.FWD_LEARN_LIMIT ≤ x.r Reg.FWD_LEARNED_USED → b.learnApply = x.inc Reg.FWD_LEARN_LIMIT_HIT) ∧
    ∀ (b1 : Chip) (i m : Nat), x.r Reg.FWD_LEARNED_USED < x.r Reg.FWD_LEARN_LIMIT → x.insert 0 (x.learnEnt r) false = (b1, .placed i m) →
      b.learnApply = b1.inc Reg.FWD_LEARN_INSTALL := by
  subst hx
  unfold Chip.learnTaken at new ⊢
  unfold Chip.learnApply Chip.learnDo
  rw [learn]
  dsimp only
  rw [new]
  dsimp only
  exact ⟨fun full => if_pos full, fun b1 i m room placed => by rw [if_neg (Nat.not_le.mpr room), placed]⟩

end

end Sys2Proof.Machine

open Sys2Proof Sys2Proof.Machine

/-- Settles O50. -/
theorem tablesRehashAndLearn : Obligations.TablesRehashAndLearn := by
  refine fun s => ⟨fun irq tb takes tab => ?_, fun irq i takes arg none hi => ?_, fun idle => ?_, fun r l x learn hx => ?_⟩
  · have ht := Chip.argTab_lt tab
    have tab' : (s.b.cmdAccept cbFWD irq).argTab = some tb := (s.b.cmdAccept_argTab irq).trans tab
    have arg (j : Nat) : (s.b.cmdAccept cbFWD irq).arg cbFWD j = s.b.arg cbFWD j := Chip.cmdAccept_arg _ _ _ _
    obtain ⟨rh, tgt, cursor, left, -⟩ := rhFlds_key tb ht
    have rh' : (s.b.cmdAccept cbFWD irq).t (rhFld tb) = s.b.t (rhFld tb) := congrArg (· == 1) (s.b.cmdAccept_rhKey irq rh)
    have tgt' := s.b.cmdAccept_rhKey irq tgt
    have cursor' := s.b.cmdAccept_rhKey irq cursor
    have left' := s.b.cmdAccept_rhKey irq left
    refine ⟨fun idle => ?_, fun busy => ⟨fun one => ?_, fun none => ?_, ?_⟩, fun one idle => ?_⟩
    · refine (Runs.rehashes ht rfl takes (Chip.rehashStart_begins ht tab' (rh'.trans idle))).imp
        fun t ⟨mem, completed, same, c, ⟨fwd, run, target, zero, seed0, seed1⟩, hfwd, regs⟩ => ?_
      have hset : 1 - s.b.r (tgtFld tb) < 2 := by omega
      have kept : t.b.fwd = s.b.fwd := hfwd.trans fwd
      rw [regs _ cursor, zero] at completed
      rw [kept] at same
      rw [tgt', arg] at seed0 seed1
      exact ⟨mem, kept, (regs _ rh).trans run, (regs _ tgt).trans (target.trans (by rw [tgt'])), (regs _ (seedFld_apart tb ht _ hset 0 (by decide)).2.1).trans seed0,
        (regs _ (seedFld_apart tb ht _ hset 1 (by decide)).2.1).trans seed1, completed, same⟩
    · refine (Runs.rehashes ht rfl takes (Chip.rehashMove_advances ht tab' (rh'.trans busy) ((arg 2).trans one))).imp
        fun t ⟨mem, completed, same, c, ⟨run, target, next⟩, hfwd, regs⟩ => ?_
      rw [cursor'] at next
      exact ⟨mem, (congrArg (· == 1) (regs _ rh)).trans run, (regs _ tgt).trans (target.trans tgt'), (regs _ cursor).trans next, completed, same⟩
    · refine (Runs.rehashes ht rfl takes (Chip.rehashFinish_ends ht tab' (rh'.trans busy) (left'.trans none))).imp
        fun t ⟨mem, completed, same, c, ⟨fwd, stop, target, stays, nothing⟩, hfwd, regs⟩ => ?_
      have kept : t.b.fwd = s.b.fwd := hfwd.trans fwd
      rw [regs _ cursor, stays, cursor', regs _ left, nothing] at completed
      rw [kept] at same
      exact ⟨mem, kept, (regs _ rh).trans stop, (regs _ tgt).trans (target.trans tgt'), completed, same⟩
    · refine (Runs.rehashes ht rfl takes (Chip.rehashRevert_begins ht tab' (rh'.trans busy))).imp
        fun t ⟨mem, completed, same, c, ⟨fwd, run, target, zero⟩, hfwd, regs⟩ => ?_
      have kept : t.b.fwd = s.b.fwd := hfwd.trans fwd
      rw [regs _ cursor, zero] at completed
      rw [kept] at same
      exact ⟨mem, kept, (congrArg (· == 1) (regs _ rh)).trans run, (regs _ tgt).trans (target.trans (by rw [tgt'])), completed, same⟩
    · subst one
      refine (Runs.rehashes ht rfl takes (Chip.refilter_begins tab' (rh'.trans idle))).imp
        fun t ⟨mem, completed, same, c, ⟨fwd, shows, stays, at'⟩, hfwd, regs⟩ => ?_
      rw [regs _ cursor, at', cursor', regs _ left, stays, left'] at completed
      exact ⟨mem, hfwd.trans fwd, (regs _ (by decide)).trans shows, completed, same⟩
  · simp only [List.mem_cons, List.not_mem_nil, or_false] at hi
    have fails {w : Instr} {f : Chip → CmdOut} (run : exec w s = .next { s with b := s.b.cmd cbFWD irq f })
        (hf : ∀ c : Chip, c.argTab = .none → f c = c.tabBad) := Runs.noPrefix run takes arg none hf
    rcases hi with rfl | rfl | rfl | rfl | rfl | rfl | rfl | rfl | rfl | rfl <;> refine fails rfl fun c h => ?_
    · rw [Chip.fwdRead, h]
    · rw [Chip.fwdWrite, h]
    · rw [Chip.fwdInsert, h]
    · rw [Chip.fwdDelete, h]
    · rw [Chip.fwdSearch, h]
    · rw [Chip.rehashStart, h]
    · rw [Chip.rehashMove, h]
    · rw [Chip.rehashFinish, h]
    · rw [Chip.rehashRevert, h]
    · rw [Chip.refilter, h]
  · have stays : s.b.learnApply = s.b := by rw [Chip.learnApply, idle]
    exact congrArg (fun b => Host.Outcome.next { s with b := b }) stays
  · have hx' : x = s.b.learnTaken r l := hx
    have only := s.b.learnTaken_only r l
    obtain ⟨ents, rest⟩ := s.b.learnTaken_kept r l
    rw [← hx'] at only ents rest
    have reg (f : Fld) (h : ¬ (maskKey f.key ∨ f.key = Reg.FWD_LEARN_DEPTH.key)) : x.r f = s.b.r f := only.2 f h
    have counts (f : Fld) (w : f.w = 32) (h : ¬ (maskKey f.key ∨ f.key = Reg.FWD_LEARN_DEPTH.key)) {c : Chip} (hc : c.r f = x.r f) :
        (c.inc f).r f = satAdd 32 (s.b.r f) 1 := by rw [Chip.r_inc_same, hc, reg f h, w]
    have runs {b : Chip} {P : State → Prop} (hb : s.b.learnApply = b) (hP : P { s with b := b }) : Runs .learnApply s P := by
      subst hb
      exact ⟨_, rfl, hP⟩
    have stitch : x.stitch32 = s.b.stitch32 := congrArg (·.stitch % 2 ^ 32) (only.tim (by decide))
    have hold : x.r Reg.FWD_MOVE_HOLD = s.b.r Reg.FWD_MOVE_HOLD := reg _ (by decide)
    have queue : x.learnQueue r.port = s.b.learnQueue r.port := reg _ (by split <;> decide)
    have put (i e j : Nat) : kget ((x.putEnt 0 i (some e)).tab 0).ents j = if j = i then some e else kget (s.b.tab 0).ents j := by
      rw [Chip.putEnt_ents, ents]
    have put_r (i e : Nat) (f : Fld) : (x.putEnt 0 i (some e)).r f = x.r f := (x.putEnt_only 0 i _).2 f fun h => h
    refine ⟨fun i e age found hage => ?_, fun i e found dynamic learned same => ?_, fun new => ?_⟩
    · have known := Chip.learnApply_known learn hx' found
      rw [stitch, hold, queue, ← hage] at known
      refine ⟨fun fixed => ?_, fun dynamic learned moved soon => ?_, fun dynamic learned moved late => ?_⟩
      · rw [if_pos (by rcases fixed with h | h <;> simp [h])] at known
        exact runs known ⟨rfl, rfl, counts _ rfl (by decide) rfl⟩
      · rw [dynamic, learned, if_neg (by decide), if_neg moved, if_pos soon] at known
        have noted := (x.inc Reg.FWD_FLAP).noteFirst_only N.FLAP_HELD (i + ePort 0 e * 2 ^ 32 + r.port * 2 ^ 33) 1
        exact runs known ⟨rfl, noted.fwd (by decide), (noted.2 _ fun h => h).trans (counts _ rfl (by decide) rfl)⟩
      · rw [dynamic, learned, if_neg (by decide), if_neg moved, if_neg (Nat.not_lt.mpr late)] at known
        have noted := ((x.putEnt 0 i (some (putBits (putBits (learnPut e r) 32 13 (s.b.learnQueue r.port)) 96 32 s.b.stitch32))).inc
          Reg.FWD_MOVED).noteFirst_only N.MOVED (i + r.port * 2 ^ 32) 1
        refine runs known ⟨rfl, ?_, (noted.2 _ fun h => h).trans (counts _ rfl (by decide) (put_r _ _ _)), fun j => ?_⟩
        · exact (congrArg Fwd.learn (noted.fwd (by decide))).trans ((x.putEnt_learn 0 i (some _)).trans rest)
        · rw [noted.tab (by decide)]
          exact put i _ j
    · have known := Chip.learnApply_known learn hx' found
      rw [dynamic, learned, if_neg (by decide), if_pos same] at known
      exact runs known ⟨rfl, (x.putEnt_learn 0 i (some (learnPut e r))).trans rest, counts _ rfl (by decide) (put_r _ _ _), fun j => put i _ j⟩
    · obtain ⟨full, room⟩ := Chip.learnApply_unknown learn hx' new
      have limit : x.r Reg.FWD_LEARN_LIMIT = s.b.r Reg.FWD_LEARN_LIMIT := reg _ (by decide)
      have used : x.r Reg.FWD_LEARNED_USED = s.b.r Reg.FWD_LEARNED_USED := reg _ (by decide)
      rw [limit, used] at full room
      refine ⟨fun h => runs (full h) ⟨rfl, rfl, counts _ rfl (by decide) rfl⟩, fun b1 i m h placed => ?_⟩
      obtain ⟨only1, learn1⟩ := x.insert_only 0 (x.learnEnt r) false
      rw [placed] at only1 learn1
      exact runs (room b1 i m h placed) ⟨rfl, learn1.trans rest, rfl, counts _ rfl (by decide) (only1.2 _ (by decide))⟩
end

section
/-!
SUPPORT. The state that refutes the claim about the moves of items (R413, R438, R482).
-/
namespace Sys2Proof.Machine

/-! ### A queue whose mark shows in the place of another count -/

/-- A queue number whose live bit of the high mark has the address of SEA's count STBY_DL_DROP. -/
@[irreducible] def strayQueue : Nat := 3010944

theorem strayQueue_mark : (Reg.QMG_HI_LVL (strayQueue / 32)).key = Reg.SEA_STBY_DL_DROP.key ∧ strayQueue % 32 = 0 := by decide +kernel

/-- The item that it holds. -/
def strayItem : Item := { id := 1, size := 256, data := List.replicate 256 0, closed := true }

/-- A STANDBY with that queue, marked high for the one item it holds, below scheduler node 1, which has a record for port 0, whose gates take 100 ns, and one
for port 2. -/
@[irreducible] def strayStandby : State :=
  { b := { pat := { State.reset.b.pat with queueCount := strayQueue + 1, qParent := List.replicate (strayQueue + 1) 1, sched := [⟨1, 0xFFFF, 0, 0⟩, ⟨1, 0xFFFF, 2, 0⟩] },
           regs := [(Reg.SEA_ROLE.key, 2), ((Reg.TMG_GATE_EN 0).key, 1)],
           tmg := { State.reset.b.tmg with oper := [(0, { entries := [0xFF + 25 * 256, 249975 * 256] })] },
           queues := [(strayQueue, { consumer := CONS_SCHED, high := 1, items := [strayItem] })] } }

/-- The block with a discarded opening counted. -/
def strayCounted : Chip := strayStandby.b.inc Reg.SEA_STBY_DL_DROP

theorem stray_qParent : strayStandby.b.qParent strayQueue = 1 := by
  unfold Chip.qParent strayStandby
  exact List.getD_replicate _ (Nat.lt_succ_self strayQueue)

theorem strayCounted_qParent : strayCounted.qParent strayQueue = 1 := stray_qParent

theorem strayStandby_meshBound : strayStandby.b.meshBound strayQueue = true := by
  rw [Chip.meshBound, stray_qParent]
  decide +kernel

theorem strayStandby_discards : strayStandby.b.evOpen strayQueue 1 0 0 [] = strayCounted.tmgQ strayQueue := by
  have discards : strayStandby.b.openItem strayQueue 1 0 0 false = ⟨strayCounted, 0, OK⟩ := by
    unfold Chip.openItem
    dsimp only
    rw [if_pos ⟨by decide +kernel, strayStandby_meshBound⟩]
    rfl
  unfold Chip.evOpen
  rw [if_neg (by decide +kernel), if_neg (by decide +kernel)]
  dsimp only
  rw [discards, if_pos (.inl rfl), Chip.qChanged, if_neg (by decide +kernel)]

/-- The scheduler drops the item that a queue offers where no window of its port takes it (R438). -/
theorem Chip.tooLong_drops {b : Chip} {q p : Nat} {i : Item} (n : Nat) (offers : b.qOffers q = some i) (port : b.qPort q = p)
    (long : (2 ≤ p || !b.t (Reg.TMG_GATE_EN p) || b.classWindow p (b.child q).cls == 0 ||
      decide (b.txNs p (b.charged p i) ≤ b.classWindow p (b.child q).cls)) = false) :
    ∃ x : Tmg, b.tooLong q (n + 1) = Chip.tooLong { (((b.dropRest q i.id).inc (Reg.TMG_GATE_TOO_LONG p)).note (kTooLong p) 1) with tmg := x } q n := by
  rw [Chip.tooLong, offers, port]
  dsimp only
  rw [long, if_neg (by decide)]
  exact ⟨_, rfl⟩

/-- Where a queue's one item is dropped so, the registers are those that the drop leaves. -/
theorem Chip.tmgQ_drops {b : Chip} {q p : Nat} {i : Item} (parent : b.qParent q ≠ 0xFFFF) (one : (b.q q).items.length + 1 = 1 + 1)
    (offers : b.qOffers q = some i) (port : b.qPort q = p)
    (long : (2 ≤ p || !b.t (Reg.TMG_GATE_EN p) || b.classWindow p (b.child q).cls == 0 ||
      decide (b.txNs p (b.charged p i) ≤ b.classWindow p (b.child q).cls)) = false)
    (empty : (((b.dropRest q i.id).inc (Reg.TMG_GATE_TOO_LONG p)).note (kTooLong p) 1).presents q noNode = none) (f : Fld) :
    (b.tmgQ q).r f = ((b.dropRest q i.id).inc (Reg.TMG_GATE_TOO_LONG p)).r f := by
  obtain ⟨x, drops⟩ := Chip.tooLong_drops 1 offers port long
  have none : Chip.qOffers { (((b.dropRest q i.id).inc (Reg.TMG_GATE_TOO_LONG p)).note (kTooLong p) 1) with tmg := x } q = none :=
    ite_eq_right_iff.mpr fun _ => empty
  have idle : Chip.tooLong { (((b.dropRest q i.id).inc (Reg.TMG_GATE_TOO_LONG p)).note (kTooLong p) 1) with tmg := x } q 1 =
      { (((b.dropRest q i.id).inc (Reg.TMG_GATE_TOO_LONG p)).note (kTooLong p) 1) with tmg := x } := by rw [Chip.tooLong, none]
  rw [Chip.tmgQ, if_neg parent, one, drops, idle, (Chip.up_only _ _ _).2 _ (fun h => h), Chip.gateHold, none]
  rfl

theorem strayCounted_offers : strayCounted.qOffers strayQueue = some strayItem := by
  decide +kernel

theorem strayCounted_qPort : strayCounted.qPort strayQueue = 0 := by
  rw [Chip.qPort, strayCounted_qParent]
  decide +kernel

/-- With the item its mark goes down, and the count with it. -/
theorem strayStandby_count : (strayStandby.b.evOpen strayQueue 1 0 0 []).r Reg.SEA_STBY_DL_DROP = 0 := by
  rw [strayStandby_discards, Chip.tmgQ_drops (by rw [strayCounted_qParent]; decide) (by decide +kernel) strayCounted_offers strayCounted_qPort
    (by decide +kernel) (by decide +kernel)]
  decide +kernel

end Sys2Proof.Machine

open Sys2Proof Sys2Proof.Machine

/-- Refutes O51: nothing bounds the number of queues, so the mark of a queue can have the address of another count. On a STANDBY, the opening of an item for
such a queue is discarded and counted; the scheduler then drops the queue's too long item, its mark goes down, and the count with it. -/
theorem not_itemsMoveThroughQueues : ¬ Obligations.ItemsMoveThroughQueues := by
  intro h
  obtain ⟨-, inside⟩ := h strayStandby strayQueue
  obtain ⟨opens, -⟩ := inside (by decide +kernel)
  obtain ⟨-, standby, -⟩ := opens 1 0 0 false [] _ rfl (by decide +kernel)
  obtain ⟨t, run, -, -, -, count⟩ := standby rfl (by decide +kernel) strayStandby_meshBound
  rw [exec_itemOpen, execItemOpen, State.on_eq] at run
  cases run
  exact absurd (strayStandby_count.symm.trans count) (by decide +kernel)
end

section
/-!
SUPPORT. The state that refutes the claim about the commands of QMG (R425, R431).
-/
namespace Sys2Proof.Machine

/-- A Pattern without queues whose list of parents names one for queue 0, for which a wait at a gate has been counted. -/
def parentBeyond : State :=
  { b := { pat := { State.reset.b.pat with queueCount := 0, qParent := [1] }, regs := [(Reg.GLB_STATE.key, 1)], tmg := { State.reset.b.tmg with held := [0] } } }

/-- FLUSH of it is refused, and the scheduler judges it again all the same. -/
theorem parentBeyond_judged : (parentBeyond.b.cmd cbQMG false fun c => c.flushCmd).tmg.held = [] := by
  decide +kernel

end Sys2Proof.Machine

open Sys2Proof Sys2Proof.Machine

/-- Refutes O52: FLUSH of a queue beyond the Pattern completes BAD_ARG, but has the scheduler judge the queue again, so the waits that it has counted
change where the Pattern's list of parents names one for the queue. -/
theorem not_queuesAreConfigured : ¬ Obligations.QueuesAreConfigured := by
  intro h
  obtain ⟨-, -, beyond⟩ := h parentBeyond false 0 (by decide +kernel) (by decide +kernel)
  obtain ⟨t, run, -, -, same, -⟩ := beyond (.qFlush false) (.inl ⟨by decide, .inr (.inr (.inr rfl))⟩)
  rw [exec_qFlush, execQFlush, State.on_eq] at run
  cases run
  have held := congrArg (fun c : Chip => c.tmg.held) same
  exact absurd (parentBeyond_judged.symm.trans held) (by decide)
end

section
/-!
SUPPORT. The state that refutes the claim about the scheduler and the gates (R438, R439).
-/
namespace Sys2Proof.Machine

/-! ### A group whose count of items shows in the place of another count -/

/-- A group number whose count of items has the address of port 0's count GATE_SWITCHES. -/
@[irreducible] def strayGroup : Nat := 3985

theorem strayGroup_items : (Reg.QMG_G_ITEMS strayGroup).key = (Reg.TMG_GATE_SWITCHES 0).key := by decide +kernel

/-- A gate list that lets frames pass for 100 ns. -/
def shortGates : GateList := { entries := [0xFF + 25 * 256, 249975 * 256] }

/-- Gates run on port 0, whose next list is due and loaded. The one queue of the group holds an item and is below scheduler node 1 of that port; the queues
before it are host software's. -/
@[irreducible] def strayGates : State :=
  { b := { pat := { State.reset.b.pat with queueCount := strayGroup + 1, queueGroups := strayGroup + 1,
                                           qParent := List.replicate strayGroup 0xFFFF ++ [1], sched := [⟨1, 0xFFFF, 0, 0⟩] },
           regs := [((Reg.TMG_GATE_EN 0).key, 1)],
           tmg := { State.reset.b.tmg with swap := [(0, { list := shortGates, takeover := 0, loaded := true })] },
           queues := [(strayGroup, { consumer := CONS_SCHED, items := [strayItem] })] } }

theorem strayGates_qParent : strayGates.b.qParent strayGroup = 1 := by decide +kernel

theorem strayGates_host {q : Nat} (h : q < strayGroup) : strayGates.b.qParent q = 0xFFFF := by
  unfold Chip.qParent strayGates
  rw [List.getD_append _ _ _ _ (by rw [List.length_replicate]; exact h)]
  exact List.getD_replicate _ h

/-- Of the queues the last alone is the scheduler's. -/
theorem Chip.tmgPort_last {b : Chip} {n : Nat} (count : b.pat.queueCount = n + 1) (host : ∀ q < n, b.qParent q = 0xFFFF) (sched : b.qParent n ≠ 0xFFFF) :
    b.tmgPort (b.qPort n) = b.tmgQ n := by
  have skip : (List.range n).foldl (fun c q => if c.qParent q ≠ 0xFFFF ∧ c.qPort q = b.qPort n then c.tmgQ q else c) b = b := by
    have all : ∀ l : List Nat, (∀ q ∈ l, q < n) → l.foldl (fun c q => if c.qParent q ≠ 0xFFFF ∧ c.qPort q = b.qPort n then c.tmgQ q else c) b = b := by
      intro l
      induction l with
      | nil => exact fun _ => rfl
      | cons q l ih =>
        intro h
        rw [List.foldl_cons, if_neg fun e => e.1 (host q (h q List.mem_cons_self))]
        exact ih fun q hq => h q (List.mem_cons_of_mem _ hq)
    exact all _ fun q hq => List.mem_range.mp hq
  rw [Chip.tmgPort, count, List.range_succ, List.foldl_append, skip]
  exact if_pos ⟨sched, rfl⟩

/-- The block with a list in force, before the port's queues are judged again. -/
def Chip.gateIn (b : Chip) (p : Nat) (x : GateSwap) : Chip :=
  Chip.gateShow (((((Chip.wb { b with tmg := { b.tmg with oper := kput b.tmg.oper p x.list, swap := kdel b.tmg.swap p } } (Reg.TMG_SWITCH_PEND p) false).w
    (Reg.TMG_OPER_LEN p) x.list.entries.length).w (Reg.TMG_OPER_CYCLE_NS p) x.list.cycle).inc (Reg.TMG_GATE_SWITCHES p)).raise Src.TMG N.GATE_SWITCH
    (argB p x.list.entries.length 0 0 (x.takeover % 1000000000))) p

theorem Chip.gatePut_eq (b : Chip) (p : Nat) (x : GateSwap) : b.gatePut p x = (b.gateIn p x).tmgPort p := rfl

theorem Chip.gateIn_pat (b : Chip) (p : Nat) (x : GateSwap) : (b.gateIn p x).pat = b.pat :=
  (Chip.raise_only _ _ _ _).pat (by decide)

/-- The block with the new list in force. -/
def strayTaken : Chip := strayGates.b.gateIn 0 { list := shortGates, takeover := 0, loaded := true }

theorem strayTaken_qParent (q : Nat) : strayTaken.qParent q = strayGates.b.qParent q := by
  rw [Chip.qParent, Chip.qParent, strayTaken, Chip.gateIn_pat]

theorem strayGates_takes : (strayGates.b.lateWake 1).gateTake 0 = strayTaken.tmgPort 0 := by
  have due : kget (strayGates.b.lateWake 1).tmg.swap 0 = some { list := shortGates, takeover := 0, loaded := true } := by decide +kernel
  have punctual : strayGates.b.lateWake 1 = strayGates.b := if_neg (by decide +kernel)
  unfold Chip.gateTake
  rw [due]
  dsimp only
  rw [if_neg (Nat.not_lt_zero _), if_neg (Nat.not_lt_zero _), if_pos rfl, punctual, Chip.gatePut_eq]
  rfl

theorem strayTaken_judged : strayTaken.tmgPort 0 = strayTaken.tmgQ strayGroup := by
  have port : strayTaken.qPort strayGroup = 0 := by decide +kernel
  rw [← port]
  refine Chip.tmgPort_last (by decide +kernel) (fun q h => (strayTaken_qParent q).trans (strayGates_host h)) ?_
  rw [strayTaken_qParent, strayGates_qParent]
  decide

/-- The item is too long for the new list; with it the count goes down. -/
theorem strayGates_count : ((strayGates.b.lateWake 1).gateTake 0).r (Reg.TMG_GATE_SWITCHES 0) = 0 := by
  rw [strayGates_takes, strayTaken_judged, Chip.tmgQ_drops (p := 0) (i := strayItem) (by rw [strayTaken_qParent, strayGates_qParent]; decide)
    (by decide +kernel) (by decide +kernel) (by decide +kernel) (by decide +kernel) (by decide +kernel)]
  decide +kernel

end Sys2Proof.Machine

open Sys2Proof Sys2Proof.Machine

/-- Refutes O53: nothing bounds the number of groups, so the items of a group can be counted at the address of a port's GATE_SWITCHES. The list that takes over
lets no window take the group's item, which is dropped, and the count goes down with it. -/
theorem not_schedulerAndGates : ¬ Obligations.SchedulerAndGates := by
  intro h
  obtain ⟨-, -, -, -, gates, -⟩ := h strayGates
  obtain ⟨-, -, takes⟩ := gates 0 (by decide)
  obtain ⟨-, loaded, -⟩ := takes { list := shortGates, takeover := 0, loaded := true } _ _ (by decide +kernel) rfl rfl
  obtain ⟨t, run, -, -, -, -, count⟩ := loaded (Nat.zero_le _) rfl
  rw [exec_gateTakeover, execGateTakeover, State.on_eq] at run
  cases run
  have due : b2n (kget strayGates.b.tmg.swap 0).isSome = 1 := by decide +kernel
  dsimp only at count
  rw [due, strayGates_count] at count
  exact absurd count (by decide +kernel)
end

section
/-!
SUPPORT. The Weave: its cells after a write, a series placed and a set freed, and the placement conditions, which a fetched context leaves (R266 to R273).
-/
namespace Sys2Proof.Machine

/-! ### Cells (R266) -/

theorem Chip.cell_setCell (b : Chip) (i w j : Nat) : (b.setCell i w).cell j = if i = j then w else b.cell j := kgetD_kset _ _ _ _ _

theorem Chip.placeAll_cell (b : Chip) (rows : List Nat) (c w i : Nat) :
    (b.placeAll rows c w).cell i = if rows.any (fun x => x * b.cols + c == i) then w else b.cell i := by
  induction rows generalizing b with
  | nil => rfl
  | cons r rows ih =>
    have rest : ((b.setCell (r * b.cols + c) w).placeAll rows c w).cell i =
        if rows.any (fun x => x * b.cols + c == i) then w else (b.setCell (r * b.cols + c) w).cell i := ih _
    refine rest.trans ?_
    rw [List.any_cons, Chip.cell_setCell]
    by_cases hit : r * b.cols + c = i
    · simp [hit]
    · simp [hit]

theorem Chip.placeAll_cols (b : Chip) (rows : List Nat) (c w : Nat) : (b.placeAll rows c w).cols = b.cols := by
  rw [Chip.cols, Chip.cols, Chip.sfSlots, Chip.sfSlots, (b.placeAll_only rows c w).pat (by decide)]

theorem Chip.placeAll_allocStart (b : Chip) (rows : List Nat) (c w : Nat) : (b.placeAll rows c w).sch.allocStart = b.sch.allocStart := by
  induction rows generalizing b with
  | nil => rfl
  | cons r rows ih => exact ih (b.setCell (r * b.cols + c) w)

/-- Cells set to FREE one after the other. -/
theorem Chip.foldl_setCell_cell (b : Chip) (l : List Nat) (i : Nat) :
    (l.foldl (fun (b : Chip) j => b.setCell j freeCell) b).cell i = if l.contains i then freeCell else b.cell i := by
  induction l generalizing b with
  | nil => rfl
  | cons j l ih =>
    rw [List.foldl_cons, ih, Chip.cell_setCell, List.contains_cons]
    by_cases hit : j = i
    · simp [hit]
    · simp [hit, Ne.symm hit]

theorem Chip.freeCells_cell (b : Chip) (p : Nat → Bool) (i : Nat) :
    (b.freeCells p).1.cell i = if b.sch.cells.any (fun e => e.1 == i && p e.2) then freeCell else b.cell i := by
  have gone : ((b.sch.cells.filter (fun e => p e.2)).map (·.1)).contains i = b.sch.cells.any (fun e => e.1 == i && p e.2) := by
    rw [Bool.eq_iff_iff, List.contains_iff_mem, List.mem_map, List.any_eq_true]
    constructor
    · rintro ⟨e, he, rfl⟩
      obtain ⟨mem, hp⟩ := List.mem_filter.mp he
      exact ⟨e, mem, by simp [hp]⟩
    · rintro ⟨e, mem, he⟩
      obtain ⟨rfl, hp⟩ : e.1 = i ∧ p e.2 = true := by simpa using he
      exact ⟨e, List.mem_filter.mpr ⟨mem, hp⟩, rfl⟩
  rw [Chip.freeCells, Chip.foldl_setCell_cell, gone]

/-! ### What a fetched context leaves (R295) -/

section
variable {b c : Chip} {base : Nat}

theorem Chip.OnlyNamed.parts (h : Chip.OnlyNamed b c base) : ∃ regs cmdIrq ntc out cache,
    c = { b with regs := regs, cmdIrq := cmdIrq, ntc := ntc, out := out, mac := { b.mac with cache := cache } } := ⟨_, _, _, _, _, h.1⟩

/-- Accepting a command and fetching the context of the node that it names. -/
theorem Chip.named_onlyNamed (b : Chip) (base n : Nat) (irq : Bool) : Chip.OnlyNamed b ((b.cmdAccept base irq).named n) base :=
  Chip.Only.onlyNamed ((((b.cmdAccept_only base irq).mono (by decide) fun _ => .inl).trans
    (((b.cmdAccept base irq).named_only n).mono (by decide) fun _ => .inr))) (Chip.named_mac _ _)

theorem Chip.OnlyNamed.setCell (h : Chip.OnlyNamed b c base) (i w : Nat) : Chip.OnlyNamed (b.setCell i w) (c.setCell i w) base := by
  have sch : c.sch = b.sch := by rw [h.1]
  have put : Chip.OnlyNamed { b with sch := { b.sch with cells := kset freeCell b.sch.cells i w } }
      { c with sch := { b.sch with cells := kset freeCell b.sch.cells i w } } base := by
    refine ⟨?_, h.2⟩
    obtain ⟨regs, cmdIrq, ntc, out, cache, rfl⟩ := h.parts
    rfl
  have all := put.w Reg.SCH_CELLS_USED (kset freeCell b.sch.cells i w).length
  rw [Chip.setCell, Chip.setCell, sch]
  exact all

theorem Chip.OnlyNamed.freeCells (h : Chip.OnlyNamed b c base) (p : Nat → Bool) :
    Chip.OnlyNamed (b.freeCells p).1 (c.freeCells p).1 base ∧ (c.freeCells p).2 = (b.freeCells p).2 := by
  have sch : c.sch = b.sch := by rw [h.1]
  have all : ∀ (l : List Nat) (b c : Chip), Chip.OnlyNamed b c base →
      Chip.OnlyNamed (l.foldl (fun (b : Chip) j => b.setCell j freeCell) b) (l.foldl (fun (b : Chip) j => b.setCell j freeCell) c) base := by
    intro l
    induction l with
    | nil => exact fun _ _ h => h
    | cons j l ih => exact fun b c h => ih _ _ (h.setCell j freeCell)
  unfold Chip.freeCells
  rw [sch]
  exact ⟨all _ _ _ h, rfl⟩

theorem Chip.OnlyNamed.ownerCheck (h : Chip.OnlyNamed b c base) : c.ownerCheck = b.ownerCheck := by
  obtain ⟨regs, cmdIrq, ntc, out, cache, rfl⟩ := h.parts
  rfl

theorem Chip.OnlyNamed.cellValid (h : Chip.OnlyNamed b c base) : c.cellValid = b.cellValid := by
  obtain ⟨regs, cmdIrq, ntc, out, cache, rfl⟩ := h.parts
  rfl

theorem Chip.OnlyNamed.devEnd (h : Chip.OnlyNamed b c base) : c.devEnd = b.devEnd := by
  obtain ⟨regs, cmdIrq, ntc, out, cache, rfl⟩ := h.parts
  rfl

theorem Chip.OnlyNamed.colOk (h : Chip.OnlyNamed b c base) : c.colOk = b.colOk ∧ c.cols = b.cols ∧ c.sfSlots = b.sfSlots ∧ c.pat = b.pat := by
  obtain ⟨regs, cmdIrq, ntc, out, cache, rfl⟩ := h.parts
  exact ⟨rfl, rfl, rfl, rfl⟩

/-- Placement depends on the cells, the contexts, the Pattern, the carriers in force and the pair beacon. -/
theorem Chip.OnlyNamed.mayPlace (h : Chip.OnlyNamed b c base) (en : c.r Reg.SCH_PAIR_EN = b.r Reg.SCH_PAIR_EN)
    (col : c.r Reg.SCH_PAIR_COL = b.r Reg.SCH_PAIR_COL) : c.mayPlace = b.mayPlace := by
  funext r k w
  unfold Chip.mayPlace
  rw [Chip.t, en, col]
  obtain ⟨regs, cmdIrq, ntc, out, cache, rfl⟩ := h.parts
  rfl

theorem Chip.OnlyNamed.fitAt (h : Chip.OnlyNamed b c base) (place : c.mayPlace = b.mayPlace) (s count spacing : Nat) (f : Nat → Nat) (cols : List Nat)
    (fuel : Nat) : c.fitAt s count spacing f cols fuel = b.fitAt s count spacing f cols fuel := by
  obtain ⟨-, -, slots, -⟩ := h.colOk
  induction fuel generalizing s with
  | zero => rfl
  | succ k ih =>
    rw [Chip.fitAt, Chip.fitAt, Chip.fitCol, Chip.fitCol, place, slots, ih]

theorem Chip.OnlyNamed.permitted (h : Chip.OnlyNamed b c base) : c.permitted = b.permitted := by
  obtain ⟨regs, cmdIrq, ntc, out, cache, rfl⟩ := h.parts
  rfl

end

/-! ### The commands (R272) -/

theorem Chip.named_arg (b : Chip) (n i : Nat) : (b.named n).arg cbSCH i = b.arg cbSCH i :=
  (b.named_only n).2 _ fun h => by
    have := (cacheKey_mac h).2
    simp only [Fld.key, cbARG, cbSCH] at this
    omega

section
variable {b : Chip}

/-- WRITE_CELL of FREE, or of a valid word at a free place. -/
theorem Chip.writeCell_writes {i w : Nat} (at' : b.arg cbSCH 0 = i) (word : b.arg cbSCH 1 = w) (hi : i < b.pat.weaveCells) (role : b.isStandby = false)
    (gap : b.gap = false) (ok : w = freeCell ∨ (b.colOf i < 640 ∧ b.colOk (b.colOf i) = true ∧ b.cellValid (b.colOf i) w = true ∧ b.cell i = freeCell ∧
      b.ownerCheck (cOwner w) = none ∧ b.mayPlace (b.rowOf i) (b.colOf i) w = true)) : b.writeCell = (b.setCell i w).done [b.cell i] := by
  unfold Chip.writeCell
  rw [at', word]
  dsimp only
  rw [if_neg (Nat.not_le.mpr hi), role, Chip.inGap, gap, if_neg (by decide)]
  obtain rfl | ⟨low, col, valid, free, owner, place⟩ := ok
  · exact if_pos rfl
  · by_cases free' : w = freeCell
    · subst free'
      exact if_pos rfl
    · rw [if_neg free', if_neg (by rw [col, valid]; simp; omega), if_neg (not_not_intro free), owner]
      exact if_pos place

/-- A cell index beyond the Pattern. -/
theorem Chip.writeCell_over (over_ : b.pat.weaveCells ≤ b.arg cbSCH 0) : b.writeCell = b.structFail cbSCH := if_pos over_

/-- RECLAIM frees the cells that its mask and force name. -/
theorem Chip.reclaimCmd_frees {o : Nat} (owner : b.arg cbSCH 0 = o) (inside : o = nodeNone ∨ o < b.pat.nodeCount) (role : b.isStandby = false)
    (gap : b.gap = false) : b.reclaimCmd = (b.reclaimCells o (bits (b.arg cbSCH 1) 0 6) (bit (b.arg cbSCH 2) 0)).1.done
      [(b.reclaimCells o (bits (b.arg cbSCH 1) 0 6) (bit (b.arg cbSCH 2) 0)).2] := by
  unfold Chip.reclaimCmd
  rw [owner]
  dsimp only
  rw [if_neg (by omega), role, Chip.inGap, gap, if_neg (by decide)]

theorem Chip.nodeCells_counts {o : Nat} (owner : b.arg cbSCH 0 = o) (inside : o = nodeNone ∨ o < b.pat.nodeCount) {l : List Nat}
    (cells : l = (b.sch.cells.filter (fun e => cOwner e.2 == o)).map (·.2)) :
    b.nodeCells = b.done [l.length, (l.filter (fun w => cLane w != 7 && !cDown w)).length, (l.filter (fun w => cLane w != 7 && cDown w)).length,
      (l.filter (fun w => cLane w == 7)).length, (l.filter cHeld).length] := by
  subst cells
  unfold Chip.nodeCells
  rw [owner]
  dsimp only
  rw [if_neg (by omega)]

/-- PAIR_SET that turns the pair beacon off. -/
theorem Chip.pairSet_off (off : bit (b.arg cbSCH 0) 0 = false) (role : b.isStandby = false) (gap : b.gap = false) (twin : b.pat.roleCfg ≠ 0) :
    b.pairSet = (b.wb Reg.SCH_PAIR_EN false).done [0] := by
  unfold Chip.pairSet
  rw [off, role, Chip.inGap, gap]
  dsimp only
  rw [if_neg (by simp), if_neg (by simpa using twin), if_neg (by simp)]
  rfl

/-- PAIR_SET that turns it on. -/
theorem Chip.pairSet_on {c : Nat} (col : b.arg cbSCH 1 = c) (on : bit (b.arg cbSCH 0) 0 = true) (ok : b.colOk c = true)
    (sends : b.rxOnly (colLane c) (colChan c) = false) (role : b.isStandby = false) (gap : b.gap = false) (twin : b.pat.roleCfg ≠ 0)
    (alone : b.sch.cells.any (fun e => cLane e.2 != 7 && laneGroup (cLane e.2) == laneGroup (colLane c)) = false) :
    b.pairSet = ((b.wb Reg.SCH_PAIR_EN true).w Reg.SCH_PAIR_COL c).done [1] := by
  unfold Chip.pairSet
  rw [on, col, role, Chip.inGap, gap]
  dsimp only
  rw [ok, sends, alone, if_neg (by decide), if_neg (by simpa using twin), if_neg (by decide)]
  rfl

/-- ALLOC whose arguments pass is the search and what follows it. -/
theorem Chip.allocCmd_searches {o ty n sp st col : Nat} {down : Bool} {f : Nat → Nat} {fit : Option (Nat × Nat)} (owner : b.arg cbSCH 0 = o) (type : bits (b.arg cbSCH 1) 0 3 = ty)
    (dir : bit (b.arg cbSCH 1) 4 = down) (count : b.arg cbSCH 2 = n) (spacing : b.arg cbSCH 3 = sp) (start : b.arg cbSCH 5 = st) (column : b.arg cbSCH 6 = col)
    (role : b.isStandby = false) (gap : b.gap = false) (check : b.ownerCheck o = none) (least : 1 ≤ n) (many : n ≤ 4096) (apart : 1 ≤ sp)
    (fits : n * sp ≤ b.sfSlots) (typed : ty ≠ 0) (hf : f = fun c => mkCell o ty down (if b.devEnd o ty then colLane c else 7) (bits (b.arg cbSCH 1) 8 3))
    (valid : b.cellValid 0 (f 0) = true) (from' : st = 0xFFFFFFFF ∨ st < b.sfSlots) (at' : col = 0xFFFFFFFF ∨ b.colOk col = true)
    (hfit : b.fitAt (if st = 0xFFFFFFFF then b.sch.allocStart else st) n sp f (b.permitted (bits (b.arg cbSCH 4) 0 3) (bits (b.arg cbSCH 4) 8 7) col) sp =
      fit) :
    (fit = none → b.allocCmd = (Chip.inc { b with sch := { b.sch with allocStart := (b.sch.allocStart + 1) % max 1 b.sfSlots } }
      Reg.SCH_ALLOC_FAIL).fail NO_RESOURCE) ∧
    ∀ r c, fit = some (r, c) → b.allocCmd = ((Chip.placeAll { b with sch := { b.sch with allocStart := (b.sch.allocStart + 1) % max 1 b.sfSlots } }
      (seriesRows r n sp b.sfSlots) c (f c)).inc Reg.SCH_ALLOC_OK).done [n, r * b.cols + c, c, r] := by
  have inside : ¬ (o ≠ nodeNone ∧ b.pat.nodeCount ≤ o) := by
    rintro ⟨one, over_⟩
    rw [Chip.ownerCheck, if_neg one, if_pos over_] at check
    cases check
  have slots : sp ≤ b.sfSlots := le_trans (Nat.le_mul_of_pos_left sp least) fits
  have word : mkCell o ty down (if b.devEnd o ty then 0 else 7) (bits (b.arg cbSCH 1) 8 3) = f 0 := by rw [hf]; rfl
  have searches : b.allocCmd = match b.allocSeries o ty down (bits (b.arg cbSCH 1) 8 3) n sp st
      (b.permitted (bits (b.arg cbSCH 4) 0 3) (bits (b.arg cbSCH 4) 8 7) col) with
      | (b1, none) => b1.fail NO_RESOURCE
      | (b1, some (s, c)) => b1.done [n, s * b1.cols + c, c, s] := by
    unfold Chip.allocCmd
    dsimp only
    rw [owner, type, dir, count, spacing, start, column, if_neg inside, if_neg (by omega), if_neg (by omega), word, valid, if_neg (by simpa using typed),
      if_neg (by omega), if_neg (by rcases at' with h | h <;> simp [h]), role, Chip.inGap, gap, if_neg (by decide), check] <;> rfl
  rw [searches, Chip.allocSeries]
  simp only [beq_iff_eq]
  rw [← hf, hfit]
  refine ⟨?_, ?_⟩
  · rintro rfl
    rfl
  · rintro r c rfl
    have placed : mkCell o ty down (if b.devEnd o ty then colLane c else 7) (bits (b.arg cbSCH 1) 8 3) = f c := by rw [hf]
    have cols : ((Chip.placeAll { b with sch := { b.sch with allocStart := (b.sch.allocStart + 1) % max 1 b.sfSlots } } (seriesRows r n sp b.sfSlots) c
        (f c)).inc Reg.SCH_ALLOC_OK).cols = b.cols := Chip.placeAll_cols _ _ _ _
    dsimp only
    rw [placed, cols]

end

/-! ### The pair beacon's next frame (R277) -/

theorem mem_kdel {α : Type} {m : KV α} {k : Nat} {e : Nat × α} (h : e ∈ kdel m k) : e ∈ m ∧ e.1 ≠ k := by
  induction m with
  | nil => cases h
  | cons x m ih =>
    rw [kdel] at h
    split at h
    · exact ⟨List.mem_cons_of_mem _ (ih h).1, (ih h).2⟩
    · next ne =>
      obtain rfl | h := List.mem_cons.mp h
      · exact ⟨List.mem_cons_self, ne⟩
      · exact ⟨List.mem_cons_of_mem _ (ih h).1, (ih h).2⟩

theorem Chip.mem_foldl_txDel {α : Type} {b : Chip} {l : List (Nat × α)} {e : Nat × TxF} (h : e ∈ (l.foldl (fun (c : Chip) x => c.txDel x.1) b).tx.frames) :
    e ∈ b.tx.frames ∧ ∀ x ∈ l, e.1 ≠ x.1 := by
  induction l generalizing b with
  | nil => exact ⟨h, fun _ hx => absurd hx List.not_mem_nil⟩
  | cons x l ih =>
    obtain ⟨there, others⟩ := ih h
    obtain ⟨mem, ne⟩ := mem_kdel there
    exact ⟨mem, List.forall_mem_cons.mpr ⟨ne, others⟩⟩

theorem Chip.planPair_only (b : Chip) (slot : Nat) : Chip.Only [.tx] noReg b (b.planPair slot) := by
  unfold Chip.planPair
  split
  · exact .rfl' b _ _
  · dsimp only
    exact .ite (.rfl' b _ _) (((Chip.Only.rfl' b _ _).putTx (by decide) _).trans (Chip.txPut_only _ _ _))

theorem Chip.pairRenew_only (b old : Chip) : Chip.Only [.tx] noReg b (b.pairRenew old) := by
  have dropped : Chip.Only [.tx] noReg b ((b.tx.frames.filter (fun e => e.2.src == TxSrc.pairBeacon &&
      (e.2.phase == TxPhase.planned || e.2.phase == TxPhase.keyed))).foldl (fun c e => c.txDel e.1) b) :=
    (Chip.Only.rfl' b _ _).foldl _ fun c e _ => c.txDel_only e.1
  refine .ite (.rfl' b _ _) (dropped.trans ?_)
  unfold Chip.planPairs
  exact .ite ((Chip.planPair_only _ _).trans (Chip.planPair_only _ _)) (Chip.planPair_only _ _)

/-- With the pair beacon turned off, none of its frames is left to be taken. -/
theorem Chip.pairRenew_off {b old : Chip} (off : b.r Reg.SCH_PAIR_EN = 0) (on : old.t Reg.SCH_PAIR_EN = true) :
    (b.pairRenew old).tx.frames.all (fun e => e.2.src != .pairBeacon || (e.2.phase != .planned && e.2.phase != .keyed)) = true := by
  have changed : ¬ (b.r Reg.SCH_PAIR_EN = old.r Reg.SCH_PAIR_EN ∧ b.r Reg.SCH_PAIR_COL = old.r Reg.SCH_PAIR_COL) := by
    rw [Chip.t, beq_iff_eq] at on
    rw [off, on]
    exact fun h => absurd h.1 (by decide)
  have idle (c : Chip) (h : c.r Reg.SCH_PAIR_EN = 0) (slot : Nat) : c.planPair slot = c := if_pos (by rw [Chip.t, h]; rfl)
  unfold Chip.pairRenew Chip.planPairs
  rw [if_neg changed]
  dsimp only
  have dropped : Chip.Only [.tx] noReg b ((b.tx.frames.filter (fun e => e.2.src == TxSrc.pairBeacon &&
      (e.2.phase == TxPhase.planned || e.2.phase == TxPhase.keyed))).foldl (fun c e => c.txDel e.1) b) :=
    (Chip.Only.rfl' b _ _).foldl _ fun c e _ => c.txDel_only e.1
  have stays := (dropped.2 Reg.SCH_PAIR_EN fun h => h).trans off
  rw [idle _ stays, idle _ stays, ite_self, List.all_eq_true]
  intro e he
  obtain ⟨mem, others⟩ := Chip.mem_foldl_txDel he
  by_contra bad
  have pending : ∀ x y z : Bool, ¬ (!x || (!y && !z)) = true → (x && (y || z)) = true := by decide
  exact others e (List.mem_filter.mpr ⟨mem, pending _ _ _ bad⟩) rfl

/-- PAIR_SET, after which the frames of the pair beacon follow it. -/
theorem Runs.pairSet {s : State} {irq : Bool} {c : Chip} {l : List Nat} (awake : s.b.Awake) (takes : s.b.takes cbSCH = true)
    (hf : (s.b.cmdAccept cbSCH irq).pairSet = c.done l) (sch : c.sch = s.b.sch) :
    Runs (.pairSet irq) s (fun t => t.mem = s.mem ∧ t.b.sch = s.b.sch ∧ t.b.Completed cbSCH OK l ∧ (∀ f, ¬ blockKey cbSCH f.key → t.b.r f = c.r f) ∧
      (c.r Reg.SCH_PAIR_EN = 0 → s.b.t Reg.SCH_PAIR_EN = true →
        t.b.tx.frames.all (fun e => e.2.src != .pairBeacon || (e.2.phase != .planned && e.2.phase != .keyed)) = true)) := by
  have run : exec (.pairSet irq) s = .next { s with b := (c.cmdFinish cbSCH OK l).pairRenew s.b } := by
    rw [exec_pairSet, execPairSet, State.on_eq, Chip.wakeFor_of_awake awake, Chip.cmd_takes _ _ takes, hf]
    rfl
  have renewed := (c.cmdFinish cbSCH OK l).pairRenew_only s.b
  have finished := c.cmdFinish_only cbSCH OK l
  have same (f : Fld) : ((c.cmdFinish cbSCH OK l).pairRenew s.b).r f = (c.cmdFinish cbSCH OK l).r f := renewed.2 f fun h => h
  obtain ⟨code, done, busy, results⟩ := Chip.cmdFinish_completed c cbSCH OK l (.inr (by decide)) (by decide)
  refine ⟨_, run, rfl, ?_, ⟨(same _).trans code, (same _).trans done, (same _).trans busy, fun j hj => (same _).trans (results j hj)⟩, fun f hf => ?_,
    fun off on => Chip.pairRenew_off ?_ on⟩
  · exact (renewed.sch (by decide)).trans ((finished.sch (by decide)).trans sch)
  · exact (same f).trans (finished.2 f hf)
  · exact (finished.2 _ (by unfold blockKey; decide)).trans off

/-- A command that names a node, refused for an index beyond the structure (R71). -/
theorem Runs.namedFails {i : Instr} {s : State} {base n : Nat} {irq : Bool} {f : Chip → CmdOut}
    (run : exec i s = .next { s with b := s.b.cmd base irq f }) (takes : s.b.takes base = true) (hb : base ∈ cbBases)
    (hf : f (s.b.cmdAccept base irq) = ((s.b.cmdAccept base irq).named n).structFail base) :
    Runs i s (fun t => t.mem = s.mem ∧ t.b.Completed base BAD_ARG [] ∧
      Chip.Only [.cmdIrq, .ntc, .out, .mac] (fun k => blockKey base k ∨ cacheKey k ∨ rejectKey k) s.b t.b ∧
      t.b.r Reg.GLB_STRUCT_REJECT_CNT = satAdd 32 (s.b.r Reg.GLB_STRUCT_REJECT_CNT) 1) := by
  have apart : ¬ blockKey base Reg.GLB_STRUCT_REJECT_CNT.key := (show ∀ a ∈ cbBases, ¬ (_ ∨ offs (a + 4) (a + 0x94) _) by decide) base hb
  have only : Chip.Only [.mac, .ntc, .out] (fun k => cacheKey k ∨ rejectKey k) (s.b.cmdAccept base irq)
      (((s.b.cmdAccept base irq).named n).structReject base) :=
    ((Chip.named_only _ n).mono (by decide) fun _ => .inl).trans ((Chip.structReject_shows _ base).mono (by decide) fun _ => .inr)
  refine (Runs.ran run takes hb (by decide) hf only).imp fun t ⟨mem, completed, all, kept⟩ =>
    ⟨mem, completed, all.mono (by decide) fun _ => id, ?_⟩
  rw [kept.2 _ apart, Chip.structReject_cnt, (Chip.named_only _ n).2 _ (by unfold cacheKey; decide), (s.b.cmdAccept_only base irq).2 _ apart]

/-- A command that names a node and whose effect is that on the block given. -/
theorem Runs.named {i : Instr} {s : State} {base : Nat} {irq : Bool} {f : Chip → CmdOut} {c x : Chip} {code : Nat} {l : List Nat}
    (run : exec i s = .next { s with b := s.b.cmd base irq f }) (takes : s.b.takes base = true) (hb : base ∈ cbBases) (hc : code < 256)
    (hf : f (s.b.cmdAccept base irq) = ⟨c, code, l⟩) (named : Chip.OnlyNamed x c base) :
    Runs i s (fun t => t.mem = s.mem ∧ t.b.Completed base code l ∧ Chip.OnlyNamed x t.b base ∧ t.b.sch = c.sch) :=
  Runs.cmd run takes (cbBases_apart hb) hc hf fun _ hd completed =>
    ⟨rfl, completed, named.block (hd ▸ (c.cmdFinish_only base code l).onlyBlock), hd ▸ (c.cmdFinish_only base code l).sch (by decide)⟩

end Sys2Proof.Machine

open Sys2Proof Sys2Proof.Machine

/-- Settles O40. -/
theorem weaveCommands : Obligations.WeaveCommands := by
  intro s irq awake takes
  have cb : cbSCH ∈ cbBases := by decide
  have wake := Chip.wakeFor_of_awake awake
  have arg (j : Nat) : (s.b.cmdAccept cbSCH irq).arg cbSCH j = s.b.arg cbSCH j := Chip.cmdAccept_arg _ _ _ _
  have arg' (n j : Nat) : ((s.b.cmdAccept cbSCH irq).named n).arg cbSCH j = s.b.arg cbSCH j := (Chip.named_arg _ n j).trans (arg j)
  have named (n : Nat) := s.b.named_onlyNamed cbSCH n irq
  have pat (n : Nat) : ((s.b.cmdAccept cbSCH irq).named n).pat = s.b.pat := (named n).colOk.2.2.2
  have role (n : Nat) (h : s.b.isStandby = false) : ((s.b.cmdAccept cbSCH irq).named n).isStandby = false := by
    rw [Chip.isStandby, Chip.role, (named n).2 _ (by decide) (by decide) (by decide) (by decide) (by decide) (by decide)]
    exact h
  have role' (h : s.b.isStandby = false) : (s.b.cmdAccept cbSCH irq).isStandby = false := by
    rw [Chip.isStandby, Chip.role, Chip.cmdAccept_r _ _ _ _ (by decide)]
    exact h
  have gap (n : Nat) (h : s.b.gap = false) : ((s.b.cmdAccept cbSCH irq).named n).gap = false := by
    obtain ⟨regs, cmdIrq, ntc, out, cache, e⟩ := (named n).parts
    rw [e]
    exact h
  have sch (n : Nat) : ((s.b.cmdAccept cbSCH irq).named n).sch = s.b.sch := by
    obtain ⟨regs, cmdIrq, ntc, out, cache, e⟩ := (named n).parts
    rw [e]
  have place (n : Nat) : ((s.b.cmdAccept cbSCH irq).named n).mayPlace = s.b.mayPlace :=
    (named n).mayPlace ((named n).2 _ (by decide) (by decide) (by decide) (by decide) (by decide) (by decide))
      ((named n).2 _ (by decide) (by decide) (by decide) (by decide) (by decide) (by decide))
  refine ⟨fun hi => ?_, fun i over_ hi => ?_, fun o l owner inside cells => ?_, fun standby gapless => ⟨fun i w hi hw low ok => ?_, fun o p owner inside hp => ?_,
    fun twin => ⟨fun off => ?_, fun c col on ok sends alone => ?_⟩, fun o ty n sp st col down f fit owner type dir count spacing start column check least many apart
      fits typed hf valid from' at' hfit => ?_⟩⟩
  · have run : exec (.readCell irq) s = .next { s with b := s.b.cmd cbSCH irq fun c => c.readCell } := by rw [exec_readCell, execReadCell, State.on_eq, wake]
    refine Runs.answers run takes cb (by decide) ?_
    rw [Chip.readCell, arg]
    exact if_neg (Nat.not_le.mpr hi)
  · rcases hi with rfl | rfl
    · have run : exec (.readCell irq) s = .next { s with b := s.b.cmd cbSCH irq fun c => c.readCell } := by rw [exec_readCell, execReadCell, State.on_eq, wake]
      refine (Runs.structFails run takes cb (if_pos ?_)).imp fun t ⟨mem, completed, only, count⟩ => ⟨mem, completed, count, only.sch (by decide)⟩
      rw [arg]
      exact over_
    · have run : exec (.writeCell irq) s = .next { s with b := s.b.cmd cbSCH irq fun c => (c.named (cOwner (c.arg cbSCH 1))).writeCell } := by
        rw [exec_writeCell, execWriteCell, State.on_eq, wake]
      refine (Runs.namedFails run takes cb (if_pos ?_)).imp fun t ⟨mem, completed, only, count⟩ => ⟨mem, completed, count, only.sch (by decide)⟩
      rw [arg', pat]
      exact over_
  · have run : exec (.nodeCells irq) s = .next { s with b := s.b.cmd cbSCH irq fun c => (c.named (c.arg cbSCH 0)).nodeCells } := by
      rw [exec_nodeCells, execNodeCells, State.on_eq, wake]
    refine (Runs.named (x := s.b) run takes cb (by decide) (Chip.nodeCells_counts (o := o) ?_ ?_ (l := l) ?_) (named _)).imp
      fun t ⟨mem, completed, only, _⟩ => ⟨mem, only, completed⟩
    · rw [arg', owner]
    · rw [pat]
      exact inside
    · rw [sch]
      exact cells
  · have run : exec (.writeCell irq) s = .next { s with b := s.b.cmd cbSCH irq fun c => (c.named (cOwner (c.arg cbSCH 1))).writeCell } := by
      rw [exec_writeCell, execWriteCell, State.on_eq, wake]
    have writes := Chip.writeCell_writes (b := (s.b.cmdAccept cbSCH irq).named (cOwner ((s.b.cmdAccept cbSCH irq).arg cbSCH 1))) (i := i) (w := w)
      ((arg' _ _).trans hi.symm) ((arg' _ _).trans hw.symm) (by rw [pat]; exact low) (role _ standby) (gap _ gapless) (by
        rw [Chip.colOf, Chip.rowOf, (named _).colOk.1, (named _).colOk.2.1, (named _).cellValid, (named _).ownerCheck, place, Chip.cell, sch]
        exact ok)
    rw [Chip.cell, sch] at writes
    refine (Runs.named run takes cb (by decide) writes ((named _).setCell i w)).imp fun t ⟨mem, completed, only, cells⟩ => ?_
    have cell (j : Nat) : t.b.cell j = if i = j then w else s.b.cell j := by
      rw [Chip.cell, cells]
      refine (Chip.cell_setCell _ _ _ _).trans ?_
      rw [Chip.cell, sch, Chip.cell]
    exact ⟨mem, completed, (cell i).trans (if_pos rfl), fun j ne => (cell j).trans (if_neg ne.symm), only⟩
  · have run : exec (.reclaim irq) s = .next { s with b := s.b.cmd cbSCH irq fun c => (c.named (c.arg cbSCH 0)).reclaimCmd } := by
      rw [exec_reclaim, execReclaim, State.on_eq, wake]
    have frees := Chip.reclaimCmd_frees (b := (s.b.cmdAccept cbSCH irq).named ((s.b.cmdAccept cbSCH irq).arg cbSCH 0)) (o := o)
      ((arg' _ _).trans owner.symm) (by rw [pat]; exact inside) (role _ standby) (gap _ gapless)
    rw [Chip.reclaimCells, arg', arg', ← hp, ((named _).freeCells p).2] at frees
    refine (Runs.named run takes cb (by decide) frees ((named _).freeCells p).1).imp fun t ⟨mem, completed, only, cells⟩ => ⟨mem, ?_, fun i => ?_, only⟩
    · rw [Chip.freeCells, List.length_map] at completed
      exact completed
    · rw [Chip.cell, cells]
      refine (Chip.freeCells_cell _ p i).trans ?_
      rw [Chip.cell, sch, Chip.cell]
  · have off' := Chip.pairSet_off (b := s.b.cmdAccept cbSCH irq) (by rw [arg]; exact off) (role' standby) gapless twin
    refine (Runs.pairSet awake takes off' rfl).imp fun t ⟨mem, cells, completed, regs, frames⟩ => ?_
    have en : ((s.b.cmdAccept cbSCH irq).wb Reg.SCH_PAIR_EN false).r Reg.SCH_PAIR_EN = 0 := Chip.r_w_same _ _ _
    refine ⟨mem, cells, (regs _ (by unfold blockKey; decide)).trans en, frames en, ?_, completed⟩
    rw [regs _ (by unfold blockKey; decide), Chip.wb, Chip.r_w_ne _ _ _ _ (by decide), Chip.cmdAccept_r _ _ _ _ (by decide)]
  · have on' := Chip.pairSet_on (b := s.b.cmdAccept cbSCH irq) (c := c) ((arg 1).trans col.symm) (by rw [arg]; exact on) ok sends (role' standby) gapless twin alone
    refine (Runs.pairSet awake takes on' rfl).imp fun t ⟨mem, cells, completed, regs, _⟩ => ?_
    have low : c < 640 := by
      have inside := ok
      rw [Chip.colOk, Bool.and_eq_true, decide_eq_true_eq] at inside
      exact inside.1.2
    refine ⟨mem, cells, ?_, ?_, completed⟩
    · rw [regs _ (by unfold blockKey; decide), Chip.r_w_ne _ _ _ _ (by decide)]
      exact Chip.r_w_same _ _ _
    · rw [regs _ (by unfold blockKey; decide), Chip.r_w_same]
      exact Nat.mod_eq_of_lt (low.trans (by decide))
  · have run : exec (.alloc irq) s = .next { s with b := s.b.cmd cbSCH irq fun c => (c.named (c.arg cbSCH 0)).allocCmd } := by
      rw [exec_alloc, execAlloc, State.on_eq, wake]
    obtain ⟨-, cols, slots, -⟩ := (named o).colOk
    have searches := Chip.allocCmd_searches (b := (s.b.cmdAccept cbSCH irq).named o) (o := o) (ty := ty) (n := n) (sp := sp) (st := st) (col := col)
      (down := down) (f := f) (fit := fit) ((arg' _ _).trans owner.symm) (by rw [arg', type]) (by rw [arg', dir]) ((arg' _ _).trans count.symm)
      ((arg' _ _).trans spacing.symm) ((arg' _ _).trans start.symm) ((arg' _ _).trans column.symm) (role _ standby) (gap _ gapless)
      (by rw [(named _).ownerCheck]; exact check) least many apart (by rw [slots]; exact fits) typed (by rw [(named _).devEnd, arg']; exact hf)
      (by rw [(named _).cellValid]; exact valid) (by rw [slots]; exact from') (by rw [(named _).colOk.1]; exact at')
      (by rw [(named _).fitAt (place o), (named _).permitted, arg', sch]; exact hfit.symm)
    rw [slots, cols, sch] at searches
    have owned : (s.b.cmdAccept cbSCH irq).arg cbSCH 0 = o := (arg 0).trans owner.symm
    have counted (g : Fld) (h : ¬ (blockKey cbSCH g.key ∨ cacheKey g.key)) : ((s.b.cmdAccept cbSCH irq).named o).r g = s.b.r g :=
      ((Chip.named_only _ o).2 g fun e => h (.inr e)).trans ((s.b.cmdAccept_only cbSCH irq).2 g fun e => h (.inl e))
    have asked := congrArg (fun n => ((s.b.cmdAccept cbSCH irq).named n).allocCmd) owned
    refine ⟨fun none => ?_, fun r c found => ?_⟩
    · refine (Runs.ran (ps := [.mac, .sch]) (rs := anyReg) run takes cb (by decide) (asked.trans (searches.1 none))
        ((((Chip.named_only _ o).any (by decide)).putSch (by decide) _).inc _ trivial)).imp fun t ⟨mem, completed, _, kept⟩ => ?_
      refine ⟨mem, by rw [kept.sch (by decide)]; rfl, completed, by rw [kept.sch (by decide)]; rfl, ?_⟩
      rw [kept.2 _ (by unfold blockKey; decide), Chip.r_inc_same]
      exact congrArg (satAdd 32 · 1) (counted _ (by unfold blockKey cacheKey; decide))
    · have placed := Chip.placeAll_only { (s.b.cmdAccept cbSCH irq).named o with
        sch := { s.b.sch with allocStart := (s.b.sch.allocStart + 1) % max 1 s.b.sfSlots } } (seriesRows r n sp s.b.sfSlots) c (f c)
      refine (Runs.ran (ps := [.mac, .sch]) (rs := anyReg) run takes cb (by decide) (asked.trans (searches.2 r c found))
        (((((Chip.named_only _ o).any (by decide)).putSch (by decide) _).trans (placed.any (by decide))).inc _ trivial)).imp
          fun t ⟨mem, completed, _, kept⟩ => ?_
      refine ⟨mem, ?_, completed, ?_, fun i => ?_⟩
      · rw [kept.2 _ (by unfold blockKey; decide), Chip.r_inc_same, placed.2 _ (by decide)]
        exact congrArg (satAdd 32 · 1) (counted _ (by unfold blockKey cacheKey; decide))
      · exact (congrArg Sch.allocStart (kept.sch (by decide))).trans (Chip.placeAll_allocStart _ _ _ _)
      · rw [Chip.cell, kept.sch (by decide)]
        refine (Chip.placeAll_cell _ _ _ _ i).trans ?_
        rw [show Chip.cols { (s.b.cmdAccept cbSCH irq).named o with
          sch := { s.b.sch with allocStart := (s.b.sch.allocStart + 1) % max 1 s.b.sfSlots } } = s.b.cols from cols]
        rfl
end

section
/-!
SUPPORT. Nodes that come and go: the cells a node keeps, its state, and what leaves the contexts alone (R297, R316, R317).
-/
namespace Sys2Proof.Machine

/-! ### Cells that are freed, and cells that are held -/

/-- A cell that is there once cells were freed was there before, and is none of them. -/
theorem Chip.kget_foldl_free {b : Chip} {l : List Nat} {i w : Nat} (h : kget (l.foldl (fun (b : Chip) j => b.setCell j freeCell) b).sch.cells i = some w) :
    kget b.sch.cells i = some w ∧ i ∉ l := by
  induction l generalizing b with
  | nil => exact ⟨h, List.not_mem_nil⟩
  | cons j l ih =>
    obtain ⟨kept, out⟩ := ih h
    have freed : kget (kdel b.sch.cells j) i = some w := kept
    rw [kget_kdel] at freed
    split at freed
    · cases freed
    · rename_i ne
      exact ⟨freed, List.not_mem_cons_of_ne_of_not_mem (Ne.symm ne) out⟩

theorem Chip.kget_freeCells {b : Chip} {p : Nat → Bool} {i w : Nat} (h : kget (b.freeCells p).1.sch.cells i = some w) :
    kget b.sch.cells i = some w ∧ p w = false := by
  obtain ⟨kept, out⟩ := Chip.kget_foldl_free h
  refine ⟨kept, ?_⟩
  rw [← Bool.not_eq_true]
  exact fun hp => out (List.mem_map.mpr ⟨(i, w), List.mem_filter.mpr ⟨mem_of_kget kept, hp⟩, rfl⟩)

theorem bit_setBit_same (w i : Nat) : bit (setBit w i) i = true := by
  by_cases h : bit w i = true
  · rw [setBit, if_pos h, h]
  · rw [setBit, if_neg h]
    simp only [bit, beq_iff_eq] at h ⊢
    rw [Nat.add_div_right _ (Nat.two_pow_pos i)]
    omega

/-- Cells that are marked as held: one that is there after it is held, or stood there unmarked before. -/
theorem Chip.kget_foldl_hold {b : Chip} {l : List (Nat × Nat)} {i w : Nat}
    (h : kget (l.foldl (fun (c : Chip) e => c.setCell e.1 (setBit e.2 28)) b).sch.cells i = some w) :
    cHeld w = true ∨ (kget b.sch.cells i = some w ∧ ∀ e ∈ l, e.1 ≠ i) := by
  induction l generalizing b with
  | nil => exact .inr ⟨h, fun _ he => absurd he List.not_mem_nil⟩
  | cons e l ih =>
    obtain held | ⟨kept, out⟩ := ih h
    · exact .inl held
    · have put : kget (kset freeCell b.sch.cells e.1 (setBit e.2 28)) i = some w := kept
      by_cases at' : e.1 = i
      · rw [kset, ← at'] at put
        split at put
        · rw [kget_kdel_same] at put
          cases put
        · rw [kget_kput_same] at put
          cases put
          exact .inl (bit_setBit_same _ _)
      · refine .inr ⟨?_, List.forall_mem_cons.mpr ⟨at', out⟩⟩
        rw [kset] at put
        split at put
        · rwa [kget_kdel, if_neg at'] at put
        · rwa [kget_kput, if_neg at'] at put

/-- A cell of an owner that reclaiming it leaves is pinned, and not reclaimed by force. -/
theorem Chip.kget_reclaimCells {b : Chip} {n i w : Nat} {force : Bool} (h : kget (b.reclaimCells n 0x3F force).1.sch.cells i = some w)
    (own : cOwner w = n) (type : cType w ≤ 5) : force = false ∧ cPinned w = true := by
  have left : (cOwner w == n && bit 0x3F (cType w) && (force || !cPinned w)) = false := (Chip.kget_freeCells h).2
  have masked : bit 0x3F (cType w) = true := by
    generalize cType w = ty at type
    interval_cases ty <;> rfl
  simpa [own, masked] using left

theorem Chip.reclaimCells_count {b c : Chip} (sch : c.sch = b.sch) (n : Nat) (force : Bool) : (c.reclaimCells n 0x3F force).2 =
    (b.sch.cells.filter (fun e => cOwner e.2 == n && bit 0x3F (cType e.2) && (force || !cPinned e.2))).length := by
  rw [Chip.reclaimCells, Chip.freeCells, sch, List.length_map]

/-! ### What leaves the contexts, the cells and the pending rekeys alone -/

/-- The keys of all registers but the count of contexts lost to an error of their storage. -/
abbrev butEcc (k : Nat) : Prop := k ≠ Reg.MAC_CTX_ECC.key

theorem Chip.Only.none_butEcc {b c : Chip} {ps qs : List Part} (h : Chip.Only ps noReg b c) (sub : ps ⊆ qs) : Chip.Only qs butEcc b c :=
  h.mono sub fun _ => False.elim

theorem nsFld_butEcc {st : Nat} {f : Fld} (h : nsFld st = some f) : butEcc f.key := by
  unfold nsFld at h
  split at h <;> cases h <;> decide

theorem Chip.setNs_only (b : Chip) (n st : Nat) : Chip.Only [.mac] butEcc b (b.setNs n st) := by
  unfold Chip.setNs
  refine Chip.Only.trans ?_ ((Chip.ndw_only _ _ _ _).none_butEcc (by decide))
  have counted (b : Chip) : Chip.Only [.mac] butEcc b (match nsFld (b.ns n) with | some f => b.sub f 1 | none => b) := by
    split
    · rename_i e
      exact (Chip.Only.rfl' b _ _).w _ _ (nsFld_butEcc e)
    · exact .rfl' b _ _
  split
  · rename_i e
    exact (counted b).w _ _ (nsFld_butEcc e)
  · exact counted b

/-- Setting a node's state writes that field of its context. -/
theorem Chip.setNs_nodes (b : Chip) (n st : Nat) : (b.setNs n st).mac = { b.mac with nodes := kset 0 b.mac.nodes n (cxPut (b.node n) Cx.STATE st) } := by
  unfold Chip.setNs
  split <;> split <;> rfl

theorem Chip.setNs_node (b : Chip) (n st : Nat) : (b.setNs n st).node n = cxPut (b.node n) Cx.STATE st := by
  rw [Chip.node, Chip.setNs_nodes]
  exact kgetD_kset_same _ _ _ _

theorem Chip.setNs_ns (b : Chip) (n st : Nat) : (b.setNs n st).ns n = st % 16 := by
  rw [Chip.ns, Chip.nd, Chip.setNs_node, cx_cxPut_same]
  rfl

theorem Chip.dlDiscard_only (b : Chip) (n : Nat) : Chip.Only [.queues, .mac] butEcc b (b.dlDiscard n).1 := by
  have high {k : Nat} (h : from_ 0x1C0100 k) : butEcc k := fun e => absurd (e ▸ h) (by decide)
  exact ((b.putQ_only _ _).mono (by decide) fun _ => high).trans ((Chip.dlSync_only _ n).none_butEcc (by decide))

theorem Chip.foldl_setCell_only {α : Type} (b : Chip) (l : List α) (f g : α → Nat) :
    Chip.Only [.sch] butEcc b (l.foldl (fun (c : Chip) e => c.setCell (f e) (g e)) b) :=
  .foldl l (.rfl' b _ _) fun d x _ => (d.setCell_only (f x) (g x)).mono (by decide) fun _ e => e ▸ (by decide)

theorem Chip.runFree_only (b : Chip) (n : Nat) : Chip.Only [.sch] butEcc b (b.runFree n) := by
  unfold Chip.runFree
  split
  · exact .rfl' b _ _
  · exact (b.foldl_setCell_only _ _ _).putSch (by decide) _

theorem Chip.kget_runFree {b : Chip} {n i w : Nat} (h : kget (b.runFree n).sch.cells i = some w) : kget b.sch.cells i = some w := by
  unfold Chip.runFree at h
  split at h
  · exact h
  · rename_i r _
    have free (l : List (Nat × Nat)) : l.foldl (fun (c : Chip) e => c.setCell e.1 freeCell) b =
        (l.map (·.1)).foldl (fun (c : Chip) j => c.setCell j freeCell) b := by rw [List.foldl_map]
    dsimp only at h
    rw [free] at h
    exact (Chip.kget_foldl_free h).1

theorem Chip.rekeyDrop_only (b : Chip) (n : Nat) : Chip.Only [.key, .mac, .acc] butEcc b (b.rekeyDrop n) := by
  unfold Chip.rekeyDrop
  split
  · exact .rfl' b _ _
  · exact ((((Chip.Only.rfl' b [.key, .mac, .acc] butEcc).putKey (by decide) _).w _ _ (by decide)).inc _ (by decide)).trans
      ((Chip.noteFirst_only _ _ _ _).none_butEcc (by decide))

theorem Chip.rekeyDrop_rekeys (b : Chip) (n : Nat) : kget (b.rekeyDrop n).key.rekeys n = none := by
  unfold Chip.rekeyDrop
  split
  · rename_i h
    exact Option.isNone_iff_eq_none.mp h
  · dsimp only
    rw [(Chip.noteFirst_only _ _ _ _).key (by decide)]
    exact kget_kdel_same _ _

/-- A node that leaves, before its wait for a run, its joining, its backoff and the acknowledgement awaited go. -/
def Chip.nodeDrop (b : Chip) (n : Nat) : Chip := ((b.dlDiscard n).1.runFree n).rekeyDrop n

theorem Chip.nodeQuiet_drops (b : Chip) (n : Nat) : (b.nodeQuiet n).1 = { b.nodeDrop n with
    sch := { (b.nodeDrop n).sch with runWait := (b.nodeDrop n).sch.runWait.filter (· != n) },
    mac := { (b.nodeDrop n).mac with
      joinSf := kdel (b.nodeDrop n).mac.joinSf n, csma := kdel (b.nodeDrop n).mac.csma n, waits := kdel (b.nodeDrop n).mac.waits n } } := rfl

theorem Chip.nodeDrop_only (b : Chip) (n : Nat) : Chip.Only [.queues, .mac, .sch, .key, .acc] butEcc b (b.nodeDrop n) :=
  (((b.dlDiscard_only n).mono (by decide) fun _ => id).trans ((Chip.runFree_only _ n).mono (by decide) fun _ => id)).trans
    ((Chip.rekeyDrop_only _ n).mono (by decide) fun _ => id)

theorem Chip.nodeQuiet_only (b : Chip) (n : Nat) : Chip.Only [.queues, .mac, .sch, .key, .acc] butEcc b (b.nodeQuiet n).1 := by
  have dropped := b.nodeDrop_only n
  rw [Chip.nodeQuiet_drops]
  generalize b.nodeDrop n = c at dropped ⊢
  exact dropped.set rfl rfl

/-- A node that leaves has no rekey pending, and no cell that it had not before. -/
theorem Chip.nodeQuiet_rekeys (b : Chip) (n : Nat) : kget (b.nodeQuiet n).1.key.rekeys n = none := by
  rw [Chip.nodeQuiet_drops]
  exact Chip.rekeyDrop_rekeys ((b.dlDiscard n).1.runFree n) n

theorem Chip.kget_nodeQuiet {b : Chip} {n i w : Nat} (h : kget (b.nodeQuiet n).1.sch.cells i = some w) : kget b.sch.cells i = some w := by
  rw [Chip.nodeQuiet_drops] at h
  dsimp only at h
  rw [Chip.nodeDrop, (Chip.rekeyDrop_only _ n).sch (by decide)] at h
  have discarded := Chip.kget_runFree h
  rwa [(b.dlDiscard_only n).sch (by decide)] at discarded

theorem Chip.removeKey_only (b : Chip) (ktype key : Nat) : Chip.Only [.fwd, .ntc, .out] fwdKey b (b.removeKey ktype key) := by
  have touched := (b.touch_only 0 (ktype + 256 * key)).mono (qs := [.fwd, .ntc, .out]) (by decide) fun _ => id
  unfold Chip.removeKey
  dsimp only
  split
  · exact (touched.trans ((Chip.putEnt_only _ _ _ _).mono (by decide) fun _ => False.elim)).trans ((Chip.fwdCounts_only _ _).mono (by decide) fun _ => id)
  · exact touched

theorem Chip.dropKeys_only (b : Chip) (n : Nat) : Chip.Only [.key] butEcc b (b.dropKeys n) := ((Chip.Only.rfl' b _ _).putKey (by decide) _).w _ _ (by decide)

theorem Chip.regDrop_only (b : Chip) (a : Nat) : Chip.Only [.svc, .fwd, .ntc, .out] anyReg b (b.regDrop a) :=
  (((Chip.Only.rfl' b [.svc, .fwd, .ntc, .out] anyReg).putSvc (by decide) _).w _ _ trivial).trans ((Chip.removeKey_only _ _ _).any (by decide))

theorem Chip.regsOf_only (b : Chip) (n : Nat) : Chip.Only [.svc, .fwd, .ntc, .out] anyReg b (b.regsOf n) :=
  .foldl _ (.rfl' b _ _) fun d a _ => d.regDrop_only a

theorem Chip.noteFirst_nodes (b : Chip) (code first n : Nat) : (b.noteFirst code first n).mac.nodes = b.mac.nodes := by
  unfold Chip.noteFirst
  dsimp only
  split <;> rfl

theorem Chip.runReserve_nodes (b : Chip) (n len : Nat) : (b.runReserve n len).mac.nodes = b.mac.nodes := by
  unfold Chip.runReserve
  split
  · dsimp only
    rw [(Chip.placeAll_only _ _ _ _).mac (by decide)]
  · exact Chip.noteFirst_nodes _ _ _ _

theorem Chip.wantRun_nodes (b : Chip) (n : Nat) : (b.wantRun n).mac.nodes = b.mac.nodes := by
  unfold Chip.wantRun
  split
  · rfl
  · split
    · exact Chip.runReserve_nodes _ _ _
    · rfl

/-! ### A node that is lost (R297, R300) -/

/-- The context of a node that is lost. -/
def lostCtx (c : Nat) : Nat :=
  let e := cxPut c Cx.STATE NS.LOST
  cxPut (cxPut (cxPut e Cx.LOST_ENTRIES (satAdd 16 (cx e Cx.LOST_ENTRIES) 1)) Cx.PHASE_VALID 0) Cx.LOST_SF 0

theorem cx_lostCtx_state (c : Nat) : cx (lostCtx c) Cx.STATE = 5 := by
  rw [lostCtx, cx_cxPut_apart _ _ (by decide), cx_cxPut_apart _ _ (by decide), cx_cxPut_apart _ _ (by decide), cx_cxPut_same]
  rfl

theorem cx_lostCtx_fallback (c : Nat) : cx (lostCtx c) Cx.FALLBACK = cx c Cx.FALLBACK := by
  rw [lostCtx, cx_cxPut_apart _ _ (by decide), cx_cxPut_apart _ _ (by decide), cx_cxPut_apart _ _ (by decide), cx_cxPut_apart _ _ (by decide)]

theorem Chip.freeHeld_only (b : Chip) (n : Nat) : Chip.Only [.sch] anyReg b (b.freeHeld n) :=
  ((b.foldl_setCell_only _ _ _).any (by decide)).w _ _ trivial

theorem Chip.kget_freeHeld {b : Chip} {n i w : Nat} (h : kget (b.freeHeld n).sch.cells i = some w) : kget b.sch.cells i = some w := by
  have free (l : List (Nat × Nat)) : l.foldl (fun (c : Chip) e => c.setCell e.1 freeCell) b =
      (l.map (·.1)).foldl (fun (c : Chip) j => c.setCell j freeCell) b := by rw [List.foldl_map]
  unfold Chip.freeHeld at h
  dsimp only at h
  rw [free] at h
  exact (Chip.kget_foldl_free h).1

/-- A node marked LOST, before its cells are. -/
def Chip.lostNode (b : Chip) (n : Nat) : Chip := (((b.setNs n NS.LOST).ndAdd n Cx.LOST_ENTRIES 1).ndw n Cx.PHASE_VALID 0).ndw n Cx.LOST_SF 0

theorem Chip.lostNode_node (b : Chip) (n : Nat) : (b.lostNode n).node n = lostCtx (b.node n) := by
  simp only [Chip.lostNode, Chip.ndAdd, Chip.ndw, Chip.nd, Chip.node_putNode_same, Chip.setNs_node, lostCtx]
  rfl

theorem Chip.lostNode_only (b : Chip) (n : Nat) : Chip.Only [.mac] anyReg b (b.lostNode n) :=
  ((((b.setNs_only n _).any (by decide)).trans ((Chip.ndw_only _ _ _ _).any (by decide))).trans ((Chip.ndw_only _ _ _ _).any (by decide))).trans
    ((Chip.ndw_only _ _ _ _).any (by decide))

/-- A lost node with its cells held, before they are freed and a run is reserved. -/
def Chip.lostHeld (b : Chip) (n : Nat) : Chip :=
  let b2 := ((b.lostNode n).ownCells n).foldl (fun c e => c.setCell e.1 (setBit e.2 28)) (b.lostNode n)
  let b3 := (b2.inc Reg.SCH_LOST_ENTER).noteFirst N.NODE_LOST n 1
  { b3 with sch := { b3.sch with lostFresh := n :: b3.sch.lostFresh } }

theorem Chip.goLost_eq (b : Chip) (n : Nat) :
    b.goLost n = (if (b.lostHeld n).r Reg.SCH_LOST_KEEP_SF = 0 then (b.lostHeld n).freeHeld n else b.lostHeld n).wantRun n := rfl

theorem Chip.lostHeld_node (b : Chip) (n : Nat) : (b.lostHeld n).node n = lostCtx (b.node n) := by
  rw [← Chip.lostNode_node]
  refine congrFun (Chip.node_congr ?_) n
  refine (Chip.noteFirst_nodes _ _ _ _).trans ?_
  exact congrArg Mac.nodes ((Chip.foldl_setCell_only _ _ _ _).mac (by decide))

theorem Chip.kget_lostHeld {b : Chip} {n i w : Nat} (h : kget (b.lostHeld n).sch.cells i = some w) (own : cOwner w = n) : cHeld w = true := by
  have kept : kget (((b.lostNode n).ownCells n).foldl (fun (c : Chip) e => c.setCell e.1 (setBit e.2 28)) (b.lostNode n)).sch.cells i = some w := by
    rw [← h]
    unfold Chip.lostHeld
    dsimp only
    rw [(Chip.noteFirst_only _ _ _ _).sch (by decide)]
    rfl
  obtain held | ⟨stood, out⟩ := Chip.kget_foldl_hold kept
  · exact held
  · exact absurd rfl (out (i, w) (List.mem_filter.mpr ⟨mem_of_kget stood, by simp [own]⟩))

theorem Chip.goLost_node (b : Chip) (n : Nat) : (b.goLost n).node n = lostCtx (b.node n) := by
  rw [Chip.goLost_eq, ← b.lostHeld_node]
  refine congrFun (Chip.node_congr ((Chip.wantRun_nodes _ _).trans ?_)) n
  split
  · rw [(Chip.freeHeld_only _ n).mac (by decide)]
  · rfl

theorem Chip.goLost_ns (b : Chip) (n : Nat) : (b.goLost n).ns n = 5 := by
  rw [Chip.ns, Chip.nd, Chip.goLost_node, cx_lostCtx_state]

theorem Chip.wantRun_unreached {b : Chip} {n : Nat} (h : b.reachOf n = 0) : b.wantRun n = b := by
  unfold Chip.wantRun
  rw [if_pos (by simp [h])]

/-- A lost node that is reached by no train and no call keeps only cells that are held. -/
theorem Chip.kget_goLost {b : Chip} {n i w : Nat} (fallback : b.nd n Cx.FALLBACK = 0) (h : kget (b.goLost n).sch.cells i = some w) (own : cOwner w = n) :
    cHeld w = true := by
  rw [Chip.goLost_eq] at h
  have node : (if (b.lostHeld n).r Reg.SCH_LOST_KEEP_SF = 0 then (b.lostHeld n).freeHeld n else b.lostHeld n).node n = lostCtx (b.node n) := by
    rw [← b.lostHeld_node]
    split
    · rw [Chip.node_congr (congrArg Mac.nodes ((Chip.freeHeld_only _ n).mac (by decide)))]
    · rfl
  have unreached : (if (b.lostHeld n).r Reg.SCH_LOST_KEEP_SF = 0 then (b.lostHeld n).freeHeld n else b.lostHeld n).reachOf n = 0 := by
    have shown := cx_lostCtx_fallback (b.node n)
    rw [← node] at shown
    rw [Chip.reachOf, Chip.ns, Chip.nd, node, cx_lostCtx_state]
    exact shown.trans fallback
  rw [Chip.wantRun_unreached unreached] at h
  split at h
  · exact Chip.kget_lostHeld (Chip.kget_freeHeld h) own
  · exact Chip.kget_lostHeld h own

/-! ### The commands (R297, R317) -/

section
variable {b : Chip} {n : Nat}

theorem Chip.suspendCmd_serving (arg : b.arg cbMAC 0 = n) (hn : n < b.pat.nodeCount) (role : b.isStandby = false) (gap : b.gap = false)
    (lo : 1 ≤ b.ns n) (hi : b.ns n ≤ 5) :
    b.suspendCmd = (((((b.cacheFetch n).reclaimCells n 0x3F false).1.nodeQuiet n).1).setNs n NS.SUSPENDED).done
      [((b.cacheFetch n).reclaimCells n 0x3F false).2] := by
  rw [Chip.suspendCmd, Chip.nodeCmd_serving _ arg hn role gap (Nat.pos_iff_ne_zero.mp lo), if_neg]
  rw [Chip.ns, Chip.nd, Chip.cacheFetch_node]
  exact fun h => h.elim (Nat.pos_iff_ne_zero.mp lo) (Nat.not_lt.mpr hi)

theorem Chip.resumeCmd_serving (arg : b.arg cbMAC 0 = n) (hn : n < b.pat.nodeCount) (role : b.isStandby = false) (gap : b.gap = false)
    (ns : b.ns n = NS.SUSPENDED) {x : Chip} (hx : x = if b.nd n Cx.JOINED = 1 then (b.cacheFetch n).goLost n else (b.cacheFetch n).setNs n NS.ADMITTED) :
    b.resumeCmd = x.done [x.ns n] := by
  have joined : (b.cacheFetch n).nd n Cx.JOINED = b.nd n Cx.JOINED := by rw [Chip.nd, Chip.cacheFetch_node, Chip.nd]
  have state : (b.cacheFetch n).ns n = NS.SUSPENDED := by rw [Chip.ns, Chip.nd, Chip.cacheFetch_node]; exact ns
  rw [Chip.resumeCmd, Chip.nodeCmd_serving _ arg hn role gap (by rw [ns]; decide), if_neg (not_not.mpr state), joined, hx]

/-- A node that is retired, before its state is set. -/
def Chip.retired (b : Chip) (n : Nat) : Chip :=
  let q := (b.reclaimCells n 0x3F true).1.nodeQuiet n
  ((if b.nd n Cx.SHORT_ADDR = 0xFFFE then q.1 else q.1.removeKey 2 (b.nd n Cx.SHORT_ADDR)).dropKeys n).regsOf n

theorem Chip.retireCmd_serving (arg : b.arg cbMAC 0 = n) (hn : n < b.pat.nodeCount) (role : b.isStandby = false) (gap : b.gap = false)
    (there : b.ns n ≠ NS.EMPTY) (stays : b.ns n ≠ NS.RETIRED) : ∃ j, b.retireCmd = (((b.cacheFetch n).retired n).setNs n NS.RETIRED).done
      [((b.cacheFetch n).reclaimCells n 0x3F true).2, j] := by
  refine ⟨(((b.cacheFetch n).reclaimCells n 0x3F true).1.nodeQuiet n).2, ?_⟩
  rw [Chip.retireCmd, Chip.nodeCmd_serving _ arg hn role gap there, if_neg]
  · rfl
  · rw [Chip.ns, Chip.nd, Chip.cacheFetch_node]
    exact not_or.mpr ⟨there, stays⟩

theorem Chip.kget_retired {i w : Nat} (h : kget (b.retired n).sch.cells i = some w) : kget (b.reclaimCells n 0x3F true).1.sch.cells i = some w := by
  have kept : (b.retired n).sch = ((b.reclaimCells n 0x3F true).1.nodeQuiet n).1.sch := by
    rw [Chip.retired, (Chip.regsOf_only _ n).sch (by decide), (Chip.dropKeys_only _ n).sch (by decide)]
    split
    · rfl
    · rw [(Chip.removeKey_only _ _ _).sch (by decide)]
  rw [kept] at h
  exact Chip.kget_nodeQuiet h

/-- What CLEAR frees of a node, before its context goes. -/
def Chip.freed (b : Chip) (n : Nat) : Chip :=
  (((b.removeKey 1 (b.nd n Cx.EUI64)).regsOf n).dropKeys n).modSvc (fun s => { s with routes := kdel s.routes n })

theorem Chip.clearCmd_serving (arg : b.arg cbMAC 0 = n) (hn : n < b.pat.nodeCount) (role : b.isStandby = false) (gap : b.gap = false)
    (ns : b.ns n = NS.RETIRED) : b.clearCmd = ((((b.cacheFetch n).freed n).putNode n 0).cacheDrop n).done [] := by
  have state : (b.cacheFetch n).ns n = NS.RETIRED := by rw [Chip.ns, Chip.nd, Chip.cacheFetch_node]; exact ns
  rw [Chip.clearCmd, Chip.nodeCmd_serving _ arg hn role gap (by rw [ns]; decide), if_neg (not_not.mpr state)]
  rfl

theorem Chip.freed_only (b : Chip) (n : Nat) : Chip.Only [.svc, .fwd, .ntc, .out, .key] anyReg b (b.freed n) :=
  ((((b.removeKey_only _ _).any (by decide)).trans ((Chip.regsOf_only _ n).any (by decide))).trans ((Chip.dropKeys_only _ n).any (by decide))).putSvc
    (by decide) _

/-! #### ADMIT -/

/-- The fields that ADMIT writes, before the rung. -/
def Cx.admitFields : List CxF :=
  [STATE, REACH, FALLBACK, REF_GRADE, LEGACY, UNSEC_OK, DRIFT_CLASS, BAND, ALLOWED_LANES, PARENT, PREAMBLE, EUI64, SHORT_ADDR, DL_QUEUE] ++
  [MAX_RETRIES, INSTALL_POCKET, KEY_EPOCH, KEY_INDEX, SEC_LEVEL_MIN, SAMPLE_MS, MODE_MASK, MCS_MIN, MCS_MAX, ADAPT_EN, POWER, WAKE_LEN] ++
  [WAKE_PATTERN, ADMIT_STITCH]

theorem cx_foldl_put_apart {f : CxF} {l : List (CxF × Nat)} (c : Nat) (h : ∀ g ∈ l.map (·.1), f.Apart g) :
    cx (l.foldl (fun c e => cxPut c e.1 e.2) c) f = cx c f := by
  induction l generalizing c with
  | nil => rfl
  | cons e l ih =>
    rw [List.map_cons, List.forall_mem_cons] at h
    exact (ih _ h.2).trans (cx_cxPut_apart _ _ h.1)

/-- The context of ADMIT is that of its fields written into the zero context, the state first, at the lowest rung. -/
theorem Chip.admitCtx_puts (b : Chip) : ∃ l : List (CxF × Nat), l.map (·.1) = Cx.admitFields ∧ l.head? = some (Cx.STATE, NS.ADMITTED) ∧
    b.admitCtx = b.lowestRung (l.foldl (fun c e => cxPut c e.1 e.2) 0) := ⟨_, rfl, rfl, rfl⟩

theorem Chip.admitCtx_state (b : Chip) : cx b.admitCtx Cx.STATE = 1 := by
  obtain ⟨l, fields, first, eq⟩ := b.admitCtx_puts
  obtain ⟨e, l, rfl⟩ := List.exists_cons_of_ne_nil (fun e : l = [] => absurd (e ▸ first) (by simp))
  obtain rfl : e = (Cx.STATE, NS.ADMITTED) := by simpa using first
  rw [eq, Chip.lowestRung, cx_setRung_apart _ _ (by decide) (by decide), List.foldl_cons, cx_foldl_put_apart _ (by
    rw [(List.cons.inj fields).2]
    decide), cx_cxPut_same]
  rfl

theorem Chip.admitCtx_retry (b : Chip) : cx b.admitCtx Cx.RETRY_NOW = 0 := by
  obtain ⟨l, fields, -, eq⟩ := b.admitCtx_puts
  rw [eq, Chip.lowestRung, cx_setRung_apart _ _ (by decide) (by decide), cx_foldl_put_apart _ (by rw [fields]; decide)]
  rfl

theorem Chip.nodeName_only (b : Chip) (ktype key n : Nat) : Chip.Only [.fwd, .ntc, .out] fwdKey b (b.nodeName ktype key n).1 := by
  unfold Chip.nodeName
  split
  · exact .rfl' b _ _
  · have installed := (b.insert_only 0 (nodeEnt ktype key n b.stitch32) false).1
    unfold Chip.nodeEntry
    split <;> (rename_i e; rw [e] at installed; exact installed)

/-- Counting a node's items writes its count alone, where a retry is not under way. -/
theorem Chip.dlSync_node (hn : n < b.pat.nodeCount) (there : b.ns n ≠ NS.EMPTY) (fresh : b.nd n Cx.RETRY_NOW = 0) :
    (b.dlSync n).node n = cxPut (b.node n) Cx.DL_COUNT ((b.dlSync n).nd n Cx.DL_COUNT) := by
  have kept (v : Nat) : (b.ndw n Cx.DL_COUNT v).nd n Cx.RETRY_NOW = 0 := by
    rw [Chip.nd, Chip.ndw, Chip.node_putNode_same, cx_cxPut_apart _ _ (by decide)]
    exact fresh
  have synced : b.dlSync n = b.ndw n Cx.DL_COUNT (min 255 ((b.q (b.nd n Cx.DL_QUEUE)).nodeItems n).length) := by
    unfold Chip.dlSync
    rw [if_neg (not_or.mpr ⟨Nat.not_le.mpr hn, there⟩)]
    exact if_neg fun h => h.2 (kept _)
  have shown {v : Nat} (h : v < 2 ^ 8) : (b.ndw n Cx.DL_COUNT v).nd n Cx.DL_COUNT = v := by
    rw [Chip.nd, Chip.ndw, Chip.node_putNode_same, cx_cxPut_same]
    exact Nat.mod_eq_of_lt h
  rw [synced, shown (Nat.lt_of_le_of_lt (Nat.min_le_left _ _) (by decide)), Chip.ndw, Chip.node_putNode_same]

theorem Chip.dlSync_others {m : Nat} (h : m ≠ n) : (b.dlSync n).node m = b.node m := by
  unfold Chip.dlSync Chip.ndw
  split
  · rfl
  · dsimp only
    split
    · rw [Chip.node_putNode_ne _ _ h, Chip.node_putNode_ne _ _ h]
    · rw [Chip.node_putNode_ne _ _ h]

/-- ADMIT whose checks pass installs the addresses, which leaves the contexts, and puts the context (R317). -/
theorem Chip.admitCmd_admits {c : Nat} {k : KeyT} {x : Chip} (arg : b.arg cbMAC 0 = n) (hn : n < b.pat.nodeCount) (role : b.isStandby = false)
    (gap : b.gap = false) (hc : c = b.admitCtx) (band : cx c Cx.BAND ≠ 3) (reach : reachOk c = true)
    (wake : cx c Cx.WAKE_LEN = 0 ∨ 8 ≤ cx c Cx.WAKE_LEN) (len : cx c Cx.WAKE_LEN ≤ 64) (sample : cx c Cx.SAMPLE_MS ≤ 2000) (index : cx c Cx.KEY_INDEX ≠ 0)
    (mode : b.modeMaskOk (cx c Cx.BAND) (cx c Cx.MODE_MASK) = true) (queue : cx c Cx.DL_QUEUE < b.pat.queueCount) (ns : b.ns n = NS.EMPTY)
    (pocket : b.pocketKey (cx c Cx.INSTALL_POCKET) 1 0 = .inr k)
    (hx : x = (if cx c Cx.SHORT_ADDR = 0xFFFE then b.touch 0 (1 + 256 * cx c Cx.EUI64)
      else (b.touch 0 (1 + 256 * cx c Cx.EUI64)).touch 0 (2 + 256 * cx c Cx.SHORT_ADDR)))
    (own : x.namesOther 1 (cx c Cx.EUI64) n = false) (room : (x.nodeName 1 (cx c Cx.EUI64) n).2 = OK)
    (short : cx c Cx.SHORT_ADDR = 0xFFFE ∨ (x.namesOther 2 (cx c Cx.SHORT_ADDR) n = false ∧
      ((x.nodeName 1 (cx c Cx.EUI64) n).1.nodeName 2 (cx c Cx.SHORT_ADDR) n).2 = OK)) :
    ∃ y, Chip.Only [.fwd, .ntc, .out] fwdKey b y ∧
      b.admitCmd = (((y.putNode n c).dlSync n).cacheFetch n).done [cx c Cx.TX_MODE_BIT + cx c Cx.TX_MCS * 16] := by
  have over_ : b.modeOver (cx c Cx.BAND) (cx c Cx.MODE_MASK) = false := by
    rw [Chip.modeMaskOk, Bool.and_eq_true] at mode
    rw [Chip.modeOver, bne, mode.2]
    rfl
  have touched : Chip.Only [.fwd, .ntc, .out] fwdKey b x := by
    rw [hx]
    split
    · exact (b.touch_only _ _).mono (by decide) fun _ => id
    · exact ((b.touch_only _ _).mono (by decide) fun _ => id).trans ((Chip.touch_only _ _ _).mono (by decide) fun _ => id)
  have named := touched.trans (x.nodeName_only 1 (cx c Cx.EUI64) n)
  rw [Chip.admitCmd, Chip.nodeCmd, arg, if_neg (Nat.not_le.mpr hn), if_neg (by simp), if_pos ns, ← hc]
  extract_lets c' d e s' sh b0 fin
  rw [if_neg (by simp [d, c', over_, queue]), if_neg (by simp [d, c', band, reach, len, sample, index, mode]; omega), if_neg (by simp [role, Chip.inGap, gap, ns]),
    pocket]
  have at' : b0 = x := by
    rw [hx]
    simp only [b0, sh, e, s', c', bne_iff_ne, ne_eq, ite_not]
  dsimp only
  rw [at']
  obtain none_ | ⟨other, fits⟩ := short
  · have long : sh = false := by simp [sh, c', none_]
    refine ⟨_, named, ?_⟩
    rw [long, if_neg (by simpa using own)]
    rw [if_neg (not_not.mpr room), if_pos (by decide)]
  · by_cases long : sh = false
    · refine ⟨_, named, ?_⟩
      rw [long, if_neg (by simpa using own)]
      rw [if_neg (not_not.mpr room), if_pos (by decide)]
    · have has : sh = true := by simpa using long
      refine ⟨_, named.trans ((x.nodeName 1 (cx c Cx.EUI64) n).1.nodeName_only 2 (cx c Cx.SHORT_ADDR) n), ?_⟩
      rw [has, if_neg (by simp [e, c', own, other, s'])]
      rw [if_neg (not_not.mpr room), if_neg (by decide)]
      rw [if_neg (not_not.mpr fits)]

theorem Chip.cacheDrop_node (b : Chip) (n : Nat) : (b.cacheDrop n).node = b.node := rfl

theorem Chip.cacheDrop_cache (b : Chip) (n : Nat) : n ∉ (b.cacheDrop n).mac.cache := fun h => by simpa using (List.mem_filter.mp h).2

end

/-! ### The commands run -/

/-- What completing a command of MAC leaves. -/
theorem Chip.cmdFinish_leaves {c d : Chip} {l : List Nat} (hd : d = c.cmdFinish cbMAC OK l) :
    d.node = c.node ∧ d.sch = c.sch ∧ d.key = c.key ∧ d.mac = c.mac := by
  have fin := c.cmdFinish_only cbMAC OK l
  rw [← hd] at fin
  have mac := fin.mac (by decide)
  exact ⟨Chip.node_congr (by rw [mac]), fin.sch (by decide), fin.key (by decide), mac⟩

/-- MAC takes a command for a node of the Pattern, in a serving role and outside a gap slot. -/
structure State.Serves (s : State) (irq : Bool) (n : Nat) : Prop where
  awake : s.b.Awake
  takes : s.b.takes cbMAC = true
  arg : (s.b.cmdAccept cbMAC irq).arg cbMAC 0 = n
  inside : n < (s.b.cmdAccept cbMAC irq).pat.nodeCount
  role : (s.b.cmdAccept cbMAC irq).isStandby = false
  gap : (s.b.cmdAccept cbMAC irq).gap = false

section
variable {s : State} {irq : Bool} {n : Nat}

theorem Runs.admits {c : Nat} {k : KeyT} {x : Chip} (serves : s.Serves irq n) (hc : c = s.b.admitCtx) (band : cx c Cx.BAND ≠ 3) (reach : reachOk c = true)
    (wake : cx c Cx.WAKE_LEN = 0 ∨ 8 ≤ cx c Cx.WAKE_LEN) (len : cx c Cx.WAKE_LEN ≤ 64) (sample : cx c Cx.SAMPLE_MS ≤ 2000) (index : cx c Cx.KEY_INDEX ≠ 0)
    (mode : s.b.modeMaskOk (cx c Cx.BAND) (cx c Cx.MODE_MASK) = true) (queue : cx c Cx.DL_QUEUE < s.b.pat.queueCount) (ns : s.b.ns n = NS.EMPTY)
    (pocket : s.b.pocketKey (cx c Cx.INSTALL_POCKET) 1 0 = .inr k)
    (hx : x = (if cx c Cx.SHORT_ADDR = 0xFFFE then (s.b.cmdAccept cbMAC irq).touch 0 (1 + 256 * cx c Cx.EUI64)
      else ((s.b.cmdAccept cbMAC irq).touch 0 (1 + 256 * cx c Cx.EUI64)).touch 0 (2 + 256 * cx c Cx.SHORT_ADDR)))
    (own : x.namesOther 1 (cx c Cx.EUI64) n = false) (room : (x.nodeName 1 (cx c Cx.EUI64) n).2 = OK)
    (short : cx c Cx.SHORT_ADDR = 0xFFFE ∨ (x.namesOther 2 (cx c Cx.SHORT_ADDR) n = false ∧
      ((x.nodeName 1 (cx c Cx.EUI64) n).1.nodeName 2 (cx c Cx.SHORT_ADDR) n).2 = OK)) :
    Runs (.nodeAdmit irq) s (fun t => t.mem = s.mem ∧ t.b.ns n = NS.ADMITTED ∧ t.b.node n = cxPut c Cx.DL_COUNT (t.b.nd n Cx.DL_COUNT) ∧
      (∀ m, m ≠ n → t.b.node m = s.b.node m) ∧ t.b.Completed cbMAC OK [cx c Cx.TX_MODE_BIT + cx c Cx.TX_MCS * 16]) := by
  have admits : c = (s.b.cmdAccept cbMAC irq).admitCtx := by
    rw [hc]
    unfold Chip.admitCtx
    simp only [Chip.cmdAccept_arg, Chip.cmdAccept_r s.b cbMAC irq Reg.KEY_NODE_EPOCH (by decide)]
    rfl
  have pocket' : (s.b.cmdAccept cbMAC irq).pocketKey (cx c Cx.INSTALL_POCKET) 1 0 = .inr k := by
    rw [← pocket]
    have root : (s.b.cmdAccept cbMAC irq).t Reg.KEY_TEST_ROOT = s.b.t Reg.KEY_TEST_ROOT := by
      rw [Chip.t, Chip.cmdAccept_r _ _ _ _ (by decide)]
      rfl
    simp only [Chip.pocketKey, Chip.unwrapped, Chip.unwraps_same (b := s.b) (c := s.b.cmdAccept cbMAC irq) rfl root]
    rfl
  obtain ⟨y, named, hf⟩ :=
    Chip.admitCmd_admits serves.arg serves.inside serves.role serves.gap admits band reach wake len sample index mode queue ns pocket' hx own room short
  have run : exec (.nodeAdmit irq) s = .next { s with b := s.b.cmd cbMAC irq (fun c => c.admitCmd) } := by
    rw [exec_nodeAdmit, execNodeAdmit, State.on_eq, Chip.wakeFor_of_awake serves.awake]
  refine Runs.cmd run serves.takes (by decide) (by decide) hf fun d hd completed => ?_
  have node : d.node = ((y.putNode n c).dlSync n).node := ((Chip.cmdFinish_leaves hd).1).trans (Chip.cacheFetch_node _ _)
  have pat : y.pat = (s.b.cmdAccept cbMAC irq).pat := named.pat (by decide)
  have state : (y.putNode n c).ns n = 1 := by rw [Chip.ns, Chip.nd, Chip.node_putNode_same, admits, Chip.admitCtx_state]
  have synced := Chip.dlSync_node (b := y.putNode n c) (n := n) (lt_of_lt_of_eq serves.inside (congrArg Pat.nodeCount pat.symm)) (by rw [state]; decide)
    (by rw [Chip.nd, Chip.node_putNode_same, admits, Chip.admitCtx_retry])
  rw [Chip.node_putNode_same] at synced
  have count : d.nd n Cx.DL_COUNT = ((y.putNode n c).dlSync n).nd n Cx.DL_COUNT := by rw [Chip.nd, node, Chip.nd]
  refine ⟨rfl, ?_, ?_, fun m hm => ?_, completed⟩
  · change d.ns n = NS.ADMITTED
    rw [Chip.ns, Chip.nd, node, synced, cx_cxPut_apart _ _ (by decide), admits, Chip.admitCtx_state]
  · change d.node n = cxPut c Cx.DL_COUNT (d.nd n Cx.DL_COUNT)
    rw [count, node, ← synced]
  · change d.node m = s.b.node m
    rw [node, Chip.dlSync_others hm, Chip.node_putNode_ne _ _ hm, Chip.node_congr (congrArg Mac.nodes (named.mac (by decide)))]
    rfl

theorem Runs.suspends (serves : s.Serves irq n) (lo : 1 ≤ s.b.ns n) (hi : s.b.ns n ≤ 5) :
    Runs (.suspend irq) s (fun t => t.mem = s.mem ∧ t.b.ns n = NS.SUSPENDED ∧ kget t.b.key.rekeys n = none ∧
      (∀ i w : Nat, kget t.b.sch.cells i = some w → cOwner w = n → cType w ≤ 5 → cPinned w = true) ∧
      t.b.Completed cbMAC OK [(s.b.sch.cells.filter (fun e => cOwner e.2 == n && bit 0x3F (cType e.2) && !cPinned e.2)).length]) := by
  have run : exec (.suspend irq) s = .next { s with b := s.b.cmd cbMAC irq (fun c => c.suspendCmd) } := by
    rw [exec_suspend, execSuspend, State.on_eq, Chip.wakeFor_of_awake serves.awake]
  have fetched := ((s.b.cmdAccept cbMAC irq).cacheFetch_only n).sch (by decide)
  have hf := Chip.suspendCmd_serving serves.arg serves.inside serves.role serves.gap lo hi
  rw [Chip.reclaimCells_count (b := s.b) fetched] at hf
  generalize (s.b.cmdAccept cbMAC irq).cacheFetch n = x at hf
  refine Runs.cmd run serves.takes (by decide) (by decide) hf fun d hd completed => ?_
  obtain ⟨node, cells, key, -⟩ := Chip.cmdFinish_leaves hd
  have set := ((x.reclaimCells n 0x3F false).1.nodeQuiet n).1.setNs_only n NS.SUSPENDED
  refine ⟨rfl, ?_, ?_, fun i w there own type => ?_, completed⟩
  · change d.ns n = NS.SUSPENDED
    rw [Chip.ns, Chip.nd, node]
    exact Chip.setNs_ns _ _ _
  · change kget d.key.rekeys n = none
    rw [key, set.key (by decide)]
    exact Chip.nodeQuiet_rekeys _ _
  · change kget d.sch.cells i = some w at there
    rw [cells, set.sch (by decide)] at there
    exact (Chip.kget_reclaimCells (Chip.kget_nodeQuiet there) own type).2

theorem Runs.resumes {x : Chip} {v : Nat} (serves : s.Serves irq n) (ns : s.b.ns n = NS.SUSPENDED)
    (hx : x = if s.b.nd n Cx.JOINED = 1 then ((s.b.cmdAccept cbMAC irq).cacheFetch n).goLost n
      else ((s.b.cmdAccept cbMAC irq).cacheFetch n).setNs n NS.ADMITTED) (hv : x.ns n = v) :
    Runs (.resume irq) s (fun t => t.mem = s.mem ∧ t.b.ns n = v ∧ t.b.Completed cbMAC OK [v] ∧ t.b.sch = x.sch) := by
  have run : exec (.resume irq) s = .next { s with b := s.b.cmd cbMAC irq (fun c => c.resumeCmd) } := by
    rw [exec_resume, execResume, State.on_eq, Chip.wakeFor_of_awake serves.awake]
  refine Runs.cmd run serves.takes (by decide) (by decide) (Chip.resumeCmd_serving serves.arg serves.inside serves.role serves.gap ns hx)
    fun d hd completed => ?_
  obtain ⟨node, cells, -, -⟩ := Chip.cmdFinish_leaves hd
  refine ⟨rfl, ?_, hv ▸ completed, cells⟩
  rw [← hv, Chip.ns, Chip.nd, Chip.ns, Chip.nd]
  exact congrArg (fun f => cx (f n) Cx.STATE) node

theorem Runs.retires (serves : s.Serves irq n) (there : s.b.ns n ≠ NS.EMPTY) (stays : s.b.ns n ≠ NS.RETIRED) :
    Runs (.retire irq) s (fun t => t.mem = s.mem ∧ t.b.ns n = NS.RETIRED ∧
      (∀ i w : Nat, kget t.b.sch.cells i = some w → cType w ≤ 5 → cOwner w ≠ n) ∧
      ∃ j, t.b.Completed cbMAC OK [(s.b.sch.cells.filter (fun e => cOwner e.2 == n && bit 0x3F (cType e.2))).length, j]) := by
  obtain ⟨j, hf⟩ := Chip.retireCmd_serving serves.arg serves.inside serves.role serves.gap there stays
  have run : exec (.retire irq) s = .next { s with b := s.b.cmd cbMAC irq (fun c => c.retireCmd) } := by
    rw [exec_retire, execRetire, State.on_eq, Chip.wakeFor_of_awake serves.awake]
  have fetched := ((s.b.cmdAccept cbMAC irq).cacheFetch_only n).sch (by decide)
  rw [Chip.reclaimCells_count (b := s.b) fetched] at hf
  generalize (s.b.cmdAccept cbMAC irq).cacheFetch n = x at hf
  refine Runs.cmd run serves.takes (by decide) (by decide) hf fun d hd completed => ?_
  obtain ⟨node, cells, -, -⟩ := Chip.cmdFinish_leaves hd
  have set := (x.retired n).setNs_only n NS.RETIRED
  refine ⟨rfl, ?_, fun i w has type own => ?_, j, ?_⟩
  · change d.ns n = NS.RETIRED
    rw [Chip.ns, Chip.nd, node]
    exact Chip.setNs_ns _ _ _
  · change kget d.sch.cells i = some w at has
    rw [cells, set.sch (by decide)] at has
    exact absurd (Chip.kget_reclaimCells (Chip.kget_retired has) own type).1 (by decide)
  · simpa using completed

theorem Runs.clears (serves : s.Serves irq n) (ns : s.b.ns n = NS.RETIRED) :
    Runs (.nodeClear irq) s (fun t => t.mem = s.mem ∧ t.b.node n = 0 ∧ n ∉ t.b.mac.cache ∧ (∀ m, m ≠ n → t.b.node m = s.b.node m) ∧
      t.b.Completed cbMAC OK []) := by
  have run : exec (.nodeClear irq) s = .next { s with b := s.b.cmd cbMAC irq (fun c => c.clearCmd) } := by
    rw [exec_nodeClear, execNodeClear, State.on_eq, Chip.wakeFor_of_awake serves.awake]
  refine Runs.cmd run serves.takes (by decide) (by decide) (Chip.clearCmd_serving serves.arg serves.inside serves.role serves.gap ns)
    fun d hd completed => ?_
  obtain ⟨node, -, -, mac⟩ := Chip.cmdFinish_leaves hd
  rw [Chip.cacheDrop_node] at node
  have kept : (((s.b.cmdAccept cbMAC irq).cacheFetch n).freed n).node = s.b.node :=
    (Chip.node_congr (congrArg Mac.nodes ((Chip.freed_only _ n).mac (by decide)))).trans (Chip.cacheFetch_node _ _)
  refine ⟨rfl, ?_, ?_, fun m hm => ?_, completed⟩
  · change d.node n = 0
    rw [node, Chip.node_putNode_same]
  · change n ∉ d.mac.cache
    rw [mac]
    exact Chip.cacheDrop_cache _ _
  · change d.node m = s.b.node m
    rw [node, Chip.node_putNode_ne _ _ hm, kept]

end

end Sys2Proof.Machine

open Sys2Proof Sys2Proof.Machine

/-- Settles O41: a command of MAC runs on the fetched context, what it does to cells, rekeys and tables leaves the contexts, and the state is
written last. -/
theorem nodesComeAndGo : Obligations.NodesComeAndGo := by
  intro s irq n awake takes arg hn role gap
  have serves : s.Serves irq n :=
    ⟨awake, takes, (Chip.cmdAccept_arg _ _ _ _).trans arg.symm, hn, (Chip.cmdAccept_isStandby _ _).trans role, gap⟩
  refine ⟨fun c k x hc band reach wake len sample index mode queue ns pocket hx own room short =>
    Runs.admits serves hc band reach wake len sample index mode queue ns pocket hx own room short, Runs.suspends serves, fun ns => ⟨fun joined => ?_,
    fun joined => ?_⟩, Runs.retires serves, Runs.clears serves⟩
  · exact (Runs.resumes (v := 1) serves ns (if_neg (by rw [joined]; decide)).symm (Chip.setNs_ns _ _ _)).imp
      fun t ⟨mem, state, completed, _⟩ => ⟨mem, state, completed⟩
  · refine (Runs.resumes (v := 5) serves ns (if_pos joined).symm (Chip.goLost_ns _ _)).imp
      fun t ⟨mem, state, completed, cells⟩ => ⟨mem, state, completed, fun fallback i w there own => ?_⟩
    rw [cells] at there
    refine Chip.kget_goLost ?_ there own
    rw [Chip.nd, Chip.cacheFetch_node]
    exact fallback
end

section
/-!
SUPPORT. Contexts read, written and fetched: what a write of host fields keeps, and what an error of the storage ends (R295, R296, R318, R319).
-/
namespace Sys2Proof.Machine

/-! ### Fields that the host writes (R319) -/

/-- Fields written one after the other from a raw value: each has its value, where no two share a bit. -/
theorem cx_foldl_from_mem {f : CxF} {l : List CxF} (raw c : Nat) (apart : l.Pairwise CxF.Apart) (h : f ∈ l) :
    cx (l.foldl (fun a g => cxPut a g (cx raw g)) c) f = cx raw f := by
  have rest (l : List CxF) (c : Nat) (hl : ∀ g ∈ l, f.Apart g) : cx (l.foldl (fun a g => cxPut a g (cx raw g)) c) f = cx c f := by
    induction l generalizing c with
    | nil => rfl
    | cons g l ih =>
      rw [List.forall_mem_cons] at hl
      exact (ih _ hl.2).trans (cx_cxPut_apart _ _ hl.1)
  induction apart generalizing c with
  | nil => exact absurd h List.not_mem_nil
  | @cons g l first _ ih =>
    obtain rfl | h := List.mem_cons.mp h
    · refine (rest l _ first).trans ((cx_cxPut_same _ _ _).trans (Nat.mod_eq_of_lt ?_))
      exact Nat.mod_lt _ (Nat.two_pow_pos _)
    · exact ih _ h

theorem Cx.hostFields_apart : Cx.hostFields.Pairwise CxF.Apart := by decide +kernel

theorem Cx.hostFields_aside : ∀ f ∈ Cx.hostFields, f.Apart Cx.STATE ∧ Cx.STATE.Apart f ∧ f.Apart Cx.TX_MODE_BIT ∧ f.Apart Cx.TX_MCS ∧
    f.Apart Cx.DL_COUNT ∧ f.Apart Cx.RETRY_NOW := by decide +kernel

/-- A context with host fields taken from a raw value keeps its state. -/
theorem cx_hostFields_state (raw c : Nat) : cx (Cx.hostFields.foldl (fun a g => cxPut a g (cx raw g)) c) Cx.STATE = cx c Cx.STATE := by
  have all (l : List CxF) (c : Nat) (hl : ∀ g ∈ l, Cx.STATE.Apart g) : cx (l.foldl (fun a g => cxPut a g (cx raw g)) c) Cx.STATE = cx c Cx.STATE := by
    induction l generalizing c with
    | nil => rfl
    | cons g l ih =>
      rw [List.forall_mem_cons] at hl
      exact (ih _ hl.2).trans (cx_cxPut_apart _ _ hl.1)
  exact all _ _ fun g hg => (Cx.hostFields_aside g hg).2.1

section
variable {b : Chip} {n : Nat} {f : CxF}

theorem Chip.rungFix_nd (b : Chip) (n : Nat) (mode : f.Apart Cx.TX_MODE_BIT) (mcs : f.Apart Cx.TX_MCS) : (b.rungFix n).nd n f = b.nd n f := by
  unfold Chip.rungFix
  dsimp only
  split
  · rfl
  · rw [Chip.nd, Chip.node_congr (b := Chip.inc _ _) (c := b.putNode n _) rfl, Chip.node_putNode_same, cx_setRung_apart _ _ mode mcs, Chip.nd]

theorem Chip.dlChanged_nd (b : Chip) (n : Nat) (count : f.Apart Cx.DL_COUNT) (retry : f.Apart Cx.RETRY_NOW) : (b.dlChanged n).nd n f = b.nd n f := by
  have synced : (b.dlSync n).nd n f = b.nd n f := by
    unfold Chip.dlSync Chip.ndw
    split
    · rfl
    · dsimp only
      split
      · rw [Chip.nd, Chip.node_putNode_same, cx_cxPut_apart _ _ retry, Chip.node_putNode_same, cx_cxPut_apart _ _ count, Chip.nd]
      · rw [Chip.nd, Chip.node_putNode_same, cx_cxPut_apart _ _ count, Chip.nd]
  rw [← synced, Chip.nd, Chip.nd]
  exact congrArg (fun g => cx (g n) f) (Chip.node_congr (Chip.wantRun_nodes _ _))

/-! ### The commands (R318, R319) -/

/-- The node that a command names, fetched where it has a context. -/
def Chip.fetched (b : Chip) (n : Nat) : Chip := if b.ns n = NS.EMPTY then b else b.cacheFetch n

theorem Chip.fetched_mac (b : Chip) (n : Nat) : (b.fetched n).mac = { b.mac with cache := (b.fetched n).mac.cache } := by
  unfold Chip.fetched
  split
  · rfl
  · exact b.cacheFetch_mac n

theorem Chip.fetched_only (b : Chip) (n : Nat) : Chip.Only [.mac] cacheKey b (b.fetched n) := .ite (.rfl' b _ _) (b.cacheFetch_only n)

theorem Chip.fetched_node (b : Chip) (n : Nat) : (b.fetched n).node = b.node := by
  rw [Chip.fetched, apply_ite Chip.node, Chip.cacheFetch_node, ite_self]

theorem Chip.fetched_arg (b : Chip) (n : Nat) {i : Nat} (hi : i < 16) : (b.fetched n).arg cbMAC i = b.arg cbMAC i :=
  (b.fetched_only n).2 _ fun h => by
    simp only [cacheKey, Fld.key, cbARG, cbMAC, Reg.MAC_CACHE_HIT, Reg.MAC_CACHE_MISS, Reg.MAC_CACHE_USED, Reg.MAC_CACHE_PINNED] at h
    omega

theorem Chip.fetched_args (b : Chip) (n : Nat) : (b.fetched n).args cbMAC = b.args cbMAC :=
  List.map_congr_left fun _ hi => b.fetched_arg n (List.mem_range.mp hi)

theorem Chip.nodeCmd_standby (f : Chip → Nat → CmdOut) (arg : b.arg cbMAC 0 = n) (hn : n < b.pat.nodeCount) :
    b.nodeCmd cbMAC true f = f (b.fetched n) n := by
  rw [Chip.nodeCmd, arg, if_neg (Nat.not_le.mpr hn), if_neg (by simp), Chip.fetched]

/-- READ_CTX of quarter 0 latches the context and answers its first words (R318). -/
theorem Chip.macReadCtx_latches {w : Nat} (arg : b.arg cbMAC 0 = n) (hn : n < b.pat.nodeCount) (quarter : b.arg cbMAC 1 = 0)
    (hw : w = if b.ns n = NS.EMPTY then 0 else b.node n) :
    b.macReadCtx = Chip.done { b.fetched n with mac := { (b.fetched n).mac with latch := w } } ((List.range 16).map (fun i => bits w (32 * i) 32)) := by
  have state : (b.fetched n).ns n = b.ns n := by rw [Chip.ns, Chip.nd, b.fetched_node, Chip.ns, Chip.nd]
  have word : (if (b.fetched n).ns n = NS.EMPTY then 0 else (b.fetched n).node n) = w := by rw [state, b.fetched_node, hw]
  rw [Chip.macReadCtx, Chip.nodeCmd_standby _ arg hn, b.fetched_arg n (by decide), quarter, if_neg (by decide), if_pos rfl, word]
  simp only [Nat.mul_zero, Nat.zero_add]

/-- A later quarter answers words of the latch. -/
theorem Chip.macReadCtx_reads {k : Nat} (arg : b.arg cbMAC 0 = n) (hn : n < b.pat.nodeCount) (quarter : b.arg cbMAC 1 = k) (lo : 1 ≤ k) (hi : k ≤ 3) :
    b.macReadCtx = (b.fetched n).done ((List.range 16).map (fun i => bits b.mac.latch (512 * k + 32 * i) 32)) := by
  rw [Chip.macReadCtx, Chip.nodeCmd_standby _ arg hn, b.fetched_arg n (by decide), quarter, if_neg (Nat.not_lt.mpr hi),
    if_neg (Nat.pos_iff_ne_zero.mp lo)]
  dsimp only
  rw [b.fetched_mac n]

theorem Chip.fetched_parts (b : Chip) (n : Nat) : ∃ regs cache, b.fetched n = { b with regs := regs, mac := { b.mac with cache := cache } } := by
  refine ⟨(b.fetched n).regs, (b.fetched n).mac.cache, ?_⟩
  rw [← b.fetched_mac n]
  exact (b.fetched_only n).1

theorem Chip.fetched_writeOk (b : Chip) (n m lo hi c : Nat) : (b.fetched n).writeOk m lo hi c = b.writeOk m lo hi c := by
  obtain ⟨regs, cache, e⟩ := b.fetched_parts n
  rw [e]
  rfl

theorem Chip.fetched_writeOver (b : Chip) (n lo hi c : Nat) : (b.fetched n).writeOver lo hi c = b.writeOver lo hi c := by
  obtain ⟨regs, cache, e⟩ := b.fetched_parts n
  rw [e]
  rfl

/-- A node whose host fields were written: the ladder and the downlink list are judged anew (R315, R319). -/
def Chip.rewritten (b : Chip) (n c : Nat) : Chip :=
  let b1 := (b.putNode n c).cacheCount
  let b2 := if cx c Cx.MODE_MASK ≠ cx (b.node n) Cx.MODE_MASK ∨ cx c Cx.MCS_MIN ≠ cx (b.node n) Cx.MCS_MIN ∨ cx c Cx.MCS_MAX ≠ cx (b.node n) Cx.MCS_MAX
    then b1.rungFix n else b1
  b2.dlChanged n

theorem Chip.rewritten_nd {c : Nat} (mode : f.Apart Cx.TX_MODE_BIT) (mcs : f.Apart Cx.TX_MCS) (count : f.Apart Cx.DL_COUNT)
    (retry : f.Apart Cx.RETRY_NOW) : (b.rewritten n c).nd n f = cx c f := by
  have put : (b.putNode n c).cacheCount.nd n f = cx c f := by
    rw [Chip.nd, Chip.node_congr (b := Chip.cacheCount _) (c := b.putNode n c) rfl, Chip.node_putNode_same]
  unfold Chip.rewritten
  dsimp only
  rw [Chip.dlChanged_nd _ n count retry]
  split
  · rw [Chip.rungFix_nd _ n mode mcs, put]
  · exact put

theorem Chip.writeCtx_writes {k cnt raw c : Nat} (arg : b.arg cbMAC 0 = n) (hn : n < b.pat.nodeCount) (first : b.arg cbMAC 1 = k)
    (words : b.arg cbMAC 2 = cnt) (aligned : k % 4 = 0) (lo : 1 ≤ cnt) (hi : cnt ≤ 13) (inside : k + 4 * cnt ≤ 256) (role : b.isStandby = false)
    (gap : b.gap = false) (there : b.ns n ≠ NS.EMPTY) (stays : b.ns n ≠ NS.RETIRED)
    (hraw : raw = putBits (b.node n) (8 * k) (32 * cnt) (leNat (ofWords (((b.args cbMAC).drop 3).take cnt))))
    (hc : c = Cx.hostFields.foldl (fun a f => cxPut a f (cx raw f)) (b.node n)) (over_ : b.writeOver (8 * k) (8 * k + 32 * cnt) c = false)
    (ok : b.writeOk n (8 * k) (8 * k + 32 * cnt) c = true) : b.writeCtx = ((b.fetched n).rewritten n c).done [cnt] := by
  have standby : (b.fetched n).isStandby = false := by
    rw [← role]
    exact congrArg (· == 2) ((b.fetched_only n).2 Reg.SEA_ROLE (fun h => absurd (cacheKey_mac h) (by decide)))
  have slot : (b.fetched n).inGap = false := ((b.fetched_only n).gap (by decide)).trans gap
  have state : (b.fetched n).ns n = b.ns n := by rw [Chip.ns, Chip.nd, b.fetched_node, Chip.ns, Chip.nd]
  rw [Chip.writeCtx, Chip.nodeCmd_standby _ arg hn]
  dsimp only
  rw [b.fetched_arg n (by decide), b.fetched_arg n (by decide), b.fetched_args n, first, words, if_neg (not_not.mpr aligned), if_neg (by omega),
    if_neg (by simp [standby, slot, state, there, stays]), b.fetched_node, ← hraw, ← hc, b.fetched_writeOver, b.fetched_writeOk, over_, ok, if_neg (by decide),
    if_neg (by decide)]
  unfold Chip.rewritten
  rw [b.fetched_node]

/-- FIND of an address that resolves. -/
theorem Chip.findCmd_found {key i e : Nat} {x : Chip} (kind : b.arg cbMAC 0 ≤ 1) (hkey : key = if b.arg cbMAC 0 = 0 then
      1 + 256 * rev8 (b.arg cbMAC 1 + b.arg cbMAC 2 * 2 ^ 32) else 2 + 256 * bits (b.arg cbMAC 1) 0 16)
    (hx : x = b.touch 0 key) (found : x.findEnt 0 key = some (i, e)) (there : x.ns (eNode 0 e) ≠ NS.EMPTY) :
    b.findCmd = x.done [eNode 0 e, x.ns (eNode 0 e)] := by
  rw [Chip.findCmd]
  dsimp only
  rw [← hkey, ← hx, if_neg (Nat.not_lt.mpr kind), found]
  exact if_neg there

theorem Chip.findCmd_unknown {key : Nat} {x : Chip} (kind : b.arg cbMAC 0 ≤ 1) (hkey : key = if b.arg cbMAC 0 = 0 then
      1 + 256 * rev8 (b.arg cbMAC 1 + b.arg cbMAC 2 * 2 ^ 32) else 2 + 256 * bits (b.arg cbMAC 1) 0 16)
    (hx : x = b.touch 0 key) (unknown : x.findEnt 0 key = none) : b.findCmd = x.fail NOT_FOUND := by
  rw [Chip.findCmd]
  dsimp only
  rw [← hkey, ← hx, if_neg (Nat.not_lt.mpr kind), unknown]

/-! ### The context fetch (R295, R296) -/

theorem Chip.fetch_nothing {ecc : Bool} {rec : Option Nat} (h : b.pat.nodeCount ≤ n ∨ b.ns n = NS.EMPTY ∨ b.working = false) : b.fetch n ecc rec = b :=
  if_pos (h.imp id (Or.imp id (by simp [·])))

/-- The receiver with the reception that a fetch is for holding the node (R295). -/
def Rx.holds (x : Rx) (n : Nat) (rec : Option Nat) : Rx := match rec with
  | some k => { x with ctxs := kmod x.ctxs k (fun (x : Ctx) => { x with node := some n }) }
  | none => x

/-- The block with the node's context fetched, its storage at fault or not. -/
def Chip.fetchedOr (b : Chip) (n : Nat) (ecc : Bool) : Chip := if ecc && !b.mac.cache.contains n then (b.cacheFetch n).ctxLost n else b.cacheFetch n

theorem Chip.fetch_working {ecc : Bool} {rec : Option Nat} (hn : n < b.pat.nodeCount) (there : b.ns n ≠ NS.EMPTY) (working : b.working = true) :
    b.fetch n ecc rec = { b.fetchedOr n ecc with rx := (b.fetchedOr n ecc).rx.holds n rec } := by
  rw [Chip.fetch, if_neg (by simp [hn, there, working])]
  cases rec <;> rfl

theorem Chip.cacheFetch_hit (h : n ∈ b.mac.cache) :
    n ∈ (b.cacheFetch n).mac.cache ∧ (b.cacheFetch n).r Reg.MAC_CACHE_HIT = satAdd 32 (b.r Reg.MAC_CACHE_HIT) 1 ∧
      Chip.Only [.mac] (among [Reg.MAC_CACHE_HIT]) b (b.cacheFetch n) := by
  rw [Chip.cacheFetch, if_pos (List.contains_iff_mem.mpr h)]
  exact ⟨List.mem_cons_self, Chip.r_inc_same _ _, ((Chip.Only.rfl' b _ _).putMac (by decide) _).inc _ (among_mem (by decide))⟩

theorem Chip.cacheFetch_miss (h : n ∉ b.mac.cache) :
    (b.mac.cache.length < b.pat.ctxCache ∨ (b.mac.cache.reverse.find? b.evictable).isSome = true → n ∈ (b.cacheFetch n).mac.cache) ∧
      (b.cacheFetch n).r Reg.MAC_CACHE_MISS = satAdd 32 (b.r Reg.MAC_CACHE_MISS) 1 ∧
      Chip.Only [.mac] (among [Reg.MAC_CACHE_MISS, Reg.MAC_CACHE_USED, Reg.MAC_CACHE_PINNED]) b (b.cacheFetch n) := by
  rw [Chip.cacheFetch, if_neg (by simpa using h)]
  refine ⟨fun room => ?_, ?_, ?_⟩
  · change n ∈ (if b.mac.cache.length < b.pat.ctxCache then n :: b.mac.cache else _)
    split
    · exact List.mem_cons_self
    · rename_i full
      obtain ⟨v, hv⟩ := Option.isSome_iff_exists.mp (room.resolve_left full)
      rw [hv]
      exact List.mem_cons_self
  · refine (Chip.r_w_ne _ _ _ _ (by decide)).trans ((Chip.r_w_ne _ _ _ _ (by decide)).trans ?_)
    exact Chip.r_inc_same _ _
  · exact ((((Chip.Only.rfl' b _ _).putMac (by decide) _).inc _ (among_mem (by decide))).w _ _ (among_mem (by decide))).w _ _ (among_mem (by decide))

theorem Chip.removeOwn_only (b : Chip) (ktype key n : Nat) : Chip.Only [.fwd, .ntc, .out] butEcc b (b.removeOwn ktype key n) := by
  have low {k : Nat} (h : fwdKey k) : butEcc k := fun e => absurd (e ▸ h) (by decide)
  have touched := (b.touch_only 0 (ktype + 256 * key)).mono (qs := [.fwd, .ntc, .out]) (ss := butEcc) (by decide) fun _ => low
  have removed (c : Chip) (i : Nat) : Chip.Only [.fwd, .ntc, .out] butEcc c (c.removeEnt 0 i) :=
    ((Chip.putEnt_only _ _ _ _).none_butEcc (by decide)).trans ((Chip.fwdCounts_only _ _).mono (by decide) fun _ => low)
  unfold Chip.removeOwn
  dsimp only
  split
  · exact .ite (touched.trans (removed _ _)) touched
  · exact touched

/-- An error of the storage empties the context, uncaches the node and is counted (R296). -/
theorem Chip.ctxLost_shows (b : Chip) (n : Nat) :
    (b.ctxLost n).node n = 0 ∧ n ∉ (b.ctxLost n).mac.cache ∧ (b.ctxLost n).r Reg.MAC_CTX_ECC = satAdd 32 (b.r Reg.MAC_CTX_ECC) 1 := by
  let b1 := (b.removeOwn 1 (b.nd n Cx.EUI64) n).removeOwn 2 (b.nd n Cx.SHORT_ADDR) n
  let b2 := ((((b1.nodeQuiet n).1.dropKeys n).setNs n NS.EMPTY).putNode n 0).cacheDrop n
  have lost : b.ctxLost n = (b2.inc Reg.MAC_CTX_ECC).noteFirst N.CTX_ECC n 1 := rfl
  have noted := (b2.inc Reg.MAC_CTX_ECC).noteFirst_only N.CTX_ECC n 1
  rw [lost]
  refine ⟨?_, ?_, ?_⟩
  · rw [Chip.node_congr (Chip.noteFirst_nodes _ _ _ _)]
    exact Chip.node_putNode_same ((((b1.nodeQuiet n).1.dropKeys n).setNs n NS.EMPTY)) n 0
  · have cache : ((b2.inc Reg.MAC_CTX_ECC).noteFirst N.CTX_ECC n 1).mac.cache = b2.mac.cache := by
      unfold Chip.noteFirst
      dsimp only
      split <;> rfl
    rw [cache]
    exact Chip.cacheDrop_cache _ _
  · have all : Chip.Only [.fwd, .ntc, .out, .queues, .mac, .sch, .key, .acc] butEcc b b2 := by
      refine Chip.Only.trans (c := (b1.nodeQuiet n).1) ?_ ?_
      · exact (((b.removeOwn_only _ _ _).mono (by decide) fun _ => id).trans ((Chip.removeOwn_only _ _ _ _).mono (by decide) fun _ => id)).trans
          ((b1.nodeQuiet_only n).mono (by decide) fun _ => id)
      · exact ((((((b1.nodeQuiet n).1.dropKeys_only n).mono (by decide) fun _ => id).trans ((Chip.setNs_only _ n _).mono (by decide) fun _ => id)).putMac
          (by decide) _).putMac (by decide) _).w _ _ (by decide) |>.w _ _ (by decide)
    rw [noted.2 _ id, Chip.r_inc_same, all.2 Reg.MAC_CTX_ECC (by decide)]
    rfl

end

/-! ### The commands and the fetch run -/

section
variable {s : State} {irq : Bool} {n : Nat}

theorem Runs.readsCtx {k w : Nat} (awake : s.b.Awake) (takes : s.b.takes cbMAC = true) (arg : n = s.b.arg cbMAC 0) (quarter : k = s.b.arg cbMAC 1)
    (hn : n < s.b.pat.nodeCount) (hw : w = if s.b.ns n = NS.EMPTY then 0 else s.b.node n) :
    (k = 0 → Runs (.readCtx irq) s (fun t => t.mem = s.mem ∧ t.b.mac.nodes = s.b.mac.nodes ∧ t.b.mac.latch = w ∧
      t.b.Completed cbMAC OK ((List.range 16).map (fun i => bits w (32 * i) 32)))) ∧
    (1 ≤ k → k ≤ 3 → Runs (.readCtx irq) s (fun t => t.mem = s.mem ∧ t.b.mac.nodes = s.b.mac.nodes ∧ t.b.mac.latch = s.b.mac.latch ∧
      t.b.Completed cbMAC OK ((List.range 16).map (fun i => bits s.b.mac.latch (512 * k + 32 * i) 32)))) := by
  have run : exec (.readCtx irq) s = .next { s with b := s.b.cmd cbMAC irq (fun c => c.macReadCtx) } := by
    rw [exec_readCtx, execReadCtx, State.on_eq, Chip.wakeFor_of_awake awake]
  have arg' : (s.b.cmdAccept cbMAC irq).arg cbMAC 0 = n := (Chip.cmdAccept_arg _ _ _ _).trans arg.symm
  have quarter' : (s.b.cmdAccept cbMAC irq).arg cbMAC 1 = k := (Chip.cmdAccept_arg _ _ _ _).trans quarter.symm
  have nodes : ((s.b.cmdAccept cbMAC irq).fetched n).mac.nodes = s.b.mac.nodes := by
    rw [Chip.fetched_mac]
    rfl
  have latch : ((s.b.cmdAccept cbMAC irq).fetched n).mac.latch = s.b.mac.latch := by
    rw [Chip.fetched_mac]
    rfl
  refine ⟨fun first => ?_, fun lo hi => ?_⟩
  · refine Runs.cmd run takes (by decide) (by decide) (Chip.macReadCtx_latches arg' hn (quarter'.trans first) hw) fun d hd completed => ?_
    obtain ⟨-, -, -, left⟩ := Chip.cmdFinish_leaves hd
    refine ⟨rfl, ?_, ?_, completed⟩
    · change d.mac.nodes = s.b.mac.nodes
      rw [left]
      exact nodes
    · change d.mac.latch = w
      rw [left]
  · refine Runs.cmd run takes (by decide) (by decide) (Chip.macReadCtx_reads arg' hn quarter' lo hi) fun d hd completed => ?_
    obtain ⟨-, -, -, left⟩ := Chip.cmdFinish_leaves hd
    refine ⟨rfl, ?_, ?_, completed⟩
    · change d.mac.nodes = s.b.mac.nodes
      rw [left]
      exact nodes
    · change d.mac.latch = s.b.mac.latch
      rw [left]
      exact latch

theorem Runs.writesCtx {k cnt raw c : Nat} (awake : s.b.Awake) (takes : s.b.takes cbMAC = true) (arg : n = s.b.arg cbMAC 0) (first : k = s.b.arg cbMAC 1)
    (hn : n < s.b.pat.nodeCount) (words : cnt = s.b.arg cbMAC 2) (aligned : k % 4 = 0) (lo : 1 ≤ cnt) (hi : cnt ≤ 13) (inside : k + 4 * cnt ≤ 256)
    (role : s.b.isStandby = false) (gap : s.b.gap = false) (there : s.b.ns n ≠ NS.EMPTY) (stays : s.b.ns n ≠ NS.RETIRED)
    (hraw : raw = putBits (s.b.node n) (8 * k) (32 * cnt) (leNat (ofWords (((s.b.args cbMAC).drop 3).take cnt))))
    (hc : c = Cx.hostFields.foldl (fun a f => cxPut a f (cx raw f)) (s.b.node n)) (over_ : s.b.writeOver (8 * k) (8 * k + 32 * cnt) c = false)
    (ok : s.b.writeOk n (8 * k) (8 * k + 32 * cnt) c = true) :
    Runs (.writeCtx irq) s (fun t => t.mem = s.mem ∧ t.b.Completed cbMAC OK [cnt] ∧ t.b.ns n = s.b.ns n ∧
      ∀ f ∈ Cx.hostFields, t.b.nd n f = cx raw f) := by
  have run : exec (.writeCtx irq) s = .next { s with b := s.b.cmd cbMAC irq (fun c => c.writeCtx) } := by
    rw [exec_writeCtx, execWriteCtx, State.on_eq, Chip.wakeFor_of_awake awake]
  have argOf (i : Nat) : (s.b.cmdAccept cbMAC irq).arg cbMAC i = s.b.arg cbMAC i := Chip.cmdAccept_arg _ _ _ _
  have hf := Chip.writeCtx_writes (b := s.b.cmdAccept cbMAC irq) (raw := raw) (c := c) ((argOf 0).trans arg.symm) hn ((argOf 1).trans first.symm)
    ((argOf 2).trans words.symm) aligned lo hi inside ((Chip.cmdAccept_isStandby _ _).trans role) gap there stays
    (by rw [Chip.cmdAccept_args]; exact hraw) hc over_ ok
  refine Runs.cmd run takes (by decide) (by decide) hf fun d hd completed => ?_
  have node := (Chip.cmdFinish_leaves hd).1
  have field {f : CxF} (mode : f.Apart Cx.TX_MODE_BIT) (mcs : f.Apart Cx.TX_MCS) (count : f.Apart Cx.DL_COUNT) (retry : f.Apart Cx.RETRY_NOW) :
      d.nd n f = cx c f := by
    rw [Chip.nd, node]
    exact Chip.rewritten_nd mode mcs count retry
  refine ⟨rfl, completed, ?_, fun f hf => ?_⟩
  · change d.nd n Cx.STATE = s.b.ns n
    rw [field (by decide) (by decide) (by decide) (by decide), hc, cx_hostFields_state]
    rfl
  · obtain ⟨-, -, mode, mcs, count, retry⟩ := Cx.hostFields_aside f hf
    exact (field mode mcs count retry).trans (hc ▸ cx_foldl_from_mem raw _ Cx.hostFields_apart hf)

theorem Runs.finds {key i e : Nat} {x : Chip} (awake : s.b.Awake) (takes : s.b.takes cbMAC = true) (kind : s.b.arg cbMAC 0 ≤ 1)
    (hkey : key = if s.b.arg cbMAC 0 = 0 then 1 + 256 * rev8 (s.b.arg cbMAC 1 + s.b.arg cbMAC 2 * 2 ^ 32) else 2 + 256 * bits (s.b.arg cbMAC 1) 0 16)
    (hx : x = (s.b.cmdAccept cbMAC irq).touch 0 key) :
    (x.findEnt 0 key = some (i, e) → s.b.ns (eNode 0 e) ≠ NS.EMPTY →
      Runs (.nodeFind irq) s (fun t => t.mem = s.mem ∧ Chip.OnlyBlock x t.b cbMAC ∧ t.b.Completed cbMAC OK [eNode 0 e, s.b.ns (eNode 0 e)])) ∧
    (x.findEnt 0 key = none →
      Runs (.nodeFind irq) s (fun t => t.mem = s.mem ∧ Chip.OnlyBlock x t.b cbMAC ∧ t.b.Completed cbMAC NOT_FOUND [])) := by
  have run : exec (.nodeFind irq) s = .next { s with b := s.b.cmd cbMAC irq (fun c => c.findCmd) } := by
    rw [exec_nodeFind, execNodeFind, State.on_eq, Chip.wakeFor_of_awake awake]
  have argOf (i : Nat) : (s.b.cmdAccept cbMAC irq).arg cbMAC i = s.b.arg cbMAC i := Chip.cmdAccept_arg _ _ _ _
  have state (m : Nat) : x.ns m = s.b.ns m := by
    rw [hx, Chip.ns, Chip.nd, Chip.node_congr (congrArg Mac.nodes ((Chip.touch_only _ 0 key).mac (by decide)))]
    rfl
  simp only [← argOf] at kind hkey
  refine ⟨fun found there => ?_, fun unknown => ?_⟩
  · rw [← state]
    exact Runs.cmd run takes (by decide) (by decide) (Chip.findCmd_found kind hkey hx found (by rw [state]; exact there))
      fun d hd completed => ⟨rfl, hd ▸ (x.cmdFinish_only cbMAC OK _).onlyBlock, completed⟩
  · exact Runs.cmd run takes (by decide) (by decide) (Chip.findCmd_unknown kind hkey hx unknown)
      fun d hd completed => ⟨rfl, hd ▸ (x.cmdFinish_only cbMAC NOT_FOUND _).onlyBlock, completed⟩

theorem exec_contextFetch_eq (s : State) (n : Nat) (ecc : Bool) (rec : Option Nat) :
    exec (.contextFetch n ⟨ecc, rec⟩) s = .next { s with b := s.b.fetch n ecc rec } := by
  rw [exec_contextFetch, execContextFetch, State.on_eq]

/-- What fetching a node changes, with the reception that holds it. -/
theorem Chip.fetch_onlyRegs {b : Chip} {n : Nat} {rec : Option Nat} {l : List Fld} (only : Chip.Only [.mac] (among l) b (b.cacheFetch n)) :
    Chip.OnlyRegs { b with mac := { b.mac with cache := (b.cacheFetch n).mac.cache }, rx := b.rx.holds n rec }
      { b.cacheFetch n with rx := (b.cacheFetch n).rx.holds n rec } l := by
  have rx : (b.cacheFetch n).rx = b.rx := only.rx (by decide)
  have held : Chip.Only [.mac, .rx] (among l) b { b.cacheFetch n with rx := (b.cacheFetch n).rx.holds n rec } :=
    (only.mono (by decide) fun _ => id).putRx (by decide) _
  refine held.regs ?_ fun _ => rfl
  rw [rx, ← b.cacheFetch_mac n]
  rfl

end

end Sys2Proof.Machine

open Sys2Proof Sys2Proof.Machine

/-- Settles O43: commands of MAC run on the fetched context; a write of host fields leaves the state, which shares no bit with them, and the rung and
counts judged anew share none with the host's fields. -/
theorem nodeContextsAreReadAndWritten : Obligations.NodeContextsAreReadAndWritten := by
  intro s
  refine ⟨fun irq n k w awake takes arg quarter hn hw => ?_, fun irq key i e x awake takes kind hkey hx => Runs.finds awake takes kind hkey hx,
    fun n ecc rec h => ?_, fun n rec rx hn there working hrx => ?_⟩
  · obtain ⟨latches, reads⟩ := Runs.readsCtx awake takes arg quarter hn hw
    exact ⟨latches, reads, fun cnt raw c words aligned lo hi inside role gap there stays hraw hc over_ ok =>
      Runs.writesCtx awake takes arg quarter hn words aligned lo hi inside role gap there stays hraw hc over_ ok⟩
  · rw [exec_contextFetch_eq, Chip.fetch_nothing h]
  · have holds : rx = s.b.rx.holds n rec := by
      rw [hrx]
      cases rec <;> rfl
    have fetched {ecc : Bool} {c : Chip} (hc : s.b.fetchedOr n ecc = c) : exec (.contextFetch n ⟨ecc, rec⟩) s = .next { s with b :=
        { c with rx := c.rx.holds n rec } } := by
      rw [exec_contextFetch_eq, Chip.fetch_working hn there working, hc]
    rw [holds]
    refine ⟨fun ecc hit => ?_, fun miss => ?_, fun miss => ?_⟩
    · obtain ⟨cached, counted, only⟩ := Chip.cacheFetch_hit hit
      have kept : s.b.fetchedOr n ecc = s.b.cacheFetch n := by simp [Chip.fetchedOr, hit]
      refine ⟨_, fetched kept, rfl, cached, counted, Chip.fetch_onlyRegs only⟩
    · obtain ⟨cached, counted, only⟩ := Chip.cacheFetch_miss miss
      have kept : s.b.fetchedOr n false = s.b.cacheFetch n := rfl
      refine ⟨_, fetched kept, rfl, cached, counted, Chip.fetch_onlyRegs only⟩
    · obtain ⟨node, cache, counted⟩ := (s.b.cacheFetch n).ctxLost_shows n
      have lost : s.b.fetchedOr n true = (s.b.cacheFetch n).ctxLost n := by simp [Chip.fetchedOr, miss]
      refine ⟨_, fetched lost, rfl, node, cache, counted.trans ?_⟩
      rw [(s.b.cacheFetch_only n).2 _ (by simp only [cacheKey]; decide)]
end

section
/-!
SUPPORT. Sends that are tried again: what judging the rate, reserving a run and counting the downlink list leave of a context (R310, R311, R315).
-/
namespace Sys2Proof.Machine

/-! ### MAC's state but for contexts and first notices -/

/-- Of MAC's state only contexts and what notices are about may have changed. -/
def Chip.Contexts (b c : Chip) : Prop := c.mac = { b.mac with nodes := c.mac.nodes, first := c.mac.first }

section
variable {b c d : Chip}

theorem Chip.Contexts.trans (h1 : Chip.Contexts b c) (h2 : Chip.Contexts c d) : Chip.Contexts b d := by
  unfold Chip.Contexts at *
  rw [h1] at h2
  exact h2

theorem Chip.Contexts.of_mac (h : c.mac = b.mac) : Chip.Contexts b c := by
  unfold Chip.Contexts
  rw [h]

theorem Chip.Contexts.ndw (b : Chip) (n : Nat) (f : CxF) (v : Nat) : Chip.Contexts b (b.ndw n f v) := rfl

theorem Chip.Contexts.ndAdd (b : Chip) (n : Nat) (f : CxF) (k : Nat) : Chip.Contexts b (b.ndAdd n f k) := .ndw b n f _

theorem Chip.Contexts.waits (h : Chip.Contexts b c) : c.mac.waits = b.mac.waits := by rw [h]

theorem Chip.Contexts.noteFirst (b : Chip) (code first n : Nat) : Chip.Contexts b (b.noteFirst code first n) := by
  unfold Chip.Contexts Chip.noteFirst
  dsimp only
  split <;> rfl

theorem Chip.Contexts.wantRun (b : Chip) (n : Nat) : Chip.Contexts b (b.wantRun n) := by
  unfold Chip.wantRun
  split
  · exact .of_mac rfl
  · split
    · unfold Chip.runReserve
      split
      · exact .of_mac ((Chip.placeAll_only _ _ _ _).mac (by decide))
      · exact Chip.Contexts.noteFirst (b.inc _) _ _ _
    · exact .of_mac rfl

theorem Chip.Contexts.dlChanged (b : Chip) (n : Nat) : Chip.Contexts b (b.dlChanged n) := by
  refine Chip.Contexts.trans (c := b.dlSync n) ?_ (.wantRun _ n)
  unfold Chip.dlSync
  split
  · exact .of_mac rfl
  · dsimp only
    split
    · exact (Chip.Contexts.ndw _ _ _ _).trans (.ndw _ _ _ _)
    · exact .ndw _ _ _ _

theorem Chip.Contexts.rekeyDrop (b : Chip) (n : Nat) : Chip.Contexts b (b.rekeyDrop n) := by
  unfold Chip.rekeyDrop
  split
  · exact .of_mac rfl
  · exact Chip.Contexts.noteFirst _ _ _ _

end

/-! ### Judging the rate (R315) -/

section
variable {b : Chip} {n : Nat} {f : CxF}

theorem Chip.nd_ndw_same (b : Chip) (n : Nat) (f : CxF) (v : Nat) : (b.ndw n f v).nd n f = v % 2 ^ f.w := by
  rw [Chip.nd, Chip.ndw, Chip.node_putNode_same, cx_cxPut_same]

theorem Chip.nd_ndw_apart {g : CxF} (b : Chip) (n v : Nat) (h : f.Apart g) : (b.ndw n g v).nd n f = b.nd n f := by
  rw [Chip.nd, Chip.ndw, Chip.node_putNode_same, cx_cxPut_apart _ _ h, Chip.nd]

theorem Chip.nd_ndAdd_same {w : Nat} (b : Chip) (n k : Nat) (hw : f.w = w) : (b.ndAdd n f k).nd n f = satAdd w (b.nd n f) k :=
  hw ▸ (b.nd_ndw_same n f _).trans (satAdd_mod _ _ _)

theorem Chip.nd_ndAdd_apart {g : CxF} (b : Chip) (n k : Nat) (h : f.Apart g) : (b.ndAdd n g k).nd n f = b.nd n f := b.nd_ndw_apart n _ h

theorem Chip.nd_congr {b c : Chip} (h : c.mac.nodes = b.mac.nodes) (n : Nat) (f : CxF) : c.nd n f = b.nd n f := by
  rw [Chip.nd, Chip.node_congr h, Chip.nd]

/-- Judging the rate writes the rung, and the runs that lead to it. -/
def Cx.rateFields : List CxF := [Cx.TX_MODE_BIT, Cx.TX_MCS, Cx.UP_RUN, Cx.DOWN_RUN]

/-- What a step of the rate leaves: the fields but for the rung and the runs, MAC's state but for contexts, all registers but the counts of steps. -/
structure Chip.Rated (b c : Chip) (n : Nat) : Prop where
  fields : ∀ f : CxF, (∀ g ∈ Cx.rateFields, f.Apart g) → c.nd n f = b.nd n f
  contexts : Chip.Contexts b c
  only : Chip.Only [.mac] (offs 0x100240 0x10024C) b c

theorem Chip.Rated.trans {b c d : Chip} (h1 : Chip.Rated b c n) (h2 : Chip.Rated c d n) : Chip.Rated b d n :=
  ⟨fun f hf => (h2.fields f hf).trans (h1.fields f hf), h1.contexts.trans h2.contexts, h1.only.trans h2.only⟩

theorem Chip.Rated.put (b : Chip) (n c : Nat) (f : Fld) (same : ∀ f : CxF, (∀ g ∈ Cx.rateFields, f.Apart g) → cx c f = cx (b.node n) f)
    (key : offs 0x100240 0x10024C f.key) : Chip.Rated b ((b.putNode n c).inc f) n := by
  refine ⟨fun g hg => ?_, rfl, ((Chip.Only.rfl' b _ _).putMac (by decide) _).inc _ key⟩
  refine (Chip.nd_congr (b := b.putNode n c) rfl n g).trans ?_
  rw [Chip.nd, Chip.node_putNode_same, same g hg, Chip.nd]

theorem Chip.Rated.rfl' (b : Chip) (n : Nat) : Chip.Rated b b n := ⟨fun _ _ => rfl, rfl, .rfl' b _ _⟩

theorem cx_setRung_run {g : CxF} (c v : Nat) (r : Rung) (run : g = Cx.UP_RUN ∨ g = Cx.DOWN_RUN) (f : CxF) (hf : ∀ g ∈ Cx.rateFields, f.Apart g) :
    cx (cxPut (setRung c r) g v) f = cx c f := by
  simp only [Cx.rateFields, List.forall_mem_cons] at hf
  obtain ⟨mode, mcs, up, down, -⟩ := hf
  have apart : f.Apart g := run.elim (· ▸ up) (· ▸ down)
  rw [cx_cxPut_apart _ _ apart, cx_setRung_apart _ _ mode mcs]

theorem cx_run {g : CxF} (c v : Nat) (run : g = Cx.UP_RUN ∨ g = Cx.DOWN_RUN) (f : CxF) (hf : ∀ g ∈ Cx.rateFields, f.Apart g) :
    cx (cxPut c g v) f = cx c f := by
  simp only [Cx.rateFields, List.forall_mem_cons] at hf
  obtain ⟨-, -, up, down, -⟩ := hf
  exact cx_cxPut_apart _ _ (run.elim (· ▸ up) (· ▸ down))

theorem Chip.Rated.up (b : Chip) (n : Nat) (l : List Rung) (i : Nat) : Chip.Rated b (b.rungUp n l i) n := by
  unfold Chip.rungUp
  dsimp only
  split
  · split
    · exact .put b n _ _ (cx_setRung_run _ _ _ (.inl rfl)) (by decide)
    · exact .rfl' b n
  · split
    · exact .put b n _ _ (cx_run _ _ (.inl rfl)) (by decide)
    · exact .rfl' b n

theorem Chip.Rated.down (b : Chip) (n : Nat) (l : List Rung) (i : Nat) : Chip.Rated b (b.rungDown n l i) n := by
  unfold Chip.rungDown
  split
  · exact .rfl' b n
  · split
    · exact .put b n _ _ (cx_run _ _ (.inr rfl)) (by decide)
    · exact .put b n _ _ (cx_setRung_run _ _ _ (.inr rfl)) (by decide)

theorem Chip.Rated.adaptRate (b : Chip) (n : Nat) : Chip.Rated b (b.adaptRate n) n := by
  unfold Chip.adaptRate
  split
  · exact .rfl' b n
  · exact (Chip.Rated.up b n _ _).trans (.down _ n _ _)

/-! ### An acknowledgement that does not come (R311) -/

theorem Chip.wantRun_counts (b : Chip) (n : Nat) :
    Chip.Only [.acc, .mac, .sch] (fun k => k = Reg.SCH_CELLS_USED.key ∨ k = Reg.SCH_WAKE_RUN_FAIL.key) b (b.wantRun n) := by
  unfold Chip.wantRun
  split
  · exact .rfl' b _ _
  · split
    · unfold Chip.runReserve
      split
      · exact ((b.placeAll_only _ _ _).mono (by decide) fun _ => .inl).putSch (by decide) _
      · exact (((Chip.Only.rfl' b [.acc, .mac, .sch] _).inc Reg.SCH_WAKE_RUN_FAIL (.inr rfl)).trans
          ((Chip.noteFirst_only _ _ _ _).mono (by decide) fun _ => False.elim)).putSch (by decide) _
    · exact .rfl' b _ _

theorem Chip.dlChanged_counts (b : Chip) (n : Nat) :
    Chip.Only [.acc, .mac, .sch] (fun k => k = Reg.SCH_CELLS_USED.key ∨ k = Reg.SCH_WAKE_RUN_FAIL.key) b (b.dlChanged n) :=
  ((b.dlSync_only n).mono (by decide) fun _ => False.elim).trans (Chip.wantRun_counts _ n)

/-- Counting a node's items leaves RETRY_NOW, or clears it with nothing left in the list. -/
theorem Chip.dlChanged_retry (b : Chip) (n : Nat) : (b.dlChanged n).nd n Cx.RETRY_NOW = b.nd n Cx.RETRY_NOW ∨
    ((b.dlChanged n).nd n Cx.RETRY_NOW = 0 ∧ (b.dlChanged n).nd n Cx.DL_COUNT = 0) := by
  have want (f : CxF) : (b.dlChanged n).nd n f = (b.dlSync n).nd n f := Chip.nd_congr (Chip.wantRun_nodes _ _) n f
  rw [want, want]
  unfold Chip.dlSync
  split
  · exact .inl rfl
  · dsimp only
    split
    · rename_i h
      refine .inr ⟨(Chip.nd_ndw_same _ _ _ _).trans (Nat.zero_mod _), ?_⟩
      rw [Chip.nd_ndw_apart _ _ _ (by decide), Chip.nd_ndw_same, h.1]
      exact Nat.zero_mod _
    · exact .inl (Chip.nd_ndw_apart _ _ _ (by decide))

/-- The wait for a node's acknowledgement over. -/
def Chip.unwaited (b : Chip) (n : Nat) : Chip := { b with mac := { b.mac with waits := kdel b.mac.waits n } }

theorem Chip.unwaited_nd (b : Chip) (n m : Nat) : (b.unwaited n).nd m f = b.nd m f := rfl

/-- The wait over, the miss counted and the rate judged. -/
def Chip.missed (b : Chip) (n : Nat) : Chip := ((((b.unwaited n).ndAdd n Cx.TX_NOACK 1).ndAdd n Cx.DOWN_RUN 1).ndw n Cx.UP_RUN 0).adaptRate n

theorem Chip.missed_noack (b : Chip) (n : Nat) : (b.missed n).nd n Cx.TX_NOACK = satAdd 32 (b.nd n Cx.TX_NOACK) 1 := by
  rw [Chip.missed, (Chip.Rated.adaptRate _ n).fields _ (by decide), Chip.nd_ndw_apart _ _ _ (by decide), Chip.nd_ndAdd_apart _ _ _ (by decide),
    Chip.nd_ndAdd_same _ _ _ (w := 32) (by decide), Chip.unwaited_nd]

theorem Chip.missed_nd (b : Chip) (n : Nat) (rate : ∀ g ∈ Cx.rateFields, f.Apart g) (noack : f.Apart Cx.TX_NOACK) : (b.missed n).nd n f = b.nd n f := by
  have rate' := rate
  simp only [Cx.rateFields, List.forall_mem_cons] at rate'
  obtain ⟨-, -, up, down, -⟩ := rate'
  rw [Chip.missed, (Chip.Rated.adaptRate _ n).fields _ rate, Chip.nd_ndw_apart _ _ _ up, Chip.nd_ndAdd_apart _ _ _ down,
    Chip.nd_ndAdd_apart _ _ _ noack, Chip.unwaited_nd]

theorem Chip.missed_contexts (b : Chip) (n : Nat) : Chip.Contexts (b.unwaited n) (b.missed n) :=
  (((Chip.Contexts.ndAdd _ _ _ _).trans (.ndAdd _ _ _ _)).trans (.ndw _ _ _ _)).trans (Chip.Rated.adaptRate _ n).contexts

theorem Chip.missed_waits (b : Chip) (n : Nat) : kget (b.missed n).mac.waits n = none := by
  rw [(b.missed_contexts n).waits]
  exact kget_kdel_same _ _

theorem Chip.missed_only (b : Chip) (n : Nat) : Chip.Only [.mac] (offs 0x100240 0x10024C) b (b.missed n) := by
  have put (c : Chip) (f : CxF) (v : Nat) : Chip.Only [.mac] (offs 0x100240 0x10024C) c (c.ndw n f v) := (Chip.ndw_only _ _ _ _).mono (by decide) fun _ => False.elim
  have over_ : Chip.Only [.mac] (offs 0x100240 0x10024C) b (b.unwaited n) := (Chip.Only.rfl' b _ _).putMac (by decide) _
  exact (((over_.trans (put _ _ _)).trans (put _ _ _)).trans (put _ _ _)).trans (Chip.Rated.adaptRate _ n).only

theorem Chip.ackTimeout_none (h : kget b.mac.waits n = none) : b.ackTimeout n = b := by
  unfold Chip.ackTimeout
  rw [h]

theorem Chip.ackTimeout_gone {w : AckWait} (h : kget b.mac.waits n = some w) (gone : b.ns n = NS.EMPTY) :
    b.ackTimeout n = Chip.releaseItem { b with mac := { b.mac with waits := kdel b.mac.waits n } } w.q w.item := by
  unfold Chip.ackTimeout
  rw [h]
  exact if_pos gone

theorem Chip.ackTimeout_again {w : AckWait} (h : kget b.mac.waits n = some w) (there : b.ns n ≠ NS.EMPTY)
    (more : b.nd n Cx.RETRY_NOW < b.nd n Cx.MAX_RETRIES) :
    b.ackTimeout n = (((b.missed n).ndAdd n Cx.RETRY_NOW 1).returnItem w.q w.item).dlChanged n := by
  unfold Chip.ackTimeout
  rw [h]
  refine (if_neg there).trans (if_neg ?_)
  change ¬ (b.missed n).nd n _ ≤ (b.missed n).nd n _
  rw [b.missed_nd n (by decide) (by decide), b.missed_nd n (by decide) (by decide)]
  exact Nat.not_le.mpr more

/-- A frame given up and counted. -/
def Chip.dropCounted (b : Chip) (n : Nat) : Chip := (((b.missed n).ndw n Cx.RETRY_NOW 0).ndAdd n Cx.TX_DROPPED 1).inc Reg.MAC_DROP_RETRY

/-- The notice of a frame given up. -/
def Chip.dropNoted (b : Chip) (n : Nat) : Chip := (b.dropCounted n).noteFirst N.RETRY_EXHAUSTED n 1

/-- A frame given up, before its item is released. -/
def Chip.givenUp (b : Chip) (n item : Nat) : Chip :=
  if (kget (b.dropNoted n).key.rekeys n).any (fun (r : Rekey) => r.item == item) then (b.dropNoted n).rekeyDrop n else b.dropNoted n

theorem Chip.ackTimeout_last {w : AckWait} (h : kget b.mac.waits n = some w) (there : b.ns n ≠ NS.EMPTY)
    (spent : b.nd n Cx.MAX_RETRIES ≤ b.nd n Cx.RETRY_NOW) : b.ackTimeout n = ((b.givenUp n w.item).releaseItem w.q w.item).dlChanged n := by
  unfold Chip.ackTimeout
  rw [h]
  refine (if_neg there).trans (if_pos ?_)
  change (b.missed n).nd n _ ≤ (b.missed n).nd n _
  rw [b.missed_nd n (by decide) (by decide), b.missed_nd n (by decide) (by decide)]
  exact spent

theorem Chip.rekeyDrop_nodes (b : Chip) (n : Nat) : (b.rekeyDrop n).mac.nodes = b.mac.nodes := by
  unfold Chip.rekeyDrop
  split
  · rfl
  · exact Chip.noteFirst_nodes _ _ _ _

theorem Chip.rekeyDrop_retries (b : Chip) (n : Nat) : (b.rekeyDrop n).r Reg.MAC_DROP_RETRY = b.r Reg.MAC_DROP_RETRY := by
  unfold Chip.rekeyDrop
  split
  · rfl
  · exact ((Chip.noteFirst_only _ _ _ _).2 _ id).trans ((Chip.r_inc_ne _ (by decide)).trans (Chip.r_w_ne _ _ _ _ (by decide)))

theorem Chip.nd_inc (b : Chip) (g : Fld) (n : Nat) (f : CxF) : (b.inc g).nd n f = b.nd n f := rfl

theorem Chip.Contexts.inc (b : Chip) (f : Fld) : Chip.Contexts b (b.inc f) := .of_mac rfl

/-- Noting that a frame is given up, and dropping a rekey with it, leave the contexts and the count. -/
theorem Chip.givenUp_kept (b : Chip) (n item : Nat) : (b.givenUp n item).mac.nodes = (b.dropCounted n).mac.nodes ∧
    Chip.Contexts (b.dropCounted n) (b.givenUp n item) ∧ (b.givenUp n item).r Reg.MAC_DROP_RETRY = (b.dropCounted n).r Reg.MAC_DROP_RETRY := by
  have nodes : (b.dropNoted n).mac.nodes = (b.dropCounted n).mac.nodes := Chip.noteFirst_nodes _ _ _ _
  have first : Chip.Contexts (b.dropCounted n) (b.dropNoted n) := .noteFirst _ _ _ _
  have count : (b.dropNoted n).r Reg.MAC_DROP_RETRY = (b.dropCounted n).r Reg.MAC_DROP_RETRY := ((b.dropCounted n).noteFirst_only _ _ _).2 _ id
  rw [Chip.givenUp]
  split
  · exact ⟨(Chip.rekeyDrop_nodes _ n).trans nodes, first.trans (.rekeyDrop _ n), (Chip.rekeyDrop_retries _ n).trans count⟩
  · exact ⟨nodes, first, count⟩

theorem Chip.givenUp_shows (b : Chip) (n item : Nat) : (b.givenUp n item).nd n Cx.RETRY_NOW = 0 ∧
    (b.givenUp n item).nd n Cx.TX_NOACK = satAdd 32 (b.nd n Cx.TX_NOACK) 1 ∧ (b.givenUp n item).nd n Cx.TX_DROPPED = satAdd 16 (b.nd n Cx.TX_DROPPED) 1 ∧
    (b.givenUp n item).r Reg.MAC_DROP_RETRY = satAdd 32 (b.r Reg.MAC_DROP_RETRY) 1 ∧ kget (b.givenUp n item).mac.waits n = none := by
  obtain ⟨nodes, contexts, count⟩ := b.givenUp_kept n item
  have field (f : CxF) : (b.givenUp n item).nd n f = (((b.missed n).ndw n Cx.RETRY_NOW 0).ndAdd n Cx.TX_DROPPED 1).nd n f := by
    rw [Chip.nd_congr nodes n f, Chip.dropCounted, Chip.nd_inc]
  refine ⟨?_, ?_, ?_, ?_, ?_⟩
  · rw [field, Chip.nd_ndAdd_apart _ _ _ (by decide), Chip.nd_ndw_same]
    exact Nat.zero_mod _
  · rw [field, Chip.nd_ndAdd_apart _ _ _ (by decide), Chip.nd_ndw_apart _ _ _ (by decide), Chip.missed_noack]
  · rw [field, Chip.nd_ndAdd_same _ _ _ (w := 16) (by decide), Chip.nd_ndw_apart _ _ _ (by decide), Chip.missed_nd _ _ (by decide) (by decide)]
  · have started : (((b.missed n).ndw n Cx.RETRY_NOW 0).ndAdd n Cx.TX_DROPPED 1).r Reg.MAC_DROP_RETRY = b.r Reg.MAC_DROP_RETRY :=
      ((Chip.ndw_only _ _ _ _).2 _ id).trans (((Chip.ndw_only _ _ _ _).2 _ id).trans ((b.missed_only n).2 _ (by unfold offs; decide)))
    rw [count, Chip.dropCounted, Chip.r_inc_same, started]
    rfl
  · rw [contexts.waits, Chip.dropCounted, (Chip.Contexts.inc _ _).waits, (Chip.Contexts.ndAdd _ _ _ _).waits, (Chip.Contexts.ndw _ _ _ _).waits]
    exact b.missed_waits n

/-! ### A backoff that ends (R310) -/

theorem Chip.Contexts.csma {b c : Chip} (h : Chip.Contexts b c) : c.mac.csma = b.mac.csma := by rw [h]

theorem Chip.csmaPut_csma (b : Chip) (n : Nat) (y : Option Csma) : kget (b.csmaPut n y).mac.csma n = y := by
  cases y with
  | none => exact kget_kdel_same _ _
  | some y => exact kget_kput_same _ _ _

theorem Chip.csmaPut_only (b : Chip) (n : Nat) (y : Option Csma) : (b.csmaPut n y).regs = b.regs ∧ (b.csmaPut n y).tx = b.tx := by
  cases y <;> exact ⟨rfl, rfl⟩

section
variable {x : Csma} {draw : Nat} {level : Int}

theorem Chip.csmaExpiry_none (h : kget b.mac.csma n = none) : b.csmaExpiry n draw level = b := by
  unfold Chip.csmaExpiry
  rw [h]

theorem Chip.csmaExpiry_over (h : kget b.mac.csma n = some x) (far : 2 ^ x.be ≤ draw) : b.csmaExpiry n draw level = b := by
  unfold Chip.csmaExpiry
  rw [h]
  exact if_pos far

theorem Chip.csmaExpiry_ends (h : kget b.mac.csma n = some x) (near : draw < 2 ^ x.be)
    (nothing : b.headItem n = none ∨ b.mayFollow n = false ∨ (kget b.mac.waits n).isSome = true) : b.csmaExpiry n draw level = b.csmaPut n none := by
  unfold Chip.csmaExpiry
  rw [h]
  dsimp only
  rw [if_neg (Nat.not_le.mpr near)]
  split
  · rfl
  · rename_i i head
    obtain e | barred | waits := nothing
    · rw [head] at e
      cases e
    · exact if_pos (by simp [barred])
    · exact if_pos (by simp [waits])

/-- At the end of a backoff, with a frame that may go, the channel is judged. -/
theorem Chip.csmaExpiry_judges {i : Item} {m take : Nat} {f hd : TxF} {ph : Nat} (h : kget b.mac.csma n = some x) (near : draw < 2 ^ x.be)
    (head : b.headItem n = some i) (may : b.mayFollow n = true) (waits : kget b.mac.waits n = none) (hm : m = b.nd n Cx.TX_MODE_BIT)
    (htake : take = x.from_ + draw * b.backoffNs (laneBand x.lane) m + ccaNs (laneBand x.lane) m)
    (hf : f = { src := .follow, lane := x.lane, chan := x.chan, kind := 5, node := n, t := take + 160000, fcs2 := fcs2At (laneBand x.lane) })
    (hhd : hd = b.headOf (b.inRung f n) i.psdu (b.sealKindOf n i.psdu)) (hph : ph = b.phaseAt (laneGroup x.lane) f.t) :
    b.csmaExpiry n draw level = if b.chanBusy x.lane x.chan level then b.csmaBusy n x take
      else if (ph = 1 ∨ ph = 3) ∧ hd.endNs ≤ b.lastEnd f then ((b.csmaPut n none).txNew f).1
      else b.csmaPut n ((b.sharedSlot hd (b.slotAt f.t) b.sfSlots).map (fun s =>
        { x with nb := 0, be := b.r Reg.MAC_MIN_BE, from_ := s * b.slotNs })) := by
  subst hm htake hf hhd hph
  unfold Chip.csmaExpiry
  rw [h]
  dsimp only
  rw [if_neg (Nat.not_le.mpr near), head]
  exact if_neg (by simp [may, waits])

end

end

end Sys2Proof.Machine

open Sys2Proof Sys2Proof.Machine

/-- Settles O44: the fields that a miss writes share no bit with those that judging the rate and counting the list write. -/
theorem sendsAreTriedAgain : Obligations.SendsAreTriedAgain := by
  intro s n
  have missRuns (x : Chip) (h : s.b.ackTimeout n = x) : exec (.ackWaitTimeout n) s = .next { s with b := x } := by
    rw [exec_ackWaitTimeout, execAckWaitTimeout, State.on_eq, h]
  have csmaRuns (draw : Nat) (level : Int) (x : Chip) (h : s.b.csmaExpiry n draw level = x) :
      exec (.csmaBackoffExpiry n ⟨draw, level⟩) s = .next { s with b := x } := by
    rw [exec_csmaBackoffExpiry, execCsmaBackoffExpiry, State.on_eq, h]
  refine ⟨fun h => missRuns _ (Chip.ackTimeout_none h), fun draw level h => csmaRuns draw level _ (Chip.csmaExpiry_none h), fun w h gone => ?_,
    fun w h there => ⟨fun more => ?_, fun spent => ?_⟩,
    fun x draw level h => ⟨fun far => csmaRuns draw level _ (Chip.csmaExpiry_over h far), fun near => ⟨fun nothing => ?_, ?_⟩⟩⟩
  · refine ⟨_, missRuns _ (Chip.ackTimeout_gone h gone), rfl, ?_⟩
    dsimp only
    rw [(Chip.releaseItem_only _ _ _).mac (by decide)]
    exact kget_kdel_same _ _
  · refine ⟨_, missRuns _ (Chip.ackTimeout_again h there more), rfl, ?_⟩
    dsimp only
    have returned := Chip.returnItem_only ((s.b.missed n).ndAdd n Cx.RETRY_NOW 1) w.q w.item
    have mac := returned.mac (by decide)
    have nd (f : CxF) : (((s.b.missed n).ndAdd n Cx.RETRY_NOW 1).returnItem w.q w.item).nd n f = ((s.b.missed n).ndAdd n Cx.RETRY_NOW 1).nd n f :=
      Chip.nd_congr (congrArg Mac.nodes mac) n f
    refine ⟨?_, ?_, ?_⟩
    · rw [(Chip.Contexts.dlChanged _ n).waits, mac, (Chip.Contexts.ndAdd _ _ _ _).waits]
      exact s.b.missed_waits n
    · rw [Chip.dlChanged_nd _ n (by decide) (by decide), nd, Chip.nd_ndAdd_apart _ _ _ (by decide), Chip.missed_noack]
    · refine (Chip.dlChanged_retry _ n).imp (fun e => e.trans ?_) And.right
      rw [nd, Chip.nd_ndAdd_same _ _ _ (w := 4) (by decide), Chip.missed_nd _ _ (by decide) (by decide), satAdd, if_pos]
      have most : s.b.nd n Cx.MAX_RETRIES < 2 ^ 4 := Nat.mod_lt _ (by decide)
      omega
  · refine ⟨_, missRuns _ (Chip.ackTimeout_last h there spent), rfl, ?_⟩
    dsimp only
    obtain ⟨retry, noack, dropped, count, waits⟩ := s.b.givenUp_shows n w.item
    have released := (s.b.givenUp n w.item).releaseItem_only w.q w.item
    have mac := released.mac (by decide)
    have nd (f : CxF) : ((s.b.givenUp n w.item).releaseItem w.q w.item).nd n f = (s.b.givenUp n w.item).nd n f := Chip.nd_congr (congrArg Mac.nodes mac) n f
    refine ⟨?_, ?_, ?_, ?_, ?_⟩
    · rw [(Chip.Contexts.dlChanged _ n).waits, mac, waits]
    · obtain e | ⟨e, -⟩ := Chip.dlChanged_retry ((s.b.givenUp n w.item).releaseItem w.q w.item) n
      · rw [e, nd, retry]
      · exact e
    · rw [Chip.dlChanged_nd _ n (by decide) (by decide), nd, noack]
    · rw [Chip.dlChanged_nd _ n (by decide) (by decide), nd, dropped]
    · rw [(Chip.dlChanged_counts _ n).2 _ (by decide), released.2 _ (by decide), count]
  · exact ⟨_, csmaRuns draw level _ (Chip.csmaExpiry_ends h near nothing), rfl, (s.b.csmaPut_only n none).1, (s.b.csmaPut_only n none).2,
      s.b.csmaPut_csma n none⟩
  · intro i m take f hd ph head may waits hm htake hf hhd hph
    have judged := csmaRuns draw level _ (Chip.csmaExpiry_judges (level := level) h near head may waits hm htake hf hhd hph)
    refine ⟨fun busy => ?_, fun free => ?_⟩
    · rw [if_pos busy] at judged
      refine ⟨fun more => ⟨_, judged, rfl, ?_⟩, fun last => ⟨_, judged, rfl, ?_⟩⟩ <;> dsimp only
      · rw [Chip.csmaBusy, if_neg (Nat.not_lt.mpr more)]
        exact ⟨(s.b.csmaPut_only n _).1, s.b.csmaPut_csma n _⟩
      · rw [Chip.csmaBusy, if_pos last]
        refine ⟨?_, ?_⟩
        · rw [(Chip.Contexts.wantRun _ n).csma, (Chip.Contexts.inc _ _).csma]
          exact s.b.csmaPut_csma n none
        · rw [(Chip.wantRun_counts _ n).2 _ (by decide), Chip.r_inc_same]
          rfl
    · rw [if_neg (by simp [free])] at judged
      refine ⟨fun phase ends => ⟨_, judged, rfl, ?_⟩, fun not => ⟨_, judged, rfl, ?_⟩⟩ <;> dsimp only
      · rw [if_pos ⟨phase, ends⟩]
        exact ⟨rfl, s.b.csmaPut_csma n none, Chip.tf_txPut _ _ _, rfl⟩
      · rw [if_neg not]
        exact ⟨(s.b.csmaPut_only n _).1, (s.b.csmaPut_only n _).2, s.b.csmaPut_csma n _⟩
end

section
/-!
SUPPORT. The clock block: the registers of a source and of the idle bank, and what settling leaves (R103 to R108).
-/
namespace Sys2Proof.Machine

/-! ### What settling leaves -/

section
variable {b c : Chip} {ps : List Part} {l : List Fld}

/-- Settling after a change that leaves time and the pair beacon heard. -/
theorem Chip.Only.settled (h : Chip.Only ps (among l) b c) (tim : Part.tim ∉ ps) (sch : Part.sch ∉ ps) (quiet : b.Quiet) :
    Chip.Only (.sea :: .out :: ps) (among l) b c.settle ∧ (∀ f : Fld, ¬ offs 0x220000 0x230000 f.key → c.settle.r f = c.r f) ∧ c.settle.clk = c.clk := by
  have settled := Chip.settle_only (h.quiet tim sch quiet)
  exact ⟨(h.mono (fun p hp => by simp [hp]) fun _ => id).trans (settled.mono (by simp) fun _ hk => .inr (.inr hk)), settled.2,
    settled.clk (by decide)⟩

end

theorem not_among {l : List Fld} {f : Fld} (apart : ∀ g ∈ l, f.key ≠ g.key) (low : f.key < 0x50000 * 32) : ¬ among l f.key := by
  rintro (⟨g, hg, e⟩ | e | e)
  · exact apart g hg e
  · exact absurd low (Nat.not_lt.mpr e.1)
  · exact absurd low (Nat.not_lt.mpr (Nat.le_trans (by decide) e.1))

theorem among_sub {l m : List Fld} (h : ∀ f ∈ l, f ∈ m) (k : Nat) (hk : among l k) : among m k := hk.imp (fun ⟨f, hf, e⟩ => ⟨f, h f hf, e⟩) id

/-! ### A source's registers -/

section
variable {b : Chip} {src : Nat}

theorem srcFlds_apart (hs : src = 1 ∨ src = 2 ∨ src = 3) :
    (qstFld src).key ≠ (failFld src).key ∧ (∀ f ∈ Reg.CKR_AON_SRC :: Reg.CKR_MAIN_SRC :: Reg.CKR_DISAGREE :: idleFlds, (qstFld src).key ≠ f.key) ∧
      (∀ f ∈ [qstFld src, failFld src], f.key < 0x50000 * 32) := by
  rcases hs with rfl | rfl | rfl <;> decide

theorem srcFlds_width (hs : src = 1 ∨ src = 2 ∨ src = 3) : (qstFld src).w = 3 ∧ (failFld src).w = 1 := by
  rcases hs with rfl | rfl | rfl <;> decide

theorem Chip.srcFail_only (b : Chip) (src cause : Nat) : Chip.Only [.ntc, .out] (among [qstFld src, failFld src]) b (b.srcFail src cause) :=
  (((Chip.Only.rfl' b _ _).w _ _ (among_mem (by simp))).w _ _ (among_mem (by simp))).raise _ _ _ (by decide)

theorem Chip.srcFail_shows (hs : src = 1 ∨ src = 2 ∨ src = 3) (b : Chip) (cause : Nat) :
    (b.srcFail src cause).qst src = 6 ∧ (b.srcFail src cause).r (failFld src) = 1 := by
  obtain ⟨apart, -, low⟩ := srcFlds_apart hs
  obtain ⟨wq, wf⟩ := srcFlds_width hs
  refine ⟨?_, ?_⟩
  · rw [Chip.qst, Chip.srcFail, Chip.raise_r _ _ _ _ _ (.inl (low _ (by simp))), Chip.wb, Chip.r_w_ne _ _ _ _ apart.symm, Chip.r_w_same, wq]
    rfl
  · rw [Chip.srcFail, Chip.raise_r _ _ _ _ _ (.inl (low _ (by simp))), Chip.wb, Chip.r_w_same, wf]
    rfl

theorem plaFld_idle (b : Chip) : plaFld b.idleBank ∈ idleFlds ∧ pltFld b.idleBank ∈ idleFlds := by
  unfold plaFld pltFld
  split <;> simp [idleFlds]

theorem Chip.idleTo_only (b : Chip) (x : Nat) : Chip.Only [] (among idleFlds) b (b.idleTo x) := by
  obtain ⟨pla, plt⟩ := plaFld_idle b
  unfold Chip.idleTo
  split
  · exact .rfl' b _ _
  · exact (((Chip.Only.rfl' b _ _).w _ _ (among_mem (by simp [idleFlds]))).w _ _ (among_mem pla)).w _ _ (among_mem plt)

theorem Chip.relock_only (b : Chip) : Chip.Only [] (among idleFlds) b b.relock := .ite (.rfl' b _ _) (b.idleTo_only _)

/-- A source that qualifies where the main source is not the RC, or that is LF. -/
theorem Chip.srcGood_shows (hs : src = 1 ∨ src = 2 ∨ src = 3) (b : Chip) (fine : Bool) (ms : Nat) (main : src = 3 ∨ b.r Reg.CKR_MAIN_SRC ≠ 0) :
    Chip.Only [.ntc, .out] (among (qstFld src :: Reg.CKR_AON_SRC :: idleFlds)) b (b.srcGood src fine ms) ∧
      (b.srcGood src fine ms).qst src = (if fine then 4 else 5) ∧ (src = 3 → (b.srcGood src fine ms).r Reg.CKR_AON_SRC = 0) := by
  obtain ⟨-, apart, low⟩ := srcFlds_apart hs
  obtain ⟨wq, -⟩ := srcFlds_width hs
  have raised : Chip.Only [.ntc, .out] (among (qstFld src :: Reg.CKR_AON_SRC :: idleFlds)) b
      ((b.w (qstFld src) (if fine then 4 else 5)).raise Src.CKR N.SRC_QUALIFIED (argB src (b2n fine) 0 0 (b.lastCount src))) :=
    ((Chip.Only.rfl' b _ _).w _ _ (among_mem (by simp))).raise _ _ _ (by decide)
  have shown : ((b.w (qstFld src) (if fine then 4 else 5)).raise Src.CKR N.SRC_QUALIFIED (argB src (b2n fine) 0 0 (b.lastCount src))).qst src =
      if fine then 4 else 5 := by
    rw [Chip.qst, Chip.raise_r _ _ _ _ _ (.inl (low _ (by simp))), Chip.r_w_same, wq]
    cases fine <;> rfl
  have kept : ((b.w (qstFld src) (if fine then 4 else 5)).raise Src.CKR N.SRC_QUALIFIED (argB src (b2n fine) 0 0 (b.lastCount src))).r Reg.CKR_MAIN_SRC =
      b.r Reg.CKR_MAIN_SRC := by
    rw [Chip.raise_r _ _ _ _ _ (.inl (by decide)), Chip.r_w_ne _ _ _ _ (apart Reg.CKR_MAIN_SRC (by simp))]
  unfold Chip.srcGood
  dsimp only
  generalize (b.w (qstFld src) (if fine then 4 else 5)).raise Src.CKR N.SRC_QUALIFIED (argB src (b2n fine) 0 0 (b.lastCount src)) = c at raised shown kept ⊢
  split
  · refine ⟨raised.w _ _ (among_mem (by simp)), ?_, fun _ => Chip.r_w_same _ _ _⟩
    rw [Chip.qst, Chip.r_w_ne _ _ _ _ (apart Reg.CKR_AON_SRC (by simp)).symm]
    exact shown
  · rename_i other
    rw [if_neg (kept ▸ main.resolve_left other)]
    refine ⟨raised.trans (c.relock_only.mono (by simp) (among_sub fun f hf => by simp [hf])), ?_, fun h => absurd h other⟩
    exact (c.relock_only.2 _ (not_among (fun f hf => apart f (by simp [hf])) (low _ (by simp)))).trans shown

/-! ### A coarse and a fine measurement (R106, R108) -/

theorem Chip.coarseKeep_only (b : Chip) (s count : Nat) : Chip.Only [.clk] noReg b (b.coarseKeep s count) := (Chip.Only.rfl' b _ _).putClk (by decide) _

theorem Chip.fineKeep_only (b : Chip) (s count : Nat) : Chip.Only [.clk] noReg b (b.fineKeep s count) := (Chip.Only.rfl' b _ _).putClk (by decide) _

theorem Chip.coarseKeep_kept (b : Chip) (s count : Nat) : kget (b.coarseKeep s count).clk.coarse s = some (count % 2 ^ 21) := kget_kput_same _ _ _

theorem Chip.fineKeep_kept (b : Chip) (s count : Nat) : kget (b.fineKeep s count).clk.fine s = some (count % 2 ^ 21) := kget_kput_same _ _ _

theorem Chip.srcOk_congr {b c : Chip} {x : Nat} (en : c.t (enFld x) = b.t (enFld x)) (qst : c.qst x = b.qst x) : c.srcOk x = b.srcOk x := by
  rw [Chip.srcOk, en, qst, Chip.srcOk]

theorem Chip.srcOk_tcxo {b c : Chip} (en : c.t Reg.CKR_TCXO_EN = b.t Reg.CKR_TCXO_EN) (qst : c.r Reg.CKR_TCXO_QST = b.r Reg.CKR_TCXO_QST) :
    c.srcOk 2 = b.srcOk 2 := Chip.srcOk_congr en qst

section
variable {count ms : Nat} (on : b.t (enFld src) = true)

theorem Chip.coarseDone_idle (h : b.t (enFld src) = false ∨ b.qst src ≠ 2) : b.coarseDone src count ms = b := by
  rw [Chip.coarseDone, if_pos]
  obtain h | h := h <;> simp [h]

theorem Chip.fineDone_idle (h : b.t (enFld src) = false ∨ b.qst src ≠ 3) : b.fineDone src count ms = b := by
  rw [Chip.fineDone, if_pos]
  obtain h | h := h <;> simp [h]

include on

theorem Chip.coarseDone_fails (state : b.qst src = 2) (ok : b.coarseOk src count = false) :
    b.coarseDone src count ms = (b.coarseKeep src count).srcFail src 1 := by
  rw [Chip.coarseDone, if_neg (by simp [on, state])]
  exact if_pos (by rw [show (b.coarseKeep src count).coarseOk src count = b.coarseOk src count from rfl, ok]; rfl)

theorem Chip.coarseDone_fine (state : b.qst src = 2) (ok : b.coarseOk src count = true) (ref : b.fineRef src ≠ 0) (refOk : b.srcOk (b.fineRef src) = true) :
    b.coarseDone src count ms = (b.coarseKeep src count).w (qstFld src) 3 := by
  rw [Chip.coarseDone, if_neg (by simp [on, state])]
  refine (if_neg ?_).trans (if_pos ⟨ref, refOk⟩)
  rw [show (b.coarseKeep src count).coarseOk src count = b.coarseOk src count from rfl, ok]
  decide

theorem Chip.coarseDone_good (state : b.qst src = 2) (ok : b.coarseOk src count = true) (ref : ¬ (b.fineRef src ≠ 0 ∧ b.srcOk (b.fineRef src) = true)) :
    b.coarseDone src count ms = (b.coarseKeep src count).srcGood src false ms := by
  rw [Chip.coarseDone, if_neg (by simp [on, state])]
  refine (if_neg ?_).trans (if_neg ref)
  rw [show (b.coarseKeep src count).coarseOk src count = b.coarseOk src count from rfl, ok]
  decide

theorem Chip.fineDone_good (state : b.qst src = 3) (ok : fineOk src count = true) : b.fineDone src count ms = (b.fineKeep src count).srcGood src true ms := by
  rw [Chip.fineDone, if_neg (by simp [on, state])]
  exact if_pos ok

theorem Chip.fineDone_lf (state : b.qst src = 3) (ok : fineOk src count = false) (lf : src = 3) :
    b.fineDone src count ms = (b.fineKeep src count).srcFail src 2 := by
  rw [Chip.fineDone, if_neg (by simp [on, state])]
  subst lf
  exact (if_neg (by simp [ok])).trans (if_pos rfl)

theorem Chip.fineDone_disagrees (state : b.qst src = 3) (ok : fineOk src count = false) (main : src ≠ 3) :
    b.fineDone src count ms = ((if src = 2 then (((b.fineKeep src count).srcFail 1 2).disagree src count).srcGood 2 false ms
      else ((b.fineKeep src count).srcFail 1 2).disagree src count)).reselect ms := by
  rw [Chip.fineDone, if_neg (by simp [on, state])]
  exact (if_neg (by simp [ok])).trans (if_neg main)

end

theorem Chip.disagree_only (b : Chip) (s count : Nat) : Chip.Only [.ntc, .out, .freeCtr] (among [Reg.CKR_DISAGREE]) b (b.disagree s count) := by
  unfold Chip.disagree
  dsimp only
  split
  · exact ((Chip.Only.rfl' b _ _).w _ _ (among_mem (by simp))).raise _ _ _ (by decide)
  · exact (((Chip.Only.rfl' b _ _).putFreeCtr (by decide) _).w _ _ (among_mem (by simp))).raise _ _ _ (by decide)

theorem Chip.disagree_shows (b : Chip) (s count : Nat) : (b.disagree s count).r Reg.CKR_DISAGREE = 1 := by
  unfold Chip.disagree
  dsimp only
  rw [Chip.raise_r _ _ _ _ _ (.inl (by decide)), Chip.wb, Chip.r_w_same]
  rfl

/-- With the main source usable and no switch waiting, the idle bank follows the chain. -/
theorem Chip.reselect_relocks {ms : Nat} (sw : b.clk.sw = none) (ok : b.srcOk (b.r Reg.CKR_MAIN_SRC) = true) : b.reselect ms = b.relock := by
  rw [Chip.reselect, sw]
  exact if_pos ok

/-- The registers of a disagreement where the TCXO is trusted. -/
def trustFlds : List Fld := Reg.CKR_XO_QST :: Reg.CKR_XO_FAIL :: Reg.CKR_DISAGREE :: Reg.CKR_TCXO_QST :: Reg.CKR_AON_SRC :: idleFlds

/-- Where TCXO and XO disagree and the TCXO is the main source, the XO fails and the TCXO stays (R108). -/
theorem Chip.fineDone_trusts {count ms : Nat} (on : b.t (enFld src) = true) (state : b.qst src = 3) (ok : fineOk src count = false)
    (hs : src = 1 ∨ src = 2) (main : b.r Reg.CKR_MAIN_SRC = 2) (good : src = 1 → b.srcOk 2 = true) (sw : b.clk.sw = none) :
    Chip.Only [.clk, .ntc, .out, .freeCtr] (among trustFlds) b (b.fineDone src count ms) ∧
    (b.fineDone src count ms).qst 1 = 6 ∧ (b.fineDone src count ms).r Reg.CKR_XO_FAIL = 1 ∧ (b.fineDone src count ms).r Reg.CKR_DISAGREE = 1 := by
  rw [Chip.fineDone_disagrees on state ok (by omega)]
  have kept := b.fineKeep_only src count
  have failed := (b.fineKeep src count).srcFail_only 1 2
  obtain ⟨qst, fail⟩ := Chip.srcFail_shows (.inl rfl) (b.fineKeep src count) 2
  have swKept : ((b.fineKeep src count).srcFail 1 2).clk.sw = none := by
    rw [failed.clk (by decide)]
    exact sw
  have other {f : Fld} (hf : ∀ g ∈ [Reg.CKR_XO_QST, Reg.CKR_XO_FAIL], f.key ≠ g.key) (low : f.key < 0x50000 * 32) :
      ((b.fineKeep src count).srcFail 1 2).r f = b.r f := (failed.2 f (not_among hf low)).trans (kept.2 f id)
  have first : Chip.Only [.clk, .ntc, .out, .freeCtr] (among trustFlds) b ((b.fineKeep src count).srcFail 1 2) :=
    (kept.mono (by decide) fun _ => False.elim).trans (failed.mono (by decide) (among_sub (by decide)))
  generalize (b.fineKeep src count).srcFail 1 2 = c at *
  have disagreed := c.disagree_only src count
  have shown := c.disagree_shows src count
  have second := first.trans (disagreed.mono (by decide) (among_sub (m := trustFlds) (by decide)))
  have keep {f : Fld} (hf : f.key ≠ Reg.CKR_DISAGREE.key) (low : f.key < 0x50000 * 32) : (c.disagree src count).r f = c.r f :=
    disagreed.2 f (not_among (by simpa using hf) low)
  have swKept' : (c.disagree src count).clk.sw = none := by
    rw [disagreed.clk (by decide)]
    exact swKept
  have mainKept : (c.disagree src count).r Reg.CKR_MAIN_SRC = 2 := (keep (by decide) (by decide)).trans ((other (by decide) (by decide)).trans main)
  have onKept : (c.disagree src count).t Reg.CKR_TCXO_EN = b.t Reg.CKR_TCXO_EN := by
    rw [Chip.t, keep (by decide) (by decide), other (by decide) (by decide), Chip.t]
  have qstKept : (c.disagree src count).r Reg.CKR_TCXO_QST = b.r Reg.CKR_TCXO_QST :=
    (keep (by decide) (by decide)).trans (other (by decide) (by decide))
  have xo : (c.disagree src count).r Reg.CKR_XO_QST = 6 := (keep (by decide) (by decide)).trans qst
  have xoFail : (c.disagree src count).r Reg.CKR_XO_FAIL = 1 := (keep (by decide) (by decide)).trans fail
  generalize c.disagree src count = d at *
  have relocks (e : Chip) (only : Chip.Only [.ntc, .out] (among (Reg.CKR_TCXO_QST :: Reg.CKR_AON_SRC :: idleFlds)) d e) (ok : e.srcOk 2 = true) :
      Chip.Only [.clk, .ntc, .out, .freeCtr] (among trustFlds) b (e.reselect ms) ∧ (e.reselect ms).qst 1 = 6 ∧
        (e.reselect ms).r Reg.CKR_XO_FAIL = 1 ∧ (e.reselect ms).r Reg.CKR_DISAGREE = 1 := by
    have mainE : e.r Reg.CKR_MAIN_SRC = 2 := (only.2 _ (not_among (by decide) (by decide))).trans mainKept
    rw [Chip.reselect_relocks ((congrArg Clk.sw (only.clk (by decide))).trans swKept') (mainE ▸ ok)]
    have all := only.trans (e.relock_only.mono (by decide) (among_sub (m := Reg.CKR_TCXO_QST :: Reg.CKR_AON_SRC :: idleFlds) fun f hf => by simp [hf]))
    refine ⟨second.trans (all.mono (by decide) (among_sub (by decide))), ?_, ?_, ?_⟩
    · exact (all.2 _ (not_among (by decide) (by decide))).trans xo
    · exact (all.2 _ (not_among (by decide) (by decide))).trans xoFail
    · exact (all.2 _ (not_among (by decide) (by decide))).trans shown
  obtain rfl | rfl := hs
  · rw [if_neg (by decide)]
    exact relocks d (.rfl' d _ _) ((Chip.srcOk_tcxo onKept qstKept).trans (good rfl))
  · rw [if_pos rfl]
    obtain ⟨only, trusted, -⟩ := Chip.srcGood_shows (.inr (.inl rfl)) d false ms (.inr (by rw [mainKept]; decide))
    have enabled : (d.srcGood 2 false ms).t Reg.CKR_TCXO_EN = true := by
      rw [Chip.t, only.2 _ (not_among (by decide) (by decide))]
      exact onKept.trans on
    refine relocks _ only ?_
    rw [Chip.srcOk, trusted, show enFld 2 = Reg.CKR_TCXO_EN from rfl, enabled]
    rfl

end

/-! ### The rows run -/

section
variable {s : State} {src count ms : Nat} (hs : src = 1 ∨ src = 2 ∨ src = 3)
include hs

theorem crystal_of_source : crystal src = true := by rcases hs with rfl | rfl | rfl <;> rfl

theorem exec_coarse_of {c : Chip} (h : s.b.coarseDone src count ms = c) : exec (.qualCoarseDone src count ms) s = .next { s with b := c.settle } := by
  rw [exec_qualCoarseDone, execQualCoarseDone, State.on_eq, crystal_of_source hs, if_pos rfl, h]

theorem exec_fine_of {c : Chip} (h : s.b.fineDone src count ms = c) : exec (.qualFineDone src count ms) s = .next { s with b := c.settle } := by
  rw [exec_qualFineDone, execQualFineDone, State.on_eq, crystal_of_source hs, if_pos rfl, h]

theorem exec_ampGood_of {c : Chip} (h : s.b.ampGood src = c) : exec (.amplitudeGood src) s = .next { s with b := c } := by
  rw [exec_amplitudeGood, execAmplitudeGood, State.on_eq, crystal_of_source hs, if_pos rfl, h]

theorem exec_ampFail_of {c : Chip} (h : s.b.ampFail src = c) : exec (.amplitudeFail src) s = .next { s with b := c } := by
  rw [exec_amplitudeFail, execAmplitudeFail, State.on_eq, crystal_of_source hs, if_pos rfl, h]

theorem exec_retry_of {c : Chip} (h : s.b.qualAgain src = c) : exec (.qualRetry src) s = .next { s with b := c } := by
  rw [exec_qualRetry, execQualRetry, State.on_eq, crystal_of_source hs, if_pos rfl, h]

omit hs in
/-- A measurement that does nothing but settle. -/
theorem Runs.settlesOnly {i : Instr} (run : exec i s = .next { s with b := s.b.settle }) (quiet : s.b.Quiet) :
    Runs i s (fun t => t.mem = s.mem ∧ Chip.OnlyRegs s.b t.b []) := by
  obtain ⟨only, -, -⟩ := Chip.Only.settled (.rfl' s.b [] (among [])) (by decide) (by decide) quiet
  exact ⟨_, run, rfl, only.regs rfl fun _ => rfl⟩

omit hs in
/-- A measurement that is kept, with what follows it. -/
theorem Runs.measured {i : Instr} {c : Chip} {l : List Fld} (run : exec i s = .next { s with b := c.settle }) (quiet : s.b.Quiet)
    (only : Chip.Only [.clk, .ntc, .out] (among l) s.b c) : Runs i s (fun t => t.mem = s.mem ∧ (∀ f : Fld, f.key < 0x50000 * 32 → t.b.r f = c.r f) ∧
      t.b.clk = c.clk ∧ Chip.OnlyRegs { s.b with clk := t.b.clk } t.b l) := by
  obtain ⟨all, regs, clk⟩ := only.settled (by decide) (by decide) quiet
  refine ⟨_, run, rfl, fun f low => regs f fun h => absurd low (Nat.not_lt.mpr (Nat.le_trans (by decide) h.1)), clk, all.regs rfl fun _ => rfl⟩

end

end Sys2Proof.Machine

open Sys2Proof Sys2Proof.Machine

/-- Settles O16: each measurement is kept, then writes the registers of its source and lets the idle bank follow the chain. -/
theorem qualificationMoves : Obligations.QualificationMoves := by
  intro s src hs
  obtain ⟨-, -, low⟩ := srcFlds_apart hs
  obtain ⟨wq, -⟩ := srcFlds_width hs
  have lowQ : (qstFld src).key < 0x50000 * 32 := low _ (by simp)
  have lowF : (failFld src).key < 0x50000 * 32 := low _ (by simp)
  refine ⟨fun off => ⟨exec_ampGood_of hs (if_neg (by simp [off])), exec_ampFail_of hs (if_neg (by simp [off])), exec_retry_of hs (if_neg (by simp [off])),
    fun quiet count ms => ⟨Runs.settlesOnly (exec_coarse_of hs (Chip.coarseDone_idle (.inl off))) quiet,
      Runs.settlesOnly (exec_fine_of hs (Chip.fineDone_idle (.inl off))) quiet⟩⟩, fun on => ⟨fun state => exec_ampGood_of hs (if_pos ⟨on, state⟩),
    fun state => ?_, fun state => ⟨exec_ampGood_of hs (if_neg (by simp [state])), exec_ampFail_of hs (if_neg (by simp [state]))⟩,
    fun state => exec_retry_of hs (if_pos ⟨on, state⟩), fun state => exec_retry_of hs (if_neg (by simp [state])), fun quiet count ms => ⟨fun state => ?_,
    fun state => ?_, fun state => Runs.settlesOnly (exec_coarse_of hs (Chip.coarseDone_idle (.inr state))) quiet,
    fun state => Runs.settlesOnly (exec_fine_of hs (Chip.fineDone_idle (.inr state))) quiet⟩⟩⟩
  · obtain ⟨failed, shown⟩ := Chip.srcFail_shows hs s.b 0
    exact ⟨_, exec_ampFail_of hs (if_pos ⟨on, state⟩), rfl, failed, shown, (s.b.srcFail_only src 0).regs rfl fun _ => rfl⟩
  · have keep {l : List Fld} := (s.b.coarseKeep_only src count).mono (qs := [.clk, .ntc, .out]) (ss := among l) (by decide) fun _ => False.elim
    have kept := s.b.coarseKeep_kept src count
    refine ⟨fun ok ref refOk => ?_, fun ok ref main => ?_, fun ok => ?_⟩
    · refine (Runs.measured (l := [qstFld src]) (exec_coarse_of hs (Chip.coarseDone_fine on state ok ref refOk)) quiet
        (keep.w _ _ (among_mem (by simp)))).imp fun t ⟨mem, regs, clk, only⟩ => ⟨mem, ?_, clk ▸ kept, only⟩
      rw [Chip.qst, regs _ lowQ, Chip.r_w_same, wq]
      rfl
    · obtain ⟨good, shown, -⟩ := Chip.srcGood_shows hs (s.b.coarseKeep src count) false ms (.inr main)
      refine (Runs.measured (exec_coarse_of hs (Chip.coarseDone_good on state ok ref)) quiet
        (keep.trans (good.mono (by decide) fun _ => id))).imp fun t ⟨mem, regs, clk, only⟩ => ⟨mem, (regs _ lowQ).trans shown, ?_, only⟩
      rw [clk, good.clk (by decide)]
      exact kept
    · obtain ⟨failed, shown⟩ := Chip.srcFail_shows hs (s.b.coarseKeep src count) 1
      have fails := (s.b.coarseKeep src count).srcFail_only src 1
      refine (Runs.measured (exec_coarse_of hs (Chip.coarseDone_fails on state ok)) quiet
        (keep.trans (fails.mono (by decide) fun _ => id))).imp
        fun t ⟨mem, regs, clk, only⟩ => ⟨mem, (regs _ lowQ).trans failed, (regs _ lowF).trans shown, ?_, only⟩
      rw [clk, fails.clk (by decide)]
      exact kept
  · have keep {l : List Fld} := (s.b.fineKeep_only src count).mono (qs := [.clk, .ntc, .out]) (ss := among l) (by decide) fun _ => False.elim
    have kept := s.b.fineKeep_kept src count
    refine ⟨fun ok main => ?_, fun ok lf => ?_, fun ok other main good sw => ?_⟩
    · obtain ⟨good, shown, aon⟩ := Chip.srcGood_shows hs (s.b.fineKeep src count) true ms main
      refine (Runs.measured (exec_fine_of hs (Chip.fineDone_good on state ok)) quiet
        (keep.trans (good.mono (by decide) fun _ => id))).imp
        fun t ⟨mem, regs, clk, only⟩ => ⟨mem, (regs _ lowQ).trans shown, fun lf => (regs _ (by decide)).trans (aon lf), ?_, only⟩
      rw [clk, good.clk (by decide)]
      exact kept
    · obtain ⟨failed, shown⟩ := Chip.srcFail_shows hs (s.b.fineKeep src count) 2
      have fails := (s.b.fineKeep src count).srcFail_only src 2
      refine (Runs.measured (exec_fine_of hs (Chip.fineDone_lf on state ok lf)) quiet
        (keep.trans (fails.mono (by decide) fun _ => id))).imp
        fun t ⟨mem, regs, clk, only⟩ => ⟨mem, (regs _ lowQ).trans failed, (regs _ lowF).trans shown, ?_, only⟩
      rw [clk, fails.clk (by decide)]
      exact kept
    · obtain ⟨only, xo, fail, shown⟩ := Chip.fineDone_trusts (ms := ms) on state ok (by omega) main good sw
      obtain ⟨-, regs, -⟩ := only.settled (by decide) (by decide) quiet
      have far {f : Fld} (low : f.key < 0x50000 * 32) : (s.b.fineDone src count ms).settle.r f = (s.b.fineDone src count ms).r f :=
        regs f fun h => absurd low (Nat.not_lt.mpr (Nat.le_trans (by decide) h.1))
      exact ⟨_, exec_fine_of hs rfl, rfl, (far (by decide)).trans xo, (far (by decide)).trans fail, (far (by decide)).trans shown,
        (far (by decide)).trans ((only.2 _ (not_among (by decide) (by decide))).trans main)⟩
end

section
/-!
SUPPORT. Entry into SAFE and its beacon (R90 to R98): what muting and the aborts of SAFE leave.
-/
namespace Sys2Proof.Machine

/-! ### Frames that end when a group is muted -/

/-- The parts that the end of frames and receptions may touch. -/
def muteParts : List Part := [.tx, .queues, .mac, .rx, .tmg, .acc, .freeCtr, .ntc, .out, .cmdIrq, .rf]

/-- The keys of the notice block, and of every register from the coexistence sets on. -/
def besideRfc (k : Nat) : Prop := offs 0x50000 0x60000 k ∨ from_ 0x80400 k

theorem besideRfc_from {lo k : Nat} (h : from_ lo k) (hl : 0x80400 ≤ lo) : besideRfc k := .inr (le_trans (Nat.mul_le_mul_right 32 hl) h)

theorem besideRfc_offs {lo hi k : Nat} (h : offs lo hi k) (hl : 0x80400 ≤ lo) : besideRfc k := .inr (le_trans (Nat.mul_le_mul_right 32 hl) h.1)

theorem besideRfc_chain {f : Fld} {a c : Nat} (hf : f.off = a + 0x40 * c) (hl : 0xC0000 ≤ a) : besideRfc f.key := by
  refine .inr ?_
  simp only [from_, Fld.key]
  omega

theorem besideRfc_block {base k : Nat} (h : blockKey base k) (hl : 0x80400 ≤ base) : besideRfc k := by
  rcases h with rfl | h
  · exact .inl (by decide)
  · exact besideRfc_offs h (by omega)

section
variable {b c d : Chip}

/-- From the first block to the second a frame may have ended. -/
abbrev Chip.FramesEnd (b c : Chip) : Prop := Chip.Only muteParts besideRfc b c

theorem Chip.FramesEnd.same (b : Chip) : b.FramesEnd b := .rfl' b _ _

theorem Chip.FramesEnd.raise (h : b.FramesEnd c) (src code arg : Nat) : b.FramesEnd (c.raise src code arg) :=
  h.trans ((c.raise_only src code arg).mono (by decide) fun _ => .inl)

theorem Chip.FramesEnd.coexRelease (h : b.FramesEnd c) (g : Nat) : b.FramesEnd (c.coexRelease g) :=
  h.trans ((c.coexRelease_only g).mono (by decide) fun _ hk => besideRfc_offs hk (by decide))

theorem Chip.FramesEnd.onAir (h : b.FramesEnd c) : b.FramesEnd c.onAir :=
  h.trans (c.onAir_only.mono (by decide) fun _ hk => besideRfc_offs hk (by decide))

theorem Chip.FramesEnd.dlSync (h : b.FramesEnd c) (n : Nat) : b.FramesEnd (c.dlSync n) :=
  h.trans ((c.dlSync_only n).mono (by decide) fun _ => False.elim)

theorem Chip.FramesEnd.release (h : b.FramesEnd c) (q i : Nat) : b.FramesEnd (c.releaseItem q i) :=
  h.trans ((c.releaseItem_only q i).mono (by decide) fun _ hk => besideRfc_from hk (by decide))

theorem Chip.FramesEnd.return (h : b.FramesEnd c) (q i : Nat) : b.FramesEnd (c.returnItem q i) :=
  h.trans ((c.returnItem_only q i).mono (by decide) fun _ hk => besideRfc_from hk (by decide))

theorem Chip.FramesEnd.txItem (h : b.FramesEnd c) (f : TxF) (keep : Bool) : b.FramesEnd (c.txItem f keep) := by
  unfold Chip.txItem
  split
  · exact h
  · split
    · exact (h.return _ _).dlSync _
    · exact (h.release _ _).dlSync _

theorem Chip.FramesEnd.txDel (h : b.FramesEnd c) (id : Nat) : b.FramesEnd (c.txDel id) :=
  h.trans ((c.txDel_only id).mono (by decide) fun _ => False.elim)

theorem Chip.FramesEnd.dutySet (h : b.FramesEnd c) (f : TxF) (bk : Nat) (g : Nat → Nat) : b.FramesEnd (c.dutySet f.chain bk g) :=
  h.trans ((c.dutySet_only f.chain_lt bk g).mono (by decide) fun _ hk => besideRfc_offs hk (by decide))

theorem Chip.FramesEnd.withdraw (h : b.FramesEnd c) (id : Nat) (f : TxF) : b.FramesEnd (c.withdraw id f) := by
  unfold Chip.withdraw
  refine Chip.FramesEnd.txDel (Chip.FramesEnd.txItem ?_ _ _) _
  split
  · exact h.dutySet _ _ _
  · exact h

theorem Chip.FramesEnd.airSpent (h : b.FramesEnd c) (f : TxF) : b.FramesEnd (c.airSpent f) := by
  unfold Chip.airSpent
  refine .ite h ?_
  dsimp only
  have spent := h.w (Reg.TXP_AIRTIME_US f.chain) (satAdd (Reg.TXP_AIRTIME_US f.chain).w (c.r (Reg.TXP_AIRTIME_US f.chain))
    (min f.airUs ((c.nowNs - f.t) / 1000))) (besideRfc_chain rfl (by decide))
  exact .ite spent (spent.w _ _ (besideRfc_chain rfl (by decide)))

theorem Chip.FramesEnd.txEnded (h : b.FramesEnd c) (id code : Nat) (f : TxF) : b.FramesEnd (c.txEnded id code f) := by
  unfold Chip.txEnded
  extract_lets ch b1 b2 b3 b4
  have h1 : b.FramesEnd b1 := (h.airSpent f).txDel id
  have h2 : b.FramesEnd b2 := .ite (h1.dutySet _ _ _) h1
  have h3 : b.FramesEnd b3 := by
    simp only [b3]
    split
    next r hr =>
      obtain ⟨a, off, lo, -⟩ := txRejFld_row hr
      exact .ite h2 (h2.inc _ (besideRfc_chain off (by omega)))
    · exact h2
  have h4 : b.FramesEnd b4 := .ite (h3.inc _ (besideRfc_chain rfl (by decide))) h3
  exact h4.txItem f _

theorem Chip.FramesEnd.dropHead (h : b.FramesEnd c) (n : Nat) : b.FramesEnd (c.dropHead n) := by
  unfold Chip.dropHead
  dsimp only
  split
  · exact (h.release _ _).dlSync _
  · exact h

theorem Chip.FramesEnd.payloadDrop (h : b.FramesEnd c) (f : TxF) (code : Nat) : b.FramesEnd (c.payloadDrop f code) :=
  h.foldl _ fun d _ _ => .ite ((Chip.FramesEnd.same d).txEnded _ _ _) ((Chip.FramesEnd.same d).withdraw _ _)

theorem Chip.FramesEnd.txFail (h : b.FramesEnd c) (id code : Nat) : b.FramesEnd (c.txFail id code) := by
  unfold Chip.txFail
  split
  · exact h
  next f _ =>
    have ended := h.txEnded id code f
    refine Chip.FramesEnd.coexRelease (Chip.FramesEnd.onAir ?_) _
    dsimp only
    split
    · exact Chip.FramesEnd.payloadDrop (.ite ended (ended.dropHead _)) _ _
    · exact (ended.putTx (by decide) _).trans
        ((Chip.cmdFinish_only _ _ _ _).mono (by decide) fun _ hk => besideRfc_block hk (by decide))
    · exact ended

/-! ### Muting -/

/-- The keys of the register that shows a group's state and whether it is muted. -/
def groupShown (g k : Nat) : Prop := k = (Reg.RFC_STATE g).key ∨ k = (Reg.RFC_MUTED g).key

/-- Muting a group writes of RFC's groups its own state and that it is muted. -/
theorem Chip.mute_only (b : Chip) (cause : Nat) {g : Nat} (hg : g < 4) :
    Chip.Only muteParts (fun k => groupShown g k ∨ besideRfc k) b (b.mute cause g) ∧ (b.mute cause g).t (Reg.RFC_MUTED g) = true := by
  unfold Chip.mute
  extract_lets air b1 b2 b3 b4 b5
  have h1 : b.FramesEnd b1 := (Chip.FramesEnd.same b).foldl _ fun d e _ => (Chip.FramesEnd.same d).txFail _ _
  have h2 : b.FramesEnd b2 := .ite h1 (h1.raise _ _ _)
  have h3 : b.FramesEnd b3 := h2.foldl _ fun d e _ => .ite ((Chip.FramesEnd.same d).txFail _ _) ((Chip.FramesEnd.same d).withdraw _ _)
  have h4 : b.FramesEnd b4 := by
    have ended : b.FramesEnd (b3.endGroup g CAUSE.LANE_OFF) :=
      h3.trans ((b3.endGroup_only g _).mono (by decide) fun _ hk => besideRfc_from (rxEndKey_from hk) (by decide))
    refine (ended.putTx (by decide) _).w (Reg.TXP_TONE_ON g) _ (.inr ?_)
    simp only [from_, Fld.key, Reg.TXP_TONE_ON]
    omega
  have go (c : Chip) (st : Nat) : Chip.Only muteParts (fun k => groupShown g k ∨ besideRfc k) c (c.rfGo g st) :=
    (c.rfGo_only g st).mono (by decide) fun _ hk => .inl (.inl hk)
  have h4' := h4.mono (qs := muteParts) (ss := fun k => groupShown g k ∨ besideRfc k) (fun _ hp => hp) fun _ => .inr
  have h5 : Chip.Only muteParts (fun k => groupShown g k ∨ besideRfc k) b b5 := by
    simp only [b5]
    split
    · exact .ite (h4'.trans (go _ _)) h4'
    · exact .ite h4' (h4'.trans (go _ _))
  constructor
  · exact ((h5.w _ _ (.inl (.inr rfl))).trans (Chip.modGrp_only _ g _ _ |>.mono (by decide) fun _ hk => hk)).trans
      ((Chip.coexRelease_only _ _).mono (by decide) fun _ hk => .inr (besideRfc_offs hk (by decide)))
  · refine ((Chip.coexRelease_only _ g).t (Reg.RFC_MUTED g) ?_).trans (Chip.t_w_one b5 (f := Reg.RFC_MUTED g) rfl)
    simp only [offs, Fld.key, Reg.RFC_MUTED]
    omega

/-- Muting a group leaves muted what another group shows. -/
theorem Chip.mute_muted (b : Chip) (cause : Nat) {g k : Nat} (hg : g < 4) (hk : k < 4) (h : k = g ∨ b.t (Reg.RFC_MUTED k) = true) :
    (b.mute cause g).t (Reg.RFC_MUTED k) = true := by
  obtain ⟨only, muted⟩ := b.mute_only cause hg
  by_cases e : k = g
  · exact e ▸ muted
  · rw [only.t _ (by simp only [groupShown, besideRfc, offs, from_, Fld.key, Reg.RFC_MUTED, Reg.RFC_STATE]; omega)]
    exact h.resolve_left e

theorem Chip.muteAll_muted (b : Chip) (cause : Nat) {k : Nat} (hk : k < 4) : (b.muteAll cause).t (Reg.RFC_MUTED k) = true := by
  have fold (n : Nat) (hn : n ≤ 4) : ∀ i, i < n → ((List.range n).foldl (fun c g => c.mute cause g) b).t (Reg.RFC_MUTED i) = true := by
    induction n with
    | zero => exact fun i hi => absurd hi (Nat.not_lt_zero i)
    | succ n ih =>
      intro i hi
      rw [List.range_succ, List.foldl_append]
      exact Chip.mute_muted _ cause hn (by omega) ((Nat.lt_succ_iff_lt_or_eq.mp hi).symm.imp_right (ih (by omega) i))
  rw [Chip.muteAll, Chip.onAir_only _ |>.t _ (by simp only [offs, Fld.key, Reg.RFC_MUTED]; omega)]
  exact fold 4 le_rfl k hk

/-! ### What else SAFE ends (R90, R92) -/

/-- The keys outside the registers that show the groups. -/
abbrev noGroup (k : Nat) : Prop := ¬ offs 0x80100 0x80200 k

/-- The parts that an entry into SAFE may touch. -/
def safeParts : List Part := [.cmdIrq, .ntc, .out, .svc, .upd, .sea, .sec, .nv, .gap, .boot, .pwr] ++ muteParts

/-- From the first block to the second what SAFE ends has ended, apart from the groups. -/
abbrev Chip.SafeEnds (b c : Chip) : Prop := Chip.Only safeParts noGroup b c

theorem noGroup_block {base k : Nat} (h : blockKey base k) (hl : 0x80400 ≤ base) : noGroup k := by
  rcases h with rfl | h <;> simp only [noGroup, offs, Fld.key, Reg.NTC_INT_PEND] at * <;> omega

theorem noGroup_beside {k : Nat} (h : besideRfc k) : noGroup k := by
  simp only [noGroup, besideRfc, offs, from_] at *
  omega

theorem Chip.SafeEnds.same (b : Chip) : b.SafeEnds b := .rfl' b _ _

theorem Chip.SafeEnds.raise (h : b.SafeEnds c) (src code arg : Nat) : b.SafeEnds (c.raise src code arg) :=
  h.trans ((c.raise_only src code arg).mono (by decide) fun _ hk => noGroup_beside (.inl hk))

theorem Chip.SafeEnds.cmdFinish (h : b.SafeEnds c) (base code : Nat) (l : List Nat) (hl : 0x80400 ≤ base) : b.SafeEnds (c.cmdFinish base code l) :=
  h.trans ((c.cmdFinish_only base code l).mono (by decide) fun _ hk => noGroup_block hk hl)

theorem Chip.SafeEnds.campAbort (h : b.SafeEnds c) : b.SafeEnds c.campAbort :=
  h.foldl _ fun d k _ => by
    unfold Chip.campEnd
    split
    · exact .rfl' d _ _
    · refine .ite (.rfl' d _ _) ?_
      dsimp only
      exact Chip.SafeEnds.raise (((Chip.Only.rfl' d _ _).putSvc (by decide) _).w _ _ (by decide)) _ _ _

theorem Chip.SafeEnds.actAbort (h : b.SafeEnds c) : b.SafeEnds c.actAbort := by
  unfold Chip.actAbort
  refine .ite ?_ h
  unfold Chip.actEnd
  extract_lets b1 b2 b3
  have h1 : b.SafeEnds b1 := (h.w _ _ (by decide)).w _ _ (by decide)
  have h2 : b.SafeEnds b2 := h1.inc _ (by split <;> decide)
  exact Chip.SafeEnds.cmdFinish ((h2.raise _ _ _).putUpd (by decide) _) _ _ _ (by decide)

theorem Chip.SafeEnds.pairStop (h : b.SafeEnds c) : b.SafeEnds c.pairStop :=
  h.foldl _ fun d e _ => ((Chip.FramesEnd.same d).withdraw e.1 e.2).mono (by decide) fun _ => noGroup_beside

theorem Chip.SafeEnds.setRole (h : b.SafeEnds c) (v cause : Nat) : b.SafeEnds (c.setRole v cause) := by
  unfold Chip.setRole Chip.dropBlocks
  exact Chip.SafeEnds.raise ((h.putSec (by decide) _).w _ _ (by decide)) _ _ _

theorem Chip.SafeEnds.seaOut (h : b.SafeEnds c) : b.SafeEnds c.seaOut := by
  unfold Chip.seaOut Chip.setStby Chip.leaveActive Chip.modSea
  extract_lets b1 b2 b3
  have h1 : b.SafeEnds b1 := (h.w _ _ (by decide)).putNv (by decide) _
  have h2 : b.SafeEnds b2 :=
    Chip.SafeEnds.setRole (Chip.Only.putSea (Chip.SafeEnds.campAbort (Chip.SafeEnds.pairStop (h1.w _ _ (by decide)))) (by decide) _) _ _
  have h3 : b.SafeEnds b3 := (h2.putGap (by decide) _).putSea (by decide) _
  exact .ite h1 (.ite (h3.cmdFinish _ _ _ (by decide)) h3)

theorem Chip.SafeEnds.ethHold (h : b.SafeEnds c) (p : Nat) (held : Bool) (hp : p < 2) : b.SafeEnds (c.ethHold p held) := by
  have out {f : Fld} {a : Nat} (hf : f.off = a + 0x40 * p) (lo : 0x200000 ≤ a) : noGroup f.key := by
    simp only [noGroup, offs, Fld.key]
    omega
  unfold Chip.ethHold
  have held := h.w (Reg.ETH_HELD p) (b2n held) (out rfl (by decide))
  exact .ite ((held.w _ _ (out rfl (by decide))).w _ _ (out rfl (by decide))) held

/-- The registers of SAFE's Ethernet port 0, and those with which an entry into SAFE ends. -/
def safeKeys : List Nat := [Reg.ETH_HELD 0, Reg.ETH_LINK 0, Reg.ETH_AN_DONE 0, Reg.ETH_EN 0, Reg.ETH_MODE 0, Reg.TIM_ING_LAT 0, Reg.TIM_EGR_LAT 0,
  Reg.GLB_SAFE_ITEM, Reg.GLB_SAFE_CODE, Reg.GLB_STATE, Reg.PWR_PSTATE, Reg.UPD_PHASE].map Fld.key

/-- The keys of those registers and of the notice block. -/
abbrev safeEnd (k : Nat) : Prop := k ∈ safeKeys ∨ offs 0x50000 0x60000 k

/-- Port 0 as SAFE runs it, the notice ring dropped, the item and the cause code set. -/
def Chip.safeShown (b : Chip) (item code : Nat) : Chip :=
  ((((if b.limp then b.ethHold 0 true else b.wb (Reg.ETH_HELD 0) false).safePort).dramRingDrop.w Reg.GLB_SAFE_ITEM item).w Reg.GLB_SAFE_CODE code).w
    Reg.GLB_STATE 2

theorem Chip.safeShown_only (b : Chip) (item code : Nat) : Chip.Only [.ntc] safeEnd b (b.safeShown item code) := by
  have known (c : Chip) (f : Fld) (v : Nat) (hf : f.key ∈ safeKeys) : Chip.Only [.ntc] safeEnd c (c.w f v) := (Chip.Only.rfl' c _ _).w _ _ (.inl hf)
  have held : Chip.Only [.ntc] safeEnd b (if b.limp then b.ethHold 0 true else b.wb (Reg.ETH_HELD 0) false) :=
    .ite (((known b _ _ (by decide)).trans (known _ _ _ (by decide))).trans (known _ _ _ (by decide))) (known b _ _ (by decide))
  have port (c : Chip) : Chip.Only [.ntc] safeEnd c c.safePort := by
    unfold Chip.safePort
    refine .ite (.rfl' c _ _) ?_
    unfold Chip.portMode
    have mode (d : Chip) : Chip.Only [.ntc] safeEnd d (if d.r (Reg.ETH_MODE 0) = 2 then d else ((d.w (Reg.ETH_MODE 0) 2).w (Reg.TIM_ING_LAT 0)
        (Config.modeLatency 0 2).1).w (Reg.TIM_EGR_LAT 0) (Config.modeLatency 0 2).2) :=
      .ite (.rfl' d _ _) (((known d _ _ (by decide)).trans (known _ _ _ (by decide))).trans (known _ _ _ (by decide)))
    exact (((known c _ _ (by decide)).trans (mode _)).trans (known _ _ _ (by decide))).trans (known _ _ _ (by decide))
  have ring (c : Chip) : Chip.Only [.ntc] safeEnd c c.dramRingDrop := by
    unfold Chip.dramRingDrop
    exact .ite ((((Chip.Only.rfl' c _ _).w _ _ (.inr (by decide))).w _ _ (.inr (by decide))).putNtc (by decide) _) (.rfl' c _ _)
  exact ((((held.trans (port _)).trans (ring _)).trans (known _ _ _ (by decide))).trans (known _ _ _ (by decide))).trans (known _ _ _ (by decide))

/-- The block with the supply state and the phase of SAFE, no warm start due. -/
def Chip.safeStill (b : Chip) : Chip :=
  (Chip.modPwr (Chip.w { b with boot := { b.boot with warm := none } } Reg.PWR_PSTATE 0) (fun x => { x with exitAt := none })).pauseDrop

theorem Chip.safeStill_only (b : Chip) : Chip.Only [.boot, .pwr, .upd] (· ∈ [Reg.PWR_PSTATE.key, Reg.UPD_PHASE.key]) b b.safeStill ∧
    b.safeStill.r Reg.PWR_PSTATE = 0 ∧ b.safeStill.boot.warm = none := by
  have low : Chip.Only [.boot, .pwr, .upd] (· ∈ [Reg.PWR_PSTATE.key, Reg.UPD_PHASE.key]) b
      (Chip.modPwr (Chip.w { b with boot := { b.boot with warm := none } } Reg.PWR_PSTATE 0) (fun x => { x with exitAt := none })) :=
    (((Chip.Only.rfl' b _ _).putBoot (by decide) _).w _ _ (by decide)).putPwr (by decide) _
  have off := Chip.r_w_same { b with boot := { b.boot with warm := none } } Reg.PWR_PSTATE 0
  unfold Chip.safeStill Chip.pauseDrop
  refine ⟨.ite ((low.putUpd (by decide) _).w _ _ (by decide)) low, ?_, ?_⟩ <;> split
  · exact (Chip.r_w_ne _ _ _ _ (by decide)).trans off
  · exact off
  · rfl
  · rfl

theorem Chip.safeEnter_eq (b : Chip) (item code mute : Nat) :
    ∃ arg, b.safeEnter item code mute = Chip.raise (Chip.safeStill (Chip.safeShown
      (((b.dozeToRc.muteAll mute).campAbort.actAbort.seaOut).ethHold 1 true) item code)) Src.GLB N.SAFE_ENTERED arg := ⟨_, rfl⟩

/-- An entry into SAFE leaves the device in SAFE (R90). -/
theorem Chip.safeEnter_inSafe (b : Chip) {item code : Nat} (mute : Nat) (hi : item < 256) (hc : code < 256) : (b.safeEnter item code mute).InSafe item code := by
  obtain ⟨arg, eq⟩ := b.safeEnter_eq item code mute
  rw [eq]
  generalize muted : b.dozeToRc.muteAll mute = m
  have ends : m.SafeEnds (m.campAbort.actAbort.seaOut) := (Chip.SafeEnds.same m).campAbort.actAbort.seaOut
  generalize m.campAbort.actAbort.seaOut = c at ends ⊢
  have hold : m.SafeEnds (c.ethHold 1 true) := ends.ethHold 1 true (by decide)
  have held : (c.ethHold 1 true).t (Reg.ETH_HELD 1) = true := by
    have set := Chip.t_w_one c (f := Reg.ETH_HELD 1) rfl
    simp only [Chip.t, beq_iff_eq] at set ⊢
    exact (Chip.r_w_ne _ _ _ _ (by decide)).trans ((Chip.r_w_ne _ _ _ _ (by decide)).trans set)
  generalize c.ethHold 1 true = d at hold held ⊢
  have shown := d.safeShown_only item code
  have state : (d.safeShown item code).r Reg.GLB_STATE = 2 := Chip.r_w_same _ _ _
  have itemR : (d.safeShown item code).r Reg.GLB_SAFE_ITEM = item :=
    (Chip.r_w_ne _ _ _ _ (by decide)).trans ((Chip.r_w_ne _ _ _ _ (by decide)).trans ((Chip.r_w_same _ _ _).trans (Nat.mod_eq_of_lt hi)))
  have codeR : (d.safeShown item code).r Reg.GLB_SAFE_CODE = code :=
    (Chip.r_w_ne _ _ _ _ (by decide)).trans ((Chip.r_w_same _ _ _).trans (Nat.mod_eq_of_lt hc))
  generalize d.safeShown item code = e at shown state itemR codeR ⊢
  obtain ⟨still, off, warm⟩ := e.safeStill_only
  have through {f : Fld} (ntc : ¬ offs 0x50000 0x60000 f.key) (low : f.key ∉ [Reg.PWR_PSTATE.key, Reg.UPD_PHASE.key]) :
      (Chip.raise e.safeStill Src.GLB N.SAFE_ENTERED arg).r f = e.r f := ((Chip.raise_only _ _ _ _).2 f ntc).trans (still.2 f low)
  refine ⟨?_, ?_, ?_, fun g hg => ?_, ?_, ?_, ?_⟩
  · rw [through (by decide) (by decide), state]
  · rw [through (by decide) (by decide), itemR]
  · rw [through (by decide) (by decide), codeR]
  · have group : offs 0x80100 0x80200 (Reg.RFC_MUTED g).key := by
      simp only [offs, Fld.key, Reg.RFC_MUTED]
      omega
    have apart {k : Nat} (hk : noGroup k) : (Reg.RFC_MUTED g).key ≠ k := fun e => hk (e ▸ group)
    have keys : ∀ k ∈ safeKeys, noGroup k := by decide
    have ntc : ¬ offs 0x50000 0x60000 (Reg.RFC_MUTED g).key := fun h => by
      simp only [offs] at h group
      omega
    have low : (Reg.RFC_MUTED g).key ∉ [Reg.PWR_PSTATE.key, Reg.UPD_PHASE.key] := fun h => keys _ (List.mem_of_mem_drop (i := 10) h) group
    rw [Chip.t, through ntc low, ← Chip.t, shown.t _ fun h => h.elim (fun h => keys _ h group) ntc, hold.t _ fun h => h group, ← muted,
      Chip.muteAll_muted _ _ hg]
  · rw [Chip.t, through (by decide) (by decide), ← Chip.t, shown.t _ (by decide), held]
  · rw [(Chip.raise_only _ _ _ _).2 _ (by decide), off]
  · rw [(Chip.raise_only _ _ _ _).boot (by decide), warm]

end

/-! ### The beacon (R92) -/

/-- The beacon's count, its notice and its interrupt. -/
def Chip.beaconTold (b : Chip) (arg : Nat) : Chip :=
  Chip.fire (Chip.raise (b.inc Reg.GLB_SAFE_BEACON_SEQ) Src.GLB N.SAFE_BEACON arg) 1

theorem Chip.beaconTold_only (b : Chip) (arg : Nat) :
    Chip.Only [.ntc, .out] (fun k => k = Reg.GLB_SAFE_BEACON_SEQ.key ∨ offs 0x50000 0x60000 k) b (b.beaconTold arg) :=
  (((Chip.Only.rfl' b _ _).inc Reg.GLB_SAFE_BEACON_SEQ (.inl rfl)).trans ((Chip.raise_only _ _ _ _).mono (by decide) fun _ => .inr)).trans
    ((Chip.NoticeOnly.fire _ 1).only.mono (by decide) fun _ => .inr)

/-- A vector that fires is pending. -/
theorem Chip.fire_pending (b : Chip) : bit ((b.fire 1).r Reg.NTC_INT_PEND) 1 = true := by
  have set := bit_setBit_same (b.r Reg.NTC_INT_PEND) 1
  have kept : bit (setBit (b.r Reg.NTC_INT_PEND) 1 % 2 ^ 32) 1 = true := by
    simp only [bit, beq_iff_eq] at set ⊢
    omega
  have written : bit ((b.w Reg.NTC_INT_PEND (setBit (b.r Reg.NTC_INT_PEND) 1)).r Reg.NTC_INT_PEND) 1 = true := by
    rw [Chip.r_w_same]
    exact kept
  unfold Chip.fire
  dsimp only
  split
  · assumption
  · (repeat' split) <;> exact written

/-- What the beacon says, and whom it tells. -/
def Chip.beaconNote (b : Chip) (q : Nat) : Note := ⟨b.stitch32, Src.GLB, sevOf N.SAFE_BEACON, N.SAFE_BEACON,
  argB (b.r Reg.GLB_SAFE_ITEM) (b.r Reg.GLB_SAFE_CODE) (q % 256) (q / 256 % 256) (b.r Reg.GLB_BOOT_COUNT)⟩

/-- The beacon once told: its interrupt, and its line where the console's pins are not parked. -/
def Chip.beaconSaid (b : Chip) (q : Nat) : Chip :=
  let b2 := b.beaconTold (b.beaconNote q).arg
  let b3 : Chip := { b2 with ntc := { b2.ntc with safeIrq := true } }
  if b3.parked 8 then b3 else b3.emit (.uartBeacon (b.r Reg.GLB_SAFE_ITEM) (b.r Reg.GLB_SAFE_CODE) (b.r Reg.GLB_BOOT_COUNT) q)

theorem Chip.safeBeacon_eq {b : Chip} {q : Nat} (safe : b.safe = true) (hq : q = satAdd 32 (b.r Reg.GLB_SAFE_BEACON_SEQ) 1) :
    b.safeBeacon = (if (b.beaconSaid q).t (Reg.ETH_LINK 0) && !(b.beaconSaid q).t (Reg.ETH_HELD 0) then
      (b.beaconSaid q).ethSend 0 ((b.beaconSaid q).noticeFrame 0 (b.beaconNote q)) else b.beaconSaid q) := by
  have seq : (b.inc Reg.GLB_SAFE_BEACON_SEQ).r Reg.GLB_SAFE_BEACON_SEQ = q := (Chip.r_inc_same _ _).trans hq.symm
  have same {f : Fld} (h : Reg.GLB_SAFE_BEACON_SEQ.key ≠ f.key) : (b.inc Reg.GLB_SAFE_BEACON_SEQ).r f = b.r f := Chip.r_inc_ne b h
  unfold Chip.safeBeacon
  rw [if_neg (by simp [safe])]
  dsimp only
  rw [seq, same (by decide), same (by decide), same (by decide)]
  rfl

theorem Chip.beaconSaid_only (b : Chip) (q : Nat) :
    Chip.Only [.ntc, .out] (fun k => k = Reg.GLB_SAFE_BEACON_SEQ.key ∨ offs 0x50000 0x60000 k) b (b.beaconSaid q) := by
  have told := (b.beaconTold_only (b.beaconNote q).arg).putNtc (by decide) { (b.beaconTold (b.beaconNote q).arg).ntc with safeIrq := true }
  exact .ite told (told.putOut (by decide) _)

theorem Chip.safeBeacon_sends {b : Chip} {q : Nat} (safe : b.safe = true) (hq : q = satAdd 32 (b.r Reg.GLB_SAFE_BEACON_SEQ) 1) :
    b.safeBeacon = { b with regs := b.safeBeacon.regs, ntc := b.safeBeacon.ntc, out := b.safeBeacon.out } ∧
    b.safeBeacon.r Reg.GLB_SAFE_BEACON_SEQ = q ∧ b.safeBeacon.ntc.safeIrq = true ∧ bit (b.safeBeacon.r Reg.NTC_INT_PEND) 1 = true ∧
    (b.parked 8 = false → Out.uartBeacon (b.r Reg.GLB_SAFE_ITEM) (b.r Reg.GLB_SAFE_CODE) (b.r Reg.GLB_BOOT_COUNT) q ∈ b.safeBeacon.out) ∧
    (b.t (Reg.ETH_LINK 0) = true → b.t (Reg.ETH_HELD 0) = false →
      b.safeBeacon.out.head? = some (.eth 0 (ethPad (b.noticeFrame 0 (b.beaconNote q)))) ∧
      b.safeBeacon.r (Reg.ETH_TX_FRAMES 0) = satAdd 32 (b.r (Reg.ETH_TX_FRAMES 0)) 1) ∧
    ∀ f : Fld, f.key ≠ Reg.GLB_SAFE_BEACON_SEQ.key → (f.key < 0x50000 * 32 ∨ 0x60000 * 32 ≤ f.key) → f.key ≠ (Reg.ETH_TX_FRAMES 0).key →
      f.key ≠ (Reg.ETH_TX_OCTETS 0).key → b.safeBeacon.r f = b.r f := by
  have only := b.beaconSaid_only q
  have seq : (b.beaconSaid q).r Reg.GLB_SAFE_BEACON_SEQ = q := by
    have told : (b.beaconTold (b.beaconNote q).arg).r Reg.GLB_SAFE_BEACON_SEQ = q :=
      ((Chip.NoticeOnly.fire _ 1).only.2 _ (by decide)).trans (((Chip.raise_only _ _ _ _).2 _ (by decide)).trans ((Chip.r_inc_same _ _).trans hq.symm))
    rw [Chip.beaconSaid]
    split <;> exact told
  have irq : (b.beaconSaid q).ntc.safeIrq = true := by
    rw [Chip.beaconSaid]
    split <;> rfl
  have pend : bit ((b.beaconSaid q).r Reg.NTC_INT_PEND) 1 = true := by
    rw [Chip.beaconSaid]
    split <;> exact Chip.fire_pending _
  have line (console : b.parked 8 = false) :
      Out.uartBeacon (b.r Reg.GLB_SAFE_ITEM) (b.r Reg.GLB_SAFE_CODE) (b.r Reg.GLB_BOOT_COUNT) q ∈ (b.beaconSaid q).out := by
    have parked : (b.beaconTold (b.beaconNote q).arg).parked 8 = false := by
      unfold Chip.parked padFunc at console ⊢
      rwa [(b.beaconTold_only _).2 _ (by decide)]
    rw [Chip.beaconSaid]
    dsimp only
    rw [if_neg (by exact fun h => absurd (parked.symm.trans h) (by decide))]
    exact List.mem_cons_self
  rw [Chip.safeBeacon_eq safe hq]
  generalize b.beaconSaid q = c at only seq irq pend line
  have frame : c.noticeFrame 0 (b.beaconNote q) = b.noticeFrame 0 (b.beaconNote q) := by
    unfold Chip.noticeFrame
    rw [only.2 _ (by decide), only.2 _ (by decide)]
  rw [only.t _ (by decide), only.t _ (by decide), frame]
  have known {f : Fld} (hs : f.key ≠ Reg.GLB_SAFE_BEACON_SEQ.key) (hn : f.key < 0x50000 * 32 ∨ 0x60000 * 32 ≤ f.key) : c.r f = b.r f :=
    only.2 f fun h => h.elim hs fun h => by
      simp only [offs] at h
      omega
  split
  next sends =>
    unfold Chip.ethSend
    refine ⟨?_, ?_, irq, ?_, fun console => ?_, fun _ _ => ⟨rfl, ?_⟩, fun f hs hn hf ho => ?_⟩
    · have parts := only.1
      rw [parts]
      rfl
    · exact (Chip.r_w_ne _ _ _ _ (by decide)).trans ((Chip.r_w_ne _ _ _ _ (by decide)).trans seq)
    · rw [Chip.add, Chip.r_w_ne _ _ _ _ (by decide), Chip.r_inc_ne _ (by decide)]
      exact pend
    · exact List.mem_cons_of_mem _ (line console)
    · refine (Chip.r_w_ne _ _ _ _ (by decide)).trans ((Chip.r_inc_same _ _).trans ?_)
      exact congrArg (satAdd 32 · 1) (known (by decide) (by decide))
    · exact (Chip.r_w_ne _ _ _ _ (Ne.symm ho)).trans ((Chip.r_w_ne _ _ _ _ (Ne.symm hf)).trans (known hs hn))
  next silent =>
    refine ⟨only.1, seq, irq, pend, line, fun link held => ?_, fun f hs hn _ _ => known hs hn⟩
    rw [link, held] at silent
    exact absurd rfl silent

end Sys2Proof.Machine

open Sys2Proof Sys2Proof.Machine

/-- Settles O15. -/
theorem safeIsEntered : Obligations.SafeIsEntered := by
  intro s
  refine ⟨fun again => ⟨fun ready once => ?_, fun ready twice => ?_, fun off => ?_⟩, fun on out => ?_, fun none => ?_, fun q safe hq => ?_, fun out => ?_⟩
  · rw [exec_watchdogExpiry, execWatchdogExpiry, State.on_eq, Chip.watchdog, ready, once]
    rfl
  · have runs : exec (.watchdogExpiry again) s = .next { s with b := (s.b.wb Reg.GLB_WATCHDOG true).safeEnter 0x10 ABORTED 0 } := by
      rw [exec_watchdogExpiry, execWatchdogExpiry, State.on_eq, Chip.watchdog, if_neg (by simp [ready]), if_pos twice]
    have safe := Chip.safeEnter_inSafe (s.b.wb Reg.GLB_WATCHDOG true) (item := 0x10) (code := ABORTED) 0 (by decide) (by decide)
    generalize (s.b.wb Reg.GLB_WATCHDOG true).safeEnter 0x10 ABORTED 0 = c at runs safe
    exact ⟨_, runs, rfl, safe⟩
  · rw [exec_watchdogExpiry, execWatchdogExpiry, State.on_eq, Chip.watchdog, off]
    rfl
  · have runs : exec .thermalTrip s = .next { s with b := s.b.safeEnter 0x0F ABORTED 2 } := by
      rw [exec_thermalTrip, execThermalTrip, State.on_eq, Chip.thermalTrip, if_neg (by simp [on, out])]
    have safe := Chip.safeEnter_inSafe s.b (item := 0x0F) (code := ABORTED) 2 (by decide) (by decide)
    generalize s.b.safeEnter 0x0F ABORTED 2 = c at runs safe
    exact ⟨_, runs, rfl, safe⟩
  · rw [exec_thermalTrip, execThermalTrip, State.on_eq, Chip.thermalTrip, if_pos none]
  · have runs : exec .safeBeaconPeriod s = .next { s with b := s.b.safeBeacon } := rfl
    exact ⟨_, runs, rfl, Chip.safeBeacon_sends safe hq⟩
  · rw [exec_safeBeaconPeriod, execSafeBeaconPeriod, State.on_eq, Chip.safeBeacon, out]
    rfl

end

section
/-!
SUPPORT. What a jump of network time, an exit from DOZE and the driving of the radio groups leave of the clock and power registers.
-/
namespace Sys2Proof.Machine

/-! ### A jump of network time (R139, R140) -/

/-- The parts that a jump of network time may touch. -/
def jumpParts : List Part := [.tim, .sch, .sea] ++ muteParts

section
variable {b c : Chip}

/-- From the first block to the second, the registers of the global, clock and power blocks stay. -/
abbrev Chip.TimeMoves (b c : Chip) : Prop := Chip.Only jumpParts (from_ 0x30000) b c

theorem Chip.TimeMoves.same (b : Chip) : b.TimeMoves b := .rfl' b _ _

theorem Chip.FramesEnd.moves (h : b.FramesEnd c) : b.TimeMoves c := h.mono (by decide) fun k hk => by
  simp only [besideRfc, offs, from_] at *
  omega

/-- From the first block to the second, gates have been put in force and ports judged anew. -/
abbrev Chip.GatesMove (b c : Chip) : Prop := Chip.Only [.queues, .tmg, .acc, .ntc, .out] (from_ 0x30000) b c

theorem Chip.GatesMove.tmgPort (h : b.GatesMove c) (p : Nat) : b.GatesMove (c.tmgPort p) :=
  h.trans ((c.tmgPort_only p).mono (by decide) fun _ hk => le_trans (Nat.mul_le_mul_right 32 (by decide)) hk)

theorem Chip.GatesMove.gateShow (h : b.GatesMove c) (p : Nat) : b.GatesMove (c.gateShow p) :=
  (h.w (Reg.TMG_GATE_STATE p) _ (from_row rfl (by decide))).w (Reg.TMG_ENTRY p) _ (from_row rfl (by decide))

theorem Chip.GatesMove.gatePut (h : b.GatesMove c) (p : Nat) (s : GateSwap) : b.GatesMove (c.gatePut p s) := by
  unfold Chip.gatePut
  extract_lets tmg b1 b2 b3
  have h1 : b.GatesMove b1 := h.putTmg (by decide) _
  have h2 : b.GatesMove b2 := ((h1.w (Reg.TMG_SWITCH_PEND p) _ (from_row rfl (by decide))).w (Reg.TMG_OPER_LEN p) _ (from_row rfl (by decide))).w
    (Reg.TMG_OPER_CYCLE_NS p) _ (from_row rfl (by decide))
  have h3 : b.GatesMove b3 := (h2.inc (Reg.TMG_GATE_SWITCHES p) (from_row rfl (by decide))).trans
    ((Chip.raise_only _ _ _ _).mono (by decide) fun _ hk => le_trans (Nat.mul_le_mul_right 32 (by decide)) hk.1)
  exact (h3.gateShow p).tmgPort p

theorem Chip.GatesMove.gateJump (h : b.GatesMove c) (p : Nat) : b.GatesMove (c.gateJump p) := by
  unfold Chip.gateJump
  dsimp only
  refine Chip.GatesMove.tmgPort (Chip.GatesMove.gateShow ?_ p) p
  split
  · exact .ite (h.gatePut p _) h
  · exact h

/-- A jump of network time that does not end the nodes' phases. -/
theorem Chip.schJump_moves (b : Chip) {cause : Nat} (before us : Nat) (hc : cause ≠ 3) :
    b.TimeMoves (b.schJump before cause us) ∧ (b.schJump before cause us).sch.pairHeard = b.sch.pairHeard := by
  unfold Chip.schJump
  extract_lets ss m s first old skipped gone b0 sch b1 b2 near extra b3
  have h0 : b.FramesEnd b0 := (Chip.FramesEnd.same b).foldl _ fun d e _ =>
    .ite (.ite (.rfl' d _ _) ((Chip.FramesEnd.same d).txFail _ _)) (((Chip.FramesEnd.same d).txItem _ _).txDel _)
  have h1 : b.TimeMoves b1 := h0.moves.putSch (by decide) _
  have h12 : Chip.Only [.ntc, .out] (from_ 0x30000) b1 b2 :=
    ((Chip.Only.rfl' b1 _ _).w Reg.SCH_SLOTS_SKIPPED _ (by decide)).trans
      ((Chip.raise_only _ _ _ _).mono (by decide) fun k hk => le_trans (Nat.mul_le_mul_right 32 (by decide)) hk.1)
  have h23 : Chip.Only [.mac] (from_ 0x30000) b2 b3 := (Chip.Only.rfl' b2 _ _).foldl _ fun d n _ => by
    rw [if_neg hc]
    exact (Chip.Only.rfl' d _ _).putMac (by decide) _
  have heard : b3.sch.pairHeard = b.sch.pairHeard := by
    have still : b0.sch.pairHeard = b.sch.pairHeard := by rw [h0.sch (by decide)]
    rw [h23.sch (by decide), h12.sch (by decide)]
    exact still
  have h3 : b.TimeMoves b3 := (h1.trans (h12.mono (by decide) fun _ => id)).trans (h23.mono (by decide) fun _ => id)
  have planned := b3.planPair_only s
  generalize b3.planPair s = d at planned ⊢
  split
  · exact ⟨h3, heard⟩
  · exact ⟨h3.trans (planned.mono (by decide) fun _ => False.elim), (congrArg Sch.pairHeard (planned.sch (by decide))).trans heard⟩

/-- Settling where a jump of network time waits that ends neither a servo's step nor the nodes' phases. -/
theorem Chip.settle_moves (b : Chip) (heard : b.sch.pairHeard = none) (jump : ∀ x, b.tim.jump = some x → x.2.1 ≠ 2 ∧ x.2.1 ≠ 3) :
    b.TimeMoves b.settle := by
  have acts : b.TimeMoves b.jumpAct ∧ b.jumpAct.sch.pairHeard = none := by
    unfold Chip.jumpAct
    split
    · exact ⟨.rfl' b _ _, heard⟩
    next before cause us hj =>
      obtain ⟨not2, not3⟩ := jump _ hj
      dsimp only at not2 not3 ⊢
      rw [if_neg (by omega)]
      have h0 : b.TimeMoves { b with tim := { b.tim with jump := none } } := (Chip.TimeMoves.same b).putTim (by decide) _
      obtain ⟨moves, kept⟩ := Chip.schJump_moves { b with tim := { b.tim with jump := none } } before us not3
      have gates (d : Chip) : d.GatesMove ([0, 1, 2].foldl Chip.gateJump d) :=
        Chip.Only.foldl _ (.rfl' d _ _) fun e p _ => Chip.GatesMove.gateJump (.rfl' e _ _) p
      refine ⟨(h0.trans moves).trans ((gates _).mono (by decide) fun _ => id), ?_⟩
      rw [(gates _).sch (by decide), kept]
      exact heard
  have quiet := acts.2
  unfold Chip.settle Chip.pairHeardAct
  rw [quiet]
  dsimp only
  exact acts.1.trans ((Chip.SeamOnly.ceilSend _).only.mono (by decide) fun k hk => le_trans (Nat.mul_le_mul_right 32 (by decide)) hk.1)

/-! ### Time that resumes (R117, R120) -/

theorem Chip.trigDisarm_only (b : Chip) (n code : Nat) : Chip.Only [.tim] (from_ 0x30000) b (b.trigDisarm n code) :=
  (((Chip.Only.rfl' b _ _).w (Reg.TIM_TRG_ARM n) _ (from_row rfl (by decide))).w (Reg.TIM_TRG_CODE n) _ (from_row rfl (by decide))).putTim (by decide) _

/-- The times of the triggers apart, disarming leaves time. -/
theorem Chip.trigDisarm_stitch (b : Chip) (n code : Nat) : (b.trigDisarm n code).tim.stitch = b.tim.stitch := rfl

theorem Chip.discont_only (b : Chip) (cause w12 us : Nat) :
    Chip.Only [.tim, .ntc, .out] (from_ 0x30000) b (b.discont cause w12 us) ∧
      (b.discont cause w12 us).tim.jump = some (b.tim.stitch, cause, us) := by
  refine ⟨?_, rfl⟩
  unfold Chip.discont Chip.restitch
  extract_lets b1 b2 b3 b4
  have h1 : Chip.Only [.tim, .ntc, .out] (from_ 0x30000) b b1 :=
    Chip.Only.w ((Chip.raise_only _ _ _ _).mono (by decide) fun _ hk => le_trans (Nat.mul_le_mul_right 32 (by decide)) hk.1) _ _ (by decide)
  have h3 : Chip.Only [.tim, .ntc, .out] (from_ 0x30000) b b3 := (h1.inc Reg.TIM_DISC_CNT (by decide)).foldl _ fun d n _ =>
    .ite ((Chip.Only.rfl' d _ _).w (Reg.TMR_DISC n) _ (from_row rfl (by decide))) (.rfl' d _ _)
  have h4 : Chip.Only [.tim, .ntc, .out] (from_ 0x30000) b b4 := h3.foldl _ fun d n _ =>
    .ite ((d.trigDisarm_only n _).mono (by decide) fun _ => id) (.rfl' d _ _)
  clear_value b4
  exact h4.putTim (by decide) _

/-- Time that resumes in a quiet block jumps for cause 0, or starts. -/
theorem Chip.timeResume_only (quiet : b.Quiet) : Chip.Only [.tim, .ntc, .out] (from_ 0x30000) b (b.timeResume 0) ∧
    ∀ x, (b.timeResume 0).tim.jump = some x → x.2.1 ≠ 2 ∧ x.2.1 ≠ 3 := by
  unfold Chip.timeResume
  split
  · obtain ⟨only, jump⟩ := b.discont_only 0 0 0
    refine ⟨only, fun x hx => ?_⟩
    rw [jump] at hx
    cases hx
    exact (by decide : (0 : Nat) ≠ 2 ∧ (0 : Nat) ≠ 3)
  · refine ⟨(Chip.Only.rfl' b _ _).putTim (by decide) _, fun x hx => ?_⟩
    rw [show ({ b with tim := { b.tim with started := true } } : Chip).tim.jump = b.tim.jump from rfl, quiet.1] at hx
    cases hx

/-! ### The clock monitor (R109 to R118) -/

/-- The registers of a forced switch. -/
def forcedFlds : List Fld := [Reg.CKR_FORCED_CNT, Reg.CKR_FORCED]

theorem Chip.forcedBack_shows (quiet : b.Quiet) :
    (∀ f : Fld, f.key < 0x30000 * 32 → f.key ≠ Reg.CKR_FORCED_CNT.key → f.key ≠ Reg.CKR_FORCED.key → b.forcedBack.r f = b.r f) ∧
    b.forcedBack.r Reg.CKR_FORCED_CNT = satAdd 32 (b.r Reg.CKR_FORCED_CNT) 1 ∧ b.forcedBack.clk = { b.clk with sw := none } ∧
    b.forcedBack.sch = b.sch ∧ ∀ x, b.forcedBack.tim.jump = some x → x.2.1 ≠ 2 ∧ x.2.1 ≠ 3 := by
  have counted : Chip.Only [.clk] (fun k => k = Reg.CKR_FORCED_CNT.key ∨ k = Reg.CKR_FORCED.key) b
      (((b.modClk (fun k => { k with sw := none })).inc Reg.CKR_FORCED_CNT).wb Reg.CKR_FORCED true) :=
    (((Chip.Only.rfl' b _ _).putClk (by decide) _).inc Reg.CKR_FORCED_CNT (.inl rfl)).w _ _ (.inr rfl)
  have count : (((b.modClk (fun k => { k with sw := none })).inc Reg.CKR_FORCED_CNT).wb Reg.CKR_FORCED true).r Reg.CKR_FORCED_CNT =
      satAdd 32 (b.r Reg.CKR_FORCED_CNT) 1 := (Chip.r_w_ne _ _ _ _ (by decide)).trans (Chip.r_inc_same _ _)
  have clk : (((b.modClk (fun k => { k with sw := none })).inc Reg.CKR_FORCED_CNT).wb Reg.CKR_FORCED true).clk = { b.clk with sw := none } := rfl
  unfold Chip.forcedBack
  dsimp only
  generalize ((b.modClk (fun k => { k with sw := none })).inc Reg.CKR_FORCED_CNT).wb Reg.CKR_FORCED true = c at counted count clk ⊢
  have quietC : c.Quiet := counted.quiet (by decide) (by decide) quiet
  obtain ⟨resumed, jump⟩ := Chip.timeResume_only quietC
  have all : Chip.Only [.tim, .ntc, .out] (from_ 0x30000) c (if c.limp then c else c.timeResume 0) := .ite (.rfl' c _ _) resumed
  refine ⟨fun f low cnt forced => ?_, ?_, ?_, ?_, ?_⟩
  · exact (all.2 f (Nat.not_le.mpr low)).trans (counted.2 f fun h => h.elim cnt forced)
  · exact (all.2 _ (by decide)).trans count
  · exact (all.clk (by decide)).trans clk
  · exact (all.sch (by decide)).trans (counted.sch (by decide))
  · split
    · intro x hx
      rw [quietC.1] at hx
      cases hx
    · exact jump

/-- A bank that is given another source loses lock. -/
theorem Chip.idleTo_changed {x : Nat} (h : b.r Reg.CKR_IDLE_SRC ≠ x) : (b.idleTo x).idleLocked = false ∧ (b.idleTo x).r Reg.CKR_IDLE_SRC = x % 4 := by
  have apart (k : Nat) : (pltFld k).key ≠ (plaFld k).key ∧
      (∀ f ∈ [Reg.CKR_IDLE_SRC, plaFld k, pltFld k], f.key ≠ Reg.CKR_ACTIVE_BANK.key) ∧ (plaFld k).w = 1 ∧
      (plaFld k).key ≠ Reg.CKR_IDLE_SRC.key ∧ (pltFld k).key ≠ Reg.CKR_IDLE_SRC.key := by
    unfold plaFld pltFld
    split <;> decide
  unfold Chip.idleTo
  rw [if_neg h]
  generalize hk : b.idleBank = k
  obtain ⟨pla, active, width, srcA, srcT⟩ := apart k
  have bank : (((b.w Reg.CKR_IDLE_SRC x).wb (plaFld k) false).wb (pltFld k) false).idleBank = k := by
    rw [Chip.idleBank, Chip.wb, Chip.r_w_ne _ _ _ _ (active _ (by simp)), Chip.wb, Chip.r_w_ne _ _ _ _ (active _ (by simp)),
      Chip.r_w_ne _ _ _ _ (active _ (by simp))]
    exact hk
  have cleared : (((b.w Reg.CKR_IDLE_SRC x).wb (plaFld k) false).wb (pltFld k) false).t (plaFld k) = false := by
    rw [Chip.t, Chip.wb, Chip.r_w_ne _ _ _ _ pla, Chip.wb, Chip.r_w_same, width]
    rfl
  refine ⟨by rw [Chip.idleLocked, bank, cleared, Bool.false_and], ?_⟩
  rw [Chip.wb, Chip.r_w_ne _ _ _ _ srcT, Chip.wb, Chip.r_w_ne _ _ _ _ srcA, Chip.r_w_same]
  rfl

/-- A bank that is not locked to its source is not locked to another it is given. -/
theorem Chip.idleTo_unlocked (h : b.idleLocked = false) (x : Nat) : (b.idleTo x).idleLocked = false := by
  by_cases e : b.r Reg.CKR_IDLE_SRC = x
  · rwa [Chip.idleTo, if_pos e]
  · exact (Chip.idleTo_changed e).1

/-- A lock bit that is clear stays clear where the idle bank is given a source. -/
theorem Chip.idleTo_clear {pll : Nat} (h : b.r (pllFld pll) = 0) (x : Nat) : (b.idleTo x).r (pllFld pll) = 0 := by
  have lock : ∀ f ∈ [Reg.CKR_A0_LOCK, Reg.CKR_T0_LOCK, Reg.CKR_A1_LOCK, Reg.CKR_T1_LOCK], ∀ g ∈ [Reg.CKR_A0_LOCK, Reg.CKR_T0_LOCK, Reg.CKR_A1_LOCK,
      Reg.CKR_T1_LOCK], f = g ∨ f.key ≠ g.key := by decide
  have src : ∀ f ∈ [Reg.CKR_A0_LOCK, Reg.CKR_T0_LOCK, Reg.CKR_A1_LOCK, Reg.CKR_T1_LOCK], Reg.CKR_IDLE_SRC.key ≠ f.key := by decide
  have hp : pllFld pll ∈ [Reg.CKR_A0_LOCK, Reg.CKR_T0_LOCK, Reg.CKR_A1_LOCK, Reg.CKR_T1_LOCK] := by
    unfold pllFld
    split <;> simp
  have hk (k : Nat) : plaFld k ∈ [Reg.CKR_A0_LOCK, Reg.CKR_T0_LOCK, Reg.CKR_A1_LOCK, Reg.CKR_T1_LOCK] ∧
      pltFld k ∈ [Reg.CKR_A0_LOCK, Reg.CKR_T0_LOCK, Reg.CKR_A1_LOCK, Reg.CKR_T1_LOCK] := by
    unfold plaFld pltFld
    split <;> simp
  have stays (c : Chip) (f : Fld) (hf : f ∈ [Reg.CKR_A0_LOCK, Reg.CKR_T0_LOCK, Reg.CKR_A1_LOCK, Reg.CKR_T1_LOCK]) (hc : c.r (pllFld pll) = 0) :
      (c.wb f false).r (pllFld pll) = 0 := by
    rcases lock f hf _ hp with e | e
    · rw [← e, Chip.wb, Chip.r_w_same]
      exact Nat.zero_mod _
    · exact (Chip.r_w_ne _ _ _ _ e).trans hc
  unfold Chip.idleTo
  split
  · exact h
  · exact stays _ _ (hk _).2 (stays _ _ (hk _).1 ((Chip.r_w_ne _ _ _ _ (src _ hp)).trans h))

theorem Chip.override_only (b : Chip) (src loop bound applied : Nat) (f : Fld) :
    Chip.Only [.overrides, .ntc, .out] (among [f]) b (b.override src loop bound applied (some f)) := by
  unfold Chip.override
  refine .ite (.rfl' b _ _) ?_
  dsimp only
  exact (((Chip.Only.rfl' b _ _).putOverrides (by decide) _).inc f (among_mem (by simp))).raise _ _ _ (by decide)

/-- A forced switch to a bank that is not locked stops the domains and waits. -/
theorem Chip.switchTo_waits (h : b.idleLocked = false) (target ms : Nat) :
    b.switchTo target true ms = Chip.domains ((b.idleTo target).modClk (fun k => { k with sw := some (target, true) })) 0x155 := by
  rw [Chip.switchTo]
  dsimp only
  rw [Chip.idleTo_unlocked h]
  rfl

/-- The registers of a forced switch that waits. -/
def waitFlds : List Fld := Reg.CKR_DOMAIN_STATE :: idleFlds

theorem Chip.waits_shows (b : Chip) (target : Nat) :
    ∃ c, c = Chip.domains ((b.idleTo target).modClk (fun k => { k with sw := some (target, true) })) 0x155 ∧
      Chip.Only [.clk] (among waitFlds) b c ∧ c.r Reg.CKR_DOMAIN_STATE = 0x155 ∧ c.clk.sw = some (target, true) := by
  refine ⟨_, rfl, ?_, Chip.r_w_same ((b.idleTo target).modClk (fun k => { k with sw := some (target, true) })) Reg.CKR_DOMAIN_STATE 0x155, rfl⟩
  have idle := (b.idleTo_only target).mono (qs := [.clk]) (ss := among waitFlds) (by decide) (among_sub (by decide))
  generalize b.idleTo target = d at idle ⊢
  unfold Chip.domains Chip.xingDeliver Chip.modClk
  exact ((idle.putClk (by decide) _).w _ _ (among_mem (by decide))).putClk (by decide) _

/-- The main source that stops, the idle bank not locked, fails, and a forced switch waits with the domains stopped (R110, R111). -/
theorem Chip.clkStopped_shows {bad : Nat} (hb : bad = 1 ∨ bad = 2) (main : b.r Reg.CKR_MAIN_SRC = bad) (idle : b.idleLocked = false) (quiet : b.Quiet) :
    b.clkStopped.Quiet ∧ b.clkStopped.qst bad = 6 ∧ b.clkStopped.r (failFld bad) = 1 ∧ b.clkStopped.r Reg.CKR_DOMAIN_STATE = 0x155 ∧
      b.clkStopped.r Reg.CKR_MAIN_SRC = bad ∧ b.clkStopped.clk.sw.any (fun x => x.2) = true := by
  have hs : bad = 1 ∨ bad = 2 ∨ bad = 3 := hb.imp_right .inl
  obtain ⟨qst, fail⟩ := Chip.srcFail_shows hs b 3
  obtain ⟨-, flds, low⟩ := srcFlds_apart hs
  have bank : ∀ f ∈ Reg.CKR_MAIN_SRC :: Reg.CKR_ACTIVE_BANK :: idleFlds, ∀ g ∈ [qstFld bad, failFld bad], f.key ≠ g.key := by
    rcases hb with rfl | rfl <;> decide
  have shown : ∀ f ∈ [qstFld bad, failFld bad], f.key < 0x50000 * 32 ∧ ∀ g ∈ Reg.CKR_CLAMP_CNT :: waitFlds, f.key ≠ g.key := by
    rcases hb with rfl | rfl <;> decide
  have failed := b.srcFail_only bad 3
  have locked {c d : Chip} {ps : List Part} {l : List Fld} (h : Chip.Only ps (among l) c d) (hl : ∀ f ∈ Reg.CKR_ACTIVE_BANK :: idleFlds, ∀ g ∈ l, f.key ≠ g.key) :
      d.idleLocked = c.idleLocked := by
    have reg (f : Fld) (hf : f ∈ Reg.CKR_ACTIVE_BANK :: idleFlds) : d.r f = c.r f := by
      have far : ∀ f ∈ Reg.CKR_ACTIVE_BANK :: idleFlds, f.key < 0x50000 * 32 := by decide
      exact h.2 f (not_among (hl f hf) (far f hf))
    obtain ⟨pla, plt⟩ := plaFld_idle c
    have idle : d.idleBank = c.idleBank := by rw [Chip.idleBank, reg _ (by simp), Chip.idleBank]
    rw [Chip.idleLocked, idle, Chip.t, reg _ (List.mem_cons_of_mem _ pla), reg _ (by simp [idleFlds]), Chip.t, reg _ (List.mem_cons_of_mem _ plt),
      Chip.idleLocked, Chip.t, Chip.t]
  have lockedC : (b.srcFail bad 3).idleLocked = false := (locked failed fun f hf => bank f (List.mem_cons_of_mem _ hf)).trans idle
  have mainC : (b.srcFail bad 3).r Reg.CKR_MAIN_SRC = bad := (failed.2 _ (not_among (bank _ (by simp)) (by decide))).trans main
  have eq : b.clkStopped = (if bad ≠ 0 ∧ (b.srcFail bad 3).r Reg.CKR_PIN_SRC = bad then
      (b.srcFail bad 3).override Src.CKR 3 0x10000 (b.srcFail bad 3).nextSrc (some Reg.CKR_CLAMP_CNT) else b.srcFail bad 3).switchTo
        (b.srcFail bad 3).nextSrc true 0 := by
    have there : bad ≠ 0 := by omega
    rw [Chip.clkStopped, main, if_neg there, Chip.clkTrip, main, if_neg there]
    rfl
  rw [eq]
  generalize b.srcFail bad 3 = c at *
  have held : Chip.Only [.overrides, .ntc, .out] (among [Reg.CKR_CLAMP_CNT]) c
      (if bad ≠ 0 ∧ c.r Reg.CKR_PIN_SRC = bad then c.override Src.CKR 3 0x10000 c.nextSrc (some Reg.CKR_CLAMP_CNT) else c) :=
    .ite (c.override_only _ _ _ _ _) (.rfl' c _ _)
  generalize (if bad ≠ 0 ∧ c.r Reg.CKR_PIN_SRC = bad then c.override Src.CKR 3 0x10000 c.nextSrc (some Reg.CKR_CLAMP_CNT) else c) = d at held ⊢
  rw [Chip.switchTo_waits ((locked held (by decide)).trans lockedC)]
  obtain ⟨e, he, waits, state, sw⟩ := d.waits_shows c.nextSrc
  rw [← he]
  have reg {f : Fld} (lowF : f.key < 0x50000 * 32) (hf : ∀ g ∈ Reg.CKR_CLAMP_CNT :: waitFlds, f.key ≠ g.key) : e.r f = c.r f :=
    (waits.2 f (not_among (fun g hg => hf g (List.mem_cons_of_mem _ hg)) lowF)).trans
      (held.2 f (not_among (fun g hg => hf g (by simp only [List.mem_singleton] at hg; simp [hg])) lowF))
  obtain ⟨lowQ, farQ⟩ := shown (qstFld bad) (by simp)
  obtain ⟨lowF, farF⟩ := shown (failFld bad) (by simp)
  exact ⟨waits.quiet (by decide) (by decide) (held.quiet (by decide) (by decide) (failed.quiet (by decide) (by decide) quiet)),
    (reg lowQ farQ).trans qst, (reg lowF farF).trans fail, state, (reg (by decide) (by decide)).trans mainC, by rw [sw]; rfl⟩

/-- The lock bits of the banks' PLLs. -/
def lockFlds : List Fld := [Reg.CKR_A0_LOCK, Reg.CKR_T0_LOCK, Reg.CKR_A1_LOCK, Reg.CKR_T1_LOCK]

/-- The registers of the sources, and those that show the main source and count the forced switches. -/
def pllKept : List Fld := [Reg.CKR_XO_QST, Reg.CKR_TCXO_QST, Reg.CKR_LF_QST, Reg.CKR_XO_EN, Reg.CKR_TCXO_EN, Reg.CKR_LF_EN, Reg.CKR_XO_FAIL,
  Reg.CKR_TCXO_FAIL, Reg.CKR_LF_FAIL, Reg.CKR_MAIN_SRC, Reg.CKR_FORCED_CNT]

/-- A PLL of the idle bank that loses lock where an orderly switch waits for its source: that source fails, and the switch ends on the present
bank (R118, log entry 98). -/
theorem Chip.pllLost_ends {pll x : Nat} (hp : pll < 4) (lock : b.t (pllFld pll) = true) (other : pll / 2 ≠ b.r Reg.CKR_ACTIVE_BANK)
    (sw : b.clk.sw = some (x, false)) (hx : x = 1 ∨ x = 2) (main : b.r Reg.CKR_MAIN_SRC ≠ 0) (apart : b.r Reg.CKR_MAIN_SRC ≠ x)
    (ok : b.srcOk (b.r Reg.CKR_MAIN_SRC) = true) (quiet : b.Quiet) :
    (b.pllLost pll).settle.r (pllFld pll) = 0 ∧ (b.pllLost pll).settle.qst x = 6 ∧ (b.pllLost pll).settle.r (failFld x) = 1 ∧
      (b.pllLost pll).settle.clk.sw = none ∧ (b.pllLost pll).settle.r Reg.CKR_FORCED_CNT = satAdd 32 (b.r Reg.CKR_FORCED_CNT) 1 ∧
      (b.pllLost pll).settle.r Reg.CKR_MAIN_SRC = b.r Reg.CKR_MAIN_SRC := by
  have hs : x = 1 ∨ x = 2 ∨ x = 3 := hx.imp_right .inl
  have x0 : x ≠ 0 := by omega
  have lockMem : pllFld pll ∈ lockFlds := by
    unfold pllFld
    split <;> simp [lockFlds]
  have lockW : (pllFld pll).w = 1 := (by decide : ∀ f ∈ lockFlds, f.w = 1) _ lockMem
  have lockFar : ∀ f ∈ pllKept, (pllFld pll).key ≠ f.key := (by decide : ∀ l ∈ lockFlds, ∀ f ∈ pllKept, l.key ≠ f.key) _ lockMem
  have low : ∀ f ∈ lockFlds ++ pllKept, f.key < 0x30000 * 32 := by decide
  have srcs (n : Nat) : qstFld n ∈ pllKept ∧ enFld n ∈ pllKept ∧ failFld n ∈ pllKept := by
    unfold qstFld enFld failFld
    refine ⟨?_, ?_, ?_⟩ <;> (repeat' split) <;> simp [pllKept]
  -- the bit is cleared, and the source fails
  have cleared : (b.wb (pllFld pll) false).r (pllFld pll) = 0 := by
    rw [Chip.wb, Chip.r_w_same, lockW]
    rfl
  have failed := (b.wb (pllFld pll) false).srcFail_only x 5
  obtain ⟨qst, fail⟩ := Chip.srcFail_shows hs (b.wb (pllFld pll) false) 5
  have lost : b.pllLost pll = (b.wb (pllFld pll) false).newFails x false := by
    rw [Chip.pllLost, if_neg (by simp [lock]; omega)]
    dsimp only
    rw [if_neg other, show (b.wb (pllFld pll) false).clk = b.clk from rfl, sw]
  have kept (f : Fld) (hf : f ∈ pllKept) (apart : f.key ≠ (qstFld x).key ∧ f.key ≠ (failFld x).key) :
      ((b.wb (pllFld pll) false).srcFail x 5).r f = b.r f := by
    refine (failed.2 f (not_among (by simpa using apart) (Nat.lt_trans (low f (List.mem_append_right _ hf)) (by decide)))).trans ?_
    exact Chip.r_w_ne _ _ _ _ (lockFar f hf)
  have mainQst : (qstFld (b.r Reg.CKR_MAIN_SRC)).key ≠ (qstFld x).key ∧ (qstFld (b.r Reg.CKR_MAIN_SRC)).key ≠ (failFld x).key ∧
      (enFld (b.r Reg.CKR_MAIN_SRC)).key ≠ (qstFld x).key ∧ (enFld (b.r Reg.CKR_MAIN_SRC)).key ≠ (failFld x).key := by
    generalize b.r Reg.CKR_MAIN_SRC = m at main apart
    by_cases m1 : m = 1
    · obtain rfl : x = 2 := by omega
      subst m1
      decide
    · by_cases m2 : m = 2
      · obtain rfl : x = 1 := by omega
        subst m2
        decide
      · rw [show qstFld m = Reg.CKR_LF_QST by rw [qstFld, if_neg m1, if_neg m2], show enFld m = Reg.CKR_LF_EN by rw [enFld, if_neg m1, if_neg m2]]
        rcases hx with rfl | rfl <;> decide
  have far : ∀ f ∈ [Reg.CKR_MAIN_SRC, Reg.CKR_FORCED_CNT], f ∈ pllKept ∧ f.key ≠ (qstFld x).key ∧ f.key ≠ (failFld x).key := by
    rcases hx with rfl | rfl <;> decide
  have mainC := kept Reg.CKR_MAIN_SRC (far _ (by simp)).1 (far _ (by simp)).2
  have cntC := kept Reg.CKR_FORCED_CNT (far _ (by simp)).1 (far _ (by simp)).2
  have okC : ((b.wb (pllFld pll) false).srcFail x 5).srcOk (b.r Reg.CKR_MAIN_SRC) = true := by
    rw [Chip.srcOk_congr (b := b) (by rw [Chip.t, kept _ (srcs _).2.1 ⟨mainQst.2.2.1, mainQst.2.2.2⟩, Chip.t])
      (kept _ (srcs _).1 ⟨mainQst.1, mainQst.2.1⟩)]
    exact ok
  have lockC : ((b.wb (pllFld pll) false).srcFail x 5).r (pllFld pll) = 0 := by
    refine (failed.2 _ (not_among ?_ (Nat.lt_trans (low _ (List.mem_append_left _ lockMem)) (by decide)))).trans cleared
    simpa using ⟨lockFar _ (srcs x).1, lockFar _ (srcs x).2.2⟩
  have quietC := failed.quiet (by decide) (by decide) (show (b.wb (pllFld pll) false).Quiet from quiet)
  rw [lost, Chip.newFails, if_neg x0]
  generalize (b.wb (pllFld pll) false).srcFail x 5 = c at qst fail mainC cntC okC lockC quietC ⊢
  -- the switch ends on the present bank
  obtain ⟨same, count, clk, sch, jump⟩ := Chip.forcedBack_shows quietC
  have back : ∀ f ∈ pllKept ++ lockFlds, f.key ≠ Reg.CKR_FORCED_CNT.key → c.forcedBack.r f = c.r f := by
    have apart : ∀ f ∈ pllKept ++ lockFlds, f.key ≠ Reg.CKR_FORCED.key ∧ f.key < 0x30000 * 32 := by decide
    exact fun f hf ne => same f (apart f hf).2 ne (apart f hf).1
  have eq : (if (false = true) ∨ ¬ c.srcOk (c.r Reg.CKR_MAIN_SRC) = true then c.switchTo c.nextSrc true 0
      else if c.r Reg.CKR_MAIN_SRC = 0 ∧ c.forcedBack.nextSrc ≠ 0 then c.forcedBack.switchTo c.forcedBack.nextSrc false 0 else c.forcedBack.relock) =
      c.forcedBack.idleTo c.forcedBack.nextSrc := by
    rw [if_neg (by rw [mainC, okC]; decide), if_neg (by rw [mainC]; exact fun h => main h.1), Chip.relock, clk]
    rfl
  rw [eq]
  have lockD : c.forcedBack.r (pllFld pll) = 0 :=
    (back _ (List.mem_append_right _ lockMem) ((by decide : ∀ f ∈ lockFlds, f.key ≠ Reg.CKR_FORCED_CNT.key) _ lockMem)).trans lockC
  have backSrc (f : Fld) (hf : f ∈ [Reg.CKR_XO_QST, Reg.CKR_TCXO_QST, Reg.CKR_XO_FAIL, Reg.CKR_TCXO_FAIL, Reg.CKR_MAIN_SRC]) : c.forcedBack.r f = c.r f := by
    have sub : ∀ f ∈ [Reg.CKR_XO_QST, Reg.CKR_TCXO_QST, Reg.CKR_XO_FAIL, Reg.CKR_TCXO_FAIL, Reg.CKR_MAIN_SRC],
      f ∈ pllKept ++ lockFlds ∧ f.key ≠ Reg.CKR_FORCED_CNT.key := by decide
    exact back f (sub f hf).1 (sub f hf).2
  have srcMem : qstFld x ∈ [Reg.CKR_XO_QST, Reg.CKR_TCXO_QST, Reg.CKR_XO_FAIL, Reg.CKR_TCXO_FAIL, Reg.CKR_MAIN_SRC] ∧
      failFld x ∈ [Reg.CKR_XO_QST, Reg.CKR_TCXO_QST, Reg.CKR_XO_FAIL, Reg.CKR_TCXO_FAIL, Reg.CKR_MAIN_SRC] := by
    rcases hx with rfl | rfl <;> decide
  have qstD := (backSrc _ srcMem.1).trans qst
  have failD := (backSrc _ srcMem.2).trans fail
  have mainD := (backSrc Reg.CKR_MAIN_SRC (by simp)).trans mainC
  generalize c.forcedBack = d at count clk sch jump lockD qstD failD mainD ⊢
  have idle := d.idleTo_only d.nextSrc
  have lockE := Chip.idleTo_clear lockD d.nextSrc
  generalize d.idleTo d.nextSrc = e at idle lockE ⊢
  have moves := e.settle_moves (by rw [idle.sch (by decide), sch]; exact quietC.2) (by rw [idle.tim (by decide)]; exact jump)
  have final (f : Fld) (hf : f ∈ [Reg.CKR_XO_QST, Reg.CKR_TCXO_QST, Reg.CKR_XO_FAIL, Reg.CKR_TCXO_FAIL, Reg.CKR_MAIN_SRC, Reg.CKR_FORCED_CNT]) :
      e.settle.r f = d.r f := by
    have apart : ∀ f ∈ [Reg.CKR_XO_QST, Reg.CKR_TCXO_QST, Reg.CKR_XO_FAIL, Reg.CKR_TCXO_FAIL, Reg.CKR_MAIN_SRC, Reg.CKR_FORCED_CNT],
      (∀ g ∈ idleFlds, f.key ≠ g.key) ∧ f.key < 0x30000 * 32 := by decide
    exact (moves.2 f (Nat.not_le.mpr (apart f hf).2)).trans (idle.2 f (not_among (apart f hf).1 (Nat.lt_trans (apart f hf).2 (by decide))))
  have more (f : Fld) (hf : f ∈ [Reg.CKR_XO_QST, Reg.CKR_TCXO_QST, Reg.CKR_XO_FAIL, Reg.CKR_TCXO_FAIL, Reg.CKR_MAIN_SRC]) :
      f ∈ [Reg.CKR_XO_QST, Reg.CKR_TCXO_QST, Reg.CKR_XO_FAIL, Reg.CKR_TCXO_FAIL, Reg.CKR_MAIN_SRC, Reg.CKR_FORCED_CNT] :=
    List.mem_append_left [Reg.CKR_FORCED_CNT] hf
  refine ⟨(moves.2 _ (Nat.not_le.mpr (low _ (List.mem_append_left _ lockMem)))).trans lockE, (final _ (more _ srcMem.1)).trans qstD,
    (final _ (more _ srcMem.2)).trans failD, ?_, (final _ (by simp)).trans (count.trans (by rw [cntC])), (final _ (by simp)).trans mainD⟩
  rw [moves.clk (by decide), idle.clk (by decide), clk]

/-! ### Crossings (R123 to R125) -/

theorem Chip.xingWake_stays {e : XingEv} (h : (b.xingEvent e.xing e.value).domainRuns (xingDst e.xing) = true ∨ (b.xingEvent e.xing e.value).pstate ≠ 4 ∨
    Config.crossingCount ≤ e.xing) : b.xingWake e = b.xingEvent e.xing e.value := by
  rw [Chip.xingWake]
  refine if_neg ?_
  rintro ⟨doze, there, held⟩
  rcases h with h | h | h
  · exact held h
  · exact h doze
  · omega

/-- An event or a value at a crossing leaves all but the crossings, and where one is lost the flag of it. -/
theorem Chip.xingEvent_only (b : Chip) (id v : Nat) : Chip.Only [.clk, .ntc, .out] (among [Reg.CKR_XING_OVR]) b (b.xingEvent id v) := by
  have put (x : Xing) : Chip.Only [.clk, .ntc, .out] (among [Reg.CKR_XING_OVR]) b (b.xingPut id x) := (Chip.Only.rfl' b _ _).putClk (by decide) _
  unfold Chip.xingEvent Chip.xingLose
  dsimp only
  refine .ite (.rfl' b _ _) (.ite (put _) (.ite (.rfl' b _ _) (.ite (put _) (.ite (put _) (.ite (put _) ?_)))))
  exact ((put _).w _ _ (among_mem (by simp))).raise _ _ _ (by decide)

theorem Chip.xingEvent_runs (b : Chip) (id v d : Nat) : (b.xingEvent id v).domainRuns d = b.domainRuns d ∧ (b.xingEvent id v).pstate = b.pstate := by
  have only := b.xingEvent_only id v
  have reg (f : Fld) (apart : f.key ≠ Reg.CKR_XING_OVR.key) (low : f.key < 0x50000 * 32) : (b.xingEvent id v).r f = b.r f :=
    only.2 f (not_among (by simpa using apart) low)
  unfold Chip.domainRuns Chip.pstate Chip.limp Chip.t
  rw [reg _ (by decide) (by decide), reg _ (by decide) (by decide), reg _ (by decide) (by decide)]
  exact ⟨rfl, rfl⟩

/-! ### An exit from DOZE at the first point of its entry (R512) -/

theorem Chip.TimeMoves.raise (h : b.TimeMoves c) (src code arg : Nat) : b.TimeMoves (c.raise src code arg) :=
  h.trans ((c.raise_only src code arg).mono (by decide) fun _ hk => le_trans (Nat.mul_le_mul_right 32 (by decide)) hk.1)

/-- Registers beyond the clocks' that are not a group's MUTED. -/
abbrev groupKey (k : Nat) : Prop := from_ 0x30000 k ∧ (offs 0x80100 0x80200 k → k % 2048 ≠ 4)

theorem groupKey_row {f : Fld} {a g : Nat} (hf : f.off = a + 0x40 * g)
    (apart : (Nat.ble 0x30000 a && Nat.blt f.lo 32 && a * 32 % 2048 + f.lo != 4) = true) : groupKey f.key := by
  simp only [Bool.and_eq_true, bne_iff_ne, Nat.ble_eq, Nat.blt_eq] at apart
  unfold groupKey from_ offs Fld.key
  omega

theorem groupKey_beside {k : Nat} (h : besideRfc k) : groupKey k := by
  simp only [besideRfc, groupKey, offs, from_] at *
  omega

/-- From the first block to the second groups have been driven, and none is muted or no longer. -/
abbrev Chip.GroupsMove (b c : Chip) : Prop := Chip.Only muteParts groupKey b c

theorem Chip.FramesEnd.groups (h : b.FramesEnd c) : b.GroupsMove c := h.mono (fun _ => id) fun _ => groupKey_beside

theorem Chip.GroupsMove.rfGo (h : b.GroupsMove c) (g st : Nat) : b.GroupsMove (c.rfGo g st) :=
  h.trans ((c.rfGo_only g st).mono (by decide) fun _ hk => hk ▸ groupKey_row rfl rfl)

theorem Chip.GroupsMove.endGroup (h : b.GroupsMove c) (g cause : Nat) : b.GroupsMove (c.endGroup g cause) :=
  h.trans ((c.endGroup_only g cause).mono (by decide) fun _ hk => groupKey_beside (besideRfc_from (rxEndKey_from hk) (by decide)))

theorem Chip.GroupsMove.txLate (h : b.GroupsMove c) (id cause : Nat) : b.GroupsMove (c.txLate id cause) := by
  unfold Chip.txLate
  split
  · exact h
  next f _ =>
    have counted {x : Fld} (hx : groupKey x.key) : b.GroupsMove ((c.inc x).note (kLate f.chain cause) 1) := (h.inc x hx).putAcc (by decide) _
    have count : groupKey (if cause = 0 then Reg.RFC_SETTLE_LATE_CNT f.chain else Reg.RFC_CAL_LATE_CNT f.chain).key := by
      split
      · exact groupKey_row (f := Reg.RFC_SETTLE_LATE_CNT f.chain) rfl rfl
      · exact groupKey_row (f := Reg.RFC_CAL_LATE_CNT f.chain) rfl rfl
    exact (counted count).trans ((Chip.FramesEnd.same _).txFail id LATE).groups

theorem Chip.GroupsMove.judgeAll (h : b.GroupsMove c) (g : Nat) : b.GroupsMove (c.judgeAll g) :=
  h.foldl _ fun d e _ => by
    unfold Chip.judge
    split
    · exact .rfl' d _ _
    · dsimp only
      exact .ite (.rfl' d _ _) (.ite ((d.txPut_only _ _).mono (by decide) fun _ => False.elim) (Chip.GroupsMove.txLate (.rfl' d _ _) _ _))

theorem Chip.GroupsMove.ackCancel (h : b.GroupsMove c) (id : Nat) : b.GroupsMove (c.ackCancel id) := by
  unfold Chip.ackCancel
  split
  · exact h
  next f _ =>
    have freed : b.GroupsMove (if f.granted then c.dutySet f.chain f.bucket (· - f.airUs) else c) :=
      .ite (h.trans ((Chip.FramesEnd.same c).dutySet f _ _).groups) h
    exact ((freed.trans ((Chip.FramesEnd.same _).txDel id).groups).inc Reg.MAC_ACK_SKIPPED (by decide)).inc (Reg.TXP_ACK_DROPPED f.chain)
      (groupKey_row rfl rfl)

theorem Chip.GroupsMove.calEnter (h : b.GroupsMove c) (g trigger : Nat) : b.GroupsMove (c.calEnter g trigger) := by
  unfold Chip.calEnter
  extract_lets forced waited b1 b2 b3 b4
  have h1 : b.GroupsMove b1 := h.endGroup g _
  have h2 : b.GroupsMove b2 := h1.foldl _ fun d e _ => Chip.GroupsMove.ackCancel (.rfl' d _ _) _
  have h3 : b.GroupsMove b3 := (((h2.rfGo g _).w (Reg.RFC_CAL_PENDING g) _ (groupKey_row rfl rfl)).w (Reg.RFC_CAL_FORCED g) _
    (groupKey_row rfl rfl)).w (Reg.RFC_CAL_WAIT g) _ (groupKey_row rfl rfl)
  exact Chip.GroupsMove.judgeAll (h3.trans ((Chip.modGrp_only _ g _ _).mono (by decide) fun _ => id)) g

theorem Chip.GroupsMove.synthOn (h : b.GroupsMove c) (g : Nat) : b.GroupsMove (c.synthOn g) := .ite (h.rfGo g _) (h.calEnter g 1)

theorem Chip.GroupsMove.fromSynth (h : b.GroupsMove c) (g : Nat) : b.GroupsMove (c.fromSynth g) :=
  h.trans ((c.fromSynth_only g).mono (by decide) fun _ hk => hk ▸ groupKey_row rfl rfl)

theorem Chip.GroupsMove.rfDrive (h : b.GroupsMove c) (g : Nat) : b.GroupsMove (c.rfDrive g) := by
  have up {d : Chip} (hd : b.GroupsMove d) (p : Prop) [Decidable p] : b.GroupsMove (if p then d else d.synthOn g) := .ite hd (hd.synthOn g)
  unfold Chip.rfDrive
  dsimp only
  split
  · exact .ite h (up (h.rfGo g _) _)
  · exact .ite (h.rfGo g _) (up h _)
  · exact h.fromSynth g
  · exact .ite h (((h.endGroup g _).rfGo g _).fromSynth g)
  · exact h

theorem Chip.rfDriveAll_only (b : Chip) : b.GroupsMove b.rfDriveAll :=
  Chip.Only.foldl _ (.rfl' b _ _) fun d g _ => Chip.GroupsMove.rfDrive (.rfl' d _ _) g

theorem Chip.wurTell_only (b : Chip) : Chip.Only [.pwr, .ntc, .out] (offs 0x50000 0x60000) b b.wurTell :=
  ((Chip.Only.rfl' b _ _).putPwr (by decide) _).foldl _ fun d _ _ => (d.raise_only _ _ _).mono (by decide) fun _ => id

/-- At the first point of its entry DOZE is left at once. -/
theorem Chip.dozeExit_early (b : Chip) (cause : Nat) {x : WakeIn} (early : x.stage = 0) :
    Chip.Only ([.clk, .pwr] ++ muteParts) anyReg b (b.dozeExit cause x) ∧ (b.dozeExit cause x).r Reg.PWR_PSTATE = 0 := by
  have domains (d : Chip) : Chip.Only [.clk, .pwr, .ntc, .out] anyReg d (d.domains 0) := ((Chip.Only.rfl' d _ _).w _ _ trivial).putClk (by decide) _
  unfold Chip.dozeExit
  extract_lets b0 out
  rw [if_pos early]
  have h0 : Chip.Only [.clk, .pwr, .ntc, .out] anyReg b (b0.domains 0) :=
    Chip.Only.trans (.ite ((Chip.Only.rfl' b _ _).w _ _ trivial) (.rfl' b _ _)) (domains b0)
  generalize b0.domains 0 = c at h0 ⊢
  have off : (((c.w Reg.PWR_PSTATE 0).w Reg.PWR_WAKE_CAUSE cause).modPwr (fun y => { y with exitAt := none, busyTo := c.nowNs + exitUs 4 * 1000 })).r
      Reg.PWR_PSTATE = 0 := (Chip.r_w_ne _ _ _ _ (by decide)).trans (Chip.r_w_same _ _ _)
  have low : Chip.Only [.clk, .pwr, .ntc, .out] anyReg c
      (((c.w Reg.PWR_PSTATE 0).w Reg.PWR_WAKE_CAUSE cause).modPwr (fun y => { y with exitAt := none, busyTo := c.nowNs + exitUs 4 * 1000 })) :=
    (((Chip.Only.rfl' c _ _).w _ _ trivial).w _ _ trivial).putPwr (by decide) _
  have told : out c = Chip.xingDeliver (Chip.wurTell
      (((c.w Reg.PWR_PSTATE 0).w Reg.PWR_WAKE_CAUSE cause).modPwr (fun y => { y with exitAt := none, busyTo := c.nowNs + exitUs 4 * 1000 }))) := rfl
  rw [told]
  generalize ((c.w Reg.PWR_PSTATE 0).w Reg.PWR_WAKE_CAUSE cause).modPwr (fun y => { y with exitAt := none, busyTo := c.nowNs + exitUs 4 * 1000 }) = d
    at off low ⊢
  have tell := d.wurTell_only
  generalize d.wurTell = e at tell ⊢
  have deliver : Chip.Only [.clk, .pwr, .ntc, .out] noReg e e.xingDeliver := (Chip.Only.rfl' e _ _).putClk (by decide) _
  generalize e.xingDeliver = f at deliver ⊢
  have driven := f.rfDriveAll_only
  constructor
  · exact ((h0.trans low).trans ((tell.mono (by decide) fun _ _ => trivial).trans (deliver.mono (by decide) fun _ => False.elim))).mono (by decide)
      (fun _ => id) |>.trans (driven.mono (by decide) fun _ _ => trivial)
  · rw [driven.2 _ (by decide), deliver.2 _ id, tell.2 _ (by decide), off]

/-! ### SRC_CTRL with the enables unchanged (R127, R129) -/

theorem Chip.srcSet_same {n : Nat} {en : Bool} (h : b.t (enFld n) = en) : b.srcSet n en = b := if_pos h

/-- A write of SRC_CTRL that leaves the enables takes pin and return mode. -/
theorem Chip.srcCtrl_pins {v : Nat} (legal : bits v 4 2 ≠ 3) (tcxo : bit v 0 = b.t Reg.CKR_TCXO_EN) (xo : bit v 1 = b.t Reg.CKR_XO_EN)
    (lf : bit v 2 = b.t Reg.CKR_LF_EN) (padX : (bit v 1 && b.parked 0x1C) = false) (padL : (bit v 2 && b.parked 0x1D) = false) :
    b.srcCtrl v = (b.pinSet (bits v 4 2)).wb Reg.CKR_RETURN_AUTO (bit v 8) := by
  have pins : Chip.Only [.overrides] (fun k => k = Reg.CKR_PIN_SRC.key ∨ k = Reg.CKR_RETURN_AUTO.key) b
      ((b.pinSet (bits v 4 2)).wb Reg.CKR_RETURN_AUTO (bit v 8)) := by
    unfold Chip.pinSet
    exact (Chip.Only.w (.ite (.rfl' b _ _) ((Chip.Only.rfl' b _ _).putOverrides (by decide) _)) _ _ (.inl rfl)).w _ _ (.inr rfl)
  rw [Chip.srcCtrl, if_neg legal, if_neg (by rw [padX, padL]; decide)]
  dsimp only
  generalize (b.pinSet (bits v 4 2)).wb Reg.CKR_RETURN_AUTO (bit v 8) = c at pins ⊢
  have en (n : Nat) : c.t (enFld n) = b.t (enFld n) := pins.t _ (by
    unfold enFld
    (repeat' split) <;> decide)
  rw [Chip.srcSet_same (n := 3) ((en 3).trans lf.symm), Chip.srcSet_same (n := 1) ((en 1).trans xo.symm),
    Chip.srcSet_same (n := 2) ((en 2).trans tcxo.symm), if_pos ⟨tcxo, xo⟩]

theorem bits_lt (v lo w : Nat) : bits v lo w < 2 ^ w := Nat.mod_lt _ (Nat.two_pow_pos w)

theorem Chip.pins_shows (b : Chip) (v : Nat) :
    Chip.Only [.overrides] (among [Reg.CKR_PIN_SRC, Reg.CKR_RETURN_AUTO]) b ((b.pinSet (bits v 4 2)).wb Reg.CKR_RETURN_AUTO (bit v 8)) ∧
    ((b.pinSet (bits v 4 2)).wb Reg.CKR_RETURN_AUTO (bit v 8)).r Reg.CKR_PIN_SRC = bits v 4 2 ∧
    ((b.pinSet (bits v 4 2)).wb Reg.CKR_RETURN_AUTO (bit v 8)).r Reg.CKR_RETURN_AUTO = b2n (bit v 8) := by
  refine ⟨?_, ?_, ?_⟩
  · unfold Chip.pinSet
    exact (Chip.Only.w (.ite (.rfl' b _ _) ((Chip.Only.rfl' b _ _).putOverrides (by decide) _)) _ _ (among_mem (by simp))).w _ _ (among_mem (by simp))
  · rw [Chip.wb, Chip.r_w_ne _ _ _ _ (by decide), Chip.pinSet, Chip.r_w_same]
    exact Nat.mod_eq_of_lt (bits_lt v 4 2)
  · rw [Chip.wb, Chip.r_w_same]
    cases bit v 8 <;> rfl

/-! ### Resets of a group (R122, R129) -/

theorem Chip.groupResets_one {g : Nat} (hg : g < 4) : b.groupResets (2 ^ g) = if bit (b.r Reg.CKR_GRP_BUSY) g then b
    else (b.groupReset g).w Reg.CKR_GRP_BUSY (setBit (b.r Reg.CKR_GRP_BUSY) g) := by
  have only : (List.range 4).filter (fun i => bit (2 ^ g) i && !bit (b.r Reg.CKR_GRP_BUSY) i) = if bit (b.r Reg.CKR_GRP_BUSY) g then [] else [g] := by
    have named : (List.range 4).filter (fun i => bit (2 ^ g) i && !bit (b.r Reg.CKR_GRP_BUSY) i) =
        (List.range 4).filter (fun i => i == g && !bit (b.r Reg.CKR_GRP_BUSY) g) := by
      refine List.filter_congr fun i hi => ?_
      have power : ∀ g < 4, ∀ i ∈ List.range 4, bit (2 ^ g) i = (i == g) := by decide
      rw [power g hg i hi]
      by_cases e : i = g
      · rw [e]
      · rw [beq_eq_false_iff_ne.mpr e, Bool.false_and, Bool.false_and]
    have each : ∀ g < 4, ∀ busy : Bool, (List.range 4).filter (fun i => i == g && !busy) = if busy then [] else [g] := by decide
    rw [named, each g hg]
  rw [Chip.groupResets, only]
  split <;> rfl

/-- Counters that are reset read 0. -/
theorem Chip.zeroCnt_zero {l : List Fld} (apart : ∀ f ∈ l, ∀ g ∈ l, f = g ∨ f.key ≠ g.key) : ∀ f ∈ l, (b.zeroCnt l).r f = 0 := by
  induction l using List.reverseRecOn with
  | nil => exact fun f hf => absurd hf List.not_mem_nil
  | append_singleton l x ih =>
    intro f hf
    have step : b.zeroCnt (l ++ [x]) = { (b.zeroCnt l).w x 0 with bank := kdel ((b.zeroCnt l).w x 0).bank x.key } := by
      rw [Chip.zeroCnt, List.foldl_append]
      rfl
    rw [step]
    by_cases e : f = x
    · rw [e]
      exact (Chip.r_w_same _ _ _).trans (Nat.zero_mod _)
    · have mem : f ∈ l := by simpa [e] using hf
      have ne : x.key ≠ f.key := (apart x (by simp) f hf).resolve_left fun h => e h.symm
      exact (Chip.r_w_ne _ _ _ _ ne).trans (ih (fun f hf g hg => apart f (by simp [hf]) g (by simp [hg])) f mem)

/-- A crossing of a side that is reset is as new, whatever is written besides. -/
theorem Chip.xingDrop_new (b : Chip) (side : Nat) : ∀ e ∈ (b.xingDrop side).clk.xing, (Config.crossingInfo e.1).1 = side ∨ xingDst e.1 = side → e.2 = {} := by
  intro e he hs
  obtain ⟨x, -, rfl⟩ := List.mem_map.mp he
  exact if_pos hs

theorem Chip.xingDrop_r (b : Chip) (side : Nat) (f : Fld) : (b.xingDrop side).r f = b.r f := Chip.r_congr rfl f

theorem Chip.modSea_r (b : Chip) (g : Sea → Sea) (f : Fld) : (b.modSea g).r f = b.r f := Chip.r_congr rfl f

/-- What is lost at a crossing is counted there, and flagged (R124). -/
theorem Chip.xingLose_shows (b : Chip) (id : Nat) (x : Xing) :
    kget (b.xingLose id x).clk.xing id = some { x with ovr := true, lost := satAdd 16 x.lost 1 } ∧
      Chip.Only [.clk, .ntc, .out] (among [Reg.CKR_XING_OVR]) b (b.xingLose id x) := by
  have put : Chip.Only [.clk, .ntc, .out] (among [Reg.CKR_XING_OVR]) b (b.xingPut id { x with ovr := true, lost := satAdd 16 x.lost 1 }) :=
    (Chip.Only.rfl' b _ _).putClk (by decide) _
  have kept : kget (b.xingPut id { x with ovr := true, lost := satAdd 16 x.lost 1 }).clk.xing id = some { x with ovr := true, lost := satAdd 16 x.lost 1 } :=
    kget_kput_same _ _ _
  unfold Chip.xingLose
  dsimp only
  split
  · exact ⟨kept, put⟩
  · refine ⟨?_, (put.w _ _ (among_mem (by simp))).raise _ _ _ (by decide)⟩
    rw [(Chip.raise_only _ _ _ _).clk (by decide)]
    exact kept

/-- A group's busy bit that is set stays in its register. -/
theorem bit_setBit_mod {n g : Nat} (hg : g < 4) : bit (setBit n g % 2 ^ 4) g = true := by
  have set := bit_setBit_same n g
  simp only [bit, beq_iff_eq] at set ⊢
  have cases4 : g = 0 ∨ g = 1 ∨ g = 2 ∨ g = 3 := by omega
  rcases cases4 with rfl | rfl | rfl | rfl <;> omega

/-- A reset of a group sets its busy bit, clears its counters and what its crossings hold (R122). -/
theorem Chip.groupReset_shows (b : Chip) {g : Nat} (hg : g < 4) :
    let t := (b.groupReset g).w Reg.CKR_GRP_BUSY (setBit (b.r Reg.CKR_GRP_BUSY) g)
    bit (t.r Reg.CKR_GRP_BUSY) g = true ∧ (g ≤ 1 → (∀ f ∈ ethCounters g, t.r f = 0) ∧ t.t (Reg.ETH_LINK g) = false) ∧
      (g = 2 → (∀ f ∈ seaCounters, t.r f = 0) ∧ t.t Reg.SEA_BLOCK_LOCK = false ∧ t.t Reg.SEA_PAIRED = false) ∧
      (g ≤ 2 → ∀ e ∈ t.clk.xing, (Config.crossingInfo e.1).1 = 6 + g ∨ xingDst e.1 = 6 + g → e.2 = {}) ∧
      (g = 3 → t.r Reg.HIF_UART_DROP = 0) := by
  intro t
  have other {f : Fld} (h : f.key ≠ Reg.CKR_GRP_BUSY.key) : t.r f = (b.groupReset g).r f := Chip.r_w_ne _ _ _ _ h.symm
  refine ⟨?_, fun eth => ?_, fun sea => ?_, fun side => ?_, fun uart => ?_⟩
  · exact (congrArg (bit · g) (Chip.r_w_same _ _ _)).trans (bit_setBit_mod hg)
  · have eq : b.groupReset g = Chip.xingDrop (((b.zeroCnt (ethCounters g)).wb (Reg.ETH_LINK g) false).wb (Reg.ETH_AN_DONE g) false) (6 + g) := by
      obtain rfl | rfl : g = 0 ∨ g = 1 := by omega
      · rfl
      · rfl
    have flds : (∀ f ∈ ethCounters g, ∀ h ∈ ethCounters g, f = h ∨ f.key ≠ h.key) ∧ (∀ f ∈ ethCounters g, f.key ≠ Reg.CKR_GRP_BUSY.key ∧
        (Reg.ETH_LINK g).key ≠ f.key ∧ (Reg.ETH_AN_DONE g).key ≠ f.key) ∧ (Reg.ETH_LINK g).key ≠ Reg.CKR_GRP_BUSY.key ∧
        (Reg.ETH_AN_DONE g).key ≠ (Reg.ETH_LINK g).key := by
      obtain rfl | rfl : g = 0 ∨ g = 1 := by omega
      · decide
      · decide
    obtain ⟨apart, out, link, done⟩ := flds
    refine ⟨fun f hf => ?_, ?_⟩
    · obtain ⟨busy, hl, hd⟩ := out f hf
      rw [other busy, eq, Chip.xingDrop_r, Chip.wb, Chip.r_w_ne _ _ _ _ hd, Chip.wb, Chip.r_w_ne _ _ _ _ hl, Chip.zeroCnt_zero apart f hf]
    · rw [Chip.t, other link, eq, Chip.xingDrop_r, Chip.wb, Chip.r_w_ne _ _ _ _ done, Chip.wb, Chip.r_w_same]
      rfl
  · subst sea
    have apart : ∀ f ∈ seaCounters, ∀ h ∈ seaCounters, f = h ∨ f.key ≠ h.key := by decide
    have out : ∀ f ∈ seaCounters, f.key ≠ Reg.CKR_GRP_BUSY.key ∧ Reg.SEA_BLOCK_LOCK.key ≠ f.key ∧ Reg.SEA_PAIRED.key ≠ f.key := by decide
    have drops : b.groupReset 2 = ((((b.zeroCnt seaCounters).wb Reg.SEA_BLOCK_LOCK false).wb Reg.SEA_PAIRED false).modSea
      (fun x => { x with pass := none, waiting := [] })).xingDrop 8 := rfl
    have eq (f : Fld) : (b.groupReset 2).r f = (((b.zeroCnt seaCounters).wb Reg.SEA_BLOCK_LOCK false).wb Reg.SEA_PAIRED false).r f := by
      rw [drops, Chip.xingDrop_r, Chip.modSea_r]
    refine ⟨fun f hf => ?_, ?_, ?_⟩
    · obtain ⟨busy, hl, hp⟩ := out f hf
      rw [other busy, eq, Chip.wb, Chip.r_w_ne _ _ _ _ hp, Chip.wb, Chip.r_w_ne _ _ _ _ hl, Chip.zeroCnt_zero apart f hf]
    · rw [Chip.t, other (by decide), eq, Chip.wb, Chip.r_w_ne _ _ _ _ (by decide), Chip.wb, Chip.r_w_same]
      rfl
    · rw [Chip.t, other (by decide), eq, Chip.wb, Chip.r_w_same]
      rfl
  · obtain rfl | rfl | rfl : g = 0 ∨ g = 1 ∨ g = 2 := by omega
    · exact Chip.xingDrop_new _ 6
    · exact Chip.xingDrop_new _ 7
    · exact Chip.xingDrop_new _ 8
  · subst uart
    rw [other (by decide)]
    exact Chip.zeroCnt_zero (l := [Reg.HIF_UART_DROP]) (by decide) _ (by simp)

theorem pllFld_low (pll : Nat) : (pllFld pll).key < 0x50000 * 32 ∧ (pllFld pll).w = 1 := by
  unfold pllFld
  split <;> decide

/-- A PLL's lock bit is written, and the block settles. -/
theorem Runs.lockShown {s : State} {i : Instr} {pll n : Nat} {v : Bool} (run : exec i s = .next { s with b := (s.b.wb (pllFld pll) v).settle })
    (quiet : s.b.Quiet) (hn : b2n v = n) : Runs i s (fun t => t.mem = s.mem ∧ t.b.r (pllFld pll) = n ∧ Chip.OnlyRegs s.b t.b [pllFld pll]) := by
  obtain ⟨low, width⟩ := pllFld_low pll
  have only : Chip.Only [] (among [pllFld pll]) s.b (s.b.wb (pllFld pll) v) := (Chip.Only.rfl' s.b _ _).w _ _ (among_mem (by simp))
  obtain ⟨all, regs, -⟩ := only.settled (by decide) (by decide) quiet
  refine ⟨_, run, rfl, (regs _ fun k => absurd low (Nat.not_lt.mpr (Nat.le_trans (by decide) k.1))).trans ?_, all.regs rfl fun _ => rfl⟩
  rw [Chip.wb, Chip.r_w_same, width, ← hn]
  cases v <;> rfl

end

end Sys2Proof.Machine

open Sys2Proof Sys2Proof.Machine

/-- Settles O17. -/
theorem clockMonitorAndBanks : Obligations.ClockMonitorAndBanks := by
  intro s quiet
  have far {f : Fld} {c : Chip} (hc : c.Quiet) (low : f.key < 0x50000 * 32) : c.settle.r f = c.r f :=
    (Chip.settle_only hc).2 f fun h => absurd low (Nat.not_lt.mpr (Nat.le_trans (by decide) h.1))
  refine ⟨fun bad hb main idle => ?_, fun count ms main ok => ?_, fun pll hp lock other => ⟨fun sw => ?_, fun x sw hx main apart ok => ?_⟩,
    fun pll ms hp lock ref sw => ?_, fun main ok sw auto idle => ?_, fun _ => rfl, fun id v wk x hx => ?_, fun v writes => ?_, fun v g writes hg hv => ?_⟩
  · subst main
    obtain ⟨still, qst, fail, state, mainK, sw⟩ := Chip.clkStopped_shows hb rfl idle quiet
    obtain ⟨-, -, low⟩ := srcFlds_apart (hb.imp_right .inl)
    refine ⟨{ s with b := s.b.clkStopped.settle }, rfl, rfl, (far still (low _ (by simp))).trans qst, (far still (low _ (by simp))).trans fail,
      (far still (by decide)).trans state, (far still (by decide)).trans mainK, ?_⟩
    dsimp only
    rw [(Chip.settle_only still).clk (by decide), sw]
  · have run : exec (.freqCheck count ms) s = .next { s with b := (s.b.coarseKeep (s.b.r Reg.CKR_MAIN_SRC) count).settle } := by
      rw [exec_freqCheck, execFreqCheck, State.on_eq, Chip.clkFreq, if_neg main]
      dsimp only
      rw [show (s.b.coarseKeep (s.b.r Reg.CKR_MAIN_SRC) count).coarseOk (s.b.r Reg.CKR_MAIN_SRC) count =
        s.b.coarseOk (s.b.r Reg.CKR_MAIN_SRC) count from rfl, if_pos ok]
    have kept := s.b.coarseKeep_only (s.b.r Reg.CKR_MAIN_SRC) count
    refine (Runs.measured (l := []) run quiet (kept.mono (by decide) fun _ => False.elim)).imp fun t ⟨mem, regs, clk, only⟩ => ⟨mem, ?_, ?_, only⟩
    · rw [clk]
      exact s.b.coarseKeep_kept _ count
    · exact (regs _ (by decide)).trans (kept.2 _ id)
  · have run : exec (.pllUnlock pll) s = .next { s with b := (s.b.wb (pllFld pll) false).settle } := by
      rw [exec_pllUnlock, execPllUnlock, State.on_eq, Chip.pllLost, if_neg (by simp [lock]; omega)]
      dsimp only
      rw [if_neg other, show (s.b.wb (pllFld pll) false).clk = s.b.clk from rfl, sw]
    exact Runs.lockShown run quiet rfl
  · obtain ⟨cleared, qst, fail, swK, count, mainK⟩ := Chip.pllLost_ends hp lock other sw hx main apart ok quiet
    exact ⟨_, rfl, rfl, cleared, qst, fail, swK, count, mainK⟩
  · have run : exec (.pllLock pll ms) s = .next { s with b := (s.b.wb (pllFld pll) true).settle } := by
      rw [exec_pllLock, execPllLock, State.on_eq, Chip.pllGot, if_neg (by simp only [lock, not_or]; exact ⟨by omega, by decide, ref⟩)]
      dsimp only
      rw [show (s.b.wb (pllFld pll) true).clk = s.b.clk from rfl, sw]
    exact Runs.lockShown run quiet rfl
  · obtain ⟨unlocked, src⟩ := Chip.idleTo_changed idle
    have run : exec .tcxoReturn s = .next { s with b := ((s.b.idleTo 2).modClk (fun k => { k with sw := some (2, false) })).settle } := by
      rw [exec_tcxoReturn, execTcxoReturn, State.on_eq, Chip.tcxoBack, if_pos ⟨main, ok, by rw [sw]; rfl, .inl auto⟩, Chip.switchTo, sw]
      dsimp only
      rw [unlocked]
      rfl
    have moved : Chip.Only [.clk, .ntc, .out] (among idleFlds) s.b ((s.b.idleTo 2).modClk (fun k => { k with sw := some (2, false) })) :=
      ((s.b.idleTo_only 2).mono (by decide) fun _ => id).putClk (by decide) _
    refine (Runs.measured run quiet moved).imp fun t ⟨mem, regs, clk, only⟩ => ⟨mem, ?_, (regs _ (by decide)).trans src, only⟩
    rw [clk]
    rfl
  · subst hx
    have run {c : Chip} (h : s.b.xingWake ⟨id, v, wk⟩ = c) : exec (.domainWakeRequest ⟨id, v, wk⟩) s = .next { s with b := c } := by
      rw [exec_domainWakeRequest, execDomainWakeRequest, State.on_eq, h]
    obtain ⟨runs, doze⟩ := s.b.xingEvent_runs id v (xingDst id)
    have stays (h : s.b.domainRuns (xingDst id) = true ∨ s.b.pstate ≠ 4) : s.b.xingWake ⟨id, v, wk⟩ = s.b.xingEvent id v :=
      Chip.xingWake_stays (h.imp (runs.trans ·) fun h => .inl (doze ▸ h))
    refine ⟨fun none => run ?_, fun there event => ⟨fun on => run ?_, fun off awake => ⟨fun fly => run ?_, fun fly pend => run ?_, fun fly pend => ?_⟩⟩,
      fun there hold free => run ?_, fun there off doz early _ => ?_⟩
    · exact (Chip.xingWake_stays (.inr (.inr none))).trans (if_pos none)
    · rw [stays (.inl on), Chip.xingEvent, if_neg (by omega), if_neg (by simp [event]), if_pos on]
    · rw [stays (.inr awake), Chip.xingEvent, if_neg (by omega), if_neg (by simp [event]), if_neg (by simp [off]), if_pos (by simp [fly])]
    · rw [stays (.inr awake), Chip.xingEvent, if_neg (by omega), if_neg (by simp [event]), if_neg (by simp [off]), if_neg (by simp [fly]),
        if_pos (by simp [pend])]
    · have lost : s.b.xingWake ⟨id, v, wk⟩ = s.b.xingLose id (kgetD s.b.clk.xing id {}) := by
        rw [stays (.inr awake), Chip.xingEvent, if_neg (by omega), if_neg (by simp [event]), if_neg (by simp [off]), if_neg (by simp [fly]),
          if_neg (by simp [pend])]
      obtain ⟨kept, shown⟩ := s.b.xingLose_shows id (kgetD s.b.clk.xing id {})
      exact ⟨_, run lost, rfl, kept, shown.regs rfl fun _ => rfl⟩
    · rw [stays free, Chip.xingEvent, if_neg (by omega), if_pos hold]
      rfl
    · have only := s.b.xingEvent_only id v
      obtain ⟨exits, awake⟩ := Chip.dozeExit_early ((s.b.xingEvent id v).free 3).2 ((s.b.xingEvent id v).free 3).1 (x := wk) early
      have still : (((s.b.xingEvent id v).free 3).2.dozeExit ((s.b.xingEvent id v).free 3).1 wk).Quiet :=
        exits.quiet (by decide) (by decide) (only.quiet (by decide) (by decide) quiet)
      have wakes : s.b.xingWake ⟨id, v, wk⟩ = (((s.b.xingEvent id v).free 3).2.dozeExit ((s.b.xingEvent id v).free 3).1 wk).settle := by
        rw [Chip.xingWake]
        exact if_pos ⟨doze.trans doz, there, by rw [runs, off]; decide⟩
      exact ⟨_, run wakes, rfl, (far still (by decide)).trans awake⟩
  · refine ⟨fun reserved => Runs.settlesOnly ?_ quiet, fun legal tcxo xo lf padX padL => ?_⟩
    · rw [exec_srcCtrlWrite, execSrcCtrlWrite, State.on_eq, Chip.gated_writable _ writes, Chip.srcCtrl, if_pos reserved]
    · obtain ⟨only, pin, ret⟩ := s.b.pins_shows v.toNat
      have run : exec (.srcCtrlWrite v) s = .next { s with b := ((s.b.pinSet (bits v.toNat 4 2)).wb Reg.CKR_RETURN_AUTO (bit v.toNat 8)).settle } := by
        rw [exec_srcCtrlWrite, execSrcCtrlWrite, State.on_eq, Chip.gated_writable _ writes, Chip.srcCtrl_pins legal tcxo xo lf padX padL]
      obtain ⟨all, regs, -⟩ := only.settled (by decide) (by decide) quiet
      have low {f : Fld} (h : f.key < 0x50000 * 32) := regs f fun k => absurd h (Nat.not_lt.mpr (Nat.le_trans (by decide) k.1))
      exact ⟨_, run, rfl, (low (by decide)).trans pin, (low (by decide)).trans ret, all.regs rfl fun _ => rfl⟩
  · have run : exec (.groupReset v) s = .next 
        { s with b := (if bit (s.b.r Reg.CKR_GRP_BUSY) g then s.b else (s.b.groupReset g).w Reg.CKR_GRP_BUSY (setBit (s.b.r Reg.CKR_GRP_BUSY) g)) } := by
      rw [exec_groupReset, execGroupReset, State.on_eq, Chip.gated_writable _ writes, hv, Chip.groupResets_one hg]
    refine ⟨fun busy => ?_, fun free => ?_⟩
    · rw [run, if_pos busy]
    · rw [if_neg (by simp [free])] at run
      exact ⟨_, run, rfl, Chip.groupReset_shows s.b hg⟩

end

section
/-!
SUPPORT. The state that refutes the claim about the mesh services (R457).
-/
namespace Sys2Proof.Machine

/-- No registration stands, and the register that counts the expired ones holds more than its 32 bits can. -/
def expiredBeyond : State :=
  { State.reset with b := { State.reset.b with regs := [(Reg.SVC_REG_EXPIRED.key, 2 ^ 32)] } }

/-- No registration of it has passed its lifetime, so its expiry counts nothing. -/
theorem expiredBeyond_regExpiry : expiredBeyond.b.regExpiry.r Reg.SVC_REG_EXPIRED = 2 ^ 32 := by
  decide +kernel

end Sys2Proof.Machine

open Sys2Proof Sys2Proof.Machine

/-- Refutes O55: with no registration whose lifetime has passed the count of the expired ones is not written, so a count above its 32 bits stands
and is not cut to the width to which the claim says it saturates. -/
theorem not_servicesWork : ¬ Obligations.ServicesWork := by
  intro h
  obtain ⟨-, -, -, -, -, -, -, -, -, -, -, -, expiry, -⟩ := h expiredBeyond
  obtain ⟨-, t, run, -, count, -⟩ := expiry [] (by decide +kernel)
  rw [exec_registrationExpiry, execRegistrationExpiry, State.on_eq] at run
  cases run
  exact absurd (expiredBeyond_regExpiry.symm.trans count) (by decide +kernel)
end

section
/-!
SUPPORT. The state that refutes the claim about supplies, starts and power states (R513).
-/
namespace Sys2Proof.Machine

/-- A device in SAFE whose DOZE image is still being restored. -/
def restoringInSafe : State :=
  { State.reset with b := { State.reset.b with regs := [(Reg.GLB_STATE.key, 2)], pwr := { State.reset.b.pwr with restoring := true } } }

/-- A bad CPU granule makes no warm start of it due: SAFE is left by REBOOT or a cold reset alone (R93). -/
theorem restoringInSafe_warm : (restoringInSafe.b.restored [(8, 0)]).boot.warm = none := by
  decide +kernel

end Sys2Proof.Machine

open Sys2Proof Sys2Proof.Machine

/-- Refutes O59: a DOZE restore that ends in SAFE with a bad CPU granule makes no warm start due, though the claim about its end has no premise
that the device is not in SAFE. -/
theorem not_suppliesStartsAndPower : ¬ Obligations.SuppliesStartsAndPower := by
  intro h
  obtain ⟨-, -, -, -, -, -, -, -, -, -, -, -, -, -, restore, -⟩ := h restoringInSafe
  obtain ⟨t, run, -, -, -, due⟩ := restore [(8, 0)] (by decide +kernel)
  rw [exec_dozeRestoreComplete, execDozeRestoreComplete, State.on_eq] at run
  cases run
  have warm := congrArg (fun x : Boot => x.warm) (due ⟨(8, 0), by decide, by decide⟩)
  exact absurd (restoringInSafe_warm.symm.trans warm) (by decide)
end

section
/-!
SUPPORT. The state that refutes the claim about the hosts' accesses (R538).
-/
namespace Sys2Proof.Machine

/-- A block whose register GLB_STATE holds more than its two bits can. -/
def stateBeyond : State :=
  { State.reset with b := { State.reset.b with regs := [(Reg.GLB_STATE.key, 5)] } }

theorem stateBeyond_state : stateBeyond.b.r Reg.GLB_STATE = 5 := by
  decide +kernel

end Sys2Proof.Machine

open Sys2Proof Sys2Proof.Machine

/-- Refutes O60: a read of GLB_STATE answers STATE in two bits, and the claim takes them for the whole of the register's value, which a state may
hold above its width. -/
theorem not_hostsReadWriteAndRing : ¬ Obligations.HostsReadWriteAndRing := by
  intro h
  obtain ⟨-, -, reads, -⟩ := h stateBeyond
  obtain ⟨-, -, t, -, -, -, l, -, -, low⟩ := reads .spi
  have below : l.headD 0 % 4 < 4 := Nat.mod_lt _ (by decide)
  rw [low, stateBeyond_state] at below
  exact absurd below (by decide)
end

section
/-!
SUPPORT. The state that refutes the claim about activations (R421, R503).
-/
namespace Sys2Proof.Machine

/-- A queue number whose live bit of the high mark has the address of bit 2 of UPD's PHASE. -/
@[irreducible] def pauseQueue : Nat := 4057090

theorem pauseQueue_mark : (Reg.QMG_HI_LVL (pauseQueue / 32)).key = Reg.UPD_PHASE.key ∧ pauseQueue % 32 = 2 := by decide +kernel

/-- A device at the start of its pause with one reception in flight, whose item holds that queue at its high mark. -/
def pausing : State :=
  { b := { regs := [(Reg.UPD_PHASE.key, 3)],
           rx := { State.reset.b.rx with ctxs := [(0, { lane := 0, chan := 0, band := 0, modeBit := 0, cls := 0, power := 0, start := 0, stitch := 0, sfdNs := 0, gain := 0,
                                                        item := some (pauseQueue, 1) })] },
           queues := [(pauseQueue, { consumer := 0, high := 1, items := [{ id := 1, size := 256, data := List.replicate 256 0, closed := true }] })] } }

/-- With the reception its item goes, the queue falls below its mark, and the bit is cleared. -/
theorem pausing_phase : pausing.b.pauseStart.r Reg.UPD_PHASE = 0 := by decide +kernel

end Sys2Proof.Machine

open Sys2Proof Sys2Proof.Machine

/-- Refutes O58: where the pause cuts off a reception whose item stands in a queue far beyond the Pattern's, the queue's mark is shown in the place of
PHASE, which does not show PAUSED. -/
theorem not_updatesInstallAndActivate : ¬ Obligations.UpdatesInstallAndActivate := by
  intro h
  obtain ⟨-, -, -, -, -, -, -, -, -, -, -, pause, -⟩ := h pausing
  obtain ⟨t, run, -, -, -, -, -, phase⟩ := pause (by decide +kernel) (by decide +kernel)
  rw [exec_pauseStart, execPauseStart, State.on_eq] at run
  cases run
  exact absurd (pausing_phase.symm.trans (phase rfl)) (by decide)
end

section
/-!
SUPPORT. The state that refutes the claim about the Seam's commands and claims (R421, R485, R488).
-/
namespace Sys2Proof.Machine

/-- A queue number whose live bit of the high mark has the address of bit 0 of SEA's count of handovers. -/
@[irreducible] def handQueue : Nat := 3010880

theorem handQueue_mark : (Reg.QMG_HI_LVL (handQueue / 32)).key = Reg.SEA_HANDOVERS.key ∧ handQueue % 32 = 0 := by decide +kernel

/-- An item of 128 octets that a frame has taken. -/
def handItem : Item := { id := 1, size := 128, data := List.replicate 128 0, closed := true, taken := true }

/-- A working ACTIVE twin at the boundary of a handover that its partner is ready for, with one handover counted. A pair beacon of it waits with an
item of that queue, which is at its high mark for two items of one number. -/
def handingOver : State :=
  { b := { pat := { State.reset.b.pat with roleCfg := 1 },
           regs := [(Reg.GLB_STATE.key, 1), (Reg.CKR_LIMP.key, 0), (Reg.SEA_ROLE.key, 3), (Reg.SEA_HANDOVERS.key, 1)],
           sea := { State.reset.b.sea with hand := some (0, 0), hoSeen := true },
           tx := { State.reset.b.tx with frames := [(0, { src := .pairBeacon, lane := 0, chan := 0, kind := 0, t := 0, item := some (handQueue, 1) })] },
           queues := [(handQueue, { consumer := 0, high := 1, items := [handItem, handItem] })] } }

/-- With the pair beacon its item goes back, the other of its number is lost, the queue falls below its mark, and the bit is cleared before the
handover counts. -/
theorem handingOver_handovers : handingOver.b.handSwitch.r Reg.SEA_HANDOVERS = 1 := by decide +kernel

end Sys2Proof.Machine

open Sys2Proof Sys2Proof.Machine

/-- Refutes O57: where the ACTIVE device hands over while a pair beacon holds an item of a queue far beyond the Pattern's, the queue's mark is shown in
the place of HANDOVERS, which does not count on from what it held. -/
theorem not_seamCommandsAndClaims : ¬ Obligations.SeamCommandsAndClaims := by
  intro h
  obtain ⟨-, on⟩ := h handingOver
  obtain ⟨-, -, -, -, -, -, -, -, -, -, -, -, -, -, -, -, -, -, hand⟩ := on (by decide +kernel)
  obtain ⟨-, switch, -⟩ := hand 0 0 (by decide +kernel) (by decide +kernel)
  obtain ⟨t, run, -, -, -, -, -, -, count, -⟩ := switch (by decide +kernel) (by decide +kernel) (by decide +kernel) (by decide +kernel)
  rw [exec_handoverSwitch, execHandoverSwitch, State.on_eq] at run
  cases run
  exact absurd (handingOver_handovers.symm.trans count) (by decide +kernel)
end

section
/-!
SUPPORT. A record of the Seam: when it is taken, and what applying it counts (R470, R471, R479, R480).
-/
namespace Sys2Proof.Machine

/-! ### Acknowledgements and frames -/

/-- An acknowledgement changes the frames that wait for one. -/
theorem Chip.seamAck_eq (b : Chip) (ack : Nat) : b.seamAck ack = { b with sea := { b.sea with waiting := (b.seamAck ack).sea.waiting } } := by
  unfold Chip.seamAck
  split <;> rfl

section
variable {b : Chip} {h : SeamHdr} {k : Nat} {f : Chip → SeamRec → Chip}

theorem Chip.seamIn_idle (off : b.seamOn = false ∨ b.role = 4 ∨ b.t Reg.SEA_BLOCK_LOCK = false) : b.seamIn h k f = b := by
  refine if_pos ?_
  obtain off | out | down := off
  · simp [off]
  · simp [out]
  · simp [down]

theorem Chip.seamIn_bad (on : b.seamOn = true) (role : b.role ≠ 4) (lock : b.t Reg.SEA_BLOCK_LOCK = true) (tag : b.tagOk h = false) :
    b.seamIn h k f = b.inc Reg.SEA_TAG_FAIL := by
  simp [Chip.seamIn, on, role, lock, tag]

theorem Chip.seamIn_good (on : b.seamOn = true) (role : b.role ≠ 4) (lock : b.t Reg.SEA_BLOCK_LOCK = true) (tag : b.tagOk h = true)
    (kind : (seamRecord h).kind = k) : b.seamIn h k f = f b (seamRecord h) := by
  simp [Chip.seamIn, on, role, lock, tag, kind]

/-- A record that is not applied for its number is acknowledged alone. -/
theorem Chip.recIn_old (on : b.seamOn = true) (role : b.role ≠ 4) (lock : b.t Reg.SEA_BLOCK_LOCK = true) (tag : b.tagOk h = true)
    (kind : (seamRecord h).kind = k)
    (old : b.t Reg.SEA_PAIRED = false ∨ seamSeq h = seqNone ∨ (h.index = 0 ∧ seamSeq h ≠ b.sea.seqIn) ∨
      (h.index ≠ 0 ∧ (seamSeq h ≠ b.sea.ackOut ∨ b.isStandby = false))) : b.recIn h k f = b.seamAck (seamAckOf h) := by
  rw [Chip.recIn, Chip.seamIn_good on role lock tag kind, Chip.seamAck_eq]
  generalize (b.seamAck (seamAckOf h)).sea.waiting = l
  have paired : Chip.t { b with sea := { b.sea with waiting := l } } Reg.SEA_PAIRED = b.t Reg.SEA_PAIRED := rfl
  have standby : Chip.isStandby { b with sea := { b.sea with waiting := l } } = b.isStandby := rfl
  dsimp only
  rw [paired, standby]
  obtain unpaired | unnumbered | ⟨first, other⟩ | ⟨further, other⟩ := old
  · simp [unpaired]
  · simp [unnumbered]
  · simp [first, other]
  · rw [if_neg further]
    obtain other | single := other
    · simp [other]
    · simp [single]

/-- A device that is no STANDBY keeps the number of the first record. -/
theorem Chip.recIn_numbers (on : b.seamOn = true) (role : b.role ≠ 4) (lock : b.t Reg.SEA_BLOCK_LOCK = true) (tag : b.tagOk h = true)
    (kind : (seamRecord h).kind = k) (paired : b.t Reg.SEA_PAIRED = true) (numbered : seamSeq h ≠ seqNone) (first : h.index = 0)
    (next : seamSeq h = b.sea.seqIn) (single : b.isStandby = false) :
    b.recIn h k f = { b.seamAck (seamAckOf h) with sea := { (b.seamAck (seamAckOf h)).sea with seqIn := seqNext (seamSeq h), ackOut := seamSeq h } } := by
  rw [Chip.recIn, Chip.seamIn_good on role lock tag kind, Chip.seamAck_eq]
  generalize (b.seamAck (seamAckOf h)).sea.waiting = l
  have still : Chip.t { b with sea := { b.sea with waiting := l } } Reg.SEA_PAIRED = true := paired
  have alone (x : Sea) : Chip.isStandby { b with sea := x } = false := single
  dsimp only
  rw [if_neg (by simp [numbered, still]), if_pos first, if_neg (by simp [next]), Chip.modSea, alone]
  rfl

/-- A record that a STANDBY takes is applied on the block with the frame's number kept and acknowledged. -/
theorem Chip.recIn_takes (takes : b.SeamTakes h) (kind : (seamRecord h).kind = k) : ∃ x : Sea, x.seqIn = seqNext (seamSeq h) ∧ x.ackOut = seamSeq h ∧
    x.pass = b.sea.pass ∧ b.recIn h k f = f { b with sea := x } (seamRecord h) := by
  obtain ⟨on, standby, paired, lock, tag, numbered, next⟩ := takes
  have role : b.role ≠ 4 := by
    rw [beq_iff_eq.mp standby]
    decide
  refine ⟨{ b.sea with waiting := (b.seamAck (seamAckOf h)).sea.waiting, seqIn := seqNext (seamSeq h), ackOut := seamSeq h }, rfl, rfl, rfl, ?_⟩
  rw [Chip.recIn, Chip.seamIn_good on role lock tag kind, Chip.seamAck_eq]
  generalize (b.seamAck (seamAckOf h)).sea.waiting = l
  have still : Chip.t { b with sea := { b.sea with waiting := l } } Reg.SEA_PAIRED = true := paired
  have stands (x : Sea) : Chip.isStandby { b with sea := x } = true := standby
  dsimp only
  rw [if_neg (by simp [numbered, still])]
  obtain ⟨first, next⟩ | ⟨further, now, next⟩ := next
  · rw [if_pos first, if_neg (by simp [next]), Chip.modSea, stands]
    rfl
  · rw [if_neg further, if_pos ⟨now, stands _⟩, ← next, now]
end

/-! ### The mirror's state and the counts of records -/

/-- The registers that show the mirror's state, and the notice block's. -/
abbrev mirrorKey (k : Nat) : Prop := offs 0x50000 0x60000 k ∨ k ∈ [Reg.SEA_MIRROR.key, Reg.SEA_STALE_CNT.key]

/-- Those, LAG, and the counts of records. -/
abbrev recordKey (k : Nat) : Prop :=
  mirrorKey k ∨ k ∈ [Reg.SEA_LAG.key, Reg.SEA_BULK_ITEMS.key, Reg.SEA_MIRROR_SEQ.key, Reg.SEA_REC_APPLIED.key]

theorem Chip.setMirror_only (b : Chip) (v : Nat) : Chip.Only [.sea, .ntc, .out] mirrorKey b (b.setMirror v) := by
  have ended (b0 : Chip) : Chip.Only [.sea, .ntc, .out] mirrorKey b0 (if v = 3 then b0.modSea (fun x => { x with ended := false }) else b0) :=
    .ite ((Chip.Only.rfl' b0 _ _).putSea (by decide) _) (.rfl' _ _ _)
  unfold Chip.setMirror
  refine (ended b).trans (.ite (.rfl' _ _ _) ?_)
  refine Chip.Only.trans ?_ ((Chip.raise_only _ _ _ _).mono (by decide) fun _ => .inl)
  exact .ite (((Chip.Only.rfl' _ _ _).w _ _ (by decide)).inc _ (by decide)) ((Chip.Only.rfl' _ _ _).w _ _ (by decide))

theorem Chip.setMirror_sea (b : Chip) (v : Nat) : ∃ e, (b.setMirror v).sea = { b.sea with ended := e } := by
  have ended : ∃ e, (if v = 3 then b.modSea (fun x => { x with ended := false }) else b).sea = { b.sea with ended := e } := by
    split
    · exact ⟨_, rfl⟩
    · exact ⟨b.sea.ended, rfl⟩
  have raised (c : Chip) (src code arg : Nat) : (c.raise src code arg).sea = c.sea := (c.raise_only src code arg).sea (by decide)
  unfold Chip.setMirror
  dsimp only
  generalize (if v = 3 then b.modSea (fun x => { x with ended := false }) else b) = c at ended ⊢
  split
  · exact ended
  · rw [raised]
    split <;> exact ended

theorem Chip.setMirror_shows (b : Chip) {v : Nat} (hv : v < 4) : (b.setMirror v).r Reg.SEA_MIRROR = v := by
  unfold Chip.setMirror
  dsimp only
  generalize (if v = 3 then b.modSea (fun x => { x with ended := false }) else b) = c
  split
  · assumption
  · rw [(Chip.raise_only _ _ _ _).2 _ (by decide)]
    have shown : (c.w Reg.SEA_MIRROR v).r Reg.SEA_MIRROR = v := (Chip.r_w_same _ _ _).trans (Nat.mod_eq_of_lt hv)
    split
    · rw [Chip.r_inc_ne _ (by decide), shown]
    · exact shown

/-- A copy that has become STALE does not wait for the lag of a pass. -/
theorem Chip.setMirror_stale (b : Chip) : (b.setMirror 3).sea.ended = false := by
  unfold Chip.setMirror
  rw [if_pos rfl]
  dsimp only
  split
  · rfl
  · rw [(Chip.raise_only _ _ _ _).sea (by decide)]
    rfl

theorem Chip.lagTest_only (b : Chip) : Chip.Only [.sea, .ntc, .out] mirrorKey b b.lagTest :=
  .ite (.rfl' _ _ _) (.ite (((Chip.Only.rfl' b _ _).putSea (by decide) _).trans (Chip.setMirror_only _ _)) (.ite (b.setMirror_only _) (.rfl' _ _ _)))

theorem Chip.lagTest_sea (b : Chip) : ∃ e, b.lagTest.sea = { b.sea with ended := e } := by
  have same : ∃ e, b.sea = { b.sea with ended := e } := ⟨b.sea.ended, rfl⟩
  unfold Chip.lagTest
  split
  · exact same
  · split
    · obtain ⟨e, sea⟩ := (b.modSea (fun x => { x with ended := false })).setMirror_sea 2
      exact ⟨e, sea⟩
    · split
      · exact b.setMirror_sea 3
      · exact same

/-- A STALE copy that waits for no pass stays so. -/
theorem Chip.lagTest_stale {b : Chip} (stale : b.r Reg.SEA_MIRROR = 3) (ended : b.sea.ended = false) : b.lagTest = b := by
  have synced : ¬ (b.r Reg.SEA_MIRROR = 2 ∧ 4 < b.r Reg.SEA_LAG) := fun h => absurd (stale.symm.trans h.1) (by decide)
  rw [Chip.lagTest, ended, if_neg synced]
  simp

theorem Chip.lagShow_only (b : Chip) (n : Nat) : Chip.Only [.sea] (· = Reg.SEA_LAG.key) b (b.lagShow n) :=
  ((Chip.Only.rfl' b _ _).putSea (by decide) _).w _ _ rfl

/-- The block with a record counted: one of a pass in BULK_ITEMS, a change in MIRROR_SEQ. -/
def Chip.recCounted (b : Chip) (bulk : Bool) : Chip :=
  (if bulk then b.inc Reg.SEA_BULK_ITEMS else b.w Reg.SEA_MIRROR_SEQ (b.r Reg.SEA_MIRROR_SEQ + 1)).inc Reg.SEA_REC_APPLIED

theorem Chip.recCount_eq (b : Chip) (bulk : Bool) : ∃ n, b.recCount bulk = ((b.recCounted bulk).lagShow n).lagTest := ⟨_, rfl⟩

theorem Chip.recCounted_only (b : Chip) (bulk : Bool) : Chip.Only [] recordKey b (b.recCounted bulk) :=
  (Chip.Only.ite ((Chip.Only.rfl' b _ _).inc _ (by decide)) ((Chip.Only.rfl' b _ _).w _ _ (by decide))).inc _ (by decide)

theorem Chip.recCount_only (b : Chip) (bulk : Bool) : Chip.Only [.sea, .ntc, .out] recordKey b (b.recCount bulk) := by
  obtain ⟨n, eq⟩ := b.recCount_eq bulk
  rw [eq]
  exact ((b.recCounted_only bulk).mono (by decide) fun _ => id).trans
    (((Chip.lagShow_only _ n).mono (by decide) fun _ e => e ▸ (by decide)).trans ((Chip.lagTest_only _).mono (by decide) fun _ => .inl))

theorem Chip.recCount_sea (b : Chip) (bulk : Bool) : ∃ m e, (b.recCount bulk).sea = { b.sea with marks := m, ended := e } := by
  obtain ⟨n, eq⟩ := b.recCount_eq bulk
  obtain ⟨e, sea⟩ := ((b.recCounted bulk).lagShow n).lagTest_sea
  refine ⟨((b.recCounted bulk).lagShow n).sea.marks, e, ?_⟩
  rw [eq, sea]
  have counted : (b.recCounted bulk).sea = b.sea := (b.recCounted_only bulk).sea (by decide)
  rw [← counted]
  rfl

/-- The counts of a record applied. -/
theorem Chip.recCount_counts (b : Chip) (bulk : Bool) : (b.recCount bulk).r Reg.SEA_REC_APPLIED = satAdd 32 (b.r Reg.SEA_REC_APPLIED) 1 ∧
    (b.recCount bulk).r Reg.SEA_BULK_ITEMS = (if bulk then satAdd 32 (b.r Reg.SEA_BULK_ITEMS) 1 else b.r Reg.SEA_BULK_ITEMS) ∧
    (b.recCount bulk).r Reg.SEA_MIRROR_SEQ = (if bulk then b.r Reg.SEA_MIRROR_SEQ else (b.r Reg.SEA_MIRROR_SEQ + 1) % 2 ^ 32) := by
  obtain ⟨n, eq⟩ := b.recCount_eq bulk
  have shown (f : Fld) (lag : f.key ≠ Reg.SEA_LAG.key) (mirror : ¬ mirrorKey f.key) : (b.recCount bulk).r f = (b.recCounted bulk).r f := by
    rw [eq, (Chip.lagTest_only _).2 f mirror, (Chip.lagShow_only _ _).2 f lag]
  rw [shown _ (by decide) (by decide), shown _ (by decide) (by decide), shown _ (by decide) (by decide)]
  cases bulk with
  | true =>
    refine ⟨(Chip.r_inc_same _ _).trans ?_, (Chip.r_inc_ne _ (by decide)).trans (Chip.r_inc_same _ _), ?_⟩
    · rw [if_pos rfl, Chip.r_inc_ne _ (by decide)]
      rfl
    · exact (Chip.r_inc_ne _ (by decide)).trans (Chip.r_inc_ne _ (by decide))
  | false =>
    refine ⟨(Chip.r_inc_same _ _).trans ?_, (Chip.r_inc_ne _ (by decide)).trans (Chip.r_w_ne _ _ _ _ (by decide)), ?_⟩
    · rw [if_neg (by decide), Chip.r_w_ne _ _ _ _ (by decide)]
      rfl
    · exact (Chip.r_inc_ne _ (by decide)).trans (Chip.r_w_same _ _ _)

/-! ### A record applied -/

/-- The keys of all registers but SEA's. -/
abbrev butSeam (k : Nat) : Prop := ¬ offs 0x220000 0x230000 k

theorem butSeam_of_fwd (k : Nat) (h : fwdKey k) : butSeam k := by
  unfold fwdKey butSeam offs at *
  omega

/-- A block that has taken a record's frame, and counted nothing yet. -/
def Chip.Carries (b c : Chip) (h : SeamHdr) : Prop := c.sea.seqIn = seqNext (seamSeq h) ∧ c.sea.ackOut = seamSeq h ∧
  ∀ f ∈ [Reg.SEA_REC_APPLIED, Reg.SEA_BULK_ITEMS, Reg.SEA_MIRROR_SEQ], c.r f = b.r f

theorem Chip.Carries.applied {b c : Chip} {h : SeamHdr} (carries : Chip.Carries b c h) : b.Applied (c.recCount (seamRecord h).bulk) h := by
  obtain ⟨seqIn, ackOut, kept⟩ := carries
  obtain ⟨m, e, sea⟩ := c.recCount_sea (seamRecord h).bulk
  obtain ⟨records, items, seq⟩ := c.recCount_counts (seamRecord h).bulk
  rw [kept _ (by decide)] at records items seq
  exact ⟨(congrArg Sea.seqIn sea).trans seqIn, (congrArg Sea.ackOut sea).trans ackOut, records, items, seq⟩

theorem Chip.Only.carries {b c : Chip} {h : SeamHdr} {x : Sea} {ps : List Part} {rs : Nat → Prop} (only : Chip.Only ps rs { b with sea := x } c)
    (keys : ∀ k, rs k → butSeam k) (sea : Part.sea ∉ ps) (seqIn : x.seqIn = seqNext (seamSeq h)) (ackOut : x.ackOut = seamSeq h) :
    Chip.Carries b c h := by
  have kept := only.sea sea
  refine ⟨(congrArg Sea.seqIn kept).trans seqIn, (congrArg Sea.ackOut kept).trans ackOut, fun f hf => only.2 f fun hk => ?_⟩
  have seam : ∀ f ∈ [Reg.SEA_REC_APPLIED, Reg.SEA_BULK_ITEMS, Reg.SEA_MIRROR_SEQ], ¬ butSeam f.key := by decide
  exact seam f hf (keys _ hk)

/-- The row of a record that a STANDBY takes. -/
theorem Runs.record {s : State} {h : SeamHdr} {w : Instr} {k : Nat} {f : Chip → SeamRec → Chip} {p : State → Prop}
    (row : exec w s = .next { s with b := s.b.recIn h k f }) (takes : s.b.SeamTakes h) (kind : (seamRecord h).kind = k)
    (go : ∀ x : Sea, x.seqIn = seqNext (seamSeq h) → x.ackOut = seamSeq h → x.pass = s.b.sea.pass →
      p { s with b := f { s.b with sea := x } (seamRecord h) }) : Runs w s p := by
  obtain ⟨x, seqIn, ackOut, pass, eq⟩ := Chip.recIn_takes (f := f) takes kind
  refine ⟨_, row, ?_⟩
  rw [eq]
  exact go x seqIn ackOut pass

end Sys2Proof.Machine
end

section
/-!
SUPPORT. What each record of the Seam changes (R342, R401, R470, R477 to R482).
-/
namespace Sys2Proof.Machine

theorem butSeam_none (k : Nat) (h : noReg k) : butSeam k := h.elim

/-! ### Contexts and cells -/

/-- An entry of a node's address moves from one key to another. -/
def Chip.entryMove (b : Chip) (n t : Nat) (o v : Option Nat) : Chip :=
  if o = v then b
  else
    let b1 := match o with
      | some k => b.removeOwn t k n
      | none => b
    match v with
    | some k => b1.nodeTake t k n
    | none => b1

theorem Chip.removeEnt_only (b : Chip) (t i : Nat) : Chip.Only [.fwd, .ntc, .out] fwdKey b (b.removeEnt t i) := (b.putEnt_counted t i none).1

theorem Chip.removeOwn_fwd (b : Chip) (t key n : Nat) : Chip.Only [.fwd, .ntc, .out] fwdKey b (b.removeOwn t key n) := by
  have touched := (b.touch_only 0 (t + 256 * key)).mono (qs := [.fwd, .ntc, .out]) (by decide) fun _ => id
  unfold Chip.removeOwn
  dsimp only
  split
  · exact .ite (touched.trans (Chip.removeEnt_only _ _ _)) touched
  · exact touched

theorem Chip.nodeTake_only (b : Chip) (t key n : Nat) : Chip.Only [.fwd, .ntc, .out] fwdKey b (b.nodeTake t key n) := by
  have touched := (b.touch_only 0 (t + 256 * key)).mono (qs := [.fwd, .ntc, .out]) (by decide) fun _ => id
  unfold Chip.nodeTake
  dsimp only
  split
  · exact .ite touched (touched.trans (Chip.putEnt_counted _ _ _ _).1)
  · refine touched.trans ?_
    have entered (c : Chip) : (c.nodeEntry t key n).1 = (c.insert 0 (nodeEnt t key n c.stitch32) false).1 := by
      unfold Chip.nodeEntry
      split <;> rename_i e <;> rw [e]
    rw [entered]
    exact (Chip.insert_only _ _ _ _).1

theorem Chip.entryMove_only (b : Chip) (n t : Nat) (o v : Option Nat) : Chip.Only [.fwd, .ntc, .out] fwdKey b (b.entryMove n t o v) := by
  have removed : Chip.Only [.fwd, .ntc, .out] fwdKey b (match o with | some k => b.removeOwn t k n | none => b) := by
    split
    · exact b.removeOwn_fwd _ _ _
    · exact .rfl' _ _ _
  unfold Chip.entryMove
  refine .ite (.rfl' _ _ _) ?_
  dsimp only
  split
  · exact removed.trans (Chip.nodeTake_only _ _ _ _)
  · exact removed

theorem Chip.setNs_seam (b : Chip) (n st : Nat) : Chip.Only [.mac] butSeam b (b.setNs n st) := by
  have low {st : Nat} {f : Fld} (h : nsFld st = some f) : butSeam f.key := by
    unfold nsFld at h
    split at h <;> cases h <;> decide
  unfold Chip.setNs
  refine Chip.Only.trans ?_ ((Chip.ndw_only _ _ _ _).mono (fun _ => id) butSeam_none)
  have counted : Chip.Only [.mac] butSeam b (match nsFld (b.ns n) with | some f => b.sub f 1 | none => b) := by
    split
    · rename_i e
      exact (Chip.Only.rfl' b _ _).w _ _ (low e)
    · exact .rfl' b _ _
  split
  · rename_i e
    exact counted.w _ _ (low e)
  · exact counted

/-- The block with a node's context written, its counts and cached keys following. -/
def Chip.ctxPut (b : Chip) (n c : Nat) (keys : Bool) : Chip :=
  (if keys then b.setNs n (cx c Cx.STATE) else (b.setNs n (cx c Cx.STATE)).dropKeys n).putNode n c

theorem Chip.ctxApply_puts (b : Chip) (n c : Nat) : ∃ keys o v o' v', b.ctxApply n c = ((b.ctxPut n c keys).entryMove n 1 o v).entryMove n 2 o' v' := by
  unfold Chip.ctxApply
  extract_lets old e sh move b1 b2
  refine ⟨decide (e old = e c), e old, e c, sh old, sh c, ?_⟩
  have eq : b2.putNode n c = b.ctxPut n c (decide (e old = e c)) := by
    unfold b2 Chip.ctxPut
    simp only [decide_eq_true_eq]
    rfl
  rw [← eq]
  rfl

theorem Chip.ctxPut_only (b : Chip) (n c : Nat) (keys : Bool) : Chip.Only [.mac, .key] butSeam b (b.ctxPut n c keys) := by
  have moved := (b.setNs_seam n (cx c Cx.STATE)).mono (qs := [.mac, .key]) (by decide) fun _ => id
  have dropped : Chip.Only [.mac, .key] butSeam b ((b.setNs n (cx c Cx.STATE)).dropKeys n) := (moved.putKey (by decide) _).w _ _ (by decide)
  unfold Chip.ctxPut
  exact (Chip.Only.ite moved dropped).putMac (by decide) _

/-- A context applied stands there, whatever the entries of its addresses do. -/
theorem Chip.ctxApply_only (b : Chip) (n c : Nat) : Chip.Only [.mac, .key, .fwd, .ntc, .out] butSeam b (b.ctxApply n c) ∧ (b.ctxApply n c).node n = c := by
  obtain ⟨keys, o, v, o', v', eq⟩ := b.ctxApply_puts n c
  have first := Chip.entryMove_only (b.ctxPut n c keys) n 1 o v
  have second := Chip.entryMove_only ((b.ctxPut n c keys).entryMove n 1 o v) n 2 o' v'
  have moved := (first.trans second).mono (fun _ => id) butSeam_of_fwd
  rw [eq]
  refine ⟨((b.ctxPut_only n c keys).mono (by decide) fun _ => id).trans (moved.mono (by decide) fun _ => id), ?_⟩
  rw [Chip.node, moved.mac (by decide)]
  exact kgetD_kset_same _ _ _ _

theorem putCells_only (b : Chip) (i : Nat) (l : List Nat) : Chip.Only [.sch] (· = Reg.SCH_CELLS_USED.key) b (putCells b i l) := by
  induction l generalizing b i with
  | nil => exact .rfl' _ _ _
  | cons w l ih => exact (Chip.Only.ite (b.setCell_only i w) (.rfl' _ _ _)).trans (ih _ _)

/-- Cells written: those of the record that the Pattern has. -/
theorem putCells_cell (b : Chip) (i : Nat) (l : List Nat) (m : Nat) :
    (putCells b i l).cell m = if i ≤ m ∧ m < i + l.length ∧ m < b.pat.weaveCells then l.getD (m - i) 0 else b.cell m := by
  induction l generalizing b i with
  | nil => exact (if_neg (by simp; omega)).symm
  | cons w l ih =>
    have pat : (if i < b.pat.weaveCells then b.setCell i w else b).pat = b.pat := by split <;> rfl
    have here : (if i < b.pat.weaveCells then b.setCell i w else b).cell m = if i = m ∧ m < b.pat.weaveCells then w else b.cell m := by
      by_cases at' : i = m
      · subst at'
        by_cases inside : i < b.pat.weaveCells
        · rw [if_pos inside, Chip.cell_setCell, if_pos rfl, if_pos ⟨rfl, inside⟩]
        · rw [if_neg inside, if_neg fun h => inside h.2]
      · have other : ¬ (i = m ∧ m < b.pat.weaveCells) := fun h => at' h.1
        rw [if_neg other]
        by_cases inside : i < b.pat.weaveCells
        · rw [if_pos inside, Chip.cell_setCell, if_neg at']
        · rw [if_neg inside]
    rw [putCells, ih, pat, here, List.length_cons]
    by_cases at' : i = m
    · subst at'
      simp
    · by_cases beyond : i + 1 ≤ m ∧ m < i + 1 + l.length ∧ m < b.pat.weaveCells
      · rw [if_pos beyond, if_pos (by omega), show m - i = (m - (i + 1)) + 1 by omega, List.getD_cons_succ]
      · rw [if_neg beyond, if_neg fun h : i = m ∧ m < b.pat.weaveCells => at' h.1, if_neg (by omega)]

theorem toWords_length (l : List Nat) (n : Nat) : (toWords l n).length = n := by
  induction n generalizing l with
  | zero => rfl
  | succ n ih => rw [toWords, List.length_cons, ih]

/-! ### Registrations and contexts of compression -/

theorem Chip.regDrop_seam (b : Chip) (a : Nat) : Chip.Only [.svc, .fwd, .ntc, .out] butSeam b (b.regDrop a) ∧
    (b.regDrop a).svc = { b.svc with regs := b.svc.regs.filter (fun r => r.addr != a) } := by
  have removed := Chip.removeKey_only (b.putRegs (b.svc.regs.filter (fun r => r.addr != a))) 0 (addrKey a)
  have put : Chip.Only [.svc, .fwd, .ntc, .out] butSeam b (b.putRegs (b.svc.regs.filter (fun r => r.addr != a))) :=
    ((Chip.Only.rfl' b _ _).putSvc (by decide) _).w _ _ (by decide)
  exact ⟨put.trans (removed.mono (by decide) butSeam_of_fwd), removed.svc (by decide)⟩

/-- Registrations that go: the others stay, and every other record of the services. -/
theorem Chip.foldl_regDrop (b : Chip) (l : List Nat) : Chip.Only [.svc, .fwd, .ntc, .out] butSeam b (l.foldl Chip.regDrop b) ∧
    (l.foldl Chip.regDrop b).svc.routes = b.svc.routes ∧ ∀ r, r ∈ (l.foldl Chip.regDrop b).svc.regs ↔ r ∈ b.svc.regs ∧ r.addr ∉ l := by
  induction l generalizing b with
  | nil => exact ⟨.rfl' _ _ _, rfl, fun r => by simp⟩
  | cons a l ih =>
    obtain ⟨only, svc⟩ := b.regDrop_seam a
    obtain ⟨rest, routes, regs⟩ := ih (b.regDrop a)
    refine ⟨only.trans rest, routes.trans (by rw [svc]), fun r => (regs r).trans ?_⟩
    rw [svc]
    simp only [List.mem_filter, List.mem_cons, not_or, bne_iff_ne]
    tauto

theorem putCtxs_eq (b : Chip) (l : List Nat) (k : Nat) : putCtxs b l k = { b with svc := { b.svc with ctxs := (putCtxs b l k).svc.ctxs } } := by
  induction k generalizing b l with
  | zero => rfl
  | succ k ih =>
    rw [putCtxs, ih]
    rfl

/-- The contexts written follow from those that stood alone. -/
theorem putCtxs_ctxs {b c : Chip} (h : c.svc.ctxs = b.svc.ctxs) (l : List Nat) (k : Nat) : (putCtxs c l k).svc.ctxs = (putCtxs b l k).svc.ctxs := by
  induction k generalizing b c l with
  | zero => exact h
  | succ k ih => exact ih (congrArg (fun x => kput x (l.headD 0 % 16) _) h) _

end Sys2Proof.Machine
end

section
/-!
SUPPORT. A HELLO, a HEARTBEAT, a pocket's record and the marks of a pass (R470, R477, R480 to R482).
-/
namespace Sys2Proof.Machine

theorem Chip.t_wb_same (b : Chip) {f : Fld} (h : f.w = 1) (v : Bool) : (b.wb f v).t f = v := by
  rw [Chip.t, Chip.wb, Chip.r_w_same, h]
  cases v <;> rfl

theorem slice_getD (l : List Nat) (off n i : Nat) (hi : i < n) : (slice l off n).getD i 0 = l.getD (off + i) 0 := by
  simp [slice, List.getD_eq_getElem?_getD, hi, List.getElem?_drop]

theorem Chip.seamOut_only (b : Chip) (seq : Nat) (recs : List SeamRec) : Chip.Only [.out] noReg b (b.seamOut seq recs) := by
  unfold Chip.seamOut
  split
  · exact (Chip.Only.rfl' _ _ _).putOut (by decide) _
  · exact .rfl' _ _ _

/-! ### HELLO -/

/-- Where a TAG is right there is a pair key, and none is reported missing. -/
theorem Chip.keyMissing_tagged {b : Chip} {h : SeamHdr} (tag : b.tagOk h = true) : b.keyMissing = { b with sea := { b.sea with keyMissing := false } } := by
  have key : b.pairKey.isSome = true := by
    rw [Option.isSome_iff_ne_none]
    intro none
    simp [Chip.tagOk, Chip.seamKey, none] at tag
  exact if_pos key

section
variable {b : Chip} {l : List Nat}

/-- The block as a HELLO that fits leaves it, before a PAIR command ends. -/
def Chip.helloed (b : Chip) (l : List Nat) : Chip :=
  let b1 := ((b.wb Reg.SEA_PAIRED true).w Reg.SEA_PEER_EUI_HI (beNat ((slice l 32 8).take 4))).w Reg.SEA_PEER_EUI_LO (beNat ((slice l 32 8).drop 4))
  let b2 := (b1.learnEpoch (fldLE l 24 4)).raise Src.SEA N.PAIRED (leNat (slice l 32 8))
  (if b.sea.hello then b2 else b2.helloOut).modSea (fun x =>
    { x with hello := false, pairLeft := none, seqOut := 0, seqIn := 0, ackOut := seqNone, waiting := [], pass := none })

theorem Chip.helloIn_fits (fits : b.pairDiff l = none) : b.helloIn l = if b.sea.pairLeft.isSome then
    (b.helloed l).cmdFinish cbSEA OK [l.getD 20 0, (b.helloed l).r Reg.SEA_PEER_EPOCH, (b.helloed l).r Reg.SEA_PEER_EUI_LO, (b.helloed l).r Reg.SEA_PEER_EUI_HI]
    else b.helloed l := by
  unfold Chip.helloIn
  rw [fits]
  rfl

theorem Chip.helloed_shows (b : Chip) (l : List Nat) : (b.helloed l).t Reg.SEA_PAIRED = true ∧
    (b.helloed l).r Reg.SEA_PEER_EUI_HI = beNat ((slice l 32 8).take 4) % 2 ^ 32 ∧ (b.helloed l).r Reg.SEA_PEER_EUI_LO = beNat ((slice l 32 8).drop 4) % 2 ^ 32 ∧
    (b.helloed l).r Reg.SEA_PEER_EPOCH = max (fldLE l 24 4) (b.r Reg.SEA_PEER_EPOCH) % 2 ^ 32 := by
  let b1 := ((b.wb Reg.SEA_PAIRED true).w Reg.SEA_PEER_EUI_HI (beNat ((slice l 32 8).take 4))).w Reg.SEA_PEER_EUI_LO (beNat ((slice l 32 8).drop 4))
  have shown (f : Fld) (out : ¬ offs 0x50000 0x60000 f.key) : (b.helloed l).r f = (b1.learnEpoch (fldLE l 24 4)).r f := by
    unfold Chip.helloed
    dsimp only
    rw [Chip.modSea_r]
    split
    · exact (Chip.raise_only _ _ _ _).2 f out
    · exact ((Chip.seamOut_only _ _ _).2 f id).trans ((Chip.raise_only _ _ _ _).2 f out)
  have learned (f : Fld) (out : ¬ offs 0x50000 0x60000 f.key) (other : Reg.SEA_PEER_EPOCH.key ≠ f.key) : (b.helloed l).r f = b1.r f :=
    (shown f out).trans (Chip.r_w_ne _ _ _ _ other)
  refine ⟨?_, ?_, ?_, ?_⟩
  · rw [Chip.t, learned _ (by decide) (by decide), Chip.r_w_ne _ _ _ _ (by decide), Chip.r_w_ne _ _ _ _ (by decide)]
    exact Chip.t_wb_same _ rfl _
  · rw [learned _ (by decide) (by decide), Chip.r_w_ne _ _ _ _ (by decide)]
    exact Chip.r_w_same _ _ _
  · rw [learned _ (by decide) (by decide)]
    exact Chip.r_w_same _ _ _
  · rw [shown _ (by decide), Chip.learnEpoch]
    refine (Chip.r_w_same _ _ _).trans ?_
    rw [Chip.r_w_ne _ _ _ _ (by decide), Chip.r_w_ne _ _ _ _ (by decide), Chip.wb, Chip.r_w_ne _ _ _ _ (by decide)]
    rfl

theorem Chip.helloed_sea (b : Chip) (l : List Nat) : (b.helloed l).sea.pairLeft = none ∧ (b.helloed l).sea.hello = false ∧
    (b.helloed l).sea.seqOut = 0 ∧ (b.helloed l).sea.seqIn = 0 ∧ (b.helloed l).sea.ackOut = seqNone := ⟨rfl, rfl, rfl, rfl, rfl⟩

/-- The end of a command of SEA leaves the registers beyond its command block. -/
theorem seaBlock_apart {f : Fld} (h : f.key ∈ [Reg.SEA_PAIRED.key, Reg.SEA_PEER_EUI_HI.key, Reg.SEA_PEER_EUI_LO.key, Reg.SEA_PEER_EPOCH.key]) :
    ¬ blockKey cbSEA f.key := by
  have apart : ∀ k ∈ [Reg.SEA_PAIRED.key, Reg.SEA_PEER_EUI_HI.key, Reg.SEA_PEER_EUI_LO.key, Reg.SEA_PEER_EPOCH.key],
      ¬ (k = Reg.NTC_INT_PEND.key ∨ offs (cbSEA + 4) (cbSEA + 0x94) k) := by decide
  exact apart _ h

/-- A HELLO that fits pairs, and ends a PAIR command. -/
theorem Chip.helloIn_pairs (fits : b.pairDiff l = none) : ∃ c, b.helloIn l = c ∧ c.t Reg.SEA_PAIRED = true ∧
    c.r Reg.SEA_PEER_EUI_HI = beNat ((slice l 32 8).take 4) % 2 ^ 32 ∧ c.r Reg.SEA_PEER_EUI_LO = beNat ((slice l 32 8).drop 4) % 2 ^ 32 ∧
    c.r Reg.SEA_PEER_EPOCH = max (fldLE l 24 4) (b.r Reg.SEA_PEER_EPOCH) % 2 ^ 32 ∧ c.sea.pairLeft = none ∧ c.sea.hello = false ∧
    c.sea.seqOut = 0 ∧ c.sea.seqIn = 0 ∧ c.sea.ackOut = seqNone ∧
    (b.sea.pairLeft ≠ none → c.Completed cbSEA OK [l.getD 20 0, c.r Reg.SEA_PEER_EPOCH, c.r Reg.SEA_PEER_EUI_LO, c.r Reg.SEA_PEER_EUI_HI]) := by
  obtain ⟨paired, hi, lo, epoch⟩ := b.helloed_shows l
  obtain ⟨left, hello, seqOut, seqIn, ackOut⟩ := b.helloed_sea l
  refine ⟨_, rfl, ?_⟩
  rw [Chip.helloIn_fits fits]
  generalize values : [l.getD 20 0, (b.helloed l).r Reg.SEA_PEER_EPOCH, (b.helloed l).r Reg.SEA_PEER_EUI_LO, (b.helloed l).r Reg.SEA_PEER_EUI_HI] = rs
  split
  · have ended := (b.helloed l).cmdFinish_only cbSEA OK rs
    have done := Chip.cmdFinish_completed (b.helloed l) cbSEA OK rs (.inr (by decide)) (by decide)
    have sea := ended.sea (by decide)
    rw [ended.t _ (seaBlock_apart (by decide)), ended.2 _ (seaBlock_apart (f := Reg.SEA_PEER_EUI_HI) (by decide)),
      ended.2 _ (seaBlock_apart (f := Reg.SEA_PEER_EUI_LO) (by decide)), ended.2 _ (seaBlock_apart (f := Reg.SEA_PEER_EPOCH) (by decide)), sea, values]
    exact ⟨paired, hi, lo, epoch, left, hello, seqOut, seqIn, ackOut, fun _ => done⟩
  · rename_i idle
    exact ⟨paired, hi, lo, epoch, left, hello, seqOut, seqIn, ackOut, fun busy => absurd (Option.isSome_iff_ne_none.mpr busy) idle⟩

/-- One that does not fit unpairs, and ends a PAIR command. -/
theorem Chip.helloIn_unpairs (differs : b.pairDiff l ≠ none) : ∃ c, b.helloIn l = c ∧ c.t Reg.SEA_PAIRED = false ∧ c.sea.pairLeft = none ∧
    c.sea.hello = false ∧ (b.sea.pairLeft ≠ none → c.Completed cbSEA WRONG_STATE []) := by
  obtain ⟨d, diff⟩ := Option.ne_none_iff_exists'.mp differs
  let b0 := (b.wb Reg.SEA_PAIRED false).modSea (fun x => { x with hello := false, pairLeft := none })
  have raised := b0.raise_only Src.SEA N.PAIR_MISMATCH (argB d 0 0 0 0)
  have eq : b.helloIn l = if b.sea.pairLeft.isSome then (b0.raise Src.SEA N.PAIR_MISMATCH (argB d 0 0 0 0)).cmdFinish cbSEA WRONG_STATE []
      else b0.raise Src.SEA N.PAIR_MISMATCH (argB d 0 0 0 0) := by
    unfold Chip.helloIn
    rw [diff]
  have unpaired : (b0.raise Src.SEA N.PAIR_MISMATCH (argB d 0 0 0 0)).t Reg.SEA_PAIRED = false := by
    rw [raised.t _ (by decide), Chip.t, Chip.modSea_r]
    exact Chip.t_wb_same b rfl false
  have sea := raised.sea (by decide)
  refine ⟨_, rfl, ?_⟩
  rw [eq]
  split
  · have ended := (b0.raise Src.SEA N.PAIR_MISMATCH (argB d 0 0 0 0)).cmdFinish_only cbSEA WRONG_STATE []
    rw [ended.t _ (seaBlock_apart (by decide)), ended.sea (by decide), sea]
    exact ⟨unpaired, rfl, rfl, fun _ => Chip.cmdFinish_completed _ cbSEA WRONG_STATE [] (.inr (by decide)) (by decide)⟩
  · rename_i idle
    rw [sea]
    exact ⟨unpaired, rfl, rfl, fun busy => absurd (Option.isSome_iff_ne_none.mpr busy) idle⟩
end

/-! ### HEARTBEAT -/

/-- A heartbeat of the stitch is heard. -/
def Chip.Heard (c : Chip) (p : Beat) (epoch : Nat) : Prop :=
  c.sea.hb = true ∧ c.sea.peer = some p ∧ c.r Reg.SEA_MISS_RUN = 0 ∧ c.r Reg.SEA_PEER_EPOCH = epoch

section
variable {c : Chip} {p : Beat} {epoch : Nat}

/-- It stays heard where the missed stitches and the partner's epoch stay. -/
theorem Chip.Heard.keep {d : Chip} {ps : List Part} {rs : Nat → Prop} (h : c.Heard p epoch) (only : Chip.Only ps rs c d)
    (miss : ¬ rs Reg.SEA_MISS_RUN.key) (peer : ¬ rs Reg.SEA_PEER_EPOCH.key) (sea : ∃ x : Sea, d.sea = x ∧ x.hb = c.sea.hb ∧ x.peer = c.sea.peer) :
    d.Heard p epoch := by
  obtain ⟨hb, shown, missed, learned⟩ := h
  obtain ⟨x, rfl, hb', shown'⟩ := sea
  exact ⟨hb'.trans hb, shown'.trans shown, (only.2 _ miss).trans missed, (only.2 _ peer).trans learned⟩

theorem Chip.Heard.modSea (h : c.Heard p epoch) (f : Sea → Sea) (hb : (f c.sea).hb = c.sea.hb) (peer : (f c.sea).peer = c.sea.peer) :
    (c.modSea f).Heard p epoch :=
  h.keep ((Chip.Only.rfl' c [.sea] noReg).putSea (by decide) _) id id ⟨_, rfl, hb, peer⟩

theorem Chip.Heard.raise (h : c.Heard p epoch) (src code arg : Nat) : (c.raise src code arg).Heard p epoch :=
  h.keep (c.raise_only src code arg) (by decide) (by decide) ⟨_, (c.raise_only src code arg).sea (by decide), rfl, rfl⟩

theorem Chip.Heard.ite {d : Chip} {q : Prop} [Decidable q] (hc : c.Heard p epoch) (hd : d.Heard p epoch) : (if q then c else d).Heard p epoch := by
  split
  · exact hc
  · exact hd

theorem Chip.Heard.lag (h : c.Heard p epoch) (n : Nat) : (c.lagShow n).lagTest.Heard p epoch := by
  have shown : (c.lagShow n).Heard p epoch := h.keep (c.lagShow_only n) (by decide) (by decide) ⟨_, rfl, rfl, rfl⟩
  obtain ⟨e, sea⟩ := (c.lagShow n).lagTest_sea
  exact shown.keep (c.lagShow n).lagTest_only (by decide) (by decide) ⟨_, sea, rfl, rfl⟩

theorem Chip.Heard.peerActive (h : c.Heard p epoch) (n eui cause : Nat) (fresh : Bool) : (c.peerActive n eui cause fresh).Heard p epoch :=
  .ite (.ite h ((h.modSea (fun x => { x with retreat := some cause }) rfl rfl).raise _ _ _)) (.ite (h.raise _ _ _) h)
end

theorem Chip.beatIn_hears (b : Chip) (l : List Nat) : (b.beatIn l).Heard (readBeat l) (max (fldLE l 8 4) (b.r Reg.SEA_PEER_EPOCH) % 2 ^ 32) := by
  unfold Chip.beatIn
  extract_lets q own fresh b1 b2 b3
  have first : b2.Heard (readBeat l) (max (fldLE l 8 4) (b.r Reg.SEA_PEER_EPOCH) % 2 ^ 32) := by
    have same (f : Fld) : b2.r f = b1.r f := Chip.modSea_r _ _ _
    refine ⟨rfl, rfl, (same _).trans (Chip.r_w_same _ _ _), (same _).trans ?_⟩
    exact (Chip.r_w_ne _ _ _ _ (by decide)).trans (Chip.r_w_same _ _ _)
  refine Chip.Heard.lag ?_ _
  unfold b3
  clear_value b2
  split
  · exact .ite (first.modSea _ rfl rfl) first
  · exact first.peerActive _ _ _ _
  · exact first.modSea _ rfl rfl
  · exact .ite (first.modSea _ rfl rfl) first
  · exact first

/-! ### POCKET -/

section
variable {b : Chip} {p : Nat} {l : List Nat} {bulk : Bool}

theorem Chip.pocketIn_skips (skip : 4095 < p ∨ (b.t Reg.SEA_PAIR_PK_EN = true ∧ p = b.r Reg.SEA_PAIR_POCKET)) : b.pocketIn' p l bulk = b.recCount bulk :=
  if_pos skip

theorem Chip.pocketIn_empties (take : ¬ (4095 < p ∨ (b.t Reg.SEA_PAIR_PK_EN = true ∧ p = b.r Reg.SEA_PAIR_POCKET)))
    (empty : bits (l.headD 0) 0 3 = 0 ∨ 4 < bits (l.headD 0) 0 3) : b.pocketIn' p l bulk = (b.writePocket p none).recCount bulk :=
  (if_neg take).trans (if_pos empty)

theorem Chip.pocketIn_fails (take : ¬ (4095 < p ∨ (b.t Reg.SEA_PAIR_PK_EN = true ∧ p = b.r Reg.SEA_PAIR_POCKET)))
    (state : ¬ (bits (l.headD 0) 0 3 = 0 ∨ 4 < bits (l.headD 0) 0 3)) (wrapped : allZero (slice l 32 (keyLen (l.getD 1 0 % 16) + 8)) = false)
    (fails : b.pairKey.bind (fun k => kwUnwrap (keyOctets k) (slice l 32 (keyLen (l.getD 1 0 % 16) + 8))) = none) :
    b.pocketIn' p l bulk = ((b.inc Reg.SEA_TAG_FAIL).setMirror 3).recCount bulk := by
  rw [Chip.pocketIn', if_neg take, if_neg state, if_neg (by rw [wrapped]; decide), fails]

theorem Chip.pocketIn_holds {k : List Nat} (take : ¬ (4095 < p ∨ (b.t Reg.SEA_PAIR_PK_EN = true ∧ p = b.r Reg.SEA_PAIR_POCKET)))
    (state : ¬ (bits (l.headD 0) 0 3 = 0 ∨ 4 < bits (l.headD 0) 0 3))
    (key : (allZero (slice l 32 (keyLen (l.getD 1 0 % 16) + 8)) = true ∧ k = []) ∨ (allZero (slice l 32 (keyLen (l.getD 1 0 % 16) + 8)) = false ∧
      b.pairKey.bind (fun k => kwUnwrap (keyOctets k) (slice l 32 (keyLen (l.getD 1 0 % 16) + 8))) = some k)) :
    b.pocketIn' p l bulk = (b.writePocket p (some (b.pocketHeld l k))).recCount bulk := by
  rw [Chip.pocketIn', if_neg take, if_neg state]
  obtain ⟨zero, rfl⟩ | ⟨wrapped, unwraps⟩ := key
  · exact if_pos zero
  · rw [if_neg (by rw [wrapped]; decide), unwraps]

/-- A pocket written by a record is there when the record has counted. -/
theorem Chip.recorded_pocket (b : Chip) (p : Nat) (x : Option Pocket) (bulk : Bool) : ((b.writePocket p x).recCount bulk).pocket p = x := by
  rw [Chip.pocket, (Chip.recCount_only _ _).key (by decide)]
  exact (Chip.writePocket_pocket _ _ _ _).trans (if_pos rfl)
end

/-- A record whose key does not unwrap is counted, and makes the mirror STALE. -/
theorem Chip.badRecord_shows (b : Chip) (bulk : Bool) : (((b.inc Reg.SEA_TAG_FAIL).setMirror 3).recCount bulk).key = b.key ∧
    (((b.inc Reg.SEA_TAG_FAIL).setMirror 3).recCount bulk).r Reg.SEA_TAG_FAIL = satAdd 32 (b.r Reg.SEA_TAG_FAIL) 1 ∧
    (((b.inc Reg.SEA_TAG_FAIL).setMirror 3).recCount bulk).r Reg.SEA_MIRROR = 3 := by
  have stale := (b.inc Reg.SEA_TAG_FAIL).setMirror_only 3
  have shown := (b.inc Reg.SEA_TAG_FAIL).setMirror_shows (v := 3) (by decide)
  have ended := (b.inc Reg.SEA_TAG_FAIL).setMirror_stale
  have fails : ((b.inc Reg.SEA_TAG_FAIL).setMirror 3).r Reg.SEA_TAG_FAIL = satAdd 32 (b.r Reg.SEA_TAG_FAIL) 1 :=
    (stale.2 _ (by decide)).trans (Chip.r_inc_same _ _)
  have key : ((b.inc Reg.SEA_TAG_FAIL).setMirror 3).key = b.key := stale.key (by decide)
  generalize (b.inc Reg.SEA_TAG_FAIL).setMirror 3 = c at shown ended fails key ⊢
  have counted := c.recCounted_only bulk
  refine ⟨((c.recCount_only bulk).key (by decide)).trans key, ((c.recCount_only bulk).2 _ (by decide)).trans fails, ?_⟩
  obtain ⟨n, eq⟩ := c.recCount_eq bulk
  have mirror : ((c.recCounted bulk).lagShow n).r Reg.SEA_MIRROR = 3 := by
    rw [(Chip.lagShow_only _ _).2 _ (by decide)]
    cases bulk with
    | true => exact (Chip.r_inc_ne _ (by decide)).trans ((Chip.r_inc_ne _ (by decide)).trans shown)
    | false => exact (Chip.r_inc_ne _ (by decide)).trans ((Chip.r_w_ne _ _ _ _ (by decide)).trans shown)
  have still : ((c.recCounted bulk).lagShow n).sea.ended = false := (congrArg Sea.ended (counted.sea (by decide))).trans ended
  rw [eq, Chip.lagTest_stale mirror still, mirror]

/-! ### BULK_MARK -/

/-- The first mark of a pass. -/
theorem Chip.bulkIn_begins (b : Chip) : (b.bulkIn 0).sea.seqIn = b.sea.seqIn ∧ (b.bulkIn 0).sea.ackOut = b.sea.ackOut ∧
    (b.bulkIn 0).r Reg.SEA_MIRROR = 1 ∧ (b.bulkIn 0).r Reg.SEA_BULK_ITEMS = 0 ∧ (b.bulkIn 0).sea.pass = some ([], []) := by
  unfold Chip.bulkIn
  rw [if_pos rfl]
  extract_lets seq b1
  obtain ⟨e, sea⟩ := (b1.modSea (fun x => { x with pass := some ([], []), marks := [], ended := false })).setMirror_sea 1
  rw [sea]
  refine ⟨rfl, rfl, Chip.setMirror_shows _ (by decide), ?_, rfl⟩
  rw [(Chip.setMirror_only _ _).2 _ (by decide), Chip.modSea_r, Chip.r_w_ne _ _ _ _ (by decide), Chip.r_w_ne _ _ _ _ (by decide)]
  exact Chip.r_w_same _ _ _

/-- The last mark of a pass: what it has not carried goes. -/
theorem Chip.bulkIn_ends {b : Chip} {item : Nat} {rts rgs : List Nat} (last : item ≠ 0) (pass : b.sea.pass = some (rts, rgs)) :
    (b.bulkIn item).sea.seqIn = b.sea.seqIn ∧ (b.bulkIn item).sea.ackOut = b.sea.ackOut ∧ (b.bulkIn item).sea.pass = none ∧
    (b.bulkIn item).t Reg.SEA_BASED = true ∧ (b.bulkIn item).r Reg.SEA_BULK_PASSES = satAdd 32 (b.r Reg.SEA_BULK_PASSES) 1 ∧
    (b.bulkIn item).svc.routes = b.svc.routes.filter (fun e => rts.contains e.1) ∧
    ∀ r, r ∈ (b.bulkIn item).svc.regs ↔ r ∈ b.svc.regs ∧ rgs.contains r.addr = true := by
  unfold Chip.bulkIn
  rw [if_neg last, pass]
  dsimp only
  let b1 := b.modSvc (fun s => { s with routes := s.routes.filter (fun e => rts.contains e.1) })
  obtain ⟨dropped, routes, regs⟩ := b1.foldl_regDrop ((b1.svc.regs.filter (fun r => !rgs.contains r.addr)).map (·.addr))
  generalize ((b1.svc.regs.filter (fun r => !rgs.contains r.addr)).map (·.addr)).foldl Chip.regDrop b1 = b2 at dropped routes regs ⊢
  let b3 := ((b2.wb Reg.SEA_BASED true).inc Reg.SEA_BULK_PASSES).modSea (fun x => { x with pass := none, ended := true })
  have based : b3.t Reg.SEA_BASED = true := by
    rw [Chip.t, Chip.modSea_r, Chip.r_inc_ne _ (by decide)]
    exact Chip.t_wb_same _ rfl _
  have passes : b3.r Reg.SEA_BULK_PASSES = satAdd 32 (b.r Reg.SEA_BULK_PASSES) 1 := by
    rw [Chip.modSea_r]
    refine (Chip.r_inc_same _ _).trans ?_
    rw [Chip.wb, Chip.r_w_ne _ _ _ _ (by decide), dropped.2 _ (by decide)]
    rfl
  have sea2 : b2.sea = b.sea := dropped.sea (by decide)
  have last : ∃ e, (if b3.r Reg.SEA_MIRROR = 1 then b3.lagTest else b3.modSea (fun x => { x with ended := false })).sea = { b3.sea with ended := e } := by
    split
    · exact b3.lagTest_sea
    · exact ⟨_, rfl⟩
  have judged : Chip.Only [.sea, .ntc, .out] mirrorKey b3 (if b3.r Reg.SEA_MIRROR = 1 then b3.lagTest else b3.modSea (fun x => { x with ended := false })) :=
    .ite b3.lagTest_only ((Chip.Only.rfl' _ _ _).putSea (by decide) _)
  obtain ⟨e, sea⟩ := last
  have sea' : (if b3.r Reg.SEA_MIRROR = 1 then b3.lagTest else b3.modSea (fun x => { x with ended := false })).sea = { b.sea with pass := none, ended := e } := by
    rw [sea, ← sea2]
    rfl
  have svc := judged.svc (by decide)
  change (if b3.r Reg.SEA_MIRROR = 1 then b3.lagTest else b3.modSea (fun x => { x with ended := false })).sea.seqIn = _ ∧ _
  rw [sea', svc, judged.t _ (by decide), judged.2 _ (by decide)]
  refine ⟨rfl, rfl, rfl, based, passes, routes, fun r => (regs r).trans ?_⟩
  have drop : r.addr ∈ (b1.svc.regs.filter (fun r => !rgs.contains r.addr)).map (·.addr) ↔ ∃ x ∈ b.svc.regs, rgs.contains x.addr = false ∧ x.addr = r.addr := by
    simp only [List.mem_map, List.mem_filter, Bool.not_eq_true', and_assoc]
    rfl
  rw [drop]
  constructor
  · rintro ⟨mem, kept⟩
    refine ⟨mem, ?_⟩
    rw [← Bool.not_eq_false]
    exact fun gone => kept ⟨r, mem, gone, rfl⟩
  · rintro ⟨mem, carried⟩
    refine ⟨mem, ?_⟩
    rintro ⟨x, -, gone, same⟩
    rw [same, carried] at gone
    cases gone

end Sys2Proof.Machine
end

section
/-!
SUPPORT. The rows of the Seam's records (R470, R471).
-/
namespace Sys2Proof.Machine

/-- What the row of a record applies. -/
theorem seamRows_row {h : SeamHdr} {k : Nat} {w : Instr} (row : (k, w) ∈ seamRows h) :
    ∃ f, ∀ s, exec w s = .next { s with b := s.b.recIn h k f } := by
  simp only [seamRows, List.mem_cons, Prod.mk.injEq, List.not_mem_nil, or_false] at row
  rcases row with ⟨rfl, rfl⟩ | ⟨rfl, rfl⟩ | ⟨rfl, rfl⟩ | ⟨rfl, rfl⟩ | ⟨rfl, rfl⟩ | ⟨rfl, rfl⟩ | ⟨rfl, rfl⟩ | ⟨rfl, rfl⟩ | ⟨rfl, rfl⟩ | ⟨rfl, rfl⟩ <;>
    exact ⟨_, fun _ => rfl⟩

/-- The row of a heartbeat or of a record takes in a frame. -/
theorem seamRows_frame {h : SeamHdr} {k : Nat} {w : Instr} (row : (k, w) ∈ (2, Instr.heartbeat h.toSeamOct h.toSeamEnd) :: seamRows h) :
    ∃ f, ∀ s, exec w s = .next { s with b := s.b.seamIn h k f } := by
  obtain beat | row := List.mem_cons.mp row
  · cases beat
    exact ⟨_, fun _ => rfl⟩
  · obtain ⟨f, run⟩ := seamRows_row row
    exact ⟨_, run⟩

/-! The pair key, and the key that wraps a pocket, do not depend on what SEA holds. -/

theorem Chip.unwraps_sea (b : Chip) (x : Sea) (p : Pocket) (n : Nat) : Chip.unwraps { b with sea := x } p n = b.unwraps p n := by
  induction n generalizing p with
  | zero => rfl
  | succ n ih =>
    rw [Chip.unwraps, Chip.unwraps]
    simp only [ih]
    rfl

theorem Chip.unwrapped_sea (b : Chip) (x : Sea) : Chip.unwrapped { b with sea := x } = b.unwrapped := by
  funext p
  rw [Chip.unwrapped, Chip.unwrapped, Chip.unwraps_sea]

theorem Chip.pairKey_sea (b : Chip) (x : Sea) : Chip.pairKey { b with sea := x } = b.pairKey := by
  unfold Chip.pairKey Chip.pocketKey
  rw [Chip.unwrapped_sea]
  rfl

theorem Chip.tagOk_sea (b : Chip) (x : Sea) (h : SeamHdr) : Chip.tagOk { b with sea := x } h = b.tagOk h := by
  rw [Chip.tagOk, Chip.tagOk, Chip.seamKey, Chip.seamKey, Chip.pairKey_sea]

theorem Chip.pocketHeld_sea (b : Chip) (x : Sea) (l k : List Nat) : Chip.pocketHeld { b with sea := x } l k = b.pocketHeld l k := by
  unfold Chip.pocketHeld Chip.wrapOctets
  rw [Chip.unwrapped_sea]
  rfl

section
variable {s : State} {h : SeamHdr}

theorem Runs.context (takes : s.b.SeamTakes h) (kind : (seamRecord h).kind = 3) (node : (seamRecord h).item < s.b.pat.nodeCount) :
    Runs (.contextRecord h.toSeamOct h.tag h.index) s (fun t => t.mem = s.mem ∧ t.b.node (seamRecord h).item = leNat ((seamRecord h).body.take 256) ∧
      s.b.Applied t.b h) := by
  refine Runs.record (h := h) (f := fun c r => c.contextIn r.item r.body r.bulk) rfl takes kind fun x seqIn ackOut _ => ⟨rfl, ?_⟩
  obtain ⟨only, put⟩ := Chip.ctxApply_only { s.b with sea := x } (seamRecord h).item (leNat ((seamRecord h).body.take 256))
  have eq (bulk : Bool) : Chip.contextIn { s.b with sea := x } (seamRecord h).item (seamRecord h).body bulk =
      (Chip.ctxApply { s.b with sea := x } (seamRecord h).item (leNat ((seamRecord h).body.take 256))).recCount bulk := if_neg (Nat.not_le.mpr node)
  dsimp only
  rw [eq]
  refine ⟨?_, (only.carries (fun _ => id) (by decide) seqIn ackOut).applied⟩
  rw [Chip.node, (Chip.recCount_only _ _).mac (by decide)]
  exact put

theorem Runs.cells (takes : s.b.SeamTakes h) (kind : (seamRecord h).kind = 4) :
    Runs (.cellsRecord h.toSeamOct h.tag h.index) s (fun t => t.mem = s.mem ∧ s.b.Applied t.b h ∧
      (∀ j, j < (seamRecord h).body.length / 4 → (seamRecord h).item + j < s.b.pat.weaveCells →
        t.b.cell ((seamRecord h).item + j) = (toWords (seamRecord h).body ((seamRecord h).body.length / 4)).getD j 0) ∧
      ∀ m, m < (seamRecord h).item ∨ (seamRecord h).item + (seamRecord h).body.length / 4 ≤ m ∨ s.b.pat.weaveCells ≤ m → t.b.cell m = s.b.cell m) := by
  refine Runs.record (h := h) (f := fun c r => c.cellsIn r.item r.body r.bulk) rfl takes kind fun x seqIn ackOut _ => ⟨rfl, ?_⟩
  let words := toWords (seamRecord h).body ((seamRecord h).body.length / 4)
  have only := putCells_only { s.b with sea := x } (seamRecord h).item words
  have applied : s.b.Applied (Chip.cellsIn { s.b with sea := x } (seamRecord h).item (seamRecord h).body (seamRecord h).bulk) h :=
    (only.carries (fun _ e => e ▸ (by decide)) (by decide) seqIn ackOut).applied
  have cell (m : Nat) : (Chip.cellsIn { s.b with sea := x } (seamRecord h).item (seamRecord h).body (seamRecord h).bulk).cell m =
      if (seamRecord h).item ≤ m ∧ m < (seamRecord h).item + (seamRecord h).body.length / 4 ∧ m < s.b.pat.weaveCells
        then words.getD (m - (seamRecord h).item) 0 else s.b.cell m := by
    rw [Chip.cellsIn, Chip.cell, (Chip.recCount_only _ _).sch (by decide)]
    have put := putCells_cell { s.b with sea := x } (seamRecord h).item words m
    rw [show words.length = (seamRecord h).body.length / 4 from toWords_length _ _] at put
    exact put
  refine ⟨applied, fun j hj hm => ?_, fun m out => ?_⟩
  · rw [cell, if_pos ⟨by omega, by omega, hm⟩, Nat.add_sub_cancel_left]
  · rw [cell, if_neg (by omega)]

theorem Runs.pocket (takes : s.b.SeamTakes h) (kind : (seamRecord h).kind = 5) {p st typ : Nat} {w : List Nat} (hp : p = (seamRecord h).item)
    (hst : st = bits ((seamRecord h).body.headD 0) 0 3) (htyp : typ = (seamRecord h).body.getD 1 0 % 16)
    (hw : w = slice (seamRecord h).body 32 (keyLen typ + 8)) :
    (4095 < p ∨ (s.b.t Reg.SEA_PAIR_PK_EN = true ∧ p = s.b.r Reg.SEA_PAIR_POCKET) → Runs (.pocketRecord h.fcsOk h.octets h.tag h.index) s (fun t =>
      t.mem = s.mem ∧ t.b.key = s.b.key ∧ s.b.Applied t.b h)) ∧
    (p ≤ 4095 → ¬ (s.b.t Reg.SEA_PAIR_PK_EN = true ∧ p = s.b.r Reg.SEA_PAIR_POCKET) →
      (st = 0 ∨ 4 < st → Runs (.pocketRecord h.fcsOk h.octets h.tag h.index) s (fun t => t.mem = s.mem ∧ t.b.pocket p = none ∧ s.b.Applied t.b h)) ∧
      (1 ≤ st → st ≤ 4 → allZero w = false → s.b.pairKey.bind (fun k => kwUnwrap (keyOctets k) w) = none →
        Runs (.pocketRecord h.fcsOk h.octets h.tag h.index) s (fun t => t.mem = s.mem ∧ t.b.key = s.b.key ∧
          t.b.r Reg.SEA_TAG_FAIL = satAdd 32 (s.b.r Reg.SEA_TAG_FAIL) 1 ∧ t.b.r Reg.SEA_MIRROR = 3 ∧ s.b.Applied t.b h)) ∧
      (∀ k : List Nat, 1 ≤ st → st ≤ 4 →
        (allZero w = true ∧ k = []) ∨ (allZero w = false ∧ s.b.pairKey.bind (fun k => kwUnwrap (keyOctets k) w) = some k) →
        Runs (.pocketRecord h.fcsOk h.octets h.tag h.index) s (fun t => t.mem = s.mem ∧ s.b.Applied t.b h ∧ t.b.pocket p = some (s.b.pocketHeld (seamRecord h).body k)))) := by
  subst hp hst htyp hw
  have row : exec (.pocketRecord h.fcsOk h.octets h.tag h.index) s = .next { s with b := s.b.recIn h 5 (fun c r => c.pocketIn' r.item r.body r.bulk) } := rfl
  refine ⟨fun skip => ?_, fun last other => ?_⟩
  · refine Runs.record row takes kind fun x seqIn ackOut _ => ⟨rfl, ?_⟩
    dsimp only
    rw [Chip.pocketIn_skips (b := { s.b with sea := x }) skip]
    exact ⟨(Chip.recCount_only _ _).key (by decide),
      ((Chip.Only.rfl' _ [] noReg).carries butSeam_none (by decide) seqIn ackOut).applied⟩
  · have take : ¬ (4095 < (seamRecord h).item ∨ (s.b.t Reg.SEA_PAIR_PK_EN = true ∧ (seamRecord h).item = s.b.r Reg.SEA_PAIR_POCKET)) :=
      fun skip => skip.elim (Nat.not_lt.mpr last) other
    have written (x : Sea) (y : Option Pocket) (seqIn : x.seqIn = seqNext (seamSeq h)) (ackOut : x.ackOut = seamSeq h) :
        s.b.Applied ((Chip.writePocket { s.b with sea := x } (seamRecord h).item y).recCount (seamRecord h).bulk) h :=
      ((Chip.writePocket_only _ _ _).carries (fun k hk => by unfold butSeam offs at *; omega) (by decide) seqIn ackOut).applied
    refine ⟨fun empty => ?_, fun low high wrapped fails => ?_, fun k low high key => ?_⟩
    · refine Runs.record row takes kind fun x seqIn ackOut _ => ⟨rfl, ?_⟩
      dsimp only
      rw [Chip.pocketIn_empties (b := { s.b with sea := x }) take empty]
      exact ⟨Chip.recorded_pocket _ _ _ _, written x _ seqIn ackOut⟩
    · refine Runs.record row takes kind fun x seqIn ackOut _ => ⟨rfl, ?_⟩
      dsimp only
      rw [← Chip.pairKey_sea s.b x] at fails
      rw [Chip.pocketIn_fails (b := { s.b with sea := x }) take (by omega) wrapped fails]
      obtain ⟨same, failed, stale⟩ := Chip.badRecord_shows { s.b with sea := x } (seamRecord h).bulk
      refine ⟨same, failed, stale, Chip.Carries.applied ?_⟩
      obtain ⟨e, sea⟩ := (Chip.inc { s.b with sea := x } Reg.SEA_TAG_FAIL).setMirror_sea 3
      refine ⟨(congrArg Sea.seqIn sea).trans seqIn, (congrArg Sea.ackOut sea).trans ackOut, fun f hf => ?_⟩
      have apart : ∀ f ∈ [Reg.SEA_REC_APPLIED, Reg.SEA_BULK_ITEMS, Reg.SEA_MIRROR_SEQ], ¬ mirrorKey f.key ∧ Reg.SEA_TAG_FAIL.key ≠ f.key := by decide
      exact ((Chip.setMirror_only _ _).2 _ (apart f hf).1).trans (Chip.r_inc_ne _ (apart f hf).2)
    · refine Runs.record row takes kind fun x seqIn ackOut _ => ⟨rfl, ?_⟩
      dsimp only
      rw [← Chip.pairKey_sea s.b x] at key
      rw [Chip.pocketIn_holds (b := { s.b with sea := x }) take (by omega) key, Chip.pocketHeld_sea]
      exact ⟨written x _ seqIn ackOut, Chip.recorded_pocket _ _ _ _⟩

theorem Runs.ceiling (takes : s.b.SeamTakes h) (kind : (seamRecord h).kind = 6) {c : Nat} (hc : c = (match kget s.b.sec.ceil (seamRecord h).item with
      | some o => if o.epoch = fldLE (seamRecord h).body 0 4 then max o.ceiling (fldLE (seamRecord h).body 4 4) else fldLE (seamRecord h).body 4 4
      | none => fldLE (seamRecord h).body 4 4)) :
    Runs (.ceilingRecord h.toSeamOct h.tag h.index) s (fun t => t.mem = s.mem ∧
      t.b.sec.ceil = kput s.b.sec.ceil (seamRecord h).item { epoch := fldLE (seamRecord h).body 0 4, ceiling := c } ∧ s.b.Applied t.b h) := by
  refine Runs.record (h := h) (f := fun c r => c.ceilIn r.item r.body r.bulk) rfl takes kind fun x seqIn ackOut _ => ⟨rfl, ?_⟩
  have eq : Chip.ceilIn { s.b with sea := x } (seamRecord h).item (seamRecord h).body (seamRecord h).bulk = Chip.recCount { s.b with
      sea := x, sec := { s.b.sec with ceil := kput s.b.sec.ceil (seamRecord h).item { epoch := fldLE (seamRecord h).body 0 4, ceiling := c } } }
      (seamRecord h).bulk := by
    cases found : kget s.b.sec.ceil (seamRecord h).item with
    | none =>
      rw [found] at hc
      simp only [Chip.ceilIn, found, hc]
    | some o =>
      rw [found] at hc
      simp only [Chip.ceilIn, found, hc]
  dsimp only
  rw [eq]
  refine ⟨?_, Chip.Carries.applied ⟨seqIn, ackOut, fun _ _ => rfl⟩⟩
  rw [(Chip.recCount_only _ _).sec (by decide)]

theorem Runs.route (takes : s.b.SeamTakes h) (kind : (seamRecord h).kind = 7) :
    Runs (.routeRecord h.toSeamOct h.tag h.index) s (fun t => t.mem = s.mem ∧ s.b.Applied t.b h ∧
      t.b.svc.routes = kput s.b.svc.routes (seamRecord h).item
        { seq := some ((seamRecord h).body.headD 0),
          deadline := if fldLE (seamRecord h).body 4 4 = 0 then none else some (s.b.nowNs + fldLE (seamRecord h).body 4 4 * 1000000000) }) := by
  refine Runs.record (h := h) (f := fun c r => c.routeIn r.item r.body r.bulk) rfl takes kind fun x seqIn ackOut _ => ⟨rfl, Chip.Carries.applied ⟨seqIn, ackOut, fun _ _ => rfl⟩, ?_⟩
  dsimp only
  rw [Chip.routeIn, (Chip.recCount_only _ _).svc (by decide)]
  rfl

theorem Chip.regIn_drops {b : Chip} {n : Nat} {l : List Nat} {bulk : Bool} (gone : fldLE l 28 4 = 0) :
    b.regIn n l bulk = (b.regDrop (beNat (slice l 0 16))).recCount bulk := if_pos gone

/-- The registration of a record. -/
def Chip.regOf (b : Chip) (n : Nat) (l : List Nat) : Regn :=
  Regn.mk (beNat (slice l 0 16)) n (beNat (slice l 16 8)) (l.getD 24 0) (b.nowNs + fldLE l 28 4 * 60000000000)

theorem Chip.regIn_enters {b : Chip} {n : Nat} {l : List Nat} {bulk : Bool} (stays : fldLE l 28 4 ≠ 0) : b.regIn n l bulk =
    (((b.putRegs (b.regOf n l :: b.svc.regs.filter (fun y => y.addr != beNat (slice l 0 16)))).nodeTake 0 (addrKey (beNat (slice l 0 16))) n).modSea
      (fun x => { x with pass := x.pass.map (fun p => (p.1, beNat (slice l 0 16) :: p.2)) })).recCount bulk := if_neg stays

theorem Runs.reg (takes : s.b.SeamTakes h) (kind : (seamRecord h).kind = 8) {a : Nat} (ha : a = beNat (slice (seamRecord h).body 0 16)) :
    Runs (.regRecord h.toSeamOct h.tag h.index) s (fun t => t.mem = s.mem ∧ s.b.Applied t.b h ∧ t.b.svc.regs =
      (if fldLE (seamRecord h).body 28 4 = 0 then [] else [Regn.mk a (seamRecord h).item (beNat (slice (seamRecord h).body 16 8)) ((seamRecord h).body.getD 24 0)
        (s.b.nowNs + fldLE (seamRecord h).body 28 4 * 60000000000)]) ++ s.b.svc.regs.filter (fun r => r.addr != a)) := by
  subst ha
  refine Runs.record (h := h) (f := fun c r => c.regIn r.item r.body r.bulk) rfl takes kind fun x seqIn ackOut _ => ⟨rfl, ?_⟩
  dsimp only
  by_cases gone : fldLE (seamRecord h).body 28 4 = 0
  · obtain ⟨only, svc⟩ := Chip.regDrop_seam { s.b with sea := x } (beNat (slice (seamRecord h).body 0 16))
    rw [Chip.regIn_drops gone, if_pos gone]
    refine ⟨(only.carries (fun _ => id) (by decide) seqIn ackOut).applied, ?_⟩
    rw [(Chip.recCount_only _ _).svc (by decide), svc, List.nil_append]
  · rw [Chip.regIn_enters gone, if_neg gone]
    generalize regs : Chip.regOf { s.b with sea := x } (seamRecord h).item (seamRecord h).body ::
      s.b.svc.regs.filter (fun y => y.addr != beNat (slice (seamRecord h).body 0 16)) = l
    have put : Chip.Only [.svc, .fwd, .ntc, .out] butSeam { s.b with sea := x } (Chip.putRegs { s.b with sea := x } l) :=
      ((Chip.Only.rfl' _ _ _).putSvc (by decide) _).w _ _ (by decide)
    have entered := Chip.nodeTake_only (Chip.putRegs { s.b with sea := x } l) 0 (addrKey (beNat (slice (seamRecord h).body 0 16))) (seamRecord h).item
    have all := put.trans (entered.mono (by decide) butSeam_of_fwd)
    have svc := entered.svc (by decide)
    generalize Chip.nodeTake (Chip.putRegs { s.b with sea := x } l) 0 (addrKey (beNat (slice (seamRecord h).body 0 16))) (seamRecord h).item = c at all svc ⊢
    obtain ⟨seqIn', ackOut', kept⟩ := all.carries (h := h) (fun _ => id) (by decide) seqIn ackOut
    refine ⟨Chip.Carries.applied ⟨seqIn', ackOut', fun f hf => (Chip.modSea_r _ _ f).trans (kept f hf)⟩, ?_⟩
    rw [(Chip.recCount_only _ _).svc (by decide)]
    exact (congrArg Svc.regs svc).trans regs.symm

theorem Runs.keystate (takes : s.b.SeamTakes h) (kind : (seamRecord h).kind = 9) :
    Runs (.keystateRecord h.toSeamOct h.toSeamEnd) s (fun t => t.mem = s.mem ∧ s.b.Applied t.b h ∧ t.b.key.nodeEpoch = fldLE (seamRecord h).body 0 4 ∧
      t.b.r Reg.KEY_NODE_EPOCH = fldLE (seamRecord h).body 0 4 % 2 ^ 32 ∧
      t.b.key.owners = ((List.range 4).map (fun i => slice (seamRecord h).body (4 + 32 * i) 32)).filter (fun h => !allZero h) ∧
      t.b.key.pockets = s.b.key.pockets) := by
  refine Runs.record (h := h) (f := fun c r => c.keyStateIn r.body r.bulk) rfl takes kind fun x seqIn ackOut _ => ⟨rfl, ?_⟩
  dsimp only
  unfold Chip.keyStateIn
  dsimp only
  generalize ((List.range 4).map (fun i => slice (seamRecord h).body (4 + 32 * i) 32)).filter (fun h => !allZero h) = hs
  let b1 := Chip.w { s.b with sea := x, key := { s.b.key with nodeEpoch := fldLE (seamRecord h).body 0 4 } } Reg.KEY_NODE_EPOCH (fldLE (seamRecord h).body 0 4)
  have epoch : Chip.Only [.key] butSeam { s.b with sea := x } b1 := ((Chip.Only.rfl' _ _ _).putKey (by decide) _).w _ _ (by decide)
  have owners : Chip.Only [.key] butSeam { s.b with sea := x } (b1.setOwners hs) := (epoch.putKey (by decide) _).w _ _ (by decide)
  have count := Chip.recCount_only (b1.setOwners hs) (seamRecord h).bulk
  refine ⟨(owners.carries (fun _ => id) (by decide) seqIn ackOut).applied, ?_⟩
  have shown : (b1.setOwners hs).r Reg.KEY_NODE_EPOCH = fldLE (seamRecord h).body 0 4 % 2 ^ 32 :=
    (Chip.r_w_ne _ _ _ _ (by decide)).trans (Chip.r_w_same _ _ _)
  change (Chip.recCount (b1.setOwners hs) (seamRecord h).bulk).key.nodeEpoch = _ ∧ _
  rw [count.key (by decide), count.2 _ (by decide)]
  exact ⟨rfl, shown, rfl, rfl⟩

/-- The block with the pair beacons of a configuration. -/
def Chip.pairPut (b : Chip) (l : List Nat) : Chip := (b.wb Reg.SCH_PAIR_EN (bit (fldLE l 0 4) 0)).w Reg.SCH_PAIR_COL (bits (fldLE l 0 4) 16 10)

theorem Chip.configIn_puts (b : Chip) (l : List Nat) (bulk : Bool) : ∃ rpl : Rpl, rpl.inst = (slice l 516 32).getD 0 0 ∧ rpl.imin = (slice l 516 32).getD 1 0 ∧
    rpl.dodag = slice (slice l 516 32) 16 16 ∧
    b.configIn l bulk = (((putCtxs (b.pairPut l) (slice l 4 512) 16).modSvc (fun s => { s with rpl := rpl })).keepSvc).recCount bulk :=
  ⟨_, rfl, rfl, rfl, rfl⟩

theorem Chip.pairPut_shows (b : Chip) (l : List Nat) : Chip.Only [] butSeam b (b.pairPut l) ∧ (b.pairPut l).t Reg.SCH_PAIR_EN = bit (fldLE l 0 4) 0 ∧
    (b.pairPut l).r Reg.SCH_PAIR_COL = bits (fldLE l 0 4) 16 10 := by
  refine ⟨((Chip.Only.rfl' _ _ _).w _ _ (by decide)).w _ _ (by decide), ?_, (Chip.r_w_same _ _ _).trans (Nat.mod_mod _ _)⟩
  rw [Chip.t, Chip.pairPut, Chip.r_w_ne _ _ _ _ (by decide)]
  exact Chip.t_wb_same _ rfl _

theorem putCtxs_only (b : Chip) (l : List Nat) (k : Nat) : Chip.Only [.svc] noReg b (putCtxs b l k) := by
  induction k generalizing b l with
  | zero => exact .rfl' _ _ _
  | succ k ih => exact ((Chip.Only.rfl' _ _ _).putSvc (by decide) _).trans (ih _ _)

theorem Runs.config (takes : s.b.SeamTakes h) (kind : (seamRecord h).kind = 10) :
    Runs (.configRecord h.toSeamOct h.toSeamEnd) s (fun t => t.mem = s.mem ∧ s.b.Applied t.b h ∧ t.b.t Reg.SCH_PAIR_EN = bit (fldLE (seamRecord h).body 0 4) 0 ∧
      t.b.r Reg.SCH_PAIR_COL = bits (fldLE (seamRecord h).body 0 4) 16 10 ∧ t.b.svc.ctxs = (putCtxs s.b (slice (seamRecord h).body 4 512) 16).svc.ctxs ∧
      t.b.svc.rpl.inst = (seamRecord h).body.getD 516 0 ∧ t.b.svc.rpl.imin = (seamRecord h).body.getD 517 0 ∧
      t.b.svc.rpl.dodag = slice (slice (seamRecord h).body 516 32) 16 16) := by
  refine Runs.record (h := h) (f := fun c r => c.configIn r.body r.bulk) rfl takes kind fun x seqIn ackOut _ => ⟨rfl, ?_⟩
  obtain ⟨rpl, inst, imin, dodag, eq⟩ := Chip.configIn_puts { s.b with sea := x } (seamRecord h).body (seamRecord h).bulk
  dsimp only
  rw [eq]
  generalize (seamRecord h).body = l at inst imin dodag ⊢
  obtain ⟨set, en, col⟩ := Chip.pairPut_shows { s.b with sea := x } l
  have ctxs : (putCtxs (Chip.pairPut { s.b with sea := x } l) (slice l 4 512) 16).svc.ctxs = (putCtxs s.b (slice l 4 512) 16).svc.ctxs := putCtxs_ctxs rfl _ _
  have put := putCtxs_only (Chip.pairPut { s.b with sea := x } l) (slice l 4 512) 16
  generalize Chip.pairPut { s.b with sea := x } l = b0 at set en col ctxs put ⊢
  generalize putCtxs b0 (slice l 4 512) 16 = b1 at ctxs put ⊢
  have held : Chip.Only [.svc, .nv] noReg b1 (b1.modSvc (fun s => { s with rpl := rpl })).keepSvc :=
    ((Chip.Only.rfl' _ _ _).putSvc (by decide) _).putNv (by decide) _
  have all : Chip.Only [.svc, .nv] butSeam { s.b with sea := x } (b1.modSvc (fun s => { s with rpl := rpl })).keepSvc :=
    (set.mono (by decide) fun _ => id).trans ((put.mono (by decide) butSeam_none).trans (held.mono (fun _ => id) butSeam_none))
  have count := Chip.recCount_only (b1.modSvc (fun s => { s with rpl := rpl })).keepSvc (seamRecord h).bulk
  refine ⟨(all.carries (fun _ => id) (by decide) seqIn ackOut).applied, ?_⟩
  rw [count.t _ (by decide), count.2 _ (by decide), count.svc (by decide), held.t _ id, held.2 _ id]
  exact ⟨(put.t _ id).trans en, (put.2 _ id).trans col, ctxs, inst.trans (slice_getD l 516 32 0 (by decide)), imin.trans (slice_getD l 516 32 1 (by decide)), dodag⟩
end

end Sys2Proof.Machine

open Sys2Proof Sys2Proof.Machine

/-- Settles O56: the number of a frame decides whether a record is applied, and each record has its own change, then its counts. -/
theorem seamRecordsApply : Obligations.SeamRecordsApply := by
  unfold Obligations.SeamRecordsApply
  intro s h r l hr hl
  subst hr hl
  refine ⟨fun k w row => ?_, fun k w b1 row kind hb1 on role lock tag => ?_, fun on role lock tag => ?_, fun takes => ?_⟩
  · obtain ⟨f, run⟩ := seamRows_frame row
    refine ⟨fun off => ?_, fun on role lock tag => ?_⟩
    · rw [run, Chip.seamIn_idle off]
    · rw [run, Chip.seamIn_bad on role lock tag]
  · obtain ⟨f, run⟩ := seamRows_row row
    subst hb1
    refine ⟨fun old => ?_, fun paired numbered first next single => ?_⟩
    · rw [run, Chip.recIn_old on role lock tag kind old]
    · rw [run, Chip.recIn_numbers on role lock tag kind paired numbered first next single]
  · have hello (kind : (seamRecord h).kind = 1) : exec (.hello h.toSeamOct h.toSeamEnd) s =
        .next { s with b := Chip.helloIn { s.b with sea := { s.b.sea with keyMissing := false } } (seamRecord h).body } := by
      have listens : (s.b.seamOn && s.b.role != 4) = true := by simp [on, role]
      rw [exec_hello, execHello, State.on_eq, if_pos listens, Chip.keyMissing_tagged tag]
      have tag' : Chip.tagOk { s.b with sea := { s.b.sea with keyMissing := false } } h = true := (Chip.tagOk_sea _ _ _).trans tag
      have good := Chip.seamIn_good (b := { s.b with sea := { s.b.sea with keyMissing := false } }) (f := fun c r => c.helloIn r.body) on role lock tag' kind
      exact congrArg (fun c => Host.Outcome.next { s with b := c }) good
    refine ⟨fun kind fits => ?_, fun kind differs => ?_, fun kind => ?_⟩
    · obtain ⟨c, eq, shown⟩ := Chip.helloIn_pairs (b := { s.b with sea := { s.b.sea with keyMissing := false } }) fits
      exact ⟨{ s with b := c }, (hello kind).trans (by rw [eq]), rfl, shown⟩
    · obtain ⟨c, eq, shown⟩ := Chip.helloIn_unpairs (b := { s.b with sea := { s.b.sea with keyMissing := false } }) differs
      exact ⟨{ s with b := c }, (hello kind).trans (by rw [eq]), rfl, shown⟩
    · have run : exec (.heartbeat h.toSeamOct h.toSeamEnd) s = .next { s with b := (s.b.seamAck (seamAckOf h)).beatIn (seamRecord h).body } := by
        rw [exec_heartbeat, execHeartbeat, State.on_eq]
        exact congrArg (fun c => Host.Outcome.next { s with b := c }) (Chip.seamIn_good on role lock tag kind)
      have heard := (s.b.seamAck (seamAckOf h)).beatIn_hears (seamRecord h).body
      have same : (s.b.seamAck (seamAckOf h)).r Reg.SEA_PEER_EPOCH = s.b.r Reg.SEA_PEER_EPOCH := by
        rw [Chip.seamAck_eq]
        rfl
      rw [same] at heard
      generalize (s.b.seamAck (seamAckOf h)).beatIn (seamRecord h).body = c at run heard
      obtain ⟨hb, peer, missed, epoch⟩ := heard
      exact ⟨_, run, rfl, hb, peer, missed, epoch⟩
  · refine ⟨Runs.context takes, Runs.cells takes, fun p st typ w kind hp hst htyp hw => ?_, fun c kind hc => Runs.ceiling takes kind hc, Runs.route takes,
      fun a kind ha => Runs.reg takes kind ha, Runs.keystate takes, Runs.config takes, fun kind first => ?_, fun rts rgs kind last pass => ?_,
      fun kind last noPass => ?_, fun kind => ?_⟩
    · obtain ⟨skips, takes⟩ := Runs.pocket takes kind hp hst htyp hw
      refine ⟨skips, fun last other => ?_⟩
      obtain ⟨empties, fails, holds⟩ := takes last other
      refine ⟨empties, fails, fun k low high key => (holds k low high key).imp fun t ⟨mem, applied, held⟩ => ⟨mem, applied, _, held, ?_⟩⟩
      have state : (s.b.pocketHeld (seamRecord h).body k).state = st := by
        rw [hst]
        unfold Chip.pocketHeld
        cases (seamRecord h).body <;> rfl
      subst htyp
      exact ⟨state, rfl, rfl, rfl, rfl, rfl, rfl, rfl, rfl, rfl⟩
    · refine Runs.record (h := h) (f := fun c r => c.bulkIn r.item) rfl takes kind fun x seqIn ackOut _ => ⟨rfl, ?_⟩
      obtain ⟨seq, ack, shown⟩ := Chip.bulkIn_begins { s.b with sea := x }
      dsimp only
      rw [first]
      exact ⟨seq.trans seqIn, ack.trans ackOut, shown⟩
    · refine Runs.record (h := h) (f := fun c r => c.bulkIn r.item) rfl takes kind fun x seqIn ackOut same => ⟨rfl, ?_⟩
      obtain ⟨seq, ack, shown⟩ := Chip.bulkIn_ends (b := { s.b with sea := x }) last (same.trans pass)
      exact ⟨seq.trans seqIn, ack.trans ackOut, shown⟩
    · refine Runs.record (h := h) (f := fun c r => c.bulkIn r.item) rfl takes kind fun x seqIn ackOut same => ⟨rfl, ?_⟩
      have idle : Chip.bulkIn { s.b with sea := x } (seamRecord h).item = { s.b with sea := x } := by
        rw [Chip.bulkIn, if_neg last]
        dsimp only
        rw [same, noPass]
      dsimp only
      rw [idle]
      exact ⟨rfl, same.trans noPass, seqIn, ackOut⟩
    · exact Runs.record (h := h) (f := fun c r => c.modSea (fun x => { x with hand := some (fldLE r.body 0 8, fldLE r.body 8 4) })) rfl takes kind
        fun x seqIn ackOut _ => ⟨rfl, rfl, seqIn, ackOut, rfl⟩
end

section
/-!
SUPPORT. A block on which SVC has taken a command does all else as it would without: its status word, and which commands may raise an interrupt, are
read by nothing that an operation of the mailbox does (R462, R532).
-/
namespace Sys2Proof.Machine

/-- The keys of all registers but those of SVC's status word. -/
abbrev notStatus (k : Nat) : Prop := ¬ offs (cbSVC + 4) (cbSVC + 8) k

/-- The second block is the first with a command taken by SVC: only the status word and the commands that may interrupt differ, and BUSY is set. -/
def Chip.Taken (b c : Chip) : Prop := ∃ regs irq, c = { b with regs := regs, cmdIrq := irq } ∧ (∀ f, notStatus f.key → c.r f = b.r f) ∧
  c.t (cbBUSY cbSVC) = true

theorem kgetD_kset_again {α : Type} [DecidableEq α] (d e : α) (m n : KV α) (k : Nat) (v : α) : kgetD (kset d m k v) k e = kgetD (kset d n k v) k e := by
  unfold kgetD kset
  split
  · rw [kget_kdel_same, kget_kdel_same]
  · rw [kget_kput_same, kget_kput_same]

section
variable {b c : Chip}

theorem Chip.Taken.r (h : Chip.Taken b c) {f : Fld} (hf : notStatus f.key) : c.r f = b.r f := by
  obtain ⟨_, _, -, same, -⟩ := h
  exact same f hf

theorem Chip.Taken.t (h : Chip.Taken b c) {f : Fld} (hf : notStatus f.key) : c.t f = b.t f := by rw [Chip.t, Chip.t, h.r hf]

/-- What reads no register and no interrupt reads the same. -/
theorem Chip.Taken.same {α : Type} (h : Chip.Taken b c) (f : Chip → α) (blind : ∀ (b : Chip) regs irq, f { b with regs := regs, cmdIrq := irq } = f b) : f c = f b := by
  obtain ⟨regs, irq, rfl, -, -⟩ := h
  exact blind b regs irq

/-- What sets other parts of the block, and reads no register, sets them alike. -/
theorem Chip.Taken.map (h : Chip.Taken b c) (f : Chip → Chip)
    (blind : ∀ (b : Chip) regs irq, f { b with regs := regs, cmdIrq := irq } = { f b with regs := regs, cmdIrq := irq }) (kept : ∀ b : Chip, (f b).regs = b.regs) :
    Chip.Taken (f b) (f c) := by
  obtain ⟨regs, irq, rfl, same, busy⟩ := h
  have r (b : Chip) (g : Fld) : (f b).r g = b.r g := Chip.r_congr (kept b) g
  refine ⟨regs, irq, blind b regs irq, fun g hg => ?_, ?_⟩
  · rw [r, r, same g hg]
  · rw [Chip.t, r]
    exact busy

theorem Chip.Taken.w (h : Chip.Taken b c) (f : Fld) (v : Nat) (hf : f.key ≠ (cbBUSY cbSVC).key) : Chip.Taken (b.w f v) (c.w f v) := by
  obtain ⟨regs, irq, rfl, same, busy⟩ := h
  refine ⟨_, irq, rfl, fun g hg => ?_, ?_⟩
  · by_cases at' : f.key = g.key
    · rw [Chip.r, Chip.r, ← at']
      exact kgetD_kset_again _ _ _ _ _ _
    · rw [Chip.r_w_ne _ _ _ _ at', Chip.r_w_ne _ _ _ _ at', same g hg]
  · rw [Chip.t, Chip.r_w_ne _ _ _ _ hf]
    exact busy

theorem Chip.Taken.inc (h : Chip.Taken b c) (f : Fld) (hf : notStatus f.key) (hb : f.key ≠ (cbBUSY cbSVC).key) : Chip.Taken (b.inc f) (c.inc f) := by
  have w := h.w f (satAdd f.w (b.r f) 1) hb
  rwa [Chip.inc_eq, Chip.inc_eq, h.r hf]

theorem Chip.Taken.ite {b' c' : Chip} {p q : Prop} [Decidable p] [Decidable q] (same : q ↔ p) (h : Chip.Taken b c) (h' : Chip.Taken b' c') :
    Chip.Taken (if p then b else b') (if q then c else c') := by
  by_cases hp : p
  · rwa [if_pos hp, if_pos (same.mpr hp)]
  · rwa [if_neg hp, if_neg (mt same.mp hp)]

theorem Chip.Taken.foldl {α : Type} {f : Chip → α → Chip} (l : List α) (h : Chip.Taken b c)
    (step : ∀ b c, Chip.Taken b c → ∀ x ∈ l, Chip.Taken (f b x) (f c x)) : Chip.Taken (l.foldl f b) (l.foldl f c) := by
  induction l generalizing b c with
  | nil => exact h
  | cons x l ih => exact ih (step b c h x List.mem_cons_self) fun b c h y hy => step b c h y (List.mem_cons_of_mem _ hy)

theorem Chip.Taken.ntc (h : Chip.Taken b c) : c.ntc = b.ntc := h.same Chip.ntc fun _ _ _ => rfl
theorem Chip.Taken.tmg (h : Chip.Taken b c) : c.tmg = b.tmg := h.same Chip.tmg fun _ _ _ => rfl
theorem Chip.Taken.svc (h : Chip.Taken b c) : c.svc = b.svc := h.same Chip.svc fun _ _ _ => rfl
theorem Chip.Taken.pat (h : Chip.Taken b c) : c.pat = b.pat := h.same Chip.pat fun _ _ _ => rfl

/-! ### Notices -/

theorem Chip.Taken.putNtc (h : Chip.Taken b c) (x : Ntc) : Chip.Taken { b with ntc := x } { c with ntc := x } :=
  h.map (fun b => { b with ntc := x }) (fun _ _ _ => rfl) fun _ => rfl

theorem Chip.Taken.emit (h : Chip.Taken b c) (o : Out) : Chip.Taken (b.emit o) (c.emit o) := h.map (fun b => b.emit o) (fun _ _ _ => rfl) fun _ => rfl

theorem Chip.Taken.fire (h : Chip.Taken b c) (v : Nat) : Chip.Taken (b.fire v) (c.fire v) := by
  have pend : c.r Reg.NTC_INT_PEND = b.r Reg.NTC_INT_PEND := h.r (by decide)
  have mask : c.r Reg.NTC_INT_MASK = b.r Reg.NTC_INT_MASK := h.r (by decide)
  unfold Chip.fire
  dsimp only
  rw [pend, mask, h.ntc]
  have set := h.w Reg.NTC_INT_PEND (setBit (b.r Reg.NTC_INT_PEND) v) (by decide)
  refine .ite Iff.rfl h (.ite Iff.rfl set (.ite Iff.rfl ?_ (set.emit _)))
  exact set.map (fun b => { b with ntc := { b.ntc with pba := setBit b.ntc.pba v } }) (fun _ _ _ => rfl) fun _ => rfl

theorem Chip.Taken.modEvent (h : Chip.Taken b c) (v : Nat) : Chip.Taken (b.modEvent v) (c.modEvent v) := by
  have hold : c.r Reg.NTC_HOLDOFF_US = b.r Reg.NTC_HOLDOFF_US := h.r (by decide)
  have batch : c.r Reg.NTC_BATCH = b.r Reg.NTC_BATCH := h.r (by decide)
  unfold Chip.modEvent
  dsimp only
  rw [hold, batch, h.ntc]
  exact .ite Iff.rfl ((h.putNtc _).fire v) (h.putNtc _)

theorem Chip.Taken.ringPut (h : Chip.Taken b c) (n : Note) : Chip.Taken (b.ringPut n) (c.ringPut n) := by
  have idx : c.r Reg.NTC_WR_IDX = b.r Reg.NTC_WR_IDX := h.r (by decide)
  unfold Chip.ringPut
  dsimp only
  rw [idx, h.ntc]
  have put := ((h.putNtc { b.ntc with ring := kput b.ntc.ring (b.r Reg.NTC_WR_IDX) n }).w Reg.NTC_WR_IDX ((b.r Reg.NTC_WR_IDX + 1) % 4096) (by decide)).modEvent 0
  have sent := Chip.Taken.ite (p := n.sev = 3) Iff.rfl (put.fire 1) put
  refine .ite ?_ (sent.map (fun b => b.uartSend n) (fun _ _ _ => rfl) fun _ => rfl) sent
  rw [sent.t (by decide), sent.r (by decide)]

theorem Chip.Taken.ringLose (h : Chip.Taken b c) : Chip.Taken b.ringLose c.ringLose :=
  (h.inc Reg.NTC_LOST_CNT (by decide) (by decide)).map (fun b => { b with ntc := { b.ntc with lostSince := satAdd 32 b.ntc.lostSince 1 } }) (fun _ _ _ => rfl)
    fun _ => rfl

theorem Chip.Taken.ringFull (h : Chip.Taken b c) : c.ringFull = b.ringFull := by
  rw [Chip.ringFull, Chip.ringFull, h.r (by decide), h.r (by decide)]

theorem Chip.Taken.toRing (h : Chip.Taken b c) (n : Note) : Chip.Taken (b.toRing n) (c.toRing n) := by
  have passes : c.passes n = b.passes n := by
    rw [Chip.passes, Chip.passes, h.r (f := Reg.NTC_SRC_EN_LO) (by decide), h.r (f := Reg.NTC_SRC_EN_HI) (by decide), h.r (f := Reg.NTC_MIN_SEV) (by decide)]
  have stitch : c.stitch32 = b.stitch32 := h.same Chip.stitch32 fun _ _ _ => rfl
  unfold Chip.toRing
  dsimp only
  rw [passes, h.ringFull, h.ntc, stitch]
  have put := (h.ringPut ⟨b.stitch32, Src.GLB, sevOf N.NOTICE_LOST, N.NOTICE_LOST, argW 0 b.ntc.lostSince⟩).map
    (fun b => { b with ntc := { b.ntc with lostSince := 0 } }) (fun _ _ _ => rfl) fun _ => rfl
  refine .ite Iff.rfl (h.inc _ (by decide) (by decide)) (.ite Iff.rfl h.ringLose (.ite Iff.rfl (h.ringPut n) (.ite ?_ put.ringLose (put.ringPut n))))
  rw [put.ringFull]

theorem Chip.Taken.raise (h : Chip.Taken b c) (src code arg : Nat) : Chip.Taken (b.raise src code arg) (c.raise src code arg) := by
  have stitch : c.stitch32 = b.stitch32 := h.same Chip.stitch32 fun _ _ _ => rfl
  unfold Chip.raise
  dsimp only
  rw [stitch, h.t (by decide)]
  refine .ite Iff.rfl (h.toRing _) ?_
  unfold Chip.toEarly
  rw [h.ntc]
  exact .ite Iff.rfl h (.ite Iff.rfl (h.putNtc _) (h.putNtc _))

theorem Chip.Taken.structReject (h : Chip.Taken b c) (off : Nat) : Chip.Taken (b.structReject off) (c.structReject off) :=
  ((h.inc _ (by decide) (by decide)).w _ _ (by decide)).raise _ _ _

/-! ### Services -/

theorem Chip.Taken.modSvc (h : Chip.Taken b c) (f : Svc → Svc) : Chip.Taken (b.modSvc f) (c.modSvc f) := h.map (fun b => b.modSvc f) (fun _ _ _ => rfl) fun _ => rfl

theorem Chip.Taken.putCamp (h : Chip.Taken b c) (k : Nat) (x : Camp) : Chip.Taken (b.putCamp k x) (c.putCamp k x) := by
  have put := h.modSvc fun s => { s with camps := kput s.camps k x }
  unfold Chip.putCamp
  dsimp only
  rw [put.svc]
  exact put.w _ _ (by decide)

theorem Chip.Taken.campEnd (h : Chip.Taken b c) (k status : Nat) : Chip.Taken (b.campEnd k status) (c.campEnd k status) := by
  unfold Chip.campEnd
  rw [h.svc]
  split
  · exact h
  · exact .ite Iff.rfl h ((h.putCamp _ _).raise _ _ _)

theorem Chip.Taken.campAbort (h : Chip.Taken b c) : Chip.Taken b.campAbort c.campAbort := h.foldl [0, 1, 2, 3] fun _ _ h k _ => h.campEnd k ABORTED

/-- What the services keep goes into the settings record of a set. -/
def Chip.keepAs (b : Chip) (v : Nat) : Chip :=
  { b with nv := { b.nv with keep := kput b.nv.keep v { ctxs := b.svc.ctxs, rpl := { b.svc.rpl with due := [], grown := 0 } } } }

theorem Chip.keepSvc_eq (b : Chip) : b.keepSvc = b.keepAs (b.r Reg.UPD_CUR_MANIFEST_VER) := rfl

theorem Chip.Taken.keepSvc (h : Chip.Taken b c) : Chip.Taken b.keepSvc c.keepSvc := by
  rw [Chip.keepSvc_eq, Chip.keepSvc_eq, h.r (by decide)]
  exact h.map (fun c => c.keepAs _) (fun _ _ _ => rfl) fun _ => rfl

/-- The context cache with a node fetched into it. -/
def Chip.cacheWith (b : Chip) (n : Nat) : List Nat :=
  if b.mac.cache.length < b.pat.ctxCache then n :: b.mac.cache else match b.mac.cache.reverse.find? b.evictable with
    | some v => n :: b.mac.cache.filter (· != v)
    | none => b.mac.cache

def Chip.cacheAs (b : Chip) (l : List Nat) : Chip := { b with mac := { b.mac with cache := l } }

theorem Chip.cacheFetch_eq (b : Chip) (n : Nat) : b.cacheFetch n = if b.mac.cache.contains n then
    (b.cacheAs (n :: b.mac.cache.filter (· != n))).inc Reg.MAC_CACHE_HIT
    else ((b.cacheAs (b.cacheWith n)).inc Reg.MAC_CACHE_MISS).cacheCount := rfl

theorem Chip.Taken.cacheWith (h : Chip.Taken b c) (n : Nat) : c.cacheWith n = b.cacheWith n := by
  have mac : c.mac = b.mac := h.same Chip.mac fun _ _ _ => rfl
  have evictable : c.evictable = b.evictable := by
    funext n
    have busy : c.t (cbBUSY cbMAC) = b.t (cbBUSY cbMAC) := h.t (by decide)
    have arg : c.arg cbMAC 0 = b.arg cbMAC 0 := h.r (by decide)
    have nd : c.nd = b.nd := h.same Chip.nd fun _ _ _ => rfl
    have tx : c.tx = b.tx := h.same Chip.tx fun _ _ _ => rfl
    have rx : c.rx = b.rx := h.same Chip.rx fun _ _ _ => rfl
    rw [Chip.evictable, Chip.evictable, busy, arg, nd, tx, rx, mac]
  rw [Chip.cacheWith, Chip.cacheWith, evictable, h.pat, mac]

theorem Chip.Taken.cacheFetch (h : Chip.Taken b c) (n : Nat) : Chip.Taken (b.cacheFetch n) (c.cacheFetch n) := by
  have mac {b c : Chip} (h : Chip.Taken b c) : c.mac = b.mac := h.same Chip.mac fun _ _ _ => rfl
  have put (l : List Nat) : Chip.Taken (b.cacheAs l) (c.cacheAs l) := h.map (fun b => b.cacheAs l) (fun _ _ _ => rfl) fun _ => rfl
  have counted {b c : Chip} (h : Chip.Taken b c) : Chip.Taken b.cacheCount c.cacheCount := by
    unfold Chip.cacheCount
    rw [mac h]
    exact (h.w _ _ (by decide)).w _ _ (by decide)
  rw [Chip.cacheFetch_eq, Chip.cacheFetch_eq, h.cacheWith, mac h]
  exact .ite Iff.rfl ((put _).inc _ (by decide) (by decide)) (counted ((put _).inc _ (by decide) (by decide)))

theorem Chip.Taken.named (h : Chip.Taken b c) (n : Nat) : Chip.Taken (b.named n) (c.named n) := by
  have nd : c.nd = b.nd := h.same Chip.nd fun _ _ _ => rfl
  unfold Chip.named
  rw [h.pat, nd]
  exact .ite Iff.rfl h (h.cacheFetch n)
end

end Sys2Proof.Machine
end

section
/-!
SUPPORT. An entry of the forwarding table goes alike on a block on which SVC has taken a command (R377, R457).
-/
namespace Sys2Proof.Machine

section
variable {b c : Chip}

theorem Chip.Taken.tab (h : Chip.Taken b c) (t : Nat) : c.tab t = b.tab t := h.same (fun b => b.tab t) fun _ _ _ => rfl

theorem Chip.Taken.putTab (h : Chip.Taken b c) (x : FwdTab) : Chip.Taken (b.putTab 0 x) (c.putTab 0 x) :=
  h.map (fun b => b.putTab 0 x) (fun _ _ _ => rfl) fun _ => rfl

theorem Chip.Taken.searchIdx (h : Chip.Taken b c) (key : Nat) : c.searchIdx 0 key = b.searchIdx 0 key := by
  have seed (set k : Nat) : notStatus (seedFld 0 set k).key := by
    obtain ⟨low, high⟩ := seedFld_key 0 set k
    unfold notStatus offs cbSVC
    omega
  have nb : c.tabNB 0 = b.tabNB 0 := h.same (fun b => b.tabNB 0) fun _ _ _ => rfl
  have stash : c.stashIdx 0 = b.stashIdx 0 := h.same (fun b => b.stashIdx 0) fun _ _ _ => rfl
  have cands (set : Nat) : c.cands 0 set key = b.cands 0 set key := by rw [Chip.cands, Chip.cands, nb, h.r (seed _ _), h.r (seed _ _)]
  have target : c.r (tgtFld 0) = b.r (tgtFld 0) := h.r (by decide)
  have rehash : c.t (rhFld 0) = b.t (rhFld 0) := h.t (by decide)
  unfold Chip.searchIdx
  dsimp only
  rw [target, rehash, stash, cands, cands]

/-- What a masked slot leaves in the repair list. -/
def Chip.repairAs (b : Chip) (l : List (Nat × Nat)) : Chip := { b with fwd := { b.fwd with repair := l } }

theorem Chip.maskSlot_eq (b : Chip) (t i : Nat) : b.maskSlot t i = if (b.tab t).bad.contains i && !(b.tab t).masked.contains i then
    (if ((b.putTab t { b.tab t with masked := i :: (b.tab t).masked }).inc Reg.FWD_ECC_MASKED).fwd.repair.length < 16 then
      (((b.putTab t { b.tab t with masked := i :: (b.tab t).masked }).inc Reg.FWD_ECC_MASKED).repairAs
        (((b.putTab t { b.tab t with masked := i :: (b.tab t).masked }).inc Reg.FWD_ECC_MASKED).fwd.repair ++ [(t, i)])).w Reg.FWD_REPAIR_PEND
        (((b.putTab t { b.tab t with masked := i :: (b.tab t).masked }).inc Reg.FWD_ECC_MASKED).fwd.repair ++ [(t, i)]).length
      else (b.putTab t { b.tab t with masked := i :: (b.tab t).masked }).inc Reg.FWD_ECC_MASKED)
    else b := rfl

theorem Chip.Taken.maskSlot (h : Chip.Taken b c) (i : Nat) : Chip.Taken (b.maskSlot 0 i) (c.maskSlot 0 i) := by
  rw [Chip.maskSlot_eq, Chip.maskSlot_eq, h.tab]
  have masked := (h.putTab { b.tab 0 with masked := i :: (b.tab 0).masked }).inc Reg.FWD_ECC_MASKED (by decide) (by decide)
  generalize (b.putTab 0 { b.tab 0 with masked := i :: (b.tab 0).masked }).inc Reg.FWD_ECC_MASKED = b1 at masked ⊢
  generalize (c.putTab 0 { b.tab 0 with masked := i :: (b.tab 0).masked }).inc Reg.FWD_ECC_MASKED = c1 at masked ⊢
  have fwd : c1.fwd = b1.fwd := masked.same Chip.fwd fun _ _ _ => rfl
  rw [fwd]
  refine .ite Iff.rfl (.ite Iff.rfl (Chip.Taken.w ?_ _ _ (by decide)) masked) h
  exact masked.map (fun b => b.repairAs _) (fun _ _ _ => rfl) fun _ => rfl

theorem Chip.Taken.touch (h : Chip.Taken b c) (key : Nat) : Chip.Taken (b.touch 0 key) (c.touch 0 key) := by
  unfold Chip.touch
  rw [h.searchIdx]
  exact h.foldl _ fun _ _ h i _ => h.maskSlot i

theorem Chip.Taken.findEnt (h : Chip.Taken b c) (key : Nat) : c.findEnt 0 key = b.findEnt 0 key := by
  rw [Chip.findEnt, Chip.findEnt, h.searchIdx, h.tab]

theorem Chip.Taken.putEnt (h : Chip.Taken b c) (i : Nat) (e : Option Nat) : Chip.Taken (b.putEnt 0 i e) (c.putEnt 0 i e) := by
  unfold Chip.putEnt
  rw [h.tab]
  exact h.putTab _

theorem Chip.Taken.stashLvl (h : Chip.Taken b c) : Chip.Taken (b.stashLvl 0) (c.stashLvl 0) := by
  unfold Chip.stashLvl
  simp only [if_pos]
  have level : decide (c.r Reg.FWD_STASH_MARK ≤ c.r Reg.FWD_EXM_STASH) = decide (b.r Reg.FWD_STASH_MARK ≤ b.r Reg.FWD_EXM_STASH) := by
    rw [h.r (by decide), h.r (by decide)]
  rw [level, h.t (f := Reg.FWD_EXM_STASH_LVL) (by decide), h.t (f := Reg.FWD_EXM_STASH_HI) (by decide)]
  have shown := h.w Reg.FWD_EXM_STASH_LVL (b2n (decide (b.r Reg.FWD_STASH_MARK ≤ b.r Reg.FWD_EXM_STASH))) (by decide)
  refine .ite Iff.rfl ?_ shown
  have high := shown.w Reg.FWD_EXM_STASH_HI 1 (by decide)
  unfold Chip.askRehash
  rw [Chip.wb, Chip.wb, Chip.wb, Chip.wb, show b2n true = 1 from rfl, high.tab]
  exact high.raise _ _ _

theorem Chip.Taken.fwdCounts (h : Chip.Taken b c) : Chip.Taken (b.fwdCounts 0) (c.fwdCounts 0) := by
  have size : c.tabSize 0 = b.tabSize 0 := h.same (fun b => b.tabSize 0) fun _ _ _ => rfl
  unfold Chip.fwdCounts
  dsimp only
  rw [h.tab, size, h.t (f := rhFld 0) (by decide), h.r (f := tgtFld 0) (by decide), if_pos rfl, if_pos rfl]
  exact ((((h.w (leftFld 0) _ (by decide)).w _ _ (by decide)).w _ _ (by decide)).w _ _ (by decide)).stashLvl

theorem Chip.Taken.regDrop (h : Chip.Taken b c) (a : Nat) : Chip.Taken (b.regDrop a) (c.regDrop a) := by
  have put : Chip.Taken (b.putRegs (b.svc.regs.filter (fun r => r.addr != a))) (c.putRegs (b.svc.regs.filter (fun r => r.addr != a))) :=
    (h.modSvc fun s => { s with regs := b.svc.regs.filter (fun r => r.addr != a) }).w Reg.SVC_REG_USED _ (by decide)
  unfold Chip.regDrop
  rw [h.svc]
  generalize b.putRegs (b.svc.regs.filter (fun r => r.addr != a)) = b1 at put ⊢
  generalize c.putRegs (b.svc.regs.filter (fun r => r.addr != a)) = c1 at put ⊢
  have touched := put.touch (0 + 256 * addrKey a)
  unfold Chip.removeKey
  dsimp only
  rw [touched.findEnt]
  split
  · exact (touched.putEnt _ none).fwdCounts
  · exact touched
end

end Sys2Proof.Machine
end

section
/-!
SUPPORT. The scheduler of the adaptation's port is judged alike on a block on which SVC has taken a command (R429 to R434, R447).
-/
namespace Sys2Proof.Machine

section
variable {b c : Chip}

/-! ### What the scheduler reads -/

theorem Chip.Taken.q (h : Chip.Taken b c) (q : Nat) : c.q q = b.q q := h.same (fun b => b.q q) fun _ _ _ => rfl
theorem Chip.Taken.qPort (h : Chip.Taken b c) (q : Nat) : c.qPort q = b.qPort q := h.same (fun b => b.qPort q) fun _ _ _ => rfl
theorem Chip.Taken.nodePort (h : Chip.Taken b c) (n : Nat) : c.nodePort n = b.nodePort n := h.same (fun b => b.nodePort n) fun _ _ _ => rfl
theorem Chip.Taken.qParent (h : Chip.Taken b c) (q : Nat) : c.qParent q = b.qParent q := h.same (fun b => b.qParent q) fun _ _ _ => rfl
theorem Chip.Taken.parentOf (h : Chip.Taken b c) (k : Nat) : c.parentOf k = b.parentOf k := h.same (fun b => b.parentOf k) fun _ _ _ => rfl
theorem Chip.Taken.child (h : Chip.Taken b c) (k : Nat) : c.child k = b.child k := h.same (fun b => b.child k) fun _ _ _ => rfl

theorem Chip.Taken.qPrio (h : Chip.Taken b c) (q : Nat) : c.qPrio q = b.qPrio q := by
  have group : c.qGroup q = b.qGroup q := h.same (fun b => b.qGroup q) fun _ _ _ => rfl
  rw [Chip.qPrio, Chip.qPrio, group]
  refine h.t ?_
  simp only [notStatus, offs, Fld.key, Reg.QMG_G_MODE, cbSVC]
  omega

theorem Chip.Taken.offered (h : Chip.Taken b c) (q : Nat) (i : Item) : c.offered q i = b.offered q i := by
  rw [Chip.offered, Chip.offered, h.q, h.qPrio]

theorem Chip.Taken.presents (h : Chip.Taken b c) (q node : Nat) : c.presents q node = b.presents q node := by
  have offered : c.offered q = b.offered q := funext fun i => h.offered q i
  unfold Chip.presents
  dsimp only
  rw [h.q, h.qPrio, offered]

theorem Chip.Taken.qOffers (h : Chip.Taken b c) (q : Nat) : c.qOffers q = b.qOffers q := by
  rw [Chip.qOffers, Chip.qOffers, h.q, h.tmg, h.presents]

theorem Chip.Taken.charged (h : Chip.Taken b c) (p : Nat) (i : Item) : c.charged p i = b.charged p i := by
  have overhead : c.rs (Reg.TMG_OVERHEAD p) = b.rs (Reg.TMG_OVERHEAD p) := by
    rw [Chip.rs, Chip.rs, h.r]
    simp only [notStatus, offs, Fld.key, Reg.TMG_OVERHEAD, cbSVC]
    omega
  rw [Chip.charged, Chip.charged, overhead]

theorem Chip.Taken.txNs (h : Chip.Taken b c) (p len : Nat) : c.txNs p len = b.txNs p len := by
  have mode : c.r (Reg.ETH_MODE p) = b.r (Reg.ETH_MODE p) := by
    refine h.r ?_
    simp only [notStatus, offs, Fld.key, Reg.ETH_MODE, cbSVC]
    omega
  have an : c.t (Reg.ETH_AN_EN p) = b.t (Reg.ETH_AN_EN p) := by
    refine h.t ?_
    simp only [notStatus, offs, Fld.key, Reg.ETH_AN_EN, cbSVC]
    omega
  have speed : c.r (Reg.ETH_SGMII_SPEED p) = b.r (Reg.ETH_SGMII_SPEED p) := by
    refine h.r ?_
    simp only [notStatus, offs, Fld.key, Reg.ETH_SGMII_SPEED, cbSVC]
    omega
  rw [Chip.txNs, Chip.txNs, Chip.lineMbps, Chip.lineMbps, mode, an, speed]

theorem Chip.openFor_blind (b : Chip) (regs : KV Nat) (irq : List Nat) (p k t acc n : Nat) :
    Chip.openFor { b with regs := regs, cmdIrq := irq } p k t acc n = b.openFor p k t acc n := by
  induction n generalizing t acc with
  | zero => rfl
  | succ n ih =>
    simp only [Chip.openFor, ih]
    rfl

theorem Chip.Taken.gateTest (h : Chip.Taken b c) (p k : Nat) (i : Item) : c.gateTest p k i = b.gateTest p k i := by
  have en : c.t (Reg.TMG_GATE_EN p) = b.t (Reg.TMG_GATE_EN p) := by
    refine h.t ?_
    simp only [notStatus, offs, Fld.key, Reg.TMG_GATE_EN, cbSVC]
    omega
  have opened : c.openFor p k c.nowNs 0 1100 = b.openFor p k b.nowNs 0 1100 := by
    have now : c.nowNs = b.nowNs := h.same Chip.nowNs fun _ _ _ => rfl
    rw [now]
    exact h.same (fun b' => b'.openFor p k b.nowNs 0 1100) fun b' regs irq => b'.openFor_blind regs irq _ _ _ _ _
  unfold Chip.gateTest
  dsimp only
  rw [en, opened, h.txNs, h.charged]

theorem Chip.Taken.eligible (h : Chip.Taken b c) (k : Nat) : c.eligible k = b.eligible k := by
  have queue : c.qEligible k = b.qEligible k := by
    rw [Chip.qEligible, Chip.qEligible, h.qOffers, h.qPort, h.child]
    simp only [h.gateTest]
  rw [Chip.eligible, Chip.eligible, queue, h.tmg]

theorem Chip.Taken.childItem (h : Chip.Taken b c) (k : Nat) : c.childItem k = b.childItem k := by
  rw [Chip.childItem, Chip.childItem, h.qOffers, h.tmg]
  simp only [h.q]

theorem Chip.Taken.stagedOk (h : Chip.Taken b c) (m : Nat) : c.stagedOk m = b.stagedOk m := by
  rw [Chip.stagedOk, Chip.stagedOk, h.tmg]
  simp only [h.q, h.offered, h.qPort, h.child, h.gateTest]

/-! ### What it changes -/

/-- The block with another state of the scheduler. -/
def Chip.tmgAs (b : Chip) (x : Tmg) : Chip := { b with tmg := x }

theorem Chip.Taken.tmgAs (h : Chip.Taken b c) (x : Tmg) : Chip.Taken (b.tmgAs x) (c.tmgAs x) := h.map (fun b => b.tmgAs x) (fun _ _ _ => rfl) fun _ => rfl

theorem Chip.Taken.putChild (h : Chip.Taken b c) (k : Nat) (x : Child) : Chip.Taken (b.putChild k x) (c.putChild k x) :=
  h.map (fun b => b.putChild k x) (fun _ _ _ => rfl) fun _ => rfl

theorem Chip.childFresh_eq (b : Chip) (m k : Nat) : b.childFresh m k = if b.eligible k then
    (if (kgetD b.tmg.active m []).contains k then b
      else (b.tmgAs { b.tmg with active := kput b.tmg.active m (kgetD b.tmg.active m [] ++ [k]) }).putChild k { b.child k with deficit := 0 })
    else if (kgetD b.tmg.active m []).contains k then
      (b.tmgAs { b.tmg with active := kput b.tmg.active m ((kgetD b.tmg.active m []).filter (· != k)),
                            turn := if (kgetD b.tmg.active m []).head? = some k then b.tmg.turn.filter (· != m) else b.tmg.turn }).putChild k
        { b.child k with deficit := 0 }
    else b := rfl

theorem Chip.Taken.childFresh (h : Chip.Taken b c) (m k : Nat) : Chip.Taken (b.childFresh m k) (c.childFresh m k) := by
  rw [Chip.childFresh_eq, Chip.childFresh_eq, h.eligible, h.child, h.tmg]
  exact .ite Iff.rfl (.ite Iff.rfl h ((h.tmgAs _).putChild _ _)) (.ite Iff.rfl ((h.tmgAs _).putChild _ _) h)

/-- A child has its turn: its quantum is added once. -/
def Chip.turnOf (b : Chip) (m k : Nat) : Child :=
  if b.tmg.turn.contains m then b.child k else { b.child k with deficit := (b.child k).deficit + (b.child k).quantum }

theorem Chip.stage'_cons (b : Chip) (m f k : Nat) (l : List Nat) (active : kgetD b.tmg.active m [] = k :: l) : b.stage' m (f + 1) =
    if !b.eligible k then (b.childFresh m k).stage' m f
    else match (b.putChild k (b.turnOf m k)).childItem k with
      | none => b.putChild k (b.turnOf m k)
      | some (q, i) =>
        if (b.putChild k (b.turnOf m k)).charged ((b.putChild k (b.turnOf m k)).nodePort m) i ≤ (b.turnOf m k).deficit then
          (b.putChild k (b.turnOf m k)).tmgAs { (b.putChild k (b.turnOf m k)).tmg with
            turn := m :: (b.putChild k (b.turnOf m k)).tmg.turn.filter (· != m),
            staged := kput (b.putChild k (b.turnOf m k)).tmg.staged m (k, q, i.id) }
        else ((b.putChild k (b.turnOf m k)).tmgAs { (b.putChild k (b.turnOf m k)).tmg with
            active := kput (b.putChild k (b.turnOf m k)).tmg.active m (l ++ [k]),
            turn := (b.putChild k (b.turnOf m k)).tmg.turn.filter (· != m) }).stage' m f := by
  rw [Chip.stage', active]
  rfl

theorem Chip.Taken.stage' (h : Chip.Taken b c) (m n : Nat) : Chip.Taken (b.stage' m n) (c.stage' m n) := by
  induction n generalizing b c with
  | zero => exact h
  | succ n ih =>
    cases active : kgetD b.tmg.active m [] with
    | nil =>
      rw [Chip.stage', Chip.stage', h.tmg, active]
      exact h
    | cons k l =>
      have turn : c.turnOf m k = b.turnOf m k := by rw [Chip.turnOf, Chip.turnOf, h.tmg, h.child]
      have active' : kgetD c.tmg.active m [] = k :: l := by rw [h.tmg, active]
      rw [Chip.stage'_cons b m n k l active, Chip.stage'_cons c m n k l active', h.eligible, turn]
      have put := h.putChild k (b.turnOf m k)
      generalize b.putChild k (b.turnOf m k) = b1 at put ⊢
      generalize c.putChild k (b.turnOf m k) = c1 at put ⊢
      refine .ite Iff.rfl (ih (h.childFresh m k)) ?_
      rw [put.childItem]
      split
      · exact put
      · rw [put.nodePort, put.charged, put.tmg]
        exact .ite Iff.rfl (put.tmgAs _) (ih (put.tmgAs _))

/-- The block with what a scheduler node can no longer send unstaged. -/
def Chip.unstaged (b : Chip) (m : Nat) : Chip := if b.stagedOk m then b else b.tmgAs { b.tmg with staged := kdel b.tmg.staged m }

theorem Chip.restage_eq (b : Chip) (m : Nat) : b.restage m = if (kget (b.unstaged m).tmg.staged m).isSome then b.unstaged m
    else (b.unstaged m).stage' m (600 * ((kgetD (b.unstaged m).tmg.active m []).length + 1)) := by
  change (match kget (b.unstaged m).tmg.staged m with
    | some _ => b.unstaged m
    | none => (b.unstaged m).stage' m (600 * ((kgetD (b.unstaged m).tmg.active m []).length + 1))) = _
  cases kget (b.unstaged m).tmg.staged m <;> rfl

theorem Chip.Taken.restage (h : Chip.Taken b c) (m : Nat) : Chip.Taken (b.restage m) (c.restage m) := by
  have cleared : Chip.Taken (b.unstaged m) (c.unstaged m) := by
    rw [Chip.unstaged, Chip.unstaged, h.stagedOk, h.tmg]
    exact .ite Iff.rfl h (h.tmgAs _)
  rw [Chip.restage_eq, Chip.restage_eq, cleared.tmg]
  exact .ite Iff.rfl cleared (cleared.stage' m _)

theorem Chip.Taken.up (h : Chip.Taken b c) (k n : Nat) : Chip.Taken (b.up k n) (c.up k n) := by
  induction n generalizing b c k with
  | zero => exact h
  | succ n ih =>
    unfold Chip.up
    dsimp only
    rw [h.parentOf]
    exact .ite Iff.rfl h (ih ((h.childFresh _ _).restage _) _)

/-- On a port without gates nothing is too long for a window, and nothing waits for a gate. -/
theorem Chip.tooLong_ungated {q : Nat} (port : 2 ≤ b.qPort q) (n : Nat) : b.tooLong q n = b := by
  cases n with
  | zero => rfl
  | succ n =>
    unfold Chip.tooLong
    split
    · rfl
    · exact if_pos (by simp [port])

theorem Chip.gateHold_ungated {q : Nat} (port : 2 ≤ b.qPort q) : b.gateHold q = b.tmgAs { b.tmg with held := b.tmg.held.filter (· != q) } := by
  unfold Chip.gateHold
  split
  · rfl
  · exact if_pos (if_pos (by simp [port]))

theorem Chip.Taken.tmgQ (h : Chip.Taken b c) {q : Nat} (port : 2 ≤ b.qPort q) : Chip.Taken (b.tmgQ q) (c.tmgQ q) := by
  have port' : 2 ≤ c.qPort q := by rwa [h.qPort]
  rw [Chip.tmgQ, Chip.tmgQ, Chip.tooLong_ungated port, Chip.tooLong_ungated port', Chip.gateHold_ungated port, Chip.gateHold_ungated port', h.qParent, h.tmg]
  exact .ite Iff.rfl h ((h.tmgAs _).up q 6)

theorem Chip.Taken.tmgPort (h : Chip.Taken b c) : Chip.Taken (b.tmgPort 2) (c.tmgPort 2) := by
  unfold Chip.tmgPort
  rw [h.pat]
  refine h.foldl _ fun b c h q _ => ?_
  rw [h.qParent, h.qPort]
  split
  · rename_i judged
    exact h.tmgQ judged.2.ge
  · exact h

theorem Chip.Taken.setRunning (h : Chip.Taken b c) (v : Nat) : Chip.Taken (b.setRunning v) (c.setRunning v) := by
  have on : c.svcOn 3 = b.svcOn 3 := by rw [Chip.svcOn, Chip.svcOn, h.r (by decide)]
  have set := (h.w Reg.SVC_RUNNING v (by decide)).tmgPort
  unfold Chip.setRunning
  dsimp only
  rw [on]
  exact .ite Iff.rfl set.campAbort set
end

end Sys2Proof.Machine
end

section
/-!
SUPPORT. An operation of the mailbox answers alike, and does the same, on a block on which SVC has taken its command (R462, R465).
-/
namespace Sys2Proof.Machine

/-- Two outcomes with one answer, the second on a block with the command taken; the status fits CODE. -/
def OpOut.Alike (o p : OpOut) : Prop := p.status = o.status ∧ p.body = o.body ∧ Chip.Taken o.b p.b ∧ o.status < 256

theorem OpOut.Alike.ite {o p o' p' : OpOut} {q : Prop} [Decidable q] (h : o.Alike p) (h' : o'.Alike p') :
    (if q then o else o').Alike (if q then p else p') := by
  split
  · exact h
  · exact h'

theorem OpOut.Alike.kept {o p : OpOut} (h : o.Alike p) : o.kept.Alike p.kept := by
  obtain ⟨status, body, taken, small⟩ := h
  unfold OpOut.kept
  rw [status]
  split
  · exact ⟨rfl, body, taken.keepSvc, small⟩
  · exact ⟨status, body, taken, small⟩

section
variable {b c : Chip}

theorem Chip.Taken.fail (h : Chip.Taken b c) {n : Nat} (hn : n < 256) : (b.opFail n).Alike (c.opFail n) := ⟨rfl, rfl, h, hn⟩
theorem Chip.Taken.ok (h : Chip.Taken b c) (l : List Nat) : (b.opOk l).Alike (c.opOk l) := ⟨rfl, rfl, h, (by decide : OK < 256)⟩

theorem Chip.Taken.svcOn (h : Chip.Taken b c) (i : Nat) : c.svcOn i = b.svcOn i := by rw [Chip.svcOn, Chip.svcOn, h.r (by decide)]

theorem Chip.Taken.opCtrl (h : Chip.Taken b c) (l : List Nat) : (b.opCtrl l).Alike (c.opCtrl l) := by
  have set (v : Nat) : ((b.setRunning v).opOk (leBytes ((b.setRunning v).r Reg.SVC_RUNNING) 4)).Alike
      ((c.setRunning v).opOk (leBytes ((c.setRunning v).r Reg.SVC_RUNNING) 4)) := by
    rw [(h.setRunning v).r (by decide)]
    exact (h.setRunning v).ok _
  have reject : Chip.Taken (if l.headD 0 = 1 then b.structReject cbSVC else b) (if l.headD 0 = 1 then c.structReject cbSVC else c) :=
    .ite Iff.rfl (h.structReject cbSVC) h
  unfold Chip.opCtrl
  dsimp only
  rw [h.pat, h.r (by decide)]
  exact .ite (h.fail (by decide)) (.ite (reject.fail (by decide)) (.ite (.ite (h.fail (by decide)) (set _)) (set _)))

theorem Chip.Taken.opCtxSet (h : Chip.Taken b c) (l : List Nat) : (b.opCtxSet l).Alike (c.opCtxSet l) :=
  .ite (h.fail (by decide)) ((h.modSvc _).ok _)

theorem Chip.Taken.opCtxRead (h : Chip.Taken b c) (l : List Nat) : (b.opCtxRead l).Alike (c.opCtxRead l) := by
  unfold Chip.opCtxRead
  dsimp only
  rw [h.svc]
  exact .ite (h.fail (by decide)) (h.ok _)

theorem Chip.Taken.opRplCfg (h : Chip.Taken b c) (l : List Nat) : (b.opRplCfg l).Alike (c.opRplCfg l) := by
  unfold Chip.opRplCfg
  dsimp only
  rw [h.svcOn, h.svc]
  exact .ite (h.fail (by decide)) (.ite (h.fail (by decide)) ((h.modSvc _).ok _))

theorem Chip.Taken.routeUp (h : Chip.Taken b c) (n depth : Nat) (tail : List Nat) (k : Nat) : c.routeUp n depth tail k = b.routeUp n depth tail k := by
  have ns : c.ns = b.ns := h.same Chip.ns fun _ _ _ => rfl
  have nd : c.nd = b.nd := h.same Chip.nd fun _ _ _ => rfl
  induction k generalizing n depth tail with
  | zero => rfl
  | succ k ih =>
    unfold Chip.routeUp
    dsimp only
    rw [ns, nd, h.r (by decide), ih]

theorem Chip.Taken.opRplRoute (h : Chip.Taken b c) (l : List Nat) : (b.opRplRoute l).Alike (c.opRplRoute l) := by
  have path : c.routePath (fldLE l 0 4) = b.routePath (fldLE l 0 4) := h.routeUp _ _ _ _
  unfold Chip.opRplRoute
  dsimp only
  rw [h.pat, path]
  refine .ite (h.fail (by decide)) ?_
  split
  · exact (h.named _).fail (by decide)
  · exact (h.named _).ok _

theorem Chip.Taken.opRplRepair (h : Chip.Taken b c) : b.opRplRepair.Alike c.opRplRepair := by
  unfold Chip.opRplRepair
  dsimp only
  rw [h.svcOn, h.svc]
  exact .ite (h.fail (by decide)) (((h.modSvc _).modSvc _).ok _)

theorem Chip.Taken.nowNs (h : Chip.Taken b c) : c.nowNs = b.nowNs := h.same Chip.nowNs fun _ _ _ => rfl

theorem Chip.Taken.opRegRead (h : Chip.Taken b c) (l : List Nat) : (b.opRegRead l).Alike (c.opRegRead l) := by
  unfold Chip.opRegRead
  rw [h.svc, h.nowNs]
  split
  · exact h.fail (by decide)
  · exact h.ok _

theorem Chip.Taken.opRegRemove (h : Chip.Taken b c) (l : List Nat) : (b.opRegRemove l).Alike (c.opRegRemove l) := by
  unfold Chip.opRegRemove
  rw [h.svc]
  exact .ite ((h.regDrop _).ok _) (h.fail (by decide))

theorem Chip.Taken.slotBusy (h : Chip.Taken b c) (i : Nat) : c.slotBusy i = b.slotBusy i := h.same (fun b => b.slotBusy i) fun _ _ _ => rfl

theorem Chip.Taken.opImgWrite (h : Chip.Taken b c) (l : List Nat) : (b.opImgWrite l).Alike (c.opImgWrite l) := by
  have octets : c.slotOctets = b.slotOctets := h.same Chip.slotOctets fun _ _ _ => rfl
  unfold Chip.opImgWrite
  dsimp only
  rw [h.svc, octets, h.slotBusy]
  exact .ite (h.fail (by decide)) (.ite (h.fail (by decide)) (.ite (h.fail (by decide)) (.ite (h.fail (by decide)) ((h.modSvc _).ok _))))

theorem Chip.Taken.opImgClose (h : Chip.Taken b c) (l : List Nat) : (b.opImgClose l).Alike (c.opImgClose l) := by
  unfold Chip.opImgClose
  dsimp only
  rw [h.svc, h.slotBusy]
  refine .ite (h.fail (by decide)) ?_
  split
  · exact h.fail (by decide)
  · exact .ite (h.fail (by decide)) (.ite (h.fail (by decide)) ((h.modSvc _).ok _))

theorem Chip.Taken.opImgErase (h : Chip.Taken b c) (l : List Nat) : (b.opImgErase l).Alike (c.opImgErase l) := by
  unfold Chip.opImgErase
  dsimp only
  rw [h.slotBusy]
  exact .ite (h.fail (by decide)) (.ite (h.fail (by decide)) ((h.modSvc _).ok _))

theorem Chip.Taken.opCampStart (h : Chip.Taken b c) (l : List Nat) : (b.opCampStart l).Alike (c.opCampStart l) := by
  have mode : c.modeOn = b.modeOn := h.same Chip.modeOn fun _ _ _ => rfl
  have cell : c.bcastCell = b.bcastCell := h.same Chip.bcastCell fun _ _ _ => rfl
  have slot : c.slotUs = b.slotUs := h.same Chip.slotUs fun _ _ _ => rfl
  have mac : c.mac = b.mac := h.same Chip.mac fun _ _ _ => rfl
  have level : c.sealLevel .bcast = b.sealLevel .bcast := by
    unfold Chip.sealLevel
    dsimp only
    rw [h.t (by decide), h.r (f := Reg.SEC_BCAST_LEVEL) (by decide), h.r (f := Reg.SEC_BCAST_INDEX) (by decide)]
  unfold Chip.opCampStart
  dsimp only
  rw [mode, cell, slot, mac, level, h.pat, h.svc, h.svcOn, h.r (f := Reg.SCH_TX_OFFSET_US) (by decide)]
  exact .ite (h.fail (by decide)) (.ite (h.fail (by decide)) (.ite (h.fail (by decide)) (.ite (h.fail (by decide)) (.ite (h.fail (by decide))
    ((h.putCamp _ _).ok _)))))

theorem Chip.Taken.opCampStatus (h : Chip.Taken b c) (l : List Nat) : (b.opCampStatus l).Alike (c.opCampStatus l) := by
  unfold Chip.opCampStatus
  rw [h.svc]
  refine .ite (h.fail (by decide)) ?_
  split
  · exact h.ok _
  · exact h.ok _

theorem Chip.Taken.opCampStop (h : Chip.Taken b c) (l : List Nat) : (b.opCampStop l).Alike (c.opCampStop l) := by
  unfold Chip.opCampStop
  dsimp only
  rw [h.svc]
  exact .ite (h.fail (by decide)) (.ite (h.fail (by decide)) ((h.campEnd _ _).ok _))

theorem Chip.Taken.opCampResult (h : Chip.Taken b c) (l : List Nat) : (b.opCampResult l).Alike (c.opCampResult l) := by
  unfold Chip.opCampResult
  dsimp only
  rw [h.svc]
  refine .ite (h.fail (by decide)) ?_
  split
  · exact h.fail (by decide)
  · exact .ite (h.fail (by decide)) (h.ok _)

theorem Chip.Taken.opRun (h : Chip.Taken b c) (op : Nat) (l : List Nat) : (b.opRun op l).Alike (c.opRun op l) := by
  unfold Chip.opRun
  split
  · exact h.opCtrl l
  · exact (h.opCtxSet l).kept
  · exact h.opCtxRead l
  · exact (h.opRplCfg l).kept
  · exact h.opRplRoute l
  · exact h.opRplRepair.kept
  · exact h.opRegRead l
  · exact h.opRegRemove l
  · exact h.opImgWrite l
  · exact h.opImgClose l
  · exact h.opImgErase l
  · exact h.opCampStart l
  · exact h.opCampStatus l
  · exact h.opCampStop l
  · exact h.opCampResult l
  · exact h.fail (by decide)

theorem Chip.Taken.opCheck (h : Chip.Taken b c) (op : Nat) : c.opCheck op = b.opCheck op := by
  have standby : c.isStandby = b.isStandby := by rw [Chip.isStandby, Chip.isStandby, Chip.role, Chip.role, h.r (by decide)]
  have gap : c.inGap = b.inGap := h.same Chip.inGap fun _ _ _ => rfl
  unfold Chip.opCheck
  rw [h.pat, standby, gap, h.r (by decide)]

/-- A check that refuses gives BAD_ARG or WRONG_STATE. -/
theorem Chip.opCheck_lt {op n : Nat} (refuses : b.opCheck op = some n) : n < 256 := by
  unfold Chip.opCheck at refuses
  split at refuses
  · cases refuses
    decide
  · split_ifs at refuses <;> cases refuses <;> decide
end

/-! ### The command -/

theorem Chip.cmdAccept_taken (b : Chip) (irq : Bool) : Chip.Taken b (b.cmdAccept cbSVC irq) := by
  refine ⟨_, _, rfl, fun f hf => Chip.cmdAccept_r _ _ _ _ ?_, ?_⟩
  · unfold notStatus offs at hf
    omega
  · rw [Chip.t, Chip.cmdAccept_busy]
    rfl

theorem Chip.Taken.only {x y : Chip} (h : Chip.Taken x y) : Chip.Only [.cmdIrq] (blockKey cbSVC) x y := by
  refine ⟨?_, fun f hf => h.r fun hk => hf ?_⟩
  · obtain ⟨_, _, rfl, -, -⟩ := h
    rfl
  · unfold blockKey offs at *
    omega

theorem Chip.Taken.onlyBlock {x y : Chip} (h : Chip.Taken x y) : Chip.OnlyBlock x y cbSVC := (h.only.mono (by decide) fun _ => id).onlyBlock

theorem Chip.Taken.finish {x y : Chip} (h : Chip.Taken x y) (code : Nat) (l : List Nat) : Chip.OnlyBlock x (y.cmdFinish cbSVC code l) cbSVC :=
  ((h.only.mono (by decide) fun _ => id).trans (y.cmdFinish_only cbSVC code l)).onlyBlock

/-- A command of SVC that completes shows the low octet of its code. -/
theorem Chip.svcFinish_completed (b : Chip) (code : Nat) (l : List Nat) : (b.cmdFinish cbSVC code l).Completed cbSVC (code % 2 ^ 8) l := by
  refine ⟨Chip.cmdFinish_code _ _ _ _ (by decide), Chip.cmdFinish_done _ _ _ _ (by decide), Chip.cmdFinish_busy _ _ _ _ (by decide), fun j hj => ?_⟩
  refine Chip.cmdFinish_result _ _ _ _ _ hj ?_
  simp only [Fld.key, cbRESULT, cbSVC, Reg.NTC_INT_PEND]
  omega

theorem respStatus_respRec (op status tag ticket : Nat) (body : List Nat) : respStatus (respRec op status tag ticket body) = status := rfl

theorem respRec_length (op status tag ticket : Nat) (body : List Nat) : (respRec op status tag ticket body).length = 16 + body.length := by
  simp [respRec]
  omega

section
variable {s : State} {l : List Nat} {irq late fin : Bool} {op : Nat} {w : Instr}

/-- A record that is sound and answered at once. -/
theorem State.svcSubmit_answers (sends : s.Sends l) {y : Chip} {r : List Nat}
    (submitted : (s.b.cmdAccept cbSVC irq).submit op (s.mem.read reqBuf (s.b.arg cbSVC 0)) late fin = ⟨y, some r⟩) :
    s.svcSubmit irq (some op) late fin = s.svcFinish y r := by
  obtain ⟨starting, safe, busy, low, high, len, -⟩ := sends
  unfold State.svcSubmit
  rw [if_neg (by simp [starting, safe, busy])]
  simp only [Chip.cmdAccept_arg]
  rw [if_neg (by omega), Option.getD_some, submitted]

/-- One that stays BUSY. -/
theorem State.svcSubmit_stays (sends : s.Sends l) {y : Chip}
    (submitted : (s.b.cmdAccept cbSVC irq).submit op (s.mem.read reqBuf (s.b.arg cbSVC 0)) late fin = ⟨y, none⟩) :
    s.svcSubmit irq (some op) late fin = { s with b := y } := by
  obtain ⟨starting, safe, busy, low, high, len, -⟩ := sends
  unfold State.svcSubmit
  rw [if_neg (by simp [starting, safe, busy])]
  simp only [Chip.cmdAccept_arg]
  rw [if_neg (by omega), Option.getD_some, submitted]

/-- The row of a command whose operation answers. -/
theorem Runs.responds {x y : Chip} {o status tag k : Nat} {body : List Nat} (row : exec w s = .next (s.svcSubmit irq (some op) late fin)) (sends : s.Sends l)
    (submitted : (s.b.cmdAccept cbSVC irq).submit op (s.mem.read reqBuf (s.b.arg cbSVC 0)) late fin = ⟨y, some (respRec o status tag k body)⟩)
    (taken : Chip.Taken x y) : Runs w s (fun t => t.mem = s.mem.write rspBuf (respRec o status tag k body) ∧
      t.b.Completed cbSVC (status % 2 ^ 8) [16 + body.length] ∧ Chip.OnlyBlock x t.b cbSVC) := by
  have eq : s.svcSubmit irq (some op) late fin = { s with
      mem := s.mem.write rspBuf (respRec o status tag k body), b := y.cmdFinish cbSVC status [16 + body.length] } := by
    rw [State.svcSubmit_answers sends submitted, State.svcFinish, respStatus_respRec, respRec_length]
  exact ⟨_, row.trans (congrArg _ eq), rfl, y.svcFinish_completed _ _, taken.finish _ _⟩

/-- One that answers as the given block would. -/
theorem Runs.replies {x y : Chip} {o status : Nat} {body : List Nat} (row : exec w s = .next (s.svcSubmit irq (some op) late fin)) (sends : s.Sends l)
    (submitted : (s.b.cmdAccept cbSVC irq).submit op (s.mem.read reqBuf (s.b.arg cbSVC 0)) late fin =
      ⟨y, some (respRec o status (fldLE (s.mem.read reqBuf (s.b.arg cbSVC 0)) 4 4) 0 body)⟩)
    (taken : Chip.Taken x y) (small : status < 256) : Runs w s (fun t => s.Replies t x o status body) := by
  refine (Runs.responds row sends submitted taken).imp fun t ⟨mem, completed, only⟩ => ⟨⟨mem, ?_⟩, only⟩
  rwa [Nat.mod_eq_of_lt (show status < 2 ^ 8 from small)] at completed

/-- An operation that its checks refuse. -/
theorem Runs.refused {c : Nat} (row : exec w s = .next (s.svcSubmit irq (some op) late fin)) (sends : s.Sends l) (check : s.b.opCheck op = some c) :
    Runs w s (fun t => s.Replies t s.b op c []) := by
  have taken := s.b.cmdAccept_taken irq
  refine Runs.replies row sends ?_ taken (Chip.opCheck_lt check)
  rw [Chip.submit, taken.opCheck, check]

/-- An operation that answers in its own step. -/
theorem Runs.operates {o : OpOut} (row : exec w s = .next (s.svcSubmit irq (some op) false fin)) (poll : op ≠ 0xF0) (asks : s.Asks op l) (out : s.b.opRun op l = o) :
    Runs w s (fun t => s.Replies t o.b op o.status o.body) := by
  obtain ⟨sends, check⟩ := asks
  obtain ⟨-, -, -, -, -, -, body⟩ := id sends
  have taken := s.b.cmdAccept_taken irq
  obtain ⟨status, same, run, small⟩ := taken.opRun op l
  rw [out] at status same run small
  refine Runs.replies row sends ?_ run small
  rw [Chip.submit, taken.opCheck, check]
  dsimp only
  rw [if_neg poll, if_neg (by simp), ← body, status, same]
  rfl

/-- A record of the wrong length. -/
theorem Runs.badLength (row : exec w s = .next (s.svcSubmit irq (some op) late fin)) (started : s.b.starting = false) (safe : s.b.safe = false)
    (idle : s.b.t (cbBUSY cbSVC) = false) (bad : s.b.arg cbSVC 0 < 16 ∨ 4096 < s.b.arg cbSVC 0 ∨
      s.b.arg cbSVC 0 ≠ fldLE (s.mem.read reqBuf (s.b.arg cbSVC 0)) 8 4 + 16) :
    Runs w s (fun t => t.mem = s.mem ∧ Chip.OnlyBlock s.b t.b cbSVC ∧ t.b.Completed cbSVC BAD_LENGTH []) := by
  have eq : s.svcSubmit irq (some op) late fin = { s with b := (s.b.cmdAccept cbSVC irq).cmdFinish cbSVC BAD_LENGTH [] } := by
    unfold State.svcSubmit
    rw [if_neg (by simp [started, safe, idle])]
    simp only [Chip.cmdAccept_arg]
    rw [if_pos bad]
  exact ⟨_, row.trans (congrArg _ eq), rfl, (s.b.cmdAccept_taken irq).finish _ _, Chip.svcFinish_completed _ BAD_LENGTH []⟩
end

end Sys2Proof.Machine
end

section
/-!
SUPPORT. What each operation of the mailbox does where its arguments pass (R446, R448, R453 to R465).
-/
namespace Sys2Proof.Machine

theorem List.given_low {l : List Nat} {n : Nat} (given : l ≠ []) (low : l.headD 0 ≤ n) : ¬ (l.isEmpty = true ∨ n < l.headD 0) := by
  rintro (empty | high)
  · exact given (List.isEmpty_iff.mp empty)
  · omega

section
variable {b : Chip} {l : List Nat}

/-! ### SVC_CTRL -/

/-- The adaptation's port has no gates: judging it again changes the scheduler alone. -/
theorem Chip.tmgPort_ungated (b : Chip) : Chip.Only [.tmg] noReg b (b.tmgPort 2) := by
  refine .foldl _ (.rfl' _ _ _) fun c q _ => ?_
  split
  · rename_i judged
    have port : 2 ≤ c.qPort q := judged.2.ge
    rw [Chip.tmgQ, Chip.tooLong_ungated port, Chip.gateHold_ungated port]
    exact .ite (.rfl' _ _ _) (((Chip.Only.rfl' c [.tmg] noReg).putTmg (by decide) _).trans (Chip.up_only _ _ _))
  · exact .rfl' _ _ _

theorem Chip.campEnd_running (b : Chip) (k status : Nat) : (b.campEnd k status).r Reg.SVC_RUNNING = b.r Reg.SVC_RUNNING := by
  unfold Chip.campEnd
  split
  · rfl
  · split
    · rfl
    · exact ((Chip.raise_only _ _ _ _).2 _ (by decide)).trans (Chip.r_w_ne _ _ _ _ (by decide))

theorem Chip.setRunning_running (b : Chip) (v : Nat) : (b.setRunning v).r Reg.SVC_RUNNING = v % 2 ^ 5 := by
  have set : ((b.w Reg.SVC_RUNNING v).tmgPort 2).r Reg.SVC_RUNNING = v % 2 ^ 5 := ((Chip.tmgPort_ungated _).2 _ id).trans (Chip.r_w_same _ _ _)
  unfold Chip.setRunning
  dsimp only
  split
  · unfold Chip.campAbort
    simp only [List.foldl, Chip.campEnd_running]
    exact set
  · exact set

theorem Chip.opCtrl_sets {m v : Nat} (hm : m = fldLE l 4 4) (len : 8 ≤ l.length) (mask : andNot m b.pat.svcMask = 0)
    (set : (l.headD 0 = 1 ∧ v = orN (b.r Reg.SVC_RUNNING) m ∧ (bit m 1 = true ∨ bit m 2 = true → bit v 0 = true)) ∨
      (l.headD 0 = 0 ∧ v = andNot (b.r Reg.SVC_RUNNING) (if bit m 0 then orN m 6 else m))) :
    b.opCtrl l = ⟨b.setRunning v, OK, leBytes (v % 2 ^ 5) 4⟩ := by
  subst hm
  unfold Chip.opCtrl
  dsimp only
  obtain ⟨start, rfl, needs⟩ | ⟨stop, rfl⟩ := set
  · have runs : ¬ ((bit (fldLE l 4 4) 1 || bit (fldLE l 4 4) 2) && !bit (orN (b.r Reg.SVC_RUNNING) (fldLE l 4 4)) 0) = true := by
      rw [Bool.and_eq_true, Bool.or_eq_true]
      rintro ⟨asked, off⟩
      rw [needs asked] at off
      cases off
    rw [if_neg (by omega), if_neg (by simp [mask]), if_pos start, if_neg runs, Chip.setRunning_running]
    rfl
  · rw [if_neg (by omega), if_neg (by simp [mask]), if_neg (by omega), Chip.setRunning_running]
    rfl

/-! ### Contexts, RPL and registrations -/

theorem Chip.opCtxSet_sets {i : Nat} (hi : i = l.headD 0) (len : 32 ≤ l.length) (low : i ≤ 15) (bits : l.getD 1 0 ≤ 128) :
    (b.opCtxSet l).kept = ⟨(b.withSvc { b.svc with ctxs := kput b.svc.ctxs i (
      { len := l.getD 1 0, valid := bit (l.getD 2 0) 0, prefix_ := slice l 16 16 } : CompCtx) }).keepSvc, OK, []⟩ := by
  subst hi
  unfold Chip.opCtxSet
  dsimp only
  rw [if_neg (by omega)]
  rfl

theorem Chip.opCtxRead_reads {x : CompCtx} (given : l ≠ []) (low : l.headD 0 ≤ 15)
    (hx : x = kgetD b.svc.ctxs (l.headD 0) { len := 0, valid := false, prefix_ := List.replicate 16 0 }) :
    b.opCtxRead l = ⟨b, OK, [l.headD 0, x.len, b2n x.valid] ++ List.replicate 13 0 ++ x.prefix_⟩ := by
  subst hx
  unfold Chip.opCtxRead
  dsimp only
  rw [if_neg (List.given_low given low)]
  rfl

theorem Chip.opRplCfg_sets (len : 32 ≤ l.length) (h1 : 6 ≤ l.getD 1 0) (h2 : l.getD 1 0 ≤ 20) (h3 : 1 ≤ l.getD 2 0) (h4 : l.getD 2 0 ≤ 20)
    (h5 : l.getD 3 0 ≤ 15) (off : b.svcOn 1 = false) : (b.opRplCfg l).kept = ⟨(b.withSvc { b.svc with rpl :=
      { b.svc.rpl with
          inst := l.getD 0 0, imin := l.getD 1 0, doublings := l.getD 2 0, redundancy := l.getD 3 0, minRank := fldLE l 4 2, maxRank := fldLE l 6 2,
          life := l.getD 8 0, unit := fldLE l 10 2, dodag := slice l 16 16, set := true, grown := 0, due := [] } }).keepSvc, OK, []⟩ := by
  unfold Chip.opRplCfg
  dsimp only
  rw [if_neg (by omega), off]
  rfl

theorem Chip.opRplRoute_answers {n : Nat} {p : List Nat} (len : 4 ≤ l.length) (hn : n = fldLE l 0 4) (node : n < b.pat.nodeCount) (path : b.routePath n = some p) :
    b.opRplRoute l = ⟨b.named n, OK, [p.length, 0, 0, 0] ++ p.flatMap (fun n => leBytes n 4)⟩ := by
  subst hn
  unfold Chip.opRplRoute
  dsimp only
  rw [if_neg (by omega), path]
  rfl

theorem Chip.opRplRepair_raises (on : b.svcOn 1 = true) : b.opRplRepair.kept = ⟨(b.withSvc { b.svc with rpl :=
    { b.svc.rpl with version := (b.svc.rpl.version + 1) % 256, grown := 0 } }).keepSvc, OK, [(b.svc.rpl.version + 1) % 256]⟩ := by
  unfold Chip.opRplRepair
  rw [on]
  rfl

theorem Chip.opRegRead_reads {r : Regn} (found : b.svc.regs.find? (fun r => r.addr == beNat (slice l 0 16)) = some r) : b.opRegRead l =
    ⟨b, OK, leBytes r.node 4 ++ beBytes r.rovr 8 ++ [r.tid, 0, 0, 0] ++ leBytes ((r.deadline - b.nowNs) / 60000000000) 4⟩ := by
  unfold Chip.opRegRead
  rw [found]
  rfl

theorem Chip.opRegRemove_removes {a : Nat} (ha : a = beNat (slice l 0 16)) (found : b.svc.regs.any (fun r => r.addr == a) = true) :
    b.opRegRemove l = ⟨b.regDrop a, OK, []⟩ := by
  subst ha
  exact if_pos found

/-! ### Images -/

theorem Chip.opImgWrite_appends {i size n : Nat} {old : ImgSlot} (hi : i = l.headD 0) (hsize : size = fldLE l 4 4) (hn : n = fldLE l 12 4)
    (hold : old = (if bit (l.getD 1 0) 0 then { size := size, data := [] } else kgetD b.svc.slots i { size := size, data := [] }))
    (slot : i ≤ 7) (h1 : 1 ≤ n) (h2 : n ≤ 4064) (h3 : l.length = 16 + n) (h4 : fldLE l 8 4 + n ≤ size) (h5 : size ≤ b.slotOctets)
    (h6 : fldLE l 8 4 = old.data.length) (h7 : old.size = size) (idle : b.slotBusy i = false) : b.opImgWrite l =
      ⟨b.withSvc { b.svc with slots := kput b.svc.slots i { size := size, data := old.data ++ l.drop 16 } }, OK, leBytes (old.data.length + n) 4⟩ := by
  subst hi hsize hn
  unfold Chip.opImgWrite
  dsimp only
  rw [← hold, if_neg (by omega), if_neg (by omega), if_neg (by rw [h6, h7]; simp), idle, if_neg (by decide)]
  have octets : (old.data ++ l.drop 16).length = old.data.length + fldLE l 12 4 := by
    rw [List.length_append, List.length_drop, h3]
    omega
  rw [octets]
  rfl

theorem Chip.opImgClose_reads {i : Nat} {x : ImgSlot} (hi : i = l.headD 0) (len : 48 ≤ l.length) (slot : i ≤ 7) (found : kget b.svc.slots i = some x)
    (idle : b.slotBusy i = false) (full : x.data.length = x.size) : b.opImgClose l = if sha256 x.data ≠ slice l 16 32 then ⟨b, AUTH_FAIL, []⟩
      else ⟨b.withSvc { b.svc with slots := kput b.svc.slots i (
        { size := x.size, data := x.data, closed := true, imageId := fldLE l 4 4, version := fldLE l 8 4 } : ImgSlot) }, OK, []⟩ := by
  subst hi
  unfold Chip.opImgClose
  dsimp only
  rw [if_neg (by omega), found, idle]
  dsimp only
  rw [if_neg (by simp [full])]
  rfl

theorem Chip.opImgErase_erases (given : l ≠ []) (slot : l.headD 0 ≤ 7) (idle : b.slotBusy (l.headD 0) = false) :
    b.opImgErase l = ⟨b.withSvc { b.svc with slots := kdel b.svc.slots (l.headD 0) }, OK, []⟩ := by
  unfold Chip.opImgErase
  dsimp only
  rw [if_neg (List.given_low given slot), idle]
  rfl

/-! ### Campaigns -/

theorem Chip.opCampStatus_none (given : l ≠ []) (low : l.headD 0 ≤ 3) (free : kget b.svc.camps (l.headD 0) = none) :
    b.opCampStatus l = ⟨b, OK, List.replicate 18 0⟩ := by
  unfold Chip.opCampStatus
  rw [if_neg (List.given_low given low), free]
  rfl

theorem Chip.opCampStatus_shows {x : Camp} (given : l ≠ []) (low : l.headD 0 ≤ 3) (found : kget b.svc.camps (l.headD 0) = some x) :
    b.opCampStatus l = ⟨b, OK, [x.phase, x.round, x.status, 0] ++ leBytes (x.targets.filter (fun y => y.2 == 1)).length 4 ++
      leBytes (x.targets.filter (fun y => y.2 == 2)).length 4 ++ leBytes (x.targets.filter (fun y => y.2 == 0 || y.2 == 3)).length 4 ++
      leBytes x.setSize 2⟩ := by
  unfold Chip.opCampStatus
  rw [if_neg (List.given_low given low), found]
  rfl

theorem Chip.opCampStop_stops {x : Camp} (given : l ≠ []) (low : l.headD 0 ≤ 3) (found : kget b.svc.camps (l.headD 0) = some x) (on : x.on = true) :
    b.opCampStop l = ⟨b.campEnd (l.headD 0) ABORTED, OK, []⟩ := by
  unfold Chip.opCampStop
  dsimp only
  rw [if_neg (List.given_low given low), found, if_neg (by simp [on])]
  rfl

/-- A campaign that is stopped keeps its nodes' states. -/
theorem Chip.campEnd_aborts {k : Nat} {x : Camp} (found : kget b.svc.camps k = some x) (on : x.on = true) :
    kget (b.campEnd k ABORTED).svc.camps k = some { x with phase := 3, status := ABORTED } := by
  have states : x.targets.map (fun t => (t.1, if t.2 = 0 ∧ ABORTED = OK then 3 else t.2)) = x.targets := by
    conv_rhs => rw [← List.map_id x.targets]
    refine List.map_congr_left fun t _ => ?_
    rw [if_neg (fun h => absurd h.2 (by decide))]
    rfl
  unfold Chip.campEnd
  rw [found]
  dsimp only
  rw [if_neg (by simp [on]), (Chip.raise_only _ _ _ _).svc (by decide), states]
  exact kget_kput_same _ _ _

theorem Chip.opCampResult_packs {x : Camp} (len : 8 ≤ l.length) (low : l.headD 0 ≤ 3) (first : fldLE l 4 4 % 1024 = 0)
    (found : kget b.svc.camps (l.headD 0) = some x) (phase : x.phase ≠ 0) : b.opCampResult l = ⟨b, OK, packStates x.targets (fldLE l 4 4)⟩ := by
  unfold Chip.opCampResult
  dsimp only
  rw [if_neg (by omega), found]
  exact if_neg phase

/-- The nodes of a campaign: those the request lists, or every linked one of the band. -/
def Chip.campNodes (b : Chip) (l : List Nat) : List Nat :=
  if fldLE l 10 2 = 0 then (b.mac.nodes.filter (fun e => cx e.2 Cx.BAND == l.getD 2 0 && (cx e.2 Cx.STATE == 3 || cx e.2 Cx.STATE == 4))).map (·.1)
  else (List.range (fldLE l 10 2)).map (fun j => fldLE l (16 + 4 * j) 4)

theorem Chip.opCampStart_starts {x : ImgSlot} {len : Nat} (size : l.length = 16 + 4 * fldLE l 10 2) (h0 : l.getD 0 0 ≤ 3) (h1 : l.getD 1 0 ≤ 7)
    (h2 : l.getD 2 0 ≤ 2) (mode : b.modeOn (l.getD 2 0) (l.getD 3 0) = true) (mcs : mcsOk (l.getD 2 0) (l.getD 3 0) (l.getD 4 0) = true)
    (h3 : 64 ≤ fldLE l 6 2) (h4 : fldLE l 6 2 ≤ 1024) (h5 : fldLE l 6 2 % 16 = 0) (h6 : 1 ≤ l.getD 8 0) (h7 : l.getD 8 0 ≤ 32) (h8 : 1 ≤ l.getD 9 0)
    (h9 : l.getD 9 0 ≤ 16) (count : fldLE l 10 2 ≤ 1016) (nodes : ∀ j, j < fldLE l 10 2 → fldLE l (16 + 4 * j) 4 < b.pat.nodeCount)
    (idle : ∀ c : Camp, kget b.svc.camps (l.getD 0 0) = some c → c.on = false) (slot : kget b.svc.slots (l.getD 1 0) = some x) (closed : x.closed = true)
    (on : b.svcOn 3 = true) (cell : b.bcastCell (l.getD 2 0) = true)
    (hlen : len = fldLE l 6 2 + 37 + fcsLen (l.getD 2 0) + micLen (b.sealLevel .bcast).1)
    (fits : b.r Reg.SCH_TX_OFFSET_US + airUs (l.getD 2 0) (l.getD 3 0) (l.getD 4 0) false 8 len + 100 ≤ b.slotUs)
    (short : len ≤ (if l.getD 2 0 = 2 then 127 else b.pat.maxPsdu)) : b.opCampStart l =
      ⟨b.putCamp (l.getD 0 0)
        { phase := 1, slot := l.getD 1 0, band := l.getD 2 0, mode := l.getD 3 0, mcs := l.getD 4 0, block := fldLE l 6 2, maxRounds := l.getD 8 0,
          statusSf := l.getD 9 0, round := 1, status := 0, targets := (b.campNodes l).map (fun n => (n, 0)), left := List.range (cdiv x.size (fldLE l 6 2)),
          setSize := cdiv x.size (fldLE l 6 2) }, OK, leBytes (cdiv x.size (fldLE l 6 2)) 2 ++ [0, 0] ++ leBytes (b.campNodes l).length 4⟩ := by
  have named : ((List.range (fldLE l 10 2)).map (fun i => fldLE l (16 + 4 * i) 4)).any (fun n => decide (b.pat.nodeCount ≤ n)) = false := by
    rw [List.any_eq_false]
    intro n hn
    obtain ⟨j, hj, rfl⟩ := List.mem_map.mp hn
    rw [decide_eq_true_eq, Nat.not_le]
    exact nodes j (List.mem_range.mp hj)
  have free : (kget b.svc.camps (l.getD 0 0)).any (fun (c : Camp) => c.on) = false := by
    cases camp : kget b.svc.camps (l.getD 0 0) with
    | none => rfl
    | some c => exact idle c camp
  unfold Chip.opCampStart
  dsimp only
  rw [if_neg (by rw [mode, mcs, named]; simp only [Bool.not_true, Bool.false_eq_true, false_or, or_false]; omega), if_neg (by omega), free, slot, on, cell, ← hlen]
  rw [if_neg (by simp [closed]), if_neg (by decide), if_neg (by omega), List.length_map]
  simp only [kgetD, slot, Option.getD_some]
  rfl
end

end Sys2Proof.Machine
end

section
/-!
SUPPORT. The rows of the mailbox: tickets, and operations that need more than a second (R464).
-/
namespace Sys2Proof.Machine

/-- A command that names a node, and completes after its context is fetched. -/
theorem Chip.OnlyBlock.named {b c : Chip} {n base : Nat} (h : Chip.OnlyBlock (b.named n) c base) : Chip.OnlyNamed b c base := by
  obtain ⟨same, kept⟩ := h
  have only : Chip.Only [.cmdIrq, .ntc, .out] (blockKey base) (b.named n) c := by
    refine ⟨same, fun f hf => kept f (fun e => hf (.inl e)) ?_⟩
    unfold blockKey offs at hf
    omega
  have mac : c.mac = { b.mac with cache := c.mac.cache } := by
    rw [only.mac (by decide)]
    exact b.named_mac n
  exact (((b.named_only n).mono (by decide) fun _ => .inr).trans (only.mono (by decide) fun _ => .inl)).onlyNamed mac

/-- The operation of each number. -/
theorem Chip.opRun_eq (b : Chip) (l : List Nat) : b.opRun 0x01 l = b.opCtrl l ∧ b.opRun 0x02 l = (b.opCtxSet l).kept ∧ b.opRun 0x03 l = b.opCtxRead l ∧
    b.opRun 0x10 l = (b.opRplCfg l).kept ∧ b.opRun 0x11 l = b.opRplRoute l ∧ b.opRun 0x12 l = b.opRplRepair.kept ∧
    b.opRun 0x20 l = b.opRegRead l ∧ b.opRun 0x21 l = b.opRegRemove l ∧ b.opRun 0x30 l = b.opImgWrite l ∧ b.opRun 0x31 l = b.opImgClose l ∧
    b.opRun 0x32 l = b.opImgErase l ∧ b.opRun 0x38 l = b.opCampStart l ∧ b.opRun 0x39 l = b.opCampStatus l ∧
    b.opRun 0x3A l = b.opCampStop l ∧ b.opRun 0x3B l = b.opCampResult l :=
  ⟨rfl, rfl, rfl, rfl, rfl, rfl, rfl, rfl, rfl, rfl, rfl, rfl, rfl, rfl, rfl⟩

/-- The row of an operation submits it; no such row is POLL. -/
theorem mailRows_row {irq late : Bool} {op : Nat} {w : Instr} (row : (op, w) ∈ mailRows irq late) :
    op ≠ 0xF0 ∧ ∀ s, exec w s = .next (s.svcSubmit irq (some op) late false) := by
  simp only [mailRows, List.mem_cons, Prod.mk.injEq, List.not_mem_nil, or_false] at row
  rcases row with ⟨rfl, rfl⟩ | ⟨rfl, rfl⟩ | ⟨rfl, rfl⟩ | ⟨rfl, rfl⟩ | ⟨rfl, rfl⟩ | ⟨rfl, rfl⟩ | ⟨rfl, rfl⟩ | ⟨rfl, rfl⟩ | ⟨rfl, rfl⟩ | ⟨rfl, rfl⟩ |
    ⟨rfl, rfl⟩ | ⟨rfl, rfl⟩ | ⟨rfl, rfl⟩ | ⟨rfl, rfl⟩ | ⟨rfl, rfl⟩ <;>
    exact ⟨by decide, fun _ => rfl⟩

section
variable {s : State} {l : List Nat} {irq late fin : Bool} {op : Nat} {w : Instr}

/-- With eight tickets open an operation that needs more than a second is refused. -/
theorem Runs.crowded (row : exec w s = .next (s.svcSubmit irq (some op) true fin)) (poll : op ≠ 0xF0) (asks : s.Asks op l) (open' : 8 ≤ s.b.svc.tickets.length) :
    Runs w s (fun t => s.Replies t s.b op NO_RESOURCE []) := by
  obtain ⟨sends, check⟩ := asks
  have taken := s.b.cmdAccept_taken irq
  refine Runs.replies row sends ?_ taken (by decide)
  rw [Chip.submit, taken.opCheck, check]
  dsimp only
  rw [if_neg poll, if_pos ⟨rfl, open'⟩]

/-- With a place for a ticket it has its effect, keeps its response, and stays BUSY. -/
theorem Runs.lasts {o : OpOut} (row : exec w s = .next (s.svcSubmit irq (some op) true fin)) (poll : op ≠ 0xF0) (asks : s.Asks op l)
    (room : s.b.svc.tickets.length < 8) (out : o = s.b.opRun op l) : Runs w s (fun t => t.mem = s.mem ∧ t.b.t (cbBUSY cbSVC) = true ∧
      Chip.OnlyBlock (o.b.withSvc { o.b.svc with running := some (respRec op o.status (fldLE (s.mem.read reqBuf (s.b.arg cbSVC 0)) 4 4) 0 o.body) }) t.b cbSVC) := by
  obtain ⟨sends, check⟩ := asks
  obtain ⟨-, -, -, -, -, -, body⟩ := id sends
  have taken := s.b.cmdAccept_taken irq
  obtain ⟨status, same, run, -⟩ := taken.opRun op l
  rw [← out] at status same run
  have kept := run.modSvc fun v => { v with running := some (respRec op o.status (fldLE (s.mem.read reqBuf (s.b.arg cbSVC 0)) 4 4) 0 o.body) }
  have full : ¬ (true = true ∧ 8 ≤ (s.b.cmdAccept cbSVC irq).svc.tickets.length) := fun h => absurd h.2 (Nat.not_le.mpr room)
  have eq := State.svcSubmit_stays (op := op) (irq := irq) (late := true) (fin := fin) sends (y := ((s.b.cmdAccept cbSVC irq).opRun op l).b.modSvc fun v =>
      { v with running := some (respRec op o.status (fldLE (s.mem.read reqBuf (s.b.arg cbSVC 0)) 4 4) 0 o.body) }) (by
    rw [Chip.submit, taken.opCheck, check]
    dsimp only
    rw [if_neg poll, if_neg full, ← body, status, same]
    rfl)
  obtain ⟨_, _, -, -, busy⟩ := id kept
  exact ⟨_, row.trans (congrArg _ eq), rfl, busy, kept.onlyBlock⟩

/-- POLL of a ticket. -/
theorem Runs.polls {k : Nat} {x : Ticket} (asks : s.Asks 0xF0 l) (hk : k = fldLE (s.mem.read reqBuf (s.b.arg cbSVC 0)) 12 4) (found : kget s.b.svc.tickets k = some x) :
    Runs (.svcPoll irq true) s (fun t => Chip.OnlyBlock (s.b.withSvc { s.b.svc with tickets := kdel s.b.svc.tickets k }) t.b cbSVC ∧
      t.mem = s.mem.write rspBuf (respRec 0xF0 (respStatus x.resp) (fldLE (s.mem.read reqBuf (s.b.arg cbSVC 0)) 4 4) k (x.resp.drop 16)) ∧
      t.b.Completed cbSVC (respStatus x.resp % 2 ^ 8) [16 + (x.resp.drop 16).length]) ∧
    Runs (.svcPoll irq false) s (fun t => Chip.OnlyBlock s.b t.b cbSVC ∧
      t.mem = s.mem.write rspBuf (respRec 0xF0 BUSY (fldLE (s.mem.read reqBuf (s.b.arg cbSVC 0)) 4 4) k []) ∧ t.b.Completed cbSVC BUSY [16]) := by
  subst hk
  obtain ⟨sends, check⟩ := asks
  have taken := s.b.cmdAccept_taken irq
  have submitted (fin : Bool) : (s.b.cmdAccept cbSVC irq).submit 0xF0 (s.mem.read reqBuf (s.b.arg cbSVC 0)) false fin =
      (s.b.cmdAccept cbSVC irq).opPoll (s.mem.read reqBuf (s.b.arg cbSVC 0)) fin := by
    rw [Chip.submit, taken.opCheck, check]
    rfl
  have polled (fin : Bool) : (s.b.cmdAccept cbSVC irq).opPoll (s.mem.read reqBuf (s.b.arg cbSVC 0)) fin = if fin then
      ⟨(s.b.cmdAccept cbSVC irq).modSvc (fun v => { v with tickets := kdel v.tickets (fldLE (s.mem.read reqBuf (s.b.arg cbSVC 0)) 12 4) }),
        some (respRec 0xF0 (respStatus x.resp) (fldLE (s.mem.read reqBuf (s.b.arg cbSVC 0)) 4 4) (fldLE (s.mem.read reqBuf (s.b.arg cbSVC 0)) 12 4) (x.resp.drop 16))⟩
      else ⟨s.b.cmdAccept cbSVC irq, some (respRec 0xF0 BUSY (fldLE (s.mem.read reqBuf (s.b.arg cbSVC 0)) 4 4)
        (fldLE (s.mem.read reqBuf (s.b.arg cbSVC 0)) 12 4) [])⟩ := by
    rw [Chip.opPoll, taken.svc, found]
  constructor
  · refine (Runs.responds (op := 0xF0) (late := false) (irq := irq) rfl sends ((submitted true).trans (polled true)) (taken.modSvc _)).imp fun t h => ?_
    obtain ⟨mem, completed, only⟩ := h
    exact ⟨only, mem, completed⟩
  · refine (Runs.responds (op := 0xF0) (late := false) (irq := irq) rfl sends ((submitted false).trans (polled false)) taken).imp fun t h => ?_
    obtain ⟨mem, completed, only⟩ := h
    exact ⟨only, mem, completed⟩

/-- POLL without a ticket. -/
theorem Runs.pollsNone (asks : s.Asks 0xF0 l) (absent : kget s.b.svc.tickets (fldLE (s.mem.read reqBuf (s.b.arg cbSVC 0)) 12 4) = none) :
    Runs (.svcPoll irq fin) s (fun t => s.Replies t s.b 0xF0 NOT_FOUND []) := by
  obtain ⟨sends, check⟩ := asks
  have taken := s.b.cmdAccept_taken irq
  refine Runs.replies (op := 0xF0) (late := false) (irq := irq) (fin := fin) rfl sends ?_ taken (by decide)
  rw [Chip.submit, taken.opCheck, check]
  dsimp only
  rw [if_pos rfl, Chip.opPoll, taken.svc, absent]

/-- The second that a SUBMIT may take is over. -/
theorem Runs.timesOut {r : List Nat} (running : s.b.svc.running = some r) : Runs .mailboxTimeout s (fun t => Chip.OnlyBlock (s.b.withSvc { s.b.svc with
      running := none
      tickets := kput s.b.svc.tickets s.b.svc.nextTicket { resp := r, doneNs := s.b.nowNs }
      nextTicket := if s.b.svc.nextTicket + 1 < 2 ^ 32 then s.b.svc.nextTicket + 1 else 1 }) t.b cbSVC ∧
    t.mem = s.mem.write rspBuf (respRec (fldLE r 0 2) BUSY (fldLE r 4 4) s.b.svc.nextTicket []) ∧ t.b.Completed cbSVC BUSY [16]) := by
  let x := s.b.withSvc { s.b.svc with
      running := none
      tickets := kput s.b.svc.tickets s.b.svc.nextTicket { resp := r, doneNs := s.b.nowNs }
      nextTicket := if s.b.svc.nextTicket + 1 < 2 ^ 32 then s.b.svc.nextTicket + 1 else 1 }
  have eq : s.svcTimeout = { s with mem := s.mem.write rspBuf (respRec (fldLE r 0 2) BUSY (fldLE r 4 4) s.b.svc.nextTicket []),
                                    b := x.cmdFinish cbSVC BUSY [16] } := by
    rw [State.svcTimeout, running]
    rfl
  exact ⟨_, congrArg Host.Outcome.next eq, (x.cmdFinish_only cbSVC BUSY [16]).onlyBlock, rfl, x.svcFinish_completed BUSY [16]⟩
end

end Sys2Proof.Machine

open Sys2Proof Sys2Proof.Machine

/-- Settles O54: an operation answers on the block with the command taken as it would without, and each has its own effect. -/
theorem mailboxOperationsAnswer : Obligations.MailboxOperationsAnswer := by
  unfold Obligations.MailboxOperationsAnswer
  intro s irq l
  obtain ⟨ctrl, ctxSet, ctxRead, rplCfg, rplRoute, rplRepair, regRead, regRemove, imgWrite, imgClose, imgErase, campStart, campStatus, campStop, campResult⟩ := s.b.opRun_eq l
  refine ⟨fun op w late row => ?_, fun m v asks hm len mask set => ?_, fun i asks hi len low bits => ?_, fun x asks given low hx => ?_,
    fun asks len h1 h2 h3 h4 h5 off => ?_, fun n p asks len hn node path => ?_, fun v asks on hv => ?_, fun r asks found => ?_, fun a asks ha found => ?_,
    fun i size n old asks hi hsize hn hold _ slot h1 h2 h3 h4 h5 h6 h7 idle => ?_, fun i x asks hi len slot found idle full => ?_,
    fun asks given slot idle => ?_, ?_, fun k hk low => ?_, fun req k x asks hreq hk found => ?_, fun fin asks absent => Runs.pollsNone asks absent, fun idle => ?_,
    fun r running => Runs.timesOut running, fun k x found past => ?_, fun k open' => ?_⟩
  · obtain ⟨poll, run⟩ := mailRows_row row
    refine ⟨fun c sends check => Runs.refused (run s) sends check, fun started safe idle bad => Runs.badLength (run s) started safe idle bad,
      fun hlate asks open' => ?_, fun o hlate asks room out => ?_, fun o hlate asks out => ?_⟩
    · subst hlate
      exact Runs.crowded (run s) poll asks open'
    · subst hlate
      exact Runs.lasts (run s) poll asks room out
    · subst hlate
      exact Runs.operates (run s) poll asks out.symm
  · refine (Runs.operates (w := .svcCtrl irq false) (irq := irq) (op := 0x01) (fin := false) rfl (by decide) asks (ctrl.trans (Chip.opCtrl_sets hm len mask set))).imp fun t replies => ⟨?_, replies⟩
    obtain ⟨-, -, kept⟩ := replies
    exact (kept Reg.SVC_RUNNING (by decide) (.inr (by decide))).trans (Chip.setRunning_running _ _)
  · have step := Runs.operates (w := .svcCtxSet irq false) (irq := irq) (op := 0x02) (fin := false) rfl (by decide) asks (ctxSet.trans (Chip.opCtxSet_sets hi len low bits))
    exact step
  · have step := Runs.operates (w := .svcCtxRead irq false) (irq := irq) (op := 0x03) (fin := false) rfl (by decide) asks (ctxRead.trans (Chip.opCtxRead_reads given low hx))
    exact step
  · have step := Runs.operates (w := .rplCfg irq false) (irq := irq) (op := 0x10) (fin := false) rfl (by decide) asks (rplCfg.trans (Chip.opRplCfg_sets len h1 h2 h3 h4 h5 off))
    exact step
  · exact (Runs.operates (w := .rplRoute irq false) (irq := irq) (op := 0x11) (fin := false) rfl (by decide) asks (rplRoute.trans (Chip.opRplRoute_answers len hn node path))).imp fun t ⟨answers, only⟩ => ⟨Chip.OnlyBlock.named only, answers⟩
  · subst hv
    have step := Runs.operates (w := .rplRepair irq false) (irq := irq) (op := 0x12) (fin := false) rfl (by decide) asks (rplRepair.trans (Chip.opRplRepair_raises on))
    exact step
  · have step := Runs.operates (w := .regRead irq false) (irq := irq) (op := 0x20) (fin := false) rfl (by decide) asks (regRead.trans (Chip.opRegRead_reads found))
    exact step
  · refine (Runs.operates (w := .regRemove irq false) (irq := irq) (op := 0x21) (fin := false) rfl (by decide) asks (regRemove.trans (Chip.opRegRemove_removes ha found))).imp fun t replies => ⟨?_, replies⟩
    obtain ⟨-, same, -⟩ := replies
    rw [same]
    exact (s.b.regDrop_seam a).2
  · have step := Runs.operates (w := .imgWrite irq false) (irq := irq) (op := 0x30) (fin := false) rfl (by decide) asks (imgWrite.trans (Chip.opImgWrite_appends hi hsize hn hold slot h1 h2 h3 h4 h5 h6 h7 idle))
    exact step
  · have reads := Chip.opImgClose_reads hi len slot found idle full
    refine ⟨fun good => ?_, fun bad => ?_⟩
    · rw [if_neg (not_not.mpr good)] at reads
      have step := Runs.operates (w := .imgClose irq false) (irq := irq) (op := 0x31) (fin := false) rfl (by decide) asks (imgClose.trans reads)
      exact step
    · rw [if_pos bad] at reads
      have step := Runs.operates (w := .imgClose irq false) (irq := irq) (op := 0x31) (fin := false) rfl (by decide) asks (imgClose.trans reads)
      exact step
  · have step := Runs.operates (w := .imgErase irq false) (irq := irq) (op := 0x32) (fin := false) rfl (by decide) asks (imgErase.trans (Chip.opImgErase_erases given slot idle))
    exact step
  · rintro k i d m mcs blk rounds sf cnt len total x targets asks rfl rfl rfl rfl rfl rfl rfl rfl rfl size h0 h1 h2 mode hmcs h3 h4 h5 h6 h7 h8 h9 count nodes
      idle slot closed on cell hlen fits short htotal htargets
    subst htotal
    have same : targets = s.b.campNodes l := htargets
    subst same
    have step := Runs.operates (w := .campStart irq false) (irq := irq) (op := 0x38) (fin := false) rfl (by decide) asks
        (campStart.trans (Chip.opCampStart_starts size h0 h1 h2 mode hmcs h3 h4 h5 h6 h7 h8 h9 count nodes idle slot closed on cell hlen fits short))
    exact step
  · subst hk
    refine ⟨fun asks given free => ?_, fun c found => ⟨fun asks given => ?_, fun asks given on => ?_, fun asks len first phase => ?_⟩⟩
    · have step := Runs.operates (w := .campStatus irq false) (irq := irq) (op := 0x39) (fin := false) rfl (by decide) asks (campStatus.trans (Chip.opCampStatus_none given low free))
      exact step
    · have step := Runs.operates (w := .campStatus irq false) (irq := irq) (op := 0x39) (fin := false) rfl (by decide) asks (campStatus.trans (Chip.opCampStatus_shows given low found))
      exact step
    · refine (Runs.operates (w := .campStop irq false) (irq := irq) (op := 0x3A) (fin := false) rfl (by decide) asks (campStop.trans (Chip.opCampStop_stops given low found on))).imp fun t replies => ⟨replies, ?_⟩
      obtain ⟨-, same, -⟩ := replies
      rw [same]
      exact Chip.campEnd_aborts found on
    · have step := Runs.operates (w := .campResult irq false) (irq := irq) (op := 0x3B) (fin := false) rfl (by decide) asks (campResult.trans (Chip.opCampResult_packs len low first found phase))
      exact step
  · subst hreq
    exact Runs.polls asks hk found
  · rw [exec_mailboxTimeout, execMailboxTimeout, State.svcTimeout, idle]
  · refine ⟨_, rfl, rfl, ?_⟩
    unfold Chip.ticketExpiry
    dsimp only
    rw [found]
    exact if_pos past
  · have stays : s.b.ticketExpiry k = s.b := by
      unfold Chip.ticketExpiry
      cases found : kget s.b.svc.tickets k with
      | none => rfl
      | some x => exact if_neg (Nat.not_le.mpr (open' x found))
    rw [exec_ticketExpiry, execTicketExpiry, State.on_eq, stays]
end
